-- ==== Sys2Proof/Word.lean ====
section
/-! DEFINITION. Words, stamps and the plainest arithmetic of the Ocson 4816: two's complement of a
stated width, the bit fields of a register, byte order, rounding, and sparse tables. -/

namespace Sys2Proof

/-- A 32-bit word of the cyclic program (R227). -/
abbrev Word := BitVec 32

/-- A byte of the configuration flash. -/
abbrev Byte := BitVec 8

/-- A stamp of R11, counted in sixteenths of an FCLK cycle; 64 bits when it is read. -/
abbrev Stamp := Nat

/-- One FCLK cycle in sixteenths (R11). -/
def fclk16 : Nat := 16

/-- Sixteenths of an FCLK cycle in one microsecond: 400 cycles (R11). -/
def us16 : Nat := 6400

/-- Sixteenths of an FCLK cycle in one millisecond. -/
def ms16 : Nat := 6400000

/-- The low `w` bits of `n`. -/
def trunc (w n : Nat) : Nat := n % 2 ^ w

/-- The value that the low `w` bits of `n` hold in two's complement. -/
def toInt (w n : Nat) : Int :=
  let m := n % 2 ^ w
  if 2 * m < 2 ^ w then (m : Int) else (m : Int) - (2 ^ w : Nat)

/-- The `w`-bit two's complement pattern of `i`. -/
def ofInt (w : Nat) (i : Int) : Nat := (i % ((2 ^ w : Nat) : Int)).toNat

/-- The bits `lo + w - 1 .. lo` of `n`. -/
def bits (n lo w : Nat) : Nat := n / 2 ^ lo % 2 ^ w

/-- Bit `i` of `n`. -/
def bit (n i : Nat) : Bool := n / 2 ^ i % 2 == 1

/-- `n` with the bits `lo + w - 1 .. lo` replaced by the low `w` bits of `v`. -/
def setBits (n lo w v : Nat) : Nat :=
  n - bits n lo w * 2 ^ lo + v % 2 ^ w * 2 ^ lo

/-- One or zero. -/
def b2n (b : Bool) : Nat := if b then 1 else 0

/-- The largest and least value of a signed field of `w` bits. -/
def maxS (w : Nat) : Int := (2 ^ (w - 1) : Nat) - 1

/-- The least value of a signed field of `w` bits. -/
def minS (w : Nat) : Int := -((2 ^ (w - 1) : Nat) : Int)

/-- `i` held inside `lo .. hi`. -/
def clampI (lo hi i : Int) : Int := if i < lo then lo else if hi < i then hi else i

/-- `i` saturated to a signed field of `w` bits. -/
def satS (w : Nat) (i : Int) : Int := clampI (minS w) (maxS w) i

/-- `n` saturated to an unsigned field of `w` bits. -/
def satU (w n : Nat) : Nat := if n < 2 ^ w then n else 2 ^ w - 1

/-- The quotient rounded to nearest, halves rounded up (R512); `d` above 0. -/
def divHalfUp (n : Int) (d : Nat) : Int := (2 * n + d) / (2 * d)

/-- The quotient rounded to nearest, halves to even; `d` above 0. -/
def divHalfEven (n : Int) (d : Nat) : Int :=
  let q := n / d
  let r := n % d
  if 2 * r < d then q else if (d : Int) < 2 * r then q + 1 else if q % 2 = 0 then q else q + 1

/-- The quotient rounded to nearest, halves away from zero; `d` above 0. -/
def divHalfAway (n : Int) (d : Nat) : Int :=
  if 0 ≤ n then (2 * n + d) / (2 * d) else -((2 * -n + d) / (2 * d))

/-- A rational rounded to nearest, halves up. -/
def ratHalfUp (q : Rat) : Int := (q + 1 / 2).floor

/-- A rational rounded to nearest, halves to even. -/
def ratHalfEven (q : Rat) : Int := divHalfEven q.num q.den

/-- The integer part of a square root, by bisection over `fuel` bits. -/
def isqrtLoop : Nat → Nat → Nat → Nat
  | 0, _, acc => acc
  | fuel + 1, n, acc =>
    let t := acc + 2 ^ fuel
    isqrtLoop fuel n (if t * t ≤ n then t else acc)

/-- The largest integer whose square is at most `n`, for `n` below 2^256. -/
def isqrt (n : Nat) : Nat := isqrtLoop 128 n 0

/-! Byte order (R4). -/

/-- The `k` bytes of `n`, least significant first. -/
def leBytes : Nat → Nat → List Nat
  | 0, _ => []
  | k + 1, n => n % 256 :: leBytes k (n / 256)

/-- The number that `bs` spells, least significant byte first. -/
def leVal : List Nat → Nat
  | [] => 0
  | b :: bs => b % 256 + 256 * leVal bs

/-- The `k` bytes of `n` in network byte order. -/
def beBytes (k n : Nat) : List Nat := (leBytes k n).reverse

/-- The number that `bs` spells in network byte order. -/
def beVal (bs : List Nat) : Nat := leVal bs.reverse

/-- `k` zero bytes. -/
def zeros (k : Nat) : List Nat := List.replicate k 0

/-! Sparse tables: a sorted association list that lists no entry equal to the default, so that
equal tables are equal data. -/

/-- A table of `α` by number. -/
abbrev Tab (α : Type) := List (Nat × α)

/-- The entry for `k`, or the default `z`. -/
def Tab.get {α : Type} (z : α) : Tab α → Nat → α
  | [], _ => z
  | (j, a) :: t, k => if j = k then a else Tab.get z t k

/-- The table with `a` at `k`, whatever the default is; entries stay in rising order. -/
def Tab.put {α : Type} (k : Nat) (a : α) : Tab α → Tab α
  | [] => [(k, a)]
  | (j, b) :: t => if k < j then (k, a) :: (j, b) :: t else if j = k then (k, a) :: t
      else (j, b) :: Tab.put k a t

/-- The table without an entry for `k`. -/
def Tab.del {α : Type} (k : Nat) : Tab α → Tab α
  | [] => []
  | (j, b) :: t => if j = k then Tab.del k t else (j, b) :: Tab.del k t

/-- The table with `a` at `k`: the default is not listed. -/
def Tab.set {α : Type} [DecidableEq α] (z : α) (k : Nat) (a : α) (t : Tab α) : Tab α :=
  if a = z then Tab.del k t else Tab.put k a t

/-- Keys strictly rising from above `lo`. -/
def Tab.above {α : Type} (lo : Nat) : Tab α → Bool
  | [] => true
  | (j, _) :: t => decide (lo < j) && Tab.above j t

/-- Keys strictly rising. -/
def Tab.sorted {α : Type} : Tab α → Bool
  | [] => true
  | (j, _) :: t => Tab.above j t

/-- The first `n` numbers folded over a state. -/
def forN {σ : Type} : Nat → (Nat → σ → σ) → σ → σ
  | 0, _, s => s
  | n + 1, f, s => f n (forN n f s)

/-- `f` over the members of a list, first to last. -/
def forL {α σ : Type} (l : List α) (f : α → σ → σ) (s : σ) : σ := l.foldl (fun s a => f a s) s

/-- `f` when the condition holds. -/
def onlyIf {σ : Type} (c : Bool) (f : σ → σ) (s : σ) : σ := if c then f s else s

end Sys2Proof
end

