-- ==== Sys2Proof/Syntax.lean ====
section
/-! DEFINITION. The commands of spec/opcode_table.json, one constructor for each row, and the data
they carry. `dt` is the number of FCLK edges since the command before (log entry 1). A command of the
cyclic program carries the task and the fields of its word (R234) in place of `dt`: its time is that of
its engine. -/

namespace Sys2Proof

/-- What the straps, the pads and the self-test show at a start (R44, R495, R500, R39, R43): TEST_EN,
JTAG_EN, FUSE_PGM, PFAIL_N low at the end of step 1, a self-test fault beyond the spare rows, rows and
SRAM blocks repaired, which copies changed between their two reads (bit 0 A, bit 1 B), the nanoseconds from PWR_GOOD to the PLL's lock, the FCLK edges
from there to the end of step 6, and the levels of the general I/O balls and the feedback lines. -/
structure StartPins where
  testEn : Bool := false
  jtagEn : Bool := false
  fusePgm : Bool := false
  pfailLow : Bool := false
  bistFail : Bool := false
  rows : Nat := 0
  rams : Nat := 0
  reread : Nat := 0
  lockNs : Nat := 0
  bootEdges : Nat := 0
  gpio : Nat := 0
  lines : Nat := 0
  deriving DecidableEq, Repr

/-- The head of a service request (R323): source address and UDP port, session and request SEQ. -/
structure SvcHdr where
  addr : Nat := 0
  port : Nat := 0
  session : Nat := 0
  seq : Nat := 0
  deriving DecidableEq, Repr

/-- A hank request of R265. -/
structure HankReq where
  seq : Nat := 0
  code : Nat := 0
  recipe : Nat := 0
  step : Nat := 0
  tag : Nat := 0
  deriving DecidableEq, Repr

/-- A mirrored item (R453). -/
structure PairItem where
  stamp : Nat := 0
  item : Nat := 0
  index : Nat := 0
  body : List Nat := []
  deriving DecidableEq, Repr

/-- An effect that an activation holds until its wait (R88): a pick change (R71), a thread signal, a planned doff, a set that a
sequencer stages (R260), a write to the mailbox of a host variable or of a hank's requests, or an item for the pair link. -/
inductive Effect where
  | hvar (varId value : Nat)
  | request (hank : Nat) (req : HankReq)
  | item (i : PairItem)
  | retarget (pick : Nat) (arm : Bool) (target : Nat)
  | signal (thread : Nat)
  | doff (kind index : Nat)
  | stage
  deriving DecidableEq, Repr

/-- What a thread waits for when it commits (R88, R95). -/
inductive Wait where
  | wake
  | delay (tick ticks : Nat)
  deriving DecidableEq, Repr

/-- A Weft frame as received on a channel (R283, R285): whether its line code, length and checksums are good, its
header fields, its payload words, and its start-of-frame instant in sixteenths after the edge of the command (at most 0 as a rule). -/
structure WeftFrame where
  good : Bool := true
  cause : Nat := 0
  typ : Nat := 0
  source : Nat := 0
  slot : Nat := 0
  flags : Nat := 0
  epoch : Nat := 0
  cycle : Nat := 0
  sof : Int := 0
  stamp : Nat := 0
  words : List Nat := []
  deriving DecidableEq, Repr

/-- An Ethernet frame: destination and source MAC, 802.1Q tag (0 for none, else its 16-bit control field plus
one, whose bits [15:13] are PCP), EtherType and payload bytes; `bad`: a wrong FCS or
a code error. -/
structure EthFrame where
  dst : Nat := 0
  src : Nat := 0
  tag : Nat := 0
  etherType : Nat := 0
  bytes : List Nat := []
  bad : Bool := false
  deriving DecidableEq, Repr

/-- A PTP message (R317 to R321): the sender's port identity, sequence number, correctionField in units of 2^-16 ns, its timestamp in
ns of the PTP scale, the two-step flag, domain, logMessageInterval, the requesting port identity of a response, and the 30 bytes of an
Announce's body. -/
structure PtpMsg where
  identity : Nat := 0
  portNum : Nat := 0
  seq : Nat := 0
  correction : Int := 0
  origin : Nat := 0
  twoStep : Bool := false
  domain : Nat := 0
  interval : Int := 0
  reqIdentity : Nat := 0
  reqPort : Nat := 0
  data : List Nat := []
  deriving DecidableEq, Repr

/-- A CAN FD frame (R341 to R343). `sof` is the number of FCLK edges from its first dominant level to the edge on which it is valid;
`rtr` marks a classical remote frame. -/
structure CanFrame where
  ident : Nat := 0
  ext : Bool := false
  fd : Bool := true
  brs : Bool := false
  dlc : Nat := 0
  data : List Nat := []
  esi : Bool := false
  rtr : Bool := false
  sof : Nat := 0
  deriving DecidableEq, Repr

/-- How an engine's result for a ply differs from the law's, bit by bit of what R125 compares (log entry 66), and the placement epoch that
it carries (R128). -/
structure EvalResult where
  flip : Nat := 0
  epoch : Nat := 0
  deriving DecidableEq, Repr

/-- Result of probing the dies (R382): the dies that answer and agree, and the blocks per die and pages per block that their parameter
pages give. -/
structure ProbeResult where
  present : Nat := 0
  blocks : Nat := 0
  pages : Nat := 0
  deriving DecidableEq, Repr

/-- Result of a mount (R382, R384): a valid directory was found, every good block is erased, the torn pages found, and the blocks
that carry a factory mark, as die × 65536 + block. -/
structure MountResult where
  directory : Bool := true
  blank : Bool := false
  torn : Nat := 0
  marked : List Nat := []
  deriving DecidableEq, Repr

/-- The page or block that a NAND operation works on (R369, R380). -/
structure NandOp where
  die : Nat := 0
  block : Nat := 0
  page : Nat := 0
  skein : Nat := 0
  deriving DecidableEq, Repr

/-- What a page read found (R371). -/
inductive NandRead where
  | good (bitErrors : Nat)
  | retried (bitErrors : Nat)
  | recovered
  | lost
  deriving DecidableEq, Repr

/-- A fed channel's level at a test pulse (R430). -/
structure TpLevel where
  input : Nat := 0
  channel : Nat := 0
  level : Bool := false
  deriving DecidableEq, Repr

/-- A part of a snapshot (R457). -/
structure SnapPart where
  last : Bool := false
  bytes : List Nat := []
  deriving DecidableEq, Repr

/-- A role-control message (R455, R51): a join request with the SEQUENCE of the joining member's running image, a report of state and epoch,
and the exchange's reports. -/
inductive RoleMsg where
  | joinRequest (sequence : Nat)
  | roleReport (state epoch : Nat)
  | staged
  | failed (cause : Nat)
  deriving DecidableEq, Repr


/-- The commands: one constructor for each row of spec/opcode_table.json. -/
inductive Instr where
  /-- PWR_GOOD_RISE (R44). -/
  | pwrGoodRise (dt : Nat) (pins : StartPins)
  /-- PWR_GOOD_FALL (R500). -/
  | pwrGoodFall (dt : Nat)
  /-- PFAIL_N_FALL (R402). -/
  | pfailNFall (dt : Nat)
  /-- PFAIL_EVENT_FREEZE (R402). -/
  | pfailEventFreeze (dt : Nat)
  /-- POWER_FAIL_RETAIN_COPY (R402). -/
  | powerFailRetainCopy (dt : Nat)
  /-- PFAIL_RESTART (R402). -/
  | pfailRestart (dt : Nat) (pins : StartPins)
  /-- PFAIL_STEP1_WAIT_END (R500). -/
  | pfailStep1WaitEnd (dt : Nat) (pins : StartPins)
  /-- CLOCK_STOP (R501). -/
  | clockStop (dt : Nat)
  /-- SUPPLY_FAULT (R501). -/
  | supplyFault (dt : Nat) (rail : Nat)
  /-- MONITOR_RESTART (R501). -/
  | monitorRestart (dt : Nat) (pins : StartPins)
  /-- TJ_THRESHOLD (R501). -/
  | tjThreshold (dt : Nat) (tj : Int)
  /-- DEBUG_HALT (R192). -/
  | debugHalt (dt : Nat)
  /-- DEBUG_HALT_END (R245). -/
  | debugHaltEnd (dt : Nat)
  /-- SERVICE_OPEN (R324). -/
  | serviceOpen (dt : Nat) (h : SvcHdr) (level keepalive : Nat)
  /-- SERVICE_CLOSE (R324). -/
  | serviceClose (dt : Nat) (h : SvcHdr)
  /-- SERVICE_KEEPALIVE (R324). -/
  | serviceKeepalive (dt : Nat) (h : SvcHdr)
  /-- SESSION_KEEPALIVE_EXPIRY (R324). -/
  | sessionKeepaliveExpiry (dt : Nat) (slot : Nat)
  /-- SERVICE_READ (R326). -/
  | serviceRead (dt : Nat) (h : SvcHdr) (addr len : Nat)
  /-- READ_STRANDS (R326). -/
  | readStrands (dt : Nat) (h : SvcHdr) (ids : List Nat)
  /-- WRITE_HVAR (R229). -/
  | writeHvar (dt : Nat) (h : SvcHdr) (varId value : Nat)
  /-- CLEAR_W1C (R9). -/
  | clearW1c (dt : Nat) (h : SvcHdr) (addr mask : Nat)
  /-- PLY_STOPPED_CLEAR (R122). -/
  | plyStoppedClear (dt : Nat) (h : SvcHdr) (ply : Nat)
  /-- TASK_FAULT_CLEAR (R244). -/
  | taskFaultClear (dt : Nat) (h : SvcHdr) (task : Nat)
  /-- FB_FAULTY_CLEAR (R215). -/
  | fbFaultyClear (dt : Nat) (h : SvcHdr) (iface : Nat)
  /-- HANK_REQUEST (R265). -/
  | hankRequest (dt : Nat) (h : SvcHdr) (hank : Nat) (req : HankReq)
  /-- STREAM_ARM (R407). -/
  | streamArm (dt : Nat) (h : SvcHdr) (stream addr port : Nat)
  /-- STREAM_DISARM (R407). -/
  | streamDisarm (dt : Nat) (h : SvcHdr) (stream : Nat)
  /-- TRACE_ARM (R131). -/
  | traceArm (dt : Nat) (h : SvcHdr) (buffer : Nat)
  /-- TRACE_TRIGGER (R130). -/
  | traceTrigger (dt : Nat) (h : SvcHdr) (buffer : Nat)
  /-- TRACE_READ (R326). -/
  | traceRead (dt : Nat) (h : SvcHdr) (buffer first rows : Nat)
  /-- SHUTTLE_HOLD (R244). -/
  | shuttleHold (dt : Nat) (h : SvcHdr) (tasks : Nat) (bkpts : List Nat)
  /-- SHUTTLE_SINGLE_SCAN (R244). -/
  | shuttleSingleScan (dt : Nat) (h : SvcHdr) (tasks : Nat)
  /-- SHUTTLE_RESUME (R244). -/
  | shuttleResume (dt : Nat) (h : SvcHdr) (tasks : Nat)
  /-- IMAGE_TRANSFER (R51). -/
  | imageTransfer (dt : Nat) (h : SvcHdr) (offset : Nat) (bytes : List Nat)
  /-- IMAGE_COMMIT (R51). -/
  | imageCommit (dt : Nat) (h : SvcHdr) (sc : Nat)
  /-- IMAGE_ABORT (R51). -/
  | imageAbort (dt : Nat) (h : SvcHdr)
  /-- RESTART_COLD (R326). -/
  | restartCold (dt : Nat) (h : SvcHdr) (pins : StartPins)
  /-- RESTART_WARM (R326). -/
  | restartWarm (dt : Nat) (h : SvcHdr) (pins : StartPins)
  /-- ORDERLY_STOP (R49). -/
  | orderlyStop (dt : Nat) (h : SvcHdr)
  /-- ORDERLY_STOP_HOLD_WAIT_END (R49). -/
  | orderlyStopHoldWaitEnd (dt : Nat)
  /-- EVENT_READ (R401). -/
  | eventRead (dt : Nat) (h : SvcHdr) (first limit max sevMin : Nat)
  /-- SNAP_READ (R406). -/
  | snapRead (dt : Nat) (h : SvcHdr) (capture offset len : Nat)
  /-- FUSE_WRITE (R40). -/
  | fuseWrite (dt : Nat) (h : SvcHdr) (field value : Nat)
  /-- SERVICE_UNKNOWN_OPCODE (R327). -/
  | serviceUnknownOpcode (dt : Nat) (h : SvcHdr) (opcode : Nat)
  /-- EXCHANGE_TRANSFER_TIMEOUT (R51). -/
  | exchangeTransferTimeout (dt : Nat)
  /-- EXCHANGE_READBACK_DONE (R51). -/
  | exchangeReadbackDone (dt : Nat) (pins : StartPins)
  /-- EXCHANGE_STAGE_TIMEOUT (R51). -/
  | exchangeStageTimeout (dt : Nat)
  /-- PICK_FIRE (R67). -/
  | pickFire (dt : Nat) (pick : Nat) (sd : List (Nat × List Bool))
  /-- MEASURE_SAMPLE_PERIOD (R63). -/
  | measureSamplePeriod (dt : Nat) (measure : Nat)
  /-- MEASURE_LOST_TIMEOUT (R65). -/
  | measureLostTimeout (dt : Nat) (measure : Nat)
  /-- THREAD_DISPATCH (R93). -/
  | threadDispatch (dt : Nat) (core : Nat)
  /-- THREAD_WAIT_COMMIT (R88). -/
  | threadWaitCommit (dt : Nat) (core : Nat) (effects : List Effect) (wait : Wait)
  /-- TICK0_ADVANCE (R95). -/
  | tick0Advance (dt : Nat)
  /-- DELAY_EXPIRY (R95). -/
  | delayExpiry (dt : Nat) (thread : Nat)
  /-- SLICE_EXPIRY (R89). -/
  | sliceExpiry (dt : Nat) (core : Nat)
  /-- MAX_RUN_EXPIRY (R96). -/
  | maxRunExpiry (dt : Nat) (core : Nat)
  /-- SERVICE_SHARE_EXHAUSTED (R97). -/
  | serviceShareExhausted (dt : Nat)
  /-- SHARE_WINDOW_END (R97). -/
  | shareWindowEnd (dt : Nat)
  /-- CORE_LOCKSTEP_MISMATCH (R98). -/
  | coreLockstepMismatch (dt : Nat) (core : Nat)
  /-- PLY_EVAL_COMPLETE (R116). -/
  | plyEvalComplete (dt : Nat) (engine : Nat) (residueOk : Bool) (result : EvalResult)
  /-- PLY_PUBLISH (R111). -/
  | plyPublish (dt : Nat) (ply : Nat)
  /-- TRACE_COPY_COMPLETE (R131). -/
  | traceCopyComplete (dt : Nat) (buffer : Nat)
  /-- ENGINE_SELF_TEST (R126). -/
  | engineSelfTest (dt : Nat) (engine : Nat) (passed : Bool)
  /-- BRAKE_TIME_ELAPSED (R166). -/
  | brakeTimeElapsed (dt : Nat) (axis : Nat)
  /-- OVERCURRENT_TRIP (R177). -/
  | overcurrentTrip (dt : Nat) (channel : Nat) (bits : List Bool)
  /-- SD_STUCK (R178). -/
  | sdStuck (dt : Nat) (channel : Nat)
  /-- SD_CHANNEL_VALID (R175). -/
  | sdChannelValid (dt : Nat) (channel : Nat)
  /-- PWM_RELOAD (R190). -/
  | pwmReload (dt : Nat) (group : Nat)
  /-- PWM_COMPARE_MATCH (R186). -/
  | pwmCompareMatch (dt : Nat) (group : Nat)
  /-- DEAD_TIME_EXPIRY (R186). -/
  | deadTimeExpiry (dt : Nat) (pin : Nat)
  /-- READBACK_ERROR (R194). -/
  | readbackError (dt : Nat) (axis pair : Nat)
  /-- SHOOT_THROUGH (R194). -/
  | shootThrough (dt : Nat) (axis pair : Nat)
  /-- FB_LINE_EDGE (R56). -/
  | fbLineEdge (dt : Nat) (line : Nat) (level : Bool) (frac : Nat)
  /-- FB_LEVEL_ACCEPT (R207). -/
  | fbLevelAccept (dt : Nat) (line : Nat)
  /-- FB_ZERO_TIME (R213). -/
  | fbZeroTime (dt : Nat) (iface : Nat)
  /-- FB_ERR_RUN_RESET (R215). -/
  | fbErrRunReset (dt : Nat) (iface : Nat)
  /-- FB_ALARM_TIMEOUT (R215). -/
  | fbAlarmTimeout (dt : Nat) (iface : Nat)
  /-- SSI_READ_COMPLETE (R214). -/
  | ssiReadComplete (dt : Nat) (iface : Nat) (bits : List Bool)
  /-- GPIO_EDGE (R56). -/
  | gpioEdge (dt : Nat) (pin : Nat) (level : Bool) (frac : Nat)
  /-- WATCHDOG_EXPIRY (R226). -/
  | watchdogExpiry (dt : Nat) (task : Nat)
  /-- NOP (R235). -/
  | iNop (task rd ra x imm : Nat)
  /-- LD (R235). -/
  | iLd (task rd ra x imm : Nat)
  /-- LDT (R235). -/
  | iLdt (task rd ra x imm : Nat)
  /-- ST (R235). -/
  | iSt (task rd ra x imm : Nat)
  /-- STT (R235). -/
  | iStt (task rd ra x imm : Nat)
  /-- LDI (R235). -/
  | iLdi (task rd ra x imm : Nat)
  /-- MOV (R235). -/
  | iMov (task rd ra rb sub : Nat)
  /-- MOVT (R235). -/
  | iMovt (task rd ra rb sub : Nat)
  /-- ADD (R235). -/
  | iAdd (task rd ra rb sub : Nat)
  /-- SUB (R235). -/
  | iSub (task rd ra rb sub : Nat)
  /-- MUL (R235). -/
  | iMul (task rd ra rb sub : Nat)
  /-- DIV (R233). -/
  | iDiv (task rd ra rb sub : Nat)
  /-- MOD (R233). -/
  | iMod (task rd ra rb sub : Nat)
  /-- ADDI (R235). -/
  | iAddi (task rd ra x imm : Nat)
  /-- NEG (R235). -/
  | iNeg (task rd ra rb sub : Nat)
  /-- ABS (R235). -/
  | iAbs (task rd ra rb sub : Nat)
  /-- AND (R235). -/
  | iAnd (task rd ra rb sub : Nat)
  /-- OR (R235). -/
  | iOr (task rd ra rb sub : Nat)
  /-- XOR (R235). -/
  | iXor (task rd ra rb sub : Nat)
  /-- NOT (R235). -/
  | iNot (task rd ra rb sub : Nat)
  /-- SHL (R235). -/
  | iShl (task rd ra rb sub : Nat)
  /-- SHR (R235). -/
  | iShr (task rd ra rb sub : Nat)
  /-- BNOT (R235). -/
  | iBnot (task rd ra rb sub : Nat)
  /-- TOBOOL (R235). -/
  | iTobool (task rd ra rb sub : Nat)
  /-- CMP (R235). -/
  | iCmp (task rd ra rb sub : Nat)
  /-- CMPT (R235). -/
  | iCmpt (task rd ra rb sub : Nat)
  /-- CMPF (R235). -/
  | iCmpf (task rd ra rb sub : Nat)
  /-- SEL (R235). -/
  | iSel (task rd ra rb sub : Nat)
  /-- MIN (R235). -/
  | iMin (task rd ra rb sub : Nat)
  /-- MAX (R235). -/
  | iMax (task rd ra rb sub : Nat)
  /-- LIMIT (R235). -/
  | iLimit (task rd ra rb sub : Nat)
  /-- SAT16 (R235). -/
  | iSat16 (task rd ra rb sub : Nat)
  /-- FADD (R233). -/
  | iFadd (task rd ra rb sub : Nat)
  /-- FSUB (R233). -/
  | iFsub (task rd ra rb sub : Nat)
  /-- FMUL (R233). -/
  | iFmul (task rd ra rb sub : Nat)
  /-- FDIV (R233). -/
  | iFdiv (task rd ra rb sub : Nat)
  /-- FSQRT (R233). -/
  | iFsqrt (task rd ra rb sub : Nat)
  /-- FNEG (R235). -/
  | iFneg (task rd ra rb sub : Nat)
  /-- ITOF (R235). -/
  | iItof (task rd ra rb sub : Nat)
  /-- FTOI (R233). -/
  | iFtoi (task rd ra rb sub : Nat)
  /-- QTOF (R235). -/
  | iQtof (task rd ra rb sub : Nat)
  /-- FTOQ (R233). -/
  | iFtoq (task rd ra rb sub : Nat)
  /-- ADDT (R235). -/
  | iAddt (task rd ra rb sub : Nat)
  /-- SUBT (R235). -/
  | iSubt (task rd ra rb sub : Nat)
  /-- ITOT (R235). -/
  | iItot (task rd ra rb sub : Nat)
  /-- TTOI (R235). -/
  | iTtoi (task rd ra rb sub : Nat)
  /-- BR (R235). -/
  | iBr (task cond ra offset : Nat)
  /-- CALL (R235). -/
  | iCall (task cond ra offset : Nat)
  /-- RET (R235). -/
  | iRet (task rd ra x imm : Nat)
  /-- END (R223). -/
  | iEnd (task rd ra x imm : Nat)
  /-- POST (R236). -/
  | iPost (task rd ra x imm : Nat)
  /-- TON (R241). -/
  | iTon (task rd ra rb inst : Nat)
  /-- TOF (R241). -/
  | iTof (task rd ra rb inst : Nat)
  /-- TP (R241). -/
  | iTp (task rd ra rb inst : Nat)
  /-- CTU (R242). -/
  | iCtu (task rd ra rb inst : Nat)
  /-- CTD (R242). -/
  | iCtd (task rd ra rb inst : Nat)
  /-- CTUD (R242). -/
  | iCtud (task rd ra rb inst : Nat)
  /-- R_TRIG (R243). -/
  | iRtrig (task rd ra rb inst : Nat)
  /-- F_TRIG (R243). -/
  | iFtrig (task rd ra rb inst : Nat)
  /-- ILLEGAL_OPCODE (R238). -/
  | illegalOpcode (task word : Nat)
  /-- WEFT_FRAME_RX (R285). -/
  | weftFrameRx (dt : Nat) (channel : Nat) (frame : WeftFrame)
  /-- WEFT_FRAME_TX (R281). -/
  | weftFrameTx (dt : Nat) (slot : Nat)
  /-- WEFT_ASSEMBLY_CLOSE (R287). -/
  | weftAssemblyClose (dt : Nat) (slot : Nat)
  /-- WEFT_DELIVERY (R288). -/
  | weftDelivery (dt : Nat) (slot : Nat)
  /-- WEFT_CYCLE_END (R292). -/
  | weftCycleEnd (dt : Nat)
  /-- LISTEN_TIMEOUT (R297). -/
  | listenTimeout (dt : Nat)
  /-- COLDSTART_ECHO_DEADLINE (R299). -/
  | coldstartEchoDeadline (dt : Nat)
  /-- SYNC_LOST_RELISTEN (R297). -/
  | syncLostRelisten (dt : Nat)
  /-- REINT_TIMEOUT (R301). -/
  | reintTimeout (dt : Nat)
  /-- HEDDLE_MARK (R295). -/
  | heddleMark (dt : Nat) (slot : Nat) (cold : Bool)
  /-- HEDDLE_MARK_MISSING (R295). -/
  | heddleMarkMissing (dt : Nat)
  /-- HEDDLE_SPAN_END (R295). -/
  | heddleSpanEnd (dt : Nat) (running : Bool)
  /-- GDCLK_LOST (R295). -/
  | gdclkLost (dt : Nat)
  /-- GDCLK_RETURN (R295). -/
  | gdclkReturn (dt : Nat)
  /-- ETH_FRAME_RX (R312). -/
  | ethFrameRx (dt : Nat) (port : Nat) (frame : EthFrame)
  /-- ETH_FRAME_TX (R312). -/
  | ethFrameTx (dt : Nat) (port : Nat)
  /-- ARP_REQUEST (R313). -/
  | arpRequest (dt : Nat) (port : Nat) (frame : EthFrame)
  /-- ICMP_ECHO_REQUEST (R313). -/
  | icmpEchoRequest (dt : Nat) (port : Nat) (frame : EthFrame)
  /-- PTP_SYNC (R321). -/
  | ptpSync (dt : Nat) (port : Nat) (msg : PtpMsg)
  /-- PTP_FOLLOW_UP (R319). -/
  | ptpFollowUp (dt : Nat) (port : Nat) (msg : PtpMsg)
  /-- PTP_DELAY_REQ (R317). -/
  | ptpDelayReq (dt : Nat) (port : Nat) (msg : PtpMsg)
  /-- PTP_DELAY_RESP (R317). -/
  | ptpDelayResp (dt : Nat) (port : Nat) (msg : PtpMsg)
  /-- PTP_PDELAY_REQ (R320). -/
  | ptpPdelayReq (dt : Nat) (port : Nat) (msg : PtpMsg)
  /-- PTP_PDELAY_RESP (R320). -/
  | ptpPdelayResp (dt : Nat) (port : Nat) (msg : PtpMsg)
  /-- PTP_PDELAY_RESP_FOLLOW_UP (R320). -/
  | ptpPdelayRespFollowUp (dt : Nat) (port : Nat) (msg : PtpMsg)
  /-- PTP_ANNOUNCE (R318). -/
  | ptpAnnounce (dt : Nat) (port : Nat) (msg : PtpMsg)
  /-- PTP_MGMT_SIGNALING (R317). -/
  | ptpMgmtSignaling (dt : Nat) (port : Nat) (msg : PtpMsg)
  /-- PTP_SYNC_TIMEOUT (R321). -/
  | ptpSyncTimeout (dt : Nat)
  /-- PTP_ANNOUNCE_TIMEOUT (R318). -/
  | ptpAnnounceTimeout (dt : Nat)
  /-- PTP_TX_INTERVAL (R317). -/
  | ptpTxInterval (dt : Nat) (kind : Nat)
  /-- ETH_RX_AGED (R316). -/
  | ethRxAged (dt : Nat)
  /-- ETH_LINK_CHANGE (R311). -/
  | ethLinkChange (dt : Nat) (port : Nat) (up : Bool)
  /-- STREAM_PACKET_CLOSE (R329). -/
  | streamPacketClose (dt : Nat) (stream : Nat)
  /-- CAN_FRAME_RX (R342). -/
  | canFrameRx (dt : Nat) (ctrl : Nat) (frame : CanFrame)
  /-- CAN_DELIVERY (R343). -/
  | canDelivery (dt : Nat) (ctrl : Nat)
  /-- CAN_PAIR_TIMEOUT (R343). -/
  | canPairTimeout (dt : Nat) (ctrl pair : Nat)
  /-- CAN_TX_COMPLETE (R340). -/
  | canTxComplete (dt : Nat) (ctrl buffer began tdc : Nat)
  /-- CAN_TX_ERROR (R340). -/
  | canTxError (dt : Nat) (ctrl buffer kind began tdc : Nat)
  /-- CAN_BUS_ERROR (R339). -/
  | canBusError (dt : Nat) (ctrl kind : Nat)
  /-- CAN_INTEGRATION_DONE (R339). -/
  | canIntegrationDone (dt : Nat) (ctrl : Nat)
  /-- CAN_BUSOFF_HOLD_EXPIRY (R339). -/
  | canBusoffHoldExpiry (dt : Nat) (ctrl : Nat)
  /-- CAN_RECOVERY_DONE (R339). -/
  | canRecoveryDone (dt : Nat) (ctrl : Nat)
  /-- LP_CONVERSION (R350). -/
  | lpConversion (dt : Nat) (port : Nat) (value : Int)
  /-- LP_HEADROOM_SET (R352). -/
  | lpHeadroomSet (dt : Nat) (port : Nat)
  /-- LP_HEADROOM_CLEAR (R352). -/
  | lpHeadroomClear (dt : Nat) (port : Nat)
  /-- HART_POLL_DUE (R354). -/
  | hartPollDue (dt : Nat) (port entry : Nat)
  /-- HART_REQUEST_SENT (R354). -/
  | hartRequestSent (dt : Nat) (port : Nat)
  /-- HART_RESPONSE_RX (R356). -/
  | hartResponseRx (dt : Nat) (port : Nat) (bytes : List Nat) (parityOk : Bool)
  /-- HART_RESPONSE_TIMEOUT (R354). -/
  | hartResponseTimeout (dt : Nat) (port : Nat)
  /-- HART_SILENCE_END (R354). -/
  | hartSilenceEnd (dt : Nat) (port : Nat)
  /-- HART_DELIVERY (R356). -/
  | hartDelivery (dt : Nat) (port : Nat)
  /-- STORE_PROBE_COMPLETE (R382). -/
  | storeProbeComplete (dt : Nat) (result : ProbeResult)
  /-- STORE_MOUNT_COMPLETE (R382). -/
  | storeMountComplete (dt : Nat) (result : MountResult)
  /-- NAND_READ_COMPLETE (R371). -/
  | nandReadComplete (dt : Nat) (op : NandOp) (result : NandRead)
  /-- NAND_PROGRAM_COMPLETE (R378). -/
  | nandProgramComplete (dt : Nat) (op : NandOp) (ok : Bool)
  /-- NAND_ERASE_COMPLETE (R375). -/
  | nandEraseComplete (dt : Nat) (op : NandOp) (ok : Bool)
  /-- NAND_FEATURES_COMPLETE (R369). -/
  | nandFeaturesComplete (dt : Nat) (op : NandOp) (ok : Bool)
  /-- NAND_RESET_COMPLETE (R383). -/
  | nandResetComplete (dt : Nat) (die : Nat)
  /-- NAND_BUSY_TIMEOUT (R379). -/
  | nandBusyTimeout (dt : Nat) (die : Nat)
  /-- ZQ_CALIBRATION (R369). -/
  | zqCalibration (dt : Nat)
  /-- DIRECTORY_JOURNAL (R375). -/
  | directoryJournal (dt : Nat)
  /-- DIRECTORY_CHECKPOINT (R375). -/
  | directoryCheckpoint (dt : Nat)
  /-- SCRUB_PASS (R377). -/
  | scrubPass (dt : Nat) (aged : List Nat)
  /-- DIE_RETIREMENT_COMPLETE (R379). -/
  | dieRetirementComplete (dt : Nat) (die : Nat)
  /-- EVENT_FLUSH_TIMER (R399). -/
  | eventFlushTimer (dt : Nat)
  /-- SAFETY_INPUT_EDGE (R428). -/
  | safetyInputEdge (dt : Nat) (input channel : Nat) (level : Bool)
  /-- SAFETY_INPUT_ACCEPT (R428). -/
  | safetyInputAccept (dt : Nat) (input channel : Nat) (proc : Bool)
  /-- DISC_TIME_EXPIRY (R429). -/
  | discTimeExpiry (dt : Nat) (input : Nat) (proc : Bool)
  /-- SAFETY_MATRIX_EVAL (R431). -/
  | safetyMatrixEval (dt : Nat) (mismatch : Bool)
  /-- SAFETY_TIMER_EXPIRY (R431). -/
  | safetyTimerExpiry (dt : Nat) (timer : Nat)
  /-- TEST_PULSE_START (R430). -/
  | testPulseStart (dt : Nat) (pulse : Nat)
  /-- TEST_PULSE_END (R430). -/
  | testPulseEnd (dt : Nat) (pulse : Nat) (levels : List TpLevel) (ball : Bool)
  /-- TP_BLANKING_END (R430). -/
  | tpBlankingEnd (dt : Nat) (pulse : Nat) (levels : List TpLevel)
  /-- PROC_COMMIT_TIMEOUT (R424). -/
  | procCommitTimeout (dt : Nat)
  /-- SWITCH_P_TIMEOUT (R422). -/
  | switchPTimeout (dt : Nat)
  /-- CROSS_COMPARE_TIMEOUT (R424). -/
  | crossCompareTimeout (dt : Nat) (output : Nat)
  /-- REQUEST_CROSSING (R432). -/
  | requestCrossing (dt : Nat)
  /-- REQUEST_TIMEOUT (R432). -/
  | requestTimeout (dt : Nat) (output : Nat)
  /-- READBACK_SETTLE (R433). -/
  | readbackSettle (dt : Nat) (output : Nat)
  /-- SRB_EDGE (R433). -/
  | srbEdge (dt : Nat) (output : Nat) (level : Bool)
  /-- OFF_PULSE_START (R434). -/
  | offPulseStart (dt : Nat) (output : Nat)
  /-- OFF_PULSE_END (R434). -/
  | offPulseEnd (dt : Nat) (output : Nat) (low high : Bool)
  /-- SRESET_PRESS_START (R436). -/
  | sresetPressStart (dt : Nat)
  /-- SRESET_PRESS_END (R436). -/
  | sresetPressEnd (dt : Nat) (seenByBoth : Bool) (pins : StartPins)
  /-- SAFETY_DOMAIN_FAULT (R422). -/
  | safetyDomainFault (dt : Nat) (internal : Bool)
  /-- PAIR_ITEMS_RX (R453). -/
  | pairItemsRx (dt : Nat) (seq : Nat) (items : List PairItem)
  /-- PAIR_STATE_RX (R457). -/
  | pairStateRx (dt : Nat) (seq : Nat) (part : SnapPart)
  /-- PAIR_IMAGE_RX (R51). -/
  | pairImageRx (dt : Nat) (seq offset : Nat) (bytes : List Nat)
  /-- PAIR_ACK_RX (R453). -/
  | pairAckRx (dt : Nat) (seq : Nat)
  /-- PAIR_ROLE_CONTROL_RX (R455). -/
  | pairRoleControlRx (dt : Nat) (seq : Nat) (msg : RoleMsg)
  /-- MIRROR_ITEM_REPLAY (R19). -/
  | mirrorItemReplay (dt : Nat)
  /-- PAIR_LINK_RETRANSMIT (R453). -/
  | pairLinkRetransmit (dt : Nat) (seq : Nat)
  /-- PAIR_LINK_DOWN (R489). -/
  | pairLinkDown (dt : Nat)
  /-- PEER_ACTIVE_FALL (R448). -/
  | peerActiveFall (dt : Nat)
  /-- NEGOTIATION_END (R456). -/
  | negotiationEnd (dt : Nat)
  /-- JOIN_TIMEOUT (R457). -/
  | joinTimeout (dt : Nat)
  /-- JOIN_RETRY (R455). -/
  | joinRetry (dt : Nat)
  /-- TAKEOVER_BOUNDARY (R460). -/
  | takeoverBoundary (dt : Nat)
  /-- HOLD_LIMIT_EXPIRY (R462). -/
  | holdLimitExpiry (dt : Nat)
  /-- DEPOSED_RESTART (R455). -/
  | deposedRestart (dt : Nat) (pins : StartPins)
  /-- MIGRATION_BARRIER (R467). -/
  | migrationBarrier (dt : Nat)
  /-- SRAM_ECC_CORRECTABLE (R469). -/
  | sramEccCorrectable (dt : Nat) (ram row : Nat)
  /-- SRAM_ECC_UNCORRECTABLE (R469). -/
  | sramEccUncorrectable (dt : Nat) (ram region : Nat)
  /-- SRAM_ROW_COPY_COMPLETE (R469). -/
  | sramRowCopyComplete (dt : Nat)
  /-- BIST_SLICE (R466). -/
  | bistSlice (dt : Nat) (kind index : Nat) (passed : Bool)
  /-- AGE_CHECK (R470). -/
  | ageCheck (dt : Nat) (domain margin worst : Nat) (slower : Nat)
  /-- SHUTTLE_RESIDUE_FAILURE (R468). -/
  | shuttleResidueFailure (dt : Nat) (engine : Nat)
  /-- REGISTER_WRITE (R5). -/
  | registerWrite (dt : Nat) (addr value : Nat)
  /-- SD_INPUT_TOGGLE (R178). -/
  | sdInputToggle (dt : Nat) (channel : Nat)
  /-- F4_RESTART (R485). -/
  | f4Restart (dt : Nat) (pins : StartPins)
  /-- ADDRESS_TABLE_AGE_OUT (R312). -/
  | addressTableAgeOut (dt : Nat) (mac : Nat)
  deriving DecidableEq, Repr

end Sys2Proof
end

