-- ==== Sys2Proof/Decode.lean ====
section
/-! DEFINITION. Decoding of the command table's words. The table gives no row any bits. -/

namespace Sys2Proof

/-- The command that the low `nbits` bits of `w` spell: spec/opcode_table.json gives its rows no bits, so
no word spells one (log entry 3). -/
def decodeTableWord (_nbits _w : Nat) : Option Instr := none

end Sys2Proof
end

