-- ==== Sys2Proof/Machine/Recs.lean ====
section
/-! DEFINITION. The fields of the image records (R26 to R28 and each chapter's record rules): byte
offset in the payload, size in bytes, and the stride of a repeated entry. -/

namespace Sys2Proof.Machine

/-- A field of a record's payload: entry `i` starts at `off + stride × i`. -/
structure PF where
  off : Nat
  size : Nat
  stride : Nat
  deriving DecidableEq, Repr

-- HDR: 02_image_and_startup.md R25
def PHDR_MAGIC : PF := ⟨0, 4, 0⟩
def PHDR_HDR_VERSION : PF := ⟨4, 2, 0⟩
def PHDR_HDR_SIZE : PF := ⟨6, 2, 0⟩
def PHDR_PART : PF := ⟨8, 4, 0⟩
def PHDR_MIN_SILICON : PF := ⟨12, 2, 0⟩
def PHDR_MIN_BUILD : PF := ⟨14, 2, 0⟩
def PHDR_SEQUENCE : PF := ⟨16, 4, 0⟩
def PHDR_IMAGE_LENGTH : PF := ⟨20, 4, 0⟩
def PHDR_RECORD_COUNT : PF := ⟨24, 4, 0⟩
def PHDR_FLAGS : PF := ⟨28, 4, 0⟩
def PHDR_BUILD_STAMP : PF := ⟨32, 8, 0⟩
def PHDR_RETAIN_LAYOUT : PF := ⟨40, 4, 0⟩
def PHDR_KEY_SLOT : PF := ⟨44, 1, 0⟩
def PHDR_PUBLIC_KEY : PF := ⟨48, 64, 0⟩
def PHDR_SIGNATURE : PF := ⟨112, 64, 0⟩
def PHDR_RECORD_DIGEST : PF := ⟨176, 32, 0⟩
def PHDR_IMAGE_NAME : PF := ⟨208, 32, 0⟩
def PHDR_HEADER_CRC : PF := ⟨252, 4, 0⟩
-- 0211: 02_image_and_startup.md R38
def P0211_PATCH_ID : PF := ⟨0, 2, 0⟩
def P0211_BASE_BUILD : PF := ⟨2, 2, 0⟩
def P0211_VECTORS : PF := ⟨4, 2, 0⟩
def P0211_CODE_LENGTH : PF := ⟨8, 4, 0⟩
def P0211_LOAD_OFFSET : PF := ⟨12, 4, 0⟩
def P0211_VECTOR : PF := ⟨16, 2, 8⟩
def P0211_TARGET : PF := ⟨20, 4, 8⟩
-- 0301: 03_reel_measures_picks.md R80
def P0301_SOURCE : PF := ⟨0, 1, 0⟩
def P0301_STEER_LIMIT : PF := ⟨4, 4, 0⟩
def P0301_LOCK_THRESHOLD : PF := ⟨8, 4, 0⟩
-- 0302: 03_reel_measures_picks.md R81
def P0302_MEASURE : PF := ⟨0, 1, 0⟩
def P0302_KIND : PF := ⟨1, 1, 0⟩
def P0302_SOURCE : PF := ⟨2, 1, 0⟩
def P0302_FLAGS : PF := ⟨3, 1, 0⟩
def P0302_SOURCE_INDEX : PF := ⟨4, 4, 0⟩
def P0302_COUNTS_PER_REV : PF := ⟨8, 4, 0⟩
def P0302_SAMPLE_PERIOD : PF := ⟨12, 4, 0⟩
def P0302_PHASE_OFFSET : PF := ⟨16, 4, 0⟩
def P0302_RATE_MIN : PF := ⟨20, 8, 0⟩
def P0302_RATE_MAX : PF := ⟨28, 8, 0⟩
def P0302_LOST_TIMEOUT : PF := ⟨36, 4, 0⟩
def P0302_EDGE_ERROR : PF := ⟨40, 2, 0⟩
def P0302_STAMP_UNCERT : PF := ⟨42, 2, 0⟩
-- 0303: 03_reel_measures_picks.md R82
def P0303_COUNT : PF := ⟨0, 2, 0⟩
def P0303_PICK : PF := ⟨4, 2, 32⟩
def P0303_MEASURE : PF := ⟨6, 1, 32⟩
def P0303_FLAGS : PF := ⟨7, 1, 32⟩
def P0303_ACTION : PF := ⟨8, 1, 32⟩
def P0303_WAKE_THREAD : PF := ⟨9, 1, 32⟩
def P0303_OPERAND : PF := ⟨10, 2, 32⟩
def P0303_INTERVAL : PF := ⟨12, 4, 32⟩
def P0303_TARGET : PF := ⟨16, 8, 32⟩
-- 0401: 04_creel_threads.md R100
def P0401_TICK0_MEASURE : PF := ⟨0, 1, 0⟩
def P0401_TICK1_ENABLE : PF := ⟨1, 1, 0⟩
def P0401_TICK1_PICK : PF := ⟨2, 2, 0⟩
def P0401_TICK0_PERIOD : PF := ⟨4, 4, 0⟩
def P0401_SERVICE_SHARE : PF := ⟨8, 1, 0⟩
-- 0402: 04_creel_threads.md R100
def P0402_THREAD : PF := ⟨4, 1, 16⟩
def P0402_ROLE : PF := ⟨5, 1, 16⟩
def P0402_ROLE_INDEX : PF := ⟨6, 1, 16⟩
def P0402_PRIORITY : PF := ⟨7, 1, 16⟩
def P0402_AFFINITY : PF := ⟨8, 1, 16⟩
def P0402_MAX_RUN : PF := ⟨12, 4, 16⟩
def P0402_SLICE : PF := ⟨16, 4, 16⟩
-- 0501: 05_ply_engines.md R133
def P0501_PLY : PF := ⟨0, 2, 0⟩
def P0501_CLASS : PF := ⟨2, 1, 0⟩
def P0501_SIZE : PF := ⟨3, 1, 0⟩
def P0501_MODE : PF := ⟨4, 1, 0⟩
def P0501_SP_SOURCE : PF := ⟨5, 1, 0⟩
def P0501_FLAGS : PF := ⟨6, 1, 0⟩
def P0501_MISS_LIMIT : PF := ⟨7, 1, 0⟩
def P0501_FB_STRAND : PF := ⟨8, 4, 0⟩
def P0501_SP_STRAND : PF := ⟨12, 4, 0⟩
def P0501_FF_STRAND : PF := ⟨16, 4, 0⟩
def P0501_SP_GAIN : PF := ⟨20, 4, 0⟩
def P0501_SP_OFFSET : PF := ⟨24, 4, 0⟩
def P0501_SP_SHIFT : PF := ⟨28, 1, 0⟩
def P0501_STALE_LIMIT : PF := ⟨29, 1, 0⟩
def P0501_FF_GAIN : PF := ⟨32, 4, 0⟩
def P0501_OUT_MIN : PF := ⟨36, 4, 0⟩
def P0501_OUT_MAX : PF := ⟨40, 4, 0⟩
def P0501_INIT_OUT : PF := ⟨44, 4, 0⟩
def P0501_STOP_OUT : PF := ⟨48, 4, 0⟩
def P0501_DEADLINE : PF := ⟨52, 4, 0⟩
def P0501_V_MAX : PF := ⟨56, 8, 0⟩
def P0501_A_MAX : PF := ⟨64, 8, 0⟩
def P0501_J_MAX : PF := ⟨72, 8, 0⟩
def P0501_GAIN : PF := ⟨80, 4, 0⟩
def P0501_OFFSET : PF := ⟨84, 4, 0⟩
def P0501_COEFF : PF := ⟨88, 4, 4⟩
-- 0502: 05_ply_engines.md R134
def P0502_GROUP : PF := ⟨0, 1, 0⟩
def P0502_ENGINE : PF := ⟨1, 1, 0⟩
def P0502_TWIN_ENGINE : PF := ⟨2, 1, 0⟩
def P0502_PRIORITY : PF := ⟨3, 1, 0⟩
def P0502_TRIGGER : PF := ⟨4, 1, 0⟩
def P0502_SAMPLE_GROUP : PF := ⟨5, 1, 0⟩
def P0502_COUNT : PF := ⟨6, 2, 0⟩
def P0502_MIN_PERIOD : PF := ⟨8, 4, 0⟩
def P0502_NOMINAL_PERIOD : PF := ⟨12, 4, 0⟩
def P0502_ENTRY : PF := ⟨16, 2, 2⟩
-- 0503: 05_ply_engines.md R135
def P0503_BUFFER : PF := ⟨0, 1, 0⟩
def P0503_ENGINE : PF := ⟨1, 1, 0⟩
def P0503_NODES : PF := ⟨2, 1, 0⟩
def P0503_TRIG_KIND : PF := ⟨3, 1, 0⟩
def P0503_TRIG_NODE : PF := ⟨4, 1, 0⟩
def P0503_FLAGS : PF := ⟨5, 1, 0⟩
def P0503_TRIG_MASK : PF := ⟨6, 2, 0⟩
def P0503_THRESHOLD : PF := ⟨8, 4, 0⟩
def P0503_SIZE : PF := ⟨12, 4, 0⟩
def P0503_PRE : PF := ⟨16, 4, 0⟩
def P0503_POST : PF := ⟨20, 4, 0⟩
def P0503_DECIM : PF := ⟨24, 4, 0⟩
def P0503_NODE : PF := ⟨28, 4, 4⟩
-- CMD: 06_axes_and_motion.md R147
def PCMD_SEQ : PF := ⟨0, 2, 0⟩
def PCMD_CODE : PF := ⟨2, 1, 0⟩
def PCMD_FLAGS : PF := ⟨3, 1, 0⟩
def PCMD_P1 : PF := ⟨4, 1, 0⟩
def PCMD_P2 : PF := ⟨5, 1, 0⟩
def PCMD_VALUE : PF := ⟨8, 8, 0⟩
def PCMD_SPEED : PF := ⟨16, 8, 0⟩
def PCMD_AUX : PF := ⟨24, 8, 0⟩
-- SEG: 06_axes_and_motion.md R158
def PSEG_SEQ : PF := ⟨0, 2, 0⟩
def PSEG_KIND : PF := ⟨2, 1, 0⟩
def PSEG_PLANE : PF := ⟨3, 1, 0⟩
def PSEG_TURNS : PF := ⟨4, 1, 0⟩
def PSEG_FEED : PF := ⟨8, 8, 0⟩
def PSEG_END_SPEED : PF := ⟨16, 8, 0⟩
def PSEG_END : PF := ⟨24, 48, 0⟩
def PSEG_GEOM : PF := ⟨72, 48, 0⟩
-- 0601: 06_axes_and_motion.md R170
def P0601_AXIS : PF := ⟨0, 1, 0⟩
def P0601_KIND : PF := ⟨1, 1, 0⟩
def P0601_FB_SOURCE : PF := ⟨2, 1, 0⟩
def P0601_FLAGS : PF := ⟨3, 1, 0⟩
def P0601_FB_INDEX : PF := ⟨4, 4, 0⟩
def P0601_SERVO_PICK : PF := ⟨8, 2, 0⟩
def P0601_PLY_GROUP : PF := ⟨10, 1, 0⟩
def P0601_FB_BITS : PF := ⟨11, 1, 0⟩
def P0601_POS_PLY : PF := ⟨12, 2, 0⟩
def P0601_FILTER_PLY : PF := ⟨14, 2, 0⟩
def P0601_VEL_PLY : PF := ⟨16, 2, 0⟩
def P0601_VFB_PLY : PF := ⟨18, 2, 0⟩
def P0601_ERR_SHIFT : PF := ⟨20, 1, 0⟩
def P0601_HOME_METHOD : PF := ⟨21, 1, 0⟩
def P0601_LIM_POS_PIN : PF := ⟨22, 1, 0⟩
def P0601_LIM_NEG_PIN : PF := ⟨23, 1, 0⟩
def P0601_HOME_PIN : PF := ⟨24, 1, 0⟩
def P0601_BRAKE_OUT : PF := ⟨25, 1, 0⟩
def P0601_POLARITY : PF := ⟨26, 1, 0⟩
def P0601_KVFF : PF := ⟨28, 4, 0⟩
def P0601_TX_WORD : PF := ⟨32, 4, 0⟩
def P0601_INPOS_TIME : PF := ⟨36, 4, 0⟩
def P0601_VEL_FS : PF := ⟨40, 8, 0⟩
def P0601_ACC_FS : PF := ⟨48, 8, 0⟩
def P0601_V_MAX : PF := ⟨56, 8, 0⟩
def P0601_ACC : PF := ⟨64, 8, 0⟩
def P0601_DEC : PF := ⟨72, 8, 0⟩
def P0601_STOP_DEC : PF := ⟨80, 8, 0⟩
def P0601_V_START : PF := ⟨88, 8, 0⟩
def P0601_V_STOP : PF := ⟨96, 8, 0⟩
def P0601_VLIM_LO : PF := ⟨104, 8, 0⟩
def P0601_VLIM_HI : PF := ⟨112, 8, 0⟩
def P0601_FE_LIMIT : PF := ⟨120, 8, 0⟩
def P0601_INPOS_WINDOW : PF := ⟨128, 8, 0⟩
def P0601_HOME_V1 : PF := ⟨136, 8, 0⟩
def P0601_HOME_V2 : PF := ⟨144, 8, 0⟩
def P0601_HOME_POS : PF := ⟨152, 8, 0⟩
def P0601_HOME_FINAL : PF := ⟨160, 8, 0⟩
def P0601_HOME_MAX_DIST : PF := ⟨168, 8, 0⟩
def P0601_HOME_I_THRESH : PF := ⟨176, 4, 0⟩
def P0601_HOME_I_TIME : PF := ⟨180, 4, 0⟩
def P0601_LIM_CLEARANCE : PF := ⟨184, 4, 0⟩
def P0601_BRAKE_TIME : PF := ⟨188, 4, 0⟩
-- 0602: 06_axes_and_motion.md R171
def P0602_GROUP : PF := ⟨0, 1, 0⟩
def P0602_COUNT : PF := ⟨1, 1, 0⟩
def P0602_PATH_MASK : PF := ⟨2, 1, 0⟩
def P0602_LOOKAHEAD : PF := ⟨3, 1, 0⟩
def P0602_AXES : PF := ⟨4, 6, 0⟩
def P0602_V_PATH : PF := ⟨12, 8, 0⟩
def P0602_ACC : PF := ⟨20, 8, 0⟩
def P0602_DEC : PF := ⟨28, 8, 0⟩
def P0602_STOP_DEC : PF := ⟨36, 8, 0⟩
-- 0701: 07_local_drive.md R199
def P0701_CLOCK : PF := ⟨0, 1, 0⟩
def P0701_DIV : PF := ⟨1, 1, 0⟩
-- 0702: 07_local_drive.md R200
def P0702_CHANNEL : PF := ⟨0, 1, 0⟩
def P0702_CLOCK : PF := ⟨1, 1, 0⟩
def P0702_OSR_LOG2 : PF := ⟨2, 1, 0⟩
def P0702_CAP_DELAY : PF := ⟨3, 1, 0⟩
def P0702_FLAGS : PF := ⟨4, 1, 0⟩
def P0702_SAMPLE_GROUP : PF := ⟨5, 1, 0⟩
def P0702_OC_OSR_LOG2 : PF := ⟨6, 1, 0⟩
def P0702_OC_COUNT : PF := ⟨7, 1, 0⟩
def P0702_GAIN : PF := ⟨8, 4, 0⟩
def P0702_OFFSET : PF := ⟨12, 4, 0⟩
def P0702_OC_LIMIT : PF := ⟨16, 4, 0⟩
-- 0703: 07_local_drive.md R201
def P0703_GROUP : PF := ⟨0, 1, 0⟩
def P0703_PRESCALE : PF := ⟨1, 1, 0⟩
def P0703_RELOAD : PF := ⟨2, 1, 0⟩
def P0703_FLAGS : PF := ⟨3, 1, 0⟩
def P0703_DEAD_TIME : PF := ⟨4, 2, 0⟩
def P0703_SYNC_PICK : PF := ⟨6, 2, 0⟩
def P0703_PERIOD : PF := ⟨8, 2, 0⟩
def P0703_PERIOD_STRAND : PF := ⟨12, 4, 0⟩
-- 0704: 07_local_drive.md R202
def P0704_AXIS : PF := ⟨0, 1, 0⟩
def P0704_FLAGS : PF := ⟨1, 1, 0⟩
def P0704_SD_A : PF := ⟨2, 1, 0⟩
def P0704_SD_B : PF := ⟨3, 1, 0⟩
def P0704_SD_C : PF := ⟨4, 1, 0⟩
def P0704_POLARITY : PF := ⟨5, 1, 0⟩
def P0704_RB_SETTLE : PF := ⟨6, 1, 0⟩
def P0704_RB_FILTER : PF := ⟨7, 1, 0⟩
def P0704_D_PLY : PF := ⟨8, 2, 0⟩
def P0704_Q_PLY : PF := ⟨10, 2, 0⟩
def P0704_ELEC_OFFSET : PF := ⟨12, 4, 0⟩
def P0704_ELEC_PER_COUNT : PF := ⟨16, 8, 0⟩
def P0704_LEAD_NS : PF := ⟨24, 4, 0⟩
-- 0705: 07_local_drive.md R203
def P0705_OUTPUT : PF := ⟨0, 1, 0⟩
def P0705_MODE : PF := ⟨1, 1, 0⟩
def P0705_FLAGS : PF := ⟨2, 1, 0⟩
def P0705_GROUP : PF := ⟨3, 1, 0⟩
def P0705_SOURCE_STRAND : PF := ⟨4, 4, 0⟩
def P0705_OPEN_POS : PF := ⟨8, 2, 0⟩
def P0705_OPEN_NEG : PF := ⟨10, 2, 0⟩
def P0705_CLOSE_POS : PF := ⟨12, 2, 0⟩
def P0705_CLOSE_NEG : PF := ⟨14, 2, 0⟩
def P0705_ALPHA_MIN : PF := ⟨16, 4, 0⟩
def P0705_ALPHA_MAX : PF := ⟨20, 4, 0⟩
def P0705_POWER_MIN : PF := ⟨24, 4, 0⟩
-- 0801: 08_feedback.md R217
def P0801_IFACE : PF := ⟨0, 1, 0⟩
def P0801_MODE : PF := ⟨1, 1, 0⟩
def P0801_FLAGS : PF := ⟨2, 1, 0⟩
def P0801_FILTER_N : PF := ⟨3, 1, 0⟩
def P0801_LINES : PF := ⟨4, 4, 0⟩
def P0801_INDEX_TOL : PF := ⟨8, 1, 0⟩
def P0801_MISMATCH_LIMIT : PF := ⟨9, 1, 0⟩
def P0801_ERR_LIMIT : PF := ⟨10, 1, 0⟩
def P0801_ALARM_PIN : PF := ⟨11, 1, 0⟩
def P0801_SPEED_HI : PF := ⟨12, 4, 0⟩
def P0801_SPEED_LO : PF := ⟨16, 4, 0⟩
def P0801_WINDOW : PF := ⟨20, 4, 0⟩
def P0801_ZERO_TIME : PF := ⟨24, 4, 0⟩
def P0801_SSI_BITS : PF := ⟨28, 1, 0⟩
def P0801_SAMPLE_GROUP : PF := ⟨29, 1, 0⟩
def P0801_SSI_HALF : PF := ⟨30, 2, 0⟩
def P0801_SSI_DELAY : PF := ⟨32, 2, 0⟩
def P0801_MONO_US : PF := ⟨34, 2, 0⟩
def P0801_SSI_MAX_STEP : PF := ⟨36, 4, 0⟩
def P0801_HALL_SEQ : PF := ⟨40, 6, 0⟩
def P0801_HALL_OFFSET : PF := ⟨48, 4, 0⟩
-- 0901: 09_shuttle_program.md R249
def P0901_COUNT : PF := ⟨0, 4, 0⟩
def P0901_CODE : PF := ⟨8, 4, 4⟩
-- 0902: 09_shuttle_program.md R250
def P0902_TASK : PF := ⟨0, 1, 0⟩
def P0902_ENGINE : PF := ⟨1, 1, 0⟩
def P0902_PRIORITY : PF := ⟨2, 1, 0⟩
def P0902_START_PICK : PF := ⟨4, 2, 0⟩
def P0902_ENTRY : PF := ⟨6, 2, 0⟩
def P0902_WATCHDOG : PF := ⟨8, 4, 0⟩
def P0902_HOLD_HANKS : PF := ⟨12, 4, 0⟩
def P0902_IN_COUNT : PF := ⟨16, 2, 0⟩
def P0902_OUT_COUNT : PF := ⟨18, 2, 0⟩
def P0902_SOURCE : PF := ⟨20, 4, 8⟩
def P0902_DEST : PF := ⟨24, 2, 8⟩
def P0902_QUAL : PF := ⟨26, 2, 8⟩
-- 0903: 09_shuttle_program.md R251
def P0903_VAR_ID : PF := ⟨4, 4, 24⟩
def P0903_TYPE : PF := ⟨8, 1, 24⟩
def P0903_FLAGS : PF := ⟨9, 1, 24⟩
def P0903_OWNER : PF := ⟨10, 1, 24⟩
def P0903_ADDRESS : PF := ⟨12, 2, 24⟩
def P0903_STRAND_INDEX : PF := ⟨14, 2, 24⟩
def P0903_INIT : PF := ⟨20, 8, 24⟩
-- 0904: 09_shuttle_program.md R252
def P0904_INSTANCE_ID : PF := ⟨4, 4, 24⟩
def P0904_TYPE : PF := ⟨8, 1, 24⟩
def P0904_FLAGS : PF := ⟨9, 1, 24⟩
def P0904_OWNER : PF := ⟨10, 1, 24⟩
def P0904_MEASURE : PF := ⟨11, 1, 24⟩
def P0904_ADDRESS : PF := ⟨12, 2, 24⟩
def P0904_INIT : PF := ⟨20, 8, 24⟩
-- REQ: 10_hanks_and_recipes.md R265
def PREQ_SEQ : PF := ⟨0, 2, 0⟩
def PREQ_CODE : PF := ⟨2, 1, 0⟩
def PREQ_RECIPE : PF := ⟨4, 2, 0⟩
def PREQ_STEP : PF := ⟨6, 2, 0⟩
def PREQ_TAG : PF := ⟨8, 4, 0⟩
-- 0A01: 10_hanks_and_recipes.md R272
def P0A01_HANK : PF := ⟨0, 1, 0⟩
def P0A01_THREAD : PF := ⟨1, 1, 0⟩
def P0A01_OUTPUTS : PF := ⟨2, 1, 0⟩
def P0A01_FLAGS : PF := ⟨3, 1, 0⟩
def P0A01_TIME_PICK : PF := ⟨4, 2, 0⟩
def P0A01_BEAT_PICK : PF := ⟨6, 2, 0⟩
def P0A01_MEAS_PICK : PF := ⟨8, 8, 0⟩
def P0A01_AXES : PF := ⟨16, 8, 0⟩
def P0A01_OUT_INIT : PF := ⟨24, 8, 0⟩
def P0A01_OUT_PIN : PF := ⟨32, 64, 0⟩
-- 0A02: 10_hanks_and_recipes.md R273
def P0A02_RECIPE : PF := ⟨0, 1, 0⟩
def P0A02_HANK : PF := ⟨1, 1, 0⟩
def P0A02_STEPS : PF := ⟨2, 2, 0⟩
def P0A02_HOLD_STEP : PF := ⟨4, 2, 0⟩
def P0A02_NAME : PF := ⟨8, 32, 0⟩
def P0A02_STEP_OFF : PF := ⟨40, 4, 4⟩
-- STEP: 10_hanks_and_recipes.md R274
def PSTEP_LENGTH : PF := ⟨0, 2, 0⟩
def PSTEP_END_KIND : PF := ⟨2, 1, 0⟩
def PSTEP_MEAS_SLOT : PF := ⟨3, 1, 0⟩
def PSTEP_DURATION : PF := ⟨4, 4, 0⟩
def PSTEP_NEXT : PF := ⟨8, 2, 0⟩
def PSTEP_FAULT_NEXT : PF := ⟨10, 2, 0⟩
def PSTEP_LOOP_TO : PF := ⟨12, 2, 0⟩
def PSTEP_LOOP_COUNT : PF := ⟨14, 2, 0⟩
def PSTEP_COND_STRAND : PF := ⟨16, 4, 0⟩
def PSTEP_FAULT_STRAND : PF := ⟨20, 4, 0⟩
def PSTEP_MEAS_TARGET : PF := ⟨24, 8, 0⟩
def PSTEP_OUT_MASK : PF := ⟨32, 8, 0⟩
def PSTEP_OUT_VALUE : PF := ⟨40, 8, 0⟩
def PSTEP_N_PLY : PF := ⟨48, 1, 0⟩
def PSTEP_N_VAR : PF := ⟨49, 1, 0⟩
def PSTEP_N_AXIS : PF := ⟨50, 1, 0⟩
def PSTEP_PLY : PF := ⟨56, 2, 32⟩
def PSTEP_TARGET : PF := ⟨60, 4, 32⟩
def PSTEP_V_MAX : PF := ⟨64, 8, 32⟩
def PSTEP_A_MAX : PF := ⟨72, 8, 32⟩
def PSTEP_J_MAX : PF := ⟨80, 8, 32⟩
-- 0B01: 11_weft_bus.md R305
def P0B01_NODE_ID : PF := ⟨0, 1, 0⟩
def P0B01_FLAGS : PF := ⟨1, 1, 0⟩
def P0B01_LISTEN_CYCLES : PF := ⟨2, 1, 0⟩
def P0B01_LOSS_CYCLES : PF := ⟨3, 1, 0⟩
def P0B01_SYNC_LIMIT : PF := ⟨4, 2, 0⟩
def P0B01_INTEG_CYCLES : PF := ⟨6, 1, 0⟩
def P0B01_REINT_CYCLES : PF := ⟨8, 4, 0⟩
-- 0B02: 11_weft_bus.md R306
def P0B02_CYCLE : PF := ⟨0, 4, 0⟩
def P0B02_SELVAGE : PF := ⟨4, 2, 0⟩
def P0B02_SLOTS : PF := ⟨6, 1, 0⟩
def P0B02_NODES : PF := ⟨7, 1, 0⟩
def P0B02_STAR_DELAY_A : PF := ⟨8, 2, 0⟩
def P0B02_STAR_DELAY_B : PF := ⟨10, 2, 0⟩
def P0B02_RX_LAG : PF := ⟨12, 2, 0⟩
def P0B02_OWNER : PF := ⟨16, 1, 16⟩
def P0B02_WORDS : PF := ⟨17, 1, 16⟩
def P0B02_FLAGS : PF := ⟨18, 1, 16⟩
def P0B02_PARTNER : PF := ⟨19, 1, 16⟩
def P0B02_OFFSET : PF := ⟨24, 4, 16⟩
def P0B02_LENGTH : PF := ⟨28, 4, 16⟩
-- 0B03: 11_weft_bus.md R307
def P0B03_WORD : PF := ⟨4, 2, 8⟩
def P0B03_FLAGS : PF := ⟨6, 1, 8⟩
def P0B03_STRAND : PF := ⟨8, 4, 8⟩
-- 0B04: 11_weft_bus.md R308
def P0B04_HOOK : PF := ⟨0, 1, 0⟩
def P0B04_MEASURE : PF := ⟨1, 1, 0⟩
def P0B04_PICK : PF := ⟨2, 2, 0⟩
def P0B04_OFFSET : PF := ⟨4, 4, 0⟩
def P0B04_THREAD : PF := ⟨8, 2, 0⟩
def P0B04_TASK : PF := ⟨10, 1, 0⟩
-- 0C01: 12_ethernet_and_time.md R331
def P0C01_MAC : PF := ⟨0, 6, 0⟩
def P0C01_PORT_EN : PF := ⟨6, 1, 0⟩
def P0C01_ACCESS_COUNT : PF := ⟨7, 1, 0⟩
def P0C01_IPV4 : PF := ⟨8, 4, 0⟩
def P0C01_PREFIX : PF := ⟨12, 1, 0⟩
def P0C01_GATEWAY : PF := ⟨16, 4, 0⟩
def P0C01_MAX_FRAME : PF := ⟨20, 6, 0⟩
def P0C01_BOARD : PF := ⟨28, 12, 0⟩
def P0C01_ACC_ADDR : PF := ⟨40, 4, 8⟩
def P0C01_ACC_PREFIX : PF := ⟨44, 1, 8⟩
def P0C01_ACC_LEVEL : PF := ⟨45, 1, 8⟩
-- 0C02: 12_ethernet_and_time.md R332
def P0C02_PROFILE : PF := ⟨0, 1, 0⟩
def P0C02_PTP_PORT : PF := ⟨1, 1, 0⟩
def P0C02_DOMAIN : PF := ⟨2, 1, 0⟩
def P0C02_FLAGS : PF := ⟨3, 1, 0⟩
def P0C02_PRIORITY1 : PF := ⟨4, 1, 0⟩
def P0C02_PRIORITY2 : PF := ⟨5, 1, 0⟩
def P0C02_LOG_SYNC : PF := ⟨6, 1, 0⟩
def P0C02_LOG_ANNOUNCE : PF := ⟨7, 1, 0⟩
def P0C02_LOG_DELAY : PF := ⟨8, 1, 0⟩
def P0C02_ANNOUNCE_TIMEOUT : PF := ⟨9, 1, 0⟩
-- 0C03: 12_ethernet_and_time.md R333
def P0C03_STREAM : PF := ⟨4, 1, 8⟩
def P0C03_PORT : PF := ⟨5, 1, 8⟩
def P0C03_PCP : PF := ⟨6, 1, 8⟩
def P0C03_QUEUE : PF := ⟨7, 1, 8⟩
def P0C03_FLUSH_US : PF := ⟨8, 4, 8⟩
-- 0D01: 13_can_and_loop_ports.md R359
def P0D01_CONTROLLER : PF := ⟨0, 1, 0⟩
def P0D01_FLAGS : PF := ⟨1, 1, 0⟩
def P0D01_N_BRP : PF := ⟨2, 1, 0⟩
def P0D01_N_SJW : PF := ⟨3, 1, 0⟩
def P0D01_N_TSEG1 : PF := ⟨4, 2, 0⟩
def P0D01_N_TSEG2 : PF := ⟨6, 1, 0⟩
def P0D01_D_BRP : PF := ⟨7, 1, 0⟩
def P0D01_D_TSEG1 : PF := ⟨8, 1, 0⟩
def P0D01_D_TSEG2 : PF := ⟨9, 1, 0⟩
def P0D01_D_SJW : PF := ⟨10, 1, 0⟩
def P0D01_TDCO : PF := ⟨11, 1, 0⟩
def P0D01_BUSOFF_HOLD : PF := ⟨12, 2, 0⟩
def P0D01_RX_DELAY : PF := ⟨14, 2, 0⟩
-- 0D02: 13_can_and_loop_ports.md R360
def P0D02_PAIR : PF := ⟨4, 1, 12⟩
def P0D02_FLAGS : PF := ⟨5, 1, 12⟩
def P0D02_TIMEOUT : PF := ⟨6, 2, 12⟩
def P0D02_MATCH : PF := ⟨8, 4, 12⟩
def P0D02_MASK : PF := ⟨12, 4, 12⟩
-- 0D03: 13_can_and_loop_ports.md R361
def P0D03_CONTROLLER : PF := ⟨0, 1, 0⟩
def P0D03_BUFFER : PF := ⟨1, 1, 0⟩
def P0D03_FLAGS : PF := ⟨2, 1, 0⟩
def P0D03_DLC : PF := ⟨3, 1, 0⟩
def P0D03_PICK : PF := ⟨4, 2, 0⟩
def P0D03_COUNT : PF := ⟨6, 2, 0⟩
def P0D03_IDENT : PF := ⟨8, 4, 0⟩
def P0D03_STRAND : PF := ⟨12, 4, 8⟩
def P0D03_BIT_POS : PF := ⟨16, 2, 8⟩
def P0D03_LENGTH : PF := ⟨18, 1, 8⟩
def P0D03_FLAGS_E : PF := ⟨19, 1, 8⟩
-- 0D04: 13_can_and_loop_ports.md R362
def P0D04_PAIR : PF := ⟨4, 1, 12⟩
def P0D04_STRAND_INDEX : PF := ⟨6, 2, 12⟩
def P0D04_BIT_POS : PF := ⟨8, 2, 12⟩
def P0D04_LENGTH : PF := ⟨10, 1, 12⟩
def P0D04_FLAGS : PF := ⟨11, 1, 12⟩
-- 0E01: 13_can_and_loop_ports.md R363
def P0E01_PORT : PF := ⟨0, 1, 0⟩
def P0E01_MODE : PF := ⟨1, 1, 0⟩
def P0E01_FLAGS : PF := ⟨2, 1, 0⟩
def P0E01_SAMPLE_GROUP : PF := ⟨3, 1, 0⟩
def P0E01_FILTER_MS : PF := ⟨4, 1, 0⟩
def P0E01_R_SENSE : PF := ⟨6, 2, 0⟩
def P0E01_GAIN : PF := ⟨8, 4, 0⟩
def P0E01_OFFSET : PF := ⟨12, 4, 0⟩
def P0E01_LOW_ALARM : PF := ⟨16, 2, 0⟩
def P0E01_HIGH_ALARM : PF := ⟨18, 2, 0⟩
def P0E01_OUT_MIN : PF := ⟨20, 2, 0⟩
def P0E01_OUT_MAX : PF := ⟨22, 2, 0⟩
def P0E01_SOURCE_STRAND : PF := ⟨24, 4, 0⟩
-- 0E02: 13_can_and_loop_ports.md R364
def P0E02_ADDRESS : PF := ⟨8, 5, 44⟩
def P0E02_COMMAND : PF := ⟨13, 1, 44⟩
def P0E02_REQ_LEN : PF := ⟨14, 1, 44⟩
def P0E02_MAP_COUNT : PF := ⟨15, 1, 44⟩
def P0E02_PERIOD : PF := ⟨16, 4, 44⟩
def P0E02_REQ_DATA : PF := ⟨20, 16, 44⟩
-- 0F01: 14_skein_store.md R386
def P0F01_CHANNELS : PF := ⟨0, 1, 0⟩
def P0F01_DIES : PF := ⟨1, 1, 0⟩
def P0F01_SPARE : PF := ⟨2, 1, 0⟩
def P0F01_FLAGS : PF := ⟨3, 1, 0⟩
def P0F01_MT_S : PF := ⟨4, 2, 0⟩
def P0F01_PSLC_FEATURE : PF := ⟨6, 1, 0⟩
def P0F01_RETRY_FEATURE : PF := ⟨7, 1, 0⟩
def P0F01_PSLC_VALUE : PF := ⟨8, 4, 0⟩
def P0F01_RETRY_COUNT : PF := ⟨12, 1, 0⟩
def P0F01_REFRESH_BITS : PF := ⟨13, 1, 0⟩
def P0F01_LIFE_WARN : PF := ⟨14, 1, 0⟩
def P0F01_RETRY_VALUES : PF := ⟨16, 28, 0⟩
def P0F01_PE_RATED : PF := ⟨44, 4, 0⟩
def P0F01_EVENT_MIB : PF := ⟨48, 4, 0⟩
def P0F01_SNAP_MIB : PF := ⟨52, 4, 0⟩
def P0F01_RD_LIMIT : PF := ⟨56, 4, 0⟩
def P0F01_WL_DELTA : PF := ⟨60, 2, 0⟩
def P0F01_SCRUB_HOURS : PF := ⟨62, 2, 0⟩
def P0F01_RETENTION_DAYS : PF := ⟨64, 4, 0⟩
-- 1001: 15_recording_and_acquisition.md R415
def P1001_SET : PF := ⟨0, 1, 0⟩
def P1001_KIND : PF := ⟨1, 1, 0⟩
def P1001_PICK : PF := ⟨2, 2, 0⟩
def P1001_COUNT : PF := ⟨4, 2, 0⟩
def P1001_ENTRY : PF := ⟨8, 4, 4⟩
-- 1002: 15_recording_and_acquisition.md R416
def P1002_SET : PF := ⟨4, 1, 8⟩
def P1002_DECIM : PF := ⟨6, 2, 8⟩
def P1002_BUDGET : PF := ⟨8, 4, 8⟩
-- 1003: 15_recording_and_acquisition.md R417
def P1003_STREAM : PF := ⟨0, 1, 0⟩
def P1003_SET_COUNT : PF := ⟨1, 1, 0⟩
def P1003_TRIG_COUNT : PF := ⟨2, 1, 0⟩
def P1003_HOLDOFF_US : PF := ⟨4, 4, 0⟩
def P1003_SETS : PF := ⟨8, 8, 0⟩
def P1003_DECIM : PF := ⟨16, 16, 0⟩
def P1003_TSET : PF := ⟨32, 1, 16⟩
def P1003_TKIND : PF := ⟨33, 1, 16⟩
def P1003_ACTIONS : PF := ⟨34, 1, 16⟩
def P1003_TRACE_BUF : PF := ⟨35, 1, 16⟩
def P1003_STRAND : PF := ⟨36, 4, 16⟩
def P1003_THRESHOLD : PF := ⟨40, 4, 16⟩
-- 1004: 15_recording_and_acquisition.md R418
def P1004_HOLDUP_US : PF := ⟨0, 4, 0⟩
def P1004_EVENT_FLUSH_MS : PF := ⟨4, 2, 0⟩
-- 1101: 16_safety.md R426
def P1101_VERSION : PF := ⟨0, 1, 0⟩
def P1101_INPUTS : PF := ⟨1, 1, 0⟩
def P1101_TERMS : PF := ⟨2, 1, 0⟩
def P1101_TIMERS : PF := ⟨3, 1, 0⟩
def P1101_OUTPUTS : PF := ⟨4, 1, 0⟩
def P1101_FLAGS : PF := ⟨5, 1, 0⟩
def P1101_TP_PERIOD : PF := ⟨8, 4, 0⟩
def P1101_TP_WIDTH : PF := ⟨12, 2, 0⟩
def P1101_TP_RECOVER : PF := ⟨14, 2, 0⟩
def P1101_OP_PERIOD : PF := ⟨16, 2, 0⟩
def P1101_OP_WIDTH : PF := ⟨18, 2, 0⟩
def P1101_RB_TIME : PF := ⟨20, 2, 0⟩
-- SIN: 16_safety.md R426
def PSIN_INPUT : PF := ⟨0, 1, 0⟩
def PSIN_TYPE : PF := ⟨1, 1, 0⟩
def PSIN_TP_A : PF := ⟨2, 1, 0⟩
def PSIN_TP_B : PF := ⟨3, 1, 0⟩
def PSIN_FILTER : PF := ⟨4, 2, 0⟩
def PSIN_DISC_TIME : PF := ⟨6, 2, 0⟩
-- STERM: 16_safety.md R426
def PSTERM_INPUT_MASK : PF := ⟨0, 4, 0⟩
def PSTERM_TIMER_MASK : PF := ⟨4, 2, 0⟩
-- STIM: 16_safety.md R426
def PSTIM_TIMER : PF := ⟨0, 1, 0⟩
def PSTIM_KIND : PF := ⟨1, 1, 0⟩
def PSTIM_TERM : PF := ⟨2, 1, 0⟩
def PSTIM_TIME : PF := ⟨4, 4, 0⟩
-- SOUTE: 16_safety.md R426
def PSOUTE_OUTPUT : PF := ⟨0, 1, 0⟩
def PSOUTE_FLAGS : PF := ⟨1, 1, 0⟩
def PSOUTE_TERM_MASK : PF := ⟨4, 4, 0⟩
def PSOUTE_REQ_STRAND : PF := ⟨8, 4, 0⟩
-- 1201: 17_pair_and_doffing.md R473
def P1201_PAIR : PF := ⟨0, 1, 0⟩
def P1201_ROLE : PF := ⟨1, 1, 0⟩
def P1201_MEMBER_A : PF := ⟨2, 1, 0⟩
def P1201_MEMBER_B : PF := ⟨3, 1, 0⟩
def P1201_WITNESS : PF := ⟨4, 1, 0⟩
def P1201_PREFERRED : PF := ⟨5, 1, 0⟩
def P1201_HB_SLOT_A : PF := ⟨6, 1, 0⟩
def P1201_HB_SLOT_B : PF := ⟨7, 1, 0⟩
def P1201_WITNESS_SLOT : PF := ⟨8, 1, 0⟩
-- 1301: 17_pair_and_doffing.md R474
def P1301_BIST_PERIOD : PF := ⟨0, 2, 0⟩
def P1301_AGE_DELTA : PF := ⟨2, 1, 0⟩
def P1301_AGE_WARN : PF := ⟨3, 1, 0⟩
def P1301_ECC_ROW_LIMIT : PF := ⟨4, 1, 0⟩
def P1301_FLAGS : PF := ⟨5, 1, 0⟩
-- 0101: 19_pins_and_electrical.md R497
def P0101_PIN : PF := ⟨4, 1, 4⟩
def P0101_FLAGS : PF := ⟨5, 1, 4⟩

end Sys2Proof.Machine
end

