-- ==== Sys2Proof/Config.lean ====
section
/-! DEFINITION. What the spec leaves open: free values. None has a body, so no proof can see one. -/

namespace Sys2Proof.Config

/-- The value of the `n`-th free word that the model uses where the spec gives a result no value. -/
opaque freeValue : Nat → Nat

/-- The acceleration and jerk that the Reel estimates from the last four samples of a measure for
REEL_MEAS_EBOUND (R75 names the samples, not the method): stamps and positions, newest first. -/
opaque estimateAJ : List (Nat × Int) → Rat × Rat

/-- How many entry points the patch table of a Koresque build has (R38 leaves the table to the build). -/
opaque patchVectors : Nat → Nat

/-- The error of the firing-angle table of R196 at a power fraction, of which the spec gives the bound only. -/
opaque alphaError : Nat → Nat

/-- The parameter of a spline at a path position (R159 bounds the speed error of its solution, not its value), from the
members' ends and tangents, the length and the position, times 2^64. -/
opaque splineParam : List Int → Rat → Rat → Nat

/-- Which of two zeros of unlike sign the REAL32 forms of MIN, MAX and LIMIT give (R235 leaves it open): the first operand or
the second. -/
opaque zeroChoice : Nat → Nat → Bool

/-- The word that a remote drive of an axis is sent as it is turned off (R166 turns it off and names no value). -/
opaque remoteOffWord : Nat → Nat

/-- How many rows of a RAM were repaired at the start, from the rows and the RAMs repaired in all (R175 shows only these). -/
opaque repairedRows : Nat → Nat → Nat → Nat

/-- How many frames an egress queue of the switch holds (R312 names the queues, not their capacity), by port. -/
opaque ethQueueDepth : Nat → Nat

/-- How many pages the store's directory takes (R372 leaves its size open), from the blocks of a die and the dies in service. -/
opaque directoryPages : Nat → Nat → Nat

/-- The parity bytes of a BCH codeword (R370 gives the code's field, strength and lengths, not its generator). -/
opaque bchParity : List Nat → Nat → Nat

/-- The data of a page in the array, by place: what a move copies. -/
opaque arrayPage : Nat → List Nat

/-- The data of the directory's pages, which R375 does not lay out. -/
opaque directoryPage : Nat → List Nat

/-- ONFI's SET FEATURES for a data rate and the NV-DDR3 interface (R369 names the use, not address and parameters). -/
opaque interfaceFeatures : Nat → List (List Nat)

/-- The read-retry value that a die comes with (R371), by die. -/
opaque retryDefault : Nat → Nat

end Sys2Proof.Config
end

