-- ==== Sys2Proof/Machine/Regs.lean ====
section
/-! DEFINITION. The live registers and their fields, written out from the register tables of spec/
(R5, R21, R22 and each chapter's register rule): address, stride, count, width, reset value, the
mask of its RW fields and the mask of its W1C fields. Registers whose reset value the spec takes from
the die, the fuses or the straps stand here with 0 (log entries 20 and 21). -/

namespace Sys2Proof.Machine

/-- A live register: `base + stride × index`, its width in bits, its reset value (`resetStep` more for
each index), and the masks of its RW and W1C fields (R5). -/
structure Reg where
  base : Nat
  stride : Nat
  count : Nat
  width : Nat
  reset : Nat
  resetStep : Nat
  rw : Nat
  w1c : Nat
  deriving DecidableEq, Repr

/-- A field of a live register. -/
structure Fld where
  reg : Reg
  lo : Nat
  width : Nat
  deriving DecidableEq, Repr

/-- ID_PART, 02_image_and_startup.md R38. -/
def ID_PART : Reg := ⟨0x0, 0, 1, 32, 0x6a148161, 0, 0x0, 0x0⟩
def ID_PART_VENDOR : Fld := ⟨ID_PART, 20, 12⟩
def ID_PART_PART : Fld := ⟨ID_PART, 4, 16⟩
def ID_PART_PACKAGE : Fld := ⟨ID_PART, 0, 4⟩
/-- ID_REV, 02_image_and_startup.md R38. -/
def ID_REV : Reg := ⟨0x4, 0, 1, 32, 0x0, 0, 0x0, 0x0⟩
def ID_REV_BUILD : Fld := ⟨ID_REV, 16, 16⟩
def ID_REV_SI_MAJOR : Fld := ⟨ID_REV, 8, 8⟩
def ID_REV_SI_MINOR : Fld := ⟨ID_REV, 0, 8⟩
/-- ID_UNIQUE, 02_image_and_startup.md R38. -/
def ID_UNIQUE : Reg := ⟨0x8, 0, 1, 64, 0x0, 0, 0x0, 0x0⟩
def ID_UNIQUE_SERIAL : Fld := ⟨ID_UNIQUE, 0, 64⟩
/-- FUSE_KEY0, 02_image_and_startup.md R42. -/
def FUSE_KEY0 : Reg := ⟨0x20000, 0, 1, 256, 0x0, 0, 0x0, 0x0⟩
def FUSE_KEY0_DIGEST : Fld := ⟨FUSE_KEY0, 0, 256⟩
/-- FUSE_KEY1, 02_image_and_startup.md R42. -/
def FUSE_KEY1 : Reg := ⟨0x20020, 0, 1, 256, 0x0, 0, 0x0, 0x0⟩
def FUSE_KEY1_DIGEST : Fld := ⟨FUSE_KEY1, 0, 256⟩
/-- FUSE_ARB, 02_image_and_startup.md R42. -/
def FUSE_ARB : Reg := ⟨0x20040, 0, 1, 64, 0x0, 0, 0x0, 0x0⟩
def FUSE_ARB_THERMO : Fld := ⟨FUSE_ARB, 0, 64⟩
/-- FUSE_CFG, 02_image_and_startup.md R42. -/
def FUSE_CFG : Reg := ⟨0x20048, 0, 1, 32, 0x0, 0, 0x0, 0x0⟩
def FUSE_CFG_DEBUG_LEVEL : Fld := ⟨FUSE_CFG, 0, 2⟩
def FUSE_CFG_SECURE_BOOT : Fld := ⟨FUSE_CFG, 2, 1⟩
def FUSE_CFG_KEY0_SET : Fld := ⟨FUSE_CFG, 3, 1⟩
def FUSE_CFG_KEY1_SET : Fld := ⟨FUSE_CFG, 4, 1⟩
def FUSE_CFG_SAFETY_SET : Fld := ⟨FUSE_CFG, 5, 1⟩
def FUSE_CFG_PGM_MODE : Fld := ⟨FUSE_CFG, 6, 1⟩
def FUSE_CFG_ARB_COUNT : Fld := ⟨FUSE_CFG, 8, 7⟩
/-- FUSE_SAFETY, 02_image_and_startup.md R42. -/
def FUSE_SAFETY : Reg := ⟨0x20060, 0, 1, 256, 0x0, 0, 0x0, 0x0⟩
def FUSE_SAFETY_DIGEST : Fld := ⟨FUSE_SAFETY, 0, 256⟩
/-- FUSE_REPAIR, 02_image_and_startup.md R42. -/
def FUSE_REPAIR : Reg := ⟨0x20080, 0, 1, 32, 0x0, 0, 0x0, 0x0⟩
def FUSE_REPAIR_ROWS : Fld := ⟨FUSE_REPAIR, 0, 16⟩
def FUSE_REPAIR_MACROS : Fld := ⟨FUSE_REPAIR, 16, 8⟩
def FUSE_REPAIR_BIST_FAIL : Fld := ⟨FUSE_REPAIR, 24, 1⟩
/-- FUSE_LDR_STATE, 02_image_and_startup.md R55. -/
def FUSE_LDR_STATE : Reg := ⟨0x20100, 0, 1, 32, 0x0, 0, 0x0, 0x0⟩
def FUSE_LDR_STATE_STEP : Fld := ⟨FUSE_LDR_STATE, 0, 4⟩
def FUSE_LDR_STATE_COPY : Fld := ⟨FUSE_LDR_STATE, 4, 1⟩
def FUSE_LDR_STATE_FALLBACK : Fld := ⟨FUSE_LDR_STATE, 5, 1⟩
def FUSE_LDR_STATE_START_KIND : Fld := ⟨FUSE_LDR_STATE, 8, 2⟩
def FUSE_LDR_STATE_LAST_FAULT : Fld := ⟨FUSE_LDR_STATE, 16, 16⟩
/-- FUSE_LDR_SEQ, 02_image_and_startup.md R55. -/
def FUSE_LDR_SEQ : Reg := ⟨0x20104, 0, 1, 32, 0x0, 0, 0x0, 0x0⟩
def FUSE_LDR_SEQ_SEQUENCE : Fld := ⟨FUSE_LDR_SEQ, 0, 32⟩
/-- FUSE_LDR_TIME, 02_image_and_startup.md R55. -/
def FUSE_LDR_TIME : Reg := ⟨0x20108, 0, 1, 32, 0x0, 0, 0x0, 0x0⟩
def FUSE_LDR_TIME_START_US : Fld := ⟨FUSE_LDR_TIME, 0, 32⟩
/-- FUSE_LDR_CONFLICTS, 02_image_and_startup.md R55. -/
def FUSE_LDR_CONFLICTS : Reg := ⟨0x2010c, 0, 1, 32, 0x0, 0, 0x0, 0x0⟩
def FUSE_LDR_CONFLICTS_COUNT : Fld := ⟨FUSE_LDR_CONFLICTS, 0, 32⟩
/-- FUSE_XCHG, 02_image_and_startup.md R55. -/
def FUSE_XCHG : Reg := ⟨0x20110, 0, 1, 32, 0x0, 0, 0x0, 0x10000⟩
def FUSE_XCHG_STATE : Fld := ⟨FUSE_XCHG, 0, 3⟩
def FUSE_XCHG_CAUSE : Fld := ⟨FUSE_XCHG, 8, 8⟩
def FUSE_XCHG_ABORTED : Fld := ⟨FUSE_XCHG, 16, 1⟩
/-- FUSE_XCHG_OLD, 02_image_and_startup.md R55. -/
def FUSE_XCHG_OLD : Reg := ⟨0x20114, 0, 1, 32, 0x0, 0, 0x0, 0x0⟩
def FUSE_XCHG_OLD_HANKS : Fld := ⟨FUSE_XCHG_OLD, 0, 32⟩
/-- FUSE_XCHG_STAMP, 02_image_and_startup.md R55. -/
def FUSE_XCHG_STAMP : Reg := ⟨0x20118, 0, 1, 64, 0x0, 0, 0x0, 0x0⟩
def FUSE_XCHG_STAMP_S_C : Fld := ⟨FUSE_XCHG_STAMP, 0, 64⟩
/-- FUSE_LDR_PATCH, 02_image_and_startup.md R55. -/
def FUSE_LDR_PATCH : Reg := ⟨0x20120, 0, 1, 32, 0x0, 0, 0x0, 0x0⟩
def FUSE_LDR_PATCH_COUNT : Fld := ⟨FUSE_LDR_PATCH, 0, 8⟩
def FUSE_LDR_PATCH_LAST_ID : Fld := ⟨FUSE_LDR_PATCH, 16, 16⟩
/-- REEL_TIME_STATUS, 03_reel_measures_picks.md R84. -/
def REEL_TIME_STATUS : Reg := ⟨0x30000, 0, 1, 32, 0x0, 0, 0x0, 0x60⟩
def REEL_TIME_STATUS_SOURCE : Fld := ⟨REEL_TIME_STATUS, 0, 1⟩
def REEL_TIME_STATUS_LOOM_SET : Fld := ⟨REEL_TIME_STATUS, 1, 1⟩
def REEL_TIME_STATUS_EPOCH_VALID : Fld := ⟨REEL_TIME_STATUS, 2, 1⟩
def REEL_TIME_STATUS_PTP_LOCKED : Fld := ⟨REEL_TIME_STATUS, 3, 1⟩
def REEL_TIME_STATUS_HOLDOVER : Fld := ⟨REEL_TIME_STATUS, 4, 1⟩
def REEL_TIME_STATUS_STEER_AT_LIMIT : Fld := ⟨REEL_TIME_STATUS, 5, 1⟩
def REEL_TIME_STATUS_PTP_REFUSED : Fld := ⟨REEL_TIME_STATUS, 6, 1⟩
/-- REEL_LOOM_TIME, 03_reel_measures_picks.md R84. -/
def REEL_LOOM_TIME : Reg := ⟨0x30008, 0, 1, 64, 0x0, 0, 0x0, 0x0⟩
def REEL_LOOM_TIME_TIME : Fld := ⟨REEL_LOOM_TIME, 0, 64⟩
/-- REEL_LOCAL_TIME, 03_reel_measures_picks.md R84. -/
def REEL_LOCAL_TIME : Reg := ⟨0x30010, 0, 1, 64, 0x0, 0, 0x0, 0x0⟩
def REEL_LOCAL_TIME_TIME : Fld := ⟨REEL_LOCAL_TIME, 0, 64⟩
/-- REEL_STEER, 03_reel_measures_picks.md R84. -/
def REEL_STEER : Reg := ⟨0x30018, 0, 1, 32, 0x0, 0, 0x0, 0x0⟩
def REEL_STEER_PPB : Fld := ⟨REEL_STEER, 0, 32⟩
/-- REEL_PTP_OFFSET, 03_reel_measures_picks.md R84. -/
def REEL_PTP_OFFSET : Reg := ⟨0x3001c, 0, 1, 32, 0x0, 0, 0x0, 0x0⟩
def REEL_PTP_OFFSET_NS : Fld := ⟨REEL_PTP_OFFSET, 0, 32⟩
/-- REEL_EPOCH_OFFSET, 03_reel_measures_picks.md R84. -/
def REEL_EPOCH_OFFSET : Reg := ⟨0x30020, 0, 1, 64, 0x0, 0, 0x0, 0x0⟩
def REEL_EPOCH_OFFSET_OFFSET : Fld := ⟨REEL_EPOCH_OFFSET, 0, 64⟩
/-- REEL_STEP_OFFSET, 03_reel_measures_picks.md R84. -/
def REEL_STEP_OFFSET : Reg := ⟨0x30028, 0, 1, 64, 0x0, 0, 0x0, 0x0⟩
def REEL_STEP_OFFSET_OFFSET : Fld := ⟨REEL_STEP_OFFSET, 0, 64⟩
/-- REEL_COUNTS, 03_reel_measures_picks.md R84. -/
def REEL_COUNTS : Reg := ⟨0x30030, 0, 1, 64, 0x0, 0, 0x0, 0x0⟩
def REEL_COUNTS_FIRES : Fld := ⟨REEL_COUNTS, 0, 32⟩
def REEL_COUNTS_LATE : Fld := ⟨REEL_COUNTS, 32, 16⟩
def REEL_COUNTS_SKIPS : Fld := ⟨REEL_COUNTS, 48, 16⟩
/-- REEL_MEAS_STATUS, 03_reel_measures_picks.md R84. -/
def REEL_MEAS_STATUS : Reg := ⟨0x30100, 64, 16, 32, 0x0, 0, 0x0, 0x300⟩
def REEL_MEAS_STATUS_STATE : Fld := ⟨REEL_MEAS_STATUS, 0, 3⟩
def REEL_MEAS_STATUS_KIND : Fld := ⟨REEL_MEAS_STATUS, 3, 2⟩
def REEL_MEAS_STATUS_SOURCE : Fld := ⟨REEL_MEAS_STATUS, 5, 3⟩
def REEL_MEAS_STATUS_LOST : Fld := ⟨REEL_MEAS_STATUS, 8, 1⟩
def REEL_MEAS_STATUS_RATE_RANGE : Fld := ⟨REEL_MEAS_STATUS, 9, 1⟩
def REEL_MEAS_STATUS_LOST_COUNT : Fld := ⟨REEL_MEAS_STATUS, 16, 16⟩
/-- REEL_MEAS_POS, 03_reel_measures_picks.md R84. -/
def REEL_MEAS_POS : Reg := ⟨0x30108, 64, 16, 64, 0x0, 0, 0x0, 0x0⟩
def REEL_MEAS_POS_POS : Fld := ⟨REEL_MEAS_POS, 0, 64⟩
/-- REEL_MEAS_RATE, 03_reel_measures_picks.md R84. -/
def REEL_MEAS_RATE : Reg := ⟨0x30110, 64, 16, 64, 0x0, 0, 0x0, 0x0⟩
def REEL_MEAS_RATE_RATE : Fld := ⟨REEL_MEAS_RATE, 0, 64⟩
/-- REEL_MEAS_SAMPLE, 03_reel_measures_picks.md R84. -/
def REEL_MEAS_SAMPLE : Reg := ⟨0x30118, 64, 16, 128, 0x0, 0, 0x0, 0x0⟩
def REEL_MEAS_SAMPLE_STAMP : Fld := ⟨REEL_MEAS_SAMPLE, 0, 64⟩
def REEL_MEAS_SAMPLE_POS : Fld := ⟨REEL_MEAS_SAMPLE, 64, 64⟩
/-- REEL_MEAS_EBOUND, 03_reel_measures_picks.md R84. -/
def REEL_MEAS_EBOUND : Reg := ⟨0x30128, 64, 16, 32, 0xffffffff, 0, 0x0, 0x0⟩
def REEL_MEAS_EBOUND_NS : Fld := ⟨REEL_MEAS_EBOUND, 0, 32⟩
/-- REEL_CHAN_DELAY, 03_reel_measures_picks.md R84. -/
def REEL_CHAN_DELAY : Reg := ⟨0x30800, 4, 160, 32, 0x0, 0, 0x0, 0x0⟩
def REEL_CHAN_DELAY_FACTORY : Fld := ⟨REEL_CHAN_DELAY, 0, 4⟩
def REEL_CHAN_DELAY_BOARD : Fld := ⟨REEL_CHAN_DELAY, 16, 16⟩
/-- REEL_PICK_STATUS, 03_reel_measures_picks.md R84. -/
def REEL_PICK_STATUS : Reg := ⟨0x31000, 4, 1024, 32, 0x0, 0, 0x3, 0xc⟩
def REEL_PICK_STATUS_STATE : Fld := ⟨REEL_PICK_STATUS, 0, 2⟩
def REEL_PICK_STATUS_LATE : Fld := ⟨REEL_PICK_STATUS, 2, 1⟩
def REEL_PICK_STATUS_SKIPPED : Fld := ⟨REEL_PICK_STATUS, 3, 1⟩
def REEL_PICK_STATUS_FIRES : Fld := ⟨REEL_PICK_STATUS, 16, 16⟩
/-- REEL_PICK_CFG, 03_reel_measures_picks.md R84. -/
def REEL_PICK_CFG : Reg := ⟨0x32000, 8, 1024, 64, 0x0, 0, 0x0, 0x0⟩
def REEL_PICK_CFG_MEASURE : Fld := ⟨REEL_PICK_CFG, 0, 4⟩
def REEL_PICK_CFG_DIR : Fld := ⟨REEL_PICK_CFG, 4, 2⟩
def REEL_PICK_CFG_ANGLE_ONLY : Fld := ⟨REEL_PICK_CFG, 6, 1⟩
def REEL_PICK_CFG_WAKE_EN : Fld := ⟨REEL_PICK_CFG, 7, 1⟩
def REEL_PICK_CFG_ACTION : Fld := ⟨REEL_PICK_CFG, 8, 4⟩
def REEL_PICK_CFG_WAKE_THREAD : Fld := ⟨REEL_PICK_CFG, 12, 8⟩
def REEL_PICK_CFG_OPERAND : Fld := ⟨REEL_PICK_CFG, 20, 12⟩
def REEL_PICK_CFG_INTERVAL : Fld := ⟨REEL_PICK_CFG, 32, 32⟩
/-- REEL_PICK_TARGET, 03_reel_measures_picks.md R84. -/
def REEL_PICK_TARGET : Reg := ⟨0x34000, 16, 1024, 128, 0x0, 0, 0xffffffffffffffff, 0x0⟩
def REEL_PICK_TARGET_TARGET : Fld := ⟨REEL_PICK_TARGET, 0, 64⟩
def REEL_PICK_TARGET_LAST : Fld := ⟨REEL_PICK_TARGET, 64, 64⟩
/-- CREEL_STATUS, 04_creel_threads.md R101. -/
def CREEL_STATUS : Reg := ⟨0x40000, 0, 1, 32, 0x0, 0, 0x0, 0x0⟩
def CREEL_STATUS_CORES : Fld := ⟨CREEL_STATUS, 0, 4⟩
def CREEL_STATUS_TICK1_EN : Fld := ⟨CREEL_STATUS, 4, 1⟩
def CREEL_STATUS_SHARE : Fld := ⟨CREEL_STATUS, 8, 8⟩
def CREEL_STATUS_SHARE_USED : Fld := ⟨CREEL_STATUS, 16, 8⟩
/-- CREEL_TICK0, 04_creel_threads.md R101. -/
def CREEL_TICK0 : Reg := ⟨0x40008, 0, 1, 64, 0x0, 0, 0x0, 0x0⟩
def CREEL_TICK0_COUNT : Fld := ⟨CREEL_TICK0, 0, 64⟩
/-- CREEL_TICK1, 04_creel_threads.md R101. -/
def CREEL_TICK1 : Reg := ⟨0x40010, 0, 1, 64, 0x0, 0, 0x0, 0x0⟩
def CREEL_TICK1_COUNT : Fld := ⟨CREEL_TICK1, 0, 64⟩
/-- CREEL_HELD, 04_creel_threads.md R101. -/
def CREEL_HELD : Reg := ⟨0x40018, 0, 1, 32, 0x0, 0, 0x0, 0x0⟩
def CREEL_HELD_HELD_COUNT : Fld := ⟨CREEL_HELD, 0, 32⟩
/-- CREEL_CORE_STATE, 04_creel_threads.md R101. -/
def CREEL_CORE_STATE : Reg := ⟨0x40100, 32, 4, 32, 0x0, 16777216, 0x0, 0x0⟩
def CREEL_CORE_STATE_RUNNING : Fld := ⟨CREEL_CORE_STATE, 0, 8⟩
def CREEL_CORE_STATE_IDLE : Fld := ⟨CREEL_CORE_STATE, 8, 1⟩
def CREEL_CORE_STATE_BOBBIN_FULL : Fld := ⟨CREEL_CORE_STATE, 9, 1⟩
def CREEL_CORE_STATE_LOCKSTEP : Fld := ⟨CREEL_CORE_STATE, 10, 1⟩
def CREEL_CORE_STATE_BOBBIN : Fld := ⟨CREEL_CORE_STATE, 16, 8⟩
def CREEL_CORE_STATE_PHYS : Fld := ⟨CREEL_CORE_STATE, 24, 3⟩
def CREEL_CORE_STATE_LEVEL : Fld := ⟨CREEL_CORE_STATE, 27, 5⟩
/-- CREEL_CORE_BUSY, 04_creel_threads.md R101. -/
def CREEL_CORE_BUSY : Reg := ⟨0x40108, 32, 4, 64, 0x0, 0, 0x0, 0x0⟩
def CREEL_CORE_BUSY_NS : Fld := ⟨CREEL_CORE_BUSY, 0, 64⟩
/-- CREEL_CORE_LAT, 04_creel_threads.md R101. -/
def CREEL_CORE_LAT : Reg := ⟨0x40110, 32, 4, 32, 0x0, 0, 0x0, 0x0⟩
def CREEL_CORE_LAT_MAX_NS : Fld := ⟨CREEL_CORE_LAT, 0, 16⟩
def CREEL_CORE_LAT_SWITCHES : Fld := ⟨CREEL_CORE_LAT, 16, 16⟩
/-- CREEL_THREAD_STATUS, 04_creel_threads.md R101. -/
def CREEL_THREAD_STATUS : Reg := ⟨0x41000, 16, 256, 32, 0x0, 0, 0x0, 0x180000⟩
def CREEL_THREAD_STATUS_STATE : Fld := ⟨CREEL_THREAD_STATUS, 0, 3⟩
def CREEL_THREAD_STATUS_BASE_LEVEL : Fld := ⟨CREEL_THREAD_STATUS, 3, 5⟩
def CREEL_THREAD_STATUS_LEVEL : Fld := ⟨CREEL_THREAD_STATUS, 8, 5⟩
def CREEL_THREAD_STATUS_PENDING : Fld := ⟨CREEL_THREAD_STATUS, 13, 4⟩
def CREEL_THREAD_STATUS_CORE : Fld := ⟨CREEL_THREAD_STATUS, 17, 2⟩
def CREEL_THREAD_STATUS_OVERRUN : Fld := ⟨CREEL_THREAD_STATUS, 19, 1⟩
def CREEL_THREAD_STATUS_WAKE_OVF : Fld := ⟨CREEL_THREAD_STATUS, 20, 1⟩
/-- CREEL_THREAD_COUNT, 04_creel_threads.md R101. -/
def CREEL_THREAD_COUNT : Reg := ⟨0x41004, 16, 256, 32, 0x0, 0, 0x0, 0x0⟩
def CREEL_THREAD_COUNT_ACTIVATIONS : Fld := ⟨CREEL_THREAD_COUNT, 0, 32⟩
/-- CREEL_THREAD_TIME, 04_creel_threads.md R101. -/
def CREEL_THREAD_TIME : Reg := ⟨0x41008, 16, 256, 64, 0x0, 0, 0x0, 0x0⟩
def CREEL_THREAD_TIME_LAST_NS : Fld := ⟨CREEL_THREAD_TIME, 0, 32⟩
def CREEL_THREAD_TIME_MAX_NS : Fld := ⟨CREEL_THREAD_TIME, 32, 32⟩
/-- PLY_STATUS, 05_ply_engines.md R136. -/
def PLY_STATUS : Reg := ⟨0x50000, 0, 1, 32, 0x0, 0, 0x0, 0x0⟩
def PLY_STATUS_ENGINES : Fld := ⟨PLY_STATUS, 0, 8⟩
def PLY_STATUS_TWIN_SINGLE : Fld := ⟨PLY_STATUS, 8, 1⟩
def PLY_STATUS_PLIES : Fld := ⟨PLY_STATUS, 16, 16⟩
/-- PLY_ENG_STATUS, 05_ply_engines.md R136. -/
def PLY_ENG_STATUS : Reg := ⟨0x50100, 32, 8, 32, 0x0, 1, 0x0, 0x0⟩
def PLY_ENG_STATUS_PHYS : Fld := ⟨PLY_ENG_STATUS, 0, 4⟩
def PLY_ENG_STATUS_MIGRATING : Fld := ⟨PLY_ENG_STATUS, 4, 1⟩
def PLY_ENG_STATUS_LOAD : Fld := ⟨PLY_ENG_STATUS, 8, 8⟩
def PLY_ENG_STATUS_EPOCH : Fld := ⟨PLY_ENG_STATUS, 16, 16⟩
/-- PLY_ENG_BUSY, 05_ply_engines.md R136. -/
def PLY_ENG_BUSY : Reg := ⟨0x50108, 32, 8, 64, 0x0, 0, 0x0, 0x0⟩
def PLY_ENG_BUSY_NS : Fld := ⟨PLY_ENG_BUSY, 0, 64⟩
/-- PLY_ENG_LAT, 05_ply_engines.md R136. -/
def PLY_ENG_LAT : Reg := ⟨0x50110, 32, 8, 32, 0xffff, 0, 0x0, 0x0⟩
def PLY_ENG_LAT_MIN_SLACK_NS : Fld := ⟨PLY_ENG_LAT, 0, 16⟩
def PLY_ENG_LAT_MAX_START_NS : Fld := ⟨PLY_ENG_LAT, 16, 16⟩
/-- PLY_ENG_COUNT, 05_ply_engines.md R136. -/
def PLY_ENG_COUNT : Reg := ⟨0x50114, 32, 8, 32, 0x0, 0, 0x0, 0x0⟩
def PLY_ENG_COUNT_DISCARDED : Fld := ⟨PLY_ENG_COUNT, 0, 16⟩
def PLY_ENG_COUNT_MISMATCHES : Fld := ⟨PLY_ENG_COUNT, 16, 16⟩
/-- PLY_TRC_STATUS, 05_ply_engines.md R136. -/
def PLY_TRC_STATUS : Reg := ⟨0x50400, 64, 8, 32, 0x0, 0, 0x0, 0x0⟩
def PLY_TRC_STATUS_STATE : Fld := ⟨PLY_TRC_STATUS, 0, 3⟩
def PLY_TRC_STATUS_SHORT_PRE : Fld := ⟨PLY_TRC_STATUS, 3, 1⟩
def PLY_TRC_STATUS_SAVED : Fld := ⟨PLY_TRC_STATUS, 4, 1⟩
def PLY_TRC_STATUS_TRIG_LOST : Fld := ⟨PLY_TRC_STATUS, 16, 16⟩
/-- PLY_TRC_PRE, 05_ply_engines.md R136. -/
def PLY_TRC_PRE : Reg := ⟨0x50404, 64, 8, 32, 0x0, 0, 0x0, 0x0⟩
def PLY_TRC_PRE_PRE_ACTUAL : Fld := ⟨PLY_TRC_PRE, 0, 20⟩
/-- PLY_TRC_ROW, 05_ply_engines.md R136. -/
def PLY_TRC_ROW : Reg := ⟨0x50408, 64, 8, 32, 0x0, 0, 0x0, 0x0⟩
def PLY_TRC_ROW_TRIG_ROW : Fld := ⟨PLY_TRC_ROW, 0, 20⟩
/-- PLY_TRC_TRIG, 05_ply_engines.md R136. -/
def PLY_TRC_TRIG : Reg := ⟨0x50410, 64, 8, 64, 0x0, 0, 0x0, 0x0⟩
def PLY_TRC_TRIG_STAMP : Fld := ⟨PLY_TRC_TRIG, 0, 64⟩
/-- PLY_TRC_LOST, 05_ply_engines.md R136. -/
def PLY_TRC_LOST : Reg := ⟨0x50418, 64, 8, 64, 0x0, 0, 0x0, 0x0⟩
def PLY_TRC_LOST_STAMP : Fld := ⟨PLY_TRC_LOST, 0, 64⟩
/-- PLY_STATE, 05_ply_engines.md R136. -/
def PLY_STATE : Reg := ⟨0x51000, 16, 1024, 32, 0x0, 0, 0x0, 0x10⟩
def PLY_STATE_STATE : Fld := ⟨PLY_STATE, 0, 2⟩
def PLY_STATE_ARRIVED : Fld := ⟨PLY_STATE, 2, 1⟩
def PLY_STATE_TWIN_SINGLE : Fld := ⟨PLY_STATE, 3, 1⟩
def PLY_STATE_STOPPED : Fld := ⟨PLY_STATE, 4, 1⟩
def PLY_STATE_ENGINE : Fld := ⟨PLY_STATE, 8, 3⟩
def PLY_STATE_TWIN : Fld := ⟨PLY_STATE, 11, 1⟩
def PLY_STATE_GROUP : Fld := ⟨PLY_STATE, 16, 8⟩
def PLY_STATE_CONSEC_MISS : Fld := ⟨PLY_STATE, 24, 8⟩
/-- PLY_FLAGS, 05_ply_engines.md R136. -/
def PLY_FLAGS : Reg := ⟨0x51004, 16, 1024, 32, 0x0, 0, 0x0, 0x7fff⟩
def PLY_FLAGS_SAT_ACC : Fld := ⟨PLY_FLAGS, 0, 1⟩
def PLY_FLAGS_SAT_OUT : Fld := ⟨PLY_FLAGS, 1, 1⟩
def PLY_FLAGS_SAT_SEC : Fld := ⟨PLY_FLAGS, 2, 8⟩
def PLY_FLAGS_LIM_HI : Fld := ⟨PLY_FLAGS, 10, 1⟩
def PLY_FLAGS_LIM_LO : Fld := ⟨PLY_FLAGS, 11, 1⟩
def PLY_FLAGS_MISS : Fld := ⟨PLY_FLAGS, 12, 1⟩
def PLY_FLAGS_STALE : Fld := ⟨PLY_FLAGS, 13, 1⟩
def PLY_FLAGS_MISMATCH : Fld := ⟨PLY_FLAGS, 14, 1⟩
/-- PLY_COUNTS, 05_ply_engines.md R136. -/
def PLY_COUNTS : Reg := ⟨0x51008, 16, 1024, 32, 0x0, 0, 0x0, 0x0⟩
def PLY_COUNTS_MISS_COUNT : Fld := ⟨PLY_COUNTS, 0, 16⟩
def PLY_COUNTS_STALE_COUNT : Fld := ⟨PLY_COUNTS, 16, 16⟩
/-- PLY_LAUNCHES, 05_ply_engines.md R136. -/
def PLY_LAUNCHES : Reg := ⟨0x5100c, 16, 1024, 32, 0x0, 0, 0x0, 0x0⟩
def PLY_LAUNCHES_COUNT : Fld := ⟨PLY_LAUNCHES, 0, 32⟩
/-- PLY_GRP_STATUS, 05_ply_engines.md R136. -/
def PLY_GRP_STATUS : Reg := ⟨0x55000, 16, 256, 32, 0x0, 0, 0x0, 0x10000⟩
def PLY_GRP_STATUS_EARLY_COUNT : Fld := ⟨PLY_GRP_STATUS, 0, 16⟩
def PLY_GRP_STATUS_EARLY : Fld := ⟨PLY_GRP_STATUS, 16, 1⟩
def PLY_GRP_STATUS_ENGINE : Fld := ⟨PLY_GRP_STATUS, 24, 3⟩
def PLY_GRP_STATUS_TWIN : Fld := ⟨PLY_GRP_STATUS, 27, 1⟩
def PLY_GRP_STATUS_PRIORITY : Fld := ⟨PLY_GRP_STATUS, 28, 4⟩
/-- PLY_GRP_LAST, 05_ply_engines.md R136. -/
def PLY_GRP_LAST : Reg := ⟨0x55008, 16, 256, 64, 0x0, 0, 0x0, 0x0⟩
def PLY_GRP_LAST_STAMP : Fld := ⟨PLY_GRP_LAST, 0, 64⟩
/-- MOT_STATUS, 06_axes_and_motion.md R172. -/
def MOT_STATUS : Reg := ⟨0x60000, 0, 1, 32, 0x0, 0, 0x0, 0x0⟩
def MOT_STATUS_AXES : Fld := ⟨MOT_STATUS, 0, 7⟩
def MOT_STATUS_GROUPS : Fld := ⟨MOT_STATUS, 8, 4⟩
/-- MOT_ENABLED, 06_axes_and_motion.md R172. -/
def MOT_ENABLED : Reg := ⟨0x60008, 0, 1, 64, 0x0, 0, 0x0, 0x0⟩
def MOT_ENABLED_AXES : Fld := ⟨MOT_ENABLED, 0, 64⟩
/-- MOT_GRP_STATE, 06_axes_and_motion.md R172. -/
def MOT_GRP_STATE : Reg := ⟨0x60100, 32, 8, 32, 0x0, 0, 0x0, 0x0⟩
def MOT_GRP_STATE_STATE : Fld := ⟨MOT_GRP_STATE, 0, 2⟩
def MOT_GRP_STATE_QUEUED : Fld := ⟨MOT_GRP_STATE, 8, 6⟩
def MOT_GRP_STATE_SEQ : Fld := ⟨MOT_GRP_STATE, 16, 16⟩
/-- MOT_GRP_FLAGS, 06_axes_and_motion.md R172. -/
def MOT_GRP_FLAGS : Reg := ⟨0x60104, 32, 8, 32, 0x0, 0, 0x0, 0x7⟩
def MOT_GRP_FLAGS_SEG_REFUSED : Fld := ⟨MOT_GRP_FLAGS, 0, 1⟩
def MOT_GRP_FLAGS_STARVED : Fld := ⟨MOT_GRP_FLAGS, 1, 1⟩
def MOT_GRP_FLAGS_MEMBER_FAULT : Fld := ⟨MOT_GRP_FLAGS, 2, 1⟩
/-- MOT_GRP_PATH, 06_axes_and_motion.md R172. -/
def MOT_GRP_PATH : Reg := ⟨0x60108, 32, 8, 64, 0x0, 0, 0x0, 0x0⟩
def MOT_GRP_PATH_S : Fld := ⟨MOT_GRP_PATH, 0, 64⟩
/-- MOT_GRP_SPEED, 06_axes_and_motion.md R172. -/
def MOT_GRP_SPEED : Reg := ⟨0x60110, 32, 8, 64, 0x0, 0, 0x0, 0x0⟩
def MOT_GRP_SPEED_SPEED : Fld := ⟨MOT_GRP_SPEED, 0, 64⟩
/-- MOT_GRP_CMD, 06_axes_and_motion.md R172. -/
def MOT_GRP_CMD : Reg := ⟨0x60118, 32, 8, 32, 0x0, 0, 0x0, 0x0⟩
def MOT_GRP_CMD_SEQ : Fld := ⟨MOT_GRP_CMD, 0, 16⟩
def MOT_GRP_CMD_RESULT : Fld := ⟨MOT_GRP_CMD, 16, 3⟩
def MOT_GRP_CMD_CAUSE : Fld := ⟨MOT_GRP_CMD, 24, 8⟩
/-- MOT_AX_STATE, 06_axes_and_motion.md R172. -/
def MOT_AX_STATE : Reg := ⟨0x61000, 64, 64, 32, 0xf0000, 0, 0x0, 0x0⟩
def MOT_AX_STATE_STATE : Fld := ⟨MOT_AX_STATE, 0, 4⟩
def MOT_AX_STATE_HOMED : Fld := ⟨MOT_AX_STATE, 4, 1⟩
def MOT_AX_STATE_INPOS : Fld := ⟨MOT_AX_STATE, 5, 1⟩
def MOT_AX_STATE_FAULT_PENDING : Fld := ⟨MOT_AX_STATE, 6, 1⟩
def MOT_AX_STATE_BRAKE : Fld := ⟨MOT_AX_STATE, 7, 1⟩
def MOT_AX_STATE_LIM_POS_TRIP : Fld := ⟨MOT_AX_STATE, 8, 1⟩
def MOT_AX_STATE_LIM_NEG_TRIP : Fld := ⟨MOT_AX_STATE, 9, 1⟩
def MOT_AX_STATE_REVERSING : Fld := ⟨MOT_AX_STATE, 10, 1⟩
def MOT_AX_STATE_ENGAGING : Fld := ⟨MOT_AX_STATE, 11, 1⟩
def MOT_AX_STATE_FB_STALE : Fld := ⟨MOT_AX_STATE, 12, 1⟩
def MOT_AX_STATE_GROUP : Fld := ⟨MOT_AX_STATE, 16, 4⟩
def MOT_AX_STATE_KIND : Fld := ⟨MOT_AX_STATE, 20, 3⟩
/-- MOT_AX_FLAGS, 06_axes_and_motion.md R172. -/
def MOT_AX_FLAGS : Reg := ⟨0x61004, 64, 64, 32, 0x0, 0, 0x0, 0xff⟩
def MOT_AX_FLAGS_FE_EXCEEDED : Fld := ⟨MOT_AX_FLAGS, 0, 1⟩
def MOT_AX_FLAGS_REFUSED : Fld := ⟨MOT_AX_FLAGS, 1, 1⟩
def MOT_AX_FLAGS_OVERWRITTEN : Fld := ⟨MOT_AX_FLAGS, 2, 1⟩
def MOT_AX_FLAGS_LIMIT_TRIP : Fld := ⟨MOT_AX_FLAGS, 3, 1⟩
def MOT_AX_FLAGS_HOME_ABORT : Fld := ⟨MOT_AX_FLAGS, 4, 1⟩
def MOT_AX_FLAGS_VLIM_STOP : Fld := ⟨MOT_AX_FLAGS, 5, 1⟩
def MOT_AX_FLAGS_GEAR_FAULT : Fld := ⟨MOT_AX_FLAGS, 6, 1⟩
def MOT_AX_FLAGS_FB_FAULT : Fld := ⟨MOT_AX_FLAGS, 7, 1⟩
/-- MOT_AX_CMD_H, 06_axes_and_motion.md R172. -/
def MOT_AX_CMD_H : Reg := ⟨0x61008, 64, 64, 32, 0x0, 0, 0x0, 0x0⟩
def MOT_AX_CMD_H_SEQ : Fld := ⟨MOT_AX_CMD_H, 0, 16⟩
def MOT_AX_CMD_H_RESULT : Fld := ⟨MOT_AX_CMD_H, 16, 3⟩
def MOT_AX_CMD_H_CAUSE : Fld := ⟨MOT_AX_CMD_H, 24, 8⟩
/-- MOT_AX_CMD_S, 06_axes_and_motion.md R172. -/
def MOT_AX_CMD_S : Reg := ⟨0x6100c, 64, 64, 32, 0x0, 0, 0x0, 0x0⟩
def MOT_AX_CMD_S_SEQ : Fld := ⟨MOT_AX_CMD_S, 0, 16⟩
def MOT_AX_CMD_S_RESULT : Fld := ⟨MOT_AX_CMD_S, 16, 3⟩
def MOT_AX_CMD_S_CAUSE : Fld := ⟨MOT_AX_CMD_S, 24, 8⟩
/-- MOT_AX_TARGET, 06_axes_and_motion.md R172. -/
def MOT_AX_TARGET : Reg := ⟨0x61010, 64, 64, 64, 0x0, 0, 0x0, 0x0⟩
def MOT_AX_TARGET_TARGET : Fld := ⟨MOT_AX_TARGET, 0, 64⟩
/-- MOT_AX_HOME_OFFSET, 06_axes_and_motion.md R172. -/
def MOT_AX_HOME_OFFSET : Reg := ⟨0x61018, 64, 64, 64, 0x0, 0, 0x0, 0x0⟩
def MOT_AX_HOME_OFFSET_OFFSET : Fld := ⟨MOT_AX_HOME_OFFSET, 0, 64⟩
/-- MOT_AX_REF_STAMP, 06_axes_and_motion.md R172. -/
def MOT_AX_REF_STAMP : Reg := ⟨0x61020, 64, 64, 64, 0x0, 0, 0x0, 0x0⟩
def MOT_AX_REF_STAMP_STAMP : Fld := ⟨MOT_AX_REF_STAMP, 0, 64⟩
/-- MOT_AX_TRIP_POS, 06_axes_and_motion.md R172. -/
def MOT_AX_TRIP_POS : Reg := ⟨0x61028, 64, 64, 64, 0x0, 0, 0x0, 0x0⟩
def MOT_AX_TRIP_POS_POS : Fld := ⟨MOT_AX_TRIP_POS, 0, 64⟩
/-- MOT_AX_FE_MAX, 06_axes_and_motion.md R172. -/
def MOT_AX_FE_MAX : Reg := ⟨0x61030, 64, 64, 64, 0x0, 0, 0x0, 0x0⟩
def MOT_AX_FE_MAX_FE : Fld := ⟨MOT_AX_FE_MAX, 0, 64⟩
/-- MOT_AX_GEAR, 06_axes_and_motion.md R172. -/
def MOT_AX_GEAR : Reg := ⟨0x61038, 64, 64, 64, 0x0, 0, 0x0, 0x0⟩
def MOT_AX_GEAR_MEASURE : Fld := ⟨MOT_AX_GEAR, 0, 4⟩
def MOT_AX_GEAR_SHIFT : Fld := ⟨MOT_AX_GEAR, 4, 6⟩
def MOT_AX_GEAR_NUM : Fld := ⟨MOT_AX_GEAR, 32, 32⟩
/-- DRV_STATUS, 07_local_drive.md R204. -/
def DRV_STATUS : Reg := ⟨0x70000, 0, 1, 32, 0x0, 0, 0x0, 0x0⟩
def DRV_STATUS_AXES : Fld := ⟨DRV_STATUS, 0, 16⟩
def DRV_STATUS_GROUPS : Fld := ⟨DRV_STATUS, 16, 8⟩
/-- DRV_GRP_STATUS, 07_local_drive.md R204. -/
def DRV_GRP_STATUS : Reg := ⟨0x70100, 32, 8, 32, 0x0, 0, 0x0, 0xf00⟩
def DRV_GRP_STATUS_RUNNING : Fld := ⟨DRV_GRP_STATUS, 0, 1⟩
def DRV_GRP_STATUS_LOAD_ALL : Fld := ⟨DRV_GRP_STATUS, 1, 1⟩
def DRV_GRP_STATUS_LOAD_PENDING : Fld := ⟨DRV_GRP_STATUS, 2, 1⟩
def DRV_GRP_STATUS_PSTAGED : Fld := ⟨DRV_GRP_STATUS, 3, 1⟩
def DRV_GRP_STATUS_DSTAGED : Fld := ⟨DRV_GRP_STATUS, 4, 1⟩
def DRV_GRP_STATUS_LOAD_REFUSED : Fld := ⟨DRV_GRP_STATUS, 8, 1⟩
def DRV_GRP_STATUS_DUTY_CLAMP : Fld := ⟨DRV_GRP_STATUS, 9, 1⟩
def DRV_GRP_STATUS_SYNC_SLIP : Fld := ⟨DRV_GRP_STATUS, 10, 1⟩
def DRV_GRP_STATUS_PERIOD_CLAMP : Fld := ⟨DRV_GRP_STATUS, 11, 1⟩
def DRV_GRP_STATUS_RELOAD : Fld := ⟨DRV_GRP_STATUS, 16, 2⟩
def DRV_GRP_STATUS_PAIRED : Fld := ⟨DRV_GRP_STATUS, 18, 1⟩
def DRV_GRP_STATUS_LOAD_ON_PUBLISH : Fld := ⟨DRV_GRP_STATUS, 19, 1⟩
/-- DRV_GRP_PERIOD, 07_local_drive.md R204. -/
def DRV_GRP_PERIOD : Reg := ⟨0x70104, 32, 8, 32, 0x0, 0, 0x0, 0x0⟩
def DRV_GRP_PERIOD_PERIOD : Fld := ⟨DRV_GRP_PERIOD, 0, 16⟩
def DRV_GRP_PERIOD_STAGED : Fld := ⟨DRV_GRP_PERIOD, 16, 16⟩
/-- DRV_GRP_COUNT, 07_local_drive.md R204. -/
def DRV_GRP_COUNT : Reg := ⟨0x70108, 32, 8, 32, 0x0, 0, 0x0, 0x0⟩
def DRV_GRP_COUNT_REFUSED : Fld := ⟨DRV_GRP_COUNT, 0, 16⟩
def DRV_GRP_COUNT_SLIPS : Fld := ⟨DRV_GRP_COUNT, 16, 16⟩
/-- DRV_GRP_RELOADS, 07_local_drive.md R204. -/
def DRV_GRP_RELOADS : Reg := ⟨0x7010c, 32, 8, 32, 0x0, 0, 0x0, 0x0⟩
def DRV_GRP_RELOADS_TRANSFERS : Fld := ⟨DRV_GRP_RELOADS, 0, 32⟩
/-- DRV_AX_STATUS, 07_local_drive.md R204. -/
def DRV_AX_STATUS : Reg := ⟨0x70400, 32, 16, 32, 0x0, 0, 0x0, 0x7f00⟩
def DRV_AX_STATUS_DRIVE : Fld := ⟨DRV_AX_STATUS, 0, 2⟩
def DRV_AX_STATUS_SAFE : Fld := ⟨DRV_AX_STATUS, 2, 1⟩
def DRV_AX_STATUS_HALL : Fld := ⟨DRV_AX_STATUS, 3, 1⟩
def DRV_AX_STATUS_OC_TRIP : Fld := ⟨DRV_AX_STATUS, 8, 1⟩
def DRV_AX_STATUS_RB_ERR : Fld := ⟨DRV_AX_STATUS, 9, 1⟩
def DRV_AX_STATUS_SHOOT : Fld := ⟨DRV_AX_STATUS, 10, 1⟩
def DRV_AX_STATUS_OVERMOD : Fld := ⟨DRV_AX_STATUS, 11, 1⟩
def DRV_AX_STATUS_XFORM_SAT : Fld := ⟨DRV_AX_STATUS, 12, 1⟩
def DRV_AX_STATUS_HALT_SAFE : Fld := ⟨DRV_AX_STATUS, 13, 1⟩
def DRV_AX_STATUS_STUCK : Fld := ⟨DRV_AX_STATUS, 14, 1⟩
/-- DRV_AX_PINS, 07_local_drive.md R204. -/
def DRV_AX_PINS : Reg := ⟨0x70404, 32, 16, 32, 0x0, 0, 0x0, 0x0⟩
def DRV_AX_PINS_COMMANDED : Fld := ⟨DRV_AX_PINS, 0, 6⟩
def DRV_AX_PINS_READBACK : Fld := ⟨DRV_AX_PINS, 8, 6⟩
def DRV_AX_PINS_RB_ERRORS : Fld := ⟨DRV_AX_PINS, 16, 16⟩
/-- DRV_AX_THETA, 07_local_drive.md R204. -/
def DRV_AX_THETA : Reg := ⟨0x70408, 32, 16, 32, 0x0, 0, 0x0, 0x0⟩
def DRV_AX_THETA_THETA : Fld := ⟨DRV_AX_THETA, 0, 32⟩
/-- DRV_SD_STATUS, 07_local_drive.md R204. -/
def DRV_SD_STATUS : Reg := ⟨0x71000, 16, 48, 32, 0x0, 0, 0x0, 0x7⟩
def DRV_SD_STATUS_SAT : Fld := ⟨DRV_SD_STATUS, 0, 1⟩
def DRV_SD_STATUS_STUCK : Fld := ⟨DRV_SD_STATUS, 1, 1⟩
def DRV_SD_STATUS_OC : Fld := ⟨DRV_SD_STATUS, 2, 1⟩
def DRV_SD_STATUS_STALE : Fld := ⟨DRV_SD_STATUS, 3, 1⟩
def DRV_SD_STATUS_OC_TRIPS : Fld := ⟨DRV_SD_STATUS, 16, 16⟩
/-- DRV_SD_DELAY, 07_local_drive.md R204. -/
def DRV_SD_DELAY : Reg := ⟨0x71004, 16, 48, 32, 0x0, 0, 0x0, 0x0⟩
def DRV_SD_DELAY_NS : Fld := ⟨DRV_SD_DELAY, 0, 32⟩
/-- DRV_AUX_STATUS, 07_local_drive.md R204. -/
def DRV_AUX_STATUS : Reg := ⟨0x72000, 8, 32, 32, 0x0, 0, 0x0, 0x20⟩
def DRV_AUX_STATUS_MODE : Fld := ⟨DRV_AUX_STATUS, 0, 3⟩
def DRV_AUX_STATUS_LEVEL : Fld := ⟨DRV_AUX_STATUS, 3, 1⟩
def DRV_AUX_STATUS_FROZEN : Fld := ⟨DRV_AUX_STATUS, 4, 1⟩
def DRV_AUX_STATUS_PHASE_STOP : Fld := ⟨DRV_AUX_STATUS, 5, 1⟩
def DRV_AUX_STATUS_NOFIRE : Fld := ⟨DRV_AUX_STATUS, 16, 16⟩
/-- DRV_AUX_ALPHA, 07_local_drive.md R204. -/
def DRV_AUX_ALPHA : Reg := ⟨0x72004, 8, 32, 32, 0x0, 0, 0x0, 0x0⟩
def DRV_AUX_ALPHA_ALPHA : Fld := ⟨DRV_AUX_ALPHA, 0, 32⟩
/-- FBK_STATUS, 08_feedback.md R218. -/
def FBK_STATUS : Reg := ⟨0x80000, 0, 1, 32, 0x0, 0, 0x0, 0x0⟩
def FBK_STATUS_DEFINED : Fld := ⟨FBK_STATUS, 0, 24⟩
/-- FBK_FB_STATUS, 08_feedback.md R218. -/
def FBK_FB_STATUS : Reg := ⟨0x80100, 64, 24, 32, 0x0, 0, 0x0, 0x0⟩
def FBK_FB_STATUS_MODE : Fld := ⟨FBK_FB_STATUS, 0, 2⟩
def FBK_FB_STATUS_METHOD : Fld := ⟨FBK_FB_STATUS, 2, 1⟩
def FBK_FB_STATUS_SECTOR : Fld := ⟨FBK_FB_STATUS, 3, 3⟩
def FBK_FB_STATUS_LEVELS : Fld := ⟨FBK_FB_STATUS, 6, 3⟩
def FBK_FB_STATUS_ALARM : Fld := ⟨FBK_FB_STATUS, 9, 1⟩
def FBK_FB_STATUS_CONSEC_MISMATCH : Fld := ⟨FBK_FB_STATUS, 16, 4⟩
def FBK_FB_STATUS_ERR_RUN : Fld := ⟨FBK_FB_STATUS, 20, 8⟩
/-- FBK_FB_FLAGS, 08_feedback.md R218. -/
def FBK_FB_FLAGS : Reg := ⟨0x80104, 64, 24, 32, 0x0, 0, 0x0, 0x1f⟩
def FBK_FB_FLAGS_QUAD_ERR : Fld := ⟨FBK_FB_FLAGS, 0, 1⟩
def FBK_FB_FLAGS_HALL_ERR : Fld := ⟨FBK_FB_FLAGS, 1, 1⟩
def FBK_FB_FLAGS_SSI_ERR : Fld := ⟨FBK_FB_FLAGS, 2, 1⟩
def FBK_FB_FLAGS_MISMATCH : Fld := ⟨FBK_FB_FLAGS, 3, 1⟩
def FBK_FB_FLAGS_FAULTY : Fld := ⟨FBK_FB_FLAGS, 4, 1⟩
/-- FBK_FB_POS, 08_feedback.md R218. -/
def FBK_FB_POS : Reg := ⟨0x80108, 64, 24, 64, 0x0, 0, 0x0, 0x0⟩
def FBK_FB_POS_COUNT : Fld := ⟨FBK_FB_POS, 0, 64⟩
/-- FBK_FB_EDGE, 08_feedback.md R218. -/
def FBK_FB_EDGE : Reg := ⟨0x80110, 64, 24, 64, 0x0, 0, 0x0, 0x0⟩
def FBK_FB_EDGE_STAMP : Fld := ⟨FBK_FB_EDGE, 0, 64⟩
/-- FBK_FB_SPEED, 08_feedback.md R218. -/
def FBK_FB_SPEED : Reg := ⟨0x80118, 64, 24, 64, 0x0, 0, 0x0, 0x0⟩
def FBK_FB_SPEED_SPEED : Fld := ⟨FBK_FB_SPEED, 0, 64⟩
/-- FBK_FB_INDEX_POS, 08_feedback.md R218. -/
def FBK_FB_INDEX_POS : Reg := ⟨0x80120, 64, 24, 64, 0x0, 0, 0x0, 0x0⟩
def FBK_FB_INDEX_POS_COUNT : Fld := ⟨FBK_FB_INDEX_POS, 0, 64⟩
/-- FBK_FB_INDEX_STAMP, 08_feedback.md R218. -/
def FBK_FB_INDEX_STAMP : Reg := ⟨0x80128, 64, 24, 64, 0x0, 0, 0x0, 0x0⟩
def FBK_FB_INDEX_STAMP_STAMP : Fld := ⟨FBK_FB_INDEX_STAMP, 0, 64⟩
/-- FBK_FB_INDEX, 08_feedback.md R218. -/
def FBK_FB_INDEX : Reg := ⟨0x80130, 64, 24, 32, 0x0, 0, 0x0, 0x0⟩
def FBK_FB_INDEX_DEV : Fld := ⟨FBK_FB_INDEX, 0, 8⟩
def FBK_FB_INDEX_MAX_DEV : Fld := ⟨FBK_FB_INDEX, 8, 8⟩
def FBK_FB_INDEX_MISMATCHES : Fld := ⟨FBK_FB_INDEX, 16, 16⟩
/-- FBK_FB_ERRORS, 08_feedback.md R218. -/
def FBK_FB_ERRORS : Reg := ⟨0x80134, 64, 24, 32, 0x0, 0, 0x0, 0x0⟩
def FBK_FB_ERRORS_ERRORS : Fld := ⟨FBK_FB_ERRORS, 0, 16⟩
def FBK_FB_ERRORS_OVERRUNS : Fld := ⟨FBK_FB_ERRORS, 16, 16⟩
/-- FBK_FB_GLITCH, 08_feedback.md R218. -/
def FBK_FB_GLITCH : Reg := ⟨0x80138, 64, 24, 32, 0x0, 0, 0x0, 0x0⟩
def FBK_FB_GLITCH_GLITCHES : Fld := ⟨FBK_FB_GLITCH, 0, 32⟩
/-- SHU_STATUS, 09_shuttle_program.md R253. -/
def SHU_STATUS : Reg := ⟨0x90000, 0, 1, 32, 0x0, 0, 0x0, 0x0⟩
def SHU_STATUS_ENGINES : Fld := ⟨SHU_STATUS, 0, 2⟩
def SHU_STATUS_CODE_BANK : Fld := ⟨SHU_STATUS, 2, 1⟩
def SHU_STATUS_VAR_BANK : Fld := ⟨SHU_STATUS, 3, 1⟩
def SHU_STATUS_TASKS : Fld := ⟨SHU_STATUS, 8, 8⟩
def SHU_STATUS_RETAINED : Fld := ⟨SHU_STATUS, 16, 16⟩
/-- SHU_XCHG, 09_shuttle_program.md R253. -/
def SHU_XCHG : Reg := ⟨0x90008, 0, 1, 32, 0x0, 0, 0x0, 0x0⟩
def SHU_XCHG_SWITCHED : Fld := ⟨SHU_XCHG, 0, 8⟩
def SHU_XCHG_DUAL : Fld := ⟨SHU_XCHG, 8, 1⟩
/-- SHU_ENG_STATUS, 09_shuttle_program.md R253. -/
def SHU_ENG_STATUS : Reg := ⟨0x90100, 32, 2, 32, 0xf0, 1, 0x0, 0x0⟩
def SHU_ENG_STATUS_PHYS : Fld := ⟨SHU_ENG_STATUS, 0, 2⟩
def SHU_ENG_STATUS_RUNNING : Fld := ⟨SHU_ENG_STATUS, 4, 4⟩
def SHU_ENG_STATUS_EPOCH : Fld := ⟨SHU_ENG_STATUS, 16, 16⟩
/-- SHU_ENG_BUSY, 09_shuttle_program.md R253. -/
def SHU_ENG_BUSY : Reg := ⟨0x90108, 32, 2, 64, 0x0, 0, 0x0, 0x0⟩
def SHU_ENG_BUSY_NS : Fld := ⟨SHU_ENG_BUSY, 0, 64⟩
/-- SHU_TASK_STATE, 09_shuttle_program.md R253. -/
def SHU_TASK_STATE : Reg := ⟨0x90400, 64, 8, 32, 0x0, 0, 0x0, 0x7f00⟩
def SHU_TASK_STATE_STATE : Fld := ⟨SHU_TASK_STATE, 0, 3⟩
def SHU_TASK_STATE_SINGLE : Fld := ⟨SHU_TASK_STATE, 3, 1⟩
def SHU_TASK_STATE_PRIORITY : Fld := ⟨SHU_TASK_STATE, 4, 3⟩
def SHU_TASK_STATE_ENGINE : Fld := ⟨SHU_TASK_STATE, 7, 1⟩
def SHU_TASK_STATE_DIVZ : Fld := ⟨SHU_TASK_STATE, 8, 1⟩
def SHU_TASK_STATE_ISAT : Fld := ⟨SHU_TASK_STATE, 9, 1⟩
def SHU_TASK_STATE_FERR : Fld := ⟨SHU_TASK_STATE, 10, 1⟩
def SHU_TASK_STATE_STALE : Fld := ⟨SHU_TASK_STATE, 11, 1⟩
def SHU_TASK_STATE_OVERRUN : Fld := ⟨SHU_TASK_STATE, 12, 1⟩
def SHU_TASK_STATE_FAULT : Fld := ⟨SHU_TASK_STATE, 13, 1⟩
def SHU_TASK_STATE_HVAR_OVW : Fld := ⟨SHU_TASK_STATE, 14, 1⟩
def SHU_TASK_STATE_BKPT_EN : Fld := ⟨SHU_TASK_STATE, 16, 4⟩
/-- SHU_TASK_SCANS, 09_shuttle_program.md R253. -/
def SHU_TASK_SCANS : Reg := ⟨0x90404, 64, 8, 32, 0x0, 0, 0x0, 0x0⟩
def SHU_TASK_SCANS_COUNT : Fld := ⟨SHU_TASK_SCANS, 0, 32⟩
/-- SHU_TASK_SKIPS, 09_shuttle_program.md R253. -/
def SHU_TASK_SKIPS : Reg := ⟨0x90408, 64, 8, 32, 0x0, 0, 0x0, 0x0⟩
def SHU_TASK_SKIPS_OVERRUNS : Fld := ⟨SHU_TASK_SKIPS, 0, 16⟩
def SHU_TASK_SKIPS_HELD_STARTS : Fld := ⟨SHU_TASK_SKIPS, 16, 16⟩
/-- SHU_TASK_PC, 09_shuttle_program.md R253. -/
def SHU_TASK_PC : Reg := ⟨0x9040c, 64, 8, 32, 0x0, 0, 0x0, 0x0⟩
def SHU_TASK_PC_INDEX : Fld := ⟨SHU_TASK_PC, 0, 16⟩
def SHU_TASK_PC_CAUSE : Fld := ⟨SHU_TASK_PC, 16, 4⟩
/-- SHU_TASK_TIME, 09_shuttle_program.md R253. -/
def SHU_TASK_TIME : Reg := ⟨0x90410, 64, 8, 64, 0x0, 0, 0x0, 0x0⟩
def SHU_TASK_TIME_LAST_NS : Fld := ⟨SHU_TASK_TIME, 0, 32⟩
def SHU_TASK_TIME_MAX_NS : Fld := ⟨SHU_TASK_TIME, 32, 32⟩
/-- SHU_TASK_LAST, 09_shuttle_program.md R253. -/
def SHU_TASK_LAST : Reg := ⟨0x90418, 64, 8, 64, 0x0, 0, 0x0, 0x0⟩
def SHU_TASK_LAST_STAMP : Fld := ⟨SHU_TASK_LAST, 0, 64⟩
/-- SHU_TASK_BKPT, 09_shuttle_program.md R253. -/
def SHU_TASK_BKPT : Reg := ⟨0x90420, 64, 8, 64, 0x0, 0, 0x0, 0x0⟩
def SHU_TASK_BKPT_BKPT0 : Fld := ⟨SHU_TASK_BKPT, 0, 16⟩
def SHU_TASK_BKPT_BKPT1 : Fld := ⟨SHU_TASK_BKPT, 16, 16⟩
def SHU_TASK_BKPT_BKPT2 : Fld := ⟨SHU_TASK_BKPT, 32, 16⟩
def SHU_TASK_BKPT_BKPT3 : Fld := ⟨SHU_TASK_BKPT, 48, 16⟩
/-- HANK_STATUS, 10_hanks_and_recipes.md R276. -/
def HANK_STATUS : Reg := ⟨0xa0000, 0, 1, 32, 0x0, 0, 0x0, 0x0⟩
def HANK_STATUS_HANKS : Fld := ⟨HANK_STATUS, 0, 32⟩
/-- HANK_H_STATE, 10_hanks_and_recipes.md R276. -/
def HANK_H_STATE : Reg := ⟨0xa0100, 64, 32, 32, 0x0, 0, 0x0, 0x0⟩
def HANK_H_STATE_STATE : Fld := ⟨HANK_H_STATE, 0, 2⟩
def HANK_H_STATE_STAGED_NEXT : Fld := ⟨HANK_H_STATE, 2, 1⟩
def HANK_H_STATE_STAGED_BRANCH : Fld := ⟨HANK_H_STATE, 3, 1⟩
def HANK_H_STATE_STAGED_HOLD : Fld := ⟨HANK_H_STATE, 4, 1⟩
def HANK_H_STATE_RESUME_PENDING : Fld := ⟨HANK_H_STATE, 5, 1⟩
def HANK_H_STATE_OLD_VERSION : Fld := ⟨HANK_H_STATE, 6, 1⟩
def HANK_H_STATE_RECIPE : Fld := ⟨HANK_H_STATE, 8, 8⟩
def HANK_H_STATE_STEP : Fld := ⟨HANK_H_STATE, 16, 10⟩
/-- HANK_H_FLAGS, 10_hanks_and_recipes.md R276. -/
def HANK_H_FLAGS : Reg := ⟨0xa0104, 64, 32, 32, 0x0, 0, 0x0, 0x3f⟩
def HANK_H_FLAGS_LATE_STAGE : Fld := ⟨HANK_H_FLAGS, 0, 1⟩
def HANK_H_FLAGS_BRANCHED : Fld := ⟨HANK_H_FLAGS, 1, 1⟩
def HANK_H_FLAGS_DEFER : Fld := ⟨HANK_H_FLAGS, 2, 1⟩
def HANK_H_FLAGS_REFUSED : Fld := ⟨HANK_H_FLAGS, 3, 1⟩
def HANK_H_FLAGS_REQ_OVW : Fld := ⟨HANK_H_FLAGS, 4, 1⟩
def HANK_H_FLAGS_HELD : Fld := ⟨HANK_H_FLAGS, 5, 1⟩
/-- HANK_H_HOLD, 10_hanks_and_recipes.md R276. -/
def HANK_H_HOLD : Reg := ⟨0xa0108, 64, 32, 32, 0x0, 0, 0x0, 0x0⟩
def HANK_H_HOLD_CAUSE : Fld := ⟨HANK_H_HOLD, 0, 16⟩
def HANK_H_HOLD_HOLDS : Fld := ⟨HANK_H_HOLD, 16, 16⟩
/-- HANK_H_REQ, 10_hanks_and_recipes.md R276. -/
def HANK_H_REQ : Reg := ⟨0xa010c, 64, 32, 32, 0x0, 0, 0x0, 0x0⟩
def HANK_H_REQ_SEQ : Fld := ⟨HANK_H_REQ, 0, 16⟩
def HANK_H_REQ_RESULT : Fld := ⟨HANK_H_REQ, 16, 3⟩
def HANK_H_REQ_SOURCE : Fld := ⟨HANK_H_REQ, 19, 1⟩
def HANK_H_REQ_CAUSE : Fld := ⟨HANK_H_REQ, 24, 8⟩
/-- HANK_H_BOUNDARY, 10_hanks_and_recipes.md R276. -/
def HANK_H_BOUNDARY : Reg := ⟨0xa0110, 64, 32, 64, 0x0, 0, 0x0, 0x0⟩
def HANK_H_BOUNDARY_STAMP : Fld := ⟨HANK_H_BOUNDARY, 0, 64⟩
/-- HANK_H_END_AT, 10_hanks_and_recipes.md R276. -/
def HANK_H_END_AT : Reg := ⟨0xa0118, 64, 32, 64, 0x0, 0, 0x0, 0x0⟩
def HANK_H_END_AT_STAMP : Fld := ⟨HANK_H_END_AT, 0, 64⟩
/-- HANK_H_COUNT, 10_hanks_and_recipes.md R276. -/
def HANK_H_COUNT : Reg := ⟨0xa0120, 64, 32, 32, 0x0, 0, 0x0, 0x0⟩
def HANK_H_COUNT_BOUNDARIES : Fld := ⟨HANK_H_COUNT, 0, 32⟩
/-- HANK_H_RUNS, 10_hanks_and_recipes.md R276. -/
def HANK_H_RUNS : Reg := ⟨0xa0124, 64, 32, 32, 0x0, 0, 0x0, 0x0⟩
def HANK_H_RUNS_COMPLETED : Fld := ⟨HANK_H_RUNS, 0, 16⟩
def HANK_H_RUNS_ABORTED : Fld := ⟨HANK_H_RUNS, 16, 16⟩
/-- HANK_H_TAG, 10_hanks_and_recipes.md R276. -/
def HANK_H_TAG : Reg := ⟨0xa0128, 64, 32, 32, 0x0, 0, 0x0, 0x0⟩
def HANK_H_TAG_TAG : Fld := ⟨HANK_H_TAG, 0, 32⟩
/-- HANK_H_SELECT, 10_hanks_and_recipes.md R276. -/
def HANK_H_SELECT : Reg := ⟨0xa012c, 64, 32, 32, 0x0, 0, 0x0, 0x0⟩
def HANK_H_SELECT_SELECTED : Fld := ⟨HANK_H_SELECT, 0, 8⟩
def HANK_H_SELECT_VALID : Fld := ⟨HANK_H_SELECT, 8, 1⟩
/-- WEFT_STATUS, 11_weft_bus.md R309. -/
def WEFT_STATUS : Reg := ⟨0xb0000, 0, 1, 32, 0x0, 0, 0x0, 0x0⟩
def WEFT_STATUS_STATE : Fld := ⟨WEFT_STATUS, 0, 3⟩
def WEFT_STATUS_CHAN_A_UP : Fld := ⟨WEFT_STATUS, 3, 1⟩
def WEFT_STATUS_CHAN_B_UP : Fld := ⟨WEFT_STATUS, 4, 1⟩
def WEFT_STATUS_ALONE : Fld := ⟨WEFT_STATUS, 5, 1⟩
def WEFT_STATUS_HEDDLE : Fld := ⟨WEFT_STATUS, 6, 2⟩
def WEFT_STATUS_NODE_ID : Fld := ⟨WEFT_STATUS, 8, 6⟩
def WEFT_STATUS_SYNC_VALUES : Fld := ⟨WEFT_STATUS, 16, 6⟩
def WEFT_STATUS_K : Fld := ⟨WEFT_STATUS, 22, 2⟩
/-- WEFT_FLAGS, 11_weft_bus.md R309. -/
def WEFT_FLAGS : Reg := ⟨0xb0004, 0, 1, 32, 0x0, 0, 0x0, 0x7ff⟩
def WEFT_FLAGS_SYNC_LOST : Fld := ⟨WEFT_FLAGS, 0, 1⟩
def WEFT_FLAGS_COLLISION : Fld := ⟨WEFT_FLAGS, 1, 1⟩
def WEFT_FLAGS_CHAN_A_DOWN : Fld := ⟨WEFT_FLAGS, 2, 1⟩
def WEFT_FLAGS_CHAN_B_DOWN : Fld := ⟨WEFT_FLAGS, 3, 1⟩
def WEFT_FLAGS_HEDDLE_BLOCK : Fld := ⟨WEFT_FLAGS, 4, 1⟩
def WEFT_FLAGS_HEDDLE_VIOL : Fld := ⟨WEFT_FLAGS, 5, 1⟩
def WEFT_FLAGS_NOT_READY : Fld := ⟨WEFT_FLAGS, 6, 1⟩
def WEFT_FLAGS_CHAN_DIFF : Fld := ⟨WEFT_FLAGS, 7, 1⟩
def WEFT_FLAGS_ECHO_FAIL : Fld := ⟨WEFT_FLAGS, 8, 1⟩
def WEFT_FLAGS_REINT_FAIL : Fld := ⟨WEFT_FLAGS, 9, 1⟩
def WEFT_FLAGS_GDCLK_LOST : Fld := ⟨WEFT_FLAGS, 10, 1⟩
/-- WEFT_CYCLE, 11_weft_bus.md R309. -/
def WEFT_CYCLE : Reg := ⟨0xb0008, 0, 1, 64, 0x0, 0, 0x0, 0x0⟩
def WEFT_CYCLE_NUMBER : Fld := ⟨WEFT_CYCLE, 0, 48⟩
/-- WEFT_CYCLE_START, 11_weft_bus.md R309. -/
def WEFT_CYCLE_START : Reg := ⟨0xb0010, 0, 1, 64, 0x0, 0, 0x0, 0x0⟩
def WEFT_CYCLE_START_STAMP : Fld := ⟨WEFT_CYCLE_START, 0, 64⟩
/-- WEFT_SYNC, 11_weft_bus.md R309. -/
def WEFT_SYNC : Reg := ⟨0xb0018, 0, 1, 32, 0x0, 0, 0x0, 0x0⟩
def WEFT_SYNC_M : Fld := ⟨WEFT_SYNC, 0, 16⟩
def WEFT_SYNC_MAX_ABS : Fld := ⟨WEFT_SYNC, 16, 16⟩
/-- WEFT_DRIFT, 11_weft_bus.md R309. -/
def WEFT_DRIFT : Reg := ⟨0xb001c, 0, 1, 32, 0x0, 0, 0x0, 0x0⟩
def WEFT_DRIFT_PPB : Fld := ⟨WEFT_DRIFT, 0, 32⟩
/-- WEFT_COUNTS, 11_weft_bus.md R309. -/
def WEFT_COUNTS : Reg := ⟨0xb0020, 0, 1, 64, 0x0, 0, 0x0, 0x0⟩
def WEFT_COUNTS_COLLISIONS : Fld := ⟨WEFT_COUNTS, 0, 16⟩
def WEFT_COUNTS_SYNC_LOSSES : Fld := ⟨WEFT_COUNTS, 16, 16⟩
def WEFT_COUNTS_NOT_READY : Fld := ⟨WEFT_COUNTS, 32, 16⟩
def WEFT_COUNTS_HEDDLE_VIOL : Fld := ⟨WEFT_COUNTS, 48, 16⟩
/-- WEFT_CHAN_ERR, 11_weft_bus.md R309. -/
def WEFT_CHAN_ERR : Reg := ⟨0xb0028, 8, 2, 64, 0x0, 0, 0x0, 0x0⟩
def WEFT_CHAN_ERR_CODE_LENGTH : Fld := ⟨WEFT_CHAN_ERR, 0, 16⟩
def WEFT_CHAN_ERR_CRC : Fld := ⟨WEFT_CHAN_ERR, 16, 16⟩
def WEFT_CHAN_ERR_WINDOW : Fld := ⟨WEFT_CHAN_ERR, 32, 16⟩
def WEFT_CHAN_ERR_HEADER : Fld := ⟨WEFT_CHAN_ERR, 48, 16⟩
/-- WEFT_SLOT_CFG, 11_weft_bus.md R309. -/
def WEFT_SLOT_CFG : Reg := ⟨0xb0100, 16, 64, 32, 0x0, 0, 0x0, 0x0⟩
def WEFT_SLOT_CFG_OWNER : Fld := ⟨WEFT_SLOT_CFG, 0, 6⟩
def WEFT_SLOT_CFG_SYNC : Fld := ⟨WEFT_SLOT_CFG, 6, 1⟩
def WEFT_SLOT_CFG_HEARTBEAT : Fld := ⟨WEFT_SLOT_CFG, 7, 1⟩
def WEFT_SLOT_CFG_WORDS : Fld := ⟨WEFT_SLOT_CFG, 8, 6⟩
def WEFT_SLOT_CFG_OWN : Fld := ⟨WEFT_SLOT_CFG, 14, 1⟩
def WEFT_SLOT_CFG_PARTNERED : Fld := ⟨WEFT_SLOT_CFG, 15, 1⟩
def WEFT_SLOT_CFG_PARTNER : Fld := ⟨WEFT_SLOT_CFG, 16, 6⟩
/-- WEFT_SLOT_STATUS, 11_weft_bus.md R309. -/
def WEFT_SLOT_STATUS : Reg := ⟨0xb0104, 16, 64, 32, 0x0, 0, 0x0, 0x0⟩
def WEFT_SLOT_STATUS_STATUS : Fld := ⟨WEFT_SLOT_STATUS, 0, 2⟩
def WEFT_SLOT_STATUS_VALID_A : Fld := ⟨WEFT_SLOT_STATUS, 2, 1⟩
def WEFT_SLOT_STATUS_VALID_B : Fld := ⟨WEFT_SLOT_STATUS, 3, 1⟩
def WEFT_SLOT_STATUS_TYPE : Fld := ⟨WEFT_SLOT_STATUS, 4, 2⟩
def WEFT_SLOT_STATUS_MISSED : Fld := ⟨WEFT_SLOT_STATUS, 8, 8⟩
def WEFT_SLOT_STATUS_CAUSE : Fld := ⟨WEFT_SLOT_STATUS, 16, 3⟩
/-- WEFT_SLOT_COUNT, 11_weft_bus.md R309. -/
def WEFT_SLOT_COUNT : Reg := ⟨0xb0108, 16, 64, 32, 0x0, 0, 0x0, 0x0⟩
def WEFT_SLOT_COUNT_LOSSES : Fld := ⟨WEFT_SLOT_COUNT, 0, 16⟩
def WEFT_SLOT_COUNT_ERRORS : Fld := ⟨WEFT_SLOT_COUNT, 16, 16⟩
/-- WEFT_SLOT_DEV, 11_weft_bus.md R309. -/
def WEFT_SLOT_DEV : Reg := ⟨0xb010c, 16, 64, 32, 0x0, 0, 0x0, 0x0⟩
def WEFT_SLOT_DEV_NS : Fld := ⟨WEFT_SLOT_DEV, 0, 32⟩
/-- WEFT_HOOK, 11_weft_bus.md R309. -/
def WEFT_HOOK : Reg := ⟨0xb0800, 8, 8, 32, 0x0, 0, 0x0, 0x0⟩
def WEFT_HOOK_PICK : Fld := ⟨WEFT_HOOK, 0, 10⟩
def WEFT_HOOK_THREAD : Fld := ⟨WEFT_HOOK, 16, 8⟩
def WEFT_HOOK_THREAD_EN : Fld := ⟨WEFT_HOOK, 24, 1⟩
def WEFT_HOOK_TASK : Fld := ⟨WEFT_HOOK, 25, 3⟩
def WEFT_HOOK_TASK_EN : Fld := ⟨WEFT_HOOK, 28, 1⟩
def WEFT_HOOK_ARMED : Fld := ⟨WEFT_HOOK, 29, 1⟩
/-- WEFT_HOOK_OFFSET, 11_weft_bus.md R309. -/
def WEFT_HOOK_OFFSET : Reg := ⟨0xb0804, 8, 8, 32, 0x0, 0, 0x0, 0x0⟩
def WEFT_HOOK_OFFSET_NS : Fld := ⟨WEFT_HOOK_OFFSET, 0, 32⟩
/-- ETH_STATUS, 12_ethernet_and_time.md R334. -/
def ETH_STATUS : Reg := ⟨0xc0000, 0, 1, 32, 0x0, 0, 0x0, 0x10⟩
def ETH_STATUS_PORT_EN : Fld := ⟨ETH_STATUS, 0, 3⟩
def ETH_STATUS_DEFAULTS : Fld := ⟨ETH_STATUS, 3, 1⟩
def ETH_STATUS_RX_AGED : Fld := ⟨ETH_STATUS, 4, 1⟩
def ETH_STATUS_DISCARDS : Fld := ⟨ETH_STATUS, 16, 16⟩
/-- ETH_PTP_STATUS, 12_ethernet_and_time.md R334. -/
def ETH_PTP_STATUS : Reg := ⟨0xc0008, 0, 1, 32, 0x0, 0, 0x0, 0x80⟩
def ETH_PTP_STATUS_PORT_STATE : Fld := ⟨ETH_PTP_STATUS, 0, 4⟩
def ETH_PTP_STATUS_PROFILE : Fld := ⟨ETH_PTP_STATUS, 4, 2⟩
def ETH_PTP_STATUS_TWO_STEP : Fld := ⟨ETH_PTP_STATUS, 6, 1⟩
def ETH_PTP_STATUS_GM_CHANGED : Fld := ⟨ETH_PTP_STATUS, 7, 1⟩
def ETH_PTP_STATUS_SYNCS : Fld := ⟨ETH_PTP_STATUS, 16, 16⟩
/-- ETH_PTP_GM, 12_ethernet_and_time.md R334. -/
def ETH_PTP_GM : Reg := ⟨0xc0010, 0, 1, 64, 0x0, 0, 0x0, 0x0⟩
def ETH_PTP_GM_IDENTITY : Fld := ⟨ETH_PTP_GM, 0, 64⟩
/-- ETH_SVC_STATUS, 12_ethernet_and_time.md R334. -/
def ETH_SVC_STATUS : Reg := ⟨0xc0018, 0, 1, 32, 0x0, 0, 0x0, 0x0⟩
def ETH_SVC_STATUS_OPEN : Fld := ⟨ETH_SVC_STATUS, 0, 5⟩
def ETH_SVC_STATUS_BAD : Fld := ⟨ETH_SVC_STATUS, 16, 8⟩
def ETH_SVC_STATUS_SEQ_DROPS : Fld := ⟨ETH_SVC_STATUS, 24, 8⟩
/-- ETH_PORT_STATUS, 12_ethernet_and_time.md R334. -/
def ETH_PORT_STATUS : Reg := ⟨0xc0100, 32, 3, 32, 0x0, 0, 0x0, 0x2⟩
def ETH_PORT_STATUS_LINK : Fld := ⟨ETH_PORT_STATUS, 0, 1⟩
def ETH_PORT_STATUS_LINK_LOST : Fld := ⟨ETH_PORT_STATUS, 1, 1⟩
def ETH_PORT_STATUS_PEER_DELAY_NS : Fld := ⟨ETH_PORT_STATUS, 16, 16⟩
/-- ETH_PORT_COUNT, 12_ethernet_and_time.md R334. -/
def ETH_PORT_COUNT : Reg := ⟨0xc0108, 32, 3, 64, 0x0, 0, 0x0, 0x0⟩
def ETH_PORT_COUNT_RX : Fld := ⟨ETH_PORT_COUNT, 0, 32⟩
def ETH_PORT_COUNT_TX : Fld := ⟨ETH_PORT_COUNT, 32, 32⟩
/-- ETH_PORT_DROP, 12_ethernet_and_time.md R334. -/
def ETH_PORT_DROP : Reg := ⟨0xc0110, 32, 3, 32, 0x0, 0, 0x0, 0x0⟩
def ETH_PORT_DROP_QUEUE_FULL : Fld := ⟨ETH_PORT_DROP, 0, 16⟩
def ETH_PORT_DROP_RX_ERR : Fld := ⟨ETH_PORT_DROP, 16, 16⟩
/-- ETH_SVC_SESSION, 12_ethernet_and_time.md R334. -/
def ETH_SVC_SESSION : Reg := ⟨0xc0400, 16, 16, 32, 0x0, 0, 0x0, 0x0⟩
def ETH_SVC_SESSION_ACTIVE : Fld := ⟨ETH_SVC_SESSION, 0, 1⟩
def ETH_SVC_SESSION_LEVEL : Fld := ⟨ETH_SVC_SESSION, 1, 2⟩
def ETH_SVC_SESSION_THREAD : Fld := ⟨ETH_SVC_SESSION, 8, 8⟩
def ETH_SVC_SESSION_SESSION : Fld := ⟨ETH_SVC_SESSION, 16, 16⟩
/-- ETH_SVC_HOST, 12_ethernet_and_time.md R334. -/
def ETH_SVC_HOST : Reg := ⟨0xc0404, 16, 16, 64, 0x0, 0, 0x0, 0x0⟩
def ETH_SVC_HOST_ADDR : Fld := ⟨ETH_SVC_HOST, 0, 32⟩
def ETH_SVC_HOST_UDP_PORT : Fld := ⟨ETH_SVC_HOST, 32, 16⟩
/-- ETH_STREAM_STATUS, 12_ethernet_and_time.md R334. -/
def ETH_STREAM_STATUS : Reg := ⟨0xc0800, 16, 16, 32, 0x0, 0, 0x0, 0x0⟩
def ETH_STREAM_STATUS_ARMED : Fld := ⟨ETH_STREAM_STATUS, 0, 1⟩
def ETH_STREAM_STATUS_QUEUED : Fld := ⟨ETH_STREAM_STATUS, 8, 8⟩
def ETH_STREAM_STATUS_DROPPED : Fld := ⟨ETH_STREAM_STATUS, 16, 16⟩
/-- ETH_STREAM_SEQ, 12_ethernet_and_time.md R334. -/
def ETH_STREAM_SEQ : Reg := ⟨0xc0804, 16, 16, 32, 0x0, 0, 0x0, 0x0⟩
def ETH_STREAM_SEQ_SEQ : Fld := ⟨ETH_STREAM_SEQ, 0, 32⟩
/-- CAN_STATUS, 13_can_and_loop_ports.md R365. -/
def CAN_STATUS : Reg := ⟨0xd0000, 0, 1, 32, 0x0, 0, 0x0, 0x0⟩
def CAN_STATUS_DEFINED : Fld := ⟨CAN_STATUS, 0, 4⟩
/-- CAN_C_STATE, 13_can_and_loop_ports.md R365. -/
def CAN_C_STATE : Reg := ⟨0xd0100, 64, 4, 32, 0x0, 0, 0x0, 0x0⟩
def CAN_C_STATE_STATE : Fld := ⟨CAN_C_STATE, 0, 3⟩
def CAN_C_STATE_TEC : Fld := ⟨CAN_C_STATE, 8, 8⟩
def CAN_C_STATE_REC : Fld := ⟨CAN_C_STATE, 16, 8⟩
def CAN_C_STATE_PENDING : Fld := ⟨CAN_C_STATE, 24, 8⟩
/-- CAN_C_FLAGS, 13_can_and_loop_ports.md R365. -/
def CAN_C_FLAGS : Reg := ⟨0xd0104, 64, 4, 32, 0x0, 0, 0x0, 0xff⟩
def CAN_C_FLAGS_PASSIVE_SEEN : Fld := ⟨CAN_C_FLAGS, 0, 1⟩
def CAN_C_FLAGS_BUS_OFF_SEEN : Fld := ⟨CAN_C_FLAGS, 1, 1⟩
def CAN_C_FLAGS_Q0_OVF : Fld := ⟨CAN_C_FLAGS, 2, 1⟩
def CAN_C_FLAGS_STALE : Fld := ⟨CAN_C_FLAGS, 3, 1⟩
def CAN_C_FLAGS_TX_OVW : Fld := ⟨CAN_C_FLAGS, 4, 1⟩
def CAN_C_FLAGS_TX_SAT : Fld := ⟨CAN_C_FLAGS, 5, 1⟩
def CAN_C_FLAGS_SHORT_FRAME : Fld := ⟨CAN_C_FLAGS, 6, 1⟩
def CAN_C_FLAGS_TDC_RANGE : Fld := ⟨CAN_C_FLAGS, 7, 1⟩
/-- CAN_C_COUNT, 13_can_and_loop_ports.md R365. -/
def CAN_C_COUNT : Reg := ⟨0xd0108, 64, 4, 64, 0x0, 0, 0x0, 0x0⟩
def CAN_C_COUNT_RX : Fld := ⟨CAN_C_COUNT, 0, 32⟩
def CAN_C_COUNT_TX : Fld := ⟨CAN_C_COUNT, 32, 32⟩
/-- CAN_C_DROPS, 13_can_and_loop_ports.md R365. -/
def CAN_C_DROPS : Reg := ⟨0xd0110, 64, 4, 32, 0x0, 0, 0x0, 0x0⟩
def CAN_C_DROPS_UNMATCHED : Fld := ⟨CAN_C_DROPS, 0, 16⟩
def CAN_C_DROPS_Q0_DROPPED : Fld := ⟨CAN_C_DROPS, 16, 16⟩
/-- CAN_C_COLL, 13_can_and_loop_ports.md R365. -/
def CAN_C_COLL : Reg := ⟨0xd0114, 64, 4, 32, 0x0, 0, 0x0, 0x0⟩
def CAN_C_COLL_CONSEC_MAX : Fld := ⟨CAN_C_COLL, 0, 8⟩
def CAN_C_COLL_BUFFER : Fld := ⟨CAN_C_COLL, 8, 5⟩
def CAN_C_COLL_TOTAL : Fld := ⟨CAN_C_COLL, 16, 16⟩
/-- CAN_C_MONQ, 13_can_and_loop_ports.md R365. -/
def CAN_C_MONQ : Reg := ⟨0xd0118, 64, 4, 32, 0x0, 0, 0x0, 0x0⟩
def CAN_C_MONQ_NUMBER : Fld := ⟨CAN_C_MONQ, 0, 32⟩
/-- CAN_C_TDC, 13_can_and_loop_ports.md R365. -/
def CAN_C_TDC : Reg := ⟨0xd011c, 64, 4, 32, 0x0, 0, 0x0, 0x0⟩
def CAN_C_TDC_DELAY : Fld := ⟨CAN_C_TDC, 0, 8⟩
def CAN_C_TDC_TDCO : Fld := ⟨CAN_C_TDC, 8, 8⟩
/-- LPP_STATUS, 13_can_and_loop_ports.md R366. -/
def LPP_STATUS : Reg := ⟨0xe0000, 0, 1, 32, 0x0, 0, 0x0, 0x0⟩
def LPP_STATUS_DEFINED : Fld := ⟨LPP_STATUS, 0, 8⟩
/-- LPP_P_STATE, 13_can_and_loop_ports.md R366. -/
def LPP_P_STATE : Reg := ⟨0xe0100, 32, 8, 32, 0x5, 0, 0x0, 0x0⟩
def LPP_P_STATE_STATUS : Fld := ⟨LPP_P_STATE, 0, 3⟩
def LPP_P_STATE_MODE : Fld := ⟨LPP_P_STATE, 3, 2⟩
def LPP_P_STATE_HART_EN : Fld := ⟨LPP_P_STATE, 5, 1⟩
def LPP_P_STATE_MULTIDROP : Fld := ⟨LPP_P_STATE, 6, 1⟩
def LPP_P_STATE_HEADROOM_NOW : Fld := ⟨LPP_P_STATE, 7, 1⟩
def LPP_P_STATE_ENTRY : Fld := ⟨LPP_P_STATE, 8, 4⟩
/-- LPP_P_FLAGS, 13_can_and_loop_ports.md R366. -/
def LPP_P_FLAGS : Reg := ⟨0xe0104, 32, 8, 32, 0x0, 0, 0x0, 0x1f⟩
def LPP_P_FLAGS_LOW : Fld := ⟨LPP_P_FLAGS, 0, 1⟩
def LPP_P_FLAGS_HIGH : Fld := ⟨LPP_P_FLAGS, 1, 1⟩
def LPP_P_FLAGS_HEADROOM : Fld := ⟨LPP_P_FLAGS, 2, 1⟩
def LPP_P_FLAGS_CMD_LIMIT : Fld := ⟨LPP_P_FLAGS, 3, 1⟩
def LPP_P_FLAGS_HART_FAIL : Fld := ⟨LPP_P_FLAGS, 4, 1⟩
/-- LPP_P_DELAY, 13_can_and_loop_ports.md R366. -/
def LPP_P_DELAY : Reg := ⟨0xe0108, 32, 8, 32, 0x0, 0, 0x0, 0x0⟩
def LPP_P_DELAY_NS : Fld := ⟨LPP_P_DELAY, 0, 32⟩
/-- LPP_P_HART, 13_can_and_loop_ports.md R366. -/
def LPP_P_HART : Reg := ⟨0xe010c, 32, 8, 64, 0x0, 0, 0x0, 0x0⟩
def LPP_P_HART_TRANSACTIONS : Fld := ⟨LPP_P_HART, 0, 16⟩
def LPP_P_HART_FAILURES : Fld := ⟨LPP_P_HART, 16, 16⟩
def LPP_P_HART_RESPONSE_CODE : Fld := ⟨LPP_P_HART, 32, 8⟩
def LPP_P_HART_DEVICE_STATUS : Fld := ⟨LPP_P_HART, 40, 8⟩
def LPP_P_HART_DISCARDED : Fld := ⟨LPP_P_HART, 48, 16⟩
/-- STORE_STATUS, 14_skein_store.md R387. -/
def STORE_STATUS : Reg := ⟨0xf0000, 0, 1, 32, 0x0, 0, 0x0, 0x0⟩
def STORE_STATUS_STATE : Fld := ⟨STORE_STATUS, 0, 3⟩
def STORE_STATUS_DEGRADED : Fld := ⟨STORE_STATUS, 3, 1⟩
def STORE_STATUS_FORMATTED : Fld := ⟨STORE_STATUS, 4, 1⟩
def STORE_STATUS_DIES : Fld := ⟨STORE_STATUS, 8, 6⟩
def STORE_STATUS_SPARES : Fld := ⟨STORE_STATUS, 16, 4⟩
/-- STORE_FLAGS, 14_skein_store.md R387. -/
def STORE_FLAGS : Reg := ⟨0xf0004, 0, 1, 32, 0x0, 0, 0x0, 0x1ff⟩
def STORE_FLAGS_RECOVERED : Fld := ⟨STORE_FLAGS, 0, 1⟩
def STORE_FLAGS_LOST : Fld := ⟨STORE_FLAGS, 1, 1⟩
def STORE_FLAGS_BLOCK_RETIRED : Fld := ⟨STORE_FLAGS, 2, 1⟩
def STORE_FLAGS_RESERVE_LOW : Fld := ⟨STORE_FLAGS, 3, 1⟩
def STORE_FLAGS_DIE_RETIRED : Fld := ⟨STORE_FLAGS, 4, 1⟩
def STORE_FLAGS_QUEUE_FULL : Fld := ⟨STORE_FLAGS, 5, 1⟩
def STORE_FLAGS_TORN : Fld := ⟨STORE_FLAGS, 6, 1⟩
def STORE_FLAGS_FLUSH_SHORT : Fld := ⟨STORE_FLAGS, 7, 1⟩
def STORE_FLAGS_LIFE_LOW : Fld := ⟨STORE_FLAGS, 8, 1⟩
/-- STORE_OPS, 14_skein_store.md R387. -/
def STORE_OPS : Reg := ⟨0xf0008, 0, 1, 32, 0x0, 0, 0x0, 0x0⟩
def STORE_OPS_IN_FLIGHT : Fld := ⟨STORE_OPS, 0, 9⟩
def STORE_OPS_MAX : Fld := ⟨STORE_OPS, 16, 9⟩
/-- STORE_RATE, 14_skein_store.md R387. -/
def STORE_RATE : Reg := ⟨0xf000c, 0, 1, 32, 0x0, 0, 0x0, 0x0⟩
def STORE_RATE_WRITE_MBS : Fld := ⟨STORE_RATE, 0, 16⟩
def STORE_RATE_WA_MILLI : Fld := ⟨STORE_RATE, 16, 16⟩
/-- STORE_LIFE, 14_skein_store.md R387. -/
def STORE_LIFE : Reg := ⟨0xf0010, 0, 1, 64, 0x0, 0, 0x0, 0x0⟩
def STORE_LIFE_PE_USED : Fld := ⟨STORE_LIFE, 0, 16⟩
def STORE_LIFE_RESERVE_MIN : Fld := ⟨STORE_LIFE, 16, 16⟩
def STORE_LIFE_YEARS : Fld := ⟨STORE_LIFE, 32, 16⟩
/-- STORE_ECC, 14_skein_store.md R387. -/
def STORE_ECC : Reg := ⟨0xf0018, 0, 1, 64, 0x0, 0, 0x0, 0x0⟩
def STORE_ECC_MAX_BITS : Fld := ⟨STORE_ECC, 0, 16⟩
def STORE_ECC_RETRIES : Fld := ⟨STORE_ECC, 16, 16⟩
def STORE_ECC_RECOVERED : Fld := ⟨STORE_ECC, 32, 16⟩
def STORE_ECC_LOST : Fld := ⟨STORE_ECC, 48, 16⟩
/-- STORE_MAINT, 14_skein_store.md R387. -/
def STORE_MAINT : Reg := ⟨0xf0020, 0, 1, 64, 0x0, 0, 0x0, 0x0⟩
def STORE_MAINT_REFRESHES : Fld := ⟨STORE_MAINT, 0, 16⟩
def STORE_MAINT_WL_MOVES : Fld := ⟨STORE_MAINT, 16, 16⟩
def STORE_MAINT_SCRUB_PASSES : Fld := ⟨STORE_MAINT, 32, 16⟩
def STORE_MAINT_TORN_PAGES : Fld := ⟨STORE_MAINT, 48, 16⟩
/-- STORE_SK_SIZE, 14_skein_store.md R387. -/
def STORE_SK_SIZE : Reg := ⟨0xf0040, 32, 4, 64, 0x0, 0, 0x0, 0x0⟩
def STORE_SK_SIZE_BYTES : Fld := ⟨STORE_SK_SIZE, 0, 64⟩
/-- STORE_SK_HEAD, 14_skein_store.md R387. -/
def STORE_SK_HEAD : Reg := ⟨0xf0048, 32, 4, 64, 0x0, 0, 0x0, 0x0⟩
def STORE_SK_HEAD_BYTES : Fld := ⟨STORE_SK_HEAD, 0, 64⟩
/-- STORE_SK_TAIL, 14_skein_store.md R387. -/
def STORE_SK_TAIL : Reg := ⟨0xf0050, 32, 4, 64, 0x0, 0, 0x0, 0x0⟩
def STORE_SK_TAIL_BYTES : Fld := ⟨STORE_SK_TAIL, 0, 64⟩
/-- STORE_SK_STATUS, 14_skein_store.md R387. -/
def STORE_SK_STATUS : Reg := ⟨0xf0058, 32, 4, 32, 0x0, 0, 0x0, 0x0⟩
def STORE_SK_STATUS_PARITY : Fld := ⟨STORE_SK_STATUS, 0, 1⟩
def STORE_SK_STATUS_MIRROR : Fld := ⟨STORE_SK_STATUS, 1, 1⟩
def STORE_SK_STATUS_LOST_SECTORS : Fld := ⟨STORE_SK_STATUS, 16, 16⟩
/-- STORE_DIE_STATUS, 14_skein_store.md R387. -/
def STORE_DIE_STATUS : Reg := ⟨0xf0100, 16, 32, 32, 0x0, 0, 0x0, 0x0⟩
def STORE_DIE_STATUS_ROLE : Fld := ⟨STORE_DIE_STATUS, 0, 2⟩
def STORE_DIE_STATUS_ERASING : Fld := ⟨STORE_DIE_STATUS, 2, 1⟩
def STORE_DIE_STATUS_RESERVE : Fld := ⟨STORE_DIE_STATUS, 4, 10⟩
def STORE_DIE_STATUS_BAD_BLOCKS : Fld := ⟨STORE_DIE_STATUS, 16, 16⟩
/-- STORE_DIE_WEAR, 14_skein_store.md R387. -/
def STORE_DIE_WEAR : Reg := ⟨0xf0108, 16, 32, 64, 0x0, 0, 0x0, 0x0⟩
def STORE_DIE_WEAR_ERASE_MIN : Fld := ⟨STORE_DIE_WEAR, 0, 16⟩
def STORE_DIE_WEAR_ERASE_MAX : Fld := ⟨STORE_DIE_WEAR, 16, 16⟩
def STORE_DIE_WEAR_ERASE_MEAN : Fld := ⟨STORE_DIE_WEAR, 32, 16⟩
def STORE_DIE_WEAR_LOST : Fld := ⟨STORE_DIE_WEAR, 48, 16⟩
/-- REC_STATUS, 15_recording_and_acquisition.md R419. -/
def REC_STATUS : Reg := ⟨0x100000, 0, 1, 32, 0x0, 0, 0x0, 0x3c⟩
def REC_STATUS_HIST_RUN : Fld := ⟨REC_STATUS, 0, 1⟩
def REC_STATUS_PFAIL : Fld := ⟨REC_STATUS, 1, 1⟩
def REC_STATUS_HOLDUP_LOW : Fld := ⟨REC_STATUS, 2, 1⟩
def REC_STATUS_HIST_LOSS : Fld := ⟨REC_STATUS, 3, 1⟩
def REC_STATUS_LOG_DROP : Fld := ⟨REC_STATUS, 4, 1⟩
def REC_STATUS_SNAP_REFUSED : Fld := ⟨REC_STATUS, 5, 1⟩
def REC_STATUS_ARMED : Fld := ⟨REC_STATUS, 16, 16⟩
/-- REC_EVENT_SEQ, 15_recording_and_acquisition.md R419. -/
def REC_EVENT_SEQ : Reg := ⟨0x100008, 0, 1, 64, 0x0, 0, 0x0, 0x0⟩
def REC_EVENT_SEQ_HIGHEST : Fld := ⟨REC_EVENT_SEQ, 0, 32⟩
def REC_EVENT_SEQ_LOWEST : Fld := ⟨REC_EVENT_SEQ, 32, 32⟩
/-- REC_EVENT_COUNT, 15_recording_and_acquisition.md R419. -/
def REC_EVENT_COUNT : Reg := ⟨0x100010, 0, 1, 64, 0x0, 0, 0x0, 0x0⟩
def REC_EVENT_COUNT_OVERWRITTEN : Fld := ⟨REC_EVENT_COUNT, 0, 32⟩
def REC_EVENT_COUNT_DROPPED : Fld := ⟨REC_EVENT_COUNT, 32, 32⟩
/-- REC_EVENT_BUF, 15_recording_and_acquisition.md R419. -/
def REC_EVENT_BUF : Reg := ⟨0x100018, 0, 1, 32, 0x0, 0, 0x0, 0x0⟩
def REC_EVENT_BUF_UNWRITTEN : Fld := ⟨REC_EVENT_BUF, 0, 12⟩
def REC_EVENT_BUF_WRITES : Fld := ⟨REC_EVENT_BUF, 16, 16⟩
/-- REC_LIFE, 15_recording_and_acquisition.md R419. -/
def REC_LIFE : Reg := ⟨0x100020, 0, 1, 64, 0x0, 0, 0x0, 0x0⟩
def REC_LIFE_OP_MS : Fld := ⟨REC_LIFE, 0, 40⟩
def REC_LIFE_POWER_CYCLE : Fld := ⟨REC_LIFE, 40, 24⟩
/-- REC_HIST, 15_recording_and_acquisition.md R419. -/
def REC_HIST : Reg := ⟨0x100028, 0, 1, 64, 0x0, 0, 0x0, 0x0⟩
def REC_HIST_RATE_KBS : Fld := ⟨REC_HIST, 0, 32⟩
def REC_HIST_LOST_ENTRIES : Fld := ⟨REC_HIST, 32, 32⟩
/-- REC_HOLDUP, 15_recording_and_acquisition.md R419. -/
def REC_HOLDUP : Reg := ⟨0x100030, 0, 1, 32, 0x0, 0, 0x0, 0x0⟩
def REC_HOLDUP_NEED_US : Fld := ⟨REC_HOLDUP, 0, 16⟩
def REC_HOLDUP_HOLDUP_US : Fld := ⟨REC_HOLDUP, 16, 16⟩
/-- REC_STR_STATUS, 15_recording_and_acquisition.md R419. -/
def REC_STR_STATUS : Reg := ⟨0x100100, 32, 16, 32, 0x0, 0, 0x0, 0xc⟩
def REC_STR_STATUS_STATE : Fld := ⟨REC_STR_STATUS, 0, 2⟩
def REC_STR_STATUS_OVERFLOW : Fld := ⟨REC_STR_STATUS, 2, 1⟩
def REC_STR_STATUS_TRIG_SEEN : Fld := ⟨REC_STR_STATUS, 3, 1⟩
def REC_STR_STATUS_SUPPRESSED : Fld := ⟨REC_STR_STATUS, 16, 16⟩
/-- REC_STR_ARM, 15_recording_and_acquisition.md R419. -/
def REC_STR_ARM : Reg := ⟨0x100104, 32, 16, 32, 0x0, 0, 0x0, 0x0⟩
def REC_STR_ARM_ARM_ID : Fld := ⟨REC_STR_ARM, 0, 32⟩
/-- REC_STR_TRIG, 15_recording_and_acquisition.md R419. -/
def REC_STR_TRIG : Reg := ⟨0x100108, 32, 16, 64, 0x0, 0, 0x0, 0x0⟩
def REC_STR_TRIG_STAMP : Fld := ⟨REC_STR_TRIG, 0, 64⟩
/-- REC_STR_COUNT, 15_recording_and_acquisition.md R419. -/
def REC_STR_COUNT : Reg := ⟨0x100110, 32, 16, 64, 0x0, 0, 0x0, 0x0⟩
def REC_STR_COUNT_ENTRIES : Fld := ⟨REC_STR_COUNT, 0, 32⟩
def REC_STR_COUNT_MARKS : Fld := ⟨REC_STR_COUNT, 32, 16⟩
def REC_STR_COUNT_TRIGGERS : Fld := ⟨REC_STR_COUNT, 48, 16⟩
/-- SAFE_STATUS, 16_safety.md R444. -/
def SAFE_STATUS : Reg := ⟨0x110000, 0, 1, 32, 0x0, 0, 0x0, 0x0⟩
def SAFE_STATUS_STATE : Fld := ⟨SAFE_STATUS, 0, 2⟩
def SAFE_STATUS_DOMAIN_OK : Fld := ⟨SAFE_STATUS, 2, 1⟩
def SAFE_STATUS_PROC_OK : Fld := ⟨SAFE_STATUS, 3, 1⟩
def SAFE_STATUS_RESET_PIN : Fld := ⟨SAFE_STATUS, 4, 1⟩
def SAFE_STATUS_START_LOCKED : Fld := ⟨SAFE_STATUS, 5, 1⟩
def SAFE_STATUS_REFUSED : Fld := ⟨SAFE_STATUS, 16, 16⟩
/-- SAFE_LOCK_STAMP, 16_safety.md R444. -/
def SAFE_LOCK_STAMP : Reg := ⟨0x110008, 0, 1, 64, 0x0, 0, 0x0, 0x0⟩
def SAFE_LOCK_STAMP_STAMP : Fld := ⟨SAFE_LOCK_STAMP, 0, 64⟩
/-- SAFE_LOCK_CAUSE, 16_safety.md R444. -/
def SAFE_LOCK_CAUSE : Reg := ⟨0x110010, 0, 1, 32, 0x0, 0, 0x0, 0x0⟩
def SAFE_LOCK_CAUSE_CODE : Fld := ⟨SAFE_LOCK_CAUSE, 0, 16⟩
def SAFE_LOCK_CAUSE_INDEX : Fld := ⟨SAFE_LOCK_CAUSE, 16, 5⟩
def SAFE_LOCK_CAUSE_CHANNEL : Fld := ⟨SAFE_LOCK_CAUSE, 21, 1⟩
def SAFE_LOCK_CAUSE_SWITCH : Fld := ⟨SAFE_LOCK_CAUSE, 22, 1⟩
/-- SAFE_COUNTS, 16_safety.md R444. -/
def SAFE_COUNTS : Reg := ⟨0x110014, 0, 1, 32, 0x0, 0, 0x0, 0x0⟩
def SAFE_COUNTS_LOCKOUTS : Fld := ⟨SAFE_COUNTS, 0, 16⟩
def SAFE_COUNTS_RESETS : Fld := ⟨SAFE_COUNTS, 16, 16⟩
/-- SAFE_PROC, 16_safety.md R444. -/
def SAFE_PROC : Reg := ⟨0x110018, 0, 1, 32, 0x0, 0, 0x0, 0x0⟩
def SAFE_PROC_LAST_US : Fld := ⟨SAFE_PROC, 0, 16⟩
def SAFE_PROC_MAX_US : Fld := ⟨SAFE_PROC, 16, 16⟩
/-- SAFE_IN, 16_safety.md R444. -/
def SAFE_IN : Reg := ⟨0x110100, 8, 24, 32, 0x2d, 0, 0x0, 0x0⟩
def SAFE_IN_STATE_H : Fld := ⟨SAFE_IN, 0, 3⟩
def SAFE_IN_STATE_P : Fld := ⟨SAFE_IN, 3, 3⟩
def SAFE_IN_RAW_A : Fld := ⟨SAFE_IN, 6, 1⟩
def SAFE_IN_RAW_B : Fld := ⟨SAFE_IN, 7, 1⟩
def SAFE_IN_DISC_SEEN : Fld := ⟨SAFE_IN, 8, 1⟩
def SAFE_IN_TP_FAIL : Fld := ⟨SAFE_IN, 9, 1⟩
def SAFE_IN_DEMANDS : Fld := ⟨SAFE_IN, 16, 16⟩
/-- SAFE_OUT, 16_safety.md R444. -/
def SAFE_OUT : Reg := ⟨0x110200, 8, 8, 32, 0x0, 0, 0x0, 0x0⟩
def SAFE_OUT_PERMIT : Fld := ⟨SAFE_OUT, 0, 1⟩
def SAFE_OUT_REQUEST : Fld := ⟨SAFE_OUT, 1, 1⟩
def SAFE_OUT_WAIT_EDGE : Fld := ⟨SAFE_OUT, 2, 1⟩
def SAFE_OUT_CMD_H : Fld := ⟨SAFE_OUT, 3, 1⟩
def SAFE_OUT_CMD_P : Fld := ⟨SAFE_OUT, 4, 1⟩
def SAFE_OUT_READBACK : Fld := ⟨SAFE_OUT, 5, 1⟩
def SAFE_OUT_RB_FAIL : Fld := ⟨SAFE_OUT, 6, 1⟩
def SAFE_OUT_NEXT_SWITCH : Fld := ⟨SAFE_OUT, 7, 1⟩
def SAFE_OUT_PULSES : Fld := ⟨SAFE_OUT, 16, 16⟩
/-- SAFE_TP, 16_safety.md R444. -/
def SAFE_TP : Reg := ⟨0x110300, 4, 4, 32, 0x0, 0, 0x0, 0x0⟩
def SAFE_TP_DRIVEN : Fld := ⟨SAFE_TP, 0, 1⟩
def SAFE_TP_LEVEL : Fld := ⟨SAFE_TP, 1, 1⟩
def SAFE_TP_PASSED : Fld := ⟨SAFE_TP, 16, 16⟩
/-- PAIR_STATUS, 17_pair_and_doffing.md R476. -/
def PAIR_STATUS : Reg := ⟨0x120000, 0, 1, 32, 0x0, 0, 0x0, 0x0⟩
def PAIR_STATUS_STATE : Fld := ⟨PAIR_STATUS, 0, 4⟩
def PAIR_STATUS_PREFERRED : Fld := ⟨PAIR_STATUS, 4, 1⟩
def PAIR_STATUS_ACTIVE_OUT : Fld := ⟨PAIR_STATUS, 5, 1⟩
def PAIR_STATUS_PEER_ACTIVE : Fld := ⟨PAIR_STATUS, 6, 1⟩
def PAIR_STATUS_PARTNER : Fld := ⟨PAIR_STATUS, 8, 6⟩
def PAIR_STATUS_EPOCH : Fld := ⟨PAIR_STATUS, 16, 16⟩
/-- PAIR_FLAGS, 17_pair_and_doffing.md R476. -/
def PAIR_FLAGS : Reg := ⟨0x120004, 0, 1, 32, 0x0, 0, 0x0, 0x3ff⟩
def PAIR_FLAGS_PARTNER_LOST : Fld := ⟨PAIR_FLAGS, 0, 1⟩
def PAIR_FLAGS_WITNESS_LOST : Fld := ⟨PAIR_FLAGS, 1, 1⟩
def PAIR_FLAGS_LINK_DOWN : Fld := ⟨PAIR_FLAGS, 2, 1⟩
def PAIR_FLAGS_TOOK_OVER : Fld := ⟨PAIR_FLAGS, 3, 1⟩
def PAIR_FLAGS_DEPOSED : Fld := ⟨PAIR_FLAGS, 4, 1⟩
def PAIR_FLAGS_JOIN_FAIL : Fld := ⟨PAIR_FLAGS, 5, 1⟩
def PAIR_FLAGS_FB_DIVERGE : Fld := ⟨PAIR_FLAGS, 6, 1⟩
def PAIR_FLAGS_ITEM_LATE : Fld := ⟨PAIR_FLAGS, 7, 1⟩
def PAIR_FLAGS_REPLAY_DIVERGE : Fld := ⟨PAIR_FLAGS, 8, 1⟩
def PAIR_FLAGS_TAKEOVER_IGNORED : Fld := ⟨PAIR_FLAGS, 9, 1⟩
/-- PAIR_LAG, 17_pair_and_doffing.md R476. -/
def PAIR_LAG : Reg := ⟨0x120008, 0, 1, 32, 0x0, 0, 0x0, 0x0⟩
def PAIR_LAG_CYCLES : Fld := ⟨PAIR_LAG, 0, 16⟩
def PAIR_LAG_JOINS : Fld := ⟨PAIR_LAG, 16, 16⟩
/-- PAIR_LINK, 17_pair_and_doffing.md R476. -/
def PAIR_LINK : Reg := ⟨0x120010, 0, 1, 64, 0x0, 0, 0x0, 0x0⟩
def PAIR_LINK_LOAD : Fld := ⟨PAIR_LINK, 0, 16⟩
def PAIR_LINK_LOAD_MAX : Fld := ⟨PAIR_LINK, 16, 16⟩
def PAIR_LINK_RETRIES : Fld := ⟨PAIR_LINK, 32, 16⟩
def PAIR_LINK_LATEST_NS : Fld := ⟨PAIR_LINK, 48, 16⟩
/-- PAIR_TAKEOVER, 17_pair_and_doffing.md R476. -/
def PAIR_TAKEOVER : Reg := ⟨0x120018, 0, 1, 64, 0x0, 0, 0x0, 0x0⟩
def PAIR_TAKEOVER_STAMP : Fld := ⟨PAIR_TAKEOVER, 0, 64⟩
/-- PAIR_W_STATE, 17_pair_and_doffing.md R476. -/
def PAIR_W_STATE : Reg := ⟨0x120100, 16, 30, 32, 0x0, 0, 0x0, 0x0⟩
def PAIR_W_STATE_ACTIVE_NODE : Fld := ⟨PAIR_W_STATE, 0, 6⟩
def PAIR_W_STATE_MISSES : Fld := ⟨PAIR_W_STATE, 6, 2⟩
def PAIR_W_STATE_PAIR : Fld := ⟨PAIR_W_STATE, 8, 5⟩
def PAIR_W_STATE_TAKEOVERS : Fld := ⟨PAIR_W_STATE, 16, 16⟩
/-- PAIR_W_LAST, 17_pair_and_doffing.md R476. -/
def PAIR_W_LAST : Reg := ⟨0x120108, 16, 30, 64, 0x0, 0, 0x0, 0x0⟩
def PAIR_W_LAST_STAMP : Fld := ⟨PAIR_W_LAST, 0, 64⟩
/-- RSV_STATUS, 17_pair_and_doffing.md R477. -/
def RSV_STATUS : Reg := ⟨0x130000, 0, 1, 32, 0x7, 0, 0x0, 0x0⟩
def RSV_STATUS_CORE_SPARE : Fld := ⟨RSV_STATUS, 0, 1⟩
def RSV_STATUS_PLY_SPARE : Fld := ⟨RSV_STATUS, 1, 1⟩
def RSV_STATUS_SHU_SPARE : Fld := ⟨RSV_STATUS, 2, 1⟩
def RSV_STATUS_MIGRATING : Fld := ⟨RSV_STATUS, 3, 1⟩
def RSV_STATUS_ROWS_MIN : Fld := ⟨RSV_STATUS, 8, 8⟩
def RSV_STATUS_DOFFS : Fld := ⟨RSV_STATUS, 16, 16⟩
/-- RSV_FLAGS, 17_pair_and_doffing.md R477. -/
def RSV_FLAGS : Reg := ⟨0x130004, 0, 1, 32, 0x0, 0, 0x0, 0x3f⟩
def RSV_FLAGS_POOL_EMPTY : Fld := ⟨RSV_FLAGS, 0, 1⟩
def RSV_FLAGS_UNPLACED : Fld := ⟨RSV_FLAGS, 1, 1⟩
def RSV_FLAGS_AGE_LOW : Fld := ⟨RSV_FLAGS, 2, 1⟩
def RSV_FLAGS_ROW_REPAIRED : Fld := ⟨RSV_FLAGS, 3, 1⟩
def RSV_FLAGS_BIST_FAIL : Fld := ⟨RSV_FLAGS, 4, 1⟩
def RSV_FLAGS_RESIDUE : Fld := ⟨RSV_FLAGS, 5, 1⟩
/-- RSV_RETIRED, 17_pair_and_doffing.md R477. -/
def RSV_RETIRED : Reg := ⟨0x130008, 0, 1, 32, 0x0, 0, 0x0, 0x0⟩
def RSV_RETIRED_PLY : Fld := ⟨RSV_RETIRED, 0, 9⟩
def RSV_RETIRED_CORE : Fld := ⟨RSV_RETIRED, 16, 5⟩
def RSV_RETIRED_SHU : Fld := ⟨RSV_RETIRED, 24, 3⟩
/-- RSV_LAST, 17_pair_and_doffing.md R477. -/
def RSV_LAST : Reg := ⟨0x130010, 0, 1, 64, 0x0, 0, 0x0, 0x0⟩
def RSV_LAST_STAMP : Fld := ⟨RSV_LAST, 0, 64⟩
/-- RSV_AGE, 17_pair_and_doffing.md R477. -/
def RSV_AGE : Reg := ⟨0x130100, 4, 6, 32, 0x0, 0, 0x0, 0x0⟩
def RSV_AGE_MARGIN : Fld := ⟨RSV_AGE, 0, 16⟩
def RSV_AGE_WORST : Fld := ⟨RSV_AGE, 16, 8⟩
/-- FLT_STATUS, 18_fault_catalogue.md R490. -/
def FLT_STATUS : Reg := ⟨0x140000, 0, 1, 32, 0x0, 0, 0x0, 0x0⟩
def FLT_STATUS_MAX_CLASS : Fld := ⟨FLT_STATUS, 0, 3⟩
def FLT_STATUS_STOPPED : Fld := ⟨FLT_STATUS, 3, 1⟩
def FLT_STATUS_LOCKED : Fld := ⟨FLT_STATUS, 4, 1⟩
def FLT_STATUS_ACTIVE : Fld := ⟨FLT_STATUS, 8, 8⟩
/-- FLT_LAST, 18_fault_catalogue.md R490. -/
def FLT_LAST : Reg := ⟨0x140008, 0, 1, 64, 0x0, 0, 0x0, 0x0⟩
def FLT_LAST_SEQ : Fld := ⟨FLT_LAST, 0, 32⟩
def FLT_LAST_CODE : Fld := ⟨FLT_LAST, 32, 16⟩
def FLT_LAST_CLASS : Fld := ⟨FLT_LAST, 48, 3⟩
def FLT_LAST_CLEARED : Fld := ⟨FLT_LAST, 51, 1⟩
/-- FLT_COUNTS, 18_fault_catalogue.md R490. -/
def FLT_COUNTS : Reg := ⟨0x140010, 0, 1, 64, 0x0, 0, 0x0, 0x0⟩
def FLT_COUNTS_F0 : Fld := ⟨FLT_COUNTS, 0, 10⟩
def FLT_COUNTS_F1 : Fld := ⟨FLT_COUNTS, 10, 10⟩
def FLT_COUNTS_F2 : Fld := ⟨FLT_COUNTS, 20, 10⟩
def FLT_COUNTS_F3 : Fld := ⟨FLT_COUNTS, 30, 10⟩
def FLT_COUNTS_F4 : Fld := ⟨FLT_COUNTS, 40, 10⟩
def FLT_COUNTS_F5 : Fld := ⟨FLT_COUNTS, 50, 10⟩
/-- FLT_ACTIVE, 18_fault_catalogue.md R490. -/
def FLT_ACTIVE : Reg := ⟨0x141000, 32, 21, 256, 0x0, 0, 0x0, 0x0⟩
def FLT_ACTIVE_FAULTS : Fld := ⟨FLT_ACTIVE, 0, 256⟩
/-- SYS_STATUS, 19_pins_and_electrical.md R508. -/
def SYS_STATUS : Reg := ⟨0x10000, 0, 1, 32, 0x0, 0, 0x0, 0x0⟩
def SYS_STATUS_JTAG_EN : Fld := ⟨SYS_STATUS, 0, 1⟩
def SYS_STATUS_TEST : Fld := ⟨SYS_STATUS, 1, 1⟩
def SYS_STATUS_PFAIL : Fld := ⟨SYS_STATUS, 2, 1⟩
def SYS_STATUS_HALTED : Fld := ⟨SYS_STATUS, 3, 1⟩
def SYS_STATUS_TJ_HIGH : Fld := ⟨SYS_STATUS, 4, 1⟩
def SYS_STATUS_RESET_CAUSE : Fld := ⟨SYS_STATUS, 5, 3⟩
def SYS_STATUS_HALTS : Fld := ⟨SYS_STATUS, 16, 16⟩
/-- SYS_TEMP, 19_pins_and_electrical.md R508. -/
def SYS_TEMP : Reg := ⟨0x10008, 0, 1, 32, 0x0, 0, 0x0, 0x0⟩
def SYS_TEMP_TJ : Fld := ⟨SYS_TEMP, 0, 16⟩
def SYS_TEMP_TJ_MAX : Fld := ⟨SYS_TEMP, 16, 16⟩
/-- SYS_SUPPLY, 19_pins_and_electrical.md R508. -/
def SYS_SUPPLY : Reg := ⟨0x1000c, 0, 1, 32, 0x0, 0, 0x0, 0x0⟩
def SYS_SUPPLY_IN_RANGE : Fld := ⟨SYS_SUPPLY, 0, 9⟩
/-- SYS_RAIL, 19_pins_and_electrical.md R508. -/
def SYS_RAIL : Reg := ⟨0x10010, 4, 9, 32, 0x0, 0, 0x0, 0x0⟩
def SYS_RAIL_MV : Fld := ⟨SYS_RAIL, 0, 16⟩
def SYS_RAIL_MIN_MV : Fld := ⟨SYS_RAIL, 16, 16⟩
/-- SYS_GPIO_OUT, 19_pins_and_electrical.md R508. -/
def SYS_GPIO_OUT : Reg := ⟨0x10040, 0, 1, 32, 0x0, 0, 0x0, 0x0⟩
def SYS_GPIO_OUT_OUTPUT : Fld := ⟨SYS_GPIO_OUT, 0, 32⟩
/-- SYS_GPIO_PICK, 19_pins_and_electrical.md R508. -/
def SYS_GPIO_PICK : Reg := ⟨0x10044, 0, 1, 32, 0x0, 0, 0x0, 0x0⟩
def SYS_GPIO_PICK_PICK : Fld := ⟨SYS_GPIO_PICK, 0, 32⟩
/-- SYS_GPIO_LEVEL, 19_pins_and_electrical.md R508. -/
def SYS_GPIO_LEVEL : Reg := ⟨0x10048, 0, 1, 32, 0x0, 0, 0x0, 0x0⟩
def SYS_GPIO_LEVEL_LEVEL : Fld := ⟨SYS_GPIO_LEVEL, 0, 32⟩

/-- The registers of block ID. -/
def regsID : List Reg :=
  [ID_PART, ID_REV, ID_UNIQUE]
/-- The registers of block FUSE. -/
def regsFUSE : List Reg :=
  [FUSE_KEY0, FUSE_KEY1, FUSE_ARB, FUSE_CFG, FUSE_SAFETY, FUSE_REPAIR, FUSE_LDR_STATE, FUSE_LDR_SEQ, FUSE_LDR_TIME, FUSE_LDR_CONFLICTS, FUSE_XCHG, FUSE_XCHG_OLD, FUSE_XCHG_STAMP, FUSE_LDR_PATCH]
/-- The registers of block REEL. -/
def regsREEL : List Reg :=
  [REEL_TIME_STATUS, REEL_LOOM_TIME, REEL_LOCAL_TIME, REEL_STEER, REEL_PTP_OFFSET, REEL_EPOCH_OFFSET, REEL_STEP_OFFSET, REEL_COUNTS, REEL_MEAS_STATUS, REEL_MEAS_POS, REEL_MEAS_RATE, REEL_MEAS_SAMPLE, REEL_MEAS_EBOUND, REEL_CHAN_DELAY, REEL_PICK_STATUS, REEL_PICK_CFG, REEL_PICK_TARGET]
/-- The registers of block CREEL. -/
def regsCREEL : List Reg :=
  [CREEL_STATUS, CREEL_TICK0, CREEL_TICK1, CREEL_HELD, CREEL_CORE_STATE, CREEL_CORE_BUSY, CREEL_CORE_LAT, CREEL_THREAD_STATUS, CREEL_THREAD_COUNT, CREEL_THREAD_TIME]
/-- The registers of block PLY. -/
def regsPLY : List Reg :=
  [PLY_STATUS, PLY_ENG_STATUS, PLY_ENG_BUSY, PLY_ENG_LAT, PLY_ENG_COUNT, PLY_TRC_STATUS, PLY_TRC_PRE, PLY_TRC_ROW, PLY_TRC_TRIG, PLY_TRC_LOST, PLY_STATE, PLY_FLAGS, PLY_COUNTS, PLY_LAUNCHES, PLY_GRP_STATUS, PLY_GRP_LAST]
/-- The registers of block MOT. -/
def regsMOT : List Reg :=
  [MOT_STATUS, MOT_ENABLED, MOT_GRP_STATE, MOT_GRP_FLAGS, MOT_GRP_PATH, MOT_GRP_SPEED, MOT_GRP_CMD, MOT_AX_STATE, MOT_AX_FLAGS, MOT_AX_CMD_H, MOT_AX_CMD_S, MOT_AX_TARGET, MOT_AX_HOME_OFFSET, MOT_AX_REF_STAMP, MOT_AX_TRIP_POS, MOT_AX_FE_MAX, MOT_AX_GEAR]
/-- The registers of block DRV. -/
def regsDRV : List Reg :=
  [DRV_STATUS, DRV_GRP_STATUS, DRV_GRP_PERIOD, DRV_GRP_COUNT, DRV_GRP_RELOADS, DRV_AX_STATUS, DRV_AX_PINS, DRV_AX_THETA, DRV_SD_STATUS, DRV_SD_DELAY, DRV_AUX_STATUS, DRV_AUX_ALPHA]
/-- The registers of block FBK. -/
def regsFBK : List Reg :=
  [FBK_STATUS, FBK_FB_STATUS, FBK_FB_FLAGS, FBK_FB_POS, FBK_FB_EDGE, FBK_FB_SPEED, FBK_FB_INDEX_POS, FBK_FB_INDEX_STAMP, FBK_FB_INDEX, FBK_FB_ERRORS, FBK_FB_GLITCH]
/-- The registers of block SHU. -/
def regsSHU : List Reg :=
  [SHU_STATUS, SHU_XCHG, SHU_ENG_STATUS, SHU_ENG_BUSY, SHU_TASK_STATE, SHU_TASK_SCANS, SHU_TASK_SKIPS, SHU_TASK_PC, SHU_TASK_TIME, SHU_TASK_LAST, SHU_TASK_BKPT]
/-- The registers of block HANK. -/
def regsHANK : List Reg :=
  [HANK_STATUS, HANK_H_STATE, HANK_H_FLAGS, HANK_H_HOLD, HANK_H_REQ, HANK_H_BOUNDARY, HANK_H_END_AT, HANK_H_COUNT, HANK_H_RUNS, HANK_H_TAG, HANK_H_SELECT]
/-- The registers of block WEFT. -/
def regsWEFT : List Reg :=
  [WEFT_STATUS, WEFT_FLAGS, WEFT_CYCLE, WEFT_CYCLE_START, WEFT_SYNC, WEFT_DRIFT, WEFT_COUNTS, WEFT_CHAN_ERR, WEFT_SLOT_CFG, WEFT_SLOT_STATUS, WEFT_SLOT_COUNT, WEFT_SLOT_DEV, WEFT_HOOK, WEFT_HOOK_OFFSET]
/-- The registers of block ETH. -/
def regsETH : List Reg :=
  [ETH_STATUS, ETH_PTP_STATUS, ETH_PTP_GM, ETH_SVC_STATUS, ETH_PORT_STATUS, ETH_PORT_COUNT, ETH_PORT_DROP, ETH_SVC_SESSION, ETH_SVC_HOST, ETH_STREAM_STATUS, ETH_STREAM_SEQ]
/-- The registers of block CAN. -/
def regsCAN : List Reg :=
  [CAN_STATUS, CAN_C_STATE, CAN_C_FLAGS, CAN_C_COUNT, CAN_C_DROPS, CAN_C_COLL, CAN_C_MONQ, CAN_C_TDC]
/-- The registers of block LPP. -/
def regsLPP : List Reg :=
  [LPP_STATUS, LPP_P_STATE, LPP_P_FLAGS, LPP_P_DELAY, LPP_P_HART]
/-- The registers of block STORE. -/
def regsSTORE : List Reg :=
  [STORE_STATUS, STORE_FLAGS, STORE_OPS, STORE_RATE, STORE_LIFE, STORE_ECC, STORE_MAINT, STORE_SK_SIZE, STORE_SK_HEAD, STORE_SK_TAIL, STORE_SK_STATUS, STORE_DIE_STATUS, STORE_DIE_WEAR]
/-- The registers of block REC. -/
def regsREC : List Reg :=
  [REC_STATUS, REC_EVENT_SEQ, REC_EVENT_COUNT, REC_EVENT_BUF, REC_LIFE, REC_HIST, REC_HOLDUP, REC_STR_STATUS, REC_STR_ARM, REC_STR_TRIG, REC_STR_COUNT]
/-- The registers of block SAFE. -/
def regsSAFE : List Reg :=
  [SAFE_STATUS, SAFE_LOCK_STAMP, SAFE_LOCK_CAUSE, SAFE_COUNTS, SAFE_PROC, SAFE_IN, SAFE_OUT, SAFE_TP]
/-- The registers of block PAIR. -/
def regsPAIR : List Reg :=
  [PAIR_STATUS, PAIR_FLAGS, PAIR_LAG, PAIR_LINK, PAIR_TAKEOVER, PAIR_W_STATE, PAIR_W_LAST]
/-- The registers of block RSV. -/
def regsRSV : List Reg :=
  [RSV_STATUS, RSV_FLAGS, RSV_RETIRED, RSV_LAST, RSV_AGE]
/-- The registers of block FLT. -/
def regsFLT : List Reg :=
  [FLT_STATUS, FLT_LAST, FLT_COUNTS, FLT_ACTIVE]
/-- The registers of block SYS. -/
def regsSYS : List Reg :=
  [SYS_STATUS, SYS_TEMP, SYS_SUPPLY, SYS_RAIL, SYS_GPIO_OUT, SYS_GPIO_PICK, SYS_GPIO_LEVEL]

/-- Every live register of the unit. -/
def allRegs : List Reg :=
  regsID ++ regsFUSE ++ regsREEL ++ regsCREEL ++ regsPLY ++ regsMOT ++ regsDRV ++ regsFBK ++ regsSHU ++ regsHANK ++ regsWEFT ++ regsETH ++ regsCAN ++ regsLPP ++ regsSTORE ++ regsREC ++ regsSAFE ++ regsPAIR ++ regsRSV ++ regsFLT ++ regsSYS

end Sys2Proof.Machine
end

