-- ==== Sys2Proof/Machine/State.lean ====
section
/-! DEFINITION. The state of the Ocson 4816 as plain data: the live register file, the flash, the
running image, the internal state of every block that a rule of spec/ names, the queue of waiting
commands, and the state after reset. A field's default is its value at reset. -/

namespace Sys2Proof.Machine

/-- The reasons a step may stop with a fault. The device has no event that stops it: a fault of the
spec is a record, a flag and a reaction in the state (R480 to R485), so `exec` raises none of these. -/
inductive Fault where
  /-- Raised by nothing; here so that the type is not empty. Safe. -/
  | none
  deriving DecidableEq, Repr

/-- The reasons a step may be refused. -/
inductive Refusal where
  /-- Raised by `exec` for a command that has no meaning yet. Safe: nothing is claimed of it. -/
  | notModelled (mnemonic : String)
  deriving DecidableEq, Repr

/-! ## The unit as a whole (chapters 01, 02, 18 and 19) -/

/-- The clock: FCLK edges since the PLL locked (R62), loom time in sixteenths (R11, R58), the steering
rate in ppb, the part of a sixteenth not yet counted (in 10^-9), and edges since power-up (R398). -/
structure Clk where
  edges : Nat := 0
  loom : Nat := 0
  ppb : Int := 0
  frac : Nat := 0
  deriving DecidableEq, Repr

/-- What the unit is doing as a whole (R40, R44, R45, R485, R495, R501). -/
inductive Phase where
  /-- PWR_GOOD low. -/
  | reset
  /-- Internal reset after a clock stop or a supply fault (R501). -/
  | monitorReset
  /-- TEST_EN was high (R495). -/
  | test
  /-- Programming mode (R40). -/
  | programming
  /-- LOAD_FAIL (R45). -/
  | loadFail
  /-- Held in step 1 while PFAIL_N is low (R500). -/
  | step1
  /-- Start-up steps 7 to 9. -/
  | starting
  /-- A start that an F4 or F5 fault ended, waiting for the next one (R487). -/
  | ended
  /-- Step 10: RUN. -/
  | run
  deriving DecidableEq, Repr

/-- A claim entry (R29). -/
structure Claim where
  cls : Nat
  shared : Bool
  count : Nat
  first : Nat
  deriving DecidableEq, Repr

/-- A record of an image (R26, R28): its index, TYPE, claims and payload bytes. -/
structure Rec where
  idx : Nat
  typ : Nat
  claims : List Claim
  pay : List Nat
  deriving DecidableEq, Repr

/-- A decoded image: the header's 256 bytes (R25) and the records. -/
structure Img where
  hdr : List Nat
  recs : List Rec
  deriving DecidableEq, Repr

/-- The identity of the die (R38): Koresque build, silicon revision and serial number. -/
structure Ident where
  build : Nat := 0
  major : Nat := 0
  minor : Nat := 0
  serial : Nat := 0
  deriving DecidableEq, Repr

/-- One event record (R397). `seq` is 0 until the record is numbered (R398); `detail` is bytes 23 to 31. -/
structure EvRec where
  stamp : Stamp
  seq : Nat
  opMs : Nat
  cycle : Nat
  code : Nat
  sev : Nat
  cleared : Bool
  preLoom : Bool
  detail : Nat
  deriving DecidableEq, Repr

/-- An active fault: code and object (R482, R483). -/
structure Active where
  code : Nat
  obj : Nat
  detail : Nat
  deriving DecidableEq, Repr

/-- What the unit has sent, by the interface it left on. -/
inductive OutKind where
  | service | ethernet | stream | weft | can | pair | hart | nand
  deriving DecidableEq, Repr

/-- One thing sent: the interface, its object (port, slot, controller × 32 + buffer, stream …) and the
bytes in the order in which they leave. -/
structure Out where
  kind : OutKind
  obj : Nat
  bytes : List Nat
  deriving DecidableEq, Repr

/-- Start-up and life of the unit: phase, F4 and lock-out bookkeeping, restarts, the exchange. -/
structure UnitX where
  phase : Phase := .reset
  /-- The unit is stopped by an F4 reaction or an orderly stop (R462, R49). -/
  stopped : Bool := false
  /-- Edge count at the F4 stop (R462). -/
  stopEdge : Nat := 0
  /-- Code of the last F4 fault; 0 for none. -/
  lastF4 : Nat := 0
  /-- The last F4 fault is of kind S* (R482). -/
  noRestart : Bool := false
  /-- Consecutive starts that an F4 fault ended (R487). -/
  failedStarts : Nat := 0
  /-- The code to raise during the next start: a clock stop or supply fault (R501), with its object. -/
  monitorCode : Nat := 0
  monitorObj : Nat := 0
  /-- RESET_CAUSE of the next start (R508). -/
  nextCause : Nat := 0
  /-- A host's warm restart request (R47, R326). -/
  warmRequest : Bool := false
  /-- Orderly stop under way (R49): 0 none, 1 waiting for the hanks, 2 done, 3 waiting for the scans of the tasks in `owing`. -/
  orderly : Nat := 0
  owing : List Nat := []
  /-- Debug halt in force (R41, R192). -/
  halted : Bool := false
  /-- Nanoseconds from PWR_GOOD to the lock of the PLL (R44), for START_US. -/
  lockNs : Nat := 0
  /-- Which copy runs: 0 A, 1 B (R43). -/
  copy : Nat := 0
  /-- PFAIL_N is low (R500). -/
  pfailLow : Bool := false
  /-- The next start is cold by request or by rule, without 0x020D (R326, R455, R485). -/
  coldRequest : Bool := false
  /-- Edge and stamp of PFAIL_N's fall, t0 (R402). -/
  pfailEdge : Nat := 0
  pfailStamp : Nat := 0
  /-- HOLD_LIMIT has passed (R462). -/
  holdDone : Bool := false
  deriving DecidableEq, Repr

/-- The patch area of Koresque's working memory (R38): the code of each patch by its LOAD_OFFSET, and the redirected entry points of the
ROM's patch table, each with the offset of its replacement in the area. -/
structure PatchX where
  code : Tab (List Nat) := []
  vectors : Tab Nat := []
  deriving DecidableEq, Repr

/-- The exchange (R50 to R53): bytes received, the last transfer's edge, the partner's part, S_c. -/
structure XchgX where
  /-- Bytes received so far. -/
  got : Nat := 0
  lastEdge : Nat := 0
  /-- A partner was in SHADOW at the transfer (R51). -/
  partner : Bool := false
  headerDone : Bool := false
  headerEdge : Nat := 0
  standbyStaged : Bool := false
  sc : Nat := 0
  /-- S_c has been reached (R52). -/
  begun : Bool := false
  /-- Image forwarded from the active unit (a joining member or a standby, R51). -/
  fromPair : Bool := false
  /-- The header page, which is programmed only when verification passes (R51). -/
  header : List Nat := []
  deriving DecidableEq, Repr

/-! ## Event log, history and streams (chapter 15) -/

/-- The recorder: event buffer and log, numbering, HIST staging, saved captures. -/
structure RecX where
  /-- Records in the event buffer not yet written to EVENT (R399), oldest first. -/
  buf : List EvRec := []
  /-- Records in the EVENT skein, oldest first. -/
  log : List EvRec := []
  /-- Records raised before numbering starts (R398). -/
  numbering : Bool := false
  nextSeq : Nat := 1
  overwritten : Nat := 0
  dropped : Nat := 0
  /-- Edge of the last 0x1002 (R400); `none` when none was raised. -/
  lastDrop : Option Nat := none
  /-- Edge at which the oldest unwritten record entered. -/
  oldest : Nat := 0
  frozen : Bool := false
  /-- OP_MS saved in the directory, and the edge of the end of step 1 (R398). -/
  opBase : Nat := 0
  opEdge : Nat := 0
  powerCycle : Nat := 0xFFFFFF
  mounted : Bool := false
  /-- Bytes of the HIST page being filled and full pages that wait for the store, oldest first (R394); `blocked`: no page is free,
  so entries are lost (R396), with their number and the first one's stamp. -/
  page : List Nat := []
  wait : List (List Nat) := []
  blocked : Bool := false
  lost : Nat := 0
  lostAt : Nat := 0
  /-- Pages of HIST in the array, oldest readable first (R373). -/
  hist : List (List Nat) := []
  /-- Captures in the SNAP ring (R405), oldest first: number and bytes. -/
  snaps : List (Nat × List Nat) := []
  nextSnap : Nat := 1
  /-- Firings of each sample set (R392), and the counters of DECIM of HIST by set and of streams by stream × 8 + index. -/
  setCount : Tab Nat := []
  histDecim : Tab Nat := []
  strDecim : Tab Nat := []
  /-- A copy of the retained words and their header has been saved (R402): RETAIN_LAYOUT, SEQUENCE, POWER_CYCLE, t0, the words; and
  whether a flush wrote it whole. -/
  retain : List Nat := []
  retainOk : Bool := false
  /-- The copy that a power-fail flush is to write (R402). -/
  retainCopy : List Nat := []
  /-- Highest SEQ among the unwritten records that a restart has kept (R48). -/
  kept : Nat := 0
  /-- What the present edge has brought and the recorder takes with its last firing (R393, R411): picks with their stamps, pin edges with
  stamp and level, operands of MARK with their stamps. -/
  takes : List (Nat × Nat) := []
  edges : List (Nat × Nat × Bool) := []
  marks : List (Nat × Nat) := []
  deriving DecidableEq, Repr

/-- A stream (R407 to R412, R328): destination, the entries of the open packet with the stamp of the first, the next packet's number
and whether it is the first after the arm, the previous tested values of the triggers, and the stamp of the last acting one. -/
structure StreamX where
  dest : Nat := 0
  body : List Nat := []
  entries : Nat := 0
  firstStamp : Nat := 0
  first : Bool := false
  seq : Nat := 0
  prev : Tab Nat := []
  acted : Option Nat := none
  deriving DecidableEq, Repr

/-! ## The Reel (chapter 03) -/

/-- A sample triple of R64: stamp, position in the raw unit before rounding of the clock, and the rate
in 2^-32 units per µs. -/
structure Sample where
  t : Nat := 0
  p : Int := 0
  r : Int := 0
  deriving DecidableEq, Repr

/-- A measure: its last samples (newest first, at most four), the last kept crossing count in half
revolutions, the edge of its last sample, and the last two values of an ADC source. -/
structure MeasX where
  smp : List Sample := []
  crossing : Option Int := none
  lastEdge : Nat := 0
  adc : Option (Nat × Int) := none
  ever : Bool := false
  /-- The instant from which the next periodic sample is due (R63), in half nanoseconds of local time. -/
  due2 : Nat := 0
  deriving DecidableEq, Repr

/-- A pick: the predicted firing stamp and unwrapped target, a firing due at once (1 immediate, 2 late),
the unwrapped target of the last predicted firing not yet confirmed by a sample and whether it was upward, and the measure's
position when it was armed. -/
structure PickX where
  predAt : Option Int := none
  predX : Int := 0
  due : Nat := 0
  fired : Option (Int × Bool) := none
  armPos : Int := 0
  /-- The edge on which it was last armed, plus one (R67); the edge, plus one, on which it was due when its target or arming changed, so
  that it fires there for the old target (R71), and whether that firing is late. -/
  armEdge : Nat := 0
  owed : Nat := 0
  owedLate : Bool := false
  deriving DecidableEq, Repr

/-! ## Pins (chapter 19) -/

/-- A general I/O pin: its level, the stamp and edge of its last transition, and whether it had one. -/
structure PinX where
  level : Bool := false
  stamp : Nat := 0
  inst : Nat := 0
  edge : Nat := 0
  ever : Bool := false
  /-- The unit's own output moved the ball, and the transition is not stamped yet (R56, R497). -/
  owed : Bool := false
  deriving DecidableEq, Repr


/-! ## The Creel (chapter 04) -/

/-- A thread of the Creel: the tick and count that end its delay, the core time of its activation, the edge from which it runs
(plus one), the edge of its last dispatch and of its activation's begin, and the edge on which it became ready. -/
structure ThreadX where
  tick : Nat := 0
  until_ : Nat := 0
  used : Nat := 0
  runs : Nat := 0
  slice : Nat := 0
  began : Nat := 0
  ready : Nat := 0
  deriving DecidableEq, Repr

/-- A logical core: the running thread and the thread in its bobbin slot, each plus one. -/
structure CoreX where
  run : Nat := 0
  slot : Nat := 0
  busy : Nat := 0
  deriving DecidableEq, Repr

/-- The Creel: threads, cores, the ready lists by level (R89, R91), tick 0's last multiple (R95), and the share window: its
number, the ROLE 2 core time used in it, and whether it is exhausted (R97). -/
structure CreelX where
  threads : Tab ThreadX := []
  cores : Tab CoreX := []
  levels : Tab (List Nat) := []
  tick0 : Nat := 0
  window : Nat := 0
  share : Nat := 0
  exhausted : Bool := false
  /-- Creel locks that are held (R93): by lock its holder and the threads that wait for it. -/
  locks : Tab (Nat × List Nat) := []
  /-- Cycle-hook wakes of the present edge that wait for its pick wakes (R92): hook and thread. -/
  hooks : List (Nat × Nat) := []
  deriving DecidableEq, Repr

/-! ## Plies (chapter 05) -/

/-- State words of a ply (R116, R117): Class A past errors and outputs, newest first; Class B x0 to xS at
k−1 and at k−2. -/
structure PlyW where
  a1 : List Int := []
  a2 : List Int := []
  deriving DecidableEq, Repr

/-- The ramp generator (R120), in Q1.63: position, rate, acceleration and target. -/
structure Ramp where
  r : Int := 0
  v : Int := 0
  a : Int := 0
  x : Int := 0
  /-- The first launch takes the feedback (RAMP_FROM_FB, R121). -/
  fromFb : Bool := false
  /-- A step gave the target, which the first launch then keeps. -/
  given : Bool := false
  deriving DecidableEq, Repr

/-- A ply's launch under way (R110, R111). Captured at the launch stamp: feedback, set-point word, feed-forward, and the
set-point settings in force (R119 to R121); for SP_SOURCE 5, `kind5` is 1 for the position ply, whose set-point is `x`,
and 2 for the velocity ply, whose feed-forward term is `term`. `hold`: stale inputs and STALE_HOLD (R113). Once
evaluated (`done`): the results, the state words and ramp that publication commits, and the edge of the finish. -/
structure PlyL where
  live : Bool := false
  stamp : Nat := 0
  edge : Nat := 0
  y : Int := 0
  x : Int := 0
  xff : Int := 0
  kind5 : Nat := 0
  term : Int := 0
  hold : Bool := false
  goal : Int := 0
  vLim : Int := 0
  aLim : Int := 0
  jLim : Int := 0
  done : Bool := false
  fin : Nat := 0
  r : Int := 0
  e : Int := 0
  w : Int := 0
  ff : Int := 0
  u : Int := 0
  xs : List Int := []
  next : PlyW := {}
  ramp : Ramp := {}
  deriving DecidableEq, Repr

/-- A ply: state words, ramp, and what a step set has put over the record (R121, R258). -/
structure PlyX where
  w : PlyW := {}
  ramp : Ramp := {}
  /-- Raw value word of SP_STRAND at the last entry to RUN (SP_SOURCE 3). -/
  n0 : Nat := 0
  /-- Consecutive stale launches (R113). -/
  staleRun : Nat := 0
  /-- STOPPED was cleared, or the axis enabled: RUN at the next launch (R122). -/
  restart : Bool := false
  launch : PlyL := {}
  /-- Internal nodes of the last published launch (R129): error or x0, Class A w, feed-forward term, section outputs. -/
  nodeE : Int := 0
  nodeW : Int := 0
  nodeFf : Int := 0
  nodeX : List Int := []
  /-- The edge of the last publication, plus one, and the four strands before it (R110). -/
  pubEdge : Nat := 0
  old : List Nat := []
  /-- Ramp limits that a committed step set (R259); 0 for the record's own. -/
  vSet : Nat := 0
  aSet : Nat := 0
  jSet : Nat := 0
  /-- The ply's class and size in force, to tell an exchange that changes them (R123). -/
  shape : Nat := 0
  deriving DecidableEq, Repr

/-- A ply group: the launch under way, its next entry on each of its engines, the twin state. -/
structure GrpX where
  live : Bool := false
  stamp : Nat := 0
  edge : Nat := 0
  /-- A launch has been accepted since RUN (R109). -/
  ever : Bool := false
  pos : Nat := 0
  posTwin : Nat := 0
  /-- Engines that have begun the launch: bit 0 the ENGINE, bit 1 the TWIN_ENGINE. -/
  started : Nat := 0
  okMain : Bool := true
  okTwin : Bool := true
  /-- What differs from the law's results on each engine, as entry number and mask. -/
  flipMain : List (Nat × Nat) := []
  flipTwin : List (Nat × Nat) := []
  decided : Bool := false
  /-- The previous output is held for this launch (R126). -/
  held : Bool := false
  /-- Consecutive unresolved launches (R126). -/
  unresolved : Nat := 0
  /-- Runs on one engine (R127): 0 both, 1 only the ENGINE, 2 only the TWIN_ENGINE. -/
  single : Nat := 0
  /-- The launch runs again on the reserve (R468). -/
  rerun : Bool := false
  /-- A trace row of this launch is due when its last ply has published. -/
  traced : Bool := false
  /-- Logical engine that the group was placed on after a failure without a reserve (R472), plus one. -/
  placed : Nat := 0
  /-- Placement epochs that the results of the launch carry on each engine (R128), and the edges at which each engine finished each entry. -/
  epoch : Nat := 0
  epochTwin : Nat := 0
  finMain : Tab Nat := []
  finTwin : Tab Nat := []
  deriving DecidableEq, Repr

/-- A logical ply engine: the group it evaluates, plus one, and the entry; since which edge it evaluates or is idle, the edges spent
evaluating, a pending self-test (R126) with its edge, and whether its physical engine failed with no reserve left (R472). -/
structure EngX where
  group : Nat := 0
  entry : Nat := 0
  since : Nat := 0
  busy : Nat := 0
  test : Bool := false
  testEdge : Nat := 0
  out : Bool := false
  deriving DecidableEq, Repr

/-- A trace buffer (R129 to R131): rows, oldest first, the rows written since the arm, rows left after the trigger, a
pending trigger, the previous tested value, and launches since the last row. -/
structure TrcX where
  rows : List (List Nat) := []
  written : Nat := 0
  post : Nat := 0
  host : Bool := false
  prev : Option Nat := none
  decim : Nat := 0
  /-- A copy to SNAP is under way (R131). -/
  copying : Bool := false
  deriving DecidableEq, Repr

/-! ## Motion (chapter 06) -/

/-- A piece of a plan: from instant `t` (sixteenths) at position `p`, velocity `v` and acceleration `a`, in
raw 48.16 units per second. -/
structure Seg where
  t : Rat
  p : Rat
  v : Rat
  a : Rat
  deriving DecidableEq, Repr

/-- A plan (R151): its pieces, its exact end, where it stops, and the standstill until which REVERSING stands. -/
structure Plan where
  segs : List Seg := []
  tEnd : Rat := 0
  target : Int := 0
  reversing : Option Rat := none
  deriving DecidableEq, Repr

/-- An axis command (R147). -/
structure MCmd where
  seq : Nat := 0
  code : Nat := 0
  flags : Nat := 0
  p1 : Nat := 0
  p2 : Nat := 0
  value : Int := 0
  speed : Int := 0
  aux : Nat := 0
  /-- Bytes 6 and 7, zero in a mailbox. -/
  pad : Nat := 0
  deriving DecidableEq, Repr

/-- An engaged gear (R155). -/
structure GearX where
  measure : Nat := 0
  pA : Int := 0
  mA : Int := 0
  num : Int := 0
  shift : Nat := 0
  e : Nat := 0
  prevV : Rat := 0
  prevT : Nat := 0
  deriving DecidableEq, Repr

/-- Homing (R163 to R165). Phases: 1 moving off an active switch, 2 stopping from that, 3 search, 4 slow
search for the index, 5 reference found, 6 stop after it, 7 final move, 8 abort without a fault. -/
structure HomeX where
  phase : Nat := 0
  start : Int := 0
  began : Nat := 0
  /-- Stamp of the switch edge that a slow index search follows. -/
  after : Nat := 0
  /-- Stamp of the reference edge, once it is known, and whether its position is computed. -/
  refT : Option Nat := none
  refP : Option Int := none
  /-- Method 4: the evaluation at which the threshold was reached. -/
  since : Option (Nat × Int) := none
  /-- Stamps of the index edges since HOME was taken that may still be the reference, oldest first (R163). -/
  idx : List Nat := []
  /-- The limit function of HOME_PIN is suspended (R165). -/
  suspended : Bool := false
  ended : Bool := false
  deriving DecidableEq, Repr

/-- An axis: plan, mailboxes, the running command, supervision. -/
structure AxisX where
  plan : Plan := {}
  boxH : Option MCmd := none
  boxS : Option MCmd := none
  /-- The running command: 0 none, 1 from the hank, 2 from the Shuttle; its code, 0 for a JOG with a speed, which is never done (R148). -/
  by_ : Nat := 0
  code : Nat := 0
  /-- MOT_AX_CMD still shows the running command. -/
  shown : Bool := false
  gear : Option GearX := none
  home : HomeX := {}
  /-- Samples of the actual position without offset, newest first, at most four (R76): the evaluation's stamp and the position. -/
  smp : List (Nat × Int) := []
  /-- FB_SOURCE 1: last reading, extended count, stale evaluations in a row, last evaluation. -/
  reading : Option Nat := none
  ext : Int := 0
  staleRun : Nat := 0
  lastEval : Option Nat := none
  /-- Since when the axis has been inside INPOS_WINDOW (R153). -/
  inpos : Option Nat := none
  /-- Brake time under way (R166): the edge at which it ends, and the state it leads to. -/
  brake : Option (Nat × Nat) := none
  enableAtRun : Bool := false
  /-- The axis follows its group's path; the path's point for it at this evaluation. -/
  onPath : Bool := false
  path : Int × Int × Int := (0, 0, 0)
  /-- Limit edges awaiting an evaluation: their stamps. -/
  limPos : Option Nat := none
  limNeg : Option Nat := none
  tripPos : Int := 0
  tripNeg : Int := 0
  /-- Set-points for the plies (R140): scaled error, feed-forward term, and the clamps that acted. -/
  posR : Int := 0
  ffTerm : Int := 0
  satPos : Bool := false
  satVel : Bool := false
  deriving DecidableEq, Repr

/-- A path segment (R158). -/
structure GSeg where
  seq : Nat := 0
  kind : Nat := 0
  plane : Nat := 0
  turns : Nat := 0
  feed : Int := 0
  endSpeed : Int := 0
  ends : List Int := []
  geom : List Int := []
  deriving DecidableEq, Repr

/-- A segment in the queue (R159): its start, its length in raw units, its start and end tangents, and for arcs the radius and
the angle in radians times 2^128. -/
structure GRun where
  seg : GSeg := {}
  start : List Int := []
  len : Rat := 0
  tan0 : List Int := []
  tan1 : List Int := []
  radius : Rat := 0
  angle : Int := 0
  /-- Bounds on the path's speed and rates over the segment (R160). -/
  vMax : Rat := 0
  acc : Rat := 0
  dec : Rat := 0
  deriving DecidableEq, Repr

/-- A coordinated group: mailboxes, queue, and the path plan over an absolute path coordinate. -/
structure MGrpX where
  boxH : Option GSeg := none
  boxS : Option GSeg := none
  queue : List GRun := []
  plan : Plan := {}
  /-- Path coordinate at which the executed segment starts. -/
  base : Rat := 0
  stopping : Bool := false
  /-- The stop under way is a STOP entry's, whose end makes it Done. -/
  byStop : Bool := false
  /-- What stops the path at the next evaluation: 0 nothing, 1 a member's fault, 2 a member's DISABLE, 3 one with QUICK. -/
  fault : Nat := 0
  /-- The path's position and speed at the last evaluation. -/
  pos : Int := 0
  vel : Int := 0
  /-- End tangents of the last accepted segment; none after standstill or a line (R159). -/
  lastTan : Option (List Int) := none
  deriving DecidableEq, Repr

/-! ## Local drive (chapter 07) -/

/-- A PWM group: the edge at which its counter last entered 0 (running) or at which it is held until
(R187), its staged compares by pair and auxiliary output, and the compares in force. -/
structure GroupX where
  start : Nat := 0
  /-- Compares staged: pair k at k, auxiliary output j at 48 + j. -/
  staged : Tab Nat := []
  /-- Edge on which each staged item was staged; the period at 100. -/
  stagedAt : Tab Nat := []
  /-- Launch edge, plus one, of each staged or transferred current-path compare (R183). -/
  launchOf : Tab Nat := []
  /-- Edge on which load-all was set that no reload has taken, and the edge, plus one, on which it was set again behind it (R190). -/
  loadEdge : Nat := 0
  again : Nat := 0
  /-- What staging on one edge has replaced, for a reload on that edge (R190): the edge, plus one, and the items from before it; the period
  at 100. -/
  priorEdge : Nat := 0
  prior : Tab Nat := []
  /-- Edge, plus one, whose reload has been carried already (R187, R190). -/
  reloaded : Nat := 0
  deriving DecidableEq, Repr

/-- The drive of a local axis: the edge of its enable (R183), and of its launched entry the sampled currents and angles at
the launch stamp (R180) and the results that wait for publication (R181, R182). -/
structure DriveX where
  enableEdge : Nat := 0
  /-- An evaluated entry waits for its publication (R182), and the edge of its launch. -/
  pending : Bool := false
  launchEdge : Nat := 0
  ia : Int := 0
  ib : Int := 0
  ic : Int := 0
  theta : Nat := 0
  thetaOut : Nat := 0
  id : Int := 0
  iq : Int := 0
  ca : Nat := 0
  cb : Nat := 0
  cc : Nat := 0
  /-- Strands ID and IQ are stale (R178). -/
  stale : Bool := false
  /-- The edge on which all six pins go to SAFE, or inactive, when that still lies ahead (R177, R183). -/
  pinsAt : Option (Nat × Bool) := none
  /-- The edge, plus one, of each pin's last change of command (R194), by pin from 0 to 5. -/
  pinEdge : Tab Nat := []
  deriving DecidableEq, Repr

/-- A sigma-delta channel: the edge from which it has an output (R175, R460), and whether its input is stuck now. -/
structure SdX where
  validEdge : Nat := 0
  stuckNow : Bool := false
  deriving DecidableEq, Repr

/-! ## Feedback (chapter 08) -/

/-- A feedback line: its raw level, the instant and the stamp of its last stamped transition, the edge
at which the raw level last changed, and the stamp that an acceptance of it will carry. -/
structure LineX where
  raw : Bool := false
  inst : Nat := 0
  ever : Bool := false
  stamp : Nat := 0
  edge : Nat := 0
  /-- The level that the clock edge `edge` samples, the edge since which every clock edge has sampled it, and the stamp of the transition
  that began it (R207). -/
  lvl : Bool := false
  lvlEdge : Nat := 0
  lvlStamp : Nat := 0
  deriving DecidableEq, Repr

/-- An accepted change: stamp, loom time of its acceptance edge, count after it, direction. -/
structure Change where
  t : Nat
  acc : Nat
  p : Int
  dir : Int
  deriving DecidableEq, Repr

/-- A feedback interface: accepted changes newest first, index reference, error times, SSI read. -/
structure FbX where
  changes : List Change := []
  /-- Count at the previous index edge, when it is a reference (R210). -/
  idxRef : Option Int := none
  /-- Directions seen since the last index edge: 0 none, 1 up, 2 down, 3 both. -/
  idxDirs : Nat := 0
  /-- dev of the last compare, before DEV saturates. -/
  lastDev : Int := 0
  /-- The Hall state is invalid, so that the next valid one sets the sector (R211). -/
  hallLost : Bool := false
  /-- A Hall error since the last counted change (R212). -/
  hallError : Bool := false
  errEdge : Nat := 0
  condEdge : Nat := 0
  alarmEdge : Nat := 0
  /-- SSI: read under way, its stamp and edge, the edge of its end plus MONO_US, and the last good reads. -/
  busy : Bool := false
  readStamp : Nat := 0
  readEdge : Nat := 0
  readyEdge : Nat := 0
  good : Option (Nat × Nat × Int) := none
  speed : Int := 0
  /-- A standby's offset to the active unit's count (R452), and the permanent one after takeover (R460). -/
  offset : Option Int := none
  shift : Int := 0
  /-- A standby's mirrored sample: position, stamp and rate (R19, R453). -/
  mir : Option (Int × Nat × Int) := none
  deriving DecidableEq, Repr


/-! ## Shuttle (chapter 09) -/

/-- A task and its scan (R222 to R226, R236, R237, R240, R244, R468). `live`: a scan is under way; `begun`: its start and freeze are
done; `broken`: it stands at a break; `cont`: a break continues at the next start pick; `free`: it ignores breakpoints;
`toHold`: HOLD takes effect at its output edge. `frz` are the words frozen at S that its freeze will copy, in `words` cycles.
`image` and `travel` are the measure image and HOLD_TRAVEL, `heldAt` the positions at the entry to HOLD, BREAK or STOP. `log` is
the undo log of stores, `ext` the sixteenths by which debug halts extend its WATCHDOG. -/
structure TaskX where
  live : Bool := false
  begun : Bool := false
  broken : Bool := false
  cont : Bool := false
  free : Bool := false
  toHold : Bool := false
  pc : Nat := 0
  regs : List Nat := []
  stack : List Nat := []
  stamp : Nat := 0
  sEdge : Nat := 0
  frz : List (Nat × Nat) := []
  words : Nat := 0
  image : Tab Int := []
  travel : Tab Int := []
  heldAt : Option (Tab Int) := none
  posts : List (Nat × Nat × Nat) := []
  log : List (Nat × Nat) := []
  ext : Nat := 0
  /-- Stamp of the last break. -/
  brkAt : Nat := 0
  /-- The scan was run again on the reserve (R468). -/
  rerun : Bool := false
  /-- A standby: the stamp before which an override forbids the output edge (R450), 0 for none. -/
  outAt : Nat := 0
  /-- Stamp of the start pick at which a broken scan went on, 0 for none (R247). -/
  contAt : Nat := 0
  /-- Host-variable writes that the scan's freeze is to copy (R229), until it has. -/
  boxes : Tab (Nat × Nat) := []
  deriving DecidableEq, Repr

/-- A Shuttle engine: the task it executes, plus one, the edge at which its next instruction begins, and edges spent in scans. -/
structure ShuEngX where
  cur : Nat := 0
  at_ : Nat := 0
  busy : Nat := 0
  out : Bool := false
  deriving DecidableEq, Repr

/-- The Shuttle: tasks, engines, variable memory (bank × 32768 + address to its word), host-variable mailboxes (VAR_ID to the edge from
which a freeze takes the value, and the value), the stamp of a debug halt, and the words that an exchange copied. -/
structure ShuX where
  tasks : Tab TaskX := []
  engs : Tab ShuEngX := []
  vars : Tab Nat := []
  hbox : Tab (Nat × Nat) := []
  haltAt : Nat := 0
  /-- Timers whose M_LAST is taken again at their first call (R246), as bank × 32768 + address. -/
  retake : List Nat := []
  deriving DecidableEq, Repr


/-! ## Hanks (chapter 10) -/

/-- A staged set (R260): the step it enters or the END marker, and the loop counter change that its commit makes (step and new
count). -/
structure StagedSet where
  step : Nat := 0
  ends : Bool := false
  loop : Option (Nat × Nat) := none
  deriving DecidableEq, Repr

/-- A hank: request mailboxes with the edge from which a beat takes them, staged sets, loop counters by step, what its sequencer
is to stage (bit 0 NEXT, bit 1 BRANCH, bit 2 HOLD) and since which edge, a deferred end (1 normal, 2 fault branch), the step that
RESUME names or a START's first step, the running recipe and step, and the edge of its last boundary, plus one. `newVer`: the
recipe comes from the new image during an exchange (R52); `running`: the step that ran when the hold began. -/
structure HankX where
  boxH : Option (Nat × HankReq) := none
  boxS : Option (Nat × HankReq) := none
  next : Option StagedSet := none
  branch : Option StagedSet := none
  hold : Option StagedSet := none
  loops : Tab Nat := []
  need : Nat := 0
  needEdge : Nat := 0
  deferred : Nat := 0
  aim : Nat := 0
  running : Nat := 0
  newVer : Bool := false
  recipe : Option Nat := none
  step : Option Nat := none
  lastEdge : Nat := 0
  /-- Edge of the last staging, plus one, with NEXT, BRANCH and HOLD as they stood before it (R17). -/
  stagedEdge : Nat := 0
  before : Option StagedSet × Option StagedSet × Option StagedSet := (none, none, none)
  /-- A standby: stamps of its own beats since the last mirrored end of a cycle (R270). -/
  beats : List Nat := []
  deriving DecidableEq, Repr

/-! ## Weft (chapter 11) -/

/-- A valid frame that waits for its delivery edge (R288): slot, channel, cycle, deviation in tenths of a sixteenth, and the frame. -/
structure WeftRx where
  slot : Nat
  chan : Nat
  cycle : Nat
  dev : Int
  frame : WeftFrame
  deriving DecidableEq, Repr

/-- What a slot delivered last (R290, R291): the next cycle to deliver, whether its last delivery was a DATA frame, any valid frame
yet, the TYPE, the words, PAIR_EPOCH and stamp of the last valid frame, and the cycles without one. -/
structure WeftGot where
  next : Nat := 0
  data : Bool := false
  valid : Bool := false
  ever : Bool := false
  typ : Nat := 0
  words : List Nat := []
  epoch : Nat := 0
  stamp : Nat := 0
  missed : Nat := 0
  deriving DecidableEq, Repr

/-- An assembled frame of an owned slot (R287): its cycle plus one, TYPE, whether it is sent at all, whether it is sent already, the transmit words that
stand, those that the frame carries, and its epoch. -/
structure WeftAsm where
  cycle1 : Nat := 0
  typ : Nat := 0
  sends : Bool := false
  sent : Bool := false
  /-- A NULL frame because a FRESH word was missing at the close (R284). -/
  unready : Bool := false
  words : List Nat := []
  carried : List Nat := []
  epoch : Nat := 0
  deriving DecidableEq, Repr

/-- The Weft controller and the heddle (R280 to R302): the present cycle with its start, the edges of the listen timer and the echo deadline
(plus one, 0 for none), the loom setting with its step, the steering of R292, what the cycle has seen, receptions and assemblies,
TAKEOVER words that wait, the heddle's reference mark, its last cold-start span and its open span. -/
structure WeftX where
  timed : Bool := false
  start : Nat := 0
  n : Nat := 0
  listenUntil : Nat := 0
  echoBy : Nat := 0
  /-- A SYNC frame of another node in SYNC was received in COLDSTART (R297). -/
  heard : Bool := false
  /-- Cycles since ALONE was set. -/
  aloneN : Nat := 0
  /-- Complete cycles in a row without a sync frame outside SYNC_LIMIT; this cycle has one; this cycle began in INTEGRATING. -/
  good : Nat := 0
  bad : Bool := false
  whole : Bool := false
  /-- SYNC has been entered in this start; a reintegration, with the stamp of the loss; the controller stays silent (R301). -/
  settled : Bool := false
  reint : Bool := false
  lostAt : Nat := 0
  dead : Bool := false
  step : Int := 0
  drift : Rat := 0
  rate : Rat := 0
  miss : Nat := 0
  ownMiss : Nat := 0
  ownSeen : Bool := false
  /-- Channels with a valid frame in this cycle, one bit each, and cycles without one by channel. -/
  chanSeen : Nat := 0
  chanMiss : Tab Nat := []
  /-- Deviations of the sync frames since the last cycle end, by slot × 2 + channel, in tenths of a sixteenth. -/
  devs : Tab Int := []
  rx : List WeftRx := []
  got : Tab WeftGot := []
  /-- Assemblies by slot × 2 + parity of the cycle. -/
  asm : Tab WeftAsm := []
  takeover : List Nat := []
  /-- The heddle's last mark (slot and edge), whether it was accepted, the last cold-start span's edge plus one, and the open span: slot,
  first and last edge plus one. -/
  mark : Option (Nat × Nat) := none
  markOk : Bool := false
  coldAt : Nat := 0
  span : Option (Nat × Nat × Nat) := none
  /-- The edge of the last GDCLK loss (R295). -/
  gdclkAt : Nat := 0
  /-- The frame that the controller last put on the line: the edge of its action point, and its code groups (R278). -/
  air : Option (Nat × List Nat) := none
  deriving DecidableEq, Repr

/-! ## Ethernet (chapter 12) -/

/-- A frame in an egress queue (R312): its queue, the frame, the stream whose packet it is (plus one), and for a forwarded frame the
ingress port (plus one) and stamp (R320). `ptp` marks the unit's own event messages: 1 Sync, 2 Pdelay_Resp (with the request's receive
stamp in `inStamp`), 3 Delay_Req, 4 Pdelay_Req. -/
structure EthTx where
  q : Nat := 0
  frame : EthFrame := {}
  stream : Nat := 0
  inPort : Nat := 0
  inStamp : Nat := 0
  ptp : Nat := 0
  deriving DecidableEq, Repr

/-- A session (R324, R325): the SEQ of its OPEN and of the last request processed, the stored response, the edge of the last request,
KEEPALIVE in seconds, and a request that waits for its thread to leave HELD. -/
structure SessX where
  openSeq : Nat := 0
  last : Nat := 0
  reply : List Nat := []
  edge : Nat := 0
  keep : Nat := 0
  held : Option Instr := none
  deriving DecidableEq, Repr

/-- The switch: egress queues by port, oldest first, and the address table: MAC to port and the edge of the last frame. -/
structure EthX where
  queues : Tab (List EthTx) := []
  table : Tab (Nat × Nat) := []
  /-- Sessions by slot, and the sessions opened so far. -/
  sess : Tab SessX := []
  opened : Nat := 0
  deriving DecidableEq, Repr

/-- A foreign master (R318): its port identity, what its last Announce says, and the edges of its last Announces, newest first. -/
structure PtpForeign where
  identity : Nat := 0
  portNum : Nat := 0
  data : List Nat := []
  seen : List Nat := []
  deriving DecidableEq, Repr

/-- A peer-delay measurement on a port (R320): the request's number and transmit stamp in ns, the receive stamp of the response, the
times at the peer, corrections, and whether a follow-up is awaited. -/
structure PtpPeer where
  seq : Nat := 0
  t1 : Nat := 0
  t4 : Nat := 0
  t2 : Nat := 0
  corr : Int := 0
  wait : Bool := false
  delay : Rat := 0
  ever : Bool := false
  deriving DecidableEq, Repr

/-- The PTP clock (R317 to R321): servo terms, the term in force (R61), Syncs in a row below LOCK_THRESHOLD and above twice it, the edge of
the last Sync, a two-step Sync that awaits its Follow_Up (number, receive stamp in ns, correction), the last master-to-slave time less
the path delay's share, the last Delay_Req (number, transmit stamp), the mean path delay, own message numbers (Sync, Announce, Delay_Req,
Pdelay_Req), the selected master (plus one in the list of foreign masters), and whether R61 refuses PTP until the next start. -/
structure PtpX where
  integ : Rat := 0
  term : Rat := 0
  applied : Rat := 0
  good : Nat := 0
  bad : Nat := 0
  syncEdge : Nat := 0
  pend : Option (Nat × Nat × Int) := none
  d21 : Option Rat := none
  dreq : Nat × Nat := (0, 0)
  path : Rat := 0
  seqs : List Nat := [0, 0, 0, 0]
  foreign : List PtpForeign := []
  parent : Option (Nat × Nat) := none
  peers : Tab PtpPeer := []
  refused : Bool := false
  epochKnown : Bool := false
  /-- PTP-derived loom time less loom time at the last Sync, in sixteenths (R60). -/
  epoch : Int := 0
  /-- The edge, plus one, of the last own message by kind: Sync, Announce, Delay_Req, Pdelay_Req (R317). -/
  sent : Tab Nat := []
  deriving DecidableEq, Repr


/-! ## CAN FD and loop ports (chapter 13) -/

/-- A received frame in a control queue (R341, R343): its two stamps, the filter pair that decided it, and the frame. -/
structure CanRx where
  sof : Nat := 0
  valid : Nat := 0
  pair : Nat := 0
  frame : CanFrame := {}
  deriving DecidableEq, Repr

/-- A transmit buffer (R346, R347): the loads that still wait, oldest first, each with its edge and its data bytes, and the
consecutive same-identifier collisions. Of several loads the last one stands; an earlier one matters only to an attempt that
began before the later load. -/
structure CanTx where
  loads : List (Nat × List Nat) := []
  consec : Nat := 0
  deriving DecidableEq, Repr

/-- A CAN controller: error counters (R339), control queue, transmit buffers, the edge of its entry to BUS_OFF, and by filter pair the
edge of the last delivery. -/
structure CanX where
  tec : Nat := 0
  rec_ : Nat := 0
  q0 : List CanRx := []
  bufs : Tab CanTx := []
  offEdge : Nat := 0
  lastAt : Tab Nat := []
  deriving DecidableEq, Repr

/-- A loop port: its last conversions, newest first (end and voltage, R350), and its HART master (R354): 0 idle, 1 sending, 2
waiting, 3 silence; the entry, the failed attempts, the edge of the present phase, the edge at which each entry's last request began
(plus one), whether the entry is to be repeated after the silence, and a response that waits for its delivery: stamp, entry, bytes. -/
structure LoopX where
  conv : List (Nat × Int) := []
  phase : Nat := 0
  entry : Nat := 0
  fails : Nat := 0
  edge : Nat := 0
  began : Tab Nat := []
  again : Bool := false
  resp : List (Nat × Nat × List Nat) := []
  /-- The edge of the newest conversion's end, and of the last time that the regulator stood at its limit for 1 ms (R352). -/
  convEdge : Nat := 0
  limEdge : Nat := 0
  deriving DecidableEq, Repr


/-! ## The skein store (chapter 14) -/

/-- A page's label without its CRC (R370): FLAGS bit 0 PARITY page, bit 1 second copy of a mirror, bit 2 written by a power-fail
flush; BLOCK_SEQ, LOGICAL, STAMP and POWER_CYCLE. -/
structure PageLabel where
  skein : Nat := 0
  flags : Nat := 0
  blockSeq : Nat := 0
  logical : Nat := 0
  stamp : Nat := 0
  cycle : Nat := 0
  deriving DecidableEq, Repr

/-- A block: 0 erased, 1 open, 2 full, 3 bad, 4 waiting for its erase; its skein (as in R370, 14 for the power-fail area), pages
programmed, erase and read counts, its allocation number within its skein (R370), and OP_MS at its first page, from which its age counts
(R377). -/
structure BlkX where
  st : Nat := 0
  skein : Nat := 0
  used : Nat := 0
  erases : Nat := 0
  reads : Nat := 0
  seq : Nat := 0
  born : Nat := 0
  deriving DecidableEq, Repr

/-- An operation of the store (R380): class, kind (0 read, 1 program, 2 erase, 3 features), place, skein, queue edge, and what it is
for: 0 nothing more, 1 a HIST page with its logical number, 2 a page of a move, 3 a flush page with its number, 4 a parity page, 5 a page
of another ring with what it is part of (the first SEQ, the capture). A program has its page's label and data (R370). -/
structure StoreOp where
  cls : Nat
  kind : Nat
  die : Nat
  block : Nat
  page : Nat
  skein : Nat
  edge : Nat
  goal : Nat
  arg : Nat
  label : PageLabel := {}
  data : List Nat := []
  deriving DecidableEq, Repr

/-- A page that a thread has handed to the store and that is not yet queued: skein, what it is part of, data. -/
structure StorePage where
  skein : Nat
  arg : Nat
  data : List Nat
  deriving DecidableEq, Repr

/-- A page of a ring other than HIST in the array: logical number and place; a mirrored page has two. -/
structure PlacedPage where
  logical : Nat
  place : Nat
  deriving DecidableEq, Repr

/-- A copy of a block's data under way (R376, R377): both blocks as die × 65536 + block, pages still to be programmed, and whether it
levels wear. -/
structure BlkMove where
  src : Nat
  dst : Nat
  left : Nat
  wear : Bool
  deriving DecidableEq, Repr

/-- A die: the operation it executes and the edge on which that one began, whether it has run past 10 ms, slow operations and failed erases in a row, the times in ms of lost
sectors in the last 24 h, factory and grown bad blocks, and a RESET under way. -/
structure DieX where
  cur : Option StoreOp := none
  began : Nat := 0
  slow : Bool := false
  strikes : Nat := 0
  eraseFails : Nat := 0
  losses : List Nat := []
  factory : Nat := 0
  grown : Nat := 0
  resetting : Bool := false
  deriving DecidableEq, Repr

/-- The store: geometry, blocks and dies, operations with a slot and waiting in Koresque's queue, moves, a retirement under way (die
plus one) and those that wait, where each HIST page in the array lies (die × 2^32 + block × 65536 + page, oldest first), by skein the
pages placed in the order of stripes, flush pages programmed; bytes written by second of OP_MS, and bytes programmed and
asked for since the format. `saved` and `cycles` are OP_MS and the power-cycle count in the directory. -/
structure StoreX where
  nBlocks : Nat := 0
  nPages : Nat := 0
  formatted : Bool := false
  blocks : Tab BlkX := []
  dies : Tab DieX := []
  ops : List StoreOp := []
  waitq : List StoreOp := []
  moves : List BlkMove := []
  retiring : Nat := 0
  retire : List Nat := []
  histAt : List Nat := []
  histNum : Nat := 0
  turns : Tab Nat := []
  flushed : List Nat := []
  flushing : Bool := false
  wrote : Tab Nat := []
  progBytes : Nat := 0
  askBytes : Nat := 0
  saved : Nat := 0
  cycles : Nat := 0
  /-- HIST pages programmed ahead of an older one: logical number and place; bytes written to each skein at the last power-down. -/
  ahead : List (Nat × Nat) := []
  heads : Tab Nat := []
  /-- Roles of dies that a retirement changed, and what the array held of the records at the last start. -/
  roles : Tab Nat := []
  nand : RecX := {}
  /-- Pages handed over and not yet queued; by skein the blocks allocated, the next logical page and the XOR of the present stripe's pages;
  where the pages of EVENT, RETAIN, SNAP and the directory lie, and the directory's last checkpoint as a logical page. -/
  due : List StorePage := []
  allocs : Tab Nat := []
  logs : Tab Nat := []
  stripes : Tab (List Nat) := []
  pages : Tab (List PlacedPage) := []
  checkpoint : Nat := 0
  /-- The edge, plus one, of the last journal (1), checkpoint (2) and scrub pass (4), R375 and R377, and the stamp, plus one, of the last ZQ
  calibration (3), R369; the edge, plus one, on which the store became FLUSHED (R402). -/
  last : Tab Nat := []
  flushEdge : Nat := 0
  deriving DecidableEq, Repr


/-! ## Safety (chapter 16) -/

/-- A safety input channel (R428): its level at the ball, the edge from which that level counts as stable, and the level accepted by
the processor channel (the hard-wired one's stands in SAFE_IN). -/
structure SafeChan where
  level : Bool := false
  stable : Nat := 0
  accP : Bool := false
  deriving DecidableEq, Repr

/-- A safety input: its two channels, and the edges of the accepted changes that left CLOSED or OPEN in the hard-wired and the
processor channel of the unit (R429). -/
structure SafeInX where
  a : SafeChan := {}
  b : SafeChan := {}
  discH : Nat := 0
  discP : Nat := 0
  deriving DecidableEq, Repr

/-- A safety timer in the two channels (R431): its value, its source term's last value, and the edge of that one's last change. -/
structure SafeTimX where
  valH : Bool := false
  termH : Bool := false
  sinceH : Nat := 0
  valP : Bool := false
  termP : Bool := false
  sinceP : Nat := 0
  deriving DecidableEq, Repr

/-- A safety output: commands and permission of the two channels, the waits of MANUAL_RESTART (1 the request must read false, 2 then
true), the edge of the last renewal of its request, of the last change of command and of its last turning on, whether the readback
has settled, the edge from which the channels differ (plus one), an off-pulse under way (1 switch H, 2 switch P), and the edge at which the
last one started. -/
structure SafeOutX where
  cmdH : Bool := false
  cmdP : Bool := false
  permP : Bool := false
  waitH : Nat := 0
  waitP : Nat := 0
  reqAt : Nat := 0
  chg : Nat := 0
  onSince : Nat := 0
  settled : Bool := false
  diff : Nat := 0
  pulse : Nat := 0
  pulseAt : Nat := 0
  deriving DecidableEq, Repr

/-- A test pulse (R430): low now, blanking window open, its start, a failure in the present pulse, and whether the last one passed. -/
structure SafeTpX where
  low : Bool := false
  blank : Bool := false
  start : Nat := 0
  failed : Bool := false
  lastOk : Bool := true
  deriving DecidableEq, Repr

/-- The safety functions: inputs, timers, outputs, test pulses, the edge of T2's last commit, a press of SRESET_N under way with its
edge (plus one), the edge of the last F5 fault, whether the last evaluation found the duplicated words unlike (R425),
and the edges, plus one, of the last evaluation of the hard-wired matrix (R421) and the last crossing of the requests (R432). -/
structure SafetyX where
  ins : Tab SafeInX := []
  tims : Tab SafeTimX := []
  outs : Tab SafeOutX := []
  tps : Tab SafeTpX := []
  lastCommit : Nat := 0
  press : Nat := 0
  lastF5 : Nat := 0
  mismatch : Bool := false
  matAt : Nat := 0
  reqAt : Nat := 0
  deriving DecidableEq, Repr


/-! ## Pair and reserve (chapter 17) -/

/-- A frame sent over the pair link that waits for its acknowledgement (R453). -/
structure LinkTx where
  seq : Nat
  kind : Nat
  body : List Nat
  edge : Nat
  resent : Bool
  deriving DecidableEq, Repr

/-- A migration before its barrier (R467): the logical resource, the physical one it moves to, the barrier stamp, the
groups or tasks that have not passed the barrier yet, and whether it was a rotation. -/
structure Mig where
  logical : Nat
  target : Nat
  barrier : Nat
  left : List Nat
  rotate : Bool
  deriving DecidableEq, Repr

/-- The reserve pool (R465 to R472): planned migrations by kind (0 core, 1 ply engine, 2 Shuttle engine), requests that
wait (kind × 32 + logical × 2 + rotate), doffs that an ECC trend asks of T1 (the same), resources doffed for aging that wait for
their self-test (kind × 16 + physical). -/
structure PoolX where
  migs : Tab Mig := []
  waiting : List Nat := []
  wanted : List Nat := []
  aged : List Nat := []
  /-- Logical ply engines under an urgent move, with the groups still to launch on the new engine. -/
  moves : Tab (List Nat) := []
  /-- Correctable errors: RAM × 65536 + row to the stamps of the last 24 h; a core's local memory counts as RAM 128 + core, row 0. -/
  ecc : Tab (List Nat) := []
  /-- Row copies under way: RAM and row; spare rows used by RAM since the start. -/
  copies : List (Nat × Nat) := []
  rowsUsed : Tab Nat := []
  /-- Rows and RAMs repaired at the start. -/
  startRows : Nat := 0
  startRams : Nat := 0
  deriving DecidableEq, Repr

/-- What a witness knows of a pair (R458, R459): the active member's node, cycles in a row without each member's heartbeat, whether each
was present at its last delivery edge with the epoch and whether it was a DATA frame, cycles without any DATA heartbeat, and the
highest epoch. -/
structure WitX where
  active : Nat := 0
  missA : Nat := 0
  missB : Nat := 0
  presA : Bool := false
  presB : Bool := false
  epochA : Nat := 0
  epochB : Nat := 0
  quiet : Nat := 0
  high : Nat := 0
  deriving DecidableEq, Repr

/-- The pair link and roles. -/
structure PairX where
  txSeq : Nat := 0
  unacked : List LinkTx := []
  /-- Items and their bytes since the last cycle end. -/
  items : Nat := 0
  bytes : Nat := 0
  /-- Edge of the last join request, and items that wait for their replay (R457, R19). -/
  joinEdge : Nat := 0
  replay : List PairItem := []
  /-- Frames expected from the partner, and those missing with the edge on which the gap showed (R453). -/
  rxNext : Option Nat := none
  gaps : Tab Nat := []
  /-- The highest epoch heard for the pair since step 7, 0 for none (R456); whether the partner is ACTIVE, and the state it last reported. -/
  heard : Nat := 0
  partnerActive : Bool := false
  partnerState : Nat := 0
  /-- Edge of NEGOTIATING's begin, of DEPOSED's, and of the last failed join (plus one). -/
  negEdge : Nat := 0
  deposedEdge : Nat := 0
  failEdge : Nat := 0
  /-- An accepted TAKEOVER's epoch (R460). -/
  pend : Option Nat := none
  /-- The snapshot as received so far, and bytes of the items held for it (R457). -/
  snap : List Nat := []
  snapOn : Bool := false
  held : Nat := 0
  /-- The stamp of the last cycle end replayed. -/
  lastEnd : Nat := 0
  /-- DATA sending ended (R461). -/
  silent : Bool := false
  wits : Tab WitX := []
  /-- Edge of the last valid pair-link frame (plus one). -/
  linkEdge : Nat := 0
  /-- Edge of the first valid frame since the link came back (plus one), for the 1 ms of 0x1203. -/
  upEdge : Nat := 0
  /-- The partner has been seen in SHADOW, and cycles without it since; edge of RUN, for 0x1201. -/
  shadowSeen : Bool := false
  shadowMiss : Nat := 0
  runEdge : Nat := 0
  /-- A join waits for the next cycle boundary (R457). -/
  joinReq : Bool := false
  deriving DecidableEq, Repr


/-! ## The device and the machine -/

/-- The device: everything that a command's effect may change. -/
structure Dev where
  /-- Live registers and strands by address (R21, R22); a register at its reset value is not listed. -/
  live : Tab Nat := []
  clk : Clk := {}
  /-- The configuration flash (R23): bytes unlike the erased value 0xFF. -/
  flash : List Host.Cell := []
  /-- The running image; none before start-up step 5. -/
  img : Option Img := none
  /-- The image of an exchange from VERIFYING on (R51). -/
  next : Option Img := none
  unit : UnitX := {}
  patch : PatchX := {}
  xchg : XchgX := {}
  /-- Objects that run the new image in COMMITTING: class × 65536 + number (R52). -/
  switched : List Nat := []
  active : List Active := []
  recd : RecX := {}
  streams : Tab StreamX := []
  meas : Tab MeasX := []
  pick : Tab PickX := []
  /-- Levels that the unit's own general I/O outputs drive, one bit per pin. -/
  gpioOut : Nat := 0
  /-- Commands that the sources of the auxiliary outputs give, one bit per output; a halted output's LEVEL stays behind (R192). -/
  auxOut : Nat := 0
  /-- Everything the unit has sent (MODEL's own queue of outputs). -/
  out : List Out := []
  /-- Index of the next free value (MODEL's own field). -/
  free : Nat := 0
  /-- Hold requests that wait for a beat: hank to cause, 0xFFFFFF for a request without a fault (R268). -/
  holdReq : Tab Nat := []
  /-- The edges on which they were raised. -/
  holdAt : Tab Nat := []
  /-- The hanks that the loss of each measure named as it was raised (R85, R269). -/
  lostNamed : Tab (List Nat) := []
  /-- Strands written on the present edge with their values from before it (R15, R224, R225): the edge, plus one. -/
  oldEdge : Nat := 0
  olds : Tab Nat := []
  /-- W1C bits set on the present edge by register address (R9): the edge, plus one. -/
  w1cEdge : Nat := 0
  w1cSet : Tab Nat := []
  pins : Tab PinX := []
  /-- Strands with stale quality (R21) that their block's registers do not show by themselves. -/
  stale : List Nat := []
  creel : CreelX := {}
  plies : Tab PlyX := []
  grps : Tab GrpX := []
  engs : Tab EngX := []
  trcs : Tab TrcX := []
  axes : Tab AxisX := []
  mgrps : Tab MGrpX := []
  groups : Tab GroupX := []
  drives : Tab DriveX := []
  sds : Tab SdX := []
  /-- Pins whose change to active waits for DEAD_TIME: pin 2k is pair k's high side, 2k + 1 its low side;
  the edge at which the change takes effect, plus one. -/
  riseAt : Tab Nat := []
  lines : Tab LineX := []
  fbs : Tab FbX := []
  shu : ShuX := {}
  hanks : Tab HankX := []
  /-- Last SEQ that a sequencer gave to an axis (R259). -/
  hankSeq : Tab Nat := []
  weft : WeftX := {}
  /-- Transmit words written on an edge: the edge plus one, the value from before it, and whether the word counted as written then
  (R287). -/
  txPrev : Tab (Nat × Nat × Bool) := []
  eth : EthX := {}
  ptp : PtpX := {}
  cans : Tab CanX := []
  loops : Tab LoopX := []
  store : StoreX := {}
  safe : SafetyX := {}
  pool : PoolX := {}
  pairx : PairX := {}
  /-- Weft transmit words by number, slot × 64 + word (R291). -/
  txw : Tab Nat := []
  /-- Transmit words written with a delay (R145): word to the edge from which they stand, plus one, and the value. -/
  txLate : Tab (Nat × Nat) := []
  /-- Transmit words written since the previous close of their slot's assembly (R284). -/
  txNew : List Nat := []
  deriving DecidableEq, Repr

/-- The machine: the device, the fuses (R39, as one 2048-bit number), the die's identity (R38) and the
commands that wait, first in, first out. -/
structure State where
  dev : Dev := {}
  fuses : Nat := 0
  ident : Ident := {}
  pending : List Instr := []
  deriving DecidableEq, Repr

/-- The machine right after reset: PWR_GOOD low, every register at the reset value of its heading
(R5), no command waiting. Values that the spec takes from the die, the fuses or the flash are 0 or
erased (log entries 20 to 22). -/
def State.reset : State := {}

end Sys2Proof.Machine
end

