-- ==== Sys2Proof/Machine/Ops.lean ====
section
/-! DEFINITION. The named operations over the device: live registers and strands (R5, R21, R22), the
clock (R58, R62), the flash (R23), the records of the running image (R26, R28, R52), and what is sent. -/

namespace Sys2Proof.Machine

/-! Live registers. -/

/-- The live address of register `r` for index `i` (R3, R21). -/
def Reg.addr (r : Reg) (i : Nat) : Nat := r.base + i * r.stride

/-- The reset value of register `r` for index `i`. -/
def Reg.resetAt (r : Reg) (i : Nat) : Nat := r.reset + i * r.resetStep

/-- The register as the live file holds it, read whole (R8). -/
def rd (r : Reg) (i : Nat) (d : Dev) : Nat := d.live.get (r.resetAt i) (r.addr i)

/-- The register written whole, cut to its width. -/
def wr (r : Reg) (i v : Nat) (d : Dev) : Dev :=
  { d with live := d.live.set (r.resetAt i) (r.addr i) (trunc r.width v) }

/-- The value of a field. -/
def get (f : Fld) (i : Nat) (d : Dev) : Nat := bits (rd f.reg i d) f.lo f.width

/-- The W1C bits `m` of a register, which an event sets, are noted with the edge (R9). -/
def noteBits (r : Reg) (i m : Nat) (d : Dev) : Dev :=
  let l := if d.w1cEdge = d.clk.edges + 1 then d.w1cSet else []
  let a := r.addr i
  { d with w1cEdge := d.clk.edges + 1, w1cSet := l.put a (l.get 0 a ||| m) }

/-- A W1C field that an event sets is noted with the edge (R9). -/
def noteSet (f : Fld) (i v : Nat) (d : Dev) : Dev :=
  if bits f.reg.w1c f.lo f.width = 0 ∨ trunc f.width v = 0 then d else noteBits f.reg i ((2 ^ f.width - 1) * 2 ^ f.lo) d

/-- Sticky bits set by their events over those that stand. -/
def setSticky (r : Reg) (i m : Nat) (d : Dev) : Dev :=
  if m &&& r.w1c = 0 then d else wr r i (rd r i d ||| (m &&& r.w1c)) (noteBits r i (m &&& r.w1c) d)

/-- A field written; the register's other bits stay. -/
def put (f : Fld) (i v : Nat) (d : Dev) : Dev :=
  wr f.reg i (setBits (rd f.reg i d) f.lo f.width v) (noteSet f i v d)

/-- A one-bit field. -/
def flag (f : Fld) (i : Nat) (d : Dev) : Bool := get f i d == 1

/-- A one-bit field written from a Boolean. -/
def putB (f : Fld) (i : Nat) (b : Bool) (d : Dev) : Dev := put f i (b2n b) d

/-- A signed field. -/
def getS (f : Fld) (i : Nat) (d : Dev) : Int := toInt f.width (get f i d)

/-- A signed field written. -/
def putS (f : Fld) (i : Nat) (v : Int) (d : Dev) : Dev := put f i (ofInt f.width v) d

/-- A counter that wraps. -/
def bump (f : Fld) (i : Nat) (d : Dev) : Dev := put f i (get f i d + 1) d

/-- A counter that saturates. -/
def bumpSat (f : Fld) (i : Nat) (d : Dev) : Dev := put f i (satU f.width (get f i d + 1)) d

/-- A saturating counter raised by `n`. -/
def addSat (f : Fld) (i n : Nat) (d : Dev) : Dev := put f i (satU f.width (get f i d + n)) d

/-- A field raised to `v` when `v` is larger: a maximum that saturates. -/
def maxUp (f : Fld) (i v : Nat) (d : Dev) : Dev :=
  if get f i d < satU f.width v then put f i (satU f.width v) d else d

/-- The live address of a strand's value word (R21): block code and index. -/
def strandAddr (blk idx : Nat) : Nat := blk * 0x10000 + 0x8000 + 8 * idx

/-- A strand's value word. -/
def strand (blk idx : Nat) (d : Dev) : Nat := d.live.get 0 (strandAddr blk idx)

/-- The value of the strand at address `a` from before the present edge is kept (R15). -/
def noteOld (a : Nat) (d : Dev) : Dev :=
  let l := if d.oldEdge = d.clk.edges + 1 then d.olds else []
  { d with oldEdge := d.clk.edges + 1, olds := if l.any (·.1 == a) then l else l.put a (d.live.get 0 a) }

/-- A strand's value word written. -/
def setStrand (blk idx v : Nat) (d : Dev) : Dev :=
  let d := noteOld (strandAddr blk idx) d
  { d with live := d.live.set 0 (strandAddr blk idx) (trunc 64 v) }

/-- A strand written with a signed value, sign-extended to 64 bits (R21). -/
def setStrandS (blk idx : Nat) (v : Int) (d : Dev) : Dev := setStrand blk idx (ofInt 64 v) d

/-- A strand by its 20-bit ID (R1). -/
def strandId (id : Nat) (d : Dev) : Nat := strand (bits id 12 8) (bits id 0 12) d

/-! The clock. -/

/-- Loom time now. -/
def now (d : Dev) : Stamp := d.clk.loom

/-- FCLK edges since the PLL locked. -/
def edge (d : Dev) : Nat := d.clk.edges

/-- `n` FCLK edges pass: local time counts 16 for each (R62) and loom time 16, corrected by the steering
rate (R58); the part of a sixteenth below one is kept. -/
def Clk.advance (n : Nat) (c : Clk) : Clk :=
  let total := c.frac + 16 * n * (1000000000 + c.ppb).toNat
  { c with edges := c.edges + n, loom := c.loom + total / 1000000000, frac := total % 1000000000 }

/-- `n` FCLK edges pass on the device. -/
def advance (n : Nat) (d : Dev) : Dev := { d with clk := d.clk.advance n }

/-- Edges from edge count `e` until now. -/
def since (e : Nat) (d : Dev) : Nat := d.clk.edges - e

/-- Something that happens every `period` edges may happen again: `last` is the edge, plus one, of the last time, 0 before the first. -/
def dueAgain (last period : Nat) (d : Dev) : Bool := last == 0 || decide (period ≤ since (last - 1) d)

/-- The loom time `frac` sixteenths after the present edge. -/
def nowPlus (frac : Nat) (d : Dev) : Stamp := d.clk.loom + frac

/-! The flash (R23). -/

/-- A flash byte; an unwritten byte is erased and reads 0xFF. -/
def flashGet (mem : List Host.Cell) (a : Nat) : Nat := (Tab.get (255 : BitVec 8) mem a).toNat

/-- A flash byte written. -/
def flashSet (a v : Nat) (mem : List Host.Cell) : List Host.Cell :=
  Tab.set (255 : BitVec 8) a (BitVec.ofNat 8 v) mem

/-- Bytes written from address `a` on. -/
def flashPut : Nat → List Nat → List Host.Cell → List Host.Cell
  | _, [], mem => mem
  | a, b :: bs, mem => flashPut (a + 1) bs (flashSet a b mem)

/-- `n` bytes from address `a` on, out of cells that all lie at `a` or above. -/
def flashWalk : Nat → Nat → List Host.Cell → List Nat
  | 0, _, _ => []
  | n + 1, a, [] => 255 :: flashWalk n (a + 1) []
  | n + 1, a, (k, v) :: t =>
    if k = a then v.toNat :: flashWalk n (a + 1) t else 255 :: flashWalk n (a + 1) ((k, v) :: t)

/-- Bytes from address `a` on, `n` of them. -/
def flashBytes (mem : List Host.Cell) (a n : Nat) : List Nat :=
  flashWalk n a (mem.dropWhile fun c => decide (c.1 < a))

/-- The flash with `lo ≤ address < hi` erased. -/
def flashErase (lo hi : Nat) (mem : List Host.Cell) : List Host.Cell :=
  mem.filter fun c => decide (c.1 < lo ∨ hi ≤ c.1)

/-- The canonical form of the flash: addresses strictly rising, no erased byte listed. -/
def Memory.wf (mem : List Host.Cell) : Bool :=
  Tab.sorted mem && mem.all fun c => decide (c.2 ≠ 255)

/-! Records of an image. -/

/-- Bytes of the payload. -/
def Rec.bytes (r : Rec) (off n : Nat) : List Nat := (r.pay.drop off).take n

/-- An unsigned little-endian field of entry `i`. -/
def Rec.u (r : Rec) (f : PF) (i : Nat := 0) : Nat := leVal (r.bytes (f.off + f.stride * i) f.size)

/-- A signed field of entry `i`. -/
def Rec.s (r : Rec) (f : PF) (i : Nat := 0) : Int := toInt (8 * f.size) (r.u f i)

/-- A field `n` bytes behind its stated offset, for tables that follow tables of varying length. -/
def Rec.uAt (r : Rec) (off size : Nat) : Nat := leVal (r.bytes off size)

/-- Bit `b` of a field. -/
def Rec.b (r : Rec) (f : PF) (n : Nat) : Bool := bit (r.u f) n

/-- A little-endian header field. -/
def hdrU (h : List Nat) (f : PF) : Nat := leVal ((h.drop f.off).take f.size)

/-- The records of a TYPE, in order. -/
def Img.all (m : Img) (typ : Nat) : List Rec := m.recs.filter fun r => r.typ == typ

/-- The first record of a TYPE whose field `key` holds `k`. -/
def Img.find (m : Img) (typ : Nat) (key : PF) (k : Nat) : Option Rec :=
  m.recs.find? fun r => r.typ == typ && r.u key == k

/-- The first record of a TYPE. -/
def Img.one (m : Img) (typ : Nat) : Option Rec := m.recs.find? fun r => r.typ == typ

/-- The image in force for object `k` of class `cls`: the new one once the object has switched (R52). -/
def imgFor (cls k : Nat) (d : Dev) : Option Img :=
  if d.switched.contains (cls * 65536 + k) then d.next else d.img

/-- The records of a TYPE in the running image. -/
def recsOf (typ : Nat) (d : Dev) : List Rec := (d.img.map (·.all typ)).getD []

/-- The record of a TYPE in the running image. -/
def recOf (typ : Nat) (d : Dev) : Option Rec := d.img.bind (·.one typ)

/-- The record of a TYPE with `key = k` in the running image. -/
def recAt (typ : Nat) (key : PF) (k : Nat) (d : Dev) : Option Rec := d.img.bind (·.find typ key k)

/-- The record of a TYPE with `key = k` in the image in force for that object of class `cls`. -/
def recFor (cls typ : Nat) (key : PF) (k : Nat) (d : Dev) : Option Rec :=
  (imgFor cls k d).bind (·.find typ key k)

/-- A field of a record that may be absent, with its default (R510). -/
def orD (r : Option Rec) (f : PF) (dflt : Nat) : Nat := (r.map (·.u f)).getD dflt

/-- As `orD`, and a present field that holds 0 takes the default too (R510). -/
def orD0 (r : Option Rec) (f : PF) (dflt : Nat) : Nat :=
  match r with
  | none => dflt
  | some r => if r.u f = 0 then dflt else r.u f

/-! What is sent, and free values. -/

/-- Something leaves the unit. -/
def send (k : OutKind) (obj : Nat) (bs : List Nat) (d : Dev) : Dev := { d with out := d.out ++ [⟨k, obj, bs⟩] }

/-- The next free value, cut to `w` bits, and the device with the index moved on. -/
def fresh (w : Nat) (d : Dev) : Nat × Dev := (trunc w (Config.freeValue d.free), { d with free := d.free + 1 })

/-- One of a list where the spec does not say which: a free choice. -/
def oneOf (l : List Nat) (d : Dev) : Option Nat × Dev :=
  match l with
  | [] => (none, d)
  | a :: t =>
    let (k, d) := fresh 64 d
    (some ((a :: t).getD (k % (t.length + 1)) a), d)

/-- Bit `k` of the set `n` put to `b`. -/
def setBit (n k : Nat) (b : Bool) : Nat := setBits n k 1 (b2n b)

/-- The unit runs: step 10 reached, not stopped by an F4 fault or an orderly stop (R462). -/
def running (d : Dev) : Bool := d.unit.phase == .run && !d.unit.stopped

/-- PAIR_STATUS.STATE values of R455. -/
def pairState (d : Dev) : Nat := get PAIR_STATUS_STATE 0 d

/-- The unit drives its own outputs and takes its own decisions: active or unpaired. -/
def isActive (d : Dev) : Bool := pairState d == 6 || pairState d == 9

/-- The unit shadows its partner: JOINING, CATCHING_UP or SHADOW. -/
def isStandby (d : Dev) : Bool := pairState d == 3 || pairState d == 4 || pairState d == 5

/-- A command that acts on the device after `dt` edges (log entry 1). -/
def onDev (dt : Nat) (f : Dev → Dev) (s : State) : Host.Outcome State Fault Refusal :=
  .next { s with dev := f (advance dt s.dev) }

end Sys2Proof.Machine
end

