-- ==== Sys2Proof/Machine/Faults.lean ====
section
/-! DEFINITION. Raising and clearing a fault (R480 to R490), the event log (R397 to R400) and the
reactions of classes F3, F4 and F5 (R268, R484, R485, R435). The F2 reaction of an axis or a ply stands
with its block. -/

namespace Sys2Proof.Machine

/-- The clearing kinds of R482. -/
inductive FKind where
  | momentary
  | field (f : Fld)
  | heddle
  | groupStopped
  | cond
  | axis
  | start
  | startStar
  | press
  deriving DecidableEq, Repr

/-- The catalogue of R489: code, class, clearing kind. -/
def catalogueA : List (Nat × Nat × FKind) := [
  (0x0101, 4, .start), (0x0102, 4, .start), (0x0103, 1, .cond), (0x0104, 0, .momentary),
  (0x0201, 1, .momentary), (0x0202, 1, .momentary), (0x0203, 1, .momentary), (0x0204, 1, .momentary),
  (0x0205, 1, .momentary), (0x0206, 1, .momentary), (0x0207, 1, .momentary), (0x0208, 1, .momentary),
  (0x0209, 1, .momentary), (0x020A, 4, .start), (0x020B, 1, .momentary), (0x020C, 4, .start),
  (0x020D, 1, .momentary), (0x020E, 0, .start), (0x020F, 1, .momentary), (0x0210, 1, .start),
  (0x0211, 0, .momentary),
  (0x0301, 3, .cond), (0x0302, 1, .field REEL_MEAS_STATUS_RATE_RANGE), (0x0303, 1, .cond),
  (0x0304, 1, .field REEL_PICK_STATUS_LATE), (0x0305, 1, .field REEL_PICK_STATUS_SKIPPED),
  (0x0306, 0, .momentary), (0x0307, 1, .start),
  (0x0401, 3, .field CREEL_THREAD_STATUS_OVERRUN), (0x0402, 0, .momentary),
  (0x0403, 1, .field CREEL_THREAD_STATUS_WAKE_OVF), (0x0404, 4, .start), (0x0405, 4, .startStar),
  (0x0406, 0, .momentary), (0x0407, 1, .start),
  (0x0501, 1, .field PLY_FLAGS_MISS), (0x0502, 2, .field PLY_STATE_STOPPED),
  (0x0503, 1, .field PLY_GRP_STATUS_EARLY), (0x0504, 1, .momentary),
  (0x0505, 1, .field PLY_FLAGS_MISMATCH), (0x0506, 2, .groupStopped), (0x0507, 2, .field PLY_STATE_STOPPED)]

/-- The catalogue, blocks 0x06 to 0x0A. -/
def catalogueB : List (Nat × Nat × FKind) := [
  (0x0601, 2, .axis), (0x0602, 2, .axis), (0x0603, 1, .momentary), (0x0604, 1, .momentary),
  (0x0605, 1, .momentary), (0x0606, 1, .momentary), (0x0607, 2, .axis), (0x0608, 2, .axis),
  (0x0609, 2, .axis), (0x060A, 2, .field MOT_GRP_FLAGS_MEMBER_FAULT), (0x060B, 1, .momentary),
  (0x0610, 2, .axis), (0x0611, 2, .axis), (0x0612, 1, .momentary), (0x0613, 2, .axis), (0x0614, 2, .axis),
  (0x0701, 2, .axis), (0x0702, 2, .axis), (0x0703, 2, .axis), (0x0704, 2, .axis),
  (0x0705, 1, .field DRV_GRP_STATUS_LOAD_REFUSED), (0x0706, 1, .field DRV_GRP_STATUS_DUTY_CLAMP),
  (0x0707, 1, .field DRV_GRP_STATUS_SYNC_SLIP), (0x0708, 1, .field DRV_AUX_STATUS_PHASE_STOP),
  (0x0709, 1, .field DRV_SD_STATUS_SAT), (0x070A, 2, .axis), (0x070B, 1, .field DRV_SD_STATUS_STUCK),
  (0x0801, 0, .momentary), (0x0802, 1, .field FBK_FB_FLAGS_MISMATCH), (0x0803, 2, .field FBK_FB_FLAGS_FAULTY),
  (0x0804, 1, .field FBK_FB_FLAGS_QUAD_ERR), (0x0805, 1, .field FBK_FB_FLAGS_HALL_ERR),
  (0x0806, 1, .field FBK_FB_FLAGS_SSI_ERR), (0x0807, 1, .cond),
  (0x0901, 1, .field SHU_TASK_STATE_OVERRUN), (0x0902, 3, .field SHU_TASK_STATE_FAULT),
  (0x0903, 3, .field SHU_TASK_STATE_FAULT), (0x0904, 1, .field SHU_TASK_STATE_DIVZ),
  (0x0905, 1, .field SHU_TASK_STATE_HVAR_OVW), (0x0906, 1, .field SHU_TASK_STATE_STALE),
  (0x0907, 0, .momentary),
  (0x0A01, 3, .field HANK_H_FLAGS_LATE_STAGE), (0x0A02, 3, .field HANK_H_FLAGS_BRANCHED),
  (0x0A03, 1, .momentary), (0x0A04, 1, .momentary), (0x0A05, 1, .field HANK_H_FLAGS_REQ_OVW),
  (0x0A06, 0, .momentary), (0x0A07, 0, .momentary), (0x0A08, 0, .momentary)]

/-- The catalogue, blocks 0x0B to 0x0F. -/
def catalogueC : List (Nat × Nat × FKind) := [
  (0x0B01, 1, .cond), (0x0B02, 1, .cond), (0x0B03, 4, .start), (0x0B04, 1, .field WEFT_FLAGS_ECHO_FAIL),
  (0x0B05, 1, .heddle), (0x0B06, 0, .momentary), (0x0B07, 1, .field WEFT_FLAGS_NOT_READY),
  (0x0B08, 1, .field WEFT_FLAGS_CHAN_DIFF), (0x0B09, 4, .start), (0x0B0A, 4, .startStar),
  (0x0C01, 1, .cond), (0x0C02, 1, .field ETH_STATUS_RX_AGED), (0x0C03, 0, .momentary),
  (0x0C04, 1, .momentary), (0x0C05, 0, .momentary), (0x0C06, 0, .momentary),
  (0x0D01, 1, .cond), (0x0D02, 1, .cond), (0x0D03, 1, .field CAN_C_FLAGS_Q0_OVF), (0x0D04, 1, .cond),
  (0x0D05, 1, .field CAN_C_FLAGS_TX_OVW), (0x0D06, 1, .cond),
  (0x0E01, 1, .cond), (0x0E02, 1, .field LPP_P_FLAGS_HART_FAIL), (0x0E03, 1, .field LPP_P_FLAGS_HEADROOM),
  (0x0F01, 1, .start), (0x0F02, 0, .momentary), (0x0F03, 1, .field STORE_FLAGS_LOST), (0x0F04, 0, .momentary),
  (0x0F05, 1, .field STORE_FLAGS_DIE_RETIRED), (0x0F06, 1, .field STORE_FLAGS_RESERVE_LOW),
  (0x0F07, 1, .field STORE_FLAGS_LIFE_LOW), (0x0F08, 1, .field STORE_FLAGS_FLUSH_SHORT),
  (0x0F09, 0, .momentary), (0x0F0A, 1, .field STORE_FLAGS_QUEUE_FULL), (0x0F0B, 0, .momentary)]

/-- The catalogue, blocks 0x10 to 0x13. -/
def catalogueD : List (Nat × Nat × FKind) := [
  (0x1001, 1, .field REC_STR_STATUS_OVERFLOW), (0x1002, 1, .field REC_STATUS_LOG_DROP),
  (0x1003, 0, .momentary), (0x1004, 4, .start), (0x1005, 1, .field REC_STATUS_HIST_LOSS),
  (0x1006, 1, .field REC_STATUS_HOLDUP_LOW), (0x1007, 1, .field REC_STATUS_SNAP_REFUSED),
  (0x1101, 5, .press), (0x1102, 5, .press), (0x1103, 5, .press), (0x1104, 5, .press), (0x1105, 5, .press),
  (0x1106, 5, .press), (0x1107, 5, .press), (0x1108, 5, .press), (0x1109, 0, .momentary),
  (0x110A, 0, .momentary), (0x110B, 1, .momentary),
  (0x1201, 1, .cond), (0x1202, 1, .cond), (0x1203, 1, .cond), (0x1204, 0, .momentary),
  (0x1205, 1, .field PAIR_FLAGS_DEPOSED), (0x1206, 1, .field PAIR_FLAGS_JOIN_FAIL),
  (0x1207, 1, .field PAIR_FLAGS_FB_DIVERGE), (0x1208, 1, .field PAIR_FLAGS_ITEM_LATE),
  (0x1209, 1, .field PAIR_FLAGS_REPLAY_DIVERGE), (0x120A, 0, .momentary), (0x120B, 1, .cond),
  (0x120C, 1, .field PAIR_FLAGS_TAKEOVER_IGNORED), (0x120D, 4, .start),
  (0x1301, 0, .momentary), (0x1302, 1, .momentary), (0x1303, 1, .field RSV_FLAGS_RESIDUE),
  (0x1304, 1, .field RSV_FLAGS_POOL_EMPTY), (0x1305, 4, .startStar), (0x1306, 1, .field RSV_FLAGS_AGE_LOW),
  (0x1307, 0, .momentary), (0x1308, 4, .start), (0x1309, 1, .field RSV_FLAGS_BIST_FAIL),
  (0x130A, 1, .start), (0x130B, 1, .momentary)]

/-- Every fault code of the unit (R489). -/
def catalogue : List (Nat × Nat × FKind) := catalogueA ++ catalogueB ++ catalogueC ++ catalogueD

/-- The reaction class of a code (R12). -/
def faultClass (code : Nat) : Nat := ((catalogue.find? fun e => e.1 == code).map (·.2.1)).getD 0

/-- The clearing kind of a code (R482). -/
def faultKind (code : Nat) : FKind := ((catalogue.find? fun e => e.1 == code).map (·.2.2)).getD .momentary

/-! The event log. -/

/-- Bytes 23 to 31 of a record under R480: OBJECT, AUX, and VALUE saturating to 48 bits. -/
def mkDetail (obj aux : Nat) (value : Int) : Nat :=
  obj % 65536 + aux % 256 * 0x10000 + ofInt 48 (satS 48 value) * 0x1000000

/-- The 32 bytes of a record (R397). -/
def EvRec.bytes (e : EvRec) : List Nat :=
  leBytes 8 e.stamp ++ leBytes 4 e.seq ++ leBytes 5 e.opMs ++ leBytes 3 e.cycle ++ leBytes 2 e.code ++
    [e.sev + b2n e.cleared * 8 + b2n e.preLoom * 16] ++ leBytes 9 e.detail

/-- OP_MS now (R398), rounded to the nearest millisecond (R512). -/
def opMs (d : Dev) : Nat := d.recd.opBase + (edge d - d.recd.opEdge + 200000) / 400000

/-- The log's capacity in records; without an array record the event buffer alone holds records
(R400, R386). -/
def eventCap (d : Dev) : Nat := orD (recOf 0x0F01 d) P0F01_EVENT_MIB 0 * 8192

/-- The store takes writes (R382). -/
def storeReady (d : Dev) : Bool := get STORE_STATUS_STATE 0 d == 3

/-- The record with the lowest SEQ of severity at or below `s` taken out of a list that is in rising SEQ. -/
def dropLowest (s : Nat) : List EvRec → Option (List EvRec)
  | [] => none
  | e :: es => if e.sev ≤ s then some es else (dropLowest s es).map (e :: ·)

/-- A record put behind the records of earlier edges and of lower code or object on the same edge
(R483); the records of one edge keep the run of SEQ numbers they were given. Records up to SEQ `kept` are of an earlier start. -/
def insertRec (kept : Nat) (e : EvRec) (l : List EvRec) : List EvRec :=
  let mine (x : EvRec) : Bool := x.stamp == e.stamp && x.preLoom == e.preLoom && !(x.seq != 0 && decide (x.seq ≤ kept))
  let same := l.filter mine
  let rest := l.filter fun x => !mine x
  let key (x : EvRec) : Nat := x.code * 65536 + x.detail % 65536
  let lo := same.filter fun x => key x ≤ key e
  let hi := same.filter fun x => !(key x ≤ key e)
  let run := lo ++ [e] ++ hi
  let seqs := (same.map (·.seq)) ++ [e.seq]
  rest ++ (run.zip seqs).map fun p => { p.1 with seq := p.2 }

/-- The counters of the log's registers (R419). -/
def logRegs (d : Dev) : Dev :=
  let all := d.recd.log ++ d.recd.buf
  let lowest := ((all.filter fun e => e.seq != 0).head?.map (·.seq)).getD 0
  d |> put REC_EVENT_SEQ_HIGHEST 0 (d.recd.nextSeq - 1)
    |> put REC_EVENT_SEQ_LOWEST 0 lowest
    |> put REC_EVENT_COUNT_OVERWRITTEN 0 (satU 32 d.recd.overwritten)
    |> put REC_EVENT_COUNT_DROPPED 0 (satU 32 d.recd.dropped)
    |> put REC_EVENT_BUF_UNWRITTEN 0 (min 2048 d.recd.buf.length)

/-- Bytes cut into pages of 16 384, the last one padded with zeros; `fuel` is at least their number. -/
def pagesOf : Nat → List Nat → List (List Nat)
  | 0, _ => []
  | fuel + 1, bs => if bs = [] then [] else
    let p := bs.take 16384
    (p ++ zeros (16384 - p.length)) :: pagesOf fuel (bs.drop 16384)

/-- Pages handed to the store engine (R370): thread T4 queues them when it next runs. -/
def handPages (skein : Nat) (pages : List (Nat × List Nat)) (d : Dev) : Dev :=
  { d with store := { d.store with due := d.store.due ++ pages.map fun p => ⟨skein, p.1, p.2⟩ } }

/-- The event records that the `k`-th page of the buffer holds (R399). -/
def bufPage (k : Nat) (buf : List EvRec) : List EvRec := (buf.drop (512 * k)).take 512

/-- The unwritten records as pages of EVENT, each with its first SEQ (R399). -/
def eventPages (buf : List EvRec) : List (Nat × List Nat) :=
  (List.range ((buf.length + 511) / 512)).flatMap fun k =>
    let rs := bufPage k buf
    (pagesOf 1 (rs.flatMap EvRec.bytes)).map fun p => ((rs.head?.map (·.seq)).getD 0, p)

/-- The unwritten records go to EVENT, where there is a store that takes them (R399). -/
def flushEvents (d : Dev) : Dev :=
  if storeReady d && !d.recd.frozen && d.recd.buf != [] then
    let r := d.recd
    let n := (r.buf.length + 511) / 512 * 16384
    let h := get STORE_SK_HEAD_BYTES 1 d + n
    handPages 2 (eventPages r.buf) { d with recd := { r with log := r.log ++ r.buf, buf := [] } }
      |> put STORE_SK_HEAD_BYTES 1 h |> put STORE_SK_TAIL_BYTES 1 (max (get STORE_SK_TAIL_BYTES 1 d) (h - get STORE_SK_SIZE_BYTES 1 d))
      |> bump REC_EVENT_BUF_WRITES 0 |> logRegs
  else d

/-- A record's place among the unwritten ones: by the order of R483 on one edge. The steps of a start that are one command of the model
(log entry 12) are edges of their own, and keep their order. -/
def placeRec (e : EvRec) (l : List EvRec) (d : Dev) : List EvRec := if d.unit.phase = .step1 then l ++ [e] else insertRec d.recd.kept e l

/-- A record enters the log: numbered when numbering has started; when the log is full it replaces the
live record with the lowest SEQ of severity at or below the lower of its own and 4, or is dropped (R400). -/
def enterRec (e : EvRec) (d : Dev) : Dev :=
  let r := d.recd
  let cap := eventCap d
  let full := (cap ≠ 0 && decide (cap ≤ r.log.length + r.buf.length)) || decide (2048 ≤ r.buf.length)
  let e := if r.numbering then { e with seq := r.nextSeq } else e
  let next := if r.numbering then r.nextSeq + 1 else r.nextSeq
  let old := if r.buf = [] then edge d else r.oldest
  let r1 := { r with nextSeq := next, oldest := old }
  let lim := min e.sev 4
  if full then
    if 2048 ≤ r.buf.length then
      match dropLowest lim r.buf with
      | some b => logRegs { d with recd := { r1 with buf := placeRec e b d, overwritten := r.overwritten + 1 } }
      | none => logRegs { d with recd := { r with dropped := r.dropped + 1 } }
    else
      match dropLowest lim r.log with
      | some l => logRegs { d with recd := { r1 with log := l, buf := placeRec e r.buf d, overwritten := r.overwritten + 1 } }
      | none =>
        match dropLowest lim r.buf with
        | some b => logRegs { d with recd := { r1 with buf := placeRec e b d, overwritten := r.overwritten + 1 } }
        | none => logRegs { d with recd := { r with dropped := r.dropped + 1 } }
  else logRegs { d with recd := { r1 with buf := placeRec e r.buf d } }

/-- Stamps before start-up step 7 are local time and carry PRE_LOOM (R58, R397). -/
def preLoom (d : Dev) : Bool := !flag REEL_TIME_STATUS_LOOM_SET 0 d && d.unit.phase != .run

/-- The last fault record (R490): `e`, unless R483 puts another one of its edge behind it. -/
def lastRec (e : EvRec) (dropped : Bool) (d : Dev) : EvRec :=
  match d.recd.buf.getLast? with
  | some x => if !dropped ∧ x.stamp = e.stamp then x else e
  | none => e

/-- One event record of a code enters, with the store's flush where R399 asks for it. -/
def writeRec (code sev detail : Nat) (cleared : Bool) (d : Dev) : Dev :=
  let e : EvRec := ⟨now d, 0, opMs d, d.recd.powerCycle, code, sev, cleared, preLoom d, detail⟩
  let n := d.recd.dropped
  let d := enterRec e d
  let x := lastRec e (decide (n < d.recd.dropped)) d
  let d := if 512 ≤ d.recd.buf.length ∨ 4 ≤ sev then flushEvents d else d
  d |> put FLT_LAST_SEQ 0 (d.recd.nextSeq - 1) |> put FLT_LAST_CODE 0 x.code |> put FLT_LAST_CLASS 0 x.sev
    |> putB FLT_LAST_CLEARED 0 x.cleared

/-- The highest class among active faults, their number, and the bit of each block (R490). -/
def refreshFaults (d : Dev) : Dev :=
  let worst := d.active.foldl (fun m a => max m (faultClass a.code)) 0
  let bitsOf (b : Nat) : Nat := d.active.foldl
    (fun m a => if a.code / 256 = b then setBit m (a.code % 256) true else m) 0
  d |> put FLT_STATUS_MAX_CLASS 0 worst
    |> put FLT_STATUS_ACTIVE 0 (satU 8 d.active.length)
    |> forN 21 (fun b d => put FLT_ACTIVE_FAULTS b (bitsOf b) d)

/-- An active fault put in its place: ascending code, then object. -/
def insertActive (a : Active) : List Active → List Active
  | [] => [a]
  | x :: xs => if a.code < x.code ∨ (a.code = x.code ∧ a.obj < x.obj) then a :: x :: xs
      else x :: insertActive a xs

/-- The count of a class since RUN (R490). -/
def countClass (cls : Nat) (d : Dev) : Dev :=
  if d.unit.phase ≠ .run then d
  else if cls = 0 then bumpSat FLT_COUNTS_F0 0 d else if cls = 1 then bumpSat FLT_COUNTS_F1 0 d
  else if cls = 2 then bumpSat FLT_COUNTS_F2 0 d else if cls = 3 then bumpSat FLT_COUNTS_F3 0 d
  else if cls = 4 then bumpSat FLT_COUNTS_F4 0 d else bumpSat FLT_COUNTS_F5 0 d

/-- A record was dropped (R400): LOG_DROP, and 0x1002 at most once in 60 s, whose own record may be dropped too. -/
def noteDrop (d : Dev) : Dev :=
  let d := put REC_STATUS_LOG_DROP 0 1 d
  let due := match d.recd.lastDrop with
    | none => true
    | some e => decide (24000000000 ≤ since e d)
  if !due then d
  else
    let d : Dev := { d with recd := { d.recd with lastDrop := some (edge d) } }
    if d.active.any (·.code == 0x1002) then d
    else refreshFaults { countClass 1 (writeRec 0x1002 1 0 false d) with active := insertActive ⟨0x1002, 0, 0⟩ d.active }

/-- One event record of a code (R399, R400). -/
def record (code sev detail : Nat) (cleared : Bool) (d : Dev) : Dev :=
  let n := d.recd.dropped
  let d := writeRec code sev detail cleared d
  if n < d.recd.dropped then noteDrop d else d

/-! Active faults. -/

/-- A fault is active for an object. -/
def isActiveFault (code obj : Nat) (d : Dev) : Bool := d.active.any fun a => a.code == code && a.obj == obj

/-- The active fault leaves the list and its CLEARED record is written (R483). -/
def clearOne (a : Active) (d : Dev) : Dev :=
  let d := { d with active := d.active.filter fun x => x != a }
  refreshFaults (record a.code (faultClass a.code) a.detail true d)

/-- The fault of a code and an object clears, when it is active. -/
def clearFault (code obj : Nat) (d : Dev) : Dev :=
  match d.active.find? fun a => a.code == code && a.obj == obj with
  | some a => clearOne a d
  | none => d

/-- Every active fault that satisfies `p` clears, in ascending code and object. -/
def clearWhere (p : Active → Bool) (d : Dev) : Dev := forL (d.active.filter p) clearOne d

/-! Hanks that a fault names (R268). -/

/-- The step of a recipe record as a record of its own, its fields counted from the step's start (R274). -/
def stepOf (r : Rec) (s : Nat) : Rec := { r with pay := r.pay.drop (r.u P0A02_STEP_OFF s) }

/-- The plies that a recipe assigns in some step (R259, R273). -/
def recipePlies (r : Rec) : List Nat :=
  (List.range (r.u P0A02_STEPS)).flatMap fun s =>
    (List.range ((stepOf r s).u PSTEP_N_PLY)).map fun i => (stepOf r s).u PSTEP_PLY i

/-- The picks that a hank owns: TIME_PICK, BEAT_PICK and the four MEAS_PICKs (R255). -/
def hankPicks (r : Rec) : List Nat :=
  [r.u P0A01_TIME_PICK, r.u P0A01_BEAT_PICK] ++ (List.range 4).map fun i => r.uAt (8 + 2 * i) 2

/-- The hank that a thread sequences. -/
def hankOfThread (t : Nat) (d : Dev) : Option Nat :=
  ((recsOf 0x0A01 d).find? fun r => r.u P0A01_THREAD == t).map (·.u P0A01_HANK)

/-- Hank `r` of the image owns an armed pick on measure `m` (R85). -/
def ownsArmedOn (r : Rec) (m : Nat) (d : Dev) : Bool :=
  (hankPicks r).any fun p => decide (p < 1024) && decide (2 ≤ get REEL_PICK_STATUS_STATE p d) &&
    get REEL_PICK_CFG_MEASURE p d == m

/-- The plies that an entry of a group evaluates (R124, R134): itself, or D_PLY and Q_PLY of a current axis. -/
def entryPliesOf (e : Nat) (d : Dev) : List Nat :=
  if e < 0x8000 then [e]
  else match recAt 0x0704 P0704_AXIS (e % 16) d with
    | some q => [q.u P0704_D_PLY, q.u P0704_Q_PLY]
    | none => []

/-- The plies of a group, in evaluation order. -/
def groupPlies (d : Dev) (r : Rec) : List Nat :=
  (List.range (r.u P0502_COUNT)).flatMap fun i => entryPliesOf (r.u P0502_ENTRY i) d

/-- The plies that a fault of class F2 names: the ply itself, or every ply of the group (R126). -/
def faultPlies (code obj : Nat) (d : Dev) : List Nat :=
  if code = 0x0502 ∨ code = 0x0507 then [obj]
  else if code = 0x0506 then
    ((recsOf 0x0502 d).filter fun r => r.u P0502_GROUP == obj).flatMap (groupPlies d)
  else []

/-- The axis that a fault of class F2 names. -/
def faultAxis (code obj : Nat) : Option Nat :=
  if code / 256 = 0x06 ∧ code ≠ 0x060A then some obj
  else if (0x0701 ≤ code ∧ code ≤ 0x0704) ∨ code = 0x070A then some obj else none

/-- The image that hank `h` runs by (R52). -/
def hankImg (h : Nat) (d : Dev) : Option Img := if (d.hanks.get {} h).newVer then d.next else d.img

/-- The fault is a hank-level fault of the hank of record `r` (R268), by the records of the image that the hank runs by. -/
def namesHank (code obj : Nat) (r : Rec) (d : Dev) : Bool :=
  let h := r.u P0A01_HANK
  if code = 0x0301 then ownsArmedOn r obj d
  else if code = 0x0401 then r.u P0A01_THREAD == obj
  else if code = 0x0902 ∨ code = 0x0903 then
    match recFor 0x13 0x0902 P0902_TASK obj d with
    | some t => bit (t.u P0902_HOLD_HANKS) h
    | none => false
  else if code = 0x0A01 ∨ code = 0x0A02 then obj == h
  else if faultClass code = 2 then
    (r.b P0A01_FLAGS 0 && ((faultPlies code obj d).any fun p =>
      ((hankImg h d).map (·.all 0x0A02)).any fun l => l.any fun q => q.u P0A02_HANK == h && (recipePlies q).contains p)) ||
    (r.b P0A01_FLAGS 1 && ((faultAxis code obj).map fun a => bit (r.u P0A01_AXES) a).getD false)
  else false

/-- A hold request of hank `h` waits for the next beat (R268); the first cause stands. An IDLE hank has nothing to hold (R267). -/
def requestHold (h cause : Nat) (d : Dev) : Dev :=
  if d.holdReq.get 0 h = 0 ∧ get HANK_H_STATE_STATE h d ≠ 0 then
    { d with holdReq := d.holdReq.set 0 h cause, holdAt := d.holdAt.set 0 h (edge d) }
  else d

/-- The hanks that a fault names (R268). -/
def hanksNamed (code obj : Nat) (d : Dev) : List Nat :=
  (List.range 32).filter fun h => ((hankImg h d).bind (·.find 0x0A01 P0A01_HANK h)).any fun r => namesHank code obj r d

/-- The hanks that a fault names receive a hold request (R268). 0x0A01 and 0x0A02 act on their own edge. A lost measure names the hanks
that own an armed pick on it as it is lost (R85): they stay named while the fault is active. -/
def holdNamed (code obj : Nat) (d : Dev) : Dev :=
  if code = 0x0A01 ∨ code = 0x0A02 then d
  else
    let hs := hanksNamed code obj d
    let d : Dev := if code = 0x0301 then { d with lostNamed := d.lostNamed.set [] obj hs } else d
    forL hs (fun h => requestHold h code) d

/-- An active fault keeps hank `h` from leaving its hold step (R269). -/
def keepsHeld (h : Nat) (d : Dev) (a : Active) : Bool :=
  if a.code = 0x0301 then (d.lostNamed.get [] a.obj).contains h else (hanksNamed a.code a.obj d).contains h

/-! The reactions of F4 and F5. -/

/-- The state of R455 with its strand (R475). -/
def showRole (st : Nat) (d : Dev) : Dev := setStrand 0x12 0 st (put PAIR_STATUS_STATE 0 st d)

/-- A start that an F4 fault ends (R487): the outputs keep their reset state; after the third such start
in a row the unit enters LOAD_FAIL. -/
def endStart (code : Nat) (d : Dev) : Dev :=
  let n := d.unit.failedStarts + 1
  let u := { d.unit with lastF4 := code, noRestart := decide (faultKind code = FKind.startStar), failedStarts := n,
                         stopEdge := edge d }
  if 3 ≤ n then
    let d := { d with unit := { u with phase := .loadFail, failedStarts := 0 } }
    let d := put FUSE_LDR_STATE_STEP 0 0xF (put FUSE_LDR_STATE_LAST_FAULT 0 0x020A d)
    let det := mkDetail 0 0 code
    let d := record 0x020A 4 det false d
    countClass 4 (refreshFaults { d with active := insertActive ⟨0x020A, 0, det⟩ d.active })
  else showRole 0 { d with unit := { u with phase := .ended } }

/-! The exchange ends without a commit (R51, R53, R488). -/

/-- The base of the copy that an exchange writes: the one that does not hold the running image, or copy A in LOAD_FAIL (R45, R51). -/
def otherBase (d : Dev) : Nat := if d.unit.phase != .loadFail && get FUSE_LDR_STATE_COPY 0 d == 0 then 0x800000 else 0

/-- The header sector of that copy is erased (R51): 4 KiB. -/
def eraseHeader (d : Dev) : Dev := { d with flash := flashErase (otherBase d) (otherBase d + 4096) d.flash }

/-- The exchange ends without a commit (R51, R247). -/
def xchgEnd (d : Dev) : Dev :=
  let d := eraseHeader d
  let d := if get FUSE_XCHG_STATE 0 d = 0 then d else put FUSE_XCHG_ABORTED 0 1 (put FUSE_XCHG_STATE 0 0 d)
  let d := if d.next.isSome then put SHU_XCHG_DUAL 0 0 (put SHU_XCHG_SWITCHED 0 0 d) else d
  { d with next := none, xchg := {} }

/-- An exchange that has not been committed is aborted (R53, R488). -/
def xchgAbort (d : Dev) : Dev :=
  let st := get FUSE_XCHG_STATE 0 d
  if st = 1 ∨ st = 2 ∨ st = 3 then xchgEnd d else d

/-- The F4 reaction by the unit's role (R485): an active member stops and shows STOPPED, an unpaired unit
stops, a standby or a member not yet ACTIVE goes to OFF; before RUN the start ends. -/
def f4React (code : Nat) (d : Dev) : Dev :=
  let star := decide (faultKind code = FKind.startStar)
  match d.unit.phase with
  | .run =>
    if isActive d then
      if d.unit.stopped then d
      else
        let d := xchgAbort d
        let st := if pairState d = 6 then 7 else 9
        { d with unit := { d.unit with stopped := true, stopEdge := edge d, lastF4 := code, noRestart := star } }
          |> showRole st |> put FLT_STATUS_STOPPED 0 1
    else if pairState d = 7 ∨ pairState d = 8 then d
    else
      let d := xchgAbort d
      { d with unit := { d.unit with phase := .ended, stopEdge := edge d, lastF4 := code, noRestart := star } }
        |> showRole 0
  | .starting => endStart code d
  | _ => d

/-- The record entry of a safety output: record and offset. -/
def safeOutEntry (n : Nat) (d : Dev) : Option (Rec × Nat) :=
  (recOf 0x1101 d).bind fun r =>
    let base := 32 + 8 * r.u P1101_INPUTS + 8 * r.u P1101_TERMS + 8 * r.u P1101_TIMERS
    ((List.range (r.u P1101_OUTPUTS)).find? fun j => r.uAt (base + 16 * j) 1 == n).map fun j => (r, base + 16 * j)

/-- The output has MANUAL_RESTART (R426). -/
def safeManual (n : Nat) (d : Dev) : Bool := (safeOutEntry n d).elim false fun p => bit (p.1.uAt (p.2 + 1) 1) 0

/-- The registers and the strand of a safety output's commands (R443, R444). -/
def safeShow (n : Nat) (d : Dev) : Dev :=
  let x := d.safe.outs.get {} n
  d |> putB SAFE_OUT_CMD_H n (x.cmdH && x.pulse != 1) |> putB SAFE_OUT_CMD_P n (x.cmdP && x.pulse != 2)
    |> putB SAFE_OUT_WAIT_EDGE n (x.waitH != 0) |> setStrand 0x11 (48 + n) (b2n (x.cmdH && x.cmdP))

/-- The two channels' commands for a safety output: a change of the output's command starts RB_TIME anew (R433), and a difference is
timed (R424). -/
def safeCmd (n : Nat) (h p : Bool) (d : Dev) : Dev :=
  let x := d.safe.outs.get {} n
  let was := x.cmdH && x.cmdP
  let on := h && p
  let x := { x with cmdH := h, cmdP := p
                    chg := if was == on then x.chg else edge d
                    settled := x.settled && was == on
                    onSince := if on && !was then edge d else x.onSince
                    pulse := if on then x.pulse else 0
                    diff := if h == p then 0 else if x.diff = 0 then edge d + 1 else x.diff }
  safeShow n { d with safe := { d.safe with outs := d.safe.outs.put n x } }

/-- What a lock-out does to one safety output: both switches open; an output with MANUAL_RESTART will wait
for its request edge (R435, R432). -/
def openOutput (n : Nat) (d : Dev) : Dev :=
  let w := b2n (safeManual n d)
  safeCmd n false false { d with safe := { d.safe with outs := d.safe.outs.put n { d.safe.outs.get {} n with waitH := w, waitP := w } } }

/-- Lock-out (R435, R437): in RUN every switch opens, the state becomes LOCKED and the cause is kept;
a fault raised while LOCKED keeps the first cause; in COMMISSION nothing moves. -/
def lockOut (code index chan sw : Nat) (d : Dev) : Dev :=
  if get SAFE_STATUS_STATE 0 d = 2 then
    let d := d |> put SAFE_STATUS_STATE 0 3 |> setStrand 0x11 56 3
      |> put SAFE_LOCK_STAMP_STAMP 0 (now d) |> put SAFE_LOCK_CAUSE_CODE 0 code
      |> put SAFE_LOCK_CAUSE_INDEX 0 index |> put SAFE_LOCK_CAUSE_CHANNEL 0 chan
      |> put SAFE_LOCK_CAUSE_SWITCH 0 sw |> bumpSat SAFE_COUNTS_LOCKOUTS 0 |> put FLT_STATUS_LOCKED 0 1
    forN 8 openOutput d
  else d

/-- The reaction of a fault's class (R484), but for F2. -/
def react (code obj : Nat) (d : Dev) : Dev :=
  match faultClass code with
  | 3 => if d.unit.phase == .run then holdNamed code obj d else d
  | 4 => f4React code d
  | 5 => f4React code d
  | 2 => if d.unit.phase == .run then holdNamed code obj d else d
  | _ => d

/-- A fault is raised with all of its DETAIL given (R480, R481, R483): not again while it is active for
the same object; one record; counted; active unless momentary; the reaction on the same edge. -/
def raiseWith (code obj detail : Nat) (d : Dev) : Dev :=
  if isActiveFault code obj d then d
  else
    let cls := faultClass code
    let d := if code / 256 = 2 then put FUSE_LDR_STATE_LAST_FAULT 0 code d else d
    let d := record code cls detail false d
    let d := countClass cls d
    let d := if faultKind code = FKind.momentary then d
      else refreshFaults { d with active := insertActive ⟨code, obj, detail⟩ d.active }
    react code obj d

/-- A fault is raised under R480. -/
def raise (code obj : Nat) (d : Dev) (aux : Nat := 0) (value : Int := 0) : Dev :=
  raiseWith code obj (mkDetail obj aux value) d

/-- A sticky field set by its event (R9), and its fault raised when the field goes from 0 to 1. -/
def stick (f : Fld) (i code obj : Nat) (d : Dev) (aux : Nat := 0) (value : Int := 0) : Dev :=
  if get f i d = 1 then put f i 1 d else raise code obj (put f i 1 d) aux value

/-- A fault of class F5 about input, output or test pulse `index`: raised, and the unit locks out (R435). -/
def raiseSafety (code index : Nat) (chan sw : Nat) (d : Dev) : Dev :=
  raise code index (lockOut code index chan sw { d with safe := { d.safe with lastF5 := edge d } }) (max chan sw) 0

/-! Clearing by a field (R9, R482). -/

/-- The fields whose clearing ends an active fault, each with the index it stands at. -/
def faultFields (a : Active) : List (Fld × Nat) :=
  match faultKind a.code with
  | .field f => [(f, if f.reg.count = 1 then 0 else
      if a.code = 0x0E02 then a.obj else a.obj % f.reg.count)]
  | .heddle => [(WEFT_FLAGS_HEDDLE_BLOCK, 0), (WEFT_FLAGS_HEDDLE_VIOL, 0)]
  | _ => []

/-- Every field that keeps the fault active reads 0 now. -/
def fieldsClear (d : Dev) (a : Active) : Bool :=
  match faultKind a.code with
  | .field _ => (faultFields a).all fun p => get p.1 p.2 d == 0
  | .heddle => (faultFields a).all fun p => get p.1 p.2 d == 0
  | .groupStopped => (faultPlies a.code a.obj d).all fun p => get PLY_STATE_STOPPED p d == 0
  | _ => false

/-- After sticky fields were cleared, the faults they kept active clear (R483). -/
def settleFields (d : Dev) : Dev := clearWhere (fieldsClear d) d

/-- A sticky field cleared, and with it the faults it keeps active. -/
def clearField (f : Fld) (i : Nat) (d : Dev) : Dev := settleFields (put f i 0 d)

end Sys2Proof.Machine
end

