-- ==== Sys2Proof/Machine/Output.lean ====
section
/-! DEFINITION. Strand updates and what follows them at once: the staging of PWM compares and periods
(R189), auxiliary outputs (R195), general I/O outputs (R497), and the quality of a strand (R21). -/

namespace Sys2Proof.Machine

/-- The strand's quality is stale, as its block's registers show (R21): a sigma-delta channel (R175, R178),
ID and IQ (R178), a feedback interface declared faulty (R215), an axis with FB_STALE (R144), a Weft word of a slot
that is not GOOD (R288), and the strands that CAN and loop ports mark (R343, R350, R354, R355). -/
def strandStale (id : Nat) (d : Dev) : Bool :=
  let i := id % 4096
  match id / 4096 with
  | 0x06 => decide (i / 64 ∈ [1, 2, 4, 6]) && flag MOT_AX_STATE_FB_STALE (i % 64) d
  | 0x07 =>
    if i < 48 then flag DRV_SD_STATUS_STALE i d
    else if 64 ≤ i ∧ i < 96 then (d.drives.get {} ((i - 64) % 16)).stale else false
  | 0x08 => decide (i % 32 < 24 ∧ i < 88) && flag FBK_FB_FLAGS_FAULTY (i % 32) d
  | 0x0B => decide (i % 64 < 60) && strand 0x0B (i / 64 * 64 + 60) d != 1
  | _ => d.stale.contains id

/-- A strand's quality marked by its block. -/
def markStale (id : Nat) (b : Bool) (d : Dev) : Dev :=
  let rest := d.stale.filter (· != id)
  { d with stale := if b then (rest.filter (· < id)) ++ [id] ++ rest.filter (id < ·) else rest }

/-! Auxiliary outputs and general I/O outputs. -/

/-- An auxiliary output's record. -/
def auxRec (j : Nat) (d : Dev) : Option Rec := recAt 0x0705 P0705_OUTPUT j d

/-- The command of auxiliary output `j` set; a debug halt keeps its level (R192, R195). The strand shows the level but in PWM mode (R197). -/
def auxSet (j : Nat) (active : Bool) (d : Dev) : Dev :=
  let d : Dev := { d with auxOut := setBit d.auxOut j active }
  if flag DRV_AUX_STATUS_FROZEN j d then d
  else
    let d := putB DRV_AUX_STATUS_LEVEL j active d
    if get DRV_AUX_STATUS_MODE j d = 1 then d else setStrand 0x07 (176 + j) (b2n active) d

/-- A Weft transmit word written (R286): it stands in `txw` and counts as written since the last close (R284). What stood before
the present edge is kept for a close on the same edge (R287). -/
def txWrite (w v : Nat) (d : Dev) : Dev :=
  let old := d.txPrev.get (0, 0, false) w
  let prev := if old.1 = d.clk.edges + 1 then d.txPrev else d.txPrev.put w (d.clk.edges + 1, d.txw.get 0 w, d.txNew.contains w)
  { d with txw := Tab.set 0 w (trunc 32 v) d.txw, txNew := if d.txNew.contains w then d.txNew else d.txNew ++ [w], txPrev := prev }

/-- Delayed writes of transmit words that stand by now (R145); one that falls on the present edge waits. -/
def settleTx (d : Dev) : Dev :=
  let ready := d.txLate.filter fun p => decide (p.2.1 < edge d + 1)
  forL ready (fun p d => { d with txw := Tab.set 0 p.1 (trunc 32 p.2.2) d.txw, txNew := if d.txNew.contains p.1 then d.txNew else d.txNew ++ [p.1] })
    { d with txLate := d.txLate.filter fun p => !decide (p.2.1 < edge d + 1) }

/-! PWM staging (R189). -/

/-- What stood staged as item `k` before the present edge is kept for a reload on it (R190). -/
def keepPrior (g k v : Nat) (there : Bool) (d : Dev) : Dev :=
  let x := d.groups.get {} g
  let old := if x.priorEdge = edge d + 1 then x.prior else []
  let old := if there && decide (x.stagedAt.get 0 k < edge d) then old.put k v else old
  { d with groups := d.groups.put g { x with priorEdge := edge d + 1, prior := old } }

/-- The staged compare of item `k` (pair at its number, auxiliary output j at 48 + j) replaced, and DSTAGED set. -/
def stageCompare (g k c : Nat) (d : Dev) : Dev :=
  let d := keepPrior g k ((d.groups.get {} g).staged.get 0 k) ((d.groups.get {} g).staged.any (·.1 == k)) d
  let x := d.groups.get {} g
  { d with groups := d.groups.put g { x with staged := x.staged.put k c, stagedAt := x.stagedAt.put k (edge d) } }
    |> put DRV_GRP_STATUS_DSTAGED g 1

/-- The staged period replaced, and PSTAGED set. -/
def stagePeriod (g p : Nat) (d : Dev) : Dev :=
  let d := keepPrior g 100 (get DRV_GRP_PERIOD_STAGED g d) (flag DRV_GRP_STATUS_PSTAGED g d) d
  let x := d.groups.get {} g
  { d with groups := d.groups.put g { x with stagedAt := x.stagedAt.put 100 (edge d) } } |> put DRV_GRP_PERIOD_STAGED g p |> put DRV_GRP_STATUS_PSTAGED g 1

/-- The group's fixed period staged (R182, R189). -/
def stageFixed (g : Nat) (d : Dev) : Dev :=
  match recAt 0x0703 P0703_GROUP g d with
  | some r => if r.u P0703_PERIOD_STRAND = 0 then stagePeriod g (r.u P0703_PERIOD) d else d
  | none => d

/-- The compare that a PWM source stages (R195): an INT32 count, or with DUTY_FRACTION a fraction of the period. -/
def pwmSource (r : Rec) (d : Dev) : Nat :=
  let g := r.u P0705_GROUP
  let v := strandId (r.u P0705_SOURCE_STRAND) d
  if r.b P0705_FLAGS 1 then
    let p := if flag DRV_GRP_STATUS_PSTAGED g d then get DRV_GRP_PERIOD_STAGED g d else get DRV_GRP_PERIOD_PERIOD g d
    ((clampI 0 (maxS 32) (toInt 32 v)).toNat * p + 2 ^ 30) / 2 ^ 31
  else v % 2 ^ 32

/-- What an update of a strand does to the auxiliary outputs and groups that name it (R189, R195). -/
def auxFollow (ids : List Nat) (r : Rec) (d : Dev) : Dev :=
  let j := r.u P0705_OUTPUT
  if !ids.contains (r.u P0705_SOURCE_STRAND) then d
  else if r.u P0705_MODE = 1 then stageFixed (r.u P0705_GROUP) (stageCompare (r.u P0705_GROUP) (48 + j) (pwmSource r d) d)
  else if r.u P0705_MODE = 3 then auxSet j (strandId (r.u P0705_SOURCE_STRAND) d != 0) d
  else d

/-- An update of PERIOD_STRAND stages its value, clamped to 2 to 65535 (R189). -/
def periodFollow (ids : List Nat) (r : Rec) (d : Dev) : Dev :=
  let id := r.u P0703_PERIOD_STRAND
  if id = 0 ∨ !ids.contains id then d
  else
    let v := toInt 32 (strandId id d)
    let c := clampI 2 65535 v
    d |> stagePeriod (r.u P0703_GROUP) c.toNat |> onlyIf (c != v) (put DRV_GRP_STATUS_PERIOD_CLAMP (r.u P0703_GROUP) 1)

/-- The strands `ids` were updated: the outputs and groups that name them follow on the same edge. -/
def touched (ids : List Nat) (d : Dev) : Dev :=
  d |> forL (recsOf 0x0703 d) (periodFollow ids) |> forL (recsOf 0x0705 d) (auxFollow ids)

/-- A strand by ID written. -/
def setStrandId (id v : Nat) (d : Dev) : Dev := setStrand (bits id 12 8) (bits id 0 12) v d

/-- Strands updated together, and what follows from it. -/
def putStrands (vs : List (Nat × Nat)) (d : Dev) : Dev :=
  touched (vs.map (·.1)) (forL vs (fun p d => setStrandId p.1 p.2 d) d)

/-- Signed values for strands, sign-extended (R21). -/
def putStrandsS (vs : List (Nat × Int)) (d : Dev) : Dev := putStrands (vs.map fun p => (p.1, ofInt 64 p.2)) d

/-! General I/O outputs (R497). -/

/-- The flags of a general I/O output's entry. -/
def gpioFlags (pin : Nat) (d : Dev) : Option Nat :=
  (recOf 0x0101 d).bind fun r => ((List.range (r.uAt 0 2)).find? fun i => r.u P0101_PIN i == pin).map fun i => r.u P0101_FLAGS i

/-- The ball takes the level that the unit drives on it; an open-drain output at 1 is released, and what pulls its ball moves it. The transition is stamped by its GPIO_EDGE. -/
def gpioFollow (pin : Nat) (level : Bool) (d : Dev) : Dev :=
  let x := d.pins.get {} pin
  match gpioFlags pin d with
  | some f =>
    if (level && bit f 0) || x.level == level then d
    else { d with pins := d.pins.put pin { x with level := level, owed := true } }
      |> put SYS_GPIO_LEVEL_LEVEL 0 (setBit (get SYS_GPIO_LEVEL_LEVEL 0 d) pin level) |> putStrands [(0x01000 + pin, b2n level)]
  | none => d

/-- A general I/O output commanded to a level; a debug halt holds the ball (R192, R496). -/
def gpioDrive (pin : Nat) (level : Bool) (d : Dev) : Dev :=
  let d : Dev := { d with gpioOut := setBit d.gpioOut pin level }
  if d.unit.halted then d else gpioFollow pin level d

/-- After a debug halt the general I/O outputs follow their writers again (R192, R496). -/
def gpioUnhalt (d : Dev) : Dev := forN 32 (fun pin d => gpioFollow pin (bit d.gpioOut pin) d) d

/-- PULSE_OPEN and PULSE_CLOSE on an operand of R68: an auxiliary output or a general I/O pin. -/
def pulse (op : Nat) (active : Bool) (d : Dev) : Dev :=
  if op < 32 then auxSet op active d else gpioDrive (op - 32) active d

/-- A brake's output takes the level of "engaged" or its opposite (R170 BRAKE_OUT, POLARITY bit 3): an auxiliary output takes it as its active command. -/
def brakeDrive (r : Rec) (engaged : Bool) (d : Dev) : Dev :=
  let out := r.u P0601_BRAKE_OUT
  let high := engaged == r.b P0601_POLARITY 3
  if out = 0xFF then d
  else if out < 32 then auxSet out ((match auxRec out d with
    | some q => high == q.b P0705_FLAGS 0
    | none => high)) d
  else gpioDrive (out - 32) high d

end Sys2Proof.Machine
end

