-- ==== Sys2Proof/Machine/Measure.lean ====
section
/-! DEFINITION. Reading a measure (R63, R64), the cubic of R76, and the changes that a pick may take from
outside the Reel (R71). Sampling, prediction and firing stand in Reel.lean. -/

namespace Sys2Proof.Machine

/-- A measure's record. -/
def measRec (m : Nat) (d : Dev) : Option Rec := recAt 0x0302 P0302_MEASURE m d

/-- The rate of R64 from the last three samples, newest first, in 2^-32 units per µs: halves rounded up. -/
def parabolaRate (t2 t1 t0 : Int) (p2 p1 p0 : Int) : Rat :=
  let d1 : Rat := t1 - t0
  let d2 : Rat := t2 - t1
  let s1 := ((p1 - p0 : Int) : Rat) / d1
  let s2 := ((p2 - p1 : Int) : Rat) / d2
  s2 + (s2 - s1) * d2 / (d1 + d2)

/-- A slope in units per sixteenth as a 32.32 rate in units per µs. -/
def rateOfSlope (r : Rat) : Int := ratHalfUp (r * 6400 * 4294967296)

/-- The position that a measure of sources 3 to 7 reads at stamp `t` in RUN or SLOW (R64). -/
def extrapolate (s : Sample) (t : Nat) : Int :=
  s.p + divHalfUp (s.r * ((t : Int) - s.t)) (6400 * 4294967296)

/-- The position of measure `m` at stamp `t`, not cut to 64 bits (R64). -/
def measRaw (m t : Nat) (d : Dev) : Int :=
  match get REEL_MEAS_STATUS_SOURCE m d with
  | 1 => t
  | 2 => 16 * edge d
  | _ =>
    match (d.meas.get {} m).smp with
    | [] => toInt 64 (get REEL_MEAS_SAMPLE_POS m d)
    | s :: _ =>
      if get REEL_MEAS_STATUS_STATE m d = 2 ∨ get REEL_MEAS_STATUS_STATE m d = 3 then extrapolate s t else s.p

/-- The position that measure `m` reads now, in 64 bits. -/
def measPos (m : Nat) (d : Dev) : Nat := ofInt 64 (measRaw m (now d) d)

/-- The rate of measure `m` in 2^-32 units per µs (R63, R64). -/
def measRate (m : Nat) (d : Dev) : Int :=
  let src := get REEL_MEAS_STATUS_SOURCE m d
  if src = 1 ∨ src = 2 then 6400 * 4294967296 else getS REEL_MEAS_RATE_RATE m d

/-- The measure fires picks: RUN or SLOW (R65). -/
def measRuns (m : Nat) (d : Dev) : Bool :=
  let s := get REEL_MEAS_STATUS_STATE m d
  s == 2 || s == 3

/-- The cubic of R76 at `te` between two samples with their slopes per sixteenth. -/
def hermite (ta tb : Int) (pa pb : Int) (ra rb : Rat) (te : Int) : Rat :=
  let T : Rat := tb - ta
  let u : Rat := ((te - ta : Int) : Rat) / T
  (2 * u ^ 3 - 3 * u ^ 2 + 1) * pa + (u ^ 3 - 2 * u ^ 2 + u) * T * ra +
    (-2 * u ^ 3 + 3 * u ^ 2) * pb + (u ^ 3 - u ^ 2) * T * rb

/-! Pick changes (R71). -/

/-- The pick is armed or predicted. -/
def pickArmed (p : Nat) (d : Dev) : Bool := decide (2 ≤ get REEL_PICK_STATUS_STATE p d)

/-- A pick's measure. -/
def pickMeas (p : Nat) (d : Dev) : Nat := get REEL_PICK_CFG_MEASURE p d

/-- A pick that nothing defines stays unused. -/
def pickUsed (p : Nat) (d : Dev) : Bool := get REEL_PICK_STATUS_STATE p d != 0

/-- The Reel's own notes on a pick dropped: no prediction and no due firing (R66, R67). The hold against a second firing for
one crossing lasts (R73). -/
def forgetPick (p : Nat) (d : Dev) : Dev :=
  { d with pick := d.pick.put p { armPos := measRaw (pickMeas p d) (now d) d, fired := (d.pick.get {} p).fired, armEdge := (d.pick.get {} p).armEdge } }

/-- The first value of a repeating time pick after the arming edge (R67). -/
def firstAfter (target step nowT : Nat) : Nat :=
  if target ≤ nowT then target + ((nowT - target) / step + 1) * step else target

/-- The unwrapped target of a pick strictly ahead of position `p` in the direction `up`, when there is one: with
ANGLE_ONLY the next position with the target's low 32 bits (R66). -/
def aheadTarget (pk : Nat) (up : Bool) (p : Int) (d : Dev) : Option Int :=
  let t := get REEL_PICK_TARGET_TARGET pk d
  if flag REEL_PICK_CFG_ANGLE_ONLY pk d then
    let w : Int := 4294967296
    let k := ((t % 4294967296 : Nat) - p) % w
    some (if up then (if k = 0 then p + w else p + k) else (if k = 0 then p - w else p + k - w))
  else
    let x := toInt 64 t
    if up then (if p < x then some x else none) else (if x < p then some x else none)

/-- The direction of a pick allows an upward (downward) crossing (R66). -/
def dirAllows (pk : Nat) (up : Bool) (d : Dev) : Bool :=
  let dir := get REEL_PICK_CFG_DIR pk d
  if up then dir == 1 || dir == 3 else dir == 2 || dir == 3

/-- The instant of R73 in whole sixteenths, rounded up: the first stamp at or past the predicted crossing of `x`. -/
def crossingAt (s : Sample) (x : Int) : Int :=
  s.t + ((((x - s.p) * 6400 * 4294967296 : Int) : Rat) / (s.r : Rat)).ceil

/-- The next crossing of an armed pick predicted from the last sample (R73): only in RUN, only toward the target, and
not before a sample has passed the target of the last predicted firing. -/
def predictPick (pk : Nat) (d : Dev) : Dev :=
  let m := pickMeas pk d
  let x := d.pick.get {} pk
  if !pickArmed pk d || get REEL_MEAS_STATUS_STATE m d != 2 || x.fired.isSome || x.due != 0 then d
  else
    match (d.meas.get {} m).smp with
    | [] => d
    | s :: _ =>
      let up := decide (0 < s.r)
      let base := if up then max s.p x.armPos else min s.p x.armPos
      match (if s.r = 0 ∨ !dirAllows pk up d then none else aheadTarget pk up base d) with
      | none => { d with pick := d.pick.put pk { x with predAt := none } } |> put REEL_PICK_STATUS_STATE pk 2
      | some t => { d with pick := d.pick.put pk { x with predAt := some (crossingAt s t), predX := t } }
          |> put REEL_PICK_STATUS_STATE pk 3

/-- The measure follows loom time or local time. -/
def isTime (m : Nat) (d : Dev) : Bool :=
  let src := get REEL_MEAS_STATUS_SOURCE m d
  src == 1 || src == 2

/-- A pick is armed at the edge now (R66, R67): on a time measure a target at or behind the edge fires on the next
edge, or moves on by whole INTERVALs; on another measure the crossing is predicted from the last sample (R73). -/
def armPick (p : Nat) (d : Dev) : Dev :=
  if !pickUsed p d then d
  else
    let m := pickMeas p d
    let d := forgetPick p (put REEL_PICK_STATUS_STATE p 2 d)
    let d := { d with pick := d.pick.put p { d.pick.get {} p with armEdge := edge d + 1 } }
    if isTime m d then
      let step := 16 * get REEL_PICK_CFG_INTERVAL p d
      if step = 0 ∨ get REEL_PICK_CFG_DIR p d = 2 then d
      else put REEL_PICK_TARGET_TARGET p (firstAfter (get REEL_PICK_TARGET_TARGET p d) step (measRaw m (now d) d).toNat) d
    else predictPick p d

/-- A pick is disarmed. -/
def disarmPick (p : Nat) (d : Dev) : Dev :=
  if pickUsed p d then forgetPick p (put REEL_PICK_STATUS_STATE p 1 d) else d

/-- The instant at which an armed pick on a time measure reaches its target: with ANGLE_ONLY the first one past the position at which
it was armed or last fired (R66, R67). -/
def timeTarget (p : Nat) (d : Dev) : Int :=
  if flag REEL_PICK_CFG_ANGLE_ONLY p d then (aheadTarget p true (d.pick.get {} p).armPos d).getD 0
  else get REEL_PICK_TARGET_TARGET p d

/-- The present edge is at or past the firing instant of an armed pick (R67, R73). A pick on a time measure that was armed on this
very edge fires on the next one at the earliest. -/
def pickDue (p : Nat) (d : Dev) : Bool :=
  let m := pickMeas p d
  let x := d.pick.get {} p
  if !pickArmed p d then false
  else if isTime m d then
    get REEL_PICK_CFG_DIR p d != 2 && x.armEdge != edge d + 1 && decide (timeTarget p d ≤ measRaw m (now d) d)
  else measRuns m d && (x.due != 0 || (match x.predAt with
    | some t => get REEL_PICK_STATUS_STATE p d == 3 && decide (t ≤ now d)
    | none => false))

/-- A pick takes a new target and its arming on one edge (R71). On its own firing edge it still fires for the old target. -/
def retargetPick (p target : Nat) (arm : Bool) (d : Dev) : Dev :=
  if !pickUsed p d then d
  else
    let due := pickDue p d
    let late := (d.pick.get {} p).due == 2
    let d := put REEL_PICK_TARGET_TARGET p target d
    let d := if arm then armPick p d else disarmPick p d
    if due then { d with pick := d.pick.put p { d.pick.get {} p with owed := edge d + 1, owedLate := late } } else d

/-- The present edge has a due pick, below index `n`, that has not fired on it yet (R69). -/
def dueBelow (n : Nat) (d : Dev) : Bool :=
  d.pick.any fun q => decide (q.1 < n) && (q.2.owed == edge d + 1 || pickDue q.1 d)

/-- Retargeted without a change of its arming. -/
def moveTarget (p target : Nat) (d : Dev) : Dev := retargetPick p target (pickArmed p d) d

/-- A PHASE output stops when its measure goes LOST (R196): output inactive, both open picks disarmed, PHASE_STOP and 0x0708. -/
def auxPhaseStop (m : Nat) (r : Rec) (d : Dev) : Dev :=
  let j := r.u P0705_OUTPUT
  if r.u P0705_MODE = 4 ∧ pickMeas (r.u P0705_OPEN_POS) d = m then
    let was := flag DRV_AUX_STATUS_PHASE_STOP j d
    d |> auxSet j false |> disarmPick (r.u P0705_OPEN_POS) |> disarmPick (r.u P0705_OPEN_NEG)
      |> put DRV_AUX_STATUS_PHASE_STOP j 1 |> onlyIf (!was) (fun d => raise 0x0708 j d)
  else d

/-- A measure goes LOST (R65, R85): LOST set and counted, predictions dropped, 0x0301, and the PHASE outputs on it stop. -/
def measLost (m : Nat) (d : Dev) : Dev :=
  let st := get REEL_MEAS_STATUS_STATE m d
  if st = 1 ∨ st = 2 ∨ st = 3 then
    let picks := (List.range 1024).filter fun p => pickUsed p d && pickMeas p d == m
    d |> put REEL_MEAS_STATUS_STATE m 4 |> put REEL_MEAS_STATUS_LOST m 1 |> bumpSat REEL_MEAS_STATUS_LOST_COUNT m
      |> forL picks (fun p d => { d with pick := d.pick.put p { d.pick.get {} p with predAt := none, due := 0, fired := none } }
          |> onlyIf (get REEL_PICK_STATUS_STATE p d == 3) (put REEL_PICK_STATUS_STATE p 2))
      |> (fun d => raise 0x0301 m d)
      |> onlyIf (st != 1) (forL (recsOf 0x0705 d) (auxPhaseStop m))
  else d

end Sys2Proof.Machine
end

