-- ==== Sys2Proof/Machine/React.lean ====
section
/-! DEFINITION. The F2 reaction of plies and axes: a ply to STOPPED (R122), the drive off (R183), and a fault of
breaking kind on an axis (R166, R184). -/

namespace Sys2Proof.Machine

/-! Bridge pins (R183, R186). Pin `b` of drive `n` in the order of R202 has the number 6n + b. -/

/-- The record of a local drive axis (byte-identical across an exchange, R198). -/
def driveRec (n : Nat) (d : Dev) : Option Rec := recAt 0x0704 P0704_AXIS n d

/-- The pins of drive `n` take the commands `v` (R186). A pin's comparator follows a change of its command with the level of POLARITY (R194,
R202); a level that differs is what READBACK_ERROR and SHOOT_THROUGH report (DESIGN CHOICE, log entry 101). -/
def setPins (n v : Nat) (d : Dev) : Dev :=
  let pol := orD (driveRec n d) P0704_POLARITY 0
  let old := get DRV_AX_PINS_COMMANDED n d
  let moved := (List.range 6).filter fun b => bit v b != bit old b
  let lev := moved.foldl (fun l b => setBit l b (bit v b == bit pol b)) (get DRV_AX_PINS_READBACK n d)
  let x := d.drives.get {} n
  { d with drives := d.drives.put n { x with pinEdge := moved.foldl (fun t b => t.put b (edge d + 1)) x.pinEdge } }
    |> put DRV_AX_PINS_COMMANDED n v |> put DRV_AX_PINS_READBACK n lev

/-- A bridge pin goes inactive at once (R186). -/
def pinOff (n b : Nat) (d : Dev) : Dev :=
  setPins n (setBit (get DRV_AX_PINS_COMMANDED n d) b false) { d with riseAt := d.riseAt.del (6 * n + b) }

/-- A group's dead time. -/
def deadTime (g : Nat) (d : Dev) : Nat := orD (recAt 0x0703 P0703_GROUP g d) P0703_DEAD_TIME 0

/-- A bridge pin is to go active from edge `e` on: DEAD_TIME later, at once when that is 0 (R186). -/
def pinOn (e n b : Nat) (d : Dev) : Dev :=
  let pins := get DRV_AX_PINS_COMMANDED n d
  let dt := deadTime (n / 2) d
  if bit pins b ∨ d.riseAt.get 0 (6 * n + b) ≠ 0 then d
  else if dt = 0 then setPins n (setBit pins b true) d
  else { d with riseAt := d.riseAt.put (6 * n + b) (e + dt + 1) }

/-- A change of all six pins that lies ahead is dropped. -/
def pinsNow (n : Nat) (d : Dev) : Dev := { d with drives := d.drives.put n { d.drives.get {} n with pinsAt := none } }

/-- All six pins inactive (R177, R183, R194). -/
def pinsOff (n : Nat) (d : Dev) : Dev := forL (List.range 6) (pinOff n) (pinsNow n d)

/-- The pins at SAFE from edge `e` on (R183): all inactive, or high sides inactive and low sides active DEAD_TIME later. -/
def pinsSafe (e n : Nat) (d : Dev) : Dev :=
  let d := forL [0, 2, 4] (pinOff n) (pinsNow n d)
  if flag DRV_AX_STATUS_SAFE n d then forL [1, 3, 5] (pinOn e n) d else forL [1, 3, 5] (pinOff n) d

/-- What all six pins were to do by now is done. -/
def settlePins (n : Nat) (d : Dev) : Dev :=
  match (d.drives.get {} n).pinsAt with
  | some (e, safe) => if edge d < e then d else if safe then pinsSafe e n d else pinsOff n d
  | none => d

/-- All six pins go to SAFE, or inactive, `k` edges from now. -/
def pinsLater (n k : Nat) (safe : Bool) (d : Dev) : Dev :=
  settlePins n { d with drives := d.drives.put n { d.drives.get {} n with pinsAt := some (edge d + k, safe) } }

/-- As `pinsLater`, within 2 FCLK cycles (R177, R183): any of the edges up to that bound (R513), a free delay. -/
def pinsWithin2 (n : Nat) (safe : Bool) (d : Dev) : Dev :=
  let q := fresh 8 d
  pinsLater n (q.1 % 3) safe q.2

/-- The drive of axis `n` turned off, when it was on (R183): its pins go to SAFE on the next FCLK edge. -/
def driveOff (n : Nat) (d : Dev) : Dev :=
  if get DRV_AX_STATUS_DRIVE n d = 0 then d
  else pinsLater n 1 true (put DRV_AX_STATUS_DRIVE n 0 d)

/-! Plies. -/

/-- The record of a ply in the image in force for it. -/
def plyRec (p : Nat) (d : Dev) : Option Rec := recFor 0x04 0x0501 P0501_PLY p d

/-- The record of an axis in the image in force for it. -/
def axisRec (a : Nat) (d : Dev) : Option Rec := recFor 0x05 0x0601 P0601_AXIS a d

/-- The plies of an axis record in group order (R138), with D_PLY and Q_PLY of its drive (R179). -/
def axisPlies (r : Rec) (d : Dev) : List Nat :=
  let own := [r.u P0601_VFB_PLY, r.u P0601_POS_PLY, r.u P0601_FILTER_PLY, r.u P0601_VEL_PLY].filter (· != 0xFFFF)
  let dq := if r.u P0601_KIND = 1 then (match driveRec (r.u P0601_AXIS) d with
    | some q => [q.u P0704_D_PLY, q.u P0704_Q_PLY]
    | none => []) else []
  own ++ dq

/-- The axis that owns a ply. -/
def axisOfPly (p : Nat) (d : Dev) : Option Nat :=
  ((recsOf 0x0601 d).find? fun r => (axisPlies r d).contains p).map (·.u P0601_AXIS)

/-- A ply enters STOPPED (R122): its output is STOP_OUT at once, and a launch under way is dropped. -/
def plyStop (p : Nat) (d : Dev) : Dev :=
  match plyRec p d with
  | some r =>
    if get PLY_STATE_STATE p d = 2 then d
    else
      let x := d.plies.get {} p
      let out := r.s P0501_STOP_OUT
      { d with plies := d.plies.put p { x with restart := false, launch := { x.launch with live := false, done := false } } }
        |> put PLY_STATE_STATE p 2 |> put PLY_STATE_STOPPED p 1 |> putStrandsS [(0x05000 + p, out)]
  | none => d

/-- STOPPED of a ply cleared (R122): it returns to RUN at its next launch. -/
def plyRelease (p : Nat) (d : Dev) : Dev :=
  if get PLY_STATE_STATE p d = 2 then
    { d with plies := d.plies.put p { d.plies.get {} p with restart := true } } |> clearField PLY_STATE_STOPPED p
  else clearField PLY_STATE_STOPPED p d

/-! Axes. -/

/-- Bit `a` of MOT_ENABLED follows the state: set while neither DISABLED nor FAULT. -/
def setAxisState (a st : Nat) (d : Dev) : Dev :=
  d |> put MOT_AX_STATE_STATE a st
    |> put MOT_ENABLED_AXES 0 (setBit (get MOT_ENABLED_AXES 0 d) a (st != 0 && st != 9))

/-- The axis is in an enabled state (R172). -/
def axisEnabled (a : Nat) (d : Dev) : Bool :=
  let s := get MOT_AX_STATE_STATE a d
  s != 0 && s != 9

/-- The brake engaged or released (R166), with its output. -/
def axisBrake (r : Rec) (on : Bool) (d : Dev) : Dev :=
  brakeDrive r on (putB MOT_AX_STATE_BRAKE (r.u P0601_AXIS) on d)

/-- The coordinated group of an axis. -/
def mgrpOf (a : Nat) (d : Dev) : Option Nat :=
  let g := get MOT_AX_STATE_GROUP a d
  if g = 0xF then none else some g

/-- A member of a running group took an F2 fault (R160): 0x060A once, and the group stops at its next evaluation. -/
def memberFault (a : Nat) (d : Dev) : Dev :=
  match mgrpOf a d with
  | some g =>
    if get MOT_AX_STATE_STATE a d = 6 then
      { d with mgrps := d.mgrps.put g { d.mgrps.get {} g with fault := 1 } }
        |> put MOT_GRP_FLAGS_MEMBER_FAULT g 1 |> (fun d => raise 0x060A g d)
    else d
  | none => d

/-- Homing that ends: the limit function of HOME_PIN returns after 10 ms of inactivity (R165). -/
def HomeX.ending (t : Nat) (h : HomeX) : HomeX := { h with phase := 0, ended := true, after := t }

/-- The value that the TX_WORD of a remote drive takes when the drive is turned off: the rules give the drive's turning off and not the word
(a free value, DESIGN CHOICE, log entry 100). -/
def remoteOff (r : Rec) (d : Dev) : Dev :=
  if r.u P0601_KIND = 3 ∨ r.u P0601_KIND = 4 then txWrite (r.u P0601_TX_WORD) (Config.remoteOffWord (r.u P0601_AXIS)) d else d

/-- The drive of an axis turned off (R166): the local one, or the remote drive's word. -/
def axisDriveOff (r : Rec) (d : Dev) : Dev :=
  if r.u P0601_KIND = 1 then driveOff (r.u P0601_AXIS) d else remoteOff r d

/-- A plan that stands at the present profile position. -/
def holdPlan (a : Nat) (d : Dev) : Plan := { target := toInt 64 (strand 0x06 a d), tEnd := 0 }

/-- The F2 reaction of breaking kind (R166): at once brake, plies to STOPPED, drive off, FAULT. -/
def axisBreak (a : Nat) (d : Dev) : Dev :=
  match axisRec a d with
  | some r =>
    if !axisEnabled a d then d
    else
      let x := d.axes.get {} a
      let d := memberFault a d
      let home := if get MOT_AX_STATE_STATE a d = 4 then x.home.ending (now d) else x.home
      { d with axes := d.axes.put a { x with plan := holdPlan a d, gear := none, brake := none, by_ := 0, code := 0, inpos := none, home := home } }
        |> axisBrake r true |> forL (axisPlies r d) plyStop |> axisDriveOff r
        |> put MOT_AX_STATE_INPOS a 0 |> put MOT_AX_STATE_REVERSING a 0 |> put MOT_AX_STATE_ENGAGING a 0
        |> setAxisState a 9
  | none => d

/-- Faults act only in RUN (R487). -/
def inRun (d : Dev) : Bool := d.unit.phase == .run

/-- An F2 fault of breaking kind raised for axis `a`, with its reaction. -/
def raiseBreak (code a : Nat) (d : Dev) (aux : Nat := 0) (value : Int := 0) : Dev :=
  (raise code a d aux value) |> onlyIf (inRun d) (axisBreak a)

/-- A ply stopped by 0x0502, 0x0506 or 0x0507 takes its axis with it: 0x0614 (R166, R179). -/
def axisOfStopped (p : Nat) (d : Dev) : Dev :=
  match axisOfPly p d with
  | some a => raiseBreak 0x0614 a d
  | none => d

/-- A ply's own F2 fault (R112, R113): STOPPED, the fault, and the axis reaction. -/
def plyFault (code p : Nat) (d : Dev) (value : Int := 0) : Dev :=
  if get PLY_STATE_STATE p d = 1 then axisOfStopped p (raise code p (plyStop p d) 0 value) else d

end Sys2Proof.Machine
end

