-- ==== Sys2Proof/Machine/Feedback.lean ====
section
/-! DEFINITION. Position and speed feedback (R206 to R219): the level filter, quadrature, Hall and SSI, speed, index,
and the declaration of a faulty interface. -/

namespace Sys2Proof.Machine

/-- An interface's record. -/
def fbRec (n : Nat) (d : Dev) : Option Rec := recAt 0x0801 P0801_IFACE n d

/-- The delay d_c of a channel in sixteenths (R77). -/
def chanDelay (c : Nat) (d : Dev) : Int := getS REEL_CHAN_DELAY_FACTORY c d + getS REEL_CHAN_DELAY_BOARD c d

/-- The stamp of a transition `frac` sixteenths after the present edge on an edge channel (R56, R77). -/
def edgeStamp (c frac : Nat) (d : Dev) : Nat := ((nowPlus frac d : Int) - chanDelay c d).toNat

/-- SPAN of R213. -/
def fbSpan (r : Rec) : Nat := if r.u P0801_MODE = 2 then 6 else 4

/-! Speed (R213), in raw 48.16 counts per second. -/

/-- `c` counts over `dt` sixteenths as a 48.16 speed under rnd16. -/
def speedOf (c : Int) (dt : Int) : Int :=
  if dt ≤ 0 then 0 else ratHalfUp ((c * 65536 * 6400000000 : Int) / (dt : Rat))

/-- The PERIOD speed at stamp `t`, from the changes newest first. -/
def speedPeriod (span : Nat) (cs : List Change) (t : Nat) : Int :=
  match cs, cs[span]?, cs[span - 1]? with
  | k :: _, some a, some b =>
    if (cs.take span).all fun c => c.dir == k.dir then
      speedOf (k.dir * span) (max ((k.t : Int) - a.t) ((t : Int) - b.t))
    else 0
  | _, _, _ => 0

/-- The COUNT speed at stamp `t`; PERIOD when fewer than SPAN + 1 changes lie in the window. -/
def speedCount (span window : Nat) (cs : List Change) (t : Nat) : Int :=
  let inW := cs.filter fun c => decide (t * 10 < c.acc * 10 + window * 64)
  match inW.head?, inW.getLast? with
  | some k, some j =>
    if inW.length ≤ span then speedPeriod span cs t else speedOf (k.p - j.p) ((k.t : Int) - j.t)
  | _, _ => speedPeriod span cs t

/-- The speed of interface `n` at stamp `t` (R213, R214). -/
def fbSpeed (n t : Nat) (d : Dev) : Int :=
  match fbRec n d with
  | none => 0
  | some r =>
    let x := d.fbs.get {} n
    if r.u P0801_MODE = 3 then x.speed
    else match x.changes with
      | [] => 0
      | k :: _ =>
        if k.t + r.u P0801_ZERO_TIME * us16 ≤ t then 0
        else if flag FBK_FB_STATUS_METHOD n d then speedCount (fbSpan r) (r.u P0801_WINDOW) x.changes t
        else speedPeriod (fbSpan r) x.changes t

/-- The count of an interface in 48.16 (R209). -/
def fbCount (n : Nat) (d : Dev) : Int := getS FBK_FB_POS_COUNT n d

/-- The stamp t_k of an interface. -/
def fbStamp (n : Nat) (d : Dev) : Nat := get FBK_FB_EDGE_STAMP n d

/-- What the Hall angle of R212 is formed from: the sector, the stamp of the last change, the speed, and whether that change counted up (none:
no change since RUN). With a mirrored sample (R19, R453) it is the sector at the mirrored count and the sign of the mirrored speed. -/
structure HallView where
  sector : Nat
  tk : Nat
  speed : Int
  up : Option Bool

/-- p(t) of R180: the count extrapolated from the last change, rounded to 2^-16 count with halves up. -/
def fbPosAt (n t : Nat) (d : Dev) : Int :=
  fbCount n d + divHalfUp (fbSpeed n t d * ((t : Int) - fbStamp n d)) 6400000000

/-- Position and speed at stamp `t` as the drive and the motion block take them: in a standby from the mirrored sample (R19, R453). -/
def fbSeen (n t : Nat) (d : Dev) : Int × Int :=
  match (d.fbs.get {} n).mir with
  | some (p, tk, v) => (p + divHalfUp (v * ((t : Int) - tk)) 6400000000, v)
  | none => (fbPosAt n t d, fbSpeed n t d)

/-- What the Hall angle is formed from at stamp `t` (R212). -/
def hallView (n t : Nat) (r : Rec) (d : Dev) : HallView :=
  let x := d.fbs.get {} n
  let s := get FBK_FB_STATUS_SECTOR n d
  match x.mir with
  | some (p, tk, v) =>
    let k := (p - x.offset.getD 0 - fbCount n d) / 65536
    ⟨((s + (if r.b P0801_FLAGS 0 then -k else k)) % 6).toNat, tk, v, some (decide (0 < v))⟩
  | none => ⟨s, fbStamp n d, fbSpeed n t d, x.changes.head?.map fun k => decide (0 < k.dir)⟩

/-- The electrical angle of Hall mode at stamp `t` (R212), modulo 2^32. -/
def hallAngle (n t : Nat) (d : Dev) : Nat :=
  match fbRec n d with
  | none => 0
  | some r =>
    let x := hallView n t r d
    let off : Int := r.u P0801_HALL_OFFSET
    let w : Rat := 4294967296 / 6
    let s : Int := x.sector
    let rate : Rat := (x.speed : Rat) / 65536 * w
    let dt : Rat := ((t : Int) - x.tk : Int) / (6400000000 : Rat)
    let lim : Rat := (ratHalfUp w - 1 : Int)
    let a : Int := match x.up with
      | none => off + ratHalfUp (s * w + w / 2)
      | some up =>
        if x.speed = 0 ∨ (d.fbs.get {} n).hallError then off + ratHalfUp (s * w + w / 2)
        else if up then off + ratHalfUp (s * w) + ratHalfUp (min (rate * dt) lim)
        else off + ratHalfUp ((s + 1) * w) - ratHalfUp (min (|rate| * dt) lim)
    ofInt 32 a

/-! Reading a strand. -/

/-- A strand as a reader sees it now: a measure's position (R84), an interface's speed and Hall angle (R216) follow
the clock; a loop port's status is that of its register, 5 OFF at reset (R357, R366); every other strand holds its last update. -/
def readStrand (id : Nat) (d : Dev) : Nat :=
  let i := id % 4096
  if id / 4096 = 0x03 ∧ i < 16 then measPos i d
  else if id / 4096 = 0x03 ∧ i < 32 then ofInt 64 (measRate (i - 16) d)
  else if id / 4096 = 0x08 ∧ 32 ≤ i ∧ i < 56 then ofInt 64 (fbSpeed (i - 32) (now d) d)
  else if id / 4096 = 0x08 ∧ 64 ≤ i ∧ i < 88 then
    (match fbRec (i - 64) d with
     | some r => if r.u P0801_MODE = 2 then ofInt 64 (toInt 32 (hallAngle (i - 64) (now d) d)) else 0
     | none => 0)
  else if id / 4096 = 0x0E ∧ 8 ≤ i ∧ i < 16 then get LPP_P_STATE_STATUS (i - 8) d
  else strandId id d

/-- A strand as it stood before the present edge (R15, R224, R225). -/
def strandBefore (id : Nat) (d : Dev) : Nat :=
  let a := strandAddr (bits id 12 8) (bits id 0 12)
  if d.oldEdge = edge d + 1 then
    (match d.olds.find? (·.1 == a) with
     | some p => p.2
     | none => readStrand id d)
  else readStrand id d

/-! Faulty interfaces (R215). -/

/-- The axes whose feedback is interface `n`. -/
def axesOn (n : Nat) (d : Dev) : List Nat :=
  ((recsOf 0x0601 d).filter fun r => r.u P0601_FB_SOURCE == 0 && r.u P0601_FB_INDEX == n && r.u P0601_KIND != 0).map (·.u P0601_AXIS)

/-- The measures that follow interface `n`, directly or through an axis. -/
def measOn (n : Nat) (d : Dev) : List Nat :=
  ((recsOf 0x0302 d).filter fun r =>
    let src := r.u P0302_SOURCE
    let k := r.u P0302_SOURCE_INDEX
    ((src == 6 || src == 7) && k == n) || (src == 5 && (axesOn n d).contains k)).map (·.u P0302_MEASURE)

/-- An interface is declared faulty (R215): FAULTY and 0x0803 with its cause, its measures LOST, and 0x0602 for every
axis on it. -/
def fbDeclare (n cause : Nat) (d : Dev) (value : Nat := 0) : Dev :=
  if flag FBK_FB_FLAGS_FAULTY n d then put FBK_FB_FLAGS_FAULTY n 1 d
  else
    let x := d.fbs.get {} n
    { d with fbs := d.fbs.put n { x with idxRef := none } }
      |> put FBK_FB_FLAGS_FAULTY n 1 |> (fun d => raise 0x0803 n d cause value)
      |> forL (measOn n d) measLost
      |> forL (axesOn n d) (fun a d => raiseBreak 0x0602 a (put MOT_AX_FLAGS_FB_FAULT a 1 d))

/-- A condition of R215 holds now: CONSEC_MISMATCH or ERR_RUN at its limit, or the alarm active for 100 µs. -/
def fbCondNow (n : Nat) (d : Dev) : Bool :=
  match fbRec n d with
  | none => false
  | some r =>
    let x := d.fbs.get {} n
    (r.u P0801_MISMATCH_LIMIT != 0 && decide (r.u P0801_MISMATCH_LIMIT ≤ get FBK_FB_STATUS_CONSEC_MISMATCH n d)) ||
    decide (r.u P0801_ERR_LIMIT ≤ get FBK_FB_STATUS_ERR_RUN n d) ||
    (flag FBK_FB_STATUS_ALARM n d && decide (40000 ≤ since x.alarmEdge d))

/-- A change of the counters behind R215's conditions; the edge is kept at which a condition that held ends. -/
def fbSettle (n : Nat) (f : Dev → Dev) (d : Dev) : Dev :=
  let held := fbCondNow n d
  let d := f d
  onlyIf held (fun d => { d with fbs := d.fbs.put n { d.fbs.get {} n with condEdge := edge d } }) d

/-- FAULTY cleared (R215): only when no condition holds and none has held for 10 ms; the index reference restarts. -/
def fbFaultyClearAt (n : Nat) (d : Dev) : Dev :=
  let x := d.fbs.get {} n
  if flag FBK_FB_FLAGS_FAULTY n d ∧ ¬ fbCondNow n d ∧ (x.condEdge = 0 ∨ 4000000 ≤ since x.condEdge d) then
    clearField FBK_FB_FLAGS_FAULTY n { d with fbs := d.fbs.put n { x with idxRef := none } }
  else d

/-- An error of the mode counted (R209, R211, R214): sticky field, ERR_RUN, and the limit of R215. -/
def fbError (f : Fld) (code n cause : Nat) (failed : Bool) (d : Dev) : Dev :=
  let lim := orD (fbRec n d) P0801_ERR_LIMIT 255
  let d := stick f n code n d
  let d := bumpSat FBK_FB_STATUS_ERR_RUN n d
  let d := onlyIf failed (bumpSat FBK_FB_ERRORS_ERRORS n) d
  let d := { d with fbs := d.fbs.put n { d.fbs.get {} n with errEdge := edge d } }
  onlyIf (decide (lim ≤ get FBK_FB_STATUS_ERR_RUN n d)) (fbDeclare n cause · (get FBK_FB_STATUS_ERR_RUN n d)) d

/-! Counting. -/

/-- The changes that a later reading may still need: SPAN + 2 of them, and all of the window. -/
def pruneChanges (span window t : Nat) (cs : List Change) : List Change :=
  cs.take (span + 2) ++ (cs.drop (span + 2)).filter fun c => decide (t * 10 < c.acc * 10 + window * 64)

/-- The speed's method chosen anew at an acceptance edge, from the speed that the method in force gives there (R213). -/
def fbMethod (n : Nat) (r : Rec) (d : Dev) : Dev :=
  let v := |fbSpeed n (now d) d|
  let d := if flag FBK_FB_STATUS_METHOD n d then
      onlyIf (decide (v < (r.u P0801_SPEED_LO * 65536 : Nat))) (put FBK_FB_STATUS_METHOD n 0) d
    else onlyIf (decide (((r.u P0801_SPEED_HI * 65536 : Nat) : Int) < v)) (put FBK_FB_STATUS_METHOD n 1) d
  putS FBK_FB_SPEED_SPEED n (fbSpeed n (now d) d) d

/-- The count moves by `dir` with the change stamped `t` (R209, R211). -/
def fbStep (n : Nat) (r : Rec) (dir : Int) (t : Nat) (d : Dev) : Dev :=
  let x := d.fbs.get {} n
  let p := toInt 64 (ofInt 64 (fbCount n d + dir * 65536))
  let cs := pruneChanges (fbSpan r) (r.u P0801_WINDOW) (now d) (⟨t, now d, p / 65536, dir⟩ :: x.changes)
  let dirs := if x.idxDirs = 0 then (if 0 < dir then 1 else 2)
    else if (x.idxDirs = 1 ∧ 0 < dir) ∨ (x.idxDirs = 2 ∧ dir < 0) then x.idxDirs else 3
  { d with fbs := d.fbs.put n { x with changes := cs, idxDirs := dirs, hallError := false } }
    |> putS FBK_FB_POS_COUNT n p |> put FBK_FB_EDGE_STAMP n t |> putStrandsS [(0x08000 + n, p)]

/-- An index edge of interface `n` as homing axes see it (R163). -/
def homeIndex (n t : Nat) (d : Dev) : Dev :=
  forL (recsOf 0x0601 d) (fun r d =>
    let a := r.u P0601_AXIS
    let x := d.axes.get {} a
    if r.u P0601_FB_SOURCE = 0 ∧ r.u P0601_FB_INDEX = n ∧ (x.home.phase = 3 ∨ x.home.phase = 4) then
      { d with axes := d.axes.put a { x with home := { x.home with idx := x.home.idx ++ [t] } } }
    else d) d

/-- The direction of the newest change, as `idxDirs` notes it. -/
def lastDir (cs : List Change) : Nat :=
  match cs with
  | [] => 0
  | k :: _ => if 0 < k.dir then 1 else 2

/-- An index edge (R210) stamped `t`: the reference, or the compare of Δ with 4 × LINES. The direction of the last change stays noted,
so that a reversal right after an index edge makes the next one a reference. -/
def fbIndex (n : Nat) (r : Rec) (t : Nat) (d : Dev) : Dev :=
  let x := d.fbs.get {} n
  let c := fbCount n d
  let d := d |> putS FBK_FB_INDEX_POS_COUNT n c |> put FBK_FB_INDEX_STAMP_STAMP n t |> putStrandsS [(0x08060 + n, c)]
  let d := homeIndex n t d
  let d' := { d with fbs := d.fbs.put n { x with idxRef := some c, idxDirs := lastDir x.changes } }
  match x.idxRef with
  | none => d'
  | some c0 =>
    if x.idxDirs = 3 then d'
    else
      let dev : Int := |(c - c0) / 65536| - 4 * r.u P0801_LINES
      let d := { d' with fbs := d'.fbs.put n { d'.fbs.get {} n with lastDev := dev } }
        |> putS FBK_FB_INDEX_DEV n (clampI (-127) 127 dev) |> maxUp FBK_FB_INDEX_MAX_DEV n dev.natAbs
      if dev.natAbs ≤ r.u P0801_INDEX_TOL then
        fbSettle n (put FBK_FB_STATUS_CONSEC_MISMATCH n 0) d
          |> onlyIf (dev != 0 && dev != x.lastDev) (fun d => raise 0x0801 n d 0 dev)
      else
        d |> bumpSat FBK_FB_INDEX_MISMATCHES n |> bumpSat FBK_FB_STATUS_CONSEC_MISMATCH n
          |> put FBK_FB_FLAGS_MISMATCH n 1 |> (fun d => raise 0x0802 n d 0 dev)
          |> (fun d => onlyIf (decide (r.u P0801_MISMATCH_LIMIT ≤ get FBK_FB_STATUS_CONSEC_MISMATCH n d)) (fbDeclare n 1 · (get FBK_FB_STATUS_CONSEC_MISMATCH n d)) d)

/-- The place of (A, B) in the forward cycle 00, 10, 11, 01 (R209). -/
def quadPlace (levels : Nat) : Nat :=
  match bit levels 0, bit levels 1 with
  | false, false => 0
  | true, false => 1
  | true, true => 2
  | false, true => 3

/-- The sector of a Hall state (W, V, U), when HALL_SEQ lists it (R211). -/
def hallSector (r : Rec) (levels : Nat) : Option Nat :=
  (List.range 6).find? fun s => r.uAt (40 + s) 1 == levels % 8

/-- Levels `old` become `new` on one edge in quadrature (R209, R210); `t` and `tz` are the stamps of the A or B change
and of the Z change. -/
def quadAccept (n : Nat) (r : Rec) (old new t tz : Nat) (d : Dev) : Dev :=
  let a := bit old 0 != bit new 0
  let b := bit old 1 != bit new 1
  let up := ((quadPlace new + 4 - quadPlace old) % 4 == 1) != r.b P0801_FLAGS 0
  let d := if a && b then fbError FBK_FB_FLAGS_QUAD_ERR 0x0804 n 2 true d
    else if a || b then fbStep n r (if up then 1 else -1) t d else d
  onlyIf (r.b P0801_FLAGS 1 && !bit old 2 && bit new 2) (fbIndex n r tz) d

/-- Levels accepted in Hall mode (R211). -/
def hallAccept (n : Nat) (r : Rec) (new t : Nat) (d : Dev) : Dev :=
  let x := d.fbs.get {} n
  let s := get FBK_FB_STATUS_SECTOR n d
  let err (d : Dev) : Dev :=
    fbError FBK_FB_FLAGS_HALL_ERR 0x0805 n 2 true { d with fbs := d.fbs.put n { d.fbs.get {} n with hallError := true } }
  match hallSector r new with
  | none => err { d with fbs := d.fbs.put n { x with hallLost := true } }
  | some s' =>
    let d := put FBK_FB_STATUS_SECTOR n s' d
    if x.hallLost then { d with fbs := d.fbs.put n { x with hallLost := false } }
    else if s' = (s + 1) % 6 then fbStep n r (if r.b P0801_FLAGS 0 then -1 else 1) t d
    else if s' = (s + 5) % 6 then fbStep n r (if r.b P0801_FLAGS 0 then 1 else -1) t d
    else err d

/-- The lines of an interface that are filtered inputs (R206). -/
def fbInputs (r : Rec) : List Nat := if r.u P0801_MODE = 3 then [0] else [0, 1, 2]

/-- What the clock edges up to edge `e` have sampled on a line (R207): the level of the last of them, the edge after which the run of that
level began, and the stamp of the transition that began it. A transition after edge `x.edge` is first sampled by the next edge. -/
def lineRun (x : LineX) (e : Nat) : Bool × Nat × Nat :=
  if x.raw != x.lvl && decide (x.edge < e) then (x.raw, x.edge, x.stamp) else (x.lvl, x.lvlEdge, x.lvlStamp)

/-- A line's new level is due: FILTER_N edges have sampled it (R207). -/
def lineDue (n k : Nat) (r : Rec) (d : Dev) : Bool :=
  let x := lineRun (d.lines.get {} (3 * n + k)) (edge d)
  x.1 != bit (get FBK_FB_STATUS_LEVELS n d) k && decide (r.u P0801_FILTER_N ≤ since x.2.1 d)

/-- Every due line of the interface accepted on the edge (R207, R209 to R211). -/
def acceptLines (n : Nat) (r : Rec) (d : Dev) : Dev :=
  let due := (fbInputs r).filter fun k => lineDue n k r d
  let old := get FBK_FB_STATUS_LEVELS n d
  let new := due.foldl (fun l k => setBit l k (lineRun (d.lines.get {} (3 * n + k)) (edge d)).1) old
  let stampOf (k : Nat) : Nat := (lineRun (d.lines.get {} (3 * n + k)) (edge d)).2.2
  let d := put FBK_FB_STATUS_LEVELS n new d
  let t := stampOf ((due.find? fun k => k != 2 || r.u P0801_MODE == 2).getD 0)
  match r.u P0801_MODE with
  | 1 => fbMethod n r (quadAccept n r old new t (stampOf 2) d)
  | 2 => fbMethod n r (hallAccept n r new t d)
  | _ => d

/-! The commands. -/

/-- A line after a transition to `level` at `frac` sixteenths past the edge: stamped unless less than 5 ns after the last stamped one (R56);
what the edges up to the present one have sampled is kept (R207). -/
def lineMove (line : Nat) (level : Bool) (frac : Nat) (d : Dev) : LineX :=
  let x := d.lines.get {} line
  let run := lineRun x (edge d)
  let inst := nowPlus frac d
  let x : LineX := if !x.ever || decide (x.inst + 32 ≤ inst) then { x with inst := inst, ever := true, stamp := edgeStamp line frac d } else x
  { x with raw := level, edge := edge d, lvl := run.1, lvlEdge := run.2.1, lvlStamp := run.2.2 }

/-- A transition on a feedback line (R56, R207); from RUN on, a change that reverts before it is accepted is a glitch. A line that no record
uses as an input is followed too: an image may come to use it, and RUN takes its level (R207). -/
def fbLineEdgeAt (line : Nat) (level : Bool) (frac : Nat) (d : Dev) : Dev :=
  let n := line / 3
  if 72 ≤ line ∨ (d.lines.get {} line).raw == level then d
  else
    let rejected := match fbRec n d with
      | none => false
      | some r => inRun d && (fbInputs r).contains (line % 3) && level == bit (get FBK_FB_STATUS_LEVELS n d) (line % 3) && !lineDue n (line % 3) r d
    onlyIf rejected (bump FBK_FB_GLITCH_GLITCHES n) { d with lines := d.lines.put line (lineMove line level frac d) }

/-- FB_LINE_EDGE (R56). -/
def execFbLineEdge (dt line : Nat) (level : Bool) (frac : Nat) (s : State) : Host.Outcome State Fault Refusal :=
  onDev dt (fbLineEdgeAt line level frac) s

/-- FB_LEVEL_ACCEPT (R207): the acceptance edge of a line, and of every other line of its interface that is due on it. -/
def fbLevelAcceptAt (line : Nat) (d : Dev) : Dev :=
  match fbRec (line / 3) d with
  | none => d
  | some r => if lineDue (line / 3) (line % 3) r d && inRun d then acceptLines (line / 3) r d else d

def execFbLevelAccept (dt line : Nat) (s : State) : Host.Outcome State Fault Refusal := onDev dt (fbLevelAcceptAt line) s

/-- FB_ZERO_TIME (R213): ZERO_TIME without a change; the speed reads 0 and the method returns to PERIOD. -/
def fbZeroTimeAt (n : Nat) (d : Dev) : Dev :=
  match fbRec n d with
  | none => d
  | some r =>
    if r.u P0801_MODE ≠ 3 ∧ fbStamp n d + r.u P0801_ZERO_TIME * us16 ≤ now d then
      d |> put FBK_FB_STATUS_METHOD n 0 |> put FBK_FB_SPEED_SPEED n 0
    else d

def execFbZeroTime (dt iface : Nat) (s : State) : Host.Outcome State Fault Refusal := onDev dt (fbZeroTimeAt iface) s

/-- FB_ERR_RUN_RESET (R215): 10 ms without an illegal transition or Hall error. -/
def fbErrRunResetAt (n : Nat) (d : Dev) : Dev :=
  match fbRec n d with
  | none => d
  | some r =>
    if r.u P0801_MODE ≠ 3 ∧ 4000000 ≤ since (d.fbs.get {} n).errEdge d then
      fbSettle n (put FBK_FB_STATUS_ERR_RUN n 0) d
    else d

def execFbErrRunReset (dt iface : Nat) (s : State) : Host.Outcome State Fault Refusal := onDev dt (fbErrRunResetAt iface) s

/-- FB_ALARM_TIMEOUT (R215): ALARM_PIN active for 100 µs. -/
def fbAlarmTimeoutAt (n : Nat) (d : Dev) : Dev :=
  if flag FBK_FB_STATUS_ALARM n d ∧ 40000 ≤ since (d.fbs.get {} n).alarmEdge d then fbDeclare n 4 d else d

def execFbAlarmTimeout (dt iface : Nat) (s : State) : Host.Outcome State Fault Refusal := onDev dt (fbAlarmTimeoutAt iface) s

/-- An edge of a general I/O pin that is some interface's ALARM_PIN (R215): each active edge raises 0x0807, and the
inactive edge ends it. -/
def alarmEdge (pin : Nat) (level : Bool) (r : Rec) (d : Dev) : Dev :=
  let n := r.u P0801_IFACE
  if r.u P0801_ALARM_PIN ≠ pin then d
  else if level == r.b P0801_FLAGS 7 then
    { d with fbs := d.fbs.put n { d.fbs.get {} n with alarmEdge := edge d } }
      |> put FBK_FB_STATUS_ALARM n 1 |> (fun d => raise 0x0807 n d)
  else fbSettle n (put FBK_FB_STATUS_ALARM n 0) d |> clearFault 0x0807 n

/-- ALARM as the image finds its pin (R215, R218): one already active counts its 100 µs from here; there is no edge, so no 0x0807. -/
def alarmStart (r : Rec) (d : Dev) : Dev :=
  let n := r.u P0801_IFACE
  let pin := r.u P0801_ALARM_PIN
  if pin < 32 ∧ (d.pins.get {} pin).level = r.b P0801_FLAGS 7 then
    put FBK_FB_STATUS_ALARM n 1 { d with fbs := d.fbs.put n { d.fbs.get {} n with alarmEdge := edge d } }
  else d

/-! SSI (R214). -/

/-- Frame bits of an SSI read. -/
def ssiFrame (r : Rec) : Nat := r.u P0801_SSI_BITS + b2n (r.b P0801_FLAGS 5) + b2n (r.b P0801_FLAGS 4)

/-- Edges from the first clock fall to the completion of a read. -/
def ssiEdges (r : Rec) : Nat := (2 * ssiFrame r + 1) * r.u P0801_SSI_HALF + r.u P0801_SSI_DELAY

/-- The level of an SSI interface's clock line now (R214 step 2): it falls at the read's stamp and at every 2H edges after it, and rises H edges
after each fall, F + 1 times in all; it rests high. -/
def ssiClock (n : Nat) (r : Rec) (d : Dev) : Bool :=
  let x := d.fbs.get {} n
  let k := since x.readEdge d / r.u P0801_SSI_HALF
  !x.busy || k % 2 == 1 || decide (2 * ssiFrame r < k)

/-- A SAMPLE action reads the interface (R214): refused while a read or its MONO_US runs, failed when the data line, as the present clock
edge samples it, is low. -/
def ssiStart (n : Nat) (r : Rec) (d : Dev) : Dev :=
  let x := d.fbs.get {} n
  if x.busy ∨ edge d < x.readyEdge then
    fbError FBK_FB_FLAGS_SSI_ERR 0x0806 n 3 false (bumpSat FBK_FB_ERRORS_OVERRUNS n d)
  else if !(lineRun (d.lines.get {} (3 * n)) (edge d)).1 then fbError FBK_FB_FLAGS_SSI_ERR 0x0806 n 3 true d
  else { d with fbs := d.fbs.put n { x with busy := true, readStamp := now d, readEdge := edge d,
                                            readyEdge := edge d + ssiEdges r + 400 * r.u P0801_MONO_US } }

/-- The number that bits spell, first bit most significant. -/
def msbFirst (bs : List Bool) : Nat := bs.foldl (fun n b => 2 * n + b2n b) 0

/-- Gray code undone: bit i is the parity of the bits from i up. -/
def grayDecode (bs : List Bool) : List Bool := (bs.foldl (fun (p : List Bool × Bool) b =>
  (p.1 ++ [p.2 != b], p.2 != b)) ([], false)).1

/-- A read that completed (R214): the count it gives, in whole counts, or none when it failed. -/
def ssiValue (n : Nat) (r : Rec) (bs : List Bool) (d : Dev) : Option (Nat × Int) :=
  let w := r.u P0801_SSI_BITS
  let data := bs.take w
  let errBit := bs.getD w false
  let par := bs.getD (w + b2n (r.b P0801_FLAGS 5)) false
  let bad := bs.length != ssiFrame r || (r.b P0801_FLAGS 5 && errBit == r.b P0801_FLAGS 6) ||
    (r.b P0801_FLAGS 4 && ((data.filter id).length + b2n par) % 2 == 1) || data.all id
  if bad then none
  else
    let v := msbFirst (if r.b P0801_FLAGS 2 then grayDecode data else data)
    let x := d.fbs.get {} n
    let c : Int := match r.b P0801_FLAGS 3, x.good with
      | true, some (_, v0, c0) => c0 + toInt w (ofInt w ((v : Int) - v0))
      | _, _ => v
    let jump := match x.good with
      | some (_, _, c0) => (c - c0).natAbs
      | none => 0
    if r.u P0801_SSI_MAX_STEP ≠ 0 ∧ r.u P0801_SSI_MAX_STEP < jump then none else some (v, c)

/-- The completion of an SSI read: true when it was good. -/
def ssiFinish (n : Nat) (r : Rec) (bs : List Bool) (d : Dev) : Bool × Dev :=
  let x := d.fbs.get {} n
  match ssiValue n r bs d with
  | none => (false, fbError FBK_FB_FLAGS_SSI_ERR 0x0806 n 3 true { d with fbs := d.fbs.put n { x with busy := false } })
  | some (v, c) =>
    let sp := match x.good with
      | some (t0, _, c0) => speedOf (c - c0) ((x.readStamp : Int) - t0)
      | none => 0
    let p := toInt 64 (ofInt 64 (c * 65536))
    (true, { d with fbs := d.fbs.put n { x with busy := false, good := some (x.readStamp, v, c), speed := sp } }
      |> putS FBK_FB_POS_COUNT n p |> put FBK_FB_EDGE_STAMP n x.readStamp |> putS FBK_FB_SPEED_SPEED n sp
      |> putStrandsS [(0x08000 + n, p), (0x08020 + n, sp)]
      |> fbSettle n (put FBK_FB_STATUS_ERR_RUN n 0))

end Sys2Proof.Machine
end

