-- ==== Sys2Proof/Machine/Crypto.lean ====
section
/-! DEFINITION. The checks that the loader makes over bytes: CRC-32C (R25, R26), SHA-256 and ECDSA on
curve P-256 (R32). The spec names these functions and does not write them out; they stand here as
published (CRC-32C of RFC 3720, FIPS 180-4, FIPS 186-4 and SEC 1): PRESUMED, log entry 23. -/

namespace Sys2Proof.Machine

/-- Eight steps of the reflected CRC-32C register, polynomial 0x1EDC6F41. -/
def crcBits : Nat → Nat → Nat
  | 0, c => c
  | k + 1, c => crcBits k (if c % 2 = 1 then (c / 2) ^^^ 0x82F63B78 else c / 2)

/-- CRC-32C over bytes. -/
def crc32c (bs : List Nat) : Nat :=
  (bs.foldl (fun c b => crcBits 8 (c ^^^ (b % 256))) 0xFFFFFFFF) ^^^ 0xFFFFFFFF

/-- The eight 32-bit words of a 256-bit number, most significant first. -/
def words8 (n : Nat) : List Nat := (List.range 8).map fun i => bits n (224 - 32 * i) 32

/-- The initial hash value of SHA-256: the fractions of the square roots of the first eight primes. -/
def shaH : List Nat := words8 0x6a09e667bb67ae853c6ef372a54ff53a510e527f9b05688c1f83d9ab5be0cd19

/-- The round constants of SHA-256, eight to a number: the fractions of the cube roots of the first 64 primes. -/
def shaK : List Nat := List.flatMap words8 [
  0x428a2f9871374491b5c0fbcfe9b5dba53956c25b59f111f1923f82a4ab1c5ed5,
  0xd807aa9812835b01243185be550c7dc372be5d7480deb1fe9bdc06a7c19bf174,
  0xe49b69c1efbe47860fc19dc6240ca1cc2de92c6f4a7484aa5cb0a9dc76f988da,
  0x983e5152a831c66db00327c8bf597fc7c6e00bf3d5a7914706ca635114292967,
  0x27b70a852e1b21384d2c6dfc53380d13650a7354766a0abb81c2c92e92722c85,
  0xa2bfe8a1a81a664bc24b8b70c76c51a3d192e819d6990624f40e3585106aa070,
  0x19a4c1161e376c082748774c34b0bcb5391c0cb34ed8aa4a5b9cca4f682e6ff3,
  0x748f82ee78a5636f84c878148cc7020890befffaa4506cebbef9a3f7c67178f2]

/-- A 32-bit word turned right. -/
def rotr (n x : Nat) : Nat := (x / 2 ^ n + x * 2 ^ (32 - n)) % 2 ^ 32

/-- The message schedule: `n` more words behind `w`, which is kept newest first. -/
def shaSchedule : Nat → List Nat → List Nat
  | 0, w => w
  | n + 1, w =>
    let a := w.getD 1 0
    let b := w.getD 14 0
    let s1 := rotr 17 a ^^^ rotr 19 a ^^^ (a / 2 ^ 10)
    let s0 := rotr 7 b ^^^ rotr 18 b ^^^ (b / 2 ^ 3)
    shaSchedule n ((s1 + w.getD 6 0 + s0 + w.getD 15 0) % 2 ^ 32 :: w)

/-- One round over the eight working words. -/
def shaRound (v : List Nat) (kw : Nat) : List Nat :=
  match v with
  | [a, b, c, d, e, f, g, h] =>
    let s1 := rotr 6 e ^^^ rotr 11 e ^^^ rotr 25 e
    let ch := (e &&& f) ^^^ ((2 ^ 32 - 1 - e) &&& g)
    let t1 := h + s1 + ch + kw
    let s0 := rotr 2 a ^^^ rotr 13 a ^^^ rotr 22 a
    let mj := (a &&& b) ^^^ (a &&& c) ^^^ (b &&& c)
    [(t1 + s0 + mj) % 2 ^ 32, a, b, c, (d + t1) % 2 ^ 32, e, f, g]
  | v => v

/-- One 64-byte block taken into the hash. -/
def shaBlock (h : List Nat) (blk : List Nat) : List Nat :=
  let words := (List.range 16).map fun i => beVal ((blk.drop (4 * i)).take 4)
  let w := (shaSchedule 48 words.reverse).reverse
  let v := ((shaK.zip w).map fun p => p.1 + p.2).foldl shaRound h
  (h.zip v).map fun p => (p.1 + p.2) % 2 ^ 32

/-- `n` blocks from the front of `bs`. -/
def shaBlocks : Nat → List Nat → List Nat → List Nat
  | 0, h, _ => h
  | n + 1, h, bs => shaBlocks n (shaBlock h (bs.take 64)) (bs.drop 64)

/-- SHA-256 over bytes, as one 256-bit number, first byte most significant. -/
def sha256 (bs : List Nat) : Nat :=
  let len := bs.length
  let padded := bs ++ [0x80] ++ zeros ((119 - len % 64) % 64) ++ beBytes 8 (8 * len)
  (shaBlocks (padded.length / 64) shaH padded).foldl (fun a w => a * 2 ^ 32 + w) 0

/-! Curve P-256. -/

/-- The field's prime. -/
def p256 : Nat := 0xffffffff00000001000000000000000000000000ffffffffffffffffffffffff
/-- The order of the base point. -/
def n256 : Nat := 0xffffffff00000000ffffffffffffffffbce6faada7179e84f3b9cac2fc632551
/-- The curve's coefficient b; a is p − 3. -/
def b256 : Nat := 0x5ac635d8aa3a93e7b3ebbd55769886bc651d06b0cc53b0f63bce3c3e27d2604b
/-- The base point. -/
def g256 : Nat × Nat := (0x6b17d1f2e12c4247f8bce6e563a440f277037d812deb33a0f4a13945d898c296,
  0x4fe342e2fe1a7f9b8ee7eb4a7c0f9e162bce33576b315ececbb6406837bf51f5)

/-- `b ^ e` modulo `m`, `e` below 2^`fuel`. -/
def powMod (m : Nat) : Nat → Nat → Nat → Nat
  | 0, _, _ => 1 % m
  | fuel + 1, b, e =>
    let h := powMod m fuel (b * b % m) (e / 2)
    if e % 2 = 1 then b * h % m else h

/-- The inverse modulo a prime, by Fermat. -/
def invMod (m a : Nat) : Nat := powMod m 256 (a % m) (m - 2)

/-- The sum of two points; `none` is the point at infinity. -/
def ecAdd (a b : Option (Nat × Nat)) : Option (Nat × Nat) :=
  match a, b with
  | none, b => b
  | a, none => a
  | some (x1, y1), some (x2, y2) =>
    if x1 = x2 ∧ (y1 + y2) % p256 = 0 then none
    else
      let l := if x1 = x2 then (3 * x1 * x1 + (p256 - 3)) * invMod p256 (2 * y1) % p256
        else (y2 + p256 - y1) * invMod p256 (x2 + p256 - x1) % p256
      let x3 := (l * l + 2 * p256 - x1 - x2) % p256
      some (x3, (l * (x1 + p256 - x3) + p256 - y1) % p256)

/-- `k` times a point, `k` below 2^`fuel`. -/
def ecMul : Nat → Nat → Option (Nat × Nat) → Option (Nat × Nat)
  | 0, _, _ => none
  | fuel + 1, k, q =>
    let h := ecMul fuel (k / 2) (ecAdd q q)
    if k % 2 = 1 then ecAdd q h else h

/-- ECDSA verification of a SHA-256 value `e` with public key (x, y) and signature (r, s) (R32). -/
def ecdsaOk (e x y r s : Nat) : Bool :=
  decide (0 < r ∧ r < n256 ∧ 0 < s ∧ s < n256 ∧ x < p256 ∧ y < p256) &&
  decide (y * y % p256 = (x * x * x + (p256 - 3) * x + b256) % p256) &&
  (let w := invMod n256 s
   match ecAdd (ecMul 256 (e * w % n256) (some g256)) (ecMul 256 (r * w % n256) (some (x, y))) with
   | none => false
   | some (px, _) => px % n256 == r)

end Sys2Proof.Machine
end

