-- ==== Sys2Proof/Machine/Mirror.lean ====
section
/-! DEFINITION. What the active unit sends over the pair link (R449, R453). -/

namespace Sys2Proof.Machine

/-- The bytes of a pair-link frame (R453). -/
def linkFrame (seq kind : Nat) (body : List Nat) : List Nat :=
  let head := leBytes 4 seq ++ leBytes 2 kind ++ leBytes 2 body.length ++ body
  head ++ leBytes 4 (crc32c head)

/-- One frame sent; a frame other than an acknowledgement waits for its own (R453). -/
def linkSend (kind : Nat) (body : List Nat) (d : Dev) : Dev :=
  let x := d.pairx
  let u := if kind = 4 then x.unacked else x.unacked ++ [⟨x.txSeq, kind, body, edge d, false⟩]
  send .pair 0 (linkFrame x.txSeq kind body)
    { d with pairx := { x with txSeq := (x.txSeq + 1) % 4294967296, unacked := u } }

/-- A body of any length in frames of at most 2048 bytes each; `fuel` is at least their number. -/
def linkChunks : Nat → Nat → List Nat → Dev → Dev
  | 0, _, _, d => d
  | fuel + 1, kind, body, d =>
    if body.length ≤ 2048 then linkSend kind body d
    else linkChunks fuel kind (body.drop 2048) (linkSend kind (body.take 2048) d)

/-- The active member of a pair mirrors what it does (R449). -/
def mirrors (d : Dev) : Bool := pairState d == 6

/-- A mirrored item (R453) leaves the active unit; its body is padded to a multiple of 4. -/
def mirror (item index stamp : Nat) (body : List Nat) (d : Dev) : Dev :=
  if !mirrors d then d
  else
    let pad := zeros ((4 - body.length % 4) % 4)
    let b := leBytes 8 stamp ++ leBytes 2 item ++ leBytes 2 (body.length + pad.length) ++ leBytes 4 index ++ body ++ pad
    let x := d.pairx
    linkChunks (b.length / 2048 + 1) 1 b { d with pairx := { x with items := x.items + 1, bytes := x.bytes + b.length } }

end Sys2Proof.Machine
end

