-- ==== Sys2Proof/Machine/Role.lean ====
section
/-! DEFINITION. The pair's role as other blocks see it (R455): its state, and a standby that leaves SHADOW. -/

namespace Sys2Proof.Machine

/-- The state of R455, with its strand (R475). -/
def setPairState (st : Nat) (d : Dev) : Dev := showRole st d

/-- A join is requested over the pair link (R455, R457). The body of a role-control frame is the model's own (log entry 30). -/
def requestJoin (d : Dev) : Dev :=
  let seq := (d.img.map fun m => hdrU m.hdr PHDR_SEQUENCE).getD 0
  linkSend 5 (1 :: leBytes 4 seq) { d with pairx := { d.pairx with joinEdge := edge d, held := 0, snap := [], snapOn := false } }

/-- The standby discards its replay state and joins again (R455). -/
def leaveShadow (d : Dev) : Dev :=
  if pairState d = 5 then requestJoin (setPairState 3 { d with pairx := { d.pairx with replay := [] } }) else d

/-- A standby cannot follow the active unit's result: 0x1209, and it leaves SHADOW (R449, R450). -/
def replayDiverge (d : Dev) : Dev :=
  if isStandby d then leaveShadow (stick PAIR_FLAGS_REPLAY_DIVERGE 0 0x1209 0 d) else d

/-- Replay of held cycles suspends R109 and R112 (R457). -/
def replaying (d : Dev) : Bool := pairState d == 3 || pairState d == 4

end Sys2Proof.Machine
end

