-- ==== Sys2Proof/Machine/CanBus.lean ====
section
/-! DEFINITION. The CAN FD controllers (R336 to R348): error confinement, reception through the filter pairs, the control and the
monitor queue, signal fields, and the transmit buffers. What ISO 11898-1 says of the error counters and of arbitration is the
standard's (log entry 40). -/

namespace Sys2Proof.Machine

/-- A controller's record. -/
def canRec (c : Nat) (d : Dev) : Option Rec := recAt 0x0D01 P0D01_CONTROLLER c d

/-- A controller. -/
def canX (c : Nat) (d : Dev) : CanX := d.cans.get {} c

/-- A controller changed. -/
def canMod (c : Nat) (f : CanX → CanX) (d : Dev) : Dev := { d with cans := d.cans.put c (f (canX c d)) }

/-- A controller's transmit buffer changed. -/
def canBufMod (c b : Nat) (f : CanTx → CanTx) (d : Dev) : Dev :=
  canMod c (fun x => { x with bufs := x.bufs.put b (f (x.bufs.get {} b)) }) d

/-- The state of R339. -/
def canState (c : Nat) (d : Dev) : Nat := get CAN_C_STATE_STATE c d

/-- The state shown in the register and on its strand (R357). -/
def setCanState (c st : Nat) (d : Dev) : Dev := putStrands [(0xDF00 + 16 * c, st)] (put CAN_C_STATE_STATE c st d)

/-- The error counters shown in the register and on their strands. -/
def showCounters (c : Nat) (d : Dev) : Dev :=
  let x := canX c d
  d |> put CAN_C_STATE_TEC c (satU 8 x.tec) |> put CAN_C_STATE_REC c (satU 8 x.rec_)
    |> putStrands [(0xDF01 + 16 * c, x.tec), (0xDF02 + 16 * c, x.rec_)]

/-- Buffers that await transmission, and the largest run of collisions (R365). -/
def showBufs (c : Nat) (d : Dev) : Dev :=
  let bs := (canX c d).bufs
  d |> put CAN_C_STATE_PENDING c (bs.filter fun p => p.2.loads != []).length
    |> put CAN_C_COLL_CONSEC_MAX c (satU 8 (bs.foldl (fun m p => max m p.2.consec) 0))

/-- The state that the counters lead to (R339). -/
def confine (c : Nat) (d : Dev) : Dev :=
  let x := canX c d
  let st := canState c d
  let d := showCounters c d
  if (st = 2 ∨ st = 3) ∧ 255 < x.tec then
    let d := if st = 2 then raise 0x0D01 c (put CAN_C_FLAGS_PASSIVE_SEEN c 1 d) else d
    raise 0x0D02 c (setCanState c 4 (put CAN_C_FLAGS_BUS_OFF_SEEN c 1 (canMod c (fun x => { x with offEdge := edge d }) d)))
  else if st = 2 ∧ (128 ≤ x.tec ∨ 128 ≤ x.rec_) then
    raise 0x0D01 c (setCanState c 3 (put CAN_C_FLAGS_PASSIVE_SEEN c 1 d))
  else if st = 3 ∧ x.tec < 128 ∧ x.rec_ < 128 then clearFault 0x0D01 c (setCanState c 2 d)
  else d

/-- The controller takes part in traffic: ACTIVE or PASSIVE. -/
def canOnBus (c : Nat) (d : Dev) : Bool := canState c d == 2 || canState c d == 3

/-- CANn_TXD is held recessive (R339, R348): in OFF, while integrating, in BUS_OFF and while recovering. -/
def canRecessive (c : Nat) (d : Dev) : Bool := !canOnBus c d

/-- The data bytes that a DLC codes. -/
def dlcBytes (fd : Bool) (dlc : Nat) : Nat :=
  if dlc ≤ 8 then dlc else if fd then [12, 16, 20, 24, 32, 48, 64].getD (dlc - 9) 64 else 8

/-! Signal fields (R345). -/

/-- The field's bits in the data, or none where it extends past them. -/
def fieldBits (data : List Nat) (pos len flags : Nat) : Option Nat :=
  if bit flags 1 then
    let e := pos / 8 + 1
    let n := len / 8
    if data.length < e ∨ e < n then none else some (beVal ((data.drop (e - n)).take n))
  else if 8 * data.length < pos + len then none
  else some (bits (leVal data) pos len)

/-- What is published from a received field: an INT32 sign-extended, or a REAL32. -/
def fieldValue (v len flags : Nat) : Nat :=
  if bit flags 2 then trunc 32 v
  else if bit flags 3 then ofInt 64 (toInt 32 (v * 2 ^ (32 - len)))
  else if bit flags 0 then ofInt 64 (toInt len v)
  else ofInt 64 (toInt 32 v)

/-- A source word coded into a field, and whether it saturated. -/
def fieldCode (w len flags : Nat) : Nat × Bool :=
  let w := trunc 32 w
  if bit flags 2 then (w, false)
  else if bit flags 3 then (w / 2 ^ (32 - len), false)
  else
    let i := toInt 32 w
    let lo := if bit flags 0 then minS len else 0
    let hi : Int := if bit flags 0 then maxS len else 2 ^ len - 1
    (ofInt len (clampI lo hi i), clampI lo hi i != i)

/-- The data with a coded field put in. -/
def fieldPut (data : List Nat) (pos len flags v : Nat) : List Nat :=
  if bit flags 1 then
    let e := pos / 8 + 1
    let n := len / 8
    data.take (e - n) ++ beBytes n v ++ data.drop e
  else leBytes data.length (setBits (leVal data) pos len v)

/-! Reception (R341 to R344). -/

/-- The filter record of a controller. -/
def filterRec (c : Nat) (d : Dev) : Option Rec := (recsOf 0x0D02 d).find? fun r => r.uAt 0 1 == c

/-- Entry `i` of a filter matches the frame (R342). -/
def pairMatches (r : Rec) (f : CanFrame) (i : Nat) : Bool :=
  let fl := r.u P0D02_FLAGS i
  (f.ext == bit fl 0) && ((f.ident ^^^ r.u P0D02_MATCH i) &&& r.u P0D02_MASK i == 0) &&
    (!bit fl 3 || f.fd) && (!bit fl 4 || !f.fd)

/-- The matching entry with the lowest pair (R342). -/
def matchPair (r : Rec) (f : CanFrame) : Option Nat :=
  let hits := (List.range (r.uAt 1 1)).filter (pairMatches r f)
  hits.foldl (fun b i => match b with
    | none => some i
    | some j => if r.u P0D02_PAIR i < r.u P0D02_PAIR j then some i else b) none

/-- IDENT as the monitor ring holds it (R344). -/
def identWord (f : CanFrame) : Nat :=
  f.ident % 2 ^ 29 + b2n f.ext * 2 ^ 29 + b2n f.fd * 2 ^ 30 + b2n f.brs * 2 ^ 31

/-- The 64 data bytes of an entry. -/
def data64 (f : CanFrame) : List Nat :=
  let l := f.data.take (dlcBytes f.fd f.dlc)
  l ++ zeros (64 - l.length)

/-- Bytes written to the live space as 32-bit words. -/
def liveBytes : Nat → List Nat → Dev → Dev
  | a, b0 :: b1 :: b2 :: b3 :: t, d => liveBytes (a + 4) t { d with live := d.live.set 0 a (leVal [b0, b1, b2, b3]) }
  | _, _, d => d

/-- A frame enters the monitor ring (R344). -/
def ringPut (c : Nat) (q : CanRx) (d : Dev) : Dev :=
  let n := get CAN_C_MONQ_NUMBER c d
  let e := leBytes 8 q.sof ++ leBytes 8 q.valid ++ leBytes 4 n ++ leBytes 4 (identWord q.frame) ++
    [q.frame.dlc % 16, q.pair, b2n q.frame.esi] ++ zeros 5 ++ data64 q.frame
  liveBytes (0xD1000 + 0x1800 * c + 96 * (n % 64)) e (bump CAN_C_MONQ_NUMBER c d)

/-- The body of a mirrored CAN frame: 88 bytes (R454). -/
def canItem (q : CanRx) : List Nat :=
  leBytes 8 q.sof ++ leBytes 8 q.valid ++ leBytes 4 (identWord q.frame) ++ [q.frame.dlc % 16, q.pair, b2n q.frame.esi, 0] ++ data64 q.frame

/-- A mirrored CAN frame out of its body. -/
def canOfItem (b : List Nat) : CanRx :=
  let u (o n : Nat) := leVal ((b.drop o).take n)
  let fd := bit (u 16 4) 30
  { sof := u 0 8, valid := u 8 8, pair := u 21 1,
    frame := { ident := u 16 4 % 2 ^ 29, ext := bit (u 16 4) 29, fd := fd, brs := bit (u 16 4) 31, dlc := u 20 1,
               esi := u 22 1 == 1, data := (b.drop 24).take (dlcBytes fd (u 20 1)) } }

/-- A frame enters the control queue, or finds it full (R343). A standby never applies its own receptions (R20). -/
def queue0 (c : Nat) (q : CanRx) (d : Dev) : Dev :=
  if isStandby d then d
  else if 64 ≤ (canX c d).q0.length then
    stick CAN_C_FLAGS_Q0_OVF c 0x0D03 c (bumpSat CAN_C_DROPS_Q0_DROPPED c d)
  else mirror 5 c q.valid (canItem q) (canMod c (fun x => { x with q0 := x.q0 ++ [q] }) d)

/-- REC after a frame received without error (ISO 11898-1): one less, and above 127 a value between 119 and 127. -/
def recGood (c : Nat) (d : Dev) : Dev :=
  let x := canX c d
  if x.rec_ ≤ 127 then canMod c (fun x => { x with rec_ := x.rec_ - 1 }) d
  else
    let (v, d) := fresh 4 d
    canMod c (fun x => { x with rec_ := 119 + v % 9 }) d

/-- CAN_FRAME_RX (R341, R342): a frame becomes valid on a controller that is on the bus. -/
def canFrameRxAt (c : Nat) (f : CanFrame) (d : Dev) : Dev :=
  match canRec c d with
  | none => d
  | some r =>
    if !canOnBus c d then d
    else
      let d := confine c (recGood c (bump CAN_C_COUNT_RX c d))
      let back := 16 * f.sof * (1000000000 + d.clk.ppb).toNat / 1000000000
      let delay := (r.u P0D01_RX_DELAY * 32 + 2) / 5
      let q : CanRx := { sof := now d - back - delay, valid := now d, frame := f }
      match (if f.rtr then none else (filterRec c d).bind fun r => (matchPair r f).map fun i => (r, i)) with
      | none => bumpSat CAN_C_DROPS_UNMATCHED c d
      | some (r, i) =>
        let fl := r.u P0D02_FLAGS i
        let q := { q with pair := r.u P0D02_PAIR i }
        if bit fl 2 then bumpSat CAN_C_DROPS_UNMATCHED c d
        else if bit fl 1 then ringPut c q d
        else queue0 c q d

def execCanFrameRx (dt ctrl : Nat) (frame : CanFrame) (s : State) : Host.Outcome State Fault Refusal :=
  onDev dt (canFrameRxAt ctrl frame) s

/-- The receive map of a controller. -/
def mapRec (c : Nat) (d : Dev) : Option Rec := (recsOf 0x0D04 d).find? fun r => r.uAt 0 1 == c

/-- The strands that a pair maps to. -/
def pairStrands (c pair : Nat) (d : Dev) : List Nat :=
  match mapRec c d with
  | none => []
  | some r => ((List.range (r.uAt 2 2)).filter fun i => r.u P0D04_PAIR i == pair).map fun i => 0xD000 + r.u P0D04_STRAND_INDEX i

/-- A frame's mapped fields take effect (R343, R345): the pair's strands are good again. -/
def canApply (c : Nat) (q : CanRx) (d : Dev) : Dev :=
  match mapRec c d with
  | none => d
  | some r =>
    let es := (List.range (r.uAt 2 2)).filter fun i => r.u P0D04_PAIR i == q.pair
    let data := q.frame.data.take (dlcBytes q.frame.fd q.frame.dlc)
    let got (i : Nat) := fieldBits data (r.u P0D04_BIT_POS i) (r.u P0D04_LENGTH i) (r.u P0D04_FLAGS i)
    let vs := es.filterMap fun i => (got i).map fun v =>
      (0xD000 + r.u P0D04_STRAND_INDEX i, fieldValue v (r.u P0D04_LENGTH i) (r.u P0D04_FLAGS i))
    d |> forL (pairStrands c q.pair d) (fun id d => markStale id false d) |> putStrands vs
      |> onlyIf (es.any fun i => (got i).isNone) (put CAN_C_FLAGS_SHORT_FRAME c 1)
      |> canMod c (fun x => { x with lastAt := x.lastAt.put q.pair (edge d) })
      |> clearFault 0x0D04 (c * 64 + q.pair)

/-- CAN_DELIVERY (R343): the oldest frame of the control queue takes effect 2 µs after its VALID_STAMP. -/
def canDeliveryAt (c : Nat) (d : Dev) : Dev :=
  match (canX c d).q0 with
  | [] => d
  | q :: t => if now d < q.valid + 2 * us16 then d else canApply c q (canMod c (fun x => { x with q0 := t }) d)

def execCanDelivery (dt ctrl : Nat) (s : State) : Host.Outcome State Fault Refusal := onDev dt (canDeliveryAt ctrl) s

/-- CAN_PAIR_TIMEOUT (R343): no delivery through a pair for its TIMEOUT. -/
def canPairTimeoutAt (c pair : Nat) (d : Dev) : Dev :=
  match (filterRec c d).bind fun r => ((List.range (r.uAt 1 1)).find? fun i => r.u P0D02_PAIR i == pair).map fun i => r.u P0D02_TIMEOUT i with
  | none => d
  | some t =>
    if t = 0 ∨ since ((canX c d).lastAt.get 0 pair) d < t * 400000 ∨ isActiveFault 0x0D04 (c * 64 + pair) d then d
    else raise 0x0D04 (c * 64 + pair) (put CAN_C_FLAGS_STALE c 1 (forL (pairStrands c pair d) (fun id d => markStale id true d) d))

def execCanPairTimeout (dt ctrl pair : Nat) (s : State) : Host.Outcome State Fault Refusal :=
  onDev dt (canPairTimeoutAt ctrl pair) s

/-! Transmission (R346, R347, R340). -/

/-- A buffer's record. -/
def txRec (c b : Nat) (d : Dev) : Option Rec :=
  (recsOf 0x0D03 d).find? fun r => r.u P0D03_CONTROLLER == c && r.u P0D03_BUFFER == b

/-- The data bytes of a load, and whether a field saturated (R345). -/
def txData (r : Rec) (d : Dev) : List Nat × Bool :=
  (List.range (r.u P0D03_COUNT)).foldl (fun a j =>
    let (v, sat) := fieldCode (strandBefore (r.u P0D03_STRAND j % 0x100000) d) (r.u P0D03_LENGTH j) (r.u P0D03_FLAGS_E j)
    (fieldPut a.1 (r.u P0D03_BIT_POS j) (r.u P0D03_LENGTH j) (r.u P0D03_FLAGS_E j) v, a.2 || sat))
    (zeros (dlcBytes (r.b P0D03_FLAGS 1) (r.u P0D03_DLC)), false)

/-- A buffer is loaded at a firing of its pick (R346, R348). -/
def canLoad (r : Rec) (d : Dev) : Dev :=
  let c := r.u P0D03_CONTROLLER
  let b := r.u P0D03_BUFFER
  let st := canState c d
  if isStandby d ∨ d.unit.halted ∨ st = 0 ∨ st = 1 ∨ st = 4 then d
  else
    let (data, sat) := txData r d
    let old := ((canX c d).bufs.get {} b).loads
    d |> canBufMod c b (fun y => { y with loads := old ++ [(edge d, data)] })
      |> onlyIf sat (put CAN_C_FLAGS_TX_SAT c 1) |> showBufs c
      |> onlyIf (old != []) (fun d => stick CAN_C_FLAGS_TX_OVW c 0x0D05 c d)

/-- The buffers that a pick loads. -/
def canLoadPick (p : Nat) (d : Dev) : Dev :=
  forL (recsOf 0x0D03 d) (fun r d => if r.u P0D03_PICK = p then canLoad r d else d) d

/-- The place of an identifier in arbitration, lowest first (ISO 11898-1). -/
def arbKey (r : Rec) : Nat :=
  let id := r.u P0D03_IDENT
  if r.b P0D03_FLAGS 0 then id / 262144 * 524288 + 262144 + id % 262144 else id * 524288

/-- The load that an attempt which began on edge `e` sends: the last one not after it. -/
def loadAt (e : Nat) (y : CanTx) : Option (Nat × List Nat) := (y.loads.filter fun l => decide (l.1 ≤ e)).getLast?

/-- The buffer was the one offered for an attempt that began on edge `e` (R346). -/
def offered (c b e : Nat) (d : Dev) : Bool :=
  match txRec c b d with
  | none => false
  | some r => (loadAt e ((canX c d).bufs.get {} b)).isSome && (canX c d).bufs.all fun p =>
      p.1 == b || (loadAt e p.2).isNone || (txRec c p.1 d).elim true fun q => decide (arbKey r < arbKey q)

/-- What is left in a buffer after an attempt that began on edge `e`: only a load that came during it, when it was sent. -/
def afterAttempt (sent : Bool) (e : Nat) (y : CanTx) : CanTx :=
  let newer := y.loads.filter fun l => decide (e < l.1)
  let rest := if sent then newer else y.loads
  { y with loads := match rest.getLast? with
                    | some l => [l]
                    | none => [] }

/-- A frame as it leaves: identifier word with DLC and ESI, then its data. -/
def canOut (r : Rec) (esi : Bool) (data : List Nat) : List Nat :=
  leBytes 4 (identWord { ident := r.u P0D03_IDENT, ext := r.b P0D03_FLAGS 0, fd := r.b P0D03_FLAGS 1, brs := r.b P0D03_FLAGS 2 }) ++
    [r.u P0D03_DLC, b2n esi] ++ data

/-- A frame of this buffer runs with TDC: the controller has TDC_EN and the frame BRS (R338). -/
def usesTdc (c : Nat) (r : Rec) (d : Dev) : Bool := ((canRec c d).elim false fun q => q.b P0D01_FLAGS 0) && r.b P0D03_FLAGS 2

/-- The measured delay is shown for an FD frame with TDC_EN (R338). -/
def showTdc (c tdc : Nat) (r : Rec) (d : Dev) : Dev :=
  if ((canRec c d).elim false fun q => q.b P0D01_FLAGS 0) ∧ r.b P0D03_FLAGS 1 then put CAN_C_TDC_DELAY c (satU 8 tdc) d else d

/-- The delay plus TDCO exceeds 127 minimum quanta (R338). -/
def tdcOut (c tdc : Nat) (r : Rec) (d : Dev) : Bool := usesTdc c r d && decide (127 < tdc + get CAN_C_TDC_TDCO c d)

/-- An attempt ends without success (R340, R347): arbitration lost (0), an error that counts (1), a same-identifier collision (2), or an
error that leaves TEC as it is (3). -/
def attemptFails (c b kind tdc e : Nat) (r : Rec) (d : Dev) : Dev :=
  let outside := kind != 0 && tdcOut c tdc r d
  let counts := kind == 1 || kind == 2 || outside
  let d := onlyIf (kind != 0) (showTdc c tdc r) d |> onlyIf outside (put CAN_C_FLAGS_TDC_RANGE c 1)
    |> canBufMod c b (fun y => { afterAttempt false e y with consec := if kind = 2 then y.consec + 1 else y.consec })
    |> onlyIf counts (canMod c (fun x => { x with tec := x.tec + 8 }))
  let d := if kind = 2 then
      let d := d |> bumpSat CAN_C_COLL_TOTAL c |> put CAN_C_COLL_BUFFER c b
      if ((canX c d).bufs.get {} b).consec = 16 then
        raise 0x0D06 (c * 32 + b) d 0 ((r.u P0D03_IDENT + b2n (r.b P0D03_FLAGS 0) * 2 ^ 29 : Nat) : Int)
      else d
    else d
  confine c (showBufs c d)

/-- CAN_TX_COMPLETE (R340): the frame offered leaves its buffer. `began` is how many edges ago its attempt began. -/
def canTxCompleteAt (c b began tdc : Nat) (d : Dev) : Dev :=
  let e := edge d - began
  match txRec c b d, loadAt e ((canX c d).bufs.get {} b) with
  | some r, some (_, data) =>
    if !canOnBus c d || !offered c b e d then d
    else if tdcOut c tdc r d then attemptFails c b 1 tdc e r d
    else
      d |> showTdc c tdc r |> bump CAN_C_COUNT_TX c
        |> send .can (c * 32 + b) (canOut r (r.b P0D03_FLAGS 1 && canState c d == 3) data)
        |> canBufMod c b (fun y => { afterAttempt true e y with consec := 0 })
        |> canMod c (fun x => { x with tec := x.tec - 1 }) |> showBufs c |> clearFault 0x0D06 (c * 32 + b) |> confine c
  | _, _ => d

def execCanTxComplete (dt ctrl buffer began tdc : Nat) (s : State) : Host.Outcome State Fault Refusal :=
  onDev dt (canTxCompleteAt ctrl buffer began tdc) s

/-- CAN_TX_ERROR (R340, R347): the frame stays in its buffer and is offered again. -/
def canTxErrorAt (c b kind began tdc : Nat) (d : Dev) : Dev :=
  let e := edge d - began
  match txRec c b d with
  | some r => if canOnBus c d && offered c b e d then attemptFails c b kind tdc e r d else d
  | none => d

def execCanTxError (dt ctrl buffer kind began tdc : Nat) (s : State) : Host.Outcome State Fault Refusal :=
  onDev dt (canTxErrorAt ctrl buffer kind began tdc) s

/-- CAN_BUS_ERROR (R339): a reception error counts 1, and 8 where ISO 11898-1 says so (kind 1). -/
def canBusErrorAt (c kind : Nat) (d : Dev) : Dev :=
  if (canRec c d).isNone || !canOnBus c d then d
  else confine c (canMod c (fun x => { x with rec_ := min 255 (x.rec_ + if kind = 0 then 1 else 8) }) d)

def execCanBusError (dt ctrl kind : Nat) (s : State) : Host.Outcome State Fault Refusal := onDev dt (canBusErrorAt ctrl kind) s

/-- CAN_INTEGRATION_DONE (R339). -/
def execCanIntegrationDone (dt ctrl : Nat) (s : State) : Host.Outcome State Fault Refusal :=
  onDev dt (fun d => if canState ctrl d = 1 then setCanState ctrl 2 d else d) s

/-- CAN_BUSOFF_HOLD_EXPIRY (R339). -/
def canBusoffHoldExpiryAt (c : Nat) (d : Dev) : Dev :=
  match canRec c d with
  | some r => if canState c d = 4 ∧ r.u P0D01_BUSOFF_HOLD * 400000 ≤ since (canX c d).offEdge d then setCanState c 5 d else d
  | none => d

def execCanBusoffHoldExpiry (dt ctrl : Nat) (s : State) : Host.Outcome State Fault Refusal :=
  onDev dt (canBusoffHoldExpiryAt ctrl) s

/-- The edges from BUS_OFF that a recovery takes at least: BUSOFF_HOLD, then 128 sequences of 11 recessive nominal bits (R339). -/
def recoveryEdges (c : Nat) (d : Dev) : Nat :=
  (canRec c d).elim 0 fun r => r.u P0D01_BUSOFF_HOLD * 400000 + 128 * 11 * 5 * (r.u P0D01_N_BRP * (1 + r.u P0D01_N_TSEG1 + r.u P0D01_N_TSEG2))

/-- CAN_RECOVERY_DONE (R339): both counters 0, ACTIVE; pending frames are offered again. -/
def canRecoveryDoneAt (c : Nat) (d : Dev) : Dev :=
  if canState c d = 5 ∧ recoveryEdges c d ≤ since (canX c d).offEdge d then
    d |> canMod c (fun x => { x with tec := 0, rec_ := 0 }) |> showCounters c |> setCanState c 2
      |> clearFault 0x0D01 c |> clearFault 0x0D02 c
  else d

def execCanRecoveryDone (dt ctrl : Nat) (s : State) : Host.Outcome State Fault Refusal :=
  onDev dt (canRecoveryDoneAt ctrl) s

/-- The controllers at the end of start-up step 5 (R339): INTEGRATING, their pairs' timers started. -/
def canStart (d : Dev) : Dev :=
  forL (recsOf 0x0D01 d) (fun r d =>
    let c := r.u P0D01_CONTROLLER
    d |> canMod c (fun _ => { lastAt := (List.range 64).map fun p => (p, edge d) })
      |> put CAN_STATUS_DEFINED 0 (setBit (get CAN_STATUS_DEFINED 0 d) c true)
      |> put CAN_C_TDC_TDCO c (r.u P0D01_TDCO) |> setCanState c 1) d

end Sys2Proof.Machine
end

