-- ==== Sys2Proof/Machine/Mailbox.lean ====
section
/-! DEFINITION. The mailboxes of host variables (R229) and of hank requests (R265, R266), and the Shuttle's variable and instance
records (R251, R252). -/

namespace Sys2Proof.Machine

/-- A variable record entry. -/
structure VarDef where
  id : Nat
  typ : Nat
  flags : Nat
  owner : Nat
  addr : Nat
  index : Nat
  init : Nat
  deriving DecidableEq, Repr

/-- The variables of an image. -/
def varDefs (m : Img) : List VarDef :=
  (m.all 0x0903).flatMap fun r => (List.range (r.uAt 0 2)).map fun i =>
    ⟨r.u P0903_VAR_ID i, r.u P0903_TYPE i, r.u P0903_FLAGS i, r.u P0903_OWNER i, r.u P0903_ADDRESS i,
      r.u P0903_STRAND_INDEX i, r.u P0903_INIT i⟩

/-- The instances of an image; `index` is the MEASURE. -/
def insDefs (m : Img) : List VarDef :=
  (m.all 0x0904).flatMap fun r => (List.range (r.uAt 0 2)).map fun i =>
    ⟨r.u P0904_INSTANCE_ID i, r.u P0904_TYPE i, r.u P0904_FLAGS i, r.u P0904_OWNER i, r.u P0904_ADDRESS i,
      r.u P0904_MEASURE i, r.u P0904_INIT i⟩

/-- The retained entries of an image (R231), variables first. -/
def retainedDefs (m : Img) : List VarDef := (varDefs m ++ insDefs m).filter fun v => bit v.flags 0

/-- Words of an entry (R232, R241 to R243). -/
def VarDef.words (v : VarDef) : Nat :=
  if v.typ = 5 then 2 else if 0x11 ≤ v.typ ∧ v.typ ≤ 0x13 then 8 else if 0x14 ≤ v.typ then 4 else 1

/-- The task runs the new image (R247). -/
def taskSwitched (t : Nat) (d : Dev) : Bool := d.switched.contains (0x13 * 65536 + t)

/-- The host variable of an identifier, in the image that its owner task runs (R229, R247). -/
def hostVar (vid : Nat) (d : Dev) : Option VarDef :=
  let seek (m : Option Img) (new : Bool) : Option VarDef :=
    m.bind fun m => (varDefs m).find? fun v => v.id == vid && bit v.flags 1 && taskSwitched v.owner d == new
  (seek d.img false).or (seek d.next true)

/-- A write to a host variable's mailbox that a freeze takes from edge `e` on (R229, R17). -/
def hvarPost (vid value e : Nat) (d : Dev) : Dev :=
  match hostVar vid d with
  | none => d
  | some v =>
    let d := if d.shu.hbox.any (·.1 == vid) then stick SHU_TASK_STATE_HVAR_OVW v.owner 0x0905 v.owner d else d
    { d with shu := { d.shu with hbox := d.shu.hbox.put vid (e, value) } }

/-- A hank request of 16 bytes (R265). -/
def hankReqOf (bs : List Nat) : HankReq :=
  ⟨leVal (bs.take 2), bs.getD 2 0, leVal ((bs.drop 4).take 2), leVal ((bs.drop 6).take 2), leVal ((bs.drop 8).take 4)⟩

/-- A request written to a hank's mailbox, taken from edge `e` on (R266). -/
def postHank (h : Nat) (host : Bool) (q : HankReq) (e : Nat) (d : Dev) : Dev :=
  if q.seq = 0 ∨ ¬ (recAt 0x0A01 P0A01_HANK h d).isSome then d
  else
    let x := d.hanks.get {} h
    let d := if (if host then x.boxH else x.boxS).isSome then stick HANK_H_FLAGS_REQ_OVW h 0x0A05 h d else d
    let x := d.hanks.get {} h
    { d with hanks := d.hanks.put h (if host then { x with boxH := some (e, q) } else { x with boxS := some (e, q) }) }

/-- General I/O strands that plies launched with a sample group read, by an image's records: they go with the group's item (R20; log entry
89). -/
def pinsRead (m : Img) (g : Nat) : List Nat :=
  let entry (e : Nat) : List Nat :=
    if e < 0x8000 then [e]
    else match m.find 0x0704 P0704_AXIS (e % 16) with
      | some q => [q.u P0704_D_PLY, q.u P0704_Q_PLY]
      | none => []
  let plies := ((m.all 0x0502).filter fun r => r.u P0502_TRIGGER == 1 && r.u P0502_SAMPLE_GROUP == g).flatMap fun r =>
    (List.range (r.u P0502_COUNT)).flatMap fun i => entry (r.u P0502_ENTRY i)
  let reads (p : Nat) : List Nat := match m.find 0x0501 P0501_PLY p with
    | none => []
    | some r => [r.u P0501_FB_STRAND] ++ (if r.u P0501_SP_SOURCE = 4 then [r.u P0501_SP_STRAND] else []) ++
        (if r.b P0501_FLAGS 0 then [r.u P0501_FF_STRAND] else [])
  let all := plies.flatMap reads
  (List.range 32).filter fun k => all.contains (0x01000 + k)

end Sys2Proof.Machine
end

