-- ==== Sys2Proof/Machine/Check.lean ====
section
/-! DEFINITION. The loader's check of each record's fields (R27, R509, R510 and each chapter's record
rules), which rejects a copy with 0x0207. One definition for each record TYPE. -/

namespace Sys2Proof.Machine

/-! The form of a field check. -/

/-- Bytes `off .. off + n - 1` are zero. -/
def zeroAt (r : Rec) (off n : Nat) : Bool := (r.bytes off n).all (· == 0)

/-- A field of entry `i` lies between two bounds. -/
def rng (r : Rec) (f : PF) (lo hi : Nat) (i : Nat := 0) : Bool :=
  decide (lo ≤ r.u f i) && decide (r.u f i ≤ hi)

/-- A signed field lies between two bounds. -/
def rngS (r : Rec) (f : PF) (lo hi : Int) (i : Nat := 0) : Bool :=
  decide (lo ≤ r.s f i) && decide (r.s f i ≤ hi)

/-- A field that the settings use lies in its range, an unused one holds 0 (R509). -/
def usedIf (c : Bool) (r : Rec) (f : PF) (lo hi : Nat) (i : Nat := 0) : Bool :=
  if c then rng r f lo hi i else r.u f i == 0

/-- As `usedIf`, with another value for an unused field. -/
def usedOr (c : Bool) (other : Nat) (r : Rec) (f : PF) (lo hi : Nat) (i : Nat := 0) : Bool :=
  if c then rng r f lo hi i else r.u f i == other

/-- In range, or 0 for the default where 0 lies outside the range (R510). -/
def rng0 (r : Rec) (f : PF) (lo hi : Nat) : Bool := r.u f == 0 || rng r f lo hi

/-- The payload has exactly `n` bytes. -/
def lenIs (r : Rec) (n : Nat) : Bool := r.pay.length == n

/-- The payload has exactly `n` bytes but for zero bytes behind them. -/
def lenMin (r : Rec) (n : Nat) : Bool := decide (n ≤ r.pay.length)

/-- A check over the first `n` numbers. -/
def allN (n : Nat) (p : Nat → Bool) : Bool := (List.range n).all p

/-- No number stands twice. -/
def distinct (l : List Nat) : Bool := decide l.Nodup

/-- A strand ID names a block of the code table (R1, R3). -/
def strandOk (id : Nat) : Bool := decide (id < 0x100000) && decide (id / 4096 ≤ 0x14)

/-- The entries of every pick record (R82), as record and entry number. -/
def pickEntries (m : Img) : List (Rec × Nat) :=
  (m.all 0x0303).flatMap fun r => (List.range (r.u P0303_COUNT)).map fun i => (r, i)

/-- The entry that defines a pick, in a pick record. -/
def pickEntry (m : Img) (p : Nat) : Option (Rec × Nat) :=
  (pickEntries m).find? fun e => e.1.u P0303_PICK e.2 == p

/-- The pick is defined by a pick record or a cycle-hook record (R79). -/
def pickDefined (m : Img) (p : Nat) : Bool :=
  (pickEntry m p).isSome || (m.all 0x0B04).any fun r => r.u P0B04_PICK == p

/-- The pick's entry satisfies `c`; a pick of a cycle hook does not. -/
def pickIs (m : Img) (p : Nat) (c : Rec → Nat → Bool) : Bool :=
  match pickEntry m p with
  | some (r, i) => c r i
  | none => false

/-- The pick is on a time measure. -/
def onTime (m : Img) (p : Nat) : Bool :=
  pickIs m p fun r i => match m.find 0x0302 P0302_MEASURE (r.u P0303_MEASURE i) with
    | some q => q.u P0302_KIND == 1
    | none => false

/-- The general I/O entry of a pin (R497): its FLAGS. -/
def gpioEntry (m : Img) (pin : Nat) : Option Nat :=
  (m.one 0x0101).bind fun r => ((List.range (r.uAt 0 2)).find? fun i =>
    r.u P0101_PIN i == pin).map fun i => r.u P0101_FLAGS i

/-- The pin is an output with the PICK flag. -/
def gpioPick (m : Img) (pin : Nat) : Bool := ((gpioEntry m pin).map fun f => bit f 2).getD false

/-! Who writes which transmit word (R286). -/

/-- Transmit words that a record writes (R286): task outputs of KIND 1, axes of KIND 2 to 4, and entries of the transmit map. -/
def weftWords (r : Rec) : List Nat :=
  if r.typ = 0x0902 then
    ((List.range (r.u P0902_OUT_COUNT)).filter fun j => r.uAt (22 + 8 * r.u P0902_IN_COUNT + 12 * j) 1 == 1).map fun j =>
      r.uAt (24 + 8 * r.u P0902_IN_COUNT + 12 * j) 2
  else if r.typ = 0x0601 then
    if r.u P0601_KIND = 2 then [r.u P0601_TX_WORD, r.u P0601_TX_WORD + 1]
    else if r.u P0601_KIND = 1 then [] else [r.u P0601_TX_WORD]
  else if r.typ = 0x0B03 then
    ((List.range (r.uAt 0 2)).filter fun i => bit (r.u P0B03_FLAGS i) 1).map fun i => r.u P0B03_WORD i
  else []

/-- The word lies in a slot of this node, below its WORDS (R286). -/
def ownWord (m : Img) (w : Nat) : Bool :=
  match m.one 0x0B01, m.one 0x0B02 with
  | some nd, some sc => decide (w / 64 < sc.u P0B02_SLOTS) && sc.u P0B02_OWNER (w / 64) == nd.u P0B01_NODE_ID &&
      decide (w % 64 < sc.u P0B02_WORDS (w / 64))
  | _, _ => false

/-- What R286 asks of a record's words. -/
def wordsOk (m : Img) (r : Rec) : Bool := (weftWords r).all (ownWord m) && distinct (weftWords r)


/-! General I/O and patches (R497, R38). -/

/-- General I/O record, type 0x0101 (R497). -/
def check0101 (_ : Img) (r : Rec) : Bool :=
  let n := r.uAt 0 2
  decide (1 ≤ n ∧ n ≤ 32) && zeroAt r 2 2 && lenIs r (4 + 4 * n) &&
  (allN n fun i => rng r P0101_PIN 0 31 i && rng r P0101_FLAGS 0 7 i && zeroAt r (6 + 4 * i) 2) &&
  distinct ((List.range n).map fun i => r.u P0101_PIN i)

/-- Patch record, type 0x0211, but for its BASE_BUILD (R38). Which vectors a build defines is
Koresque's own (`Config.patchVectors`). -/
def check0211 (m : Img) (r : Rec) : Bool :=
  let v := r.u P0211_VECTORS
  let n := r.u P0211_CODE_LENGTH
  let off := r.u P0211_LOAD_OFFSET
  decide (1 ≤ r.u P0211_PATCH_ID) && rng r P0211_VECTORS 1 256 && zeroAt r 6 2 &&
  decide (4 ≤ n ∧ n ≤ 262144 ∧ n % 4 = 0 ∧ off % 4 = 0 ∧ off + n ≤ 262144) && lenIs r (16 + 8 * v + n) &&
  (allN v fun i => decide (r.u P0211_VECTOR i < Config.patchVectors (r.u P0211_BASE_BUILD)) &&
    zeroAt r (18 + 8 * i) 2 && decide (r.u P0211_TARGET i < n)) &&
  ((m.all 0x0211).all fun q => q.idx == r.idx || (q.u P0211_PATCH_ID != r.u P0211_PATCH_ID &&
    (decide (q.u P0211_LOAD_OFFSET + q.u P0211_CODE_LENGTH ≤ off) || decide (off + n ≤ q.u P0211_LOAD_OFFSET))))

/-! The Reel (R79 to R83). -/

/-- Loom-time record, type 0x0301 (R80). -/
def check0301 (_ : Img) (r : Rec) : Bool :=
  lenIs r 16 && rng r P0301_SOURCE 0 1 && zeroAt r 1 3 && rng0 r P0301_STEER_LIMIT 1000 100000 &&
  rng0 r P0301_LOCK_THRESHOLD 20 1000 && zeroAt r 12 4

/-- The class, index and definedness of a measure's source (R81). -/
def measSourceOk (m : Img) (r : Rec) : Bool :=
  let k := r.u P0302_SOURCE_INDEX
  match r.u P0302_SOURCE with
  | 1 => k == 0
  | 2 => k == 0
  | 3 => decide (k < 32) && (gpioEntry m k).isNone
  | 4 => decide (k / 4096 = 0x0E ∧ k % 4096 < 8) && (m.find 0x0E01 P0E01_PORT (k % 4096)).isSome
  | 5 => decide (k < 64) && (m.find 0x0601 P0601_AXIS k).isSome
  | 6 => decide (k < 24) && (m.find 0x0801 P0801_IFACE k).isSome
  | 7 => decide (k < 24) && 
      (match m.find 0x0801 P0801_IFACE k with | some q => q.u P0801_MODE == 3 | none => false)
  | _ => false

/-- Measure record, type 0x0302 (R81, R63). -/
def check0302 (m : Img) (r : Rec) : Bool :=
  let src := r.u P0302_SOURCE
  let cpr := r.u P0302_COUNTS_PER_REV
  let kind := if src ≤ 2 then 1 else if src ≤ 4 then 2 else if src = 7 then 3 else if cpr = 0 then 3 else 2
  let fb1 := src == 5 && (match m.find 0x0601 P0601_AXIS (r.u P0302_SOURCE_INDEX) with
    | some q => q.u P0601_FB_SOURCE == 1 | none => false)
  lenIs r 48 && rng r P0302_MEASURE 0 15 && rng r P0302_SOURCE 1 7 && r.u P0302_KIND == kind &&
  rng r P0302_FLAGS 0 3 && (decide (3 ≤ src) || !r.b P0302_FLAGS 0) && (src == 3 || !r.b P0302_FLAGS 1) &&
  measSourceOk m r && (src == 5 || src == 6 || cpr == 0) &&
  usedIf ((src == 5 && !fb1) || src == 6) r P0302_SAMPLE_PERIOD 1000 1000000 &&
  (kind == 2 || r.u P0302_PHASE_OFFSET == 0) &&
  (decide (0 ≤ r.s P0302_RATE_MIN ∧ r.s P0302_RATE_MIN < r.s P0302_RATE_MAX) ||
    (decide (src ≤ 2) && r.u P0302_RATE_MIN == 0 && r.u P0302_RATE_MAX == 0)) &&
  (rng r P0302_LOST_TIMEOUT 10 1000000 || (decide (src ≤ 2) && r.u P0302_LOST_TIMEOUT == 0)) &&
  (decide (5 ≤ src) || r.u P0302_EDGE_ERROR == 0) && (src == 3 || src == 4 || r.u P0302_STAMP_UNCERT == 0) &&
  zeroAt r 44 4

/-- A record names sample group `g` (R176): a channel, a loop port, an SSI interface, or a ply group that the group launches. -/
def sampleNamed (m : Img) (g : Nat) : Bool :=
  (m.all 0x0702).any (fun r => r.u P0702_SAMPLE_GROUP == g) || (m.all 0x0E01).any (fun r => r.u P0E01_SAMPLE_GROUP == g) ||
  (m.all 0x0801).any (fun r => r.u P0801_MODE == 3 && r.u P0801_SAMPLE_GROUP == g) ||
  (m.all 0x0502).any (fun r => r.u P0502_TRIGGER == 1 && r.u P0502_SAMPLE_GROUP == g)

/-- The operand of a pick's action names a defined object (R68, R497). -/
def pickOperandOk (m : Img) (act op : Nat) : Bool :=
  match act with
  | 0 => op == 0
  | 1 => decide (op < 64) && sampleNamed m op
  | 2 => decide (op < 8) && (m.find 0x0703 P0703_GROUP op).isSome
  | 3 => if op < 32 then (match m.find 0x0705 P0705_OUTPUT op with
      | some q => q.u P0705_MODE == 2 || q.u P0705_MODE == 4 | none => false) else decide (op < 64) && gpioPick m (op - 32)
  | 4 => if op < 32 then (match m.find 0x0705 P0705_OUTPUT op with
      | some q => q.u P0705_MODE == 2 || q.u P0705_MODE == 4 | none => false) else decide (op < 64) && gpioPick m (op - 32)
  | 5 => decide (op < 256)
  | 6 => decide (op < 8) && (m.find 0x0902 P0902_TASK op).isSome
  | 7 => (m.find 0x1003 P1003_STREAM (op % 16)).isSome
  | 8 => decide (op < 128 ∧ bits op 5 2 < 3) && gpioPick m (op % 32)
  | 9 => decide (op < 256) && (m.find 0x0502 P0502_GROUP op).isSome
  | 10 => decide (op < 32) && (m.find 0x0A01 P0A01_HANK op).isSome
  | _ => false

/-- A thread that a thread record defines (R100). -/
def threadDefined (m : Img) (t : Nat) : Bool :=
  decide (t < 8) || (m.all 0x0402).any fun r => (List.range (r.uAt 0 2)).any fun i => r.u P0402_THREAD i == t

/-- Pick record, type 0x0303 (R82, R66, R70). -/
def check0303 (m : Img) (r : Rec) : Bool :=
  let n := r.u P0303_COUNT
  decide (1 ≤ n ∧ n ≤ 1024) && zeroAt r 2 2 && lenIs r (4 + 32 * n) &&
  (allN n fun i =>
    let fl := r.u P0303_FLAGS i
    rng r P0303_PICK 0 1023 i && (m.find 0x0302 P0302_MEASURE (r.u P0303_MEASURE i)).isSome &&
    decide (1 ≤ fl % 4 ∧ fl < 64) && rng r P0303_ACTION 0 10 i && decide (r.u P0303_OPERAND i < 4096) &&
    pickOperandOk m (r.u P0303_ACTION i) (r.u P0303_OPERAND i) &&
    (r.u P0303_ACTION i != 5 || threadDefined m (r.u P0303_OPERAND i)) &&
    (if bit fl 4 then threadDefined m (r.u P0303_WAKE_THREAD i) else r.u P0303_WAKE_THREAD i == 0) &&
    (r.u P0303_INTERVAL i == 0 || fl % 4 != 3) && zeroAt r (24 + 32 * i) 8) &&
  (allN n fun i => ((pickEntries m).filter fun e => e.1.u P0303_PICK e.2 == r.u P0303_PICK i).length == 1)

/-- Trim record, type 0x0304 (R83). A channel that it lists twice is refused: the rule does not say what holds then (DESIGN CHOICE, log entry 25). -/
def check0304 (_ : Img) (r : Rec) : Bool :=
  let n := r.uAt 0 2
  decide (1 ≤ n ∧ n ≤ 160) && zeroAt r 2 2 && lenIs r (4 + 4 * n) &&
  (allN n fun i => decide (r.uAt (4 + 4 * i) 1 < 160) && zeroAt r (5 + 4 * i) 1) &&
  distinct ((List.range n).map fun i => r.uAt (4 + 4 * i) 1)

/-! Threads (R86, R87, R100). -/

/-- Creel record, type 0x0401 (R100). -/
def check0401 (m : Img) (r : Rec) : Bool :=
  let on := r.u P0401_TICK1_ENABLE
  lenIs r 12 && rng r P0401_TICK0_MEASURE 0 15 && (match m.find 0x0302 P0302_MEASURE (r.u P0401_TICK0_MEASURE) with
    | some q => q.u P0302_KIND == 1
    | none => true) && decide (on ≤ 1) &&
  (if on = 1 then pickIs m (r.u P0401_TICK1_PICK) fun q i => q.u P0303_ACTION i == 0 && !bit (q.u P0303_FLAGS i) 4
   else r.u P0401_TICK1_PICK == 0) &&
  rng0 r P0401_TICK0_PERIOD 1000 1000000 && rng0 r P0401_SERVICE_SHARE 5 50 && zeroAt r 9 3

/-- The sequencers that a thread record gives a hank. -/
def sequencersOf (r : Rec) (h : Nat) : List Nat :=
  ((List.range (r.uAt 0 2)).filter fun i => r.u P0402_ROLE i == 1 && r.u P0402_ROLE_INDEX i == h).map fun i => r.u P0402_THREAD i

/-- Thread record, type 0x0402 (R87, R100). -/
def check0402 (m : Img) (r : Rec) : Bool :=
  let n := r.uAt 0 2
  let role2 := ((List.range n).filter fun i => r.u P0402_ROLE i == 2).length
  decide (1 ≤ n ∧ n ≤ 248) && zeroAt r 2 2 && lenIs r (4 + 16 * n) && distinct ((List.range n).map fun i => r.u P0402_THREAD i) &&
  (allN n fun i =>
    let one := r.u P0402_ROLE i == 1
    let h := r.u P0402_ROLE_INDEX i
    rng r P0402_THREAD 8 255 i && rng r P0402_ROLE 1 2 i && rng r P0402_AFFINITY 1 15 i && zeroAt r (9 + 16 * i) 3 &&
    (if one then (m.find 0x0A01 P0A01_HANK h).isSome && rng r P0402_PRIORITY 4 15 i && rng r P0402_MAX_RUN 10 10000 i
     else h == 0 && rng r P0402_PRIORITY 17 27 i && rng r P0402_MAX_RUN 0 10000 i) &&
    (r.u P0402_SLICE i == 0 || rng r P0402_SLICE 50 10000 i)) &&
  decide (1 ≤ role2 ∧ role2 ≤ 16) &&
  ((m.all 0x0A01).all fun q => (sequencersOf r (q.u P0A01_HANK)).length == 1)

/-! Plies (R132 to R135, R104, R105, R107, R124). -/

/-- Cycles that one ply costs (R107). -/
def plyCost (r : Rec) : Nat :=
  (if r.u P0501_CLASS = 1 then (if r.u P0501_SIZE = 2 then 32 else 40) else 16 + 8 * r.u P0501_SIZE) +
    (if r.u P0501_SP_SOURCE = 1 then 8 else 0)

/-- The axis that names a ply among its four (R138). -/
def axisNaming (m : Img) (p : Nat) : Option Nat :=
  ((m.all 0x0601).find? fun r => p != 0xFFFF && (r.u P0601_VFB_PLY == p || r.u P0601_POS_PLY == p ||
    r.u P0601_FILTER_PLY == p || r.u P0601_VEL_PLY == p)).map (·.u P0601_AXIS)

/-- The entries of a group record. -/
def entriesOf (r : Rec) : List Nat := (List.range (r.u P0502_COUNT)).map fun i => r.u P0502_ENTRY i

/-- The numbers of a list without repeats. -/
def dedup : List Nat → List Nat
  | [] => []
  | x :: xs => x :: (dedup xs).filter (· != x)

/-- Cycles of one entry without the axis hand-over. -/
def entryCost (m : Img) (e : Nat) : Nat :=
  if 0x8000 ≤ e then 232 else ((m.find 0x0501 P0501_PLY e).map plyCost).getD 0

/-- Cycles from the launch to the end of the last of the entries `es` (R107), without the twin compare. -/
def costOf (m : Img) (es : List Nat) : Nat :=
  16 + 64 * (dedup (es.filterMap (axisNaming m))).length + (es.map (entryCost m)).foldl (· + ·) 0

/-- A group's cost on each of its engines (R107). -/
def grpCost (m : Img) (r : Rec) : Nat :=
  costOf m (entriesOf r) + (if r.u P0502_TWIN_ENGINE = 0xFF then 0 else 4)

/-- A group's share of an engine, per R108, times 10^9. -/
def grpShare (m : Img) (r : Rec) : Nat := grpCost m r * 2500000000 / r.u P0502_MIN_PERIOD

/-- The load of logical engine `e` under R108, exactly. -/
def engLoad (m : Img) (e : Nat) : Rat :=
  ((m.all 0x0502).filter fun r => r.u P0502_ENGINE == e || r.u P0502_TWIN_ENGINE == e).foldl
    (fun s r => s + (grpCost m r : Rat) / ((2 : Rat) / 5 * r.u P0502_MIN_PERIOD)) 0

/-- The plies that an entry evaluates. -/
def entryPlies (m : Img) (e : Nat) : List Nat :=
  if 0x8000 ≤ e then (match m.find 0x0704 P0704_AXIS (e % 16) with
    | some q => [q.u P0704_D_PLY, q.u P0704_Q_PLY]
    | none => [])
  else [e]

/-- The groups that hold a ply, each as often as it does (R104). -/
def groupsOfPly (m : Img) (p : Nat) : List Rec :=
  (m.all 0x0502).flatMap fun r => (entriesOf r).flatMap fun e => ((entryPlies m e).filter (· == p)).map fun _ => r

/-- The ply's DEADLINE lies between its finish time and its group's MIN_PERIOD (R133, R125). -/
def deadlineOk (m : Img) (r g : Rec) : Bool :=
  let p := r.u P0501_PLY
  let es := entriesOf g
  let upTo := es.take ((es.findIdx fun e => (entryPlies m e).contains p) + 1)
  let fin := if g.u P0502_TWIN_ENGINE = 0xFF then costOf m upTo else grpCost m g
  decide (5 * fin ≤ 2 * r.u P0501_DEADLINE ∧ r.u P0501_DEADLINE ≤ g.u P0502_MIN_PERIOD)

/-- Ply record, type 0x0501 (R133, R119, R120, R104). -/
def check0501 (m : Img) (r : Rec) : Bool :=
  let a := r.u P0501_CLASS == 1
  let n := r.u P0501_SIZE
  let src := r.u P0501_SP_SOURCE
  let sp := r.u P0501_SP_STRAND
  let ff := r.b P0501_FLAGS 0
  let lo := r.s P0501_OUT_MIN
  let hi := r.s P0501_OUT_MAX
  let inOut (f : PF) : Bool := decide (lo ≤ r.s f ∧ r.s f ≤ hi)
  rng r P0501_PLY 0 1023 && rng r P0501_CLASS 1 2 && (if a then rng r P0501_SIZE 2 3 else rng r P0501_SIZE 1 8) &&
  (if a then r.u P0501_MODE == 0 else rng r P0501_MODE 0 1) && rng r P0501_SP_SOURCE 0 5 && rng r P0501_FLAGS 0 15 &&
  (a || !ff) && (!a || !r.b P0501_FLAGS 1) && strandOk (r.u P0501_FB_STRAND) &&
  (if src = 4 then sp / 4096 == 5 && decide (sp % 4096 < 1024) else if src = 2 ∨ src = 3 then strandOk sp else sp == 0) &&
  (if ff then strandOk (r.u P0501_FF_STRAND) else r.u P0501_FF_STRAND == 0 && r.u P0501_FF_GAIN == 0) &&
  (src == 2 || src == 3 || src == 4 || r.u P0501_SP_GAIN == 0) &&
  ((src != 5 && !(src == 1 && r.b P0501_FLAGS 2)) || r.u P0501_SP_OFFSET == 0) &&
  (if src = 3 then rng r P0501_SP_SHIFT 0 31 else r.u P0501_SP_SHIFT == 0) && zeroAt r 30 2 &&
  decide (lo < hi) && inOut P0501_INIT_OUT && inOut P0501_STOP_OUT &&
  (if src = 1 then r.u P0501_V_MAX != 0 && r.u P0501_A_MAX != 0 && r.u P0501_J_MAX != 0
   else zeroAt r 56 24) && (!a || zeroAt r 80 8) && lenIs r (88 + 4 * (if a then 2 * n + 1 else 5 * n)) &&
  (match groupsOfPly m (r.u P0501_PLY) with
   | [g] => deadlineOk m r g
   | _ => false) &&
  ((m.all 0x0501).all fun q => q.idx == r.idx || q.u P0501_PLY != r.u P0501_PLY)

/-- A pick with the action and operand is defined. -/
def pickWith (m : Img) (act op : Nat) : Bool :=
  (pickEntries m).any fun e => e.1.u P0303_ACTION e.2 == act && e.1.u P0303_OPERAND e.2 == op

/-- Ply group record, type 0x0502 (R134, R104, R105, R124). -/
def check0502 (m : Img) (r : Rec) : Bool :=
  let es := entriesOf r
  let cur := es.any fun e => 0x8000 ≤ e
  let t := r.u P0502_TWIN_ENGINE
  rng r P0502_ENGINE 0 7 && rng r P0502_PRIORITY 0 15 && rng r P0502_TRIGGER 0 1 && rng r P0502_COUNT 1 128 &&
  rng r P0502_MIN_PERIOD 10000 1000000000 && decide (r.u P0502_MIN_PERIOD ≤ r.u P0502_NOMINAL_PERIOD) &&
  lenIs r (16 + 2 * r.u P0502_COUNT) &&
  (if cur then es.all (fun e => 0x8000 ≤ e) && decide (t < 8) && t != r.u P0502_ENGINE else t == 0xFF) &&
  (es.all fun e => if 0x8000 ≤ e then decide (e < 0x8010) && (m.find 0x0704 P0704_AXIS (e % 16)).isSome
    else decide (e < 1024) && (m.find 0x0501 P0501_PLY e).isSome) &&
  (if r.u P0502_TRIGGER = 0 then r.u P0502_SAMPLE_GROUP == 0 && pickWith m 9 (r.u P0502_GROUP)
   else rng r P0502_SAMPLE_GROUP 0 63 && pickWith m 1 (r.u P0502_SAMPLE_GROUP)) &&
  ((m.all 0x0502).all fun q => q.idx == r.idx || q.u P0502_GROUP != r.u P0502_GROUP)

/-- Trace buffer record, type 0x0503 (R135, R129). The engine that a buffer belongs to is its group's ENGINE, not the TWIN_ENGINE
(DESIGN CHOICE, log entry 67). -/
def check0503 (m : Img) (r : Rec) : Bool :=
  let n := r.u P0503_NODES
  let rows := r.u P0503_SIZE / (8 + 4 * n)
  let fl := r.u P0503_TRIG_KIND == 5
  let total := ((m.all 0x0503).map fun q => q.u P0503_SIZE).sum
  let plies := (List.range n).map fun i => r.u P0503_NODE i % 1024
  rng r P0503_BUFFER 0 7 && rng r P0503_ENGINE 0 7 && rng r P0503_NODES 1 64 && rng r P0503_TRIG_KIND 0 5 &&
  decide (r.u P0503_TRIG_NODE < n) && rng r P0503_FLAGS 0 7 && (fl || r.u P0503_TRIG_MASK == 0) &&
  (r.u P0503_TRIG_KIND != 0 || r.u P0503_TRIG_NODE == 0) && ((r.u P0503_TRIG_KIND != 0 && !fl) || r.u P0503_THRESHOLD == 0) &&
  rng r P0503_SIZE 4096 1048576 && r.u P0503_SIZE % 4096 == 0 && decide (total ≤ 1048576) &&
  decide (r.u P0503_PRE + 1 ≤ rows) && decide (1 ≤ r.u P0503_POST ∧ r.u P0503_POST ≤ rows - r.u P0503_PRE) &&
  rng r P0503_DECIM 1 256 && lenIs r (28 + 4 * n) &&
  (allN n fun i =>
    let w := r.u P0503_NODE i
    bits w 10 6 == 0 && decide (bits w 16 8 ≤ 9 ∧ w < 2 ^ 27) && (bits w 16 8 == 4 || bits w 24 3 == 0)) &&
  ((m.all 0x0502).any fun g => g.u P0502_ENGINE == r.u P0503_ENGINE &&
    plies.all fun p => (groupsOfPly m p).any fun q => q.idx == g.idx) &&
  ((m.all 0x0503).all fun q => q.idx == r.idx || q.u P0503_BUFFER != r.u P0503_BUFFER)

/-! Motion (R170, R171, R138, R140, R143, R157, R163, R165). -/

/-- The four plies of an axis record with the class and mode that R138 gives each. -/
def axisPlySlots (r : Rec) : List (Nat × Nat × Nat) :=
  ([(r.u P0601_VFB_PLY, 2, 1), (r.u P0601_POS_PLY, 1, 0), (r.u P0601_FILTER_PLY, 2, 1), (r.u P0601_VEL_PLY, 1, 0)]).filter
    fun t => t.1 != 0xFFFF

/-- The plies stand in the group in the order of R138. -/
def inOrder (es : List Nat) : List Nat → Bool
  | p :: q :: l => decide (es.findIdx (· == p) < es.findIdx (· == q)) && inOrder es (q :: l)
  | _ => true

/-- The plies of an axis (R138, R140). -/
def axisPliesOk (m : Img) (r : Rec) : Bool :=
  let kind := r.u P0601_KIND
  let slots := axisPlySlots r
  let has (f : PF) : Bool := r.u f != 0xFFFF
  if kind = 2 then slots == [] && r.u P0601_PLY_GROUP == 0xFF
  else
    has P0601_POS_PLY && (if kind = 3 then !has P0601_VEL_PLY && !has P0601_VFB_PLY else has P0601_VEL_PLY) &&
    (match m.find 0x0502 P0502_GROUP (r.u P0601_PLY_GROUP) with
     | some g => (slots.all fun s => (entriesOf g).contains s.1) && inOrder (entriesOf g) (slots.map (·.1))
     | none => false) &&
    (slots.all fun s => match m.find 0x0501 P0501_PLY s.1 with
      | some q => q.u P0501_CLASS == s.2.1 && q.u P0501_MODE == s.2.2 && (s.2.1 == 2 || q.u P0501_SP_SOURCE == 5)
      | none => false) &&
    (kind == 3 || (match m.find 0x0501 P0501_PLY (r.u P0601_VEL_PLY) with
      | some q => q.b P0501_FLAGS 0 && q.u P0501_FF_STRAND == 0x06000 + 64 * 7 + r.u P0601_AXIS
      | none => false)) &&
    ((m.find 0x0501 P0501_PLY (r.u P0601_POS_PLY)).map (·.u P0501_FB_STRAND)) == some (0x06040 + r.u P0601_AXIS)

/-- SERVO_PICK lies on a time measure with one of four INTERVALs, and launches the axis's group (R143). -/
def servoOk (m : Img) (r : Rec) : Bool :=
  let p := r.u P0601_SERVO_PICK
  onTime m p && pickIs m p fun q i =>
    let n := q.u P0303_INTERVAL i
    [12500, 25000, 50000, 100000].contains n &&
    (r.u P0601_KIND == 2 || (q.u P0303_ACTION i == 9 && q.u P0303_OPERAND i == r.u P0601_PLY_GROUP &&
      (match m.find 0x0502 P0502_GROUP (r.u P0601_PLY_GROUP) with
       | some g => 2 * g.u P0502_MIN_PERIOD == 5 * n && 2 * g.u P0502_NOMINAL_PERIOD == 5 * n
       | none => false)))

/-- A general I/O output that a writer may name: it has an entry (R497). A writer on a pin with PICK is a conflict of claims (R30). -/
def gpioWriter (m : Img) (pin : Nat) : Bool := (gpioEntry m pin).isSome

/-- Axis record, type 0x0601 (R170). -/
def check0601 (m : Img) (r : Rec) : Bool :=
  let kind := r.u P0601_KIND
  let src := r.u P0601_FB_SOURCE
  let fb := m.find 0x0801 P0801_IFACE (r.u P0601_FB_INDEX)
  let mode := (fb.map (·.u P0801_MODE)).getD 0
  let hm := r.u P0601_HOME_METHOD
  let pinOk (f : PF) : Bool := r.u f == 0xFF || decide (r.u f < 32)
  let brk := r.u P0601_BRAKE_OUT
  let off := r.b P0601_FLAGS 1
  let pos (f : PF) : Bool := decide (0 < r.s f)
  let upTo (f : PF) : Bool := decide (0 ≤ r.s f ∧ r.s f ≤ r.s P0601_V_MAX)
  let lo : Int := if off then -(2 ^ 63 : Nat) else r.s P0601_VLIM_LO
  let hi : Int := if off then (2 ^ 63 : Nat) - 1 else r.s P0601_VLIM_HI
  let limits := [r.u P0601_LIM_POS_PIN, r.u P0601_LIM_NEG_PIN]
  let shared := r.u P0601_HOME_PIN != 0xFF && limits.contains (r.u P0601_HOME_PIN)
  let usedBy (ms : List Nat) (f : PF) (ok : Bool) : Bool := if ms.contains hm then ok else r.u f == 0
  wordsOk m r && lenIs r 192 && rng r P0601_AXIS 0 63 && rng r P0601_KIND 1 4 && (kind != 1 || decide (r.u P0601_AXIS < 16)) &&
  rng r P0601_FB_SOURCE 0 1 && rng r P0601_FLAGS 0 63 &&
  (if src = 0 then fb.isSome && r.u P0601_FB_BITS == 0 else r.u P0601_FB_INDEX / 4096 == 0x0B && rng r P0601_FB_BITS 16 32) &&
  axisPliesOk m r && servoOk m r && rng r P0601_ERR_SHIFT 0 31 && rng r P0601_HOME_METHOD 0 5 &&
  pinOk P0601_LIM_POS_PIN && pinOk P0601_LIM_NEG_PIN && pinOk P0601_HOME_PIN &&
  (brk == 0xFF || decide (brk < 32) || (decide (brk < 64) && gpioWriter m (brk - 32))) && rng r P0601_POLARITY 0 15 &&
  zeroAt r 27 1 && (kind != 1 || r.u P0601_TX_WORD == 0) && rng r P0601_INPOS_TIME 0 1000000 &&
  pos P0601_VEL_FS && pos P0601_ACC_FS && pos P0601_V_MAX && pos P0601_ACC && pos P0601_DEC &&
  decide (r.s P0601_DEC ≤ r.s P0601_STOP_DEC) && upTo P0601_V_START && upTo P0601_V_STOP &&
  (if off then zeroAt r 104 16 else decide (r.s P0601_VLIM_LO < r.s P0601_VLIM_HI)) && pos P0601_FE_LIMIT &&
  pos P0601_INPOS_WINDOW && usedBy [1, 2] P0601_HOME_V1 (upTo P0601_HOME_V1) && usedBy [2, 3, 4] P0601_HOME_V2 (upTo P0601_HOME_V2) &&
  usedBy [1, 2, 3, 4, 5] P0601_HOME_POS true && usedBy [1, 2, 3, 4] P0601_HOME_MAX_DIST (pos P0601_HOME_MAX_DIST) &&
  usedBy [4] P0601_HOME_I_THRESH (pos P0601_HOME_I_THRESH) && usedBy [4] P0601_HOME_I_TIME (rng r P0601_HOME_I_TIME 0 1000000) &&
  usedBy (if r.b P0601_FLAGS 4 then [1, 2, 3, 4] else []) P0601_HOME_FINAL (decide (lo ≤ r.s P0601_HOME_FINAL ∧ r.s P0601_HOME_FINAL ≤ hi)) &&
  (!shared || r.b P0601_FLAGS 4) && (!r.b P0601_FLAGS 4 || shared || [1, 2, 3, 4].contains hm) &&
  (kind != 2 || r.u P0601_ERR_SHIFT == 0) && (kind == 1 || kind == 4 || r.u P0601_KVFF == 0) && decide (r.u P0601_LIM_CLEARANCE < 2 ^ 31) && rng r P0601_BRAKE_TIME 0 1000000 &&
  (!(hm == 2 || hm == 3) || (src == 0 && mode == 1)) && (hm != 4 || kind == 1 || kind == 4) &&
  (hm != 5 || (src == 0 && mode == 3)) && (!(hm == 1 || hm == 2) || r.u P0601_HOME_PIN != 0xFF) &&
  ((m.all 0x0601).all fun q => q.idx == r.idx || q.u P0601_AXIS != r.u P0601_AXIS)

/-- The members of a coordinated group. -/
def membersOf (r : Rec) : List Nat := (List.range (r.u P0602_COUNT)).map fun i => r.uAt (4 + i) 1

/-- Coordinated group record, type 0x0602 (R171, R157). -/
def check0602 (m : Img) (r : Rec) : Bool :=
  let n := r.u P0602_COUNT
  let mem := membersOf r
  let picks := mem.map fun a => orD (m.find 0x0601 P0601_AXIS a) P0601_SERVO_PICK 0xFFFF
  let pos (f : PF) : Bool := decide (0 < r.s f)
  lenIs r 48 && rng r P0602_GROUP 0 7 && rng r P0602_COUNT 1 6 &&
  decide (1 ≤ r.u P0602_PATH_MASK ∧ r.u P0602_PATH_MASK < 2 ^ n) && rng r P0602_LOOKAHEAD 1 16 &&
  (allN 6 fun i => decide (i < n) || r.uAt (4 + i) 1 == 0xFF) && distinct mem && zeroAt r 10 2 && zeroAt r 44 4 &&
  (mem.all fun a => match m.find 0x0601 P0601_AXIS a with | some q => q.u P0601_KIND != 2 | none => false) &&
  (picks.all fun p => p == picks.headD 0) && pos P0602_V_PATH && pos P0602_ACC && pos P0602_DEC &&
  decide (r.s P0602_DEC ≤ r.s P0602_STOP_DEC) &&
  ((m.all 0x0602).all fun q => q.idx == r.idx ||
    (q.u P0602_GROUP != r.u P0602_GROUP && (membersOf q).all fun a => !mem.contains a))

/-! Local drive (R199 to R203). -/

/-- Modulator clock record, type 0x0701 (R199). -/
def check0701 (_ : Img) (r : Rec) : Bool :=
  lenIs r 4 && rng r P0701_CLOCK 0 5 && rng r P0701_DIV 16 80 && r.u P0701_DIV % 2 == 0 && zeroAt r 2 2

/-- A local drive axis record uses a channel. -/
def sdUsed (m : Img) (c : Nat) : Bool :=
  (m.all 0x0704).any fun r => r.u P0704_SD_A == c || r.u P0704_SD_B == c || r.u P0704_SD_C == c

/-- Sigma-delta channel record, type 0x0702 (R200, R174, R177). -/
def check0702 (m : Img) (r : Rec) : Bool :=
  lenIs r 20 && rng r P0702_CHANNEL 0 47 && rng r P0702_OSR_LOG2 4 8 && rng r P0702_FLAGS 0 3 &&
  rng r P0702_SAMPLE_GROUP 0 63 && 
  (match m.find 0x0701 P0701_CLOCK (r.u P0702_CLOCK) with
   | some q => decide (r.u P0702_CAP_DELAY < q.u P0701_DIV) | none => false) &&
  decide (r.u P0702_OC_LIMIT ≤ 0x7FFFFFFF) && (r.u P0702_OC_LIMIT == 0 || sdUsed m (r.u P0702_CHANNEL)) &&
  (if r.u P0702_OC_LIMIT = 0 then rng0 r P0702_OC_OSR_LOG2 3 6 && rng0 r P0702_OC_COUNT 1 15
   else rng r P0702_OC_OSR_LOG2 3 6 && rng r P0702_OC_COUNT 1 15)

/-- PWM group record, type 0x0703 (R201, R187, R191). -/
def check0703 (m : Img) (r : Rec) : Bool :=
  let free := r.u P0703_PERIOD_STRAND != 0
  lenIs r 16 && rng r P0703_GROUP 0 7 && rng r P0703_PRESCALE 1 255 && rng r P0703_RELOAD 0 2 && rng r P0703_FLAGS 0 3 &&
  rng r P0703_DEAD_TIME 0 1023 && rng r P0703_PERIOD 2 65535 && zeroAt r 10 2 && strandOk (r.u P0703_PERIOD_STRAND) &&
  
  (if free then r.u P0703_SYNC_PICK == 0xFFFF && r.u P0703_RELOAD == 0
   else onTime m (r.u P0703_SYNC_PICK) && pickIs m (r.u P0703_SYNC_PICK) fun q i =>
     q.u P0303_INTERVAL i == 2 * r.u P0703_PERIOD * r.u P0703_PRESCALE)

/-- Local drive axis record, type 0x0704 (R202, R179). -/
def check0704 (m : Img) (r : Rec) : Bool :=
  let n := r.u P0704_AXIS
  let hall := r.b P0704_FLAGS 0
  let grp := (m.all 0x0502).find? fun q => (List.range (q.u P0502_COUNT)).any fun i => q.u P0502_ENTRY i == 0x8000 + n
  let sdOk (c : Nat) : Bool := match m.find 0x0702 P0702_CHANNEL c, grp with
    | some q, some g => q.u P0702_SAMPLE_GROUP == g.u P0502_SAMPLE_GROUP
    | _, _ => false
  let plyOk (p : Nat) (strandIdx : Nat) : Bool := match m.find 0x0501 P0501_PLY p with
    | some q => q.u P0501_CLASS == 1 && decide (2 ≤ q.u P0501_SIZE ∧ q.u P0501_SIZE ≤ 3) && q.u P0501_FB_STRAND == 0x07000 + strandIdx &&
        !((m.all 0x0502).any fun g => (List.range (g.u P0502_COUNT)).any fun i => g.u P0502_ENTRY i == p)
    | none => false
  lenIs r 32 && rng r P0704_AXIS 0 15 && rng r P0704_FLAGS 0 3 && decide (r.u P0704_POLARITY < 64) && rng r P0704_RB_SETTLE 4 255 &&
  rng r P0704_RB_FILTER 1 63 && rng r P0704_LEAD_NS 0 100000 && zeroAt r 28 4 && (!hall || r.u P0704_ELEC_PER_COUNT == 0) &&
  sdOk (r.u P0704_SD_A) && sdOk (r.u P0704_SD_B) &&
  (r.u P0704_SD_C == 0xFF || sdOk (r.u P0704_SD_C)) &&
  (match grp with | some g => g.u P0502_TWIN_ENGINE != 0xFF && g.u P0502_TRIGGER == 1 | none => false) &&
  plyOk (r.u P0704_D_PLY) (64 + n) && plyOk (r.u P0704_Q_PLY) (80 + n) &&
  (match m.find 0x0501 P0501_PLY (r.u P0704_D_PLY), m.find 0x0501 P0501_PLY (r.u P0704_Q_PLY) with
   | some a, some b => a.u P0501_DEADLINE == b.u P0501_DEADLINE && b.u P0501_SP_SOURCE == 4 &&
       b.u P0501_SP_STRAND == 0x05000 + orD (m.find 0x0601 P0601_AXIS n) P0601_VEL_PLY 0xFFFF && (a.u P0501_SP_SOURCE == 0 || a.u P0501_SP_SOURCE == 2)
   | _, _ => false) &&
  (match m.find 0x0601 P0601_AXIS n with | some q => q.u P0601_KIND == 1 | none => false) &&
  (m.find 0x0703 P0703_GROUP (n / 2)).isSome

/-- The pick has the settings of a phase output's open or close pick (R196). -/
def phasePick (m : Img) (p act out meas : Nat) (open_ : Bool) : Bool :=
  pickIs m p fun q i => q.u P0303_ACTION i == act && q.u P0303_OPERAND i == out && q.u P0303_MEASURE i == meas &&
    (!open_ || (bit (q.u P0303_FLAGS i) 2 && q.u P0303_FLAGS i % 4 == 1 && bit (q.u P0303_FLAGS i) 5 && q.u P0303_INTERVAL i == 0))

/-- Auxiliary output record, type 0x0705 (R203, R195, R196). -/
def check0705 (m : Img) (r : Rec) : Bool :=
  let mode := r.u P0705_MODE
  let j := r.u P0705_OUTPUT
  let meas := match pickEntry m (r.u P0705_OPEN_POS) with | some (q, i) => q.u P0303_MEASURE i | none => 99
  let angle := match m.find 0x0302 P0302_MEASURE meas with | some q => q.u P0302_KIND == 2 | none => false
  lenIs r 32 && rng r P0705_OUTPUT 0 31 && rng r P0705_MODE 1 4 && rng r P0705_FLAGS 0 3 && (mode == 1 || !r.b P0705_FLAGS 1) &&
  usedIf (mode == 1) r P0705_GROUP 0 7 && (mode != 1 || (m.find 0x0703 P0703_GROUP (r.u P0705_GROUP)).isSome) &&
  (if mode = 2 then r.u P0705_SOURCE_STRAND == 0 else strandOk (r.u P0705_SOURCE_STRAND)) && zeroAt r 28 4 &&
  (if mode = 4 then
    angle && phasePick m (r.u P0705_OPEN_POS) 3 j meas true && phasePick m (r.u P0705_OPEN_NEG) 3 j meas true &&
    phasePick m (r.u P0705_CLOSE_POS) 4 j meas false && phasePick m (r.u P0705_CLOSE_NEG) 4 j meas false &&
    decide (r.u P0705_ALPHA_MIN ≤ r.u P0705_ALPHA_MAX ∧ r.u P0705_ALPHA_MAX < 2 ^ 31 ∧ r.u P0705_POWER_MIN < 2 ^ 31)
   else zeroAt r 8 20)

/-! Feedback (R217). -/

/-- Feedback interface record, type 0x0801 (R217, R206). -/
def check0801 (_ : Img) (r : Rec) : Bool :=
  let mode := r.u P0801_MODE
  let qd := mode == 1
  let hl := mode == 2
  let ssi := mode == 3
  let idx := qd && r.b P0801_FLAGS 1
  let seq := r.bytes 40 6
  let n := r.u P0801_IFACE
  lenIs r 56 && decide (n < 24) && rng r P0801_MODE 1 3 && rng r P0801_FILTER_N 1 255 &&
  (!r.b P0801_FLAGS 1 || qd) && (ssi || bits (r.u P0801_FLAGS) 2 5 == 0) && usedIf qd r P0801_LINES 1 (2 ^ 24) &&
  (idx || r.u P0801_INDEX_TOL == 0) && usedIf idx r P0801_MISMATCH_LIMIT 1 15 && rng r P0801_ERR_LIMIT 1 255 &&
  (if r.u P0801_ALARM_PIN == 0xFF then !r.b P0801_FLAGS 7 else decide (r.u P0801_ALARM_PIN < 32)) &&
  (!r.b P0801_FLAGS 0 || !ssi) && (r.b P0801_FLAGS 5 || !r.b P0801_FLAGS 6) &&
  usedIf (qd || hl) r P0801_SPEED_HI 1 (2 ^ 31 - 1) &&
  (if qd || hl then decide (r.u P0801_SPEED_LO < r.u P0801_SPEED_HI) else r.u P0801_SPEED_LO == 0) &&
  usedIf (qd || hl) r P0801_WINDOW 1000 1000000 && usedIf (qd || hl) r P0801_ZERO_TIME 100 1000000 &&
  usedIf ssi r P0801_SSI_BITS 8 40 && usedIf ssi r P0801_SAMPLE_GROUP 0 63 && usedIf ssi r P0801_SSI_HALF 20 2000 &&
  (if ssi then decide (r.u P0801_SSI_DELAY < 2 * r.u P0801_SSI_HALF) else r.u P0801_SSI_DELAY == 0) &&
  usedIf ssi r P0801_MONO_US 1 100 && (ssi || r.u P0801_SSI_MAX_STEP == 0) &&
  (if hl then seq.all (fun s => decide (1 ≤ s ∧ s ≤ 6)) && distinct seq else seq.all (· == 0) && r.u P0801_HALL_OFFSET == 0) &&
  zeroAt r 46 2 && zeroAt r 52 4

/-! The Shuttle (R221, R227 to R231, R249 to R252). -/

/-- Code record, type 0x0901 (R249). -/
def check0901 (_ : Img) (r : Rec) : Bool :=
  let n := r.u P0901_COUNT
  decide (1 ≤ n ∧ n ≤ 65536) && zeroAt r 4 4 && lenIs r (8 + 4 * n)

/-- The pick starts the task: a pick record's with ACTION TASK, or a cycle hook's (R221, R302). -/
def startsTask (m : Img) (p t : Nat) : Bool :=
  (pickIs m p fun q i => q.u P0303_ACTION i == 6 && q.u P0303_OPERAND i == t) ||
  (m.all 0x0B04).any fun q => q.u P0B04_PICK == p && q.u P0B04_TASK == t

/-- A variable of a task at an address. -/
def taskVar (m : Img) (t a : Nat) : Option VarDef := (varDefs m).find? fun v => v.addr == a && v.owner == t

/-- Task record, type 0x0902 (R250, R221, R228). -/
def check0902 (m : Img) (r : Rec) : Bool :=
  let t := r.u P0902_TASK
  let ni := r.u P0902_IN_COUNT
  let no := r.u P0902_OUT_COUNT
  let b := 20 + 8 * ni
  rng r P0902_TASK 0 7 && rng r P0902_ENGINE 0 1 && rng r P0902_PRIORITY 0 7 && zeroAt r 3 1 &&
  startsTask m (r.u P0902_START_PICK) t && rng r P0902_WATCHDOG 1000 1000000000 && decide (ni ≤ 4096 ∧ no ≤ 4096) &&
  lenIs r (b + 12 * no) &&
  (allN ni fun i =>
    let src := r.u P0902_SOURCE i
    let conv := bits src 20 4
    strandOk (src % 0x100000) && decide (conv ≤ 3 ∧ src < 2 ^ 24) &&
    (match taskVar m t (r.u P0902_DEST i) with
     | some v => conv != 1 || (v.addr % 2 == 0 && v.words == 2)
     | none => false) &&
    (r.u P0902_QUAL i == 0xFFFF || (match taskVar m t (r.u P0902_QUAL i) with
     | some v => v.typ == 1
     | none => false))) &&
  (allN no fun j =>
    let o := b + 12 * j
    let fl := r.uAt (o + 6) 1
    decide (r.uAt o 2 < 32768 ∧ 1 ≤ r.uAt (o + 2) 1 ∧ r.uAt (o + 2) 1 ≤ 2 ∧ r.uAt (o + 3) 1 ≤ 2 ∧ fl ≤ 1) &&
    (r.uAt (o + 2) 1 == 1 || (decide (r.uAt (o + 4) 2 < 32) && gpioWriter m (r.uAt (o + 4) 2))) &&
    zeroAt r (o + 7) 1 && (fl == 1 || zeroAt r (o + 8) 4)) && wordsOk m r

/-- No two entries of the variable and instance records overlap, and all lie in the bank (R227, R228). -/
def apart (m : Img) (v : VarDef) : Bool :=
  decide (v.addr + v.words ≤ 32768) &&
  (((varDefs m ++ insDefs m).filter fun w => decide (v.addr < w.addr + w.words) && decide (w.addr < v.addr + v.words)).length == 1)

/-- Words that RETAIN takes (R231). -/
def retainTotal (m : Img) : Nat :=
  (((varDefs m).filter fun v => bit v.flags 0).map fun v => v.words).sum +
  (((insDefs m).filter fun v => bit v.flags 0).map fun v => v.words).sum

/-- Variable record, type 0x0903 (R251, R228, R230). -/
def check0903 (m : Img) (r : Rec) : Bool :=
  let n := r.uAt 0 2
  decide (1 ≤ n ∧ n ≤ 32768) && zeroAt r 2 2 && lenIs r (4 + 24 * n) &&
  (allN n fun i =>
    let strand := bit (r.u P0903_FLAGS i) 2
    let id := r.u P0903_VAR_ID i
    let x := r.u P0903_STRAND_INDEX i
    decide (1 ≤ id) && rng r P0903_TYPE 1 5 i && rng r P0903_FLAGS 0 7 i && rng r P0903_OWNER 0 7 i && zeroAt r (11 + 24 * i) 1 &&
    rng r P0903_ADDRESS 0 0x7FFF i && zeroAt r (16 + 24 * i) 4 && usedIf strand r P0903_STRAND_INDEX 0 4095 i &&
    (r.u P0903_TYPE i != 5 || r.u P0903_ADDRESS i % 2 == 0) && 
    ((varDefs m).filter fun v => v.id == id).length == 1 &&
    (!strand || ((varDefs m).filter fun v => bit v.flags 2 && v.index == x).length == 1) &&
    apart m ⟨id, r.u P0903_TYPE i, 0, 0, r.u P0903_ADDRESS i, 0, 0⟩) && decide (retainTotal m ≤ 32768)

/-- Instance record, type 0x0904 (R252, R228). -/
def check0904 (m : Img) (r : Rec) : Bool :=
  let n := r.uAt 0 2
  decide (1 ≤ n ∧ n ≤ 8192) && zeroAt r 2 2 && lenIs r (4 + 24 * n) &&
  (allN n fun i =>
    let ty := r.u P0904_TYPE i
    let id := r.u P0904_INSTANCE_ID i
    decide (1 ≤ id) && rng r P0904_TYPE 0x11 0x18 i && rng r P0904_FLAGS 0 1 i && rng r P0904_OWNER 0 7 i &&
    usedIf (decide (ty ≤ 0x13)) r P0904_MEASURE 0 15 i && r.u P0904_ADDRESS i % 4 == 0 && rng r P0904_ADDRESS 0 0x7FFF i &&
    zeroAt r (14 + 24 * i) 6 && (decide (ty ≤ 0x13) || decide (r.u P0904_INIT i < if ty ≤ 0x16 then 2 ^ 32 else 1)) &&
    ((insDefs m).filter fun v => v.id == id).length == 1 && apart m ⟨id, ty, 0, 0, r.u P0904_ADDRESS i, 0, 0⟩)

/-! Hanks and recipes (R255, R256, R259, R271 to R274). -/

/-- The measure picks of a hank record. -/
def measPickList (r : Rec) : List Nat := ((List.range 4).map fun i => r.uAt (8 + 2 * i) 2).filter (· != 0xFFFF)

/-- A time measure. -/
def timeMeas (m : Img) (k : Nat) : Bool := match m.find 0x0302 P0302_MEASURE k with
  | some q => q.u P0302_KIND == 1
  | none => false

/-- A TIME_PICK or MEAS_PICK of R255's table. -/
def endPick (m : Img) (h th p : Nat) (time : Bool) : Bool :=
  pickIs m p fun q i =>
    let fl := q.u P0303_FLAGS i
    q.u P0303_ACTION i == 10 && q.u P0303_OPERAND i == h && q.u P0303_INTERVAL i == 0 && bit fl 5 && !bit fl 3 && bit fl 4 &&
    q.u P0303_WAKE_THREAD i == th && (!time || (timeMeas m (q.u P0303_MEASURE i) && fl % 4 == 1))

/-- A BEAT_PICK of R255's table. -/
def beatPick (m : Img) (h p : Nat) : Bool :=
  pickIs m p fun q i =>
    let fl := q.u P0303_FLAGS i
    q.u P0303_ACTION i == 10 && q.u P0303_OPERAND i == h && rng q P0303_INTERVAL 4000 4000000 i && bit fl 3 && !bit fl 4 &&
    fl % 4 == 1 && timeMeas m (q.u P0303_MEASURE i)

/-- Hank record, type 0x0A01 (R272, R255, R256). -/
def check0A01 (m : Img) (r : Rec) : Bool :=
  let h := r.u P0A01_HANK
  let th := r.u P0A01_THREAD
  let n := r.u P0A01_OUTPUTS
  let mp := measPickList r
  let pins := (List.range 64).map fun b => r.uAt (32 + b) 1
  let own := r.u P0A01_TIME_PICK :: r.u P0A01_BEAT_PICK :: mp
  lenIs r 96 && decide (h < 32 ∧ n ≤ 64 ∧ r.u P0A01_FLAGS < 4) && ((m.all 0x0402).any fun q => sequencersOf q h == [th]) &&
  endPick m h th (r.u P0A01_TIME_PICK) true && beatPick m h (r.u P0A01_BEAT_PICK) && mp.all (fun p => endPick m h th p false) &&
  distinct own && ((pickEntries m).all fun e => e.1.u P0303_ACTION e.2 != 10 || e.1.u P0303_OPERAND e.2 != h ||
    own.contains (e.1.u P0303_PICK e.2)) &&
  (allN 64 fun a => !bit (r.u P0A01_AXES) a || (m.find 0x0601 P0601_AXIS a).isSome) && decide (r.u P0A01_OUT_INIT < 2 ^ n) &&
  (allN 64 fun b => let p := pins.getD b 0xFF; p == 0xFF || (decide (b < n ∧ p < 32) && gpioWriter m p)) &&
  distinct (pins.filter (· != 0xFF)) && ((m.all 0x0A01).all fun q => q.idx == r.idx || q.u P0A01_HANK != h)

/-- One step of a recipe (R274, R257, R259); `n` is STEPS, `hold` says that it is the hold step. -/
def stepOk (m : Img) (hr s : Rec) (n : Nat) (hold : Bool) : Bool :=
  let k := s.u PSTEP_END_KIND
  let p := s.u PSTEP_N_PLY
  let v := s.u PSTEP_N_VAR
  let a := s.u PSTEP_N_AXIS
  let dur := s.u PSTEP_DURATION
  let len := 56 + 32 * p + 16 * v + 32 * a
  let goes (f : PF) : Bool := s.u f == 0xFFFF || decide (s.u f < n)
  let cmd (i : Nat) : Nat := 56 + 32 * p + 16 * v + 32 * i
  let axes := (List.range a).map fun i => s.uAt (cmd i + 6) 2
  s.u PSTEP_LENGTH == len && lenMin s len && decide (k ≤ 3) && (hold == (k == 3)) &&
  (if k = 2 then rng s PSTEP_MEAS_SLOT 0 3 && hr.uAt (8 + 2 * s.u PSTEP_MEAS_SLOT) 2 != 0xFFFF
   else s.u PSTEP_MEAS_SLOT == 0 && s.u PSTEP_MEAS_TARGET == 0) &&
  (if k = 0 then decide (100 ≤ dur) else if k = 3 then dur == 0 else dur == 0 || decide (100 ≤ dur)) &&
  goes PSTEP_NEXT && goes PSTEP_FAULT_NEXT && goes PSTEP_LOOP_TO && (s.u PSTEP_LOOP_TO != 0xFFFF || s.u PSTEP_LOOP_COUNT == 0) &&
  (if k = 1 then strandOk (s.u PSTEP_COND_STRAND) else s.u PSTEP_COND_STRAND == 0) &&
  (if k = 3 then s.u PSTEP_FAULT_STRAND == 0 else strandOk (s.u PSTEP_FAULT_STRAND)) &&
  decide (s.u PSTEP_OUT_MASK < 2 ^ hr.u P0A01_OUTPUTS) && (s.u PSTEP_OUT_VALUE ||| s.u PSTEP_OUT_MASK) == s.u PSTEP_OUT_MASK &&
  decide (p ≤ 64 ∧ v ≤ 16 ∧ a ≤ 8) && zeroAt s 51 5 &&
  (allN p fun i => zeroAt s (58 + 32 * i) 2 && (match m.find 0x0501 P0501_PLY (s.u PSTEP_PLY i) with
    | some q => q.u P0501_SP_SOURCE == 1
    | none => false)) &&
  (allN v fun j =>
    let o := 56 + 32 * p + 16 * j
    zeroAt s (o + 4) 4 && (varDefs m).any fun w => w.id == s.uAt o 4 && bit w.flags 1) &&
  (allN a fun i => zeroAt s (cmd i) 2) && distinct axes && axes.all (fun x => decide (x < 64) && bit (hr.u P0A01_AXES) x)

/-- ASCII text padded with 0x00. -/
def asciiPad (bs : List Nat) : Bool := bs.all (fun b => decide (b < 128)) && (bs.dropWhile (· != 0)).all (· == 0)

/-- Recipe record, type 0x0A02 (R271, R273, R274). -/
def check0A02 (m : Img) (r : Rec) : Bool :=
  let n := r.u P0A02_STEPS
  let upTo := (((m.all 0x0A02).filter fun q => q.idx ≤ r.idx).map fun q => q.pay.length).sum
  (match m.find 0x0A01 P0A01_HANK (r.u P0A02_HANK) with
   | some hr => decide (1 ≤ n ∧ n ≤ 1024 ∧ r.u P0A02_HOLD_STEP < n) && zeroAt r 6 2 && lenMin r (40 + 4 * n) &&
       asciiPad (r.bytes 8 32) &&
       (allN n fun s => r.u P0A02_STEP_OFF s % 8 == 0 && decide (40 + 4 * n ≤ r.u P0A02_STEP_OFF s) &&
         stepOk m hr (stepOf r s) n (s == r.u P0A02_HOLD_STEP))
   | none => false) &&
  ((m.all 0x0A02).all fun q => q.idx == r.idx || q.u P0A02_RECIPE != r.u P0A02_RECIPE) && decide (upTo ≤ 1048576)

/-! The Weft (R280 to R282, R284, R286, R288, R291, R305 to R308), and the checks of the pair's schedule and mirror load (R454,
R464). -/

/-- Node record, type 0x0B01 (R305). -/
def check0B01 (m : Img) (r : Rec) : Bool :=
  let listed := match m.one 0x0B02 with
    | some s => (List.range (s.u P0B02_NODES)).any fun j => s.uAt (16 + 16 * s.u P0B02_SLOTS + 8 * j) 1 == r.u P0B01_NODE_ID
    | none => false
  let top := ((m.one 0x0B02).map (·.u P0B02_SELVAGE)).getD 0
  lenIs r 12 && rng r P0B01_NODE_ID 1 62 && listed && decide (r.u P0B01_FLAGS < 8 ∧ 2 ≤ r.u P0B01_FLAGS) &&
  rng r P0B01_LISTEN_CYCLES 2 255 && rng r P0B01_LOSS_CYCLES 1 15 && decide (40 ≤ r.u P0B01_SYNC_LIMIT ∧ r.u P0B01_SYNC_LIMIT + 40 ≤ top) &&
  rng r P0B01_INTEG_CYCLES 2 16 && zeroAt r 7 1 && rng r P0B01_REINT_CYCLES 100 1000000

/-- Nanoseconds that the frame of a slot lasts (R281). -/
def slotFrameNs (r : Rec) (s : Nat) : Nat :=
  40 * (13 + (if bit (r.u P0B02_FLAGS s) 0 then 8 else 0) + 4 * r.u P0B02_WORDS s)

/-- The delivery edge of a slot, ns from the cycle start (R288). -/
def deliveryNs (r : Rec) (s : Nat) : Nat := r.u P0B02_OFFSET s + r.u P0B02_LENGTH s + r.u P0B02_RX_LAG

/-- Firings of a pick in one second, for W_rec and the mirror load: `other` is the rate taken for a pick whose firings follow its
retargeting (R395). -/
def pickRate (m : Img) (p : Nat) (other : Rat) : Rat :=
  match pickEntry m p with
  | none => match (m.all 0x0B04).find? fun q => q.u P0B04_PICK == p, m.one 0x0B02 with
    | some _, some s => 1000000000 / (s.u P0B02_CYCLE : Rat)
    | _, _ => 0
  | some (r, i) =>
    let q := m.find 0x0302 P0302_MEASURE (r.u P0303_MEASURE i)
    let kind := (q.map (·.u P0302_KIND)).getD 1
    let n := if r.u P0303_INTERVAL i = 0 ∧ bit (r.u P0303_FLAGS i) 2 ∧ kind = 2 then 2 ^ 32 else r.u P0303_INTERVAL i
    if n = 0 then other
    else if kind = 1 then 400000000 / (n : Rat)
    else (((q.map (·.u P0302_RATE_MAX)).getD 0 : Nat) : Rat) / 2 ^ 32 * 1000000 / n

/-- Values that a sample group publishes: 4 bytes for each channel and pin, 24 for a feedback position (R453). -/
def sampleBytes (m : Img) (g : Nat) : Nat :=
  4 * ((m.all 0x0702).filter fun r => r.u P0702_SAMPLE_GROUP == g).length +
  4 * ((m.all 0x0E01).filter fun r => r.u P0E01_SAMPLE_GROUP == g).length +
  24 * ((m.all 0x0801).filter fun r => r.u P0801_MODE == 3 && r.u P0801_SAMPLE_GROUP == g).length +
  24 * (((m.all 0x0704).filter fun r => match m.find 0x0702 P0702_CHANNEL (r.u P0704_SD_A) with
    | some q => q.u P0702_SAMPLE_GROUP == g
    | none => false)).length + 4 * (pinsRead m g).length

/-- Bytes of a task's input image: its freeze words and its measure image of 16 values (R223, R240). -/
def taskImageBytes (r : Rec) : Nat :=
  4 * ((List.range (r.u P0902_IN_COUNT)).map fun i => if bits (r.u P0902_SOURCE i) 20 4 = 1 then 2 else 1).sum + 128

/-- Worst-case bytes of items in one second, by the rows of R454's table (log entry 46). -/
def mirrorLoad (m : Img) : Rat :=
  let cyc : Rat := 1000000000 / ((m.one 0x0B02).map fun s => (s.u P0B02_CYCLE : Rat)).getD 1
  let picks := (pickEntries m).map fun e =>
    let act := e.1.u P0303_ACTION e.2
    let op := e.1.u P0303_OPERAND e.2
    let p := e.1.u P0303_PICK e.2
    let servos := (m.all 0x0601).filter fun a => a.u P0601_SERVO_PICK == p
    let axes := (servos.filter fun a => a.u P0601_FB_SOURCE == 0).length
    let own : Nat := if act = 1 then 16 + sampleBytes m op else if act = 6 then 16 + 16 + ((m.find 0x0902 P0902_TASK op).map taskImageBytes).getD 0
      else if act = 9 then 16 else 0
    let servo : Nat := if servos == [] then 0 else 16 + 24 * axes
    pickRate m p cyc * ((own + servo : Nat) : Rat)
  let slots := ((m.one 0x0B02).map fun s => ((List.range (s.u P0B02_SLOTS)).map fun i => 16 + 4 * s.u P0B02_WORDS i).sum).getD 0
  let hooks := ((m.all 0x0B04).map fun q => if q.u P0B04_TASK = 0xFF then 0
    else 32 + ((m.find 0x0902 P0902_TASK (q.u P0B04_TASK)).map taskImageBytes).getD 0).sum
  let can := (m.all 0x0D01).map fun q =>
    80000000 / (q.u P0D01_N_BRP * (1 + q.u P0D01_N_TSEG1 + q.u P0D01_N_TSEG2) * 47 : Nat) * (104 : Rat)
  let all := picks.sum + cyc * ((slots + hooks + 32 : Nat) : Rat) + can.sum
  all * (2060 / 2048)

/-- R454: at most 80 % of the pair link's 4 Gbit/s. -/
def mirrorOk (m : Img) : Bool :=
  !((m.all 0x1201).any fun q => q.u P1201_ROLE == 1) || decide (mirrorLoad m ≤ 400000000)

/-- t_Y of R463 in sixteenths of a nanosecond, at its largest, for a member that owns the slots of node `y`. -/
def takeoverTimes (m : Img) (r : Rec) (y : Nat) : List Rat :=
  (((List.range (r.u P0B02_SLOTS)).filter fun s => r.u P0B02_OWNER s == y && r.u P0B02_PARTNER s != 0xFF).map fun s => (deliveryNs r s : Rat)) ++
  (m.all 0x0704).filterMap fun a =>
    match m.find 0x0703 P0703_GROUP (a.u P0704_AXIS / 2), m.find 0x0501 P0501_PLY (a.u P0704_D_PLY) with
    | some g, some q =>
      let ch := ([a.u P0704_SD_A, a.u P0704_SD_B] ++ if a.u P0704_SD_C = 0xFF then [] else [a.u P0704_SD_C]).map fun c =>
        match m.find 0x0702 P0702_CHANNEL c with
        | some k => 2 ^ k.u P0702_OSR_LOG2 * ((m.find 0x0701 P0701_CLOCK (k.u P0702_CLOCK)).map (·.u P0701_DIV)).getD 0
        | none => 0
      let per := 2 * g.u P0703_PERIOD * g.u P0703_PRESCALE
      some ((3 * ch.foldl max 0 + 2 * per : Nat) * (5 / 2 : Rat) + (q.u P0501_DEADLINE : Rat))
    | _, _ => none

/-- R464 for the schedule and one pair record. -/
def pairScheduleOk (m : Img) (r q : Rec) : Bool :=
  let a := q.u P1201_MEMBER_A
  let b := q.u P1201_MEMBER_B
  let w := q.u P1201_WITNESS
  let ws := q.u P1201_WITNESS_SLOT
  let n := r.u P0B02_SLOTS
  let gap (hb y : Nat) : Bool := (takeoverTimes m r y).all fun t => decide (t + 1000 ≤ 40000 + (r.u P0B02_OFFSET hb : Rat))
  let partnered (x y : Nat) : Bool := allN n fun s => r.u P0B02_OWNER s != x ||
    (r.u P0B02_PARTNER s != 0xFF && r.u P0B02_OWNER (r.u P0B02_PARTNER s) == y)
  let watched := if q.u P1201_ROLE = 2 then ((m.all 0x1201).filter fun k => k.u P1201_ROLE == 2).length else 1
  gap (q.u P1201_HB_SLOT_A) b && gap (q.u P1201_HB_SLOT_B) a && partnered a b && partnered b a &&
  bit (r.u P0B02_FLAGS (q.u P1201_HB_SLOT_A)) 1 && bit (r.u P0B02_FLAGS (q.u P1201_HB_SLOT_B)) 1 &&
  (w == 0 || (decide (deliveryNs r ws + 1000 ≤ r.u P0B02_CYCLE) && decide (watched ≤ r.u P0B02_WORDS ws)))

/-- Schedule record, type 0x0B02 (R306, R280 to R282, R284, R288, R291, R454, R464). -/
def check0B02 (m : Img) (r : Rec) : Bool :=
  let n := r.u P0B02_SLOTS
  let k := r.u P0B02_NODES
  let sel := r.u P0B02_SELVAGE
  let cyc := r.u P0B02_CYCLE
  let lim := orD (m.one 0x0B01) P0B01_SYNC_LIMIT 100
  let nb (j : Nat) : Nat := 16 + 16 * n + 8 * j
  let nodes := (List.range k).map fun j => r.uAt (nb j) 1
  let cable (off : Nat) : Nat := ((List.range k).map fun j => r.uAt (nb j + off) 2).foldl max 0
  let lag (star off : Nat) : Bool := decide (star + 2 * cable off + 200 ≤ r.u P0B02_RX_LAG + sel + 120)
  let m40 (x : Nat) : Bool := x % 40 == 0
  decide (1 ≤ n ∧ n ≤ 64 ∧ 1 ≤ k ∧ k ≤ 62) && lenIs r (16 + 16 * n + 8 * k) && rng r P0B02_CYCLE 25000 10000000 && m40 cyc &&
  rng r P0B02_SELVAGE 120 20000 && m40 sel && decide (5000 * (lim + 40) + cyc ≤ 5000 * sel) &&
  rng r P0B02_STAR_DELAY_A 0 2000 && rng r P0B02_STAR_DELAY_B 0 2000 && m40 (r.u P0B02_RX_LAG) && zeroAt r 14 2 &&
  lag (r.u P0B02_STAR_DELAY_A) 2 && lag (r.u P0B02_STAR_DELAY_B) 4 &&
  distinct nodes && nodes.all (fun x => decide (1 ≤ x ∧ x ≤ 62)) && (allN k fun j => zeroAt r (nb j + 1) 1 && zeroAt r (nb j + 6) 2) &&
  (allN n fun s =>
    let off := r.u P0B02_OFFSET s
    let len := r.u P0B02_LENGTH s
    let p := r.u P0B02_PARTNER s
    nodes.contains (r.u P0B02_OWNER s) && decide (r.u P0B02_WORDS s ≤ 60 ∧ r.u P0B02_FLAGS s < 4) && zeroAt r (20 + 16 * s) 4 &&
    m40 off && m40 len && rng r P0B02_LENGTH 1000 100000 s && decide (slotFrameNs r s + 2 * sel + 240 ≤ len) &&
    decide (off + len ≤ if s + 1 = n then cyc else r.u P0B02_OFFSET (s + 1)) &&
    (p == 0xFF || (decide (p < n ∧ p ≠ s) && r.u P0B02_PARTNER p == s && r.u P0B02_WORDS p == r.u P0B02_WORDS s))) &&
  distinct (((List.range n).filter fun s => bit (r.u P0B02_FLAGS s) 0).map fun s => r.u P0B02_OWNER s) &&
  (m.all 0x1201).all (pairScheduleOk m r) && mirrorOk m

/-- Transmit map record, type 0x0B03 (R307, R286). -/
def check0B03 (m : Img) (r : Rec) : Bool :=
  let n := r.uAt 0 2
  decide (1 ≤ n ∧ n ≤ 3840) && zeroAt r 2 2 && lenIs r (4 + 8 * n) &&
  (allN n fun i =>
    let fl := r.u P0B03_FLAGS i
    ownWord m (r.u P0B03_WORD i) && decide (fl < 4) && zeroAt r (7 + 8 * i) 1 &&
    (if bit fl 1 then strandOk (r.u P0B03_STRAND i) else r.u P0B03_STRAND i == 0) &&
    (!bit fl 0 || m.recs.any fun q => (weftWords q).contains (r.u P0B03_WORD i))) && wordsOk m r

/-- Cycle hook record, type 0x0B04 (R308, R302). -/
def check0B04 (m : Img) (r : Rec) : Bool :=
  let t := r.u P0B04_TASK
  lenIs r 12 && rng r P0B04_HOOK 0 7 && (match m.find 0x0302 P0302_MEASURE (r.u P0B04_MEASURE) with
    | some q => q.u P0302_SOURCE == 1
    | none => false) && rng r P0B04_PICK 0 1023 && (pickEntry m (r.u P0B04_PICK)).isNone &&
  decide (r.u P0B04_OFFSET + 40 ≤ orD (m.one 0x0B02) P0B02_CYCLE 0) && r.u P0B04_OFFSET % 40 == 0 &&
  (r.u P0B04_THREAD == 0xFFFF || (decide (r.u P0B04_THREAD < 256) && threadDefined m (r.u P0B04_THREAD))) &&
  (t == 0xFF || (decide (t < 8) && (m.find 0x0902 P0902_TASK t).isSome)) && zeroAt r 11 1 &&
  ((m.all 0x0B04).all fun q => q.idx == r.idx || (q.u P0B04_HOOK != r.u P0B04_HOOK && q.u P0B04_PICK != r.u P0B04_PICK))

/-! Ethernet, PTP and streams transport (R330 to R333). -/

/-- Network record, type 0x0C01 (R331). -/
def check0C01 (_ : Img) (r : Rec) : Bool :=
  let a := r.u P0C01_ACCESS_COUNT
  let gw := r.u P0C01_GATEWAY
  let host := 2 ^ (32 - r.u P0C01_PREFIX)
  lenIs r (40 + 8 * a) && decide (1 ≤ a ∧ a ≤ 8) && !bit (r.u P0C01_MAC) 40 && rng r P0C01_PORT_EN 1 7 && rng r P0C01_PREFIX 8 30 &&
  zeroAt r 13 3 && (gw == 0 || gw / host == r.u P0C01_IPV4 / host) && zeroAt r 26 2 &&
  (allN 3 fun p =>
    let n := r.uAt (20 + 2 * p) 2
    decide (1518 ≤ n ∧ n ≤ 9216) || (n == 0 && !r.b P0C01_PORT_EN p)) &&
  (allN 6 fun i => let v := toInt 16 (r.uAt (28 + 2 * i) 2); decide (-10000 ≤ v ∧ v ≤ 10000)) &&
  (allN a fun i => rng r P0C01_ACC_PREFIX 0 32 i && rng r P0C01_ACC_LEVEL 1 3 i && zeroAt r (46 + 8 * i) 2)

/-- An enabled Ethernet port. -/
def portEnabled (m : Img) (p : Nat) : Bool := decide (p < 3) && bit (orD (m.one 0x0C01) P0C01_PORT_EN 0) p

/-- PTP record, type 0x0C02 (R332). -/
def check0C02 (m : Img) (r : Rec) : Bool :=
  let log (f : PF) (lo hi : Int) : Bool := rngS r f lo hi
  lenIs r 12 && rng r P0C02_PROFILE 1 3 && portEnabled m (r.u P0C02_PTP_PORT) && rng r P0C02_DOMAIN 0 127 && rng r P0C02_FLAGS 0 15 &&
  log P0C02_LOG_SYNC (-7) 1 && log P0C02_LOG_ANNOUNCE (-3) 4 && log P0C02_LOG_DELAY (-7) 5 && rng r P0C02_ANNOUNCE_TIMEOUT 2 10 &&
  zeroAt r 10 2 && (r.u P0C02_PROFILE != 3 || (!r.b P0C02_FLAGS 2 && r.u P0C02_DOMAIN == 0 && r.u P0C02_LOG_SYNC == 0 &&
    r.u P0C02_LOG_ANNOUNCE == 0 && r.u P0C02_LOG_DELAY == 0))

/-- Stream transport record, type 0x0C03 (R333). -/
def check0C03 (m : Img) (r : Rec) : Bool :=
  let n := r.uAt 0 2
  let frame (p : Nat) : Nat := ((m.one 0x0C01).map fun q => q.uAt (20 + 2 * p) 2).getD 0
  decide (1 ≤ n ∧ n ≤ 16) && zeroAt r 2 2 && lenIs r (4 + 8 * n) &&
  (allN n fun i => (m.find 0x1003 P1003_STREAM (r.u P0C03_STREAM i)).isSome && portEnabled m (r.u P0C03_PORT i) &&
    rng r P0C03_PCP 0 15 i && (bit (r.u P0C03_PCP i) 3 || r.u P0C03_PCP i == 0) && rng r P0C03_QUEUE 2 255 i && rng r P0C03_FLUSH_US 1 10000 i) &&
  distinct ((List.range n).map fun i => r.u P0C03_STREAM i) &&
  decide (((List.range n).map fun i => r.u P0C03_QUEUE i * frame (r.u P0C03_PORT i)).sum ≤ 524288)

/-! CAN FD and loop ports (R337, R338, R345, R346, R353, R358 to R364). -/

/-- Controller record, type 0x0D01 (R359, R337, R338). -/
def check0D01 (_ : Img) (r : Rec) : Bool :=
  let quanta (t1 t2 : PF) : Nat := 1 + r.u t1 + r.u t2
  let tdc := r.b P0D01_FLAGS 0
  lenIs r 16 && rng r P0D01_CONTROLLER 0 3 && rng r P0D01_FLAGS 0 1 && rng r P0D01_N_BRP 1 32 && rng r P0D01_N_TSEG1 2 256 &&
  rng r P0D01_N_TSEG2 2 128 && rng r P0D01_N_SJW 1 128 && decide (r.u P0D01_N_SJW ≤ r.u P0D01_N_TSEG2) &&
  rng r P0D01_D_BRP 1 32 && rng r P0D01_D_TSEG1 1 32 && rng r P0D01_D_TSEG2 1 16 && rng r P0D01_D_SJW 1 16 &&
  decide (r.u P0D01_D_SJW ≤ r.u P0D01_D_TSEG2) && decide (80 ≤ r.u P0D01_N_BRP * quanta P0D01_N_TSEG1 P0D01_N_TSEG2) &&
  decide (10 ≤ r.u P0D01_D_BRP * quanta P0D01_D_TSEG1 P0D01_D_TSEG2) && (!tdc || decide (r.u P0D01_D_BRP ≤ 2)) &&
  usedIf tdc r P0D01_TDCO 0 127 && rng r P0D01_BUSOFF_HOLD 0 10000 && rng r P0D01_RX_DELAY 0 1000

/-- A controller with a record. -/
def canDefined (m : Img) (c : Nat) : Bool := (m.find 0x0D01 P0D01_CONTROLLER c).isSome

/-- Filter record, type 0x0D02 (R360). -/
def check0D02 (m : Img) (r : Rec) : Bool :=
  let n := r.uAt 1 1
  canDefined m (r.uAt 0 1) && decide (1 ≤ n ∧ n ≤ 64) && zeroAt r 2 2 && lenIs r (4 + 12 * n) &&
  (allN n fun i => rng r P0D02_PAIR 0 63 i && rng r P0D02_FLAGS 0 31 i && decide (r.u P0D02_TIMEOUT i ≤ 60000) &&
    decide (r.u P0D02_MATCH i < 2 ^ 29 ∧ r.u P0D02_MASK i < 2 ^ 29)) &&
  distinct ((List.range n).map fun i => r.u P0D02_PAIR i)

/-- The shape of a signal field (R345): BIT_POS, LENGTH, FLAGS; SIGNED and REAL32 exclude each other and so do REAL32 and Q_ALIGN, a
big-endian field is whole bytes. -/
def fieldOk (pos len fl : Nat) : Bool :=
  decide (1 ≤ len ∧ len ≤ 32 ∧ fl < 16 ∧ pos ≤ 511) && (!bit fl 1 || (len % 8 == 0 && pos % 8 == 0)) && (!bit fl 2 || len == 32)

/-- The field lies within `n` data bytes. -/
def fieldIn (pos len fl n : Nat) : Bool :=
  if bit fl 1 then decide (pos / 8 < n ∧ len / 8 ≤ pos / 8 + 1) else decide (pos + len ≤ 8 * n)

/-- Data bytes that a DLC codes (R336). -/
def codedLength (dlc : Nat) : Nat := [0, 1, 2, 3, 4, 5, 6, 7, 8, 12, 16, 20, 24, 32, 48, 64].getD dlc 64

/-- Transmit buffer record, type 0x0D03 (R361, R346). -/
def check0D03 (m : Img) (r : Rec) : Bool :=
  let n := r.u P0D03_COUNT
  let fl := r.u P0D03_FLAGS
  canDefined m (r.u P0D03_CONTROLLER) && rng r P0D03_BUFFER 0 31 && decide (fl < 8) && (!bit fl 2 || bit fl 1) &&
  decide (r.u P0D03_DLC ≤ if bit fl 1 then 15 else 8) && decide (n ≤ 64) && lenIs r (12 + 8 * n) &&
  (pickIs m (r.u P0D03_PICK) fun q i => q.u P0303_ACTION i == 0 && !bit (q.u P0303_FLAGS i) 4) &&
  decide (r.u P0D03_IDENT < 2 ^ (if bit fl 0 then 29 else 11)) &&
  (allN n fun j => strandOk (r.u P0D03_STRAND j) && fieldOk (r.u P0D03_BIT_POS j) (r.u P0D03_LENGTH j) (r.uAt (19 + 8 * j) 1) &&
    fieldIn (r.u P0D03_BIT_POS j) (r.u P0D03_LENGTH j) (r.uAt (19 + 8 * j) 1) (codedLength (r.u P0D03_DLC))) &&
  ((m.all 0x0D03).all fun q => q.idx == r.idx || q.u P0D03_CONTROLLER != r.u P0D03_CONTROLLER || q.u P0D03_BUFFER != r.u P0D03_BUFFER)

/-- Strand indices that the receive maps use. -/
def mapIndices (m : Img) : List Nat :=
  (m.all 0x0D04).flatMap fun r => (List.range (r.uAt 2 2)).map fun i => r.u P0D04_STRAND_INDEX i

/-- Receive map record, type 0x0D04 (R362, R358). -/
def check0D04 (m : Img) (r : Rec) : Bool :=
  let n := r.uAt 2 2
  let pair (k : Nat) : Bool := (m.all 0x0D02).any fun q => q.uAt 0 1 == r.uAt 0 1 &&
    (List.range (q.uAt 1 1)).any fun i => q.u P0D02_PAIR i == k && !bit (q.u P0D02_FLAGS i) 2
  canDefined m (r.uAt 0 1) && zeroAt r 1 1 && decide (1 ≤ n ∧ n ≤ 3840) && lenIs r (4 + 12 * n) &&
  (allN n fun i => rng r P0D04_PAIR 0 63 i && pair (r.u P0D04_PAIR i) && zeroAt r (5 + 12 * i) 1 && decide (r.u P0D04_STRAND_INDEX i < 3840) &&
    fieldOk (r.u P0D04_BIT_POS i) (r.u P0D04_LENGTH i) (r.uAt (11 + 12 * i) 1) && zeroAt r (12 + 12 * i) 4 &&
    ((mapIndices m).filter (· == r.u P0D04_STRAND_INDEX i)).length == 1)

/-- Loop port record, type 0x0E01 (R363, R349, R353). -/
def check0E01 (_ : Img) (r : Rec) : Bool :=
  let mode := r.u P0E01_MODE
  let fl := r.u P0E01_FLAGS
  lenIs r 32 && rng r P0E01_PORT 0 7 && rng r P0E01_MODE 1 3 && decide (fl < 4) && (!bit fl 1 || bit fl 0) &&
  (!bit fl 0 || (mode == 1 && decide (10 ≤ r.u P0E01_FILTER_MS))) && rng r P0E01_SAMPLE_GROUP 0 63 &&
  (if mode = 1 then rng r P0E01_FILTER_MS 1 100 else if mode = 3 then r.u P0E01_FILTER_MS == 0 else decide (r.u P0E01_FILTER_MS ≤ 100)) &&
  zeroAt r 5 1 && (if mode = 3 then r.u P0E01_R_SENSE == 0 || rng r P0E01_R_SENSE 1000 50000 else rng r P0E01_R_SENSE 1000 50000) &&
  (if mode = 1 then decide (r.u P0E01_LOW_ALARM < r.u P0E01_HIGH_ALARM) else zeroAt r 16 4) &&
  (if mode = 2 then decide (r.u P0E01_OUT_MIN < r.u P0E01_OUT_MAX ∧ r.u P0E01_OUT_MAX ≤ 24000) && strandOk (r.u P0E01_SOURCE_STRAND)
   else zeroAt r 20 8) && zeroAt r 28 4

/-- HART poll record, type 0x0E02 (R364, R353, R356). -/
def check0E02 (m : Img) (r : Rec) : Bool :=
  let n := r.uAt 1 1
  let b (i : Nat) : Nat := 8 + 44 * i
  let slots := (List.range n).flatMap fun i => (List.range (r.uAt (b i + 7) 1)).map fun k => r.uAt (b i + 31 + 4 * k) 1
  (match m.find 0x0E01 P0E01_PORT (r.uAt 0 1) with
   | some q => q.b P0E01_FLAGS 0
   | none => false) && decide (1 ≤ n ∧ n ≤ 16 ∧ 5 ≤ r.uAt 2 1 ∧ r.uAt 2 1 ≤ 20 ∧ r.uAt 3 1 ≤ 3 ∧ 50 ≤ r.uAt 4 2 ∧ r.uAt 4 2 ≤ 1000) &&
  zeroAt r 6 2 && lenIs r (8 + 44 * n) &&
  (allN n fun i =>
    let len := r.uAt (b i + 6) 1
    let mc := r.uAt (b i + 7) 1
    decide (len ≤ 16 ∧ mc ≤ 4 ∧ 100 ≤ r.uAt (b i + 8) 4 ∧ r.uAt (b i + 8) 4 ≤ 3600000) &&
    ((r.bytes (b i + 12) 16).drop len).all (· == 0) &&
    (allN 4 fun k =>
      let o := b i + 28 + 4 * k
      let ty := r.uAt (o + 1) 1
      let ln := r.uAt (o + 2) 1
      if k < mc then decide (r.uAt o 1 ≤ 31 ∧ r.uAt (o + 3) 1 ≤ 15) && ((ty == 1 && ln == 4) || (ty == 2 && decide (1 ≤ ln ∧ ln ≤ 4)))
      else zeroAt r o 4)) && distinct slots

/-! The store (R386, R395, R403). -/

/-- Channels of an array record. -/
def arrayChannels (r : Rec) : Nat := ((List.range 8).filter fun c => bit (r.u P0F01_CHANNELS) c).length

/-- Array record, type 0x0F01 (R386). -/
def check0F01 (_ : Img) (r : Rec) : Bool :=
  let ch := arrayChannels r
  let retry := r.u P0F01_RETRY_FEATURE
  let n := r.u P0F01_RETRY_COUNT
  lenIs r 68 && [1, 2, 4, 8].contains ch && rng r P0F01_DIES 1 4 && rng r P0F01_SPARE 0 1 && decide (r.u P0F01_DIES + r.u P0F01_SPARE ≤ 4) &&
  rng r P0F01_FLAGS 0 7 && [400, 533, 667, 800].contains (r.u P0F01_MT_S) && decide (n ≤ 7) && (retry != 0 || n == 0) &&
  rng r P0F01_REFRESH_BITS 24 90 && rng r P0F01_LIFE_WARN 1 30 && zeroAt r 15 1 && zeroAt r (16 + 4 * n) (28 - 4 * n) &&
  rng r P0F01_PE_RATED 1000 100000 && rng r P0F01_EVENT_MIB 16 65536 && rng r P0F01_SNAP_MIB 0 1048576 &&
  rng r P0F01_RD_LIMIT 10000 1000000 && rng r P0F01_WL_DELTA 50 5000 && rng r P0F01_SCRUB_HOURS 24 2160 &&
  rng r P0F01_RETENTION_DAYS 30 3650 && decide (2 ≤ ch * r.u P0F01_DIES)

/-- W_rec of R395 in bytes per second. -/
def wRec (m : Img) : Rat :=
  match m.one 0x1002 with
  | none => 1000000
  | some r => ((List.range (r.uAt 0 2)).map fun i =>
      match m.find 0x1001 P1001_SET (r.u P1002_SET i) with
      | none => (0 : Rat)
      | some q =>
        let budget : Rat := (r.u P1002_BUDGET i : Nat)
        if q.u P1001_KIND = 2 then 16 * budget
        else
          let widths := ((List.range (q.u P1001_COUNT)).map fun k => [4, 8, 24].getD (bits (q.u P1001_ENTRY k) 20 2) 4).sum
          ((16 + widths : Nat) : Rat) * pickRate m (q.u P1001_PICK) budget / (max 1 (r.u P1002_DECIM i) : Nat)).sum + 1000000

/-- R395, R381: the history fits the array. -/
def historyFits (m : Img) : Bool :=
  match m.one 0x0F01 with
  | some a => decide (wRec m ≤ (min 400000000 (25000000 * (arrayChannels a * a.u P0F01_DIES)) : Nat))
  | none => (m.one 0x1002).isNone

/-- Hold-up in µs needed for `dies` (R384, R403). -/
def holdupNeed (dies : Nat) : Nat := 530 + 240 * ((148 + 2 * ((dies + 15) / 16) + dies - 1) / dies)

/-- R403: the board's hold-up suffices for the array. -/
def holdupFits (m : Img) (r : Rec) : Bool :=
  match m.one 0x0F01 with
  | some a => decide (holdupNeed (arrayChannels a * a.u P0F01_DIES) ≤ r.u P1004_HOLDUP_US)
  | none => true

/-! Recording (R390, R414 to R418). -/

/-- Sample set record, type 0x1001 (R415, R390). -/
def check1001 (m : Img) (r : Rec) : Bool :=
  let n := r.u P1001_COUNT
  let k := r.u P1001_KIND
  rng r P1001_SET 0 63 && rng r P1001_KIND 1 2 && decide (1 ≤ n ∧ n ≤ 256) && zeroAt r 6 2 && lenIs r (8 + 4 * n) &&
  (if k = 1 then decide (r.u P1001_PICK < 1024) && pickDefined m (r.u P1001_PICK) else r.u P1001_PICK == 0xFFFF) &&
  (allN n fun i =>
    let e := r.u P1001_ENTRY i
    let id := e % 0x100000
    let w := bits e 20 2
    decide (e < 2 ^ 22) && strandOk id &&
    (if k = 2 then w == 0 && decide (id / 4096 = 1 ∧ id % 4096 < 32)
     else decide (w < 3) && (w != 2 || decide (id / 4096 = 8 ∧ id % 4096 < 24) || decide (id / 4096 = 3 ∧ id % 4096 < 16))))

/-- The pick of a SAMPLED set is an angle pick that fires once per revolution. -/
def angleOnce (m : Img) (p : Nat) : Bool :=
  pickIs m p fun r i => r.u P0303_INTERVAL i == 0 && bit (r.u P0303_FLAGS i) 2 &&
    (match m.find 0x0302 P0302_MEASURE (r.u P0303_MEASURE i) with | some q => q.u P0302_KIND == 2 | none => false)

/-- The set of an entry uses a BUDGET (R416). -/
def usesBudget (m : Img) (q : Rec) : Bool :=
  q.u P1001_KIND == 2 || (!angleOnce m (q.u P1001_PICK) &&
    !(pickIs m (q.u P1001_PICK) fun r i => r.u P0303_INTERVAL i != 0))

/-- History record, type 0x1002 (R416). -/
def check1002 (m : Img) (r : Rec) : Bool :=
  let n := r.uAt 0 2
  decide (1 ≤ n ∧ n ≤ 64) && zeroAt r 2 2 && lenIs r (4 + 8 * n) && historyFits m &&
  (allN n fun i => match m.find 0x1001 P1001_SET (r.u P1002_SET i) with
    | none => false
    | some q => zeroAt r (5 + 8 * i) 1 && rng r P1002_DECIM 1 65535 i &&
        (q.u P1001_KIND == 1 || r.u P1002_DECIM i == 1) && usedIf (usesBudget m q) r P1002_BUDGET 1 1000000 i)

/-- Stream record, type 0x1003 (R417). -/
def check1003 (m : Img) (r : Rec) : Bool :=
  let sc := r.u P1003_SET_COUNT
  let t := r.u P1003_TRIG_COUNT
  rng r P1003_STREAM 0 15 && decide (1 ≤ sc ∧ sc ≤ 8 ∧ t ≤ 8) && zeroAt r 3 1 && rng r P1003_HOLDOFF_US 0 60000000 &&
  lenIs r (32 + 16 * t) && 
  (allN 8 fun i => if i < sc then (m.find 0x1001 P1001_SET (r.uAt (8 + i) 1)).isSome && decide (1 ≤ r.uAt (16 + 2 * i) 2)
    else r.uAt (8 + i) 1 == 0xFF && r.uAt (16 + 2 * i) 2 == 0) &&
  (allN t fun j =>
    let acts := r.u P1003_ACTIONS j
    let k := r.u P1003_TKIND j
    decide (r.u P1003_TSET j < sc ∧ 1 ≤ k % 8 ∧ k % 8 ≤ 5 ∧ k < 16 ∧ acts < 4) &&
    (if bit acts 1 then (m.find 0x0503 P0503_BUFFER (r.u P1003_TRACE_BUF j)).isSome else r.u P1003_TRACE_BUF j == 0) &&
    (match m.find 0x1001 P1001_SET (r.uAt (8 + r.u P1003_TSET j) 1) with
     | some q => q.u P1001_KIND == 1 && (List.range (q.u P1001_COUNT)).any fun i => q.u P1001_ENTRY i == r.u P1003_STRAND j
     | none => false) && zeroAt r (44 + 16 * j) 4) &&
  (match m.one 0x0C03 with
   | some q => (List.range (q.uAt 0 2)).any fun i => q.u P0C03_STREAM i == r.u P1003_STREAM
   | none => false)

/-- Recorder record, type 0x1004 (R418). -/
def check1004 (m : Img) (r : Rec) : Bool :=
  holdupFits m r && lenIs r 8 && rng r P1004_HOLDUP_US 1000 65535 && rng0 r P1004_EVENT_FLUSH_MS 10 10000 && zeroAt r 6 2

/-! Safety, pair and reserves (R426, R427, R473, R474). -/

/-- Offsets of the term, timer and output tables of a safety record. -/
def safeOffs (r : Rec) : Nat × Nat × Nat :=
  let a := 32 + 8 * r.u P1101_INPUTS
  let b := a + 8 * r.u P1101_TERMS
  (a, b, b + 8 * r.u P1101_TIMERS)

/-- Safety record, type 0x1101 (R426, R427). -/
def check1101 (_ : Img) (r : Rec) : Bool :=
  let n := r.u P1101_INPUTS
  let t := r.u P1101_TERMS
  let k := r.u P1101_TIMERS
  let o := r.u P1101_OUTPUTS
  let (ot, om, oo) := safeOffs r
  let ins := (List.range n).map fun i => r.uAt (32 + 8 * i) 1
  let timers := (List.range k).map fun i => r.uAt (om + 8 * i) 1
  r.u P1101_VERSION == 1 && decide (n ≤ 24 ∧ 1 ≤ t ∧ t ≤ 32 ∧ k ≤ 16 ∧ 1 ≤ o ∧ o ≤ 8) && rng r P1101_FLAGS 0 1 &&
  zeroAt r 6 2 && rng r P1101_TP_PERIOD 1000 100000 && rng r P1101_TP_WIDTH 20 500 && rng r P1101_TP_RECOVER 10 500 &&
  decide (4 * (r.u P1101_TP_WIDTH + r.u P1101_TP_RECOVER) ≤ r.u P1101_TP_PERIOD) && rng r P1101_OP_PERIOD 1000 60000 &&
  rng r P1101_OP_WIDTH 200 800 && rng r P1101_RB_TIME 100 5000 && zeroAt r 22 10 && lenIs r (oo + 16 * o) &&
  (allN n fun i =>
    let b := 32 + 8 * i
    let ta := r.uAt (b + 2) 1
    let tb := r.uAt (b + 3) 1
    decide (r.uAt b 1 < 24 ∧ 1 ≤ r.uAt (b + 1) 1 ∧ r.uAt (b + 1) 1 ≤ 2) &&
    ((ta == 0xFF && tb == 0xFF) || decide (r.uAt b 1 < 4 ∧ ta < 4 ∧ tb < 4 ∧ ta ≠ tb)) &&
    decide (2 ≤ r.uAt (b + 4) 2 ∧ r.uAt (b + 4) 2 ≤ 2000 ∧ 4 ≤ r.uAt (b + 6) 2 ∧ r.uAt (b + 6) 2 ≤ 2500)) &&
  distinct ins &&
  (allN t fun j =>
    let im := r.uAt (ot + 8 * j) 4
    let tm := r.uAt (ot + 8 * j + 4) 2
    zeroAt r (ot + 8 * j + 6) 2 && (im != 0 || tm != 0) &&
    (allN 32 fun i => !bit im i || ins.contains i) && (allN 16 fun i => !bit tm i || timers.contains i)) &&
  (allN k fun i =>
    let b := om + 8 * i
    decide (r.uAt b 1 < 16 ∧ 1 ≤ r.uAt (b + 1) 1 ∧ r.uAt (b + 1) 1 ≤ 2 ∧ r.uAt (b + 2) 1 < t) &&
    r.uAt (ot + 8 * r.uAt (b + 2) 1 + 4) 2 == 0 && zeroAt r (b + 3) 1 &&
    decide (1 ≤ r.uAt (b + 4) 4 ∧ r.uAt (b + 4) 4 ≤ 60000)) && distinct timers &&
  (allN o fun i =>
    let b := oo + 16 * i
    let req := r.uAt (b + 8) 4
    decide (r.uAt b 1 < 8 ∧ r.uAt (b + 1) 1 < 4) && zeroAt r (b + 2) 2 && r.uAt (b + 4) 4 != 0 &&
    decide (r.uAt (b + 4) 4 < 2 ^ t) && (req != 0 || !bit (r.uAt (b + 1) 1) 0) && strandOk req && zeroAt r (b + 12) 4) &&
  distinct ((List.range o).map fun i => r.uAt (oo + 16 * i) 1)

/-- Pair record, type 0x1201 (R473, R446). -/
def check1201 (m : Img) (r : Rec) : Bool :=
  let a := r.u P1201_MEMBER_A
  let b := r.u P1201_MEMBER_B
  let w := r.u P1201_WITNESS
  let owned (s n : Nat) : Bool := match m.one 0x0B02 with
    | some q => decide (s < q.u P0B02_SLOTS) && q.u P0B02_OWNER s == n
    | none => false
  let me := orD (m.one 0x0B01) P0B01_NODE_ID 0
  lenIs r 12 && owned (r.u P1201_HB_SLOT_A) a && owned (r.u P1201_HB_SLOT_B) b && (w == 0 || owned (r.u P1201_WITNESS_SLOT) w) &&
  (if r.u P1201_ROLE = 1 then me == a || me == b else me == w) && rng r P1201_PAIR 0 29 && rng r P1201_ROLE 1 2 && decide (1 ≤ a ∧ a ≤ 62 ∧ 1 ≤ b ∧ b ≤ 62 ∧ a ≠ b ∧ w ≤ 62 ∧ w ≠ a ∧ w ≠ b) &&
  (r.u P1201_PREFERRED == a || r.u P1201_PREFERRED == b) && rng r P1201_HB_SLOT_A 0 63 && rng r P1201_HB_SLOT_B 0 63 &&
  (if w = 0 then r.u P1201_WITNESS_SLOT == 0xFF else rng r P1201_WITNESS_SLOT 0 63) && zeroAt r 9 3 &&
  ((m.all 0x1201).all fun q => q.idx == r.idx ||
    (q.u P1201_PAIR != r.u P1201_PAIR && (q.u P1201_ROLE == 2 || r.u P1201_ROLE == 2)))

/-- Reserve record, type 0x1301 (R474). -/
def check1301 (_ : Img) (r : Rec) : Bool :=
  lenIs r 8 && rng0 r P1301_BIST_PERIOD 1 3600 && rng0 r P1301_AGE_DELTA 10 100 &&
  rng0 r P1301_AGE_WARN 10 200 && rng0 r P1301_ECC_ROW_LIMIT 1 16 && rng r P1301_FLAGS 0 1 && zeroAt r 6 2

/-! The table of record types. -/

/-- Why a copy is abandoned: the code and the rest of its DETAIL (R480, R481). -/
structure Reject where
  code : Nat
  obj : Nat := 0
  value : Int := 0
  /-- AUX where it is not the copy (0x0209). -/
  aux : Option Nat := none
  /-- Claim conflicts found (R30). -/
  conflicts : Nat := 0
  deriving DecidableEq, Repr

/-- Every record type with its check, and the least and the greatest number of its records; `big` where there is no limit. The
recorder record is required with an array record (R414). -/
def recordTypes (hasArray : Bool) : List (Nat × (Img → Rec → Bool) × Nat × Nat) :=
  let big := 65535
  [(0x0101, check0101, 0, 1),
   (0x0211, check0211, 0, big),
   (0x0301, check0301, 0, 1),
   (0x0302, check0302, 0, big),
   (0x0303, check0303, 0, big),
   (0x0304, check0304, 0, 1),
   (0x0401, check0401, 1, 1),
   (0x0402, check0402, 1, 1)] ++
  [(0x0501, check0501, 0, big),
   (0x0502, check0502, 0, big),
   (0x0503, check0503, 0, big),
   (0x0601, check0601, 0, big),
   (0x0602, check0602, 0, big),
   (0x0701, check0701, 0, big),
   (0x0702, check0702, 0, big),
   (0x0703, check0703, 0, big),
   (0x0704, check0704, 0, big),
   (0x0705, check0705, 0, big),
   (0x0801, check0801, 0, big)] ++
  [(0x0901, check0901, 1, 1),
   (0x0902, check0902, 0, big),
   (0x0903, check0903, 0, big),
   (0x0904, check0904, 0, big),
   (0x0A01, check0A01, 0, big),
   (0x0A02, check0A02, 0, big),
   (0x0B01, check0B01, 1, 1),
   (0x0B02, check0B02, 1, 1),
   (0x0B03, check0B03, 0, 1),
   (0x0B04, check0B04, 0, big)] ++
  [(0x0C01, check0C01, 1, 1),
   (0x0C02, check0C02, 0, 1),
   (0x0C03, check0C03, 0, 1),
   (0x0D01, check0D01, 0, big),
   (0x0D02, check0D02, 0, big),
   (0x0D03, check0D03, 0, big),
   (0x0D04, check0D04, 0, big),
   (0x0E01, check0E01, 0, big),
   (0x0E02, check0E02, 0, big),
   (0x0F01, check0F01, 0, 1)] ++
  [(0x1001, check1001, 0, big),
   (0x1002, check1002, 0, 1),
   (0x1003, check1003, 0, big),
   (0x1004, check1004, (if hasArray then 1 else 0), 1),
   (0x1101, check1101, 1, 1),
   (0x1201, check1201, 0, big),
   (0x1301, check1301, 0, 1)]

/-- Record types of which an object has at most one record, with the field that names the object (the chapters' record lists). -/
def objectKeys : List (Nat × PF) :=
  [(0x0302, P0302_MEASURE), (0x0701, P0701_CLOCK), (0x0702, P0702_CHANNEL), (0x0703, P0703_GROUP), (0x0704, P0704_AXIS),
   (0x0705, P0705_OUTPUT), (0x0801, P0801_IFACE), (0x0902, P0902_TASK), (0x0D01, P0D01_CONTROLLER), (0x0D02, ⟨0, 1, 0⟩),
   (0x0D04, ⟨0, 1, 0⟩), (0x0E01, P0E01_PORT), (0x0E02, ⟨0, 1, 0⟩), (0x1001, P1001_SET), (0x1003, P1003_STREAM)]

/-- TYPEs whose records have no claims (R38, R80, R83, R100, R134, R135, R249, R251, R252, R273, R306, R307, R332, R333, R362, R364, R474). -/
def claimless : List Nat :=
  [0x0211, 0x0301, 0x0304, 0x0401, 0x0502, 0x0503, 0x0901, 0x0903, 0x0904, 0x0A02, 0x0B02, 0x0B03, 0x0C02, 0x0C03, 0x0D04, 0x0E02, 0x1301]

/-- One record: a known TYPE, no claims where its chapter gives it none, no claim of CLASS 0x12 on T0 to T7 (R86), its payload's check (R27), the recorder's loom-time source
(R330). -/
def checkRec (m : Img) (r : Rec) : Bool :=
  (match (recordTypes false).find? fun t => t.1 == r.typ with
   | some t => t.2.1 m r
   | none => false) &&
  (!claimless.contains r.typ || r.claims == []) && (r.claims.all fun c => c.cls != 0x12 || decide (8 ≤ c.first)) &&
  (r.typ != 0x0301 || r.u P0301_SOURCE == 0 || (m.one 0x0C02).isSome)

/-- Too few or too many records of a type: the first such, by type (R27, R481). -/
def typeCount (m : Img) : List (Option Reject) :=
  ((recordTypes (m.one 0x0F01).isSome).map fun t =>
    let rs := m.all t.1
    if rs.length < t.2.2.1 then some { code := 0x0207, obj := 0xFFFF, value := t.1 }
    else if t.2.2.2 < rs.length then some { code := 0x0207, obj := ((rs.drop t.2.2.2).head?.map (·.idx)).getD 0 } else none) ++
  (objectKeys.map fun k => ((m.all k.1).find? fun r => (m.all k.1).any fun q => decide (q.idx < r.idx) && q.u k.2 == r.u k.2).map fun r =>
    { code := 0x0207, obj := r.idx })

/-- The placement check: an engine whose load is above 80 % (R108), with the load in percent. -/
def placementCheck (m : Img) : Option Reject :=
  ((List.range 8).find? fun e => decide ((4 : Rat) / 5 < engLoad m e)).map fun e =>
    { code := 0x0208, obj := e, value := (engLoad m e * 100 + 1 / 2).floor }

end Sys2Proof.Machine
end

