-- ==== Sys2Proof/Machine/Interlock.lean ====
section
/-! DEFINITION. The safety functions (R421 to R440): inputs, test pulses, the matrix and its timers, outputs, readbacks and
off-pulses, the checks between the two channels, and lock-out with its reset. An event of the safety domain's own oscillator is taken
when its nominal time less 2 % has passed (R421, log entry 36). -/

namespace Sys2Proof.Machine

/-- The safety record. -/
def safeRec (d : Dev) : Option Rec := recOf 0x1101 d

/-- Edges of `us` µs as the safety oscillator may count them at the least (R421); the processor channel counts them exactly. -/
def safeTime (proc : Bool) (us : Nat) : Nat := if proc then 400 * us else 392 * us

/-- The safety functions are configured: COMMISSION, RUN or LOCKED. -/
def safeOn (d : Dev) : Bool := get SAFE_STATUS_STATE 0 d != 0

/-! Table entries (R426). -/

/-- Offset of the entry of input `i`. -/
def safeInOff (i : Nat) (r : Rec) : Option Nat :=
  ((List.range (r.u P1101_INPUTS)).find? fun k => r.uAt (32 + 8 * k) 1 == i).map fun k => 32 + 8 * k

/-- The inputs of the record. -/
def safeInputs (r : Rec) : List Nat := (List.range (r.u P1101_INPUTS)).map fun k => r.uAt (32 + 8 * k) 1

/-- The timers of the record: number and offset. -/
def safeTimers (r : Rec) : List (Nat × Nat) :=
  (List.range (r.u P1101_TIMERS)).map fun k => (r.uAt ((safeOffs r).2.1 + 8 * k) 1, (safeOffs r).2.1 + 8 * k)

/-- The outputs of the record: number and offset. -/
def safeOutputs (r : Rec) : List (Nat × Nat) :=
  (List.range (r.u P1101_OUTPUTS)).map fun k => (r.uAt ((safeOffs r).2.2 + 16 * k) 1, (safeOffs r).2.2 + 16 * k)

/-- The test pulse that feeds a channel of an input, 0xFF for none. -/
def tpOf (i chan : Nat) (r : Rec) : Nat :=
  match safeInOff i r with
  | some o => r.uAt (o + 2 + chan) 1
  | none => 0xFF

/-- The channels that a test pulse feeds: input and channel. -/
def fedBy (k : Nat) (r : Rec) : List (Nat × Nat) :=
  (safeInputs r).flatMap fun i => ([0, 1].filter fun c => tpOf i c r == k).map fun c => (i, c)

/-! State of inputs. -/

/-- An input's notes. -/
def safeIn (i : Nat) (d : Dev) : SafeInX := d.safe.ins.get {} i

/-- An input's notes changed. -/
def safeInMod (i : Nat) (f : SafeInX → SafeInX) (d : Dev) : Dev := { d with safe := { d.safe with ins := d.safe.ins.put i (f (safeIn i d)) } }

/-- A channel of an input. -/
def safeChan (i chan : Nat) (d : Dev) : SafeChan := if chan = 0 then (safeIn i d).a else (safeIn i d).b

/-- A channel of an input changed. -/
def safeChanMod (i chan : Nat) (f : SafeChan → SafeChan) (d : Dev) : Dev :=
  safeInMod i (fun x => if chan = 0 then { x with a := f x.a } else { x with b := f x.b }) d

/-- The level accepted in a channel of the unit. -/
def accepted (proc : Bool) (i chan : Nat) (d : Dev) : Bool :=
  if proc then (safeChan i chan d).accP else if chan = 0 then flag SAFE_IN_RAW_A i d else flag SAFE_IN_RAW_B i d

/-- An input channel is in its run state at a level: channel B of an ANTIVALENT input while low (R429). -/
def inRunState (i chan : Nat) (level : Bool) (r : Rec) : Bool :=
  match safeInOff i r with
  | some o => if chan = 1 ∧ r.uAt (o + 1) 1 = 2 then !level else level
  | none => false

/-- The state of R429 in a channel of the unit. -/
def inState (proc : Bool) (i : Nat) (d : Dev) : Nat := if proc then get SAFE_IN_STATE_P i d else get SAFE_IN_STATE_H i d

/-- A state of R429 entered; departures from CLOSED are counted in the hard-wired channel. -/
def setInState (proc : Bool) (i st : Nat) (d : Dev) : Dev :=
  if proc then put SAFE_IN_STATE_P i st d
  else
    d |> onlyIf (get SAFE_IN_STATE_H i d == 1 && st != 1) (bumpSat SAFE_IN_DEMANDS i)
      |> put SAFE_IN_STATE_H i st |> setStrand 0x11 i st

/-- DISC_TIME starts. -/
def startDisc (proc : Bool) (i : Nat) (d : Dev) : Dev :=
  safeInMod i (fun x => if proc then { x with discP := edge d } else { x with discH := edge d }) d

/-- The input's state machine takes an accepted change (R429): whether the changed channel and the other one are in their run states. -/
def inputMove (proc : Bool) (i : Nat) (self other : Bool) (d : Dev) : Dev :=
  match inState proc i d with
  | 0 => if self then (if other then setInState proc i 1 d else startDisc proc i (setInState proc i 3 d)) else d
  | 3 => if self && other then setInState proc i 1 d else if !self && !other then setInState proc i 0 d else d
  | 1 => if self then d else if other then startDisc proc i (setInState proc i 2 d) else setInState proc i 0 d
  | 2 => if !self && !other then setInState proc i 0 d else d
  | _ => d

/-- A level is accepted in a channel of the unit (R428). -/
def acceptLevel (proc : Bool) (i chan : Nat) (level : Bool) (r : Rec) (d : Dev) : Dev :=
  let d := if proc then safeChanMod i chan (fun c => { c with accP := level }) d
    else if chan = 0 then putB SAFE_IN_RAW_A i level d else putB SAFE_IN_RAW_B i level d
  inputMove proc i (inRunState i chan level r) (inRunState i (1 - chan) (accepted proc i (1 - chan) d) r) d

/-- The channel lies in the blanking window of the pulse that feeds it. -/
def blanked (i chan : Nat) (r : Rec) (d : Dev) : Bool := (d.safe.tps.get {} (tpOf i chan r)).blank

/-- SAFETY_INPUT_EDGE (R428): the level at the ball changes, and its filter starts. -/
def safetyInputEdgeAt (i chan : Nat) (level : Bool) (d : Dev) : Dev :=
  if (safeChan i chan d).level = level then d
  else safeChanMod i chan (fun c => { c with level := level, stable := edge d }) d

def execSafetyInputEdge (dt input channel : Nat) (level : Bool) (s : State) : Host.Outcome State Fault Refusal :=
  onDev dt (safetyInputEdgeAt input channel level) s

/-- SAFETY_INPUT_ACCEPT (R428): a level stable for FILTER, outside a blanking window, is accepted. -/
def safetyInputAcceptAt (i chan : Nat) (proc : Bool) (d : Dev) : Dev :=
  match safeRec d with
  | none => d
  | some r =>
    match safeInOff i r with
    | none => d
    | some o =>
      let c := safeChan i chan d
      if !safeOn d || c.level == accepted proc i chan d || blanked i chan r d ||
          decide (since c.stable d < safeTime proc (10 * r.uAt (o + 4) 2)) then d
      else acceptLevel proc i chan c.level r d

def execSafetyInputAccept (dt input channel : Nat) (proc : Bool) (s : State) : Host.Outcome State Fault Refusal :=
  onDev dt (safetyInputAcceptAt input channel proc) s

/-- DISC_TIME_EXPIRY (R429). -/
def discTimeExpiryAt (i : Nat) (proc : Bool) (d : Dev) : Dev :=
  match safeRec d with
  | none => d
  | some r =>
    match safeInOff i r with
    | none => d
    | some o =>
      let st := inState proc i d
      let e := if proc then (safeIn i d).discP else (safeIn i d).discH
      if (st = 2 ∨ st = 3) ∧ safeTime proc (1000 * r.uAt (o + 6) 2) ≤ since e d then
        d |> setInState proc i 4 |> put SAFE_IN_DISC_SEEN i 1 |> raiseSafety 0x1101 i 0 0
      else d

def execDiscTimeExpiry (dt input : Nat) (proc : Bool) (s : State) : Host.Outcome State Fault Refusal :=
  onDev dt (discTimeExpiryAt input proc) s

/-! Test pulses (R430). -/

/-- A test pulse's notes changed. -/
def tpMod (k : Nat) (f : SafeTpX → SafeTpX) (d : Dev) : Dev :=
  { d with safe := { d.safe with tps := d.safe.tps.put k (f (d.safe.tps.get {} k)) } }

/-- A failure of test pulse `k` at a channel of an input. -/
def tpFail (k i chan : Nat) (d : Dev) : Dev :=
  d |> tpMod k (fun t => { t with failed := true }) |> put SAFE_IN_TP_FAIL i 1 |> raiseSafety 0x1102 i chan 0

/-- The level of a fed channel as a judgement reads it: the one given, else the last one seen. -/
def fedLevel (i chan : Nat) (levels : List TpLevel) (d : Dev) : Bool :=
  match levels.find? fun l => l.input == i && l.channel == chan with
  | some l => l.level
  | none => (safeChan i chan d).level

/-- Test pulse `k` may start: once in every TP_PERIOD, and while no window is open (R430: the windows of two test pulses never overlap). -/
def tpDue (k : Nat) (d : Dev) : Bool :=
  let t := d.safe.tps.get {} k
  let period := safeTime false ((safeRec d).elim 0 fun r => r.u P1101_TP_PERIOD)
  (List.range 4).all (fun j => !(d.safe.tps.get {} j).low && !(d.safe.tps.get {} j).blank) && (t.start == 0 || decide (period ≤ since t.start d))

/-- TEST_PULSE_START: the supply drops, and the blanking window opens. -/
def testPulseStartAt (k : Nat) (d : Dev) : Dev :=
  if safeOn d && flag SAFE_TP_DRIVEN k d && tpDue k d then
    d |> tpMod k (fun t => { t with low := true, blank := true, start := edge d, failed := false }) |> put SAFE_TP_LEVEL k 0
  else d

def execTestPulseStart (dt pulse : Nat) (s : State) : Host.Outcome State Fault Refusal := onDev dt (testPulseStartAt pulse) s

/-- TEST_PULSE_END: each fed channel, and the ball itself, must have read low. -/
def testPulseEndAt (k : Nat) (levels : List TpLevel) (ball : Bool) (d : Dev) : Dev :=
  match safeRec d with
  | none => d
  | some r =>
    if !(d.safe.tps.get {} k).low || decide (since (d.safe.tps.get {} k).start d < safeTime false (r.u P1101_TP_WIDTH)) then d
    else
      let d := d |> tpMod k (fun t => { t with low := false, failed := t.failed || ball })
      let d := if ball then raiseSafety 0x1102 k 0 0 d else d
      put SAFE_TP_LEVEL k 1 (forL (fedBy k r) (fun p d => if fedLevel p.1 p.2 levels d then tpFail k p.1 p.2 d else d) d)

def execTestPulseEnd (dt pulse : Nat) (levels : List TpLevel) (ball : Bool) (s : State) : Host.Outcome State Fault Refusal :=
  onDev dt (testPulseEndAt pulse levels ball) s

/-- TP_BLANKING_END: a fed channel that was accepted as high must be high again; a change that persists is judged from here on. -/
def tpBlankingEndAt (k : Nat) (levels : List TpLevel) (d : Dev) : Dev :=
  match safeRec d with
  | none => d
  | some r =>
    let t := d.safe.tps.get {} k
    if !t.blank || t.low || decide (since t.start d < safeTime false (r.u P1101_TP_WIDTH + r.u P1101_TP_RECOVER)) then d
    else
      let settle (p : Nat × Nat) (d : Dev) : Dev :=
        let now_ := fedLevel p.1 p.2 levels d
        let d := safeChanMod p.1 p.2 (fun c => if t.start ≤ c.stable ∨ c.level ≠ now_ then { c with level := now_, stable := edge d } else c) d
        if (accepted false p.1 p.2 d || accepted true p.1 p.2 d) && !now_ then tpFail k p.1 p.2 d else d
      let d := forL (fedBy k r) settle d
      let ok := !(d.safe.tps.get {} k).failed
      d |> tpMod k (fun t => { t with blank := false, lastOk := ok }) |> onlyIf ok (bump SAFE_TP_PASSED k)

def execTpBlankingEnd (dt pulse : Nat) (levels : List TpLevel) (s : State) : Host.Outcome State Fault Refusal :=
  onDev dt (tpBlankingEndAt pulse levels) s

/-! The matrix (R431, R432). -/

/-- A timer's value in a channel. -/
def timVal (proc : Bool) (k : Nat) (d : Dev) : Bool :=
  let t := d.safe.tims.get {} k
  if proc then t.valP else t.valH

/-- A term's value in a channel. -/
def termVal (proc : Bool) (j : Nat) (r : Rec) (d : Dev) : Bool :=
  let o := (safeOffs r).1 + 8 * j
  (List.range 24).all (fun i => !bit (r.uAt o 4) i || inState proc i d == 1) &&
  (List.range 16).all (fun k => !bit (r.uAt (o + 4) 2) k || timVal proc k d)

/-- A timer follows its source term (R431). The processor channel's TIME ends here, the hard-wired one's at its own event. -/
def timStep (proc : Bool) (r : Rec) (p : Nat × Nat) (d : Dev) : Dev :=
  let kind := r.uAt (p.2 + 1) 1
  let term := termVal proc (r.uAt (p.2 + 2) 1) r d
  let t := d.safe.tims.get {} p.1
  let was := if proc then t.termP else t.termH
  let at_ := if was == term then (if proc then t.sinceP else t.sinceH) else edge d
  let val := timVal proc p.1 d
  let over_ := proc && decide (safeTime true (1000 * r.uAt (p.2 + 4) 4) ≤ since at_ d)
  let val := if kind = 1 then term || (val && !over_) else term && (val || over_)
  let t := if proc then { t with valP := val, termP := term, sinceP := at_ } else { t with valH := val, termH := term, sinceH := at_ }
  { d with safe := { d.safe with tims := d.safe.tims.put p.1 t } }

/-- An output's request in a channel: REQ_STRAND nonzero, or always (R432). The hard-wired channel has it as last crossed. -/
def safeRequest (proc : Bool) (r : Rec) (p : Nat × Nat) (d : Dev) : Bool :=
  let id := r.uAt (p.2 + 8) 4
  if proc then id == 0 || readStrand id d != 0 else flag SAFE_OUT_REQUEST p.1 d

/-- One evaluation of an output in a channel (R431, R432): permission, the wait of MANUAL_RESTART, and the command. -/
def outStep (proc : Bool) (r : Rec) (p : Nat × Nat) (d : Dev) : Dev :=
  let n := p.1
  let perm := (List.range 32).any fun j => bit (r.uAt (p.2 + 4) 4) j && termVal proc j r d
  let req := safeRequest proc r p d
  let x := d.safe.outs.get {} n
  let was := if proc then x.permP else flag SAFE_OUT_PERMIT n d
  let other := if proc then flag SAFE_OUT_PERMIT n d else x.permP
  let cmdWas := if proc then x.cmdP else x.cmdH
  let manual := safeManual n d
  let w := if proc then x.waitP else x.waitH
  let w := if !manual then 0 else if !perm then (if was then 1 else min w 1)
    else if w = 1 then (if req then 1 else 2) else if w = 2 then (if req then 0 else 2) else 0
  let cmd := get SAFE_STATUS_STATE 0 d == 2 && perm && req && w == 0
  let demand := was && !perm && cmdWas && other
  let x := if proc then { x with permP := perm, waitP := w } else { x with waitH := w }
  let d : Dev := { d with safe := { d.safe with outs := d.safe.outs.put n x } }
  let d := if proc then d else d |> putB SAFE_OUT_PERMIT n perm |> setStrand 0x11 (40 + n) (b2n perm)
  let d := safeCmd n (if proc then x.cmdH else cmd) (if proc then cmd else x.cmdP) d
  if demand then raise 0x1109 n d else d

/-- One evaluation of the matrix in a channel of the unit. -/
def matrixEval (proc : Bool) (r : Rec) (d : Dev) : Dev :=
  forL (safeOutputs r) (outStep proc r) (forL (safeTimers r) (timStep proc r) d)

/-- SAFETY_MATRIX_EVAL: the hard-wired matrix, and the compare of its duplicated words (R425). -/
def safetyMatrixEvalAt (mismatch : Bool) (d : Dev) : Dev :=
  match safeRec d with
  | none => d
  | some r =>
    if !safeOn d || !flag SAFE_STATUS_DOMAIN_OK 0 d || !dueAgain d.safe.matAt (safeTime false 1) d then d
    else
      let d : Dev := { d with safe := { d.safe with mismatch := mismatch, matAt := edge d + 1 } }
      if mismatch then
        raiseSafety 0x1108 0 0 0 (forL (safeOutputs r) (fun p d => safeCmd p.1 false (d.safe.outs.get {} p.1).cmdP d) d)
      else matrixEval false r d

def execSafetyMatrixEval (dt : Nat) (mismatch : Bool) (s : State) : Host.Outcome State Fault Refusal :=
  onDev dt (safetyMatrixEvalAt mismatch) s

/-- SAFETY_TIMER_EXPIRY: a timer of the hard-wired channel reaches TIME. -/
def safetyTimerExpiryAt (k : Nat) (d : Dev) : Dev :=
  match safeRec d with
  | none => d
  | some r =>
    match (safeTimers r).find? (·.1 == k) with
    | none => d
    | some p =>
      let t := d.safe.tims.get {} k
      let off := r.uAt (p.2 + 1) 1 == 1
      if !safeOn d || decide (since t.sinceH d < safeTime false (1000 * r.uAt (p.2 + 4) 4)) || t.termH == off then d
      else { d with safe := { d.safe with tims := d.safe.tims.put k { t with valH := !off } } }

def execSafetyTimerExpiry (dt timer : Nat) (s : State) : Host.Outcome State Fault Refusal := onDev dt (safetyTimerExpiryAt timer) s

/-- REQUEST_CROSSING: the request strands cross into the safety domain. -/
def requestCrossingAt (d : Dev) : Dev :=
  match safeRec d with
  | none => d
  | some r =>
    if !safeOn d || !dueAgain d.safe.reqAt (safeTime false 10) d then d
    else forL (safeOutputs r) (fun p d =>
      let x := d.safe.outs.get {} p.1
      putB SAFE_OUT_REQUEST p.1 (safeRequest true r p d) { d with safe := { d.safe with outs := d.safe.outs.put p.1 { x with reqAt := edge d } } })
        { d with safe := { d.safe with reqAt := edge d + 1 } }

def execRequestCrossing (dt : Nat) (s : State) : Host.Outcome State Fault Refusal := onDev dt requestCrossingAt s

/-- REQUEST_TIMEOUT: a request not renewed for 100 µs counts as false. -/
def requestTimeoutAt (n : Nat) (d : Dev) : Dev :=
  if safeOn d && decide (safeTime false 100 ≤ since (d.safe.outs.get {} n).reqAt d) then put SAFE_OUT_REQUEST n 0 d else d

def execRequestTimeout (dt output : Nat) (s : State) : Host.Outcome State Fault Refusal := onDev dt (requestTimeoutAt output) s

/-! The processor channel (R422 to R424). -/

/-- T2 commits (R423): its evaluation, with the enables of switch P for all outputs together. -/
def safetyCommit (d : Dev) : Dev :=
  match safeRec d with
  | none => d
  | some r =>
    if !safeOn d then d
    else
      let us := (since d.safe.lastCommit d + 200) / 400
      matrixEval true r { d with safe := { d.safe with lastCommit := edge d } }
        |> put SAFE_PROC_LAST_US 0 (satU 16 us) |> maxUp SAFE_PROC_MAX_US 0 us |> put SAFE_STATUS_PROC_OK 0 1

/-- No commit for 1.5 ms. -/
def procLate (d : Dev) : Bool := safeOn d && inRun d && decide (safeTime false 1500 ≤ since d.safe.lastCommit d)

/-- PROC_COMMIT_TIMEOUT (R424). -/
def execProcCommitTimeout (dt : Nat) (s : State) : Host.Outcome State Fault Refusal :=
  onDev dt (fun d => if procLate d then raiseSafety 0x1106 0 0 0 (put SAFE_STATUS_PROC_OK 0 0 d) else d) s

/-- SWITCH_P_TIMEOUT (R422): enables that are not renewed open switch P. -/
def execSwitchPTimeout (dt : Nat) (s : State) : Host.Outcome State Fault Refusal :=
  onDev dt (fun d => if procLate d then
    forL (List.range 8) (fun n d => safeCmd n (d.safe.outs.get {} n).cmdH false d) d else d) s

/-- The cross-comparison time of an output in µs: 5 ms and 3 % of the largest TIME of any timer that its terms select (R424). -/
def crossTime (r : Rec) (p : Nat × Nat) : Nat :=
  let terms := (List.range (r.u P1101_TERMS)).filter fun j => bit (r.uAt (p.2 + 4) 4) j
  let mask (j : Nat) : Nat := r.uAt ((safeOffs r).1 + 8 * j + 4) 2
  let times := ((safeTimers r).filter fun t => terms.any fun j => bit (mask j) t.1).map fun t => r.uAt (t.2 + 4) 4
  5000 + 30 * times.foldl max 0

/-- CROSS_COMPARE_TIMEOUT (R424). -/
def crossCompareTimeoutAt (n : Nat) (d : Dev) : Dev :=
  match safeOutEntry n d with
  | none => d
  | some (r, o) =>
    let x := d.safe.outs.get {} n
    if x.diff ≠ 0 ∧ safeTime false (crossTime r (n, o)) < since (x.diff - 1) d then raiseSafety 0x1105 n 0 0 d else d

def execCrossCompareTimeout (dt output : Nat) (s : State) : Host.Outcome State Fault Refusal := onDev dt (crossCompareTimeoutAt output) s

/-! Readbacks and off-pulses (R433, R434). -/

/-- A readback failure of output `n`. -/
def readbackFail (code n sw : Nat) (d : Dev) : Dev := raiseSafety code n 0 sw (put SAFE_OUT_RB_FAIL n 1 d)

/-- The output is commanded on by both channels. -/
def outOn (n : Nat) (d : Dev) : Bool := (d.safe.outs.get {} n).cmdH && (d.safe.outs.get {} n).cmdP

/-- READBACK_SETTLE: RB_TIME after a change of command. -/
def readbackSettleAt (n : Nat) (d : Dev) : Dev :=
  match safeRec d with
  | none => d
  | some r =>
    let x := d.safe.outs.get {} n
    if !safeOn d || x.settled || decide (since x.chg d < safeTime false (r.u P1101_RB_TIME)) then d
    else
      let d : Dev := { d with safe := { d.safe with outs := d.safe.outs.put n { x with settled := true } } }
      if flag SAFE_OUT_READBACK n d == outOn n d then d else readbackFail 0x1103 n 0 d

def execReadbackSettle (dt output : Nat) (s : State) : Host.Outcome State Fault Refusal := onDev dt (readbackSettleAt output) s

/-- SRB_EDGE: the level at the SOn ball changes. -/
def srbEdgeAt (n : Nat) (level : Bool) (d : Dev) : Dev :=
  let d := d |> putB SAFE_OUT_READBACK n level |> setStrand 0x11 (32 + n) (b2n level)
  let x := d.safe.outs.get {} n
  if safeOn d && x.settled && x.pulse == 0 && level != outOn n d then readbackFail 0x1103 n 0 d else d

def execSrbEdge (dt output : Nat) (level : Bool) (s : State) : Host.Outcome State Fault Refusal := onDev dt (srbEdgeAt output level) s

/-- An off-pulse of output `n` may start (R434): it has been on for OP_PERIOD, its last pulse is as far back, and no other output pulses. -/
def pulseDue (n : Nat) (r : Rec) (d : Dev) : Bool :=
  let x := d.safe.outs.get {} n
  let period := safeTime false (1000 * r.u P1101_OP_PERIOD)
  decide (period ≤ since (max x.onSince x.pulseAt) d) && (List.range 8).all fun k => (d.safe.outs.get {} k).pulse == 0

/-- OFF_PULSE_START: an output that has been on for OP_PERIOD opens one switch; a pulse due while it is off is skipped. -/
def offPulseStartAt (n : Nat) (d : Dev) : Dev :=
  match safeOutEntry n d with
  | none => d
  | some (r, o) =>
    let x := d.safe.outs.get {} n
    if bit (r.uAt (o + 1) 1) 1 && outOn n d && pulseDue n r d then
      safeShow n { d with safe := { d.safe with outs := d.safe.outs.put n { x with pulse := get SAFE_OUT_NEXT_SWITCH n d + 1, pulseAt := edge d } } }
    else d

def execOffPulseStart (dt output : Nat) (s : State) : Host.Outcome State Fault Refusal := onDev dt (offPulseStartAt output) s

/-- OFF_PULSE_END: the readback must have been low over the last 20 µs and be high again. -/
def offPulseEndAt (n : Nat) (low high : Bool) (d : Dev) : Dev :=
  let x := d.safe.outs.get {} n
  let width := (safeRec d).elim 0 fun r => r.u P1101_OP_WIDTH
  if x.pulse = 0 ∨ since x.pulseAt d < safeTime false width then d
  else
    let d := safeShow n { d with safe := { d.safe with outs := d.safe.outs.put n { x with pulse := 0 } } }
    let d := put SAFE_OUT_NEXT_SWITCH n (2 - x.pulse) d
    if low && high then bump SAFE_OUT_PULSES n d else readbackFail 0x1104 n (x.pulse - 1) d

def execOffPulseEnd (dt output : Nat) (low high : Bool) (s : State) : Host.Outcome State Fault Refusal :=
  onDev dt (offPulseEndAt output low high) s

/-! Lock-out and its reset (R436). -/

/-- SAFETY_DOMAIN_FAULT (R422, R425). -/
def safetyDomainFaultAt (internal : Bool) (d : Dev) : Dev :=
  if !safeOn d then put SAFE_STATUS_DOMAIN_OK 0 0 d
  else
    let d := forL (List.range 8) (fun n d => safeCmd n false (d.safe.outs.get {} n).cmdP d) d
    if internal then raiseSafety 0x1108 0 0 0 d else raiseSafety 0x1107 0 0 0 (put SAFE_STATUS_DOMAIN_OK 0 0 d)

def execSafetyDomainFault (dt : Nat) (internal : Bool) (s : State) : Host.Outcome State Fault Refusal :=
  onDev dt (safetyDomainFaultAt internal) s

/-- SRESET_PRESS_START. -/
def execSresetPressStart (dt : Nat) (s : State) : Host.Outcome State Fault Refusal :=
  onDev dt (fun d => put SAFE_STATUS_RESET_PIN 0 1 { d with safe := { d.safe with press := edge d + 1 } }) s

/-- The condition that caused the lock-out holds (R436), where no other condition of a press covers it. -/
def causeHolds (r : Rec) (d : Dev) : Bool :=
  let i := get SAFE_LOCK_CAUSE_INDEX 0 d
  match get SAFE_LOCK_CAUSE_CODE 0 d with
  | 0x1101 => [false, true].any fun proc =>
      inRunState i 0 (accepted proc i 0 d) r != inRunState i 1 (accepted proc i 1 d) r
  | 0x1105 => (d.safe.outs.get {} i).diff != 0
  | 0x1107 => !flag SAFE_STATUS_DOMAIN_OK 0 d
  | 0x1108 => d.safe.mismatch
  | _ => false

/-- The conditions of R436 in their order, for a press that ends now, 10 ms after the pin's rise. -/
def pressConditions (r : Rec) (both : Bool) (d : Dev) : List Bool :=
  let began := d.safe.press - 1
  let low := since began d - 4000000
  let ins := safeInputs r
  let tps := (List.range 4).filter fun k => fedBy k r != []
  [decide (d.safe.lastF5 < began),
   decide (100000000 ≤ low ∧ low ≤ 4000000000),
   both,
   (ins.all fun i => [false, true].all fun p => inState p i d != 2 && inState p i d != 3) &&
     tps.all fun k => (d.safe.tps.get {} k).lastOk,
   (safeOutputs r).all fun p => !flag SAFE_OUT_READBACK p.1 d,
   decide (since d.safe.lastCommit d ≤ 600000),
   !causeHolds r d]

/-- A successful reset: inputs in FAULT enter OPEN, the fields cleared at a reset clear, the safety faults end, and outputs with MANUAL_RESTART
wait for their request edge. -/
def safetyReset (r : Rec) (d : Dev) : Dev :=
  let freeIn (i : Nat) (d : Dev) : Dev :=
    let open_ (p : Bool) (d : Dev) : Dev := if inState p i d = 4 then setInState p i 0 d else d
    d |> open_ false |> open_ true |> put SAFE_IN_DISC_SEEN i 0 |> put SAFE_IN_TP_FAIL i 0
  let d := forL (safeInputs r) freeIn d
  let d := forL (safeOutputs r) (fun p d => put SAFE_OUT_RB_FAIL p.1 0 (openOutput p.1 d)) d
  d |> put SAFE_STATUS_STATE 0 2 |> setStrand 0x11 56 2 |> bumpSat SAFE_COUNTS_RESETS 0 |> put FLT_STATUS_LOCKED 0 0
    |> (fun d => refreshFaults { d with active := d.active.filter fun a => faultClass a.code != 5 }) |> (fun d => raise 0x110A 0 d)

/-- A press of SRESET_N ends (R436). The answer says whether it cleared a lock-out. -/
def pressEnd (both : Bool) (d : Dev) : Bool × Dev :=
  let fin (d : Dev) : Dev := put SAFE_STATUS_RESET_PIN 0 0 { d with safe := { d.safe with press := 0 } }
  match safeRec d with
  | none => (false, fin d)
  | some r =>
    if d.safe.press = 0 ∨ get SAFE_STATUS_STATE 0 d ≠ 3 then (false, fin d)
    else match (pressConditions r both d).idxOf? false with
      | some k => (false, fin (raise 0x110B 0 (bumpSat SAFE_STATUS_REFUSED 0 d) (k + 1)))
      | none => (true, fin (safetyReset r d))

/-! Start-up and RUN (R437, R429). -/

/-- Start-up step 5 ends: the safety state by the digest fuse, with every switch open. -/
def safetyStart (fused : Bool) (d : Dev) : Dev :=
  match safeRec d with
  | none => d
  | some r =>
    let locked := r.b P1101_FLAGS 0
    let st := if !fused then 1 else if locked then 3 else 2
    let d : Dev := { d with safe := { d.safe with outs := [], tims := [], tps := [], press := 0, mismatch := false, matAt := 0, reqAt := 0, lastF5 := edge d } }
    d |> put SAFE_STATUS_STATE 0 st |> setStrand 0x11 56 st |> putB SAFE_STATUS_START_LOCKED 0 locked
      |> put SAFE_STATUS_DOMAIN_OK 0 1 |> onlyIf (st == 3) (fun d => d |> put SAFE_LOCK_STAMP_STAMP 0 (now d) |> put FLT_STATUS_LOCKED 0 1)
      |> forL (List.range 4) (fun k => putB SAFE_TP_DRIVEN k (fedBy k r != []))
      |> forL (List.range 4) (fun k => putB SAFE_TP_LEVEL k (fedBy k r != []))
      |> forL (safeInputs r) (fun i d => setStrand 0x11 i 5 d)
      |> forL (safeOutputs r) (fun p d => openOutput p.1 d)

/-- RUN: every input starts in OPEN, and moves on with the levels accepted by then; T2's commits are awaited from here. -/
def safetyRun (d : Dev) : Dev :=
  match safeRec d with
  | none => d
  | some r =>
    let begin_ (i : Nat) (p : Bool) (d : Dev) : Dev :=
      let d := setInState p i 0 d
      let run (c : Nat) : Bool := inRunState i c (accepted p i c d) r
      let d := if run 0 then inputMove p i true false d else d
      if run 1 then inputMove p i true (run 0) d else d
    let d := forL (safeInputs r) (fun i d => begin_ i true (begin_ i false d)) d
    { d with safe := { d.safe with lastCommit := edge d } }

end Sys2Proof.Machine
end

