-- ==== Sys2Proof/Machine/Pool.lean ====
section
/-! DEFINITION. The reserve pool (R465 to R472) as every kind of resource uses it, and the urgent doff of a ply engine. Kinds
are 0 (Spindle cores), 1 (ply engines) and 2 (Shuttle engines). -/

namespace Sys2Proof.Machine

/-- The flag that a reserve of the kind is free. -/
def spareFld (kind : Nat) : Fld :=
  match kind with
  | 0 => RSV_STATUS_CORE_SPARE
  | 1 => RSV_STATUS_PLY_SPARE
  | _ => RSV_STATUS_SHU_SPARE

/-- The retired bits of the kind. -/
def retiredFld (kind : Nat) : Fld :=
  match kind with
  | 0 => RSV_RETIRED_CORE
  | 1 => RSV_RETIRED_PLY
  | _ => RSV_RETIRED_SHU

/-- Logical resources of a kind in service (R465). -/
def kindCount (kind : Nat) : Nat := if kind = 0 then 4 else if kind = 1 then 8 else 2

/-- The physical resource that a logical one stands on. -/
def physOf (kind e : Nat) (d : Dev) : Nat :=
  match kind with
  | 0 => get CREEL_CORE_STATE_PHYS e d
  | 1 => get PLY_ENG_STATUS_PHYS e d
  | _ => get SHU_ENG_STATUS_PHYS e d

/-- The map moves the logical resource to another physical one, with its epoch (R128, R467). -/
def setPhys (kind e p : Nat) (d : Dev) : Dev :=
  match kind with
  | 0 => put CREEL_CORE_STATE_PHYS e p d
  | 1 => d |> put PLY_ENG_STATUS_PHYS e p |> bump PLY_ENG_STATUS_EPOCH e
  | _ => d |> put SHU_ENG_STATUS_PHYS e p |> bump SHU_ENG_STATUS_EPOCH e

/-- The physical resource of the kind that is neither in service nor retired. -/
def freePhys (kind : Nat) (d : Dev) : Option Nat :=
  (List.range (kindCount kind + 1)).find? fun p =>
    !bit (get (retiredFld kind) 0 d) p && (List.range (kindCount kind)).all fun e => physOf kind e d != p

/-- A resource is retired permanently (R466). -/
def retire (kind p : Nat) (d : Dev) : Dev :=
  put (retiredFld kind) 0 (setBit (get (retiredFld kind) 0 d) p true) d

/-- The shown state of a planned migration. -/
def showMigrating (kind e : Nat) (b : Bool) (d : Dev) : Dev :=
  let d := if kind = 1 then putB PLY_ENG_STATUS_MIGRATING e b d else d
  putB RSV_STATUS_MIGRATING 0 (d.pool.migs.any fun m => decide (now d < m.2.barrier)) d

/-- An urgent doff takes the reserve (R466, R471): a planned migration of the kind before its barrier is abandoned. The answer
is the physical reserve, none when the pool of the kind is empty. -/
def takeReserve (kind : Nat) (d : Dev) : Option Nat × Dev :=
  let d := match d.pool.migs.find? fun m => m.1 == kind with
    | some (_, m) => if now d < m.barrier then
        showMigrating kind m.logical false (put (spareFld kind) 0 1 { d with pool := { d.pool with migs := d.pool.migs.del kind } }) else d
    | none => d
  if get (spareFld kind) 0 d = 1 then (freePhys kind d, put (spareFld kind) 0 0 d) else (none, d)

/-- 0x1304: no reserve of the kind is left (R472). -/
def poolEmpty (phys : Nat) (d : Dev) : Dev := raise 0x1304 phys (put RSV_FLAGS_POOL_EMPTY 0 1 d)

/-- 0x1305: the work of the resource cannot be placed (R472). -/
def unplaced (phys : Nat) (d : Dev) : Dev := raise 0x1305 phys (put RSV_FLAGS_UNPLACED 0 1 d)

/-! Ply engines. -/

/-- A group's record in the image in force for it (R52; the model's class 0x502 in `switched`). -/
def grpRec (g : Nat) (d : Dev) : Option Rec := recFor 0x502 0x0502 P0502_GROUP g d

/-- The group is a twin group (R124). -/
def isTwin (r : Rec) : Bool := r.u P0502_TWIN_ENGINE != 0xFF

/-- The logical engine that evaluates the group as its ENGINE (R104, R472). -/
def grpEngine (g : Nat) (r : Rec) (d : Dev) : Nat :=
  let x := d.grps.get {} g
  if x.placed = 0 then r.u P0502_ENGINE else x.placed - 1

/-- The numbers of the groups that logical engine `e` evaluates. -/
def groupsOn (e : Nat) (d : Dev) : List Nat :=
  ((recsOf 0x0502 d).filter fun r => grpEngine (r.u P0502_GROUP) r d == e || r.u P0502_TWIN_ENGINE == e).map (·.u P0502_GROUP)

/-- TWIN_SINGLE of a group's plies (R127). -/
def showSingle (g : Nat) (b : Bool) (d : Dev) : Dev :=
  match grpRec g d with
  | none => d
  | some r =>
    let d := forL (groupPlies d r) (fun p d => putB PLY_STATE_TWIN_SINGLE p b d) d
    putB PLY_STATUS_TWIN_SINGLE 0 ((recsOf 0x0502 d).any fun q => isTwin q &&
      (groupPlies d q).any fun p => flag PLY_STATE_TWIN_SINGLE p d) d

/-- Twin groups of engine `e` run on the other one (R127). -/
def singleGroups (e : Nat) (d : Dev) : Dev :=
  forL (groupsOn e d) (fun g d =>
    match grpRec g d with
    | none => d
    | some r => if !isTwin r then d
      else
        let only := if r.u P0502_ENGINE = e then 2 else 1
        showSingle g true { d with grps := d.grps.put g { d.grps.get {} g with single := only } }) d

/-- The share of a group on an engine (R108), in cycles per ns times 5/2. -/
def shareOf (r : Rec) (d : Dev) : Rat :=
  match d.img with
  | none => 0
  | some m => (grpCost m r : Rat) / ((2 : Rat) / 5 * r.u P0502_MIN_PERIOD)

/-- The load of logical engine `e` with the groups it has now. -/
def loadNow (e : Nat) (d : Dev) : Rat :=
  ((groupsOn e d).filterMap fun g => grpRec g d).foldl (fun s r => s + shareOf r d) 0

/-- The engines that are left for a group of engine `e` (R472): those that still satisfy R108 at 95 % with it, or all that remain where none
does. -/
def enginesFor (e : Nat) (r : Rec) (d : Dev) : List Nat :=
  let left := (List.range 8).filter fun b => b != e && !(d.engs.get {} b).out
  let room := left.filter fun b => decide (loadNow b d + shareOf r d ≤ 19 / 20)
  if room.isEmpty then left else room

/-- A non-twin group of an engine without a reserve moves to a remaining engine (R472). The spec does not say which: a free choice among
them (log entry 31). -/
def placeGroup (e g : Nat) (d : Dev) : Dev :=
  match grpRec g d with
  | none => d
  | some r =>
    if isTwin r then d
    else match oneOf (enginesFor e r d) d with
      | (none, d) => d
      | (some b, d) => { d with grps := d.grps.put g { d.grps.get {} g with placed := b + 1 } }

/-- Every remaining engine satisfies R108 at 95 %. -/
def placedOk (d : Dev) : Bool :=
  (List.range 8).all fun b => (d.engs.get {} b).out || decide (loadNow b d ≤ 19 / 20)

/-- Logical ply engine `e` is doffed urgently (R127, R466, R468, R472). -/
def doffPly (e : Nat) (d : Dev) : Dev :=
  let x := d.engs.get {} e
  if x.out then d
  else
    let p := physOf 1 e d
    let d := d |> retire 1 p |> bumpSat RSV_STATUS_DOFFS 0 |> singleGroups e
    match takeReserve 1 d with
    | (some q, d) =>
      let gs := groupsOn e d
      let d := setPhys 1 e q d
      if gs = [] then raise 0x1302 p d
      else { d with pool := { d.pool with moves := d.pool.moves.put e (p :: gs) } }
    | (none, d) =>
      let d := { d with engs := d.engs.put e { x with out := true } }
        |> put PLY_STATUS_ENGINES 0 (setBit (get PLY_STATUS_ENGINES 0 d) e false) |> poolEmpty p
      let d := forL (groupsOn e d) (placeGroup e) d
      if placedOk d then d else unplaced p d

/-- The Shuttle tasks of a logical engine. -/
def tasksOn (e : Nat) (d : Dev) : List Nat := ((recsOf 0x0902 d).filter fun r => r.u P0902_ENGINE == e).map (·.u P0902_TASK)

/-- A planned migration begins (R467): the barrier lies 100 µs ahead, and every group or task of the engine must pass it. -/
def startMig (kind e : Nat) (rotate : Bool) (d : Dev) : Dev :=
  match freePhys kind d with
  | none => d
  | some q =>
    let b := now d + 100 * us16
    let left := if kind = 1 then groupsOn e d else tasksOn e d
    { d with pool := { d.pool with migs := d.pool.migs.put kind ⟨e, q, b, left, rotate⟩ } }
      |> put (spareFld kind) 0 0 |> put RSV_LAST_STAMP 0 b |> showMigrating kind e true

/-- What a planned doff does with the old resource (R470): a rotated one waits for its self-test, any other is retired. -/
def leaveService (kind old : Nat) (rotate : Bool) (d : Dev) : Dev :=
  let d := bumpSat RSV_STATUS_DOFFS 0 d
  if rotate then { d with pool := { d.pool with aged := d.pool.aged ++ [kind * 16 + old] } } else retire kind old d

/-- A core moves to the reserve at an instruction boundary (R98): its running activation continues there. -/
def moveCore (c : Nat) (rotate : Bool) (d : Dev) : Dev :=
  match freePhys 0 d with
  | none => d
  | some q =>
    let old := physOf 0 c d
    raise 0x1301 old (leaveService 0 old rotate (setPhys 0 c q (put (spareFld 0) 0 0 d)))

/-- A planned doff of logical resource `e` (R466, R471): it waits while a migration of its kind is under way or the reserve of its
kind is in use. -/
def plannedDoff (kind e : Nat) (rotate : Bool) (d : Dev) : Dev :=
  let key := kind * 32 + e * 2 + b2n rotate
  if (d.pool.migs.any (·.1 == kind)) || get (spareFld kind) 0 d == 0 then
    if (d.pool.migs.any fun m => m.1 == kind && m.2.logical == e) || d.pool.waiting.any (fun w => w / 2 == key / 2) then d
    else { d with pool := { d.pool with waiting := d.pool.waiting ++ [key] } }
  else if kind = 0 then moveCore e rotate d else startMig kind e rotate d

/-- The first waiting request of a kind starts when it may (R471). -/
def startWaiting (kind : Nat) (d : Dev) : Dev :=
  match d.pool.waiting.find? fun w => w / 32 == kind with
  | some w =>
    if get (spareFld kind) 0 d = 0 ∨ d.pool.migs.any (·.1 == kind) then d
    else plannedDoff kind (w % 32 / 2) (w % 2 == 1) { d with pool := { d.pool with waiting := d.pool.waiting.filter (· != w) } }
  | none => d

/-- A planned migration has passed its last barrier (R467, R470): the map moves, and 0x1301. -/
def migDone (kind : Nat) (d : Dev) : Dev :=
  match d.pool.migs.find? fun m => m.1 == kind with
  | none => d
  | some (_, m) =>
    let old := physOf kind m.logical d
    { d with pool := { d.pool with migs := d.pool.migs.del kind } }
      |> setPhys kind m.logical m.target |> leaveService kind old m.rotate
      |> showMigrating kind m.logical false |> (fun d => raise 0x1301 old d)

/-- Object `k` (a group or a task) passes the barrier of a planned migration of the kind at stamp `t` (R128, R467). -/
def passBarrier (kind k t : Nat) (d : Dev) : Dev :=
  match d.pool.migs.find? fun m => m.1 == kind with
  | none => d
  | some (_, m) =>
    if t < m.barrier ∨ ¬ m.left.contains k then d
    else
      let left := m.left.filter (· != k)
      let d := showMigrating kind m.logical false { d with pool := { d.pool with migs := d.pool.migs.put kind { m with left := left } } }
      if left = [] then migDone kind d else showMigrating kind m.logical true d

/-- A group is launched on the reserve that stands in for a doffed engine; with the last one the move is complete (R127, R468). -/
def passMoves (g : Nat) (d : Dev) : Dev :=
  forL d.pool.moves (fun m d =>
    match m.2 with
    | p :: gs =>
      if !gs.contains g then d
      else
        let left := gs.filter (· != g)
        if left = [] then raise 0x1302 p { d with pool := { d.pool with moves := d.pool.moves.del m.1 } }
        else { d with pool := { d.pool with moves := d.pool.moves.put m.1 (p :: left) } }
    | [] => d) d

end Sys2Proof.Machine
end

