-- ==== Sys2Proof/Machine/Creel.lean ====
section
/-! DEFINITION. The Creel (R86 to R99): threads and their states, wakes, placement and dispatch, ticks, budgets and the service
share, and the doff of a core. -/

namespace Sys2Proof.Machine

/-! Threads. -/

/-- A thread's notes changed. -/
def thrMod (t : Nat) (f : ThreadX → ThreadX) (d : Dev) : Dev :=
  { d with creel := { d.creel with threads := d.creel.threads.put t (f (d.creel.threads.get {} t)) } }

/-- A core's notes. -/
def coreX (c : Nat) (d : Dev) : CoreX := d.creel.cores.get {} c

/-- A core's notes changed. -/
def coreMod (c : Nat) (f : CoreX → CoreX) (d : Dev) : Dev :=
  { d with creel := { d.creel with cores := d.creel.cores.put c (f (coreX c d)) } }

/-- A thread's entry in the thread record: the record and the entry's number. -/
def thrEntry (t : Nat) (d : Dev) : Option (Rec × Nat) :=
  (recOf 0x0402 d).bind fun r => ((List.range (r.uAt 0 2)).find? fun i => r.u P0402_THREAD i == t).map fun i => (r, i)

/-- A field of a thread's entry; `z` for T0 to T7. -/
def thrField (f : PF) (z t : Nat) (d : Dev) : Nat :=
  match thrEntry t d with
  | some (r, i) => r.u f i
  | none => z

/-- The state of R89. -/
def thrState (t : Nat) (d : Dev) : Nat := get CREEL_THREAD_STATUS_STATE t d

/-- A thread's state shown. -/
def setThr (t st : Nat) (d : Dev) : Dev := put CREEL_THREAD_STATUS_STATE t st d

/-- The level of a thread: its own, or that of the most urgent thread that waits for a lock it holds (R93), through `fuel` locks in a
row. -/
def lockLevel : Nat → Nat → Dev → Nat
  | 0, t, d => get CREEL_THREAD_STATUS_BASE_LEVEL t d
  | fuel + 1, t, d => d.creel.locks.foldl (fun m l => if l.2.1 = t then l.2.2.foldl (fun m u => min m (lockLevel fuel u d)) m else m)
      (get CREEL_THREAD_STATUS_BASE_LEVEL t d)

/-- The priority in effect, of the 64 Creel locks included (R93). No row of the table takes or frees a lock (log entry 63). -/
def thrLevel (t : Nat) (d : Dev) : Nat := lockLevel 64 t d

/-- The logical cores in service. -/
def coresOn (d : Dev) : List Nat := (List.range 4).filter fun c => bit (get CREEL_STATUS_CORES 0 d) c

/-- The two cores that run T2 in lock-step: the two highest in service (R94, R98). -/
def lockCores (d : Dev) : List Nat := (coresOn d).drop ((coresOn d).length - 2)

/-- The cores that a thread is eligible for (R91, R94); a mask that names no core in service is widened to all (R98). The spec
gives T0 to T7 no mask: all cores. -/
def eligible (t : Nat) (d : Dev) : List Nat :=
  if t = 2 then lockCores d
  else
    let m := (coresOn d).filter fun c => bit (thrField P0402_AFFINITY 15 t d) c
    if m = [] then coresOn d else m

/-- The thread is a service session (R87). -/
def isRole2 (t : Nat) (d : Dev) : Bool := thrField P0402_ROLE 0 t d == 2

/-- The thread is a hank sequencer. -/
def isRole1 (t : Nat) (d : Dev) : Bool := thrField P0402_ROLE 0 t d == 1

/-! Ready lists (R91). -/

/-- The READY threads of a level. -/
def levelList (l : Nat) (d : Dev) : List Nat := d.creel.levels.get [] l

/-- A level's list replaced. -/
def setLevel (l : Nat) (ts : List Nat) (d : Dev) : Dev :=
  { d with creel := { d.creel with levels := d.creel.levels.set [] l ts } }

/-- A thread leaves its ready list. -/
def unready (t : Nat) (d : Dev) : Dev := setLevel (thrLevel t d) ((levelList (thrLevel t d) d).filter (· != t)) d

/-- A thread becomes READY and joins its level, at the tail or at the head; a session thread under an exhausted share is HELD at once
(R89, R97). -/
def enlist (t : Nat) (head : Bool) (d : Dev) : Dev :=
  let d := thrMod t (fun x => { x with ready := edge d }) d
  if d.creel.exhausted && isRole2 t d then setThr t 6 d
  else
    let l := levelList (thrLevel t d) d
    setThr t 3 (setLevel (thrLevel t d) (if head then t :: l else l ++ [t]) d)

/-! Cores. -/

/-- The level of the running thread; 32 when idle. -/
def runLevel (c : Nat) (d : Dev) : Nat := if (coreX c d).run = 0 then 32 else thrLevel ((coreX c d).run - 1) d

/-- The level of the thread in the bobbin slot; 32 when empty. -/
def slotLevel (c : Nat) (d : Dev) : Nat := if (coreX c d).slot = 0 then 32 else thrLevel ((coreX c d).slot - 1) d

/-- A core's registers (R101). -/
def showCore (c : Nat) (d : Dev) : Dev :=
  let x := coreX c d
  d |> put CREEL_CORE_STATE_RUNNING c (x.run - 1) |> putB CREEL_CORE_STATE_IDLE c (x.run == 0)
    |> putB CREEL_CORE_STATE_BOBBIN_FULL c (x.slot != 0) |> put CREEL_CORE_STATE_BOBBIN c (x.slot - 1)
    |> put CREEL_CORE_STATE_LEVEL c (if x.run = 0 then 0 else runLevel c d)
    |> putB CREEL_CORE_STATE_LOCKSTEP c (x.run == 3)

/-- The bobbin slot emptied. -/
def clearSlot (c : Nat) (d : Dev) : Dev := showCore c (coreMod c (fun x => { x with slot := 0 }) d)

/-- A READY thread loaded into a core's slot; the thread displaced returns to the head of its level. -/
def loadSlot (c t : Nat) (d : Dev) : Dev :=
  let old := (coreX c d).slot
  let d := setThr t 4 (unready t d)
  let d := if old = 0 then d else enlist (old - 1) true d
  showCore c (coreMod c (fun x => { x with slot := t + 1 }) d)

/-- The best of some cores: the greatest key, the lower core on a tie. -/
def bestCore (key : Nat → Nat) (cs : List Nat) : Option Nat :=
  cs.foldl (fun best c => match best with
    | none => some c
    | some b => if key b < key c then some c else best) none

/-- The bobbin slots refilled (R91), one placement a round. -/
def refill : Nat → Dev → Dev
  | 0, d => d
  | fuel + 1, d =>
    let ready := (d.creel.levels.map (·.2)).flatten
    let tryOne (t : Nat) : Option (Nat × Nat) :=
      (bestCore (fun c => runLevel c d) ((eligible t d).filter fun c => decide (thrLevel t d < slotLevel c d))).map fun c => (c, t)
    match ready.findSome? tryOne with
    | some (c, t) => refill fuel (loadSlot c t d)
    | none => d

/-- A thread that became READY is placed (R91), and the slots are refilled. -/
def placeThread (t : Nat) (d : Dev) : Dev :=
  let lvl (c : Nat) : Nat := min (runLevel c d) (slotLevel c d)
  let d := match bestCore lvl (eligible t d) with
    | some c => if thrLevel t d < runLevel c d ∧ thrLevel t d < slotLevel c d then loadSlot c t d else d
    | none => d
  refill 16 d

/-- A thread becomes READY at the tail of its level and is placed (R91). -/
def thrReady (t : Nat) (d : Dev) : Dev :=
  let d := enlist t false d
  if thrState t d = 3 then placeThread t d else d

/-- A wake of thread `t` (R90, R99). -/
def wake (t : Nat) (d : Dev) : Dev :=
  let p := get CREEL_THREAD_STATUS_PENDING t d
  if isStandby d && isRole1 t d then put CREEL_THREAD_STATUS_PENDING t (min 15 (p + 1)) d
  else if thrState t d = 1 ∨ thrState t d = 2 then thrReady t d
  else if p = 15 then stick CREEL_THREAD_STATUS_WAKE_OVF t 0x0403 t d
  else put CREEL_THREAD_STATUS_PENDING t (p + 1) d

/-! Running. -/

/-- Edges as nanoseconds, halves up (R512). -/
def nsOf (n : Nat) : Nat := (5 * n + 1) / 2

/-- The running thread of a core is taken off it; its time counts for the core, the activation and the share. -/
def switchOut (c : Nat) (d : Dev) : Dev :=
  let x := coreX c d
  if x.run = 0 then d
  else
    let t := x.run - 1
    let y := d.creel.threads.get {} t
    let n := edge d - (y.runs - 1)
    let first := t ≠ 2 ∨ (lockCores d).head? = some c
    let d := coreMod c (fun x => { x with run := 0, busy := x.busy + n }) d
    let d := put CREEL_CORE_BUSY_NS c (nsOf (x.busy + n)) d
    let d := if isRole2 t d then { d with creel := { d.creel with share := d.creel.share + (edge d - y.slice) } } else d
    showCore c (thrMod t (fun y => { y with used := if first then y.used + n else y.used }) d)

/-- A core switches to thread `t`. -/
def switchIn (c t : Nat) (d : Dev) : Dev :=
  let y := d.creel.threads.get {} t
  let d := thrMod t (fun y => { y with runs := edge d + 1, slice := edge d, began := if y.began = 0 then edge d + 1 else y.began }) d
  let d := coreMod c (fun x => { x with run := t + 1 }) d
  d |> setThr t 5 |> put CREEL_THREAD_STATUS_CORE t c |> bump CREEL_CORE_LAT_SWITCHES c
    |> maxUp CREEL_CORE_LAT_MAX_NS c (nsOf (edge d - y.ready)) |> showCore c

/-- The running thread of a core is preempted: back to the head of its level. -/
def preempt (c : Nat) (d : Dev) : Dev :=
  let t := (coreX c d).run
  if t = 0 then d else enlist (t - 1) true (switchOut c d)

/-- The core's running thread leaves it at a wait: when its own slot is empty, the most urgent eligible thread in another core's
slot moves to it (R91). -/
def drawSlot (c : Nat) (d : Dev) : Dev :=
  if (coreX c d).slot ≠ 0 then d
  else
    let others := (coresOn d).filter fun b => b != c && (coreX b d).slot != 0 && (eligible ((coreX b d).slot - 1) d).contains c
    match bestCore (fun b => 32 - slotLevel b d) others with
    | none => d
    | some b =>
      let t := (coreX b d).slot - 1
      let d := clearSlot b d
      showCore c (coreMod c (fun x => { x with slot := t + 1 }) d)

/-- THREAD_DISPATCH (R93, R94): a core that is idle, or runs a less urgent thread than the one in its bobbin slot, switches to
it. T2 takes both of its cores on one edge; of two threads of one level that it preempts, the higher core's then stands first
(DESIGN CHOICE, log entry 64). -/
def threadDispatchAt (c : Nat) (d : Dev) : Dev :=
  let x := coreX c d
  if x.slot = 0 ∨ runLevel c d ≤ slotLevel c d ∨ ¬ inRun d then d
  else
    let t := x.slot - 1
    let d := clearSlot c d
    let d := if t = 2 then forL (lockCores d) (fun b d => switchIn b 2 (preempt b d)) d else switchIn c t (preempt c d)
    refill 16 d

def execThreadDispatch (dt core : Nat) (s : State) : Host.Outcome State Fault Refusal := onDev dt (threadDispatchAt core) s

/-- The thread leaves every core that runs it. -/
def leaveCores (t : Nat) (d : Dev) : Dev :=
  forL (coresOn d) (fun c d => if (coreX c d).run = t + 1 then switchOut c d else d) d

/-- The cores that are idle draw threads, and the slots are refilled. -/
def settleCores (d : Dev) : Dev :=
  refill 16 (forL (coresOn d) (fun c d => if (coreX c d).run = 0 then drawSlot c d else d) d)

/-- The core time of an activation that ends, committed or not, is noted (R101). -/
def noteTime (t : Nat) (d : Dev) : Dev :=
  let ns := nsOf (d.creel.threads.get {} t).used
  d |> put CREEL_THREAD_TIME_LAST_NS t (satU 32 ns) |> maxUp CREEL_THREAD_TIME_MAX_NS t ns

/-- The activation of a thread ends without a commit (R88, R96). -/
def abandon (t : Nat) (d : Dev) : Dev :=
  settleCores (setThr t 1 (thrMod t (fun y => { y with used := 0, began := 0 }) (noteTime t (leaveCores t d))))

/-- SLICE_EXPIRY (R89): back to the tail of its level. -/
def sliceExpiryAt (c : Nat) (d : Dev) : Dev :=
  let x := coreX c d
  if x.run = 0 then d
  else
    let t := x.run - 1
    let sl := thrField P0402_SLICE 0 t d
    if sl = 0 ∨ edge d - ((d.creel.threads.get {} t).runs - 1) < 400 * sl then d
    else settleCores (enlist t false (leaveCores t d))

def execSliceExpiry (dt core : Nat) (s : State) : Host.Outcome State Fault Refusal := onDev dt (sliceExpiryAt core) s

/-- Core time of the activation that a core runs. -/
def coreTime (t : Nat) (d : Dev) : Nat :=
  let y := d.creel.threads.get {} t
  y.used + (edge d - (y.runs - 1))

/-- A running thread of the image has run longer than its MAX_RUN (R96). -/
def pastLimit (t : Nat) (d : Dev) : Bool :=
  let m := thrField P0402_MAX_RUN 0 t d
  decide (8 ≤ t ∧ m ≠ 0 ∧ 400 * m < coreTime t d)

/-- The core runs a thread past its MAX_RUN (R96): the thread. The limits of T0 to T7 are Koresque's. -/
def overrunning (c : Nat) (d : Dev) : Option Nat :=
  match (coreX c d).run with
  | 0 => none
  | t + 1 => if t < 8 ∨ pastLimit t d then some t else none

/-! Ticks (R95). -/

/-- The count of a tick. -/
def tickCount (k : Nat) (d : Dev) : Nat := if k = 0 then get CREEL_TICK0_COUNT 0 d else get CREEL_TICK1_COUNT 0 d

/-- A delayed thread whose tick has reached its count becomes READY. -/
def delayDue (t : Nat) (d : Dev) : Dev :=
  let y := d.creel.threads.get {} t
  if thrState t d = 2 ∧ y.until_ ≤ tickCount y.tick d then thrReady t d else d

/-- Delay-list expiries of a tick, in ascending expiry tick and then thread number (R92). -/
def expireDelays (k : Nat) (d : Dev) : Dev :=
  let l := d.creel.threads.filter fun p => thrState p.1 d == 2 && p.2.tick == k && decide (p.2.until_ ≤ tickCount k d)
  forL ((l.map fun p => (p.2.until_, p.1)).mergeSort fun a b => decide (a.1 < b.1 ∨ (a.1 = b.1 ∧ a.2 ≤ b.2)))
    (fun p d => delayDue p.2 d) d

/-- What follows the wakes of an edge's picks once the last of them has fired (R92): wakes from cycle hooks, then the expiries of
tick 0 and of tick 1. -/
def edgeWakes (d : Dev) : Dev :=
  if dueBelow 1024 d then d
  else
    let hs := d.creel.hooks.mergeSort fun a b => decide (a.1 ≤ b.1)
    expireDelays 1 (expireDelays 0 (forL hs (fun h d => wake h.2 d) { d with creel := { d.creel with hooks := [] } }))

/-- Whole multiples of TICK0_PERIOD that its measure has passed. -/
def tick0Now (d : Dev) : Nat :=
  let r := recOf 0x0401 d
  (measRaw (orD r P0401_TICK0_MEASURE 0) (now d) d).toNat * 5 / (32 * orD0 r P0401_TICK0_PERIOD 1000)

/-- TICK0_ADVANCE (R95): the measure has crossed a whole multiple of TICK0_PERIOD. -/
def tick0AdvanceAt (d : Dev) : Dev :=
  if inRun d ∧ d.creel.tick0 < tick0Now d then
    { d with creel := { d.creel with tick0 := d.creel.tick0 + 1 } } |> bump CREEL_TICK0_COUNT 0 |> edgeWakes
  else d

def execTick0Advance (dt : Nat) (s : State) : Host.Outcome State Fault Refusal := onDev dt tick0AdvanceAt s

/-- TICK1_PICK fired (R95). -/
def tick1Advance (pick : Nat) (d : Dev) : Dev :=
  let r := recOf 0x0401 d
  if orD r P0401_TICK1_ENABLE 0 = 1 ∧ orD r P0401_TICK1_PICK 0 = pick then bump CREEL_TICK1_COUNT 0 d else d

/-- DELAY_EXPIRY (R95). -/
def execDelayExpiry (dt thread : Nat) (s : State) : Host.Outcome State Fault Refusal := onDev dt (delayDue thread) s

/-! The service share (R97). -/

/-- Edges of the four cores that the share allows in a window of 10 ms. -/
def shareLimit (d : Dev) : Nat := orD0 (recOf 0x0401 d) P0401_SERVICE_SHARE 25 * 160000

/-- Core time that session threads have used in the window. -/
def shareUsed (d : Dev) : Nat :=
  d.creel.share + ((coresOn d).map fun c =>
    let t := (coreX c d).run
    if t ≠ 0 ∧ isRole2 (t - 1) d then edge d - (d.creel.threads.get {} (t - 1)).slice else 0).sum

/-- Session threads of the image. -/
def role2Threads (d : Dev) : List Nat :=
  match recOf 0x0402 d with
  | none => []
  | some r => ((List.range (r.uAt 0 2)).filter fun i => r.u P0402_ROLE i == 2).map fun i => r.u P0402_THREAD i

/-- SERVICE_SHARE_EXHAUSTED (R97): session threads become HELD, running ones by a preemption (DEDUCED, log entry 63), and 0x0402 once
in a window. -/
def shareExhaustedAt (d : Dev) : Dev :=
  if d.creel.exhausted ∨ shareUsed d < shareLimit d ∨ ¬ inRun d then d
  else
    let d : Dev := { d with creel := { d.creel with exhausted := true } }
    let hold (t : Nat) (d : Dev) : Dev :=
      if thrState t d = 3 then setThr t 6 (unready t d)
      else if thrState t d = 4 then
        setThr t 6 (forL (coresOn d) (fun c d => if (coreX c d).slot = t + 1 then clearSlot c d else d) d)
      else d
    let runs := (coresOn d).filter fun c => (coreX c d).run != 0 && isRole2 ((coreX c d).run - 1) d
    forL (role2Threads d) hold (forL runs preempt d) |> settleCores |> bumpSat CREEL_HELD_HELD_COUNT 0 |> (fun d => raise 0x0402 0 d)

def execServiceShareExhausted (dt : Nat) (s : State) : Host.Outcome State Fault Refusal := onDev dt shareExhaustedAt s

/-- SHARE_WINDOW_END (R97): windows are aligned to 10 ms of loom time. HELD threads rejoin their levels in the order of the thread
record (DESIGN CHOICE, log entry 64). -/
def shareWindowEndAt (d : Dev) : Dev :=
  let w := now d / 64000000
  if w ≤ d.creel.window ∨ ¬ inRun d then d
  else
    let pct := (shareUsed d * 100 * 2 + shareLimit d) / (2 * shareLimit d)
    let d := forL (coresOn d) (fun c d => match (coreX c d).run with
      | 0 => d
      | t + 1 => thrMod t (fun y => { y with slice := edge d }) d) d
    let d : Dev := { d with creel := { d.creel with window := w, share := 0, exhausted := false } }
    forL (role2Threads d) (fun t d => if thrState t d = 6 then placeThread t (enlist t false d) else d) d
      |> put CREEL_STATUS_SHARE_USED 0 (satU 8 pct)

/-! Doffing a core (R98). -/

/-- The running activation of a core begins again with the same wake, 0x0406. The time of the abandoned one counts. -/
def rerunOn (c : Nat) (d : Dev) : Dev :=
  match (coreX c d).run with
  | 0 => d
  | t + 1 =>
    let cs := (coresOn d).filter fun b => (coreX b d).run == t + 1
    let d := noteTime t (leaveCores t d)
    let d := thrMod t (fun y => { y with used := 0, began := edge d + 1, runs := edge d + 1, slice := edge d }) d
    raise 0x0406 c (forL cs (fun b d => showCore b (coreMod b (fun x => { x with run := t + 1 }) d)) d)

/-- Logical core `c` leaves service: its threads are placed on the others, and 0x0407. On a level that both share, the thread that is
run again stands ahead of the one from the slot, and it is placed first (DESIGN CHOICE, log entry 64). -/
def removeCore (c : Nat) (d : Dev) : Dev :=
  let run := (coreX c d).run
  let slot := (coreX c d).slot
  let d := if run = 0 then d else leaveCores (run - 1) d
  let d := clearSlot c d |> put CREEL_STATUS_CORES 0 (setBit (get CREEL_STATUS_CORES 0 d) c false)
  let d := if slot = 0 then d else enlist (slot - 1) true d
  let d := if run = 0 then d
    else raise 0x0406 c (enlist (run - 1) true (thrMod (run - 1) (fun y => { y with used := 0, began := 0 }) (noteTime (run - 1) d)))
  let again (t : Nat) (d : Dev) : Dev := if t = 0 ∨ thrState (t - 1) d ≠ 3 then d else placeThread (t - 1) d
  raise 0x0407 c (settleCores (again slot (again run d)))

/-- A core is doffed urgently (R98, R466, R472). -/
def doffCore (c : Nat) (d : Dev) : Dev :=
  if !(coresOn d).contains c then d
  else
    let p := physOf 0 c d
    let d := d |> retire 0 p |> bumpSat RSV_STATUS_DOFFS 0
    match takeReserve 0 d with
    | (some q, d) => raise 0x1302 p (rerunOn c (setPhys 0 c q d))
    | (none, d) => removeCore c (poolEmpty p d)

/-- CORE_LOCKSTEP_MISMATCH (R98): a core fails its lock-step compare or self-check. -/
def execCoreLockstepMismatch (dt core : Nat) (s : State) : Host.Outcome State Fault Refusal :=
  onDev dt (fun d => if inRun d then doffCore core d else d) s

/-! RUN. -/

/-- The levels and roles of the image (R86, R87). -/
def creelImage (d : Dev) : Dev :=
  let fixed := [28, 1, 0, 3, 16, 2, 18, 30]
  let show1 (t l : Nat) (d : Dev) : Dev := d |> put CREEL_THREAD_STATUS_BASE_LEVEL t l |> put CREEL_THREAD_STATUS_LEVEL t l
  let d : Dev := { d with creel := {} }
  let d := forL fixed.zipIdx (fun p d => show1 p.2 p.1 d) d
  let d := match recOf 0x0402 d with
    | none => d
    | some r => forL (List.range (r.uAt 0 2)) (fun i d => show1 (r.u P0402_THREAD i) (r.u P0402_PRIORITY i) d) d
  let r := recOf 0x0401 d
  d |> put CREEL_STATUS_TICK1_EN 0 (orD r P0401_TICK1_ENABLE 0) |> put CREEL_STATUS_SHARE 0 (orD0 r P0401_SERVICE_SHARE 25)
    |> put CREEL_STATUS_CORES 0 15

/-- RUN begins: every thread waits, both ticks are 0 (R89, R95). -/
def creelRun (d : Dev) : Dev :=
  let image := match recOf 0x0402 d with
    | none => []
    | some r => (List.range (r.uAt 0 2)).map fun i => r.u P0402_THREAD i
  let d := forL (List.range 8 ++ image) (fun t d => setThr t 1 d) d
  let d := d |> put CREEL_TICK0_COUNT 0 0 |> put CREEL_TICK1_COUNT 0 0
  forL (List.range 4) showCore { d with creel := { d.creel with tick0 := tick0Now d, window := now d / 64000000 } }

end Sys2Proof.Machine
end

