-- ==== Sys2Proof/Machine/Arith.lean ====
section
/-! DEFINITION. The fixed-point arithmetic of the control path: rnd and clamp (R115), the cosine table (R180), and the
firing angle of R196. -/

namespace Sys2Proof.Machine

/-- rnd of R115: units of 2^-59 to units of 2^-31, halves toward +∞. -/
def rnd (z : Int) : Int := (z + 134217728) / 268435456

/-- clamp of R115. -/
def clampQ (x : Int) : Int := clampI (-2147483648) 2147483647 x

/-- clamp changes its operand. -/
def clips (x : Int) : Bool := clampQ x != x

/-- A quotient of two 48.16 values rounded to nearest in Q1.31, halves up (R140). -/
def ratioQ (n : Int) (d : Nat) : Int := if d = 0 then 0 else divHalfUp (n * 2147483648) d

/-- π × 2^64, rounded down. -/
def pi64 : Int := 57952155664616982739

/-- Terms of the cosine series, from term `k` on. -/
def cosTail : Nat → Int → Int → Int → Int → Int
  | 0, _, _, _, s => s
  | n + 1, k, x2, t, s =>
    let t' := (-(t * x2 / 18446744073709551616)) / ((2 * k - 1) * (2 * k))
    cosTail n (k + 1) x2 t' (s + t')

/-- cos x × 2^64 for x × 2^64 from 0 to π/2. -/
def cosFix (x : Int) : Int :=
  cosTail 13 1 (x * x / 18446744073709551616) 18446744073709551616 18446744073709551616

/-- cos of `a` / 2^32 revolutions, times 2^64. -/
def cosTurn (a : Nat) : Int :=
  let a := a % 4294967296
  let j := a % 1073741824
  let c (k : Nat) : Int := if k = 1073741824 then 0 else cosFix (2 * pi64 * k / 4294967296)
  match a / 1073741824 with
  | 0 => c j
  | 1 => -c (1073741824 - j)
  | 2 => -c j
  | _ => c (1073741824 - j)

/-- Entry `i` of the table T of R180: cos(2πi/4096) × 2^28 rounded to nearest. -/
def cosTable (i : Nat) : Int := (cosTurn (i % 4096 * 1048576) + 34359738368) / 68719476736

/-- cos φ in Q4.28 (R180). -/
def cosQ (phi : Nat) : Int :=
  let phi := phi % 4294967296
  let i := phi / 1048576
  let f : Int := (phi % 1048576 : Nat)
  cosTable i + ((cosTable (i + 1) - cosTable i) * f + 524288) / 1048576

/-- sin φ in Q4.28 (R180). -/
def sinQ (phi : Nat) : Int := cosQ (phi + 3221225472)

/-- 1 − α/π + sin(2α)/(2π), times 2^64, for α in angle counts (R196). -/
def powerOf (alpha : Nat) : Int :=
  18446744073709551616 - (alpha : Int) * 8589934592 +
    cosTurn (2 * alpha + 3221225472) * 18446744073709551616 / (2 * pi64)

/-- The largest α, bit by bit, at which the power is at least `p` (Q1.31). -/
def alphaSearch : Nat → Int → Nat → Nat
  | 0, _, acc => acc
  | n + 1, p, acc => alphaSearch n p (if p * 8589934592 ≤ powerOf (acc + 2 ^ n) then acc + 2 ^ n else acc)

/-- α for the power fraction `p` (R196): the solution, off by a free error of at most 0.01°, clamped. -/
def alphaFor (p : Int) (lo hi : Nat) : Nat :=
  let a : Int := alphaSearch 31 p 0
  let e : Int := (Config.alphaError (ofInt 32 p) % 238609 : Nat) - 119304
  (clampI lo hi (a + e)).toNat

end Sys2Proof.Machine
end

