-- ==== Sys2Proof/Machine/Drive.lean ====
section
/-! DEFINITION. The local drive (R174 to R205): sigma-delta channels, the transforms of the current path, carriers,
staging and reload, bridge and auxiliary outputs. -/

namespace Sys2Proof.Machine

/-- A sigma-delta channel's record. -/
def sdRec (c : Nat) (d : Dev) : Option Rec := recAt 0x0702 P0702_CHANNEL c d

/-- A PWM group's record. -/
def pwmRec (g : Nat) (d : Dev) : Option Rec := recAt 0x0703 P0703_GROUP g d

/-- DIV of a channel's modulator clock (R174). -/
def sdDiv (r : Rec) (d : Dev) : Nat := orD (recAt 0x0701 P0701_CLOCK (r.u P0702_CLOCK) d) P0701_DIV 16

/-- The channel uses of a drive record. -/
def driveChans (r : Rec) : List Nat :=
  [r.u P0704_SD_A, r.u P0704_SD_B] ++ (if r.u P0704_SD_C = 0xFF then [] else [r.u P0704_SD_C])

/-- The local drive axes that use a channel. -/
def drivesOfChan (c : Nat) (d : Dev) : List Nat :=
  ((recsOf 0x0704 d).filter fun r => (driveChans r).contains c).map (·.u P0704_AXIS)

/-! Decimators (R175 to R177). -/

/-- n over 2. -/
def choose2 (n : Int) : Int := if n < 2 then 0 else n * (n - 1) / 2

/-- Tap `k` of the sinc3 impulse response of order `m`, for k = 0 to 3m − 3. -/
def sinc3Tap (m k : Int) : Int := choose2 (k + 2) - 3 * choose2 (k + 2 - m) + 3 * choose2 (k + 2 - 2 * m)

/-- Tap `k` of the sinc2 impulse response of order `m`, for k = 0 to 2m − 2. -/
def sinc2Tap (m k : Int) : Int := if k < m then k + 1 else 2 * m - 1 - k

/-- Bits weighted by taps: 1 counts +1 and 0 counts −1, swapped by INVERT (R175). -/
def tapSum (tap : Int → Int) (invert : Bool) (bs : List Bool) : Int :=
  (bs.zip (List.range bs.length)).foldl (fun s p => s + tap p.2 * (if p.1 != invert then 1 else -1)) 0

/-- The raw value x of R175 from 3·OSR − 2 bits, oldest first. -/
def sdRaw (r : Rec) (bs : List Bool) : Int :=
  let l := r.u P0702_OSR_LOG2
  clampQ (tapSum (sinc3Tap (2 ^ l : Nat)) (r.b P0702_FLAGS 0) bs * (2 ^ (31 - 3 * l) : Nat))

/-- The overcurrent detector's value from 2·OC_OSR − 1 bits (R177). -/
def ocRaw (r : Rec) (bs : List Bool) : Int :=
  let l := r.u P0702_OC_OSR_LOG2
  clampQ (tapSum (sinc2Tap (2 ^ l : Nat)) (r.b P0702_FLAGS 0) bs * (2 ^ (31 - 2 * l) : Nat))

/-- The bits that a sample of the channel looks at. -/
def sdTaps (r : Rec) : Nat :=
  let m := 2 ^ r.u P0702_OSR_LOG2
  3 * m - 2 + (if r.b P0702_FLAGS 1 then m else 0)

/-- K of R176 in Q4.28: 1.5 · (OSR − 1) / OSR rounded to nearest. -/
def sdK (r : Rec) : Int := divHalfUp (3 * (2 ^ r.u P0702_OSR_LOG2 - 1 : Nat) * 134217728) (2 ^ r.u P0702_OSR_LOG2)

/-- The decimator's outputs at each modulator clock over the bits `bs`, oldest first (R175). -/
def sdOutputs (r : Rec) (bs : List Bool) : List Int :=
  let n := 3 * 2 ^ r.u P0702_OSR_LOG2 - 2
  (List.range (bs.length + 1 - n)).map fun i => sdRaw r ((bs.drop i).take n)

/-- The value v of R176 of the last bits, and whether a clamp acted or an output over the bits reached an end of the range (R175). -/
def sdValue (r : Rec) (bs : List Bool) : Int × Bool :=
  let m := 2 ^ r.u P0702_OSR_LOG2
  let gd := r.b P0702_FLAGS 1
  let xs := (sdOutputs r bs).reverse
  let x0 := xs.getD 0 0
  let x1 := xs.getD m 0
  let pre := if gd then x0 + rnd (sdK r * (x0 - x1)) else x0
  let v := rnd (r.s P0702_GAIN * clampQ pre) + r.s P0702_OFFSET
  let ends := xs.any fun x => x == 2147483647 || x == -2147483648
  (clampQ v, ends || clips pre || clips v)

/-- A SAMPLE action takes the channel's value (R176) from the bits last captured at or before the firing stamp less d_c,
oldest first; a stale channel keeps what it shows. Bits from further back, down to the last sample's, may be given with them: the
outputs that they make are judged as well (R175; log entry 101). -/
def sdSample (r : Rec) (bs : List Bool) (d : Dev) : Dev :=
  let c := r.u P0702_CHANNEL
  if flag DRV_SD_STATUS_STALE c d || decide (bs.length < sdTaps r) then d
  else
    let (v, sat) := sdValue r bs
    d |> putStrandsS [(0x07000 + c, v)] |> onlyIf sat (fun d => stick DRV_SD_STATUS_SAT c 0x0709 c d)

/-! Current path (R180, R181). -/

/-- The angles θ and θ_out at launch stamp `t` (R180), modulo 2^32. -/
def driveAngles (r : Rec) (t : Nat) (d : Dev) : Nat × Nat :=
  let n := match axisRec (r.u P0704_AXIS) d with
    | some q => q.u P0601_FB_INDEX
    | none => 0
  let lead : Rat := (r.u P0704_LEAD_NS : Rat) / 1000000000
  if r.b P0704_FLAGS 0 then
    let th := hallAngle n t d
    let w : Rat := ((fbSeen n t d).2 : Rat) / 65536 * (4294967296 / 6)
    (th, ofInt 32 (th + ratHalfUp (w * lead)))
  else
    let epc := r.s P0704_ELEC_PER_COUNT
    let seen := fbSeen n t d
    let th := ofInt 32 (r.u P0704_ELEC_OFFSET + seen.1 * epc / 281474976710656)
    let w : Rat := (seen.2 : Rat) * epc / 281474976710656
    (th, ofInt 32 (th + ratHalfUp (w * lead)))

/-- K3, KS, HALF and HS of R181 in Q4.28. -/
def k3 : Int := 89478485

def ks : Int := 154981283

def half28 : Int := 134217728

def hs28 : Int := 232471924

/-- Clarke and Park (R181): id, iq, and whether a clamp acted. -/
def clarkePark (ia ib : Int) (sc : Option Int) (th : Nat) : Int × Int × Bool :=
  let pc := -ia - ib
  let ic := sc.getD (clampQ pc)
  let za := rnd (k3 * (2 * ia - ib - ic))
  let zb := rnd (ks * (ib - ic))
  let (al, be) := (clampQ za, clampQ zb)
  let zd := rnd (cosQ th * al + sinQ th * be)
  let zq := rnd (cosQ th * be - sinQ th * al)
  (clampQ zd, clampQ zq, (sc.isNone && clips pc) || clips za || clips zb || clips zd || clips zq)

/-- Inverse Park and Clarke and the duty (R181): the three compares, XFORM_SAT and OVERMOD. -/
def dutyOf (vd vq : Int) (th : Nat) (period : Nat) : List Nat × Bool × Bool :=
  let za := rnd (cosQ th * vd - sinQ th * vq)
  let zb := rnd (sinQ th * vd + cosQ th * vq)
  let (val, vbe) := (clampQ za, clampQ zb)
  let yb := rnd (-half28 * val + hs28 * vbe)
  let yc := rnd (-half28 * val - hs28 * vbe)
  let (va, vb, vc) := (val, clampQ yb, clampQ yc)
  let off := -((max va (max vb vc) + min va (min vb vc)) / 2)
  let raw := [va, vb, vc].map fun v => 1073741824 + v + off
  let cs := raw.map fun x => ((clampI 0 2147483647 x * period + 1073741824) / 2147483648).toNat
  (cs, clips za || clips zb || clips yb || clips yc, raw.any fun x => clampI 0 2147483647 x != x)

/-! Carriers (R185 to R187). -/

/-- PERIOD in force. -/
def pwmP (g : Nat) (d : Dev) : Nat := get DRV_GRP_PERIOD_PERIOD g d

/-- W of R187. -/
def syncW (p pre : Nat) : Nat := 2 + (p * pre * 4 + 9999) / 10000

/-- The tick of the carrier, from 0 at the trough to 2P − 1 (R185); a group aligned by its pick waits at 0 for at most W
cycles after a trough that its pick has not confirmed (R187). -/
def pwmPhase (g : Nat) (r : Rec) (d : Dev) : Nat :=
  let p := pwmP g d
  let pre := r.u P0703_PRESCALE
  let e := since (d.groups.get {} g).start d
  let T := 2 * p * pre
  if r.u P0703_SYNC_PICK ≠ 0xFFFF ∧ T ≤ e ∧ e ≤ T + syncW p pre then 0 else e % T / pre

/-- The high-side command of compare `c` at tick `ph` (R186). -/
def highActive (c ph p : Nat) : Bool :=
  if c = 0 then false else if p ≤ c then true else decide (p - c ≤ ph ∧ ph < p + c)

/-- A compare in force, as a count; a negative INT32 counts as 0. -/
def compareOf (idx : Nat) (d : Dev) : Nat := (max 0 (toInt 32 (strand 0x07 idx d))).toNat

/-- A bridge pin brought to a command: on after DEAD_TIME, off at once (R186). -/
def pinTo (n b : Nat) (on : Bool) (d : Dev) : Dev := if on then pinOn (edge d) n b d else pinOff n b d

/-- The pins of a drive follow their compares at the present tick; past HOLD_LIMIT they stay at SAFE (R462). -/
def drivePins (ph p n : Nat) (d : Dev) : Dev :=
  let d := settlePins n d
  if get DRV_AX_STATUS_DRIVE n d ≠ 2 ∨ d.unit.holdDone then d
  else forL [0, 1, 2] (fun k d =>
    let high := highActive (compareOf (128 + 3 * n + k) d) ph p
    if high then d |> pinTo n (2 * k + 1) false |> pinTo n (2 * k) true
    else d |> pinTo n (2 * k) false |> pinTo n (2 * k + 1) true) d

/-- Every output of a running group takes the command of the present tick (R186, R195); none once the unit is reset (R192). -/
def refreshPins (g : Nat) (d : Dev) : Dev :=
  match pwmRec g d with
  | none => d
  | some r =>
    if !flag DRV_GRP_STATUS_RUNNING g d || !inRun d then d
    else
      let ph := pwmPhase g r d
      let p := pwmP g d
      let aux := (recsOf 0x0705 d).filter fun q => q.u P0705_MODE == 1 && q.u P0705_GROUP == g
      d |> drivePins ph p (2 * g) |> drivePins ph p (2 * g + 1)
        |> forL aux (fun q d => auxSet (q.u P0705_OUTPUT) (highActive (compareOf (176 + q.u P0705_OUTPUT) d) ph p) d)

/-- The edge is a reload point of the group (R190): the trough, the peak or both, once. -/
def atReload (g : Nat) (r : Rec) (d : Dev) : Bool :=
  let x := d.groups.get {} g
  let half := pwmP g d * r.u P0703_PRESCALE
  let e := since x.start d
  let sel := r.u P0703_RELOAD
  flag DRV_GRP_STATUS_RUNNING g d && x.reloaded != edge d + 1 && half != 0 &&
    ((e % (2 * half) == 0 && sel != 1) || (e % (2 * half) == half && sel != 0))

/-- The items staged before the present edge (R190). -/
def stagedItems (g : Nat) (d : Dev) : List (Nat × Nat) :=
  let x := d.groups.get {} g
  let old := if x.priorEdge = edge d + 1 then x.prior.filter (·.1 != 100) else []
  x.staged.filter (fun p => decide (x.stagedAt.get 0 p.1 < edge d)) ++ old

/-- The period staged before the present edge (R190). -/
def stagedPeriod (g : Nat) (d : Dev) : Option Nat :=
  let x := d.groups.get {} g
  if flag DRV_GRP_STATUS_PSTAGED g d && decide (x.stagedAt.get 0 100 < edge d) then some (get DRV_GRP_PERIOD_STAGED g d)
  else if x.priorEdge = edge d + 1 then (x.prior.find? (·.1 == 100)).map (·.2)
  else none

/-- A compare above the period in force sets DUTY_CLAMP (R186). -/
def dutyClamp (g : Nat) (d : Dev) : Dev :=
  let p := pwmP g d
  let idx := ((List.range 6).map (6 * g + 128 + ·)) ++
    ((recsOf 0x0705 d).filter fun q => q.u P0705_MODE == 1 && q.u P0705_GROUP == g).map fun q => 176 + q.u P0705_OUTPUT
  match idx.find? fun k => decide (p < compareOf k d) with
  | some k => stick DRV_GRP_STATUS_DUTY_CLAMP g 0x0706 g d 0 (compareOf k d)
  | none => d

/-- WAITING becomes SWITCHING at the first transfer of compares staged from a launch at or after the enable (R183). -/
def driveSwitch (keys : List Nat) (n : Nat) (d : Dev) : Dev :=
  let x := d.groups.get {} (n / 2)
  let l := x.launchOf.get 0 (3 * n)
  if get DRV_AX_STATUS_DRIVE n d = 1 ∧ keys.contains (3 * n) ∧ (d.drives.get {} n).enableEdge < l then
    put DRV_AX_STATUS_DRIVE n 2 d
  else d

/-- The staged items transfer to those in force (R190). What was staged on the present edge stays. -/
def transfer (g : Nat) (d : Dev) : Dev :=
  let x := d.groups.get {} g
  let items := stagedItems g d
  let keys := items.map (·.1)
  let per := stagedPeriod g d
  let newP := per.getD (pwmP g d)
  let rest := x.staged.filter fun p => !decide (x.stagedAt.get 0 p.1 < edge d)
  let idxOf (k : Nat) : Nat := if k < 48 then 128 + k else 176 + (k - 48)
  let atZero := since x.start d % (2 * pwmP g d * (orD (pwmRec g d) P0703_PRESCALE 1)) == 0
  let d := { d with groups := d.groups.put g { x with
    staged := rest, priorEdge := 0, prior := [], start := if atZero && newP != pwmP g d then edge d else x.start } }
  d |> forL items (fun p d => setStrandS 0x07 (idxOf p.1) (toInt 32 p.2) d)
    |> onlyIf per.isSome (fun d => d |> put DRV_GRP_PERIOD_PERIOD g newP |> setStrand 0x07 (208 + g) newP
        |> onlyIf (decide (x.stagedAt.get 0 100 < edge d)) (put DRV_GRP_STATUS_PSTAGED g 0))
    |> putB DRV_GRP_STATUS_DSTAGED g (rest != []) |> bump DRV_GRP_RELOADS_TRANSFERS g
    |> driveSwitch keys (2 * g) |> driveSwitch keys (2 * g + 1) |> dutyClamp g |> refreshPins g

/-- Load-all that a reload has taken or refused clears (R190, R191); one set again on the reload edge is held for the next reload. -/
def loadTaken (g : Nat) (d : Dev) : Dev :=
  let held := b2n ((d.groups.get {} g).again == edge d + 1)
  { d with groups := d.groups.put g { d.groups.get {} g with loadEdge := edge d } }
    |> put DRV_GRP_STATUS_LOAD_ALL g held |> put DRV_GRP_STATUS_LOAD_PENDING g held

/-- A reload edge (R190, R191). -/
def reload (g : Nat) (d : Dev) : Dev :=
  let x := d.groups.get {} g
  let p := (stagedPeriod g d).isSome
  let c := stagedItems g d != []
  let d := { d with groups := d.groups.put g { x with reloaded := edge d + 1 } }
  if !flag DRV_GRP_STATUS_LOAD_ALL g d then refreshPins g d
  else if x.loadEdge = edge d then refreshPins g (put DRV_GRP_STATUS_LOAD_PENDING g 1 d)
  else if !p && !c then refreshPins g (loadTaken g d)
  else if p != c && flag DRV_GRP_STATUS_PAIRED g d then
    d |> loadTaken g |> bumpSat DRV_GRP_COUNT_REFUSED g
      |> (fun d => stick DRV_GRP_STATUS_LOAD_REFUSED g 0x0705 g d) |> refreshPins g
  else transfer g (loadTaken g d)

/-- Load-all set (R182, R190); behind a reload that the present edge has already had, it is held for the next one. -/
def loadAll (g : Nat) (d : Dev) : Dev :=
  let x := d.groups.get {} g
  if flag DRV_GRP_STATUS_LOAD_ALL g d then { d with groups := d.groups.put g { x with again := edge d + 1 } }
  else { d with groups := d.groups.put g { x with loadEdge := edge d } } |> put DRV_GRP_STATUS_LOAD_ALL g 1
    |> onlyIf (x.reloaded == edge d + 1) (put DRV_GRP_STATUS_LOAD_PENDING g 1)

/-- The counter enters 0 on the present edge; `carried` says that the trough's reload has been carried. -/
def carrierZero (g : Nat) (carried : Bool) (d : Dev) : Dev :=
  let x := d.groups.get {} g
  { d with groups := d.groups.put g { x with start := edge d, reloaded := if carried then edge d + 1 else x.reloaded } }
    |> put DRV_GRP_STATUS_RUNNING g 1 |> refreshPins g

/-- A firing of the group's SYNC_PICK (R187). -/
def syncGroup (g : Nat) (r : Rec) (d : Dev) : Dev :=
  let x := d.groups.get {} g
  let p := pwmP g d
  let T := 2 * p * r.u P0703_PRESCALE
  let w := syncW p (r.u P0703_PRESCALE)
  let e := since x.start d
  let late := e % T
  if !flag DRV_GRP_STATUS_RUNNING g d then carrierZero g false d
  else if late = 0 then carrierZero g (x.reloaded == edge d + 1) d
  else if T - late ≤ w then carrierZero g false d
  else if late ≤ w then carrierZero g true d
  else d |> bumpSat DRV_GRP_COUNT_SLIPS g
    |> (fun d => stick DRV_GRP_STATUS_SYNC_SLIP g 0x0707 g d 0 (if late ≤ T - late then -(late : Int) else (T - late : Nat)))
    |> carrierZero g false

/-- Pick `p` fires: the groups that it aligns (R187). -/
def syncPick (p : Nat) (d : Dev) : Dev :=
  forL ((recsOf 0x0703 d).filter fun r => r.u P0703_PERIOD_STRAND == 0 && r.u P0703_SYNC_PICK == p) (fun r => syncGroup (r.u P0703_GROUP) r) d

/-! Enabling, turning off and trips (R183, R177, R194). -/

/-- The drive of axis `n` is enabled (R183). -/
def driveEnable (n : Nat) (d : Dev) : Dev :=
  if (driveRec n d).isNone then d
  else { d with drives := d.drives.put n { d.drives.get {} n with enableEdge := edge d } }
    |> put DRV_AX_STATUS_DRIVE n 1 |> settlePins n |> pinsSafe (edge d) n

/-- A drive fault: pins inactive within 2 FCLK cycles, drive OFF, the fault and the axis's breaking reaction (R183, R184). -/
def driveTrip (code n aux : Nat) (value : Int) (d : Dev) : Dev :=
  raiseBreak code n (pinsWithin2 n false (put DRV_AX_STATUS_DRIVE n 0 (settlePins n d))) aux value

/-- The overcurrent condition (R177): the detector above OC_LIMIT at OC_COUNT consecutive clocks, from the last
2·OC_OSR − 2 + OC_COUNT bits, oldest first; the last magnitude when it holds. -/
def ocTrips (r : Rec) (bs : List Bool) : Option Int :=
  let n := 2 * 2 ^ r.u P0702_OC_OSR_LOG2 - 1
  let k := r.u P0702_OC_COUNT
  let vals := (List.range k).map fun i => |ocRaw r ((bs.drop i).take n)|
  if bs.length = n + k - 1 ∧ r.u P0702_OC_LIMIT ≠ 0 ∧ vals.all fun v => decide ((r.u P0702_OC_LIMIT : Int) < v) then vals.getLast?
  else none

/-- OVERCURRENT_TRIP (R177). -/
def overcurrentTripAt (c : Nat) (bs : List Bool) (d : Dev) : Dev :=
  match sdRec c d with
  | none => d
  | some r => match ocTrips r bs with
    | none => d
    | some v => d |> put DRV_SD_STATUS_OC c 1 |> bumpSat DRV_SD_STATUS_OC_TRIPS c
        |> forL (drivesOfChan c d) (fun n d => driveTrip 0x0701 n c v (put DRV_AX_STATUS_OC_TRIP n 1 d))

def execOvercurrentTrip (dt channel : Nat) (bits : List Bool) (s : State) : Host.Outcome State Fault Refusal :=
  onDev dt (overcurrentTripAt channel bits) s

/-- SD_STUCK (R178): 256 equal bits. -/
def sdStuckAt (c : Nat) (d : Dev) : Dev :=
  let x := d.sds.get {} c
  if (sdRec c d).isNone ∨ x.stuckNow then d
  else
    let axes := drivesOfChan c d
    let was := flag DRV_SD_STATUS_STUCK c d
    { d with sds := d.sds.put c { x with stuckNow := true } }
      |> put DRV_SD_STATUS_STUCK c 1 |> put DRV_SD_STATUS_STALE c 1
      |> forL axes (fun n d => { d with drives := d.drives.put n { d.drives.get {} n with stale := true } }
          |> put DRV_AX_STATUS_STUCK n 1 |> driveTrip 0x0702 n c 0)
      |> onlyIf (axes == [] && !was) (fun d => raise 0x070B c d)

def execSdStuck (dt channel : Nat) (s : State) : Host.Outcome State Fault Refusal := onDev dt (sdStuckAt channel) s

/-- ID and IQ of the axes of a channel are good again when none of their channels is stale. -/
def sdGood (c : Nat) (d : Dev) : Dev :=
  forL (recsOf 0x0704 d) (fun r d =>
    if (driveChans r).contains c && (driveChans r).all (fun k => !flag DRV_SD_STATUS_STALE k d) then
      { d with drives := d.drives.put (r.u P0704_AXIS) { d.drives.get {} (r.u P0704_AXIS) with stale := false } }
    else d) (put DRV_SD_STATUS_STALE c 0 d)

/-- SD_INPUT_TOGGLE (R178): the input toggles again and an output is computed. -/
def sdInputToggleAt (c : Nat) (d : Dev) : Dev :=
  let x := d.sds.get {} c
  if !x.stuckNow then d
  else { d with sds := d.sds.put c { x with stuckNow := false } } |> onlyIf (decide (x.validEdge ≤ edge d)) (sdGood c)

def execSdInputToggle (dt channel : Nat) (s : State) : Host.Outcome State Fault Refusal := onDev dt (sdInputToggleAt channel) s

/-- SD_CHANNEL_VALID (R175, R460): enough bits have been captured. -/
def sdChannelValidAt (c : Nat) (d : Dev) : Dev :=
  let x := d.sds.get {} c
  if (sdRec c d).isSome ∧ flag DRV_SD_STATUS_STALE c d ∧ ¬ x.stuckNow ∧ x.validEdge ≤ edge d then sdGood c d else d

def execSdChannelValid (dt channel : Nat) (s : State) : Host.Outcome State Fault Refusal := onDev dt (sdChannelValidAt channel) s

/-- PWM_RELOAD (R190). -/
def pwmReloadAt (g : Nat) (d : Dev) : Dev :=
  match pwmRec g d with
  | some r => if atReload g r d then reload g d else d
  | none => d

def execPwmReload (dt group : Nat) (s : State) : Host.Outcome State Fault Refusal := onDev dt (pwmReloadAt group) s

/-- PWM_COMPARE_MATCH (R186). -/
def execPwmCompareMatch (dt group : Nat) (s : State) : Host.Outcome State Fault Refusal := onDev dt (refreshPins group) s

/-- DEAD_TIME_EXPIRY (R186): the delayed change of pin 6n + b takes effect. -/
def deadTimeExpiryAt (pin : Nat) (d : Dev) : Dev :=
  let d := settlePins (pin / 6) d
  let v := d.riseAt.get 0 pin
  if v ≠ 0 ∧ v ≤ edge d + 1 then
    setPins (pin / 6) (setBit (get DRV_AX_PINS_COMMANDED (pin / 6) d) (pin % 6) true) { d with riseAt := d.riseAt.del pin }
  else d

def execDeadTimeExpiry (dt pin : Nat) (s : State) : Host.Outcome State Fault Refusal := onDev dt (deadTimeExpiryAt pin) s

/-- The edge from which a mismatch on pin `b` of drive `n` counts: RB_SETTLE after the last change of its command (R194). -/
def settled (n b : Nat) (r : Rec) (d : Dev) : Nat := (d.drives.get {} n).pinEdge.get 0 b - 1 + r.u P0704_RB_SETTLE

/-- The comparators of a pair read otherwise than commanded. -/
def readBack (n pair v : Nat) (d : Dev) : Dev :=
  put DRV_AX_PINS_READBACK n (setBits (get DRV_AX_PINS_READBACK n d) (2 * (pair % 3)) 2 v) d

/-- READBACK_ERROR (R194) on a pair of the axis: a mismatch of one of its pins that lasted RB_FILTER cycles outside the settling time. The
command names the pair and not the levels, which are free. -/
def readbackErrorAt (n pair : Nat) (d : Dev) : Dev :=
  let d := settlePins n d
  match driveRec n d with
  | none => d
  | some r =>
    let b := 2 * (pair % 3)
    if pair / 3 ≠ n ∨ edge d < min (settled n b r d) (settled n (b + 1) r d) + r.u P0704_RB_FILTER then d
    else
      let q := fresh 2 d
      q.2 |> readBack n pair q.1 |> put DRV_AX_STATUS_RB_ERR n 1 |> bumpSat DRV_AX_PINS_RB_ERRORS n |> driveTrip 0x0703 n pair 0

def execReadbackError (dt axis pair : Nat) (s : State) : Host.Outcome State Fault Refusal := onDev dt (readbackErrorAt axis pair) s

/-- SHOOT_THROUGH (R194) on a pair of the axis: both pins have read active for more than 4 cycles outside their settling times. -/
def shootThroughAt (n pair : Nat) (d : Dev) : Dev :=
  let d := settlePins n d
  match driveRec n d with
  | none => d
  | some r =>
    let b := 2 * (pair % 3)
    if pair / 3 ≠ n ∨ edge d ≤ max (settled n b r d) (settled n (b + 1) r d) + 4 then d
    else d |> readBack n pair (bits (r.u P0704_POLARITY) b 2) |> put DRV_AX_STATUS_SHOOT n 1 |> driveTrip 0x0704 n pair 0

def execShootThrough (dt axis pair : Nat) (s : State) : Host.Outcome State Fault Refusal := onDev dt (shootThroughAt axis pair) s

/-! Debug halt (R183, R192). -/

/-- The bridges go to SAFE with 0x070A, and the auxiliary outputs freeze. -/
def driveHalt (d : Dev) : Dev :=
  d |> forL (recsOf 0x0704 d) (fun r d =>
      let n := r.u P0704_AXIS
      if get DRV_AX_STATUS_DRIVE n d = 0 then d
      else raiseBreak 0x070A n (pinsWithin2 n true (put DRV_AX_STATUS_HALT_SAFE n 1 (put DRV_AX_STATUS_DRIVE n 0 d))))
    |> forL (recsOf 0x0705 d) (fun r d => put DRV_AUX_STATUS_FROZEN (r.u P0705_OUTPUT) 1 d)

/-- The auxiliary outputs follow their sources again. -/
def driveUnhalt (d : Dev) : Dev :=
  d |> forL (recsOf 0x0705 d) (fun r d =>
      let j := r.u P0705_OUTPUT
      let d := put DRV_AUX_STATUS_FROZEN j 0 d
      if r.u P0705_MODE = 1 then d else auxSet j (bit d.auxOut j) d)
    |> forN 8 refreshPins

/-! Phase firing (R196). -/

/-- α computed and the open pick of the coming half-cycle retargeted, or disarmed at POWER_MIN and below. -/
def phaseAim (r : Rec) (openPick base : Nat) (d : Dev) : Dev :=
  let j := r.u P0705_OUTPUT
  let p := toInt 32 (readStrand (r.u P0705_SOURCE_STRAND) d)
  let a := alphaFor p (r.u P0705_ALPHA_MIN) (r.u P0705_ALPHA_MAX)
  let d := put DRV_AUX_ALPHA_ALPHA j a d
  if p ≤ r.s P0705_POWER_MIN then d |> disarmPick openPick |> bump DRV_AUX_STATUS_NOFIRE j
  else retargetPick openPick ((base + a) % 4294967296) true d

/-- What a firing of pick `p` does as a close pick of PHASE outputs. -/
def phaseClose (p : Nat) (d : Dev) : Dev :=
  forL ((recsOf 0x0705 d).filter fun r => r.u P0705_MODE == 4) (fun r d =>
    d |> onlyIf (r.u P0705_CLOSE_POS == p) (phaseAim r (r.u P0705_OPEN_NEG) 2147483648)
      |> onlyIf (r.u P0705_CLOSE_NEG == p) (phaseAim r (r.u P0705_OPEN_POS) 0)) d

/-! The image's settings and RUN. -/

/-- The registers that the image sets (IMG of R204). -/
def driveImage (d : Dev) : Dev :=
  d |> forL (recsOf 0x0704 d) (fun r d => let n := r.u P0704_AXIS
        d |> put DRV_STATUS_AXES 0 (setBit (get DRV_STATUS_AXES 0 d) n true)
          |> putB DRV_AX_STATUS_SAFE n (r.b P0704_FLAGS 1) |> putB DRV_AX_STATUS_HALL n (r.b P0704_FLAGS 0))
    |> forL (recsOf 0x0703 d) (fun r d => let g := r.u P0703_GROUP
        d |> put DRV_STATUS_GROUPS 0 (setBit (get DRV_STATUS_GROUPS 0 d) g true)
          |> put DRV_GRP_STATUS_RELOAD g (r.u P0703_RELOAD) |> putB DRV_GRP_STATUS_PAIRED g (!r.b P0703_FLAGS 0)
          |> putB DRV_GRP_STATUS_LOAD_ON_PUBLISH g (r.b P0703_FLAGS 1))
    |> forL (recsOf 0x0702 d) (fun r d =>
        let g := 15 * (2 ^ r.u P0702_OSR_LOG2 - 1) * sdDiv r d * 25
        put DRV_SD_DELAY_NS (r.u P0702_CHANNEL) (if r.b P0702_FLAGS 1 then 0 else (g + 50) / 100) d)
    |> forL (recsOf 0x0705 d) (fun r d => put DRV_AUX_STATUS_MODE (r.u P0705_OUTPUT) (r.u P0705_MODE) d)

/-- MCLK output `c` is high (R174): 400 MHz / DIV at 50 % duty. Its rising edges lie on the FCLK edges whose number is a multiple of DIV
(DESIGN CHOICE, log entry 101: the spec gives no phase). -/
def mclkHigh (c : Nat) (d : Dev) : Bool :=
  match recAt 0x0701 P0701_CLOCK c d with
  | some r => decide (edge d % r.u P0701_DIV < r.u P0701_DIV / 2)
  | none => false

/-- A channel waits for `bits` bits from now (R175, R460): each is captured CAP_DELAY after a rising edge of its clock (R174). -/
def sdRestart (r : Rec) (bits : Nat) (d : Dev) : Dev :=
  let c := r.u P0702_CHANNEL
  let div := sdDiv r d
  let first := (edge d + div - 1) / div * div
  { d with sds := d.sds.put c { d.sds.get {} c with validEdge := first + (bits - 1) * div + r.u P0702_CAP_DELAY } }
    |> put DRV_SD_STATUS_STALE c 1

/-- The local drive at RUN (R175, R183, R187, R196). -/
def driveRun (d : Dev) : Dev :=
  d |> forL (recsOf 0x0702 d) (fun r d => sdRestart r (sdTaps r) (setStrand 0x07 (r.u P0702_CHANNEL) 0 d))
    |> forL (recsOf 0x0703 d) (fun r d =>
        let g := r.u P0703_GROUP
        d |> put DRV_GRP_PERIOD_PERIOD g (r.u P0703_PERIOD) |> setStrand 0x07 (208 + g) (r.u P0703_PERIOD)
          |> onlyIf (r.u P0703_PERIOD_STRAND != 0) (carrierZero g false))
    |> forL (recsOf 0x0704 d) (fun r d => d |> put DRV_AX_STATUS_DRIVE (r.u P0704_AXIS) 0 |> pinsOff (r.u P0704_AXIS)
        |> put DRV_AX_PINS_READBACK (r.u P0704_AXIS) (63 - r.u P0704_POLARITY))
    |> forL ((recsOf 0x0705 d).filter fun r => r.u P0705_MODE == 4) (fun r d =>
        d |> disarmPick (r.u P0705_OPEN_POS) |> disarmPick (r.u P0705_OPEN_NEG))

end Sys2Proof.Machine
end

