-- ==== Sys2Proof/Machine/Ply.lean ====
section
/-! DEFINITION. Ply engines (R103 to R131): launches, the control laws, twin compares, publication, misses, states and trace
rows. -/

namespace Sys2Proof.Machine

/-! Inputs at a launch (R110, R119 to R121). -/

/-- A strand as a launch reads it: the value from before a publication or a Shuttle output edge on the same edge (R110, R225). -/
def launchRead (id : Nat) (d : Dev) : Nat :=
  if id / 4096 = 5 then
    let x := d.plies.get {} (id % 1024)
    if x.pubEdge = edge d + 1 then x.old.getD (id % 4096 / 1024) 0 else readStrand id d
  else if id / 4096 = 9 ∨ (id / 4096 = 7 ∧ 64 ≤ id % 4096) then strandBefore id d
  else readStrand id d

/-- A per-launch limit of R120 in Q1.63: `lim` (32.32) over `n` powers of the period in ns. -/
def rampLimit (lim period n : Nat) : Int :=
  let v := (lim * period ^ n * 2 ^ 31 * 2 + 10 ^ (9 * n)) / (2 * 10 ^ (9 * n))
  (min (max v 1) (2 ^ 63 - 1) : Nat)

/-- The ramp as it stands at entry to RUN (R121). -/
def rampStart (r : Rec) : Ramp :=
  let p := r.s P0501_SP_OFFSET * 4294967296
  { r := p, x := p, fromFb := r.b P0501_FLAGS 2 }

/-- The role that SP_SOURCE 5 gives a ply (R140): the position ply, the velocity ply with the ply that feeds it. -/
def axisRole (p : Nat) (d : Dev) : Option (Nat × Nat × Option Nat) :=
  match (recsOf 0x0601 d).find? fun q => q.u P0601_POS_PLY == p || q.u P0601_VEL_PLY == p with
  | none => none
  | some q =>
    let a := q.u P0601_AXIS
    if q.u P0601_POS_PLY = p then some (1, a, none)
    else some (2, a, some (if q.u P0601_FILTER_PLY = 0xFFFF then q.u P0601_POS_PLY else q.u P0601_FILTER_PLY))

/-- The plies that stand before ply `p` in its group. -/
def earlierPlies (p : Nat) (g : Rec) (d : Dev) : List Nat := (groupPlies d g).takeWhile (· != p)

/-- Two plies of one axis (R138, R139). -/
def axisMates (p q : Nat) (d : Dev) : Bool :=
  match axisOfPly p d with
  | some a => axisOfPly q d == some a
  | none => false

/-- The strand names the output of a ply listed earlier in the same group (R110). -/
def chained (id p : Nat) (g : Rec) (d : Dev) : Bool :=
  decide (id / 1024 = 20) && (earlierPlies p g d).contains (id % 1024)

/-- The feedback strand is taken from the same launch (R139). -/
def fbChained (id p : Nat) (g : Rec) (d : Dev) : Bool := chained id p g d && axisMates p (id % 1024) d

/-- The launch of ply `p` of group `g` at stamp `t` with its inputs captured (R110). -/
def captureL (p : Nat) (r g : Rec) (t : Nat) (x : PlyX) (d : Dev) : PlyL :=
  let src := r.u P0501_SP_SOURCE
  let per := g.u P0502_NOMINAL_PERIOD
  let spw := launchRead (r.u P0501_SP_STRAND) d
  let role := if src = 5 then axisRole p d else none
  let ax : AxisX := match role with
    | some (_, a, _) => d.axes.get {} a
    | none => {}
  let kind5 := match role with
    | some (k, _, _) => k
    | none => 0
  let x5 : Int := match role with
    | some (1, _, _) => ax.posR
    | some (_, _, some q) => toInt 32 (launchRead (0x05000 + q) d)
    | _ => 0
  { live := true, stamp := t, edge := edge d, kind5 := kind5
    y := if kind5 = 1 then 0 else toInt 32 (launchRead (r.u P0501_FB_STRAND) d)
    x := if src = 5 then x5 else if src = 3 then toInt 64 (ofInt 64 ((spw : Int) - x.n0)) else toInt 32 spw
    xff := if r.b P0501_FLAGS 0 then toInt 32 (launchRead (r.u P0501_FF_STRAND) d) else 0
    term := ax.ffTerm
    goal := x.ramp.x
    vLim := rampLimit (if x.vSet = 0 then r.u P0501_V_MAX else x.vSet) per 1
    aLim := rampLimit (if x.aSet = 0 then r.u P0501_A_MAX else x.aSet) per 2
    jLim := rampLimit (if x.jSet = 0 then r.u P0501_J_MAX else x.jSet) per 3
    ramp := x.ramp, next := x.w }

/-- The feedback or the set-point strand is stale at the launch (R113); a result of the same launch is good. -/
def staleAt (p : Nat) (r g : Rec) (d : Dev) : Bool :=
  let src := r.u P0501_SP_SOURCE
  let fb := r.u P0501_FB_STRAND
  let sp := r.u P0501_SP_STRAND
  (!fbChained fb p g d && strandStale fb d) ||
  (decide (2 ≤ src ∧ src ≤ 4) && !(src == 4 && chained sp p g d) && strandStale sp d)

/-! The control laws (R115 to R120). -/

/-- Flags set by an evaluation (R118). -/
def fSatAcc (b : Bool) : Nat := if b then 1 else 0

/-- Two sets of PLY_FLAGS bits together (R118). -/
def orFlags (a b : Nat) : Nat := (List.range 15).foldl (fun m i => if bit a i || bit b i then m + 2 ^ i else m) 0

/-- The fastest rate that still stops within |d| (R120), rounded down. -/
def rampVb (a j dist : Nat) : Int :=
  let n := a ^ 4 + 8 * a * dist * j ^ 2
  ((isqrtLoop 132 n 0 : Int) - (a ^ 2 : Nat)) / (2 * j)

/-- One step of the ramp generator (R120) with the limits `V A J`. -/
def rampStep (g : Ramp) (V A J : Int) : Ramp × Bool :=
  let dd := g.x - g.r
  if |dd| ≤ |g.v| ∧ |g.v| ≤ A ∧ |g.a| ≤ J then ({ g with r := g.x, v := 0, a := 0 }, true)
  else
    let m := min V (rampVb A.toNat J.toNat dd.natAbs)
    let vc := if dd < 0 then -m else if dd = 0 then 0 else m
    let a := g.a + clampI (-J) J (clampI (-A) A (vc - g.v) - g.a)
    let v := clampI (-V) V (g.v + a)
    ({ g with r := g.r + v, v := v, a := a }, false)

/-- The set-point (R119, R120, R140) with the input `xin`: r, the clamp flag, the ramp and ARRIVED. -/
def setPoint (r : Rec) (l : PlyL) (y xin : Int) : Int × Bool × Ramp × Bool :=
  let same (z : Int) : Int × Bool × Ramp × Bool := (clampQ z, clips z, l.ramp, false)
  match r.u P0501_SP_SOURCE with
  | 0 => (r.s P0501_SP_OFFSET, false, l.ramp, false)
  | 1 =>
    let g0 := if l.ramp.fromFb then { l.ramp with r := y * 4294967296, x := if l.ramp.given then l.goal else y * 4294967296, fromFb := false }
      else { l.ramp with x := l.goal }
    let (g, arr) := rampStep g0 l.vLim l.aLim l.jLim
    let z := (g.r + 2147483648) / 4294967296
    (clampQ z, clips z, g, arr)
  | 3 => same (rnd (satS 72 (r.s P0501_SP_GAIN * (xin * (2 ^ r.u P0501_SP_SHIFT : Nat)))) + r.s P0501_SP_OFFSET)
  | 5 => if l.kind5 = 2 then same (xin + l.term) else (xin, false, l.ramp, false)
  | _ => same (rnd (r.s P0501_SP_GAIN * xin) + r.s P0501_SP_OFFSET)

/-- Σ of coefficients from entry `k` on times the values. -/
def coefSum (r : Rec) (k : Nat) (vs : List Int) : Int :=
  (vs.zip (List.range vs.length)).foldl (fun s p => s + r.s P0501_COEFF (k + p.2) * p.1) 0

/-- The first `n` of past values, absent ones zero. -/
def past (n : Nat) (l : List Int) : List Int := (List.range n).map fun i => l.getD i 0

/-- The output limit (R116, R117): u and the LIM flags. -/
def limitOut (r : Rec) (f : Int) : Int × Nat :=
  let u := clampI (r.s P0501_OUT_MIN) (r.s P0501_OUT_MAX) f
  (u, if u < f then 1024 else if f < u then 2048 else 0)

/-- Class A (R116). -/
def classA (r : Rec) (w : PlyW) (rr y xff : Int) : PlyL × Nat :=
  let n := r.u P0501_SIZE
  let e := clampQ (rr - y)
  let acc := coefSum r 0 (e :: past n w.a1) - coefSum r (n + 1) (past n w.a2)
  let v := clampQ (rnd acc)
  let ff := rnd (r.s P0501_FF_GAIN * xff)
  let fz := if r.b P0501_FLAGS 0 then v + ff else v
  let (u, lim) := limitOut r (clampQ fz)
  ({ e := e, w := v, ff := ff, u := u, next := ⟨e :: past (n - 1) w.a1, u :: past (n - 1) w.a2⟩ },
    orFlags (fSatAcc (clips (rr - y) || clips (rnd acc))) (lim + (if clips fz then 2 else 0)))

/-- The sections of a Class B ply from section `s` on (R117): x(s−1)[k], the outputs so far and the SAT_SEC flags. -/
def sections (r : Rec) (w : PlyW) : Nat → Nat → Int → List Int → Nat → List Int × Nat
  | 0, _, _, xs, fl => (xs, fl)
  | n + 1, s, xin, xs, fl =>
    let z := rnd (coefSum r (5 * s) [xin, w.a1.getD s 0, w.a2.getD s 0] -
      coefSum r (5 * s + 3) [w.a1.getD (s + 1) 0, w.a2.getD (s + 1) 0])
    sections r w n (s + 1) (clampQ z) (xs ++ [clampQ z]) (if clips z then fl + 2 ^ (2 + s) else fl)

/-- Class B (R117). -/
def classB (r : Rec) (w : PlyW) (rr y : Int) : PlyL × Nat :=
  let n := r.u P0501_SIZE
  let filter := r.u P0501_MODE = 1
  let x0 := if filter then y else clampQ (rr - y)
  let (xs, secFl) := sections r w n 0 x0 [] 0
  let fz := rnd (r.s P0501_GAIN * xs.getLastD x0) + r.s P0501_OFFSET
  let (u, lim) := limitOut r (clampQ fz)
  let keep := r.b P0501_FLAGS 1 && ((lim == 1024 && decide (0 < x0)) || (lim == 2048 && decide (x0 < 0)))
  ({ e := x0, u := u, xs := xs, next := if keep then w else ⟨x0 :: xs, past (n + 1) w.a1⟩ },
    orFlags (fSatAcc (!filter && clips (rr - y))) (secFl + lim + (if clips fz then 2 else 0)))

/-- The value that a chained strand gives: the ply's result of this launch, or the output that stands. -/
def chainValue (q : Nat) (d : Dev) : Int :=
  let l := (d.plies.get {} q).launch
  if l.done && !l.hold then l.u else toInt 32 (strand 0x05 q d)

/-- 32-bit words that differ from the law's in the bits of `m`, the first word's lowest. -/
def xorWords (m : Nat) (ws : List Int) : List Int := ws.zipIdx.map fun p => toInt 32 (Nat.xor (ofInt 32 p.1) (bits m (32 * p.2) 32))

/-- State words that differ from the law's. -/
def xorState (m : Nat) (w : PlyW) : PlyW := ⟨xorWords m w.a1, xorWords (m / 2 ^ (32 * w.a1.length)) w.a2⟩

/-- Ply `p` evaluated with the feedback `fb` where the current path gives one (R181); `mask` differs its results from the
law's (R125): bits 31 to 0 the output, the bits above it the state words. -/
def evalPly (p : Nat) (g : Rec) (fb : Option Int) (mask : Nat) (d : Dev) : Dev :=
  match plyRec p d with
  | none => d
  | some r =>
    let x := d.plies.get {} p
    let l := x.launch
    if !l.live || l.done then d
    else
      let y := match fb with
        | some v => v
        | none => if l.kind5 != 1 && fbChained (r.u P0501_FB_STRAND) p g d then chainValue (r.u P0501_FB_STRAND % 1024) d else l.y
      let sp := r.u P0501_SP_STRAND
      let feeder := match axisRole p d with
        | some (_, _, some q) => q
        | _ => 0
      let xin := if r.u P0501_SP_SOURCE = 4 ∧ chained sp p g d then chainValue (sp % 1024) d
        else if l.kind5 = 2 ∧ chained (0x05000 + feeder) p g d then chainValue feeder d else l.x
      let (rr, satSp, ramp, arr) := setPoint r l y xin
      let (q, fl) := if r.u P0501_CLASS = 1 then classA r x.w rr y l.xff else classB r x.w rr y
      let u := toInt 32 (Nat.xor (ofInt 32 q.u) (mask % 2 ^ 32))
      let next := if r.u P0501_CLASS = 1 then { q.next with a2 := u :: q.next.a2.drop 1 } else q.next
      let next := if mask < 2 ^ 32 then next else xorState (mask / 2 ^ 32) next
      { d with plies := d.plies.put p { x with launch := { l with
          done := true, fin := edge d, r := rr, y := y, e := q.e, w := q.w, ff := q.ff, u := u, xs := q.xs, next := next, ramp := ramp } } }
        |> setSticky PLY_FLAGS p (orFlags (fSatAcc satSp) fl)
        |> onlyIf (r.u P0501_SP_SOURCE == 1) (putB PLY_STATE_ARRIVED p arr)

/-- The period that a compare is scaled to (R181, R182): the group's fixed PERIOD, or the one staged or in force. -/
def dutyPeriod (g : Nat) (d : Dev) : Nat :=
  match pwmRec g d with
  | none => 0
  | some r =>
    if r.u P0703_PERIOD_STRAND = 0 then r.u P0703_PERIOD
    else if flag DRV_GRP_STATUS_PSTAGED g d then get DRV_GRP_PERIOD_STAGED g d else pwmP g d

/-- The output that stands for the inverse transforms: the launch's, or the previous one under STALE_HOLD. -/
def entryOut (p : Nat) (d : Dev) : Int := chainValue p d

/-- The part of an entry's `flip` that differs its first ply, and the part for Q_PLY: bits 31 to 0 and 63 to 32 the outputs, 639 to 64
and 1215 to 640 the state words. -/
def flipFirst (mask : Nat) : Nat := mask % 2 ^ 32 + bits mask 64 576 * 2 ^ 32
def flipSecond (mask : Nat) : Nat := bits mask 32 32 + bits mask 640 576 * 2 ^ 32

/-- The current entry of drive `n` evaluated (R181); bits 1311 to 1216 of `mask` differ the three compares. -/
def evalDrive (n : Nat) (g : Rec) (mask : Nat) (d : Dev) : Dev :=
  match driveRec n d with
  | none => d
  | some r =>
    let x := d.drives.get {} n
    let (id, iq, sat) := clarkePark x.ia x.ib (if r.u P0704_SD_C = 0xFF then none else some x.ic) x.theta
    let d := d |> evalPly (r.u P0704_D_PLY) g (some id) (flipFirst mask) |> evalPly (r.u P0704_Q_PLY) g (some iq) (flipSecond mask)
    let (cs, sat2, ovm) := dutyOf (entryOut (r.u P0704_D_PLY) d) (entryOut (r.u P0704_Q_PLY) d) x.thetaOut (dutyPeriod (n / 2) d)
    let cs := cs.zipIdx.map fun p => Nat.xor p.1 (bits mask (1216 + 32 * p.2) 32)
    { d with drives := d.drives.put n { x with pending := true, id := id, iq := iq, ca := cs.getD 0 0, cb := cs.getD 1 0, cc := cs.getD 2 0 } }
      |> onlyIf (sat || sat2) (put DRV_AX_STATUS_XFORM_SAT n 1) |> onlyIf ovm (put DRV_AX_STATUS_OVERMOD n 1)

/-- Entry `e` of a group evaluated. -/
def evalEntry (g : Rec) (e mask : Nat) (d : Dev) : Dev :=
  if e < 0x8000 then evalPly e g none (flipFirst mask) d else evalDrive (e % 16) g mask d

/-! Trace rows (R129 to R131). -/

/-- A trace buffer's record. -/
def trcRec (b : Nat) (d : Dev) : Option Rec := recAt 0x0503 P0503_BUFFER b d

/-- Rows that a buffer holds. -/
def trcRows (r : Rec) : Nat := r.u P0503_SIZE / (8 + 4 * r.u P0503_NODES)

/-- A node's 32-bit word (R129). -/
def nodeValue (w : Nat) (d : Dev) : Nat :=
  let p := w % 1024
  let x := d.plies.get {} p
  match bits w 16 8 with
  | 0 => trunc 32 (strand 0x05 (2048 + p) d)
  | 1 => trunc 32 (strand 0x05 (1024 + p) d)
  | 2 => ofInt 32 x.nodeE
  | 3 => ofInt 32 x.nodeW
  | 4 => ofInt 32 (x.nodeX.getD (bits w 24 3) 0)
  | 5 => trunc 32 (strand 0x05 p d)
  | 6 => rd PLY_FLAGS p d
  | 7 => ofInt 32 (x.ramp.v / 4294967296)
  | 8 => ofInt 32 (x.ramp.a / 4294967296)
  | _ => ofInt 32 x.nodeFf

/-- The value that the trigger tests (R130): PLY_FLAGS of the trigger node's ply for kind 5, else the node. -/
def trigValue (r : Rec) (d : Dev) : Nat :=
  let w := r.u P0503_NODE (r.u P0503_TRIG_NODE)
  if r.u P0503_TRIG_KIND = 5 then rd PLY_FLAGS (w % 1024) d else nodeValue w d

/-- The trigger's test at a row (R130). -/
def trigFires (r : Rec) (prev : Option Nat) (v : Nat) : Bool :=
  let th := r.s P0503_THRESHOLD
  let cur := toInt 32 v
  match r.u P0503_TRIG_KIND, prev with
  | 1, some p => decide (toInt 32 p < th ∧ th ≤ cur)
  | 2, some p => decide (th < toInt 32 p ∧ cur ≤ th)
  | 3, _ => decide (th < cur)
  | 4, _ => decide (cur < th)
  | 5, some p => (List.range 16).any fun i => bit (r.u P0503_TRIG_MASK) i && !bit p i && bit v i
  | _, _ => false

/-- Writing begins at the next row (R131). -/
def trcFill (b : Nat) (r : Rec) (d : Dev) : Dev :=
  let x := d.trcs.get {} b
  { d with trcs := d.trcs.put b { x with rows := [], written := 0, post := 0, prev := none, copying := false } }
    |> put PLY_TRC_STATUS_STATE b (if r.u P0503_PRE = 0 then 2 else 1)
    |> put PLY_TRC_STATUS_SHORT_PRE b 0 |> put PLY_TRC_PRE_PRE_ACTUAL b 0

/-- DONE becomes REARM, and FILLING once no copy is under way (R131). AUTO_REARM comes here without a request: it leaves TRIG_LOST and
PLY_TRC_LOST as they are (DESIGN CHOICE, log entry 67). -/
def trcRearm (b : Nat) (r : Rec) (d : Dev) : Dev :=
  if (d.trcs.get {} b).copying then put PLY_TRC_STATUS_STATE b 5 d else trcFill b r d

/-- An arm request (R131): acted on in OFF and DONE. -/
def trcArm (b : Nat) (r : Rec) (d : Dev) : Dev :=
  let clear (d : Dev) : Dev := d |> put PLY_TRC_STATUS_TRIG_LOST b 0 |> put PLY_TRC_LOST_STAMP b 0
  match get PLY_TRC_STATUS_STATE b d with
  | 0 => trcFill b r (clear d)
  | 4 => trcRearm b r (clear d)
  | _ => d

/-- A trigger that is not acted on (R131). -/
def trcLost (b t : Nat) (d : Dev) : Dev :=
  d |> onlyIf (get PLY_TRC_STATUS_TRIG_LOST b d == 0) (put PLY_TRC_LOST_STAMP b t) |> bumpSat PLY_TRC_STATUS_TRIG_LOST b

/-- A trigger from the host or a stream (R130, R409): it acts at the next row; in DONE and REARM it is lost. -/
def trcTrigger (b : Nat) (d : Dev) : Dev :=
  match get PLY_TRC_STATUS_STATE b d with
  | 0 => d
  | 4 => trcLost b (now d) d
  | 5 => trcLost b (now d) d
  | _ => { d with trcs := d.trcs.put b { d.trcs.get {} b with host := true } }

/-- A row with stamp `t` into buffer `b` in FILLING, ARMED or POST (R129, R131). -/
def trcRow (b : Nat) (r : Rec) (t : Nat) (d : Dev) : Dev :=
  let st := get PLY_TRC_STATUS_STATE b d
  let x := d.trcs.get {} b
  if st = 0 ∨ 4 ≤ st then d
  else
    let row := t :: (List.range (r.u P0503_NODES)).map fun j => nodeValue (r.u P0503_NODE j) d
    let v := trigValue r d
    let fires := x.host || trigFires r x.prev v
    let keep := (x.rows ++ [row]).drop (x.rows.length + 1 - trcRows r)
    let x' := { x with rows := keep, written := x.written + 1, host := false, prev := some v }
    let put' (x : TrcX) (d : Dev) : Dev := { d with trcs := d.trcs.put b x }
    let d1 := if st = 3 then
        put' { x' with post := x.post - 1 } (onlyIf fires (trcLost b t) d)
      else if fires then
        put' { x' with post := r.u P0503_POST - 1 } d
          |> putB PLY_TRC_STATUS_SHORT_PRE b (st == 1)
          |> put PLY_TRC_PRE_PRE_ACTUAL b (if st = 1 then x.written else r.u P0503_PRE)
          |> put PLY_TRC_TRIG_STAMP b t |> put PLY_TRC_ROW_TRIG_ROW b (x.written % trcRows r) |> put PLY_TRC_STATUS_STATE b 3
      else put' x' d |> onlyIf (st == 1 && decide (r.u P0503_PRE ≤ x.written + 1)) (put PLY_TRC_STATUS_STATE b 2)
    if get PLY_TRC_STATUS_STATE b d1 = 3 ∧ (d1.trcs.get {} b).post = 0 then
      let len := 32 + 4 * r.u P0503_NODES + (get PLY_TRC_PRE_PRE_ACTUAL b d1 + r.u P0503_POST) * (8 + 4 * r.u P0503_NODES)
      let saves := r.b P0503_FLAGS 0
      let taken := storeReady d1 && decide (len ≤ orD (recOf 0x0F01 d1) P0F01_SNAP_MIB 0 * 1048576)
      let d2 := put' { d1.trcs.get {} b with copying := saves && taken } d1
        |> put PLY_TRC_STATUS_STATE b 4 |> put PLY_TRC_STATUS_SAVED b 0
        |> onlyIf (saves && !taken) (fun d => stick REC_STATUS_SNAP_REFUSED 0 0x1007 b d)
      onlyIf (r.b P0503_FLAGS 1) (trcRearm b r) d2
    else d1

/-- The group whose plies a buffer records (R129). -/
def trcGroup (r : Rec) (g : Rec) (d : Dev) : Bool := (groupPlies d g).contains (r.u P0503_NODE 0 % 1024)

/-- The rows of a launch of group `g` (R129): one for every DECIM-th accepted launch. -/
def trcRowsOf (g : Rec) (t : Nat) (d : Dev) : Dev :=
  forL (recsOf 0x0503 d) (fun r d =>
    if !trcGroup r g d then d
    else
      let b := r.u P0503_BUFFER
      let x := d.trcs.get {} b
      if r.u P0503_DECIM ≤ x.decim + 1 then trcRow b r t { d with trcs := d.trcs.put b { x with decim := 0 } }
      else { d with trcs := d.trcs.put b { x with decim := x.decim + 1 } }) d

/-- The row of the group's launch when none of its plies is live any more. -/
def trcSettle (g : Nat) (d : Dev) : Dev :=
  match grpRec g d with
  | none => d
  | some r =>
    let x := d.grps.get {} g
    if !x.traced || (groupPlies d r).any fun p => (d.plies.get {} p).launch.live then d
    else trcRowsOf r x.stamp { d with grps := d.grps.put g { x with traced := false } }

/-! Engines (R106). -/

/-- The entry is still to be evaluated: one of its plies is live and not done. -/
def entryLive (e : Nat) (d : Dev) : Bool := (entryPliesOf e d).any fun p => let l := (d.plies.get {} p).launch; l.live && !l.done

/-- The next live entry of a group from position `i` on. -/
def nextEntry (r : Rec) (i : Nat) (d : Dev) : Option Nat :=
  (List.range (r.u P0502_COUNT)).find? fun j => decide (i ≤ j) && entryLive (r.u P0502_ENTRY j) d

/-- Engine `e` evaluates the group as its TWIN_ENGINE. -/
def asTwin (e g : Nat) (r : Rec) (d : Dev) : Bool := isTwin r && grpEngine g r d != e

/-- The group's launch still has work for engine `e`. -/
def hasWork (e g : Nat) (d : Dev) : Bool :=
  match grpRec g d with
  | none => false
  | some r =>
    let x := d.grps.get {} g
    let tw := asTwin e g r d
    let mine := (grpEngine g r d == e && x.single != 2) || (tw && r.u P0502_TWIN_ENGINE == e && x.single != 1)
    x.live && mine && !x.decided && (nextEntry r (if tw then x.posTwin else x.pos) d).isSome

/-- Whether group `a` comes before group `b` (R106). -/
def grpBefore (a b : Nat) (d : Dev) : Bool :=
  let key (g : Nat) : Nat × Nat × Nat := (get PLY_GRP_STATUS_PRIORITY g d, (d.grps.get {} g).stamp, g)
  let (p, s, n) := key a
  let (q, t, m) := key b
  decide (p < q ∨ (p = q ∧ (s < t ∨ (s = t ∧ n < m))))

/-- The group that engine `e` takes next. -/
def nextGroup (e : Nat) (d : Dev) : Option Nat :=
  if (d.engs.get {} e).out then none
  else d.grps.foldl (fun best p => if !hasWork e p.1 d then best
    else match best with
      | none => some p.1
      | some b => if grpBefore p.1 b d then some p.1 else best) none

/-- Nanoseconds of a number of FCLK edges, rounded to nearest with halves up (R512). -/
def edgesNs (n : Nat) : Nat := (5 * n + 1) / 2

/-- Edges that engine `e` has spent evaluating, the ply in evaluation included. -/
def engBusy (e : Nat) (d : Dev) : Nat :=
  let x := d.engs.get {} e
  x.busy + (if x.group = 0 then 0 else since x.since d)

/-- The entry that engine `e` would evaluate in group `g`, and whether as the TWIN_ENGINE. -/
def entryOn (e g : Nat) (d : Dev) : Option Nat × Bool :=
  match grpRec g d with
  | none => (none, false)
  | some r =>
    let tw := asTwin e g r d
    let x := d.grps.get {} g
    (nextEntry r (if tw then x.posTwin else x.pos) d, tw)

/-- The edge on which an engine that was idle begins (R106, R513): at most 4 edges on, a free delay; any other begins at once, and a
choice that is made anew before the engine has begun keeps its edge. -/
def engBegin (x : EngX) (d : Dev) : Nat × Dev :=
  if x.group = 0 then
    let q := fresh 8 d
    (edge d + q.1 % 5, q.2)
  else (max x.since (edge d), d)

/-- Engine `e` takes its next ply (R106); what it spent on the last one counts as busy. -/
def engPick (e : Nat) (d : Dev) : Dev :=
  let x := d.engs.get {} e
  let busy := engBusy e d
  let d := put PLY_ENG_BUSY_NS e (edgesNs busy) d
  match nextGroup e d with
  | none => { d with engs := d.engs.put e { x with group := 0, since := if x.group = 0 then x.since else edge d, busy := busy } }
  | some g =>
    let p := entryOn e g d
    let b := b2n p.2
    let q := engBegin x d
    let d := q.2
    let gx := d.grps.get {} g
    { d with engs := d.engs.put e { x with group := g + 1, entry := p.1.getD 0, since := q.1, busy := busy },
             grps := d.grps.put g { gx with started := setBit gx.started b true } }
      |> onlyIf (!bit gx.started b) (maxUp PLY_ENG_LAT_MAX_START_NS e (edgesNs (q.1 - gx.edge)))

/-- A choice that is made anew before the engine has begun leaves its group not started. -/
def unstart (e : Nat) (d : Dev) : Dev :=
  let x := d.engs.get {} e
  if x.group = 0 then d
  else
    let g := x.group - 1
    let gx := d.grps.get {} g
    { d with grps := d.grps.put g { gx with started := setBit gx.started (b2n (entryOn e g d).2) false } }

/-- An idle engine, one that has not begun yet, or one whose ply is no longer to be evaluated, takes its next ply. -/
def engKick (e : Nat) (d : Dev) : Dev :=
  let x := d.engs.get {} e
  if x.group = 0 ∨ !hasWork e (x.group - 1) d ∨ (entryOn e (x.group - 1) d).1 ≠ some x.entry then engPick e d
  else if edge d ≤ x.since then engPick e (if (entryOn e (x.group - 1) d).1 = some 0 then unstart e d else d)
  else d

/-! Twin compares (R125 to R127). -/

/-- 0x0504 for logical engine `e`, which is doffed. -/
def twinDoff (e : Nat) (d : Dev) : Dev := doffPly e (raise 0x0504 e d)

/-- The first `n` entries of a launch, as far as they still are to be, evaluated with what differs on the chosen engine. -/
def evalUpTo (n : Nat) (r : Rec) (flips : List (Nat × Nat)) (d : Dev) : Dev :=
  forL (List.range n) (fun i d =>
    if entryLive (r.u P0502_ENTRY i) d then evalEntry r (r.u P0502_ENTRY i) (Tab.get 0 flips i) d else d) d

/-- State words that a launch of ply `p` writes (R116, R117). -/
def stateWords (p : Nat) (d : Dev) : Nat :=
  match plyRec p d with
  | some r => if r.u P0501_CLASS = 1 then 2 * r.u P0501_SIZE else 2 * (r.u P0501_SIZE + 1)
  | none => 0

/-- The plies whose results differ between the engines, in an output, a state word, or a compare of the entry (R125). -/
def differing (r : Rec) (fm ft : List (Nat × Nat)) (d : Dev) : List Nat :=
  (List.range (r.u P0502_COUNT)).flatMap fun i =>
    let x := Nat.xor (Tab.get 0 fm i) (Tab.get 0 ft i)
    let own := [(0, 64), (32, 640)]
    ((entryPliesOf (r.u P0502_ENTRY i) d).zip own).filterMap fun p =>
      if bits x p.2.1 32 = 0 ∧ bits x p.2.2 (32 * stateWords p.1 d) = 0 ∧ bits x 1216 96 = 0 then none else some p.1

/-- The override item of a launch that publishes something other than its evaluation (R450, R453): output and state words
of every ply of the group. A standby in this case cannot follow. -/
def overrideLaunch (g : Nat) (r : Rec) (d : Dev) : Dev :=
  let words := (groupPlies d r).flatMap fun p =>
    let x := d.plies.get {} p
    leBytes 4 (strand 0x05 p d) ++ (x.w.a1 ++ x.w.a2).flatMap fun v => leBytes 4 (ofInt 32 v)
  replayDiverge (mirror 11 g (d.grps.get {} g).stamp words d)

/-- The last row of R126: the previous output is held, each engine tests itself, and the second time in a row 0x0506. -/
def unresolved (g : Nat) (r : Rec) (mism : List Nat) (d : Dev) : Dev :=
  let x := d.grps.get {} g
  let test (e : Nat) (d : Dev) : Dev := { d with engs := d.engs.put e { d.engs.get {} e with test := true, testEdge := edge d } }
  let n := x.unresolved + 1
  let d := { d with grps := d.grps.put g { x with decided := true, held := true, unresolved := n } }
  let d := forL mism (fun p d => raise 0x0505 p (put PLY_FLAGS_MISMATCH p 1 d)) d
  let d := overrideLaunch g r (d |> test (r.u P0502_ENGINE) |> test (r.u P0502_TWIN_ENGINE))
  if n < 2 then d
  else
    let ps := (groupPlies d r).filter fun p => get PLY_STATE_STATE p d == 1
    d |> forL ps plyStop |> (fun d => raise 0x0506 g d 0 n) |> forL ps axisOfStopped

/-- The launch of a twin group decided after its later engine (R126). -/
def verdict (g : Nat) (r : Rec) (d : Dev) : Dev :=
  let x := d.grps.get {} g
  let (fm, ft) := (x.flipMain, x.flipTwin)
  let (em, et) := (r.u P0502_ENGINE, r.u P0502_TWIN_ENGINE)
  let diff := differing r fm ft d
  let equal := diff == []
  let live := (groupPlies d r).filter fun p => (d.plies.get {} p).launch.live
  let count (d : Dev) : Dev := d |> bumpSat PLY_ENG_COUNT_MISMATCHES em |> bumpSat PLY_ENG_COUNT_MISMATCHES et
  let take (fl : List (Nat × Nat)) (d : Dev) : Dev :=
    evalUpTo (r.u P0502_COUNT) r fl { d with grps := d.grps.put g { d.grps.get {} g with decided := true, unresolved := 0 } }
  let mark (d : Dev) : Dev := forL diff (put PLY_FLAGS_MISMATCH · 1) d
  match equal, x.okMain, x.okTwin with
  | true, true, true => showSingle g false (take fm d)
  | true, true, false => twinDoff et (count (take fm d))
  | true, false, true => twinDoff em (count (take fm d))
  | false, true, false => twinDoff et (mark (count (take fm d)))
  | false, false, true => twinDoff em (mark (count (take ft d)))
  | true, false, false => unresolved g r live (count d)
  | false, _, _ => unresolved g r diff (count d)

/-- Both engines have evaluated every entry: the compare of R125. A group that runs single needs none, and what the remaining engine has
finished stands (R127). -/
def settleTwin (g : Nat) (d : Dev) : Dev :=
  match grpRec g d with
  | none => d
  | some r =>
    let x := d.grps.get {} g
    let doneM := (nextEntry r x.pos d).isNone
    let doneT := (nextEntry r x.posTwin d).isNone
    if !isTwin r || !x.live || x.decided then d
    else if x.single = 1 then evalUpTo x.pos r x.flipMain d
    else if x.single = 2 then evalUpTo x.posTwin r x.flipTwin d
    else if doneM && doneT then verdict g r d else d

/-- Every engine looks for work, after what the engines of groups that run single have finished. -/
def engsKick (d : Dev) : Dev :=
  let d := forL d.grps (fun p d => if p.2.live && p.2.single != 0 then settleTwin p.1 d else d) d
  forL (List.range 8) engKick d

/-! PLY_EVAL_COMPLETE. -/

/-- A failed residue check of a launch on one engine (R466, R468): the engine is doffed, 0x1303, and what has not been
published is evaluated again on the reserve; without a reserve the launch is lost (R112). -/
def residueRerun (e g : Nat) (r : Rec) (d : Dev) : Dev :=
  let p := physOf 1 e d
  let d := doffPly e d
  if (d.engs.get {} e).out then { d with grps := d.grps.put g { d.grps.get {} g with live := false } }
  else
    let d := forL (groupPlies d r) (fun q d =>
      let x := d.plies.get {} q
      if x.launch.live then { d with plies := d.plies.put q { x with launch := { x.launch with done := false } } } else d) d
    let x := d.grps.get {} g
    raise 0x1303 p (put RSV_FLAGS_RESIDUE 0 1
      { d with grps := d.grps.put g { x with
          pos := 0, posTwin := 0, flipMain := [], flipTwin := [], okMain := true, okTwin := true, rerun := true
          epoch := get PLY_ENG_STATUS_EPOCH e d, epochTwin := get PLY_ENG_STATUS_EPOCH e d } })

/-- A result whose epoch is not the one due (R128): the new placement's of the barrier's launch has no effect, any other is counted and
discarded. -/
def strayResult (e due epoch : Nat) (d : Dev) : Dev :=
  if epoch = (due + 1) % 65536 then d else bumpSat PLY_ENG_COUNT_DISCARDED e d

/-- The engine finishes the ply that it evaluates, with a result of placement epoch `epoch` (R116, R117, R125, R128). -/
def plyEvalCompleteAt (e : Nat) (residueOk : Bool) (mask epoch : Nat) (d : Dev) : Dev :=
  let ex := d.engs.get {} e
  if ex.group = 0 then (if epoch = get PLY_ENG_STATUS_EPOCH e d then d else strayResult e (get PLY_ENG_STATUS_EPOCH e d) epoch d)
  else
    let g := ex.group - 1
    match grpRec g d with
    | none => d
    | some r =>
      let x := d.grps.get {} g
      let tw := asTwin e g r d
      let due := if tw then x.epochTwin else x.epoch
      if epoch ≠ due then strayResult e due epoch d
      else match nextEntry r (if tw then x.posTwin else x.pos) d with
      | none => engPick e d
      | some i =>
        let add (l : List (Nat × Nat)) : List (Nat × Nat) := Tab.set 0 i mask l
        let x := if tw then { x with posTwin := i + 1, flipTwin := add x.flipTwin, finTwin := x.finTwin.put i (edge d) }
          else { x with pos := i + 1, flipMain := add x.flipMain, finMain := x.finMain.put i (edge d) }
        let twin := isTwin r && x.single == 0
        if !twin && !residueOk then engsKick (engPick e (residueRerun e g r d))
        else if twin then
          let x := if tw then { x with okTwin := x.okTwin && residueOk } else { x with okMain := x.okMain && residueOk }
          engsKick (engPick e (settleTwin g { d with grps := d.grps.put g x }))
        else
          engsKick (engPick e (evalEntry r (r.u P0502_ENTRY i) mask { d with grps := d.grps.put g x }))

/-- PLY_EVAL_COMPLETE (R116). The result differs from the law's where `flip` has bits (`flipFirst`, `flipSecond`, `evalDrive`). -/
def execPlyEvalComplete (dt engine : Nat) (residueOk : Bool) (result : EvalResult) (s : State) : Host.Outcome State Fault Refusal :=
  onDev dt (plyEvalCompleteAt engine residueOk result.flip result.epoch) s

/-! Publication (R111, R112). -/

/-- The logical group that a ply belongs to. -/
def groupOfPly (p : Nat) (d : Dev) : Nat := get PLY_STATE_GROUP p d

/-- The results of a current entry take effect with the first of its two plies (R182). -/
def publishDrive (p : Nat) (d : Dev) : Dev :=
  match (recsOf 0x0704 d).find? fun r => r.u P0704_D_PLY == p || r.u P0704_Q_PLY == p with
  | none => d
  | some r =>
    let n := r.u P0704_AXIS
    let g := n / 2
    let x := d.drives.get {} n
    if !x.pending then d
    else
      let mark (d : Dev) : Dev :=
        let gx := d.groups.get {} g
        { d with groups := d.groups.put g { gx with launchOf := (List.range 3).foldl (fun t k => t.put (3 * n + k) (x.launchEdge + 1)) gx.launchOf } }
      { d with drives := d.drives.put n { x with pending := false } }
        |> putStrands [(0x07000 + 64 + n, ofInt 64 x.id), (0x07000 + 80 + n, ofInt 64 x.iq), (0x07000 + 96 + n, ofInt 64 (toInt 32 x.theta))]
        |> stageCompare g (3 * n) x.ca |> stageCompare g (3 * n + 1) x.cb |> stageCompare g (3 * n + 2) x.cc |> mark
        |> stageFixed g |> onlyIf (flag DRV_GRP_STATUS_LOAD_ON_PUBLISH g d) (loadAll g)

/-- The value of an axis of KIND 3 or 4 goes to its TX_WORD with the axis's last ply (R145). -/
def publishAxis (p : Nat) (u : Int) (d : Dev) : Dev :=
  forL (recsOf 0x0601 d) (fun r d =>
    let k := r.u P0601_KIND
    let last := if k = 3 then (if r.u P0601_FILTER_PLY = 0xFFFF then r.u P0601_POS_PLY else r.u P0601_FILTER_PLY) else r.u P0601_VEL_PLY
    if (k = 3 ∨ k = 4) ∧ last = p then txWrite (r.u P0601_TX_WORD) (ofInt 32 u) d else d) d

/-- The engines that evaluated ply `p` of group `g`, each with the edge of its finish. -/
def finishesOf (p g : Nat) (d : Dev) : List (Nat × Nat) :=
  match grpRec g d with
  | none => []
  | some q =>
    let x := d.grps.get {} g
    let i := ((List.range (q.u P0502_COUNT)).find? fun j => (entryPliesOf (q.u P0502_ENTRY j) d).contains p).getD 0
    (if x.single = 2 then [] else [(grpEngine g q d, x.finMain.get (edge d) i)]) ++
      (if isTwin q ∧ x.single ≠ 1 then [(q.u P0502_TWIN_ENGINE, x.finTwin.get (edge d) i)] else [])

/-- The results of a launch take effect (R111): the four strands, the state words, the ramp, CONSEC_MISS. -/
def publish (p : Nat) (r : Rec) (d : Dev) : Dev :=
  let x := d.plies.get {} p
  let l := x.launch
  let g := groupOfPly p d
  let ended (x : PlyX) : Dev := { d with plies := d.plies.put p { x with launch := { l with live := false } } }
  if l.hold then publishDrive p (ended x)
  else
    let e := if r.u P0501_CLASS = 2 ∧ r.u P0501_MODE = 1 then 0 else l.e
    let old := (List.range 4).map fun k => strand 0x05 (1024 * k + p) d
    let low (k : Nat × Nat) (d : Dev) : Dev :=
      let slack := edgesNs (edge d - k.2)
      if slack < get PLY_ENG_LAT_MIN_SLACK_NS k.1 d then put PLY_ENG_LAT_MIN_SLACK_NS k.1 slack d else d
    ended { x with
        w := l.next, ramp := { l.ramp with x := if x.ramp.given then x.ramp.x else l.ramp.x, given := x.ramp.given }
        nodeE := l.e, nodeW := l.w, nodeFf := l.ff, nodeX := l.xs, pubEdge := edge d + 1, old := old }
      |> put PLY_STATE_CONSEC_MISS p 0 |> forL (finishesOf p g d) low
      |> putStrandsS [(0x05000 + p, l.u), (0x05400 + p, l.y), (0x05800 + p, l.r), (0x05C00 + p, e)]
      |> publishDrive p |> publishAxis p l.u

/-- The missed deadline of a ply (R112). -/
def plyMiss (p : Nat) (r : Rec) (d : Dev) : Dev :=
  let x := d.plies.get {} p
  let d := { d with plies := d.plies.put p { x with launch := { x.launch with live := false, done := false } } }
  let d := d |> bumpSat PLY_COUNTS_MISS_COUNT p |> bumpSat PLY_STATE_CONSEC_MISS p |> (fun d => stick PLY_FLAGS_MISS p 0x0501 p d)
  if r.u P0501_MISS_LIMIT ≠ 0 ∧ r.u P0501_MISS_LIMIT ≤ get PLY_STATE_CONSEC_MISS p d then plyFault 0x0502 p d (get PLY_STATE_CONSEC_MISS p d) else d

/-- The publication edge of ply `p`: the first edge at or after launch stamp + DEADLINE (R111). -/
def plyDue (p : Nat) (r : Rec) (d : Dev) : Bool :=
  let l := (d.plies.get {} p).launch
  l.live && decide (l.stamp * 10 + r.u P0501_DEADLINE * 64 ≤ now d * 10)

/-- PLY_PUBLISH (R111): the publication, a held output (R126), or a miss (R112), which in a twin group misses the launch on both engines
(R125). -/
def plyPublishAt (p : Nat) (d : Dev) : Dev :=
  match plyRec p d with
  | none => d
  | some r =>
    let g := groupOfPly p d
    if !plyDue p r d || !running d then d
    else
      let x := d.plies.get {} p
      let gx := d.grps.get {} g
      let drop (d : Dev) : Dev :=
        let x := d.plies.get {} p
        { d with plies := d.plies.put p { x with launch := { x.launch with live := false } } }
      let d := if x.launch.done then publish p r d
        else if gx.held then drop d
        else if replaying d then d
        else
          let d := plyMiss p r d
          match grpRec g d with
          | some q =>
            let d := onlyIf gx.rerun (overrideLaunch g q) d
            if isTwin q ∧ gx.single = 0 then { d with grps := d.grps.put g { d.grps.get {} g with decided := true } } else d
          | none => d
      trcSettle g (engsKick d)

def execPlyPublish (dt ply : Nat) (s : State) : Host.Outcome State Fault Refusal := onDev dt (plyPublishAt ply) s

/-- ENGINE_SELF_TEST (R126): the 2 µs test of an engine ends, which takes 2 µs of idle time in one piece. -/
def engineSelfTestAt (e : Nat) (passed : Bool) (d : Dev) : Dev :=
  let x := d.engs.get {} e
  if !x.test || x.group != 0 || decide (edge d < max x.since x.testEdge + 800) then d
  else
    let d := { d with engs := d.engs.put e { x with test := false } }
    if passed then d else engsKick (doffPly e d)

def execEngineSelfTest (dt engine : Nat) (passed : Bool) (s : State) : Host.Outcome State Fault Refusal :=
  onDev dt (engineSelfTestAt engine passed) s

/-! Launches (R105, R109, R110, R113, R122). -/

/-- The shape of a ply's record: class and size (R123). -/
def plyShape (r : Rec) : Nat := r.u P0501_CLASS * 16 + r.u P0501_SIZE

/-- A ply enters RUN with the state words `w` (R122): ramp under R121, the count of SP_SOURCE 3. -/
def plyEnter (p : Nat) (r : Rec) (w : PlyW) (d : Dev) : Dev :=
  let x := d.plies.get {} p
  { d with plies := d.plies.put p { x with
      w := w, ramp := rampStart r, n0 := readStrand (r.u P0501_SP_STRAND) d, staleRun := 0
      vSet := 0, aSet := 0, jSet := 0, restart := false, launch := {}, shape := plyShape r } }
    |> put PLY_STATE_STATE p 1 |> put PLY_STATE_CONSEC_MISS p 0 |> put PLY_STATE_ARRIVED p 0

/-- A STOPPED ply returns to RUN at a launch (R122). -/
def plyRestart (p : Nat) (r : Rec) (d : Dev) : Dev :=
  let n := r.u P0501_SIZE
  plyEnter p r (if r.u P0501_CLASS = 1 then ⟨[], List.replicate n (r.s P0501_STOP_OUT)⟩ else {}) d

/-- A new record in force at a launch (R123): a change of class or size zeroes the state words, and an added ply enters RUN. -/
def plyReshape (p : Nat) (r : Rec) (d : Dev) : Dev :=
  let x := d.plies.get {} p
  if x.shape = plyShape r then d
  else if x.shape = 0 then setStrandS 0x05 p (r.s P0501_INIT_OUT) (plyEnter p r {} d)
  else { d with plies := d.plies.put p { x with w := {}, shape := plyShape r } }

/-- The entry of drive `n` at a launch with stamp `t`: currents and angles as they stand (R180, R181). -/
def captureDrive (n t : Nat) (d : Dev) : Dev :=
  match driveRec n d with
  | none => d
  | some r =>
    let cur (c : Nat) : Int := toInt 32 (strand 0x07 c d)
    let (th, tho) := driveAngles r t d
    put DRV_AX_THETA_THETA n th { d with drives := d.drives.put n { d.drives.get {} n with
        pending := false, launchEdge := edge d, ia := cur (r.u P0704_SD_A)
        ib := cur (r.u P0704_SD_B), ic := if r.u P0704_SD_C = 0xFF then 0 else cur (r.u P0704_SD_C), theta := th, thetaOut := tho } }

/-- A current entry is skipped at a launch: stale channels (R175, R460), or D_PLY or Q_PLY STOPPED (R182). -/
def entrySkipped (e : Nat) (d : Dev) : Bool :=
  if e < 0x8000 then false
  else match driveRec (e % 16) d with
    | none => true
    | some r => (driveChans r).any (fun c => flag DRV_SD_STATUS_STALE c d) ||
        (entryPliesOf e d).any fun p => get PLY_STATE_STATE p d != 1

/-- Ply `p` at an accepted launch, before its evaluation: the count, the return to RUN, stale inputs (R113, R122). -/
def plyAtLaunch (g : Rec) (p : Nat) (d : Dev) : Dev :=
  match plyRec p d with
  | none => d
  | some r =>
    let d := plyReshape p r (bump PLY_LAUNCHES_COUNT p d)
    let d := if get PLY_STATE_STATE p d = 2 ∧ (d.plies.get {} p).restart then plyRestart p r d else d
    if get PLY_STATE_STATE p d ≠ 1 then d
    else
      let x := d.plies.get {} p
      if staleAt p r g d then
        let n := x.staleRun + 1
        let d := { d with plies := d.plies.put p { x with staleRun := n } }
          |> put PLY_FLAGS_STALE p 1 |> bumpSat PLY_COUNTS_STALE_COUNT p
        if r.u P0501_STALE_LIMIT ≠ 0 ∧ r.u P0501_STALE_LIMIT ≤ n then plyFault 0x0507 p d n else d
      else { d with plies := d.plies.put p { x with staleRun := 0 } }

/-- Ply `p` takes part in the launch: its inputs captured, the motion block's clamps flagged (R140). -/
def plyCapture (g : Rec) (t p : Nat) (d : Dev) : Dev :=
  match plyRec p d with
  | none => d
  | some r =>
    if get PLY_STATE_STATE p d ≠ 1 then d
    else
      let x := d.plies.get {} p
      let l := captureL p r g t x d
      let sat := match (if r.u P0501_SP_SOURCE = 5 then axisRole p d else none) with
        | some (1, a, _) => (d.axes.get {} a).satPos
        | some (_, a, _) => (d.axes.get {} a).satVel
        | none => false
      let hold := staleAt p r g d && r.b P0501_FLAGS 3
      { d with plies := d.plies.put p { x with launch := { l with hold := hold, done := hold, fin := edge d } } }
        |> onlyIf sat (put PLY_FLAGS_SAT_ACC p 1)

/-- Entry `e` of an accepted launch. -/
def entryCapture (g : Rec) (t e : Nat) (d : Dev) : Dev :=
  if entrySkipped e d then d
  else d |> onlyIf (decide (0x8000 ≤ e)) (captureDrive (e % 16) t) |> forL (entryPliesOf e d) (plyCapture g t)

/-- The group and its plies use the new image from their first launch at or after S_c (R52). -/
def grpSwitch (g t : Nat) (d : Dev) : Dev :=
  if d.next.isNone || get FUSE_XCHG_STATE 0 d != 4 || decide (t < d.xchg.sc) || d.switched.contains (0x502 * 65536 + g) then d
  else
    let d := { d with switched := (0x502 * 65536 + g) :: d.switched }
    match grpRec g d with
    | none => d
    | some r => d |> put PLY_GRP_STATUS_ENGINE g (r.u P0502_ENGINE) |> putB PLY_GRP_STATUS_TWIN g (isTwin r)
      |> put PLY_GRP_STATUS_PRIORITY g (r.u P0502_PRIORITY) |> forL (groupPlies d r) (fun p d => { d with switched := (4 * 65536 + p) :: d.switched }
        |> put PLY_STATE_GROUP p g |> put PLY_STATE_ENGINE p (r.u P0502_ENGINE) |> putB PLY_STATE_TWIN p (isTwin r))

/-- A launch still under way on the edge of the next one publishes first (R110, R111). -/
def publishDue (r : Rec) (d : Dev) : Dev := forL (groupPlies d r) plyPublishAt d

/-- The epoch of the results that engine `e` gives for group `g` at a launch now (R128): the old placement's up to the launch that is
the migration's barrier, the new one's after it. -/
def launchEpoch (e g : Nat) (d : Dev) : Nat :=
  let passed := d.pool.migs.any fun m => m.1 == 1 && m.2.logical == e && !m.2.left.contains g
  (get PLY_ENG_STATUS_EPOCH e d + b2n passed) % 65536

/-- An accepted launch of group `g` at stamp `t`. Unresolved launches count only in a row (R126). -/
def acceptLaunch (g t : Nat) (d : Dev) : Dev :=
  match grpRec g d with
  | none => d
  | some r =>
    let x := d.grps.get {} g
    let single := if !isTwin r then 0 else if (d.engs.get {} (r.u P0502_ENGINE)).out then 2
      else if (d.engs.get {} (r.u P0502_TWIN_ENGINE)).out then 1 else 0
    let entries := (List.range (r.u P0502_COUNT)).map fun i => r.u P0502_ENTRY i
    let d := publishDue r d
    { d with grps := d.grps.put g {
        unresolved := if x.held then x.unresolved else 0, placed := x.placed, live := true, stamp := t, edge := edge d, ever := true
        single := single, traced := true
        epoch := launchEpoch (grpEngine g r d) g d, epochTwin := launchEpoch (r.u P0502_TWIN_ENGINE) g d } }
      |> put PLY_GRP_LAST_STAMP g t |> passBarrier 1 g t |> passMoves g
      |> forL (groupPlies d r) (plyAtLaunch r) |> forL entries (entryCapture r t)
      |> engsKick |> trcSettle g

/-- A pick launches group `g` at firing stamp `t` (R105), or the launch is refused (R109); none during a debug halt (R114). -/
def launchGroup (g t : Nat) (d : Dev) : Dev :=
  let d := grpSwitch g t d
  match grpRec g d with
  | none => d
  | some r =>
    let x := d.grps.get {} g
    if !running d || d.unit.halted then d
    else if x.ever && !replaying d && decide ((t - get PLY_GRP_LAST_STAMP g d) * 10 < r.u P0502_MIN_PERIOD * 64) then
      stick PLY_GRP_STATUS_EARLY g 0x0503 g (bumpSat PLY_GRP_STATUS_EARLY_COUNT g d)
        0 (divHalfUp ((t - get PLY_GRP_LAST_STAMP g d : Nat) * 1000) us16)
    else acceptLaunch g t d

/-- A sample group's pick launches its TRIGGER 1 groups in ascending order (R105). -/
def launchSample (sg t : Nat) (d : Dev) : Dev :=
  forL (List.range 256) (fun g d =>
    match grpRec g (grpSwitch g t d) with
    | some r => if r.u P0502_TRIGGER = 1 ∧ r.u P0502_SAMPLE_GROUP = sg then launchGroup g t d else d
    | none => d) d

/-- A PLY_GROUP pick launches its TRIGGER 0 group (R105). -/
def launchPick (g t : Nat) (d : Dev) : Dev :=
  match grpRec g (grpSwitch g t d) with
  | some r => if r.u P0502_TRIGGER = 0 then launchGroup g t d else d
  | none => d

/-- STOPPED of a ply cleared by a host (R122): a ply of an axis waits for the axis's ENABLE as well. -/
def plyClearStopped (p : Nat) (d : Dev) : Dev :=
  if (axisOfPly p d).isSome then clearField PLY_STATE_STOPPED p d else plyRelease p d

/-- What a committed step assigns to a ply with SP_SOURCE 1 (R121, R259): the target in Q1.31 and limits, from the first launch
at or after the firing stamp, a launch on the same edge included. -/
def plySet (p : Nat) (target : Int) (v a j : Nat) (d : Dev) : Dev :=
  match plyRec p d with
  | none => d
  | some r =>
    if r.u P0501_SP_SOURCE ≠ 1 then d
    else
      let x := d.plies.get {} p
      let x := { x with ramp := { x.ramp with x := target * 4294967296, given := true }, vSet := v, aSet := a, jSet := j }
      let l := x.launch
      let x := match grpRec (groupOfPly p d) d with
        | some g => if l.live && !l.done && l.edge == edge d then
            let n := captureL p r g l.stamp x d
            { x with launch := { l with goal := n.goal, vLim := n.vLim, aLim := n.aLim, jLim := n.jLim, ramp := n.ramp } }
          else x
        | none => x
      { d with plies := d.plies.put p x }

/-! The image's settings and RUN. -/

/-- The registers that the image sets (IMG of R136). LOAD in percent is rounded to nearest, halves up (DESIGN CHOICE, log entry 27). -/
def plyImage (d : Dev) : Dev :=
  match d.img with
  | none => d
  | some m =>
    let pct (e : Nat) : Nat := satU 8 (ratHalfUp (engLoad m e * 100)).toNat
    d |> put PLY_STATUS_PLIES 0 (m.all 0x0501).length |> put PLY_STATUS_ENGINES 0 0xFF
      |> forN 8 (fun e d => d |> put PLY_ENG_STATUS_LOAD e (pct e) |> put PLY_ENG_STATUS_EPOCH e 1)
      |> forL (m.all 0x0502) (fun r d =>
          let g := r.u P0502_GROUP
          d |> put PLY_GRP_STATUS_ENGINE g (r.u P0502_ENGINE) |> putB PLY_GRP_STATUS_TWIN g (isTwin r)
            |> put PLY_GRP_STATUS_PRIORITY g (r.u P0502_PRIORITY)
            |> forL (groupPlies d r) (fun p d => d |> put PLY_STATE_GROUP p g |> put PLY_STATE_ENGINE p (r.u P0502_ENGINE)
              |> putB PLY_STATE_TWIN p (isTwin r)))

/-- A ply that the new image of an exchange does not hold (R123): it publishes nothing more, and one that comes back later is a new
one. -/
def plyDrop (new : Img) (d : Dev) : Dev :=
  forL (recsOf 0x0501 d) (fun r d =>
    let p := r.u P0501_PLY
    if (new.find 0x0501 P0501_PLY p).isSome then d
    else put PLY_STATE_STATE p 0 { d with plies := d.plies.del p }) d

/-- Every ply at the beginning of RUN, or at takeover where it is OFF (R122), and the buffers armed at RUN (R131). -/
def plyRun (d : Dev) : Dev :=
  d |> forL (recsOf 0x0501 d) (fun r d =>
      let p := r.u P0501_PLY
      if get PLY_STATE_STATE p d ≠ 0 then d
      else putStrandsS [(0x05000 + p, r.s P0501_INIT_OUT)] (plyEnter p r {} d))
    |> forL (recsOf 0x0503 d) (fun r d => onlyIf (r.b P0503_FLAGS 2) (trcArm (r.u P0503_BUFFER) r) d)

end Sys2Proof.Machine
end

