-- ==== Sys2Proof/Machine/Float32.lean ====
section
/-! DEFINITION. REAL32 arithmetic of the Shuttle (R232, R233): IEEE 754 binary32, rounded to nearest with ties to even, subnormal
numbers kept, and the default quiet NaN for every NaN result. -/

namespace Sys2Proof

/-- The default quiet NaN (R233). -/
def qNaN : Nat := 0x7FC00000

/-- What a REAL32 word stands for: a NaN, an infinity, or a sign with a whole number of units of 2^-149. -/
inductive F32 where
  | nan
  | inf (neg : Bool)
  | fin (neg : Bool) (m : Nat)
  deriving DecidableEq, Repr

/-- The meaning of a word. -/
def f32Of (w : Nat) : F32 :=
  let neg := bit w 31
  let e := bits w 23 8
  let f := bits w 0 23
  if e = 255 then (if f = 0 then .inf neg else .nan)
  else if e = 0 then .fin neg f
  else .fin neg ((2 ^ 23 + f) * 2 ^ (e - 1))

/-- The sign bit. -/
def f32Sign (neg : Bool) : Nat := if neg then 0x80000000 else 0

/-- A magnitude `num / den` in units of 2^-149 rounded to a word; overflow gives infinity. -/
def f32Round (neg : Bool) (num den : Nat) : Nat :=
  let k := Nat.log2 (num / den) - 23
  let b := k * 2 ^ 23 + (divHalfEven num (den * 2 ^ k)).toNat
  f32Sign neg + (if 0x7F800000 ≤ b then 0x7F800000 else b)

/-- A signed whole number of units of 2^-149 as a word; a zero takes the sign given. -/
def f32OfInt (zeroNeg : Bool) (n : Int) : Nat :=
  if n = 0 then f32Sign zeroNeg else f32Round (decide (n < 0)) n.natAbs 1

/-- The signed value of a finite number in units of 2^-149. -/
def f32Units (neg : Bool) (m : Nat) : Int := if neg then -(m : Int) else m

/-- FADD. -/
def f32Add (x y : Nat) : Nat :=
  match f32Of x, f32Of y with
  | .nan, _ => qNaN
  | _, .nan => qNaN
  | .inf a, .inf b => if a == b then f32Sign a + 0x7F800000 else qNaN
  | .inf a, .fin _ _ => f32Sign a + 0x7F800000
  | .fin _ _, .inf b => f32Sign b + 0x7F800000
  | .fin a m, .fin b n => f32OfInt (a && b) (f32Units a m + f32Units b n)

/-- The sign turned, FNEG with SUB 0; a NaN gives the default NaN. -/
def f32Neg (x : Nat) : Nat :=
  match f32Of x with
  | .nan => qNaN
  | _ => if bit x 31 then x % 0x80000000 else x % 0x80000000 + 0x80000000

/-- FNEG with SUB 1. -/
def f32Abs (x : Nat) : Nat :=
  match f32Of x with
  | .nan => qNaN
  | _ => x % 0x80000000

/-- FSUB. -/
def f32Sub (x y : Nat) : Nat :=
  match f32Of y with
  | .nan => qNaN
  | _ => f32Add x (f32Neg y)

/-- FMUL. -/
def f32Mul (x y : Nat) : Nat :=
  match f32Of x, f32Of y with
  | .nan, _ => qNaN
  | _, .nan => qNaN
  | .inf a, .inf b => f32Sign (a != b) + 0x7F800000
  | .inf a, .fin b n => if n = 0 then qNaN else f32Sign (a != b) + 0x7F800000
  | .fin a m, .inf b => if m = 0 then qNaN else f32Sign (a != b) + 0x7F800000
  | .fin a m, .fin b n => if m = 0 ∨ n = 0 then f32Sign (a != b) else f32Round (a != b) (m * n) (2 ^ 149)

/-- FDIV. -/
def f32Div (x y : Nat) : Nat :=
  match f32Of x, f32Of y with
  | .nan, _ => qNaN
  | _, .nan => qNaN
  | .inf _, .inf _ => qNaN
  | .inf a, .fin b _ => f32Sign (a != b) + 0x7F800000
  | .fin a _, .inf b => f32Sign (a != b)
  | .fin a m, .fin b n =>
    if n = 0 then (if m = 0 then qNaN else f32Sign (a != b) + 0x7F800000)
    else if m = 0 then f32Sign (a != b) else f32Round (a != b) (m * 2 ^ 149) n

/-- FSQRT: the root is rounded from its integer part and a sticky bit. -/
def f32Sqrt (x : Nat) : Nat :=
  match f32Of x with
  | .nan => qNaN
  | .inf neg => if neg then qNaN else 0x7F800000
  | .fin neg m =>
    if m = 0 then f32Sign neg
    else if neg then qNaN
    else
      let n := m * 2 ^ 149
      let s := isqrtLoop 214 n 0
      f32Round false (2 * s + (if s * s = n then 0 else 1)) 2

/-- ITOF and QTOF: an integer times 2^-k as a word. -/
def f32OfScaled (n : Int) (k : Nat) : Nat := f32OfInt false (n * 2 ^ (149 - k))

/-- FTOI and FTOQ: the value times 2^k rounded to an INT32 with saturation: the word, and whether it saturated or was a NaN. -/
def f32ToInt (x k : Nat) : Int × Bool × Bool :=
  match f32Of x with
  | .nan => (0, false, true)
  | .inf neg => (if neg then minS 32 else maxS 32, true, false)
  | .fin neg m =>
    let v := divHalfEven (f32Units neg m) (2 ^ (149 - k))
    (satS 32 v, satS 32 v != v, false)

/-- The order of two words that are no NaN: less, equal or greater, as −1, 0, 1. -/
def f32Order (x y : Nat) : Int :=
  let key (w : Nat) : Int := match f32Of w with
    | .nan => 0
    | .inf neg => if neg then -(2 ^ 300) else 2 ^ 300
    | .fin neg m => f32Units neg m
  if key x < key y then -1 else if key y < key x then 1 else 0

/-- The word is a NaN. -/
def f32IsNaN (x : Nat) : Bool := f32Of x == .nan

/-- MIN (`big` false) and MAX of two words (R235): a NaN operand yields the other. The spec does not say which zero a pair of
zeros of unlike sign gives: a free choice. -/
def f32Pick (big : Bool) (x y : Nat) : Nat :=
  if f32IsNaN x then (if f32IsNaN y then qNaN else y)
  else if f32IsNaN y then x
  else
    let o := f32Order x y
    if o = 0 then (if x = y then x else if Config.zeroChoice x y then x else y)
    else if (o < 0) != big then x else y

end Sys2Proof
end

