-- ==== Sys2Proof/Machine/Plan.lean ====
section
/-! DEFINITION. The motion planner (R150 to R154): plans in exact instants (R151) and their evaluation. Positions are raw 48.16
units, speeds raw units per second, instants sixteenths of an FCLK cycle. -/

namespace Sys2Proof.Machine

/-- Sixteenths in a second. -/
def sec16 : Rat := 6400000000

/-- A square root rounded down to a raw speed unit (R151). -/
def rootDown (q : Rat) : Int := if q < 0 then 0 else (isqrt q.floor.toNat : Nat)

/-- A piece of a shape: its first speed, acceleration and time in seconds. -/
abbrev Piece := Rat × Rat × Rat

/-- Distance that a piece covers. -/
def pieceDist (c : Piece) : Rat := c.1 * c.2.2 + c.2.1 * c.2.2 * c.2.2 / 2

/-- From `v` to `w` at rate `a` above 0. -/
def rampPiece (v w a : Rat) : Piece := if v ≤ w then (v, a, (w - v) / a) else (v, -a, (v - w) / a)

/-- A cruise at `v` over `x`. -/
def cruise (v x : Rat) : List Piece := if v = 0 then [] else [(v, 0, x / v)]

/-- The shape of R150 over `d` at or above 0, from speed `vs` to end speed `ve`, with top speed `v` and rates `a`, `b`. -/
def shape (d v vs ve a b : Rat) : List Piece :=
  let da := (v * v - vs * vs) / (2 * a)
  let db := (v * v - ve * ve) / (2 * b)
  let q := (2 * a * b * d + b * vs * vs + a * ve * ve) / (a + b)
  let m := max vs ve
  if d = 0 then []
  else if da + db ≤ d then [rampPiece vs v a] ++ cruise v (d - da - db) ++ [rampPiece v ve b]
  else if m * m ≤ q then
    let p : Rat := rootDown q
    [rampPiece vs p a] ++ cruise p (d - (p * p - vs * vs) / (2 * a) - (p * p - ve * ve) / (2 * b)) ++ [rampPiece p ve b]
  else if 2 * b * d < vs * vs - ve * ve then
    let p : Rat := rootDown (ve * ve + 2 * b * d)
    cruise p (d - (p * p - ve * ve) / (2 * b)) ++ [rampPiece p ve b]
  else
    let p : Rat := rootDown (vs * vs + 2 * a * d)
    [rampPiece vs p a] ++ cruise p (d - (p * p - vs * vs) / (2 * a))

/-- Pieces laid from instant `t` at position `p` in direction `s`: the segments and the instant at which they end. -/
def layPieces (s : Rat) : List Piece → Rat → Rat → List Seg × Rat × Rat
  | [], t, p => ([], t, p)
  | c :: cs, t, p =>
    let (rest, e, q) := layPieces s cs (t + c.2.2 * sec16) (p + s * pieceDist c)
    (⟨t, p, s * c.1, s * c.2.1⟩ :: rest, e, q)

/-- A plan from pieces that ends at `target`. -/
def planOf (s t p : Rat) (cs : List Piece) (target : Int) : Plan :=
  let (segs, e, _) := layPieces s cs t p
  { segs := segs, tEnd := e, target := target }

/-- The axis stands at `p`. -/
def standPlan (p : Int) : Plan := { target := p }

/-- Deceleration at `b` to 0 with no stop speed (R154); the exact end of a stop is rounded under rnd16. -/
def stopPlan (t p v : Int) (b : Rat) : Plan :=
  let s : Rat := if v < 0 then -1 else 1
  let u : Rat := v.natAbs
  if v = 0 then standPlan p else planOf s t p [(u, -b, u / b)] (ratHalfUp (p + s * u * u / (2 * b)))

/-- Limits of a move: top speed, start and stop speeds, acceleration and deceleration. -/
structure MoveLim where
  v : Rat
  vs : Rat
  ve : Rat
  a : Rat
  b : Rat
  deriving DecidableEq, Repr

/-- A move from standstill at `p` to `x` from instant `t` (R150). -/
def restPieces (d : Rat) (m : MoveLim) : List Piece := shape d m.v (min m.vs m.v) (min m.ve m.v) m.a m.b

/-- A move planned at instant `t` from `p` at speed `v0` to `x` (R150, R152). -/
def movePlan (t p v0 x : Int) (m : MoveLim) : Plan :=
  let dist : Rat := x - p
  let ve := min m.ve m.v
  if v0 = 0 then planOf (if dist < 0 then -1 else 1) t p (restPieces |dist| m) x
  else
    let s : Rat := if v0 < 0 then -1 else 1
    let u : Rat := v0.natAbs
    let ahead := s * dist
    if 0 ≤ ahead ∧ (u * u - ve * ve) / (2 * m.b) ≤ ahead then
      if m.v < u then
        planOf s t p ((u, -m.b, (u - m.v) / m.b) :: shape (ahead - (u * u - m.v * m.v) / (2 * m.b)) m.v m.v ve m.a m.b) x
      else planOf s t p (shape ahead m.v u ve m.a m.b) x
    else
      let (s1, e1, q) := layPieces s [(u, -m.b, u / m.b)] t p
      let back : Rat := x - q
      let (s2, e2, _) := layPieces (if back < 0 then -1 else 1) (restPieces |back| m) e1 q
      { segs := s1 ++ s2, tEnd := e2, target := x, reversing := some e1 }

/-- Motion without an end at speed `w` in direction `s`, reached at rate `a`, or `b` downward (R163). -/
def runPlan (t p v0 : Int) (s : Rat) (w a b : Rat) : Plan :=
  let u := s * v0
  let c := rampPiece u w (if u ≤ w then a else b)
  let (segs, e, q) := layPieces s [c] t p
  { segs := segs ++ [⟨e, q, s * w, 0⟩], tEnd := e + 2 ^ 80, target := p }

/-- The segment in force at instant `t`. -/
def segAt (t : Rat) : List Seg → Option Seg
  | [] => none
  | s :: l => if s.t ≤ t then (segAt t l).or (some s) else none

/-- Position, velocity and acceleration of a plan at instant `t`, exact. -/
def planExact (pl : Plan) (t : Nat) : Rat × Rat × Rat :=
  if pl.tEnd ≤ t then (pl.target, 0, 0)
  else match segAt t pl.segs with
    | none => (pl.target, 0, 0)
    | some s =>
      let x := ((t : Rat) - s.t) / sec16
      (s.p + s.v * x + s.a * x * x / 2, s.v + s.a * x, s.a)

/-- PROF_POS, PROF_VEL and PROF_ACC under rnd16 (R151). -/
def planAt (pl : Plan) (t : Nat) : Int × Int × Int :=
  let (p, v, a) := planExact pl t
  (ratHalfUp p, ratHalfUp v, ratHalfUp a)

/-- The plan has ended. -/
def planEnded (pl : Plan) (t : Nat) : Bool := decide (pl.tEnd ≤ t)

/-- A plan moved by `k` (R164). -/
def shiftPlan (k : Int) (pl : Plan) : Plan :=
  { pl with segs := pl.segs.map fun s => { s with p := s.p + k }, target := pl.target + k }

/-- The stopping point of `p` at `v` with `b` (R154), exact. -/
def stopPoint (p v : Int) (b : Rat) : Rat := p + (if v < 0 then -1 else 1) * ((v : Rat) * v) / (2 * b)

/-- A position that a profile may plan (R154): inside the limits, or between where the axis stands and the far limit. -/
def limOk (x : Rat) (p lo hi : Int) : Bool := decide (min (lo : Rat) p ≤ x ∧ x ≤ max (hi : Rat) p)

end Sys2Proof.Machine
end

