-- ==== Sys2Proof/Machine/Motion.lean ====
section
/-! DEFINITION. Servo axes (R138 to R168): mailboxes, commands, moves, gears, limits, homing, states and the servo evaluation
of one axis. -/

namespace Sys2Proof.Machine

/-- A change of an axis's own notes. -/
def axMod (a : Nat) (f : AxisX → AxisX) (d : Dev) : Dev := { d with axes := d.axes.put a (f (d.axes.get {} a)) }

/-- A motion strand (R141). -/
def motStrand (k a : Nat) (d : Dev) : Int := toInt 64 (strand 0x06 (64 * k + a) d)

/-- PROF_POS and PROF_VEL of the axis at instant `t`, which a new plan starts from (R152). -/
def profNow (a t : Nat) (d : Dev) : Int × Int :=
  let x := d.axes.get {} a
  if x.onPath then (x.path.1, x.path.2.1)
  else if x.gear.isSome then (motStrand 0 a d, motStrand 3 a d)
  else let (p, v, _) := planAt x.plan t; (p, v)

/-- A new profile (R153). -/
def newProfile (a : Nat) (pl : Plan) (d : Dev) : Dev :=
  axMod a (fun x => { x with plan := pl, gear := none, onPath := false, inpos := none }) d
    |> put MOT_AX_STATE_INPOS a 0 |> putB MOT_AX_STATE_REVERSING a pl.reversing.isSome |> put MOT_AX_STATE_ENGAGING a 0

/-! Results of commands (R149). -/

/-- A command's result in the register of its mailbox. -/
def showCmd (hank : Bool) (a seq res cause : Nat) (d : Dev) : Dev :=
  if hank then d |> put MOT_AX_CMD_H_SEQ a seq |> put MOT_AX_CMD_H_RESULT a res |> put MOT_AX_CMD_H_CAUSE a cause
  else d |> put MOT_AX_CMD_S_SEQ a seq |> put MOT_AX_CMD_S_RESULT a res |> put MOT_AX_CMD_S_CAUSE a cause

/-- Another command of the same mailbox takes the register over. -/
def unshow (hank : Bool) (a : Nat) (d : Dev) : Dev :=
  axMod a (fun x => if (x.by_ == 1) == hank && x.by_ != 0 then { x with shown := false } else x) d

/-- The running command ends with a result. -/
def endCmd (a res : Nat) (d : Dev) : Dev :=
  let x := d.axes.get {} a
  let d := if x.by_ = 0 ∨ !x.shown then d
    else if x.by_ = 1 then put MOT_AX_CMD_H_RESULT a res d else put MOT_AX_CMD_S_RESULT a res d
  axMod a (fun x => { x with by_ := 0, code := 0, shown := false }) d

/-- The running command, when it is one of `codes`, is done. -/
def cmdDone (a : Nat) (codes : List Nat) (d : Dev) : Dev :=
  let x := d.axes.get {} a
  if x.by_ ≠ 0 ∧ codes.contains x.code then endCmd a 2 d else d

/-- The fields of a command's 32 bytes (R147). -/
def mcmdOf (bs : List Nat) : MCmd :=
  let u (o n : Nat) : Nat := leVal ((bs.drop o).take n)
  { seq := u 0 2, code := u 2 1, flags := u 3 1, p1 := u 4 1, p2 := u 5 1
    value := toInt 64 (u 8 8), speed := toInt 64 (u 16 8), aux := u 24 8, pad := u 6 2 }

/-- A command written to a mailbox (R146). -/
def postAxis (a : Nat) (hank : Bool) (c : MCmd) (d : Dev) : Dev :=
  if c.seq = 0 ∨ (axisRec a d).isNone then d
  else
    let x := d.axes.get {} a
    let d := match (if hank then x.boxH else x.boxS) with
      | none => d
      | some old => raise 0x0604 a (put MOT_AX_FLAGS_OVERWRITTEN a 1 (showCmd hank a old.seq 4 0 (unshow hank a d)))
    axMod a (fun x => if hank then { x with boxH := some c } else { x with boxS := some c }) d

/-! Limits (R154). -/

/-- The virtual limits. -/
def vlims (r : Rec) : Int × Int :=
  if r.b P0601_FLAGS 1 then (-(2 ^ 63), 2 ^ 63 - 1) else (r.s P0601_VLIM_LO, r.s P0601_VLIM_HI)

/-- ACC and DEC scaled by P1 and P2 (R150). -/
def scaled (v : Int) (p : Nat) : Rat := if p = 0 then v else (v : Rat) * p / 100

/-! Gears (R155). -/

/-- g(x) for `2 x` in half units (R155). -/
def gearOf (g : GearX) (x2 : Int) : Int := x2 * g.num / (2 ^ (g.shift + 1) : Nat)

/-- PROF_POS of a geared axis at master position `m`, and whether it is still engaging. -/
def gearPos (g : GearX) (m : Int) : Int × Bool :=
  let dm := toInt 64 (ofInt 64 (m - g.mA))
  let s : Int := if dm < 0 then -1 else if dm = 0 then 0 else 1
  if |dm| < g.e then (g.pA + ratHalfUp ((gearOf g (2 * (dm * |dm|)) : Rat) / (2 * g.e)), true)
  else (g.pA + gearOf g (2 * dm - s * g.e), false)

/-- PROF_VEL and PROF_ACC of a geared axis (R155) from the measure's rate and its change since the last evaluation. -/
def gearRates (g : GearX) (m : Int) (rate : Rat) (t : Nat) : Int × Int :=
  let dm := toInt 64 (ofInt 64 (m - g.mA))
  let k : Rat := (g.num : Rat) / (2 ^ g.shift : Nat)
  let dt : Rat := ((t : Rat) - g.prevT) / sec16
  let acc : Rat := if dt = 0 then 0 else (rate - g.prevV) / dt
  if |dm| < g.e then
    let f : Rat := (|dm| : Int) / (g.e : Rat)
    let s : Rat := if dm < 0 then -1 else 1
    (ratHalfUp (k * f * rate), ratHalfUp (k * (f * acc + s * rate * rate / g.e)))
  else (ratHalfUp (k * rate), ratHalfUp (k * acc))

/-- A measure's rate in units per second. -/
def rateSec (m : Nat) (d : Dev) : Rat := (measRate m d : Rat) * 1000000 / 4294967296

/-! Faults of stopping kind (R166). -/

/-- A controlled stop with FAULT_PENDING; a second fault does not restart it. -/
def axisStopFault (a : Nat) (r : Rec) (t : Nat) (d : Dev) : Dev :=
  if !axisEnabled a d || flag MOT_AX_STATE_FAULT_PENDING a d then d
  else
    let x := d.axes.get {} a
    let d := put MOT_AX_STATE_FAULT_PENDING a 1 d
    let d := if get MOT_AX_STATE_STATE a d = 4 then axMod a (fun x => { x with home := x.home.ending t }) d else d
    if (x.brake.map (·.2)).getD 2 ≠ 2 then setAxisState a 7 d
    else if x.onPath then setAxisState a 7 (memberFault a d)
    else
      let (p, v) := profNow a t d
      setAxisState a 7 (newProfile a (stopPlan t p v (r.s P0601_STOP_DEC)) (axMod a (fun x => { x with brake := none }) d))

/-- An F2 fault of stopping kind raised for axis `a`. -/
def raiseStop (code a t : Nat) (d : Dev) (value : Int := 0) : Dev :=
  match axisRec a d with
  | none => d
  | some r => raise code a d 0 value |> onlyIf (inRun d) (axisStopFault a r t)

/-! Commands (R148, R149, R154). -/

/-- States that accept a command (R148). -/
def acceptsIn (code st : Nat) : Bool :=
  match code with
  | 1 => st == 0
  | 2 => st != 0 && st != 8 && st != 9
  | 3 => st == 2 || st == 3
  | 4 => st == 2 || st == 3
  | 5 => st == 2 || st == 3
  | 6 => st == 3 || st == 4 || st == 5
  | 7 => st == 2
  | 8 => st == 2
  | 9 => st == 5
  | 10 => st == 9
  | _ => false

/-- A field of the command is out of range (R147, R148). -/
def badFields (r : Rec) (c : MCmd) : Bool :=
  let move := c.code == 3 || c.code == 4 || c.code == 5
  let gear := c.code == 8
  decide (1 < c.flags ∨ c.code = 0 ∨ 10 < c.code ∨ c.pad ≠ 0) || (!gear && c.aux != 0) ||
  (if move then decide (100 < c.p1 ∨ 100 < c.p2) else if gear then decide (15 < c.p1 ∨ 63 < c.p2) else c.p1 != 0 || c.p2 != 0) ||
  (if move then decide (c.speed < 0 ∨ r.s P0601_V_MAX < c.speed) else c.speed != 0) ||
  (if move then false else if gear then decide (c.value < -2147483648 ∨ 2147483647 < c.value) else c.value != 0)

/-- Whether the state or a field refuses the command with 0x0603, or GEAR_IN with 0x0606 (R148, R156). -/
def judge (a : Nat) (r : Rec) (c : MCmd) (d : Dev) : Nat :=
  let st := get MOT_AX_STATE_STATE a d
  let homed := flag MOT_AX_STATE_HOMED a d
  if badFields r c then 0x0603
  else if c.code = 8 ∧ 3 ≤ st ∧ st ≤ 7 ∧ st ≠ 6 then 0x0606
  else if !acceptsIn c.code st then 0x0603
  else if (c.code = 3 ∨ c.code = 4) ∧ !homed ∧ !r.b P0601_FLAGS 3 then 0x0603
  else if c.code = 8 ∧ !homed then 0x0603
  else if c.code = 8 ∧ get REEL_MEAS_STATUS_STATE c.p1 d ≠ 2 then 0x0606
  else if c.code = 7 ∧ r.u P0601_HOME_METHOD = 0 then 0x0603
  else 0

/-- A motion of axis `a` in direction `s` leads further toward a tripped limit (R162). -/
def towardTrip (a : Nat) (s : Int) (d : Dev) : Bool :=
  (flag MOT_AX_STATE_LIM_POS_TRIP a d && decide (0 < s)) || (flag MOT_AX_STATE_LIM_NEG_TRIP a d && decide (s < 0))

/-- A move's target and limits, or the refusing code (R150 to R154, R162). -/
def moveSpec (a : Nat) (r : Rec) (c : MCmd) (p v : Int) (d : Dev) : Except Nat (Int × MoveLim) :=
  let (lo, hi) := vlims r
  let vm := r.s P0601_V_MAX
  let cap := if c.speed = 0 then vm else min c.speed vm
  let dec := scaled (r.s P0601_DEC) c.p2
  let jog := c.code = 5
  let base := if get MOT_AX_STATE_STATE a d = 3 then (d.axes.get {} a).plan.target else p
  let x := if jog then (if 0 < c.value then hi else lo) else if c.code = 3 then c.value else base + c.value
  let top := if jog then min |c.value| cap else cap
  if towardTrip a (x - p) d then .error 0x0612
  else if jog ∧ ((0 < c.value ∧ hi < p) ∨ (c.value < 0 ∧ p < lo)) then .error 0x0605
  else if !limOk x p lo hi then .error 0x0605
  else if v ≠ 0 ∧ !limOk (stopPoint p v dec) p lo hi then .error 0x0605
  else .ok (x, { v := top, vs := r.s P0601_V_START, ve := r.s P0601_V_STOP, a := scaled (r.s P0601_ACC) c.p1, b := dec })

/-- The direction of homing. -/
def homeDir (r : Rec) : Int := if r.b P0601_FLAGS 5 then -1 else 1

/-- A pin's input is at its active level: bit `i` of POLARITY (R170). -/
def pinActive (r : Rec) (pin i : Nat) (d : Dev) : Bool := pin != 0xFF && (d.pins.get {} pin).level == r.b P0601_POLARITY i

/-- The search motion of homing from `p` at `v` (R163). -/
def searchPlan (r : Rec) (t : Nat) (p v : Int) : Plan :=
  let m := r.u P0601_HOME_METHOD
  let w := if m = 1 ∨ m = 2 then r.s P0601_HOME_V1 else r.s P0601_HOME_V2
  runPlan t p v (homeDir r) w (r.s P0601_ACC) (r.s P0601_DEC)

/-- Homing begins with a move against HOME_DIR: HOME_PIN is already active (R163). -/
def homeBack (r : Rec) (d : Dev) : Bool :=
  (r.u P0601_HOME_METHOD == 1 || r.u P0601_HOME_METHOD == 2) && pinActive r (r.u P0601_HOME_PIN) 2 d

/-- The directions in which a command other than a move sets out (R162): those of homing, and that of a gear as its master runs when it is
accepted (DESIGN CHOICE, log entry 71). -/
def cmdDirs (r : Rec) (c : MCmd) (d : Dev) : List Int :=
  match c.code with
  | 7 => if r.u P0601_HOME_METHOD = 5 then [] else if homeBack r d then [homeDir r, -homeDir r] else [homeDir r]
  | 8 => [c.value * measRate c.p1 d]
  | _ => []

/-- HOME is accepted (R163, R165). -/
def homeStart (a : Nat) (r : Rec) (t : Nat) (p v : Int) (d : Dev) : Dev :=
  let m := r.u P0601_HOME_METHOD
  if m = 5 then endCmd a 2 d
  else
    let back := homeBack r d
    let pl := if back then runPlan t p v (-homeDir r) (r.s P0601_HOME_V1) (r.s P0601_ACC) (r.s P0601_DEC) else searchPlan r t p v
    let susp := r.u P0601_HOME_PIN != 0xFF && (r.u P0601_HOME_PIN == r.u P0601_LIM_POS_PIN || r.u P0601_HOME_PIN == r.u P0601_LIM_NEG_PIN)
    d |> newProfile a pl |> put MOT_AX_STATE_HOMED a 0 |> setAxisState a 4
      |> axMod a (fun x => { x with home := { phase := if back then 1 else 3, start := p, began := t, suspended := susp } })

/-- GEAR_IN is accepted (R155). -/
def gearStart (a : Nat) (c : MCmd) (t : Nat) (p : Int) (d : Dev) : Dev :=
  let m := measRaw c.p1 t d
  let g : GearX := { measure := c.p1, pA := p, mA := m, num := c.value, shift := c.p2, e := c.aux, prevV := rateSec c.p1 d, prevT := t }
  d |> newProfile a (standPlan p) |> axMod a (fun x => { x with gear := some g })
    |> put MOT_AX_GEAR_MEASURE a c.p1 |> put MOT_AX_GEAR_SHIFT a c.p2 |> put MOT_AX_GEAR_NUM a (ofInt 32 c.value)
    |> putB MOT_AX_STATE_ENGAGING a (c.aux != 0) |> setAxisState a 5 |> onlyIf (c.aux == 0) (endCmd a 2)

/-- The axis is enabled (R166): plies released, PROF_POS takes ACT_POS, drive on, brake released. -/
def axisEnable (a : Nat) (r : Rec) (d : Dev) : Dev :=
  d |> forL (axisPlies r d) plyRelease |> newProfile a (standPlan (motStrand 1 a d)) |> onlyIf (r.u P0601_KIND == 1) (driveEnable a)
    |> axisBrake r false |> setAxisState a 1
    |> axMod a (fun x => { x with brake := some (edge d + 400 * r.u P0601_BRAKE_TIME, 2) })

/-- The catalogue's faults of kind A for an axis clear with its RESET (R482). -/
def clearAxisFaults (a : Nat) (d : Dev) : Dev :=
  clearWhere (fun f => decide (faultKind f.code = FKind.axis ∧ f.obj = a)) d

/-- Homing ends at stamp `t` (R165). -/
def homeEnd (a t : Nat) (d : Dev) : Dev := axMod a (fun x => { x with home := x.home.ending t }) d

/-- A member of a running group leaves the path to be disabled; the others stop along the path, at STOP_DEC with QUICK and at DEC without
(DESIGN CHOICE, log entry 68). -/
def memberQuit (a : Nat) (quick : Bool) (d : Dev) : Dev :=
  match mgrpOf a d with
  | some g =>
    if get MOT_AX_STATE_STATE a d = 6 ∧ (d.mgrps.get {} g).fault ≠ 1 then
      { d with mgrps := d.mgrps.put g { d.mgrps.get {} g with fault := if quick then 3 else 2 } }
    else d
  | none => d

/-- A command takes effect at an evaluation with stamp `t`. -/
def applyCmd (a : Nat) (r : Rec) (c : MCmd) (t : Nat) (spec : Int × MoveLim) (d : Dev) : Dev :=
  let (p, v) := profNow a t d
  let dec : Rat := if c.flags = 1 then r.s P0601_STOP_DEC else r.s P0601_DEC
  let wasHoming := get MOT_AX_STATE_STATE a d == 4
  let dropBrake := axMod a fun x => { x with brake := x.brake.filter (·.2 != 2) }
  match c.code with
  | 1 => axisEnable a r d
  | 2 => setAxisState a 8 (newProfile a (stopPlan t p v dec) (memberQuit a (c.flags == 1) (dropBrake d))) |> onlyIf wasHoming (fun d => homeEnd a t (put MOT_AX_FLAGS_HOME_ABORT a 1 d))
  | 6 => setAxisState a 7 (newProfile a (stopPlan t p v dec) d) |> onlyIf wasHoming (fun d => homeEnd a t (put MOT_AX_FLAGS_HOME_ABORT a 1 d))
  | 7 => homeStart a r t p v d
  | 8 => gearStart a c t p d
  | 9 => setAxisState a 7 (newProfile a (stopPlan t p v (r.s P0601_DEC)) d)
  | 10 => d |> put MOT_AX_STATE_FAULT_PENDING a 0 |> setAxisState a 0 |> clearAxisFaults a |> endCmd a 2
  | _ =>
    if c.code = 5 ∧ c.value = 0 then
      if get MOT_AX_STATE_STATE a d = 2 ∧ v = 0 then endCmd a 2 d
      else setAxisState a 3 (newProfile a (stopPlan t p v (scaled (r.s P0601_DEC) c.p2)) d)
    else d |> newProfile a (movePlan t p v spec.1 spec.2) |> putS MOT_AX_TARGET_TARGET a spec.1 |> setAxisState a 3

/-- One command taken from a mailbox (R148, R149): refused with its code, or accepted in place of the running one. -/
def takeCmd (a : Nat) (r : Rec) (t : Nat) (hank : Bool) (c : MCmd) (d : Dev) : Dev :=
  let (p, v) := profNow a t d
  let d := showCmd hank a c.seq 1 0 (unshow hank a d)
  let j := judge a r c d
  let stopJog := c.code = 5 ∧ c.value = 0
  let spec : Except Nat (Int × MoveLim) :=
    if j ≠ 0 then .error j
    else if stopJog then
      let (lo, hi) := vlims r
      if v ≠ 0 ∧ !limOk (stopPoint p v (scaled (r.s P0601_DEC) c.p2)) p lo hi then .error 0x0605 else .ok (p, ⟨0, 0, 0, 1, 1⟩)
    else if c.code = 3 ∨ c.code = 4 ∨ c.code = 5 then moveSpec a r c p v d
    else if (cmdDirs r c d).any (towardTrip a · d) then .error 0x0612
    else .ok (p, ⟨0, 0, 0, 1, 1⟩)
  match spec with
  | .error code => raise code a (put MOT_AX_FLAGS_REFUSED a 1 (showCmd hank a c.seq 3 (code % 256) d))
  | .ok s =>
    d |> endCmd a 5 |> axMod a (fun x => { x with by_ := if hank then 1 else 2, code := if c.code = 5 ∧ c.value ≠ 0 then 0 else c.code, shown := true }) |> applyCmd a r c t s

/-- DISABLE comes first, then STOP, then every other command (R149). -/
def cmdRank (c : MCmd) : Nat := if c.code = 2 then 0 else if c.code = 6 then 1 else 2

/-- The mailboxes' commands taken at an evaluation (R142, R149): the hank's before the Shuttle's within one rank. -/
def takeCmds (a : Nat) (r : Rec) (t : Nat) (d : Dev) : Dev :=
  let x := d.axes.get {} a
  let d := axMod a (fun x => { x with boxH := none, boxS := none }) d
  match x.boxH, x.boxS with
  | none, none => d
  | some h, none => takeCmd a r t true h d
  | none, some s => takeCmd a r t false s d
  | some h, some s => if cmdRank s < cmdRank h then takeCmd a r t true h (takeCmd a r t false s d)
      else takeCmd a r t false s (takeCmd a r t true h d)

/-! Actual position (R144). -/

/-- ACT_POS and ACT_VEL stand, FB_STALE is set; an axis without plies declares its feedback faulty after 8 in a row. -/
def actStale (a : Nat) (r : Rec) (d : Dev) : Dev :=
  let n := (d.axes.get {} a).staleRun + 1
  let d := axMod a (fun x => { x with staleRun := n }) (put MOT_AX_STATE_FB_STALE a 1 d)
  if r.u P0601_KIND = 2 ∧ n = 8 then raiseBreak 0x0602 a (put MOT_AX_FLAGS_FB_FAULT a 1 d) 0 n else d

/-- A new actual position at the evaluation with stamp `t`: raw position without offset, and speed. -/
def actTake (a : Nat) (t : Nat) (p v : Int) (d : Dev) : Dev :=
  let add (l : List (Nat × Int)) := ((t, p) :: (if (l.head?.map (·.1)) == some t then l.drop 1 else l)).take 4
  let d := axMod a (fun x => { x with staleRun := 0, smp := add x.smp }) (put MOT_AX_STATE_FB_STALE a 0 d)
  d |> setStrandS 0x06 (64 + a) (p + getS MOT_AX_HOME_OFFSET_OFFSET a d) |> setStrandS 0x06 (256 + a) v

/-- Step 1 of R142 at stamp `t`. -/
def axisSample (a : Nat) (r : Rec) (t : Nat) (d : Dev) : Dev :=
  let x := d.axes.get {} a
  let neg (v : Int) : Int := if r.b P0601_FLAGS 0 then -v else v
  let n := r.u P0601_FB_INDEX
  if r.u P0601_FB_SOURCE = 0 then
    if flag FBK_FB_FLAGS_FAULTY n d then actStale a r d
    else match (d.fbs.get {} n).mir with
      | some (p, _, v) => actTake a t (neg p) (neg v) d
      | none => actTake a t (neg (fbCount n d)) (neg (fbSpeed n t d)) d
  else if strandStale n d then actStale a r { d with axes := d.axes.put a { x with lastEval := some t } }
  else
    let w := r.u P0601_FB_BITS
    let v := strandId n d % 2 ^ w
    let diff := match x.reading with
      | some u => neg (toInt w (ofInt w ((v : Int) - u)))
      | none => 0
    let per : Int := match x.lastEval with
      | some u => (t : Int) - u
      | none => 0
    let ext := x.ext + diff * 65536
    actTake a t ext (if per = 0 then 0 else ratHalfUp ((diff * 65536 : Int) * sec16 / per))
      { d with axes := d.axes.put a { x with reading := some v, ext := ext, lastEval := some t } }

/-- The rate at the newest of the samples, per sixteenth (R64): the slope there of the parabola through the last three, of the line through
two (DEDUCED, log entry 71), 0 for one. -/
def sampleRate : List (Nat × Int) → Rat
  | (t2, p2) :: (t1, p1) :: l =>
    let s2 : Rat := ((p2 - p1 : Int) : Rat) / ((t2 : Rat) - t1)
    match l with
    | (t0, p0) :: _ =>
      let s1 : Rat := ((p1 - p0 : Int) : Rat) / ((t1 : Rat) - t0)
      s2 + (s2 - s1) * ((t2 : Rat) - t1) / ((t2 : Rat) - t0)
    | [] => s2
  | _ => 0

/-- The position at stamp `te` under R76 from the samples that bracket it; the newest or oldest sample's where none do. -/
def cubicAt (te : Nat) : List (Nat × Int) → Option Int
  | (tb, pb) :: (ta, pa) :: l =>
    if tb ≤ te then some pb
    else if ta ≤ te then
      some (ratHalfUp (hermite ta tb pa pb (sampleRate ((ta, pa) :: l)) (sampleRate ((tb, pb) :: (ta, pa) :: l)) te))
    else cubicAt te ((ta, pa) :: l)
  | (_, p) :: [] => some p
  | [] => none

/-- The raw position at stamp `te` under R76. -/
def rawAt (a te : Nat) (d : Dev) : Int :=
  (cubicAt te (d.axes.get {} a).smp).getD (motStrand 1 a d - getS MOT_AX_HOME_OFFSET_OFFSET a d)

/-- A sample at or after stamp `te` is there: the evaluation that brackets it (R164). -/
def bracketed (a te : Nat) (d : Dev) : Bool := ((d.axes.get {} a).smp.head?.map fun s => decide (te ≤ s.1)).getD false

/-! Limit switches (R161, R162, R165). -/

/-- The limit function of a pin is suspended by homing on it (R165). -/
def limSuspended (a : Nat) (r : Rec) (pin : Nat) (d : Dev) : Bool :=
  let x := d.axes.get {} a
  pin == r.u P0601_HOME_PIN && x.home.suspended

/-- An edge of a general I/O pin as the axes see it (R161, R163): the stamp of an active edge is kept for the next evaluation. -/
def axisPinEdge (pin : Nat) (level : Bool) (stamp : Nat) (r : Rec) (d : Dev) : Dev :=
  let a := r.u P0601_AXIS
  let act (i : Nat) : Bool := level == r.b P0601_POLARITY i
  let lim (f : PF) (i : Nat) : Bool := r.u f == pin && act i && axisEnabled a d && !limSuspended a r pin d
  let first (b : Bool) (o : Option Nat) : Option Nat := if b then o.or (some stamp) else o
  axMod a (fun x =>
    let home := r.u P0601_HOME_PIN == pin && act 2 && x.home.phase == 3 && x.home.refT.isNone
    { x with
        limPos := first (lim P0601_LIM_POS_PIN 0) x.limPos, limNeg := first (lim P0601_LIM_NEG_PIN 1) x.limNeg
        home := if home then { x.home with refT := some stamp } else x.home }) d

/-- A limit trip taken at an evaluation (R161, R165). -/
def limTrip (a : Nat) (pos : Bool) (te t : Nat) (d : Dev) : Dev :=
  let p := rawAt a te d + getS MOT_AX_HOME_OFFSET_OFFSET a d
  let homing := get MOT_AX_STATE_STATE a d == 4
  d |> axMod a (fun x => if pos then { x with limPos := none, tripPos := p } else { x with limNeg := none, tripNeg := p })
    |> put (if pos then MOT_AX_STATE_LIM_POS_TRIP else MOT_AX_STATE_LIM_NEG_TRIP) a 1
    |> putS MOT_AX_TRIP_POS_POS a p |> put MOT_AX_FLAGS_LIMIT_TRIP a 1
    |> (fun d => if homing then raiseStop 0x0611 a t (homeEnd a t (put MOT_AX_FLAGS_HOME_ABORT a 1 d)) else raiseStop 0x0610 a t d)

/-- Trips and their clearing at an evaluation (R161, R162). -/
def limCheck (a : Nat) (r : Rec) (t : Nat) (pos : Bool) (d : Dev) : Dev :=
  let x := d.axes.get {} a
  let pin := r.u (if pos then P0601_LIM_POS_PIN else P0601_LIM_NEG_PIN)
  let f := if pos then MOT_AX_STATE_LIM_POS_TRIP else MOT_AX_STATE_LIM_NEG_TRIP
  match (if pos then x.limPos else x.limNeg) with
  | some te => limTrip a pos te t d
  | none =>
    let act := motStrand 1 a d
    let clr : Int := r.u P0601_LIM_CLEARANCE * 65536
    let inside := if pos then decide (act ≤ x.tripPos - clr) else decide (x.tripNeg + clr ≤ act)
    let quiet := !pinActive r pin (if pos then 0 else 1) d && decide ((d.pins.get {} pin).stamp + 10 * ms16 ≤ t)
    if flag f a d && inside && quiet then put f a 0 d else d

/-- The suspension of a homing pin's limit function ends (R165). -/
def limResume (a : Nat) (r : Rec) (t : Nat) (d : Dev) : Dev :=
  let x := d.axes.get {} a
  let quiet := !pinActive r (r.u P0601_HOME_PIN) 2 d &&
    decide (max (d.pins.get {} (r.u P0601_HOME_PIN)).stamp x.home.after + 10 * ms16 ≤ t)
  if x.home.suspended && x.home.ended && quiet then axMod a (fun x => { x with home := {} }) d else d

/-! Homing (R163 to R165). -/

/-- The homing reference is known: stop at DEC, the offset follows at the next evaluation (R164). -/
def homeFound (a : Nat) (r : Rec) (t te : Nat) (p : Int) (d : Dev) : Dev :=
  let (q, v) := profNow a t d
  d |> newProfile a (stopPlan t q v (r.s P0601_DEC)) |> put MOT_AX_REF_STAMP_STAMP a te
    |> axMod a (fun x => { x with home := { x.home with phase := 5, refT := some te, refP := some p } })

/-- Method 4 (R163, R164): the threshold held for HOME_I_TIME; the profile is set to ACT_POS at the reference evaluation. -/
def homeHard (a : Nat) (r : Rec) (t : Nat) (d : Dev) : Dev :=
  let x := d.axes.get {} a
  let u := toInt 32 (strand 0x05 (r.u P0601_VEL_PLY) d)
  if |u| < r.u P0601_HOME_I_THRESH then axMod a (fun x => { x with home := { x.home with since := none } }) d
  else
    let raw := motStrand 1 a d - getS MOT_AX_HOME_OFFSET_OFFSET a d
    let (ts, ps) := x.home.since.getD (t, raw)
    let d := axMod a (fun x => { x with home := { x.home with since := some (ts, ps) } }) d
    if ts + r.u P0601_HOME_I_TIME * us16 ≤ t then
      d |> newProfile a (standPlan (ps + getS MOT_AX_HOME_OFFSET_OFFSET a d)) |> put MOT_AX_REF_STAMP_STAMP a ts
        |> axMod a (fun x => { x with home := { x.home with phase := 5, refT := some ts, refP := some ps } })
    else d

/-- The offset takes effect at the evaluation after the reference (R164), before ACT_POS is taken. -/
def homeApply (a : Nat) (r : Rec) (d : Dev) : Dev :=
  let x := d.axes.get {} a
  match x.home.phase, x.home.refP with
  | 5, some p =>
    let new := r.s P0601_HOME_POS - p
    let k := new - getS MOT_AX_HOME_OFFSET_OFFSET a d
    d |> putS MOT_AX_HOME_OFFSET_OFFSET a new |> put MOT_AX_STATE_HOMED a 1
      |> axMod a (fun x => { x with plan := shiftPlan k x.plan, home := { x.home with phase := 6, start := x.home.start + k } })
  | _, _ => d

/-- Homing without a reference within HOME_MAX_DIST (R165). -/
def homeFar (a : Nat) (r : Rec) (p : Int) (d : Dev) : Bool :=
  decide (r.s P0601_HOME_MAX_DIST ≤ |p - (d.axes.get {} a).home.start|)

/-- Homing ends at a standstill. -/
def homeDone (a t : Nat) (d : Dev) : Dev := d |> homeEnd a t |> setAxisState a 2 |> cmdDone a [7]

/-- One evaluation of homing at stamp `t` with PROF_POS `p` and PROF_VEL `v`. -/
def homeStep (a : Nat) (r : Rec) (t : Nat) (p v : Int) (d : Dev) : Dev :=
  let x := d.axes.get {} a
  let m := r.u P0601_HOME_METHOD
  let idx (after : Nat) : Option Nat := x.home.idx.find? (after < ·)
  let at_ (te : Nat) (d : Dev) : Dev := if bracketed a te d then homeFound a r t te (rawAt a te d) d else d
  let ended := planEnded x.plan t
  let phase (k : Nat) (d : Dev) : Dev := axMod a (fun x => { x with home := { x.home with phase := k } }) d
  let far (d : Dev) : Dev := raiseStop 0x0613 a t (homeEnd a t (put MOT_AX_FLAGS_HOME_ABORT a 1 d)) (|p - x.home.start| / 65536)
  match x.home.phase with
  | 1 => if pinActive r (r.u P0601_HOME_PIN) 2 d then d else phase 2 (newProfile a (stopPlan t p v (r.s P0601_DEC)) d)
  | 2 => if ended then axMod a (fun x => { x with home := { x.home with phase := 3, start := p, refT := none } }) (newProfile a (searchPlan r t p 0) d) else d
  | 3 =>
    if m = 4 then (fun d => if (d.axes.get {} a).home.phase = 3 ∧ homeFar a r p d then far d else d) (homeHard a r t d)
    else if m = 3 then (match x.home.idx.head? with
      | some te => at_ te d
      | none => if homeFar a r p d then far d else d)
    else match x.home.refT with
      | none => if homeFar a r p d then far d else d
      | some te =>
        if m = 1 then at_ te d
        else d |> newProfile a (runPlan t p v (homeDir r) (r.s P0601_HOME_V2) (r.s P0601_ACC) (r.s P0601_DEC))
          |> axMod a (fun x => { x with home := { x.home with phase := 4, after := te } })
  | 4 => match idx x.home.after with
    | some te => at_ te d
    | none => if homeFar a r p d then far d else d
  | 6 =>
    if !ended then d
    else if r.b P0601_FLAGS 4 then
      phase 7 (newProfile a (movePlan t p 0 (r.s P0601_HOME_FINAL)
        ⟨r.s P0601_V_MAX, r.s P0601_V_START, r.s P0601_V_STOP, r.s P0601_ACC, r.s P0601_DEC⟩) d)
    else homeDone a t d
  | 7 => if ended then homeDone a t d else d
  | _ => d

/-! The evaluation (R142). -/

/-- The brake engages at PROF_VEL 0; the drive goes off BRAKE_TIME later (R166). -/
def axisEngage (a : Nat) (r : Rec) (next : Nat) (d : Dev) : Dev :=
  axisBrake r true (axMod a (fun x => { x with brake := some (edge d + 400 * r.u P0601_BRAKE_TIME, next), onPath := false }) d)

/-- INPOS and the end of a MOVE (R153). -/
def inposCheck (a : Nat) (r : Rec) (t : Nat) (fe : Int) (d : Dev) : Dev :=
  let x := d.axes.get {} a
  if get MOT_AX_STATE_STATE a d ≠ 2 ∨ flag MOT_AX_STATE_INPOS a d then d
  else if r.s P0601_INPOS_WINDOW < |fe| then axMod a (fun x => { x with inpos := none }) d
  else
    let t0 := x.inpos.getD t
    let d := axMod a (fun x => { x with inpos := some t0 }) d
    if t0 + r.u P0601_INPOS_TIME * us16 ≤ t then cmdDone a [3, 4] (put MOT_AX_STATE_INPOS a 1 d) else d

/-- The changes of state that a profile's progress brings (R166). -/
def axisProgress (a : Nat) (r : Rec) (t : Nat) (p v fe : Int) (d : Dev) : Dev :=
  let x := d.axes.get {} a
  let d := match x.plan.reversing with
    | some e => onlyIf (decide (e ≤ t)) (put MOT_AX_STATE_REVERSING a 0) d
    | none => d
  let ended := planEnded x.plan t && !x.onPath && x.brake.isNone
  let d := match get MOT_AX_STATE_STATE a d with
    | 3 => if ended then cmdDone a [5] (setAxisState a 2 d) else d
    | 4 => homeStep a r t p v d
    | 7 => if ended then (if flag MOT_AX_STATE_FAULT_PENDING a d then axisEngage a r 9 d
        else cmdDone a [6, 9] (setAxisState a 2 d)) else d
    | 8 => if ended then axisEngage a r 0 d else d
    | _ => d
  inposCheck a r t fe d

/-- A geared axis's supervision (R156). -/
def gearCheck (a : Nat) (r : Rec) (t : Nat) (p v : Int) (d : Dev) : Dev :=
  let x := d.axes.get {} a
  match x.gear with
  | none => d
  | some g =>
    let (lo, hi) := vlims r
    let sp := stopPoint p v (r.s P0601_DEC)
    let fault (code : Nat) (f : Fld) (value : Int) (d : Dev) : Dev := raiseStop code a t (put f a 1 d) value
    d |> onlyIf (!measRuns g.measure d) (fault 0x0609 MOT_AX_FLAGS_GEAR_FAULT 0)
      |> onlyIf (decide (r.s P0601_V_MAX < |v|)) (fault 0x0608 MOT_AX_FLAGS_GEAR_FAULT |v|)
      |> onlyIf (decide ((0 < v ∧ (hi : Rat) < sp) ∨ (v < 0 ∧ sp < lo))) (fault 0x0607 MOT_AX_FLAGS_VLIM_STOP (ratHalfUp (sp / 65536)))

/-- Step 3 of R142: PROF_POS, PROF_VEL and PROF_ACC at stamp `t`. -/
def axisProfile (a : Nat) (t : Nat) (d : Dev) : (Int × Int × Int) × Dev :=
  let x := d.axes.get {} a
  match x.gear with
  | some g =>
    let m := measRaw g.measure t d
    let rate := rateSec g.measure d
    let (p, eng) := gearPos g m
    let (v, acc) := gearRates g m rate t
    ((p, v, acc), axMod a (fun x => { x with gear := some { g with prevV := rate, prevT := t } })
      (if flag MOT_AX_STATE_ENGAGING a d && !eng then cmdDone a [8] (put MOT_AX_STATE_ENGAGING a 0 d) else d))
  | none => if x.onPath then (x.path, d) else (planAt x.plan t, d)

/-- Step 5 of R142: the strands of R141 and what the plies take (R140), with the words of a KIND 2 axis (R145). -/
def axisStrands (a : Nat) (r : Rec) (p v acc : Int) (d : Dev) : Dev :=
  let act := motStrand 1 a d
  let actV := motStrand 4 a d
  let q (n : Int) (f : PF) : Int := ratioQ n (r.u f)
  let posZ := ((p - act) * (2 ^ r.u P0601_ERR_SHIFT : Nat) + 32768) / 65536
  let vq := q v P0601_VEL_FS
  let d := axMod a (fun x => { x with posR := clampQ posZ, satPos := clips posZ, ffTerm := rnd (r.s P0601_KVFF * clampQ vq), satVel := clips vq }) d
  let w := r.u P0601_TX_WORD
  let due := edge d + 40 + 1
  let vals : List (Nat × Int) := [(0, p), (1, act), (2, p - act), (3, v), (4, actV), (5, acc), (6, clampQ (q actV P0601_VEL_FS)), (7, clampQ (q acc P0601_ACC_FS)),
    (8, (get MOT_AX_STATE_STATE a d : Nat))]
  putStrandsS (vals.map fun k => (0x06000 + 64 * k.1 + a, k.2)) d
    |> onlyIf (r.u P0601_KIND == 2) (fun d =>
        let d := settleTx d
        { d with txLate := (d.txLate.put w (due, ofInt 32 (p / 65536))).put (w + 1) (due, ofInt 32 (clampQ vq)) })

/-- Steps 1 and 2 of R142 for axis `a`, with ENABLE_AT_RUN at the first evaluation (R167) and homing's offset (R164). -/
def axisTake (t : Nat) (r : Rec) (d : Dev) : Dev :=
  let a := r.u P0601_AXIS
  let d := axisSample a r t (homeApply a r d)
  let d := if (d.axes.get {} a).enableAtRun then axisEnable a r (axMod a (fun x => { x with enableAtRun := false }) d) else d
  takeCmds a r t d

/-- Steps 3 to 5 of R142 for axis `a`. -/
def axisFinish (t : Nat) (r : Rec) (d : Dev) : Dev :=
  let a := r.u P0601_AXIS
  let ((p, v, acc), d) := axisProfile a t d
  let fe := p - motStrand 1 a d
  let d := setStrandS 0x06 a p (setStrandS 0x06 (192 + a) v d)
  let d := axisProgress a r t p v fe d
  let d := if getS MOT_AX_FE_MAX_FE a d < |fe| then putS MOT_AX_FE_MAX_FE a |fe| d else d
  let d := if axisEnabled a d ∧ r.s P0601_FE_LIMIT < |fe| then raiseBreak 0x0601 a (put MOT_AX_FLAGS_FE_EXCEEDED a 1 d) 0 (|fe| / 65536) else d
  let d := d |> limCheck a r t true |> limCheck a r t false |> limResume a r t |> gearCheck a r t p v
  axisStrands a r p v acc d

/-- BRAKE_TIME_ELAPSED (R166). -/
def brakeTimeElapsedAt (a : Nat) (d : Dev) : Dev :=
  match axisRec a d, (d.axes.get {} a).brake with
  | some r, some (e, next) =>
    if edge d < e then d
    else
      let d := axMod a (fun x => { x with brake := none }) d
      if next = 2 then
        if get MOT_AX_STATE_STATE a d = 1 then cmdDone a [1] (setAxisState a 2 d)
        else d
      else
        let st := if flag MOT_AX_STATE_FAULT_PENDING a d then 9 else next
        d |> forL (axisPlies r d) plyStop |> axisDriveOff r |> setAxisState a st
          |> onlyIf (st == 0) (cmdDone a [2])
  | _, _ => d

def execBrakeTimeElapsed (dt axis : Nat) (s : State) : Host.Outcome State Fault Refusal := onDev dt (brakeTimeElapsedAt axis) s

/-! The image's settings and RUN. -/

/-- The registers that the image sets (IMG of R172). -/
def motImage (d : Dev) : Dev :=
  d |> put MOT_STATUS_AXES 0 (recsOf 0x0601 d).length |> put MOT_STATUS_GROUPS 0 (recsOf 0x0602 d).length
    |> forL (recsOf 0x0601 d) (fun r d => put MOT_AX_STATE_KIND (r.u P0601_AXIS) (r.u P0601_KIND) d)
    |> forL (recsOf 0x0602 d) (fun r d =>
        forL (membersOf r) (fun a d => put MOT_AX_STATE_GROUP a (r.u P0602_GROUP) d) d)

/-- The axes at the beginning of RUN (R163, R167). -/
def motRun (d : Dev) : Dev :=
  forL (recsOf 0x0601 d) (fun r d =>
    let a := r.u P0601_AXIS
    let atRun := r.b P0601_FLAGS 2
    d |> axMod a (fun _ => { enableAtRun := atRun }) |> setAxisState a 0 |> axisBrake r true
      |> onlyIf (!atRun) (forL (axisPlies r d) plyStop)
      |> onlyIf (r.u P0601_HOME_METHOD == 5) (fun d => d |> put MOT_AX_STATE_HOMED a 1 |> putS MOT_AX_HOME_OFFSET_OFFSET a (r.s P0601_HOME_POS))
      |> axisStrands a r 0 0 0) d

end Sys2Proof.Machine
end

