-- ==== Sys2Proof/Machine/MGroup.lean ====
section
/-! DEFINITION. Coordinated groups (R157 to R160) and the servo evaluation of a pick (R142, R143). Lengths are raw 48.16 units,
angles radians times 2^128. -/

namespace Sys2Proof.Machine

/-! Numbers. -/

/-- 2^128. -/
def one128 : Int := 340282366920938463463374607431768211456

/-- π × 2^128, rounded down. -/
def pi128 : Int := 1069028584064966747859680373161870783300

/-- Terms of the cosine or sine series at scale 2^128 from order `k` on. -/
def trigTail : Nat → Int → Int → Int → Int → Int
  | 0, _, _, _, s => s
  | n + 1, k, x2, t, s =>
    let t' := (-(t * x2 / one128)) / ((k + 1) * (k + 2))
    trigTail n (k + 2) x2 t' (s + t')

/-- cos and sin of `x` / 2^128 radians for `x` from 0 to π/2. -/
def trigQuarter (x : Int) : Int × Int :=
  let x2 := x * x / one128
  (trigTail 24 0 x2 one128 one128, trigTail 24 1 x2 x x)

/-- cos and sin of `x` / 2^128 radians. -/
def trig128 (x : Int) : Int × Int :=
  let y := x % (2 * pi128)
  let q := 2 * y / pi128
  let (c, s) := trigQuarter (y - q * pi128 / 2)
  match q with
  | 0 => (c, s)
  | 1 => (-s, c)
  | 2 => (-c, -s)
  | _ => (s, -c)

/-- The largest angle, bit by bit, at which the vector of that angle has not passed (x, y) within a quarter turn. -/
def angleSearch : Nat → Int → Int → Int → Int
  | 0, _, _, acc => acc
  | n + 1, x, y, acc =>
    let a := acc + 2 ^ n
    let (c, s) := trig128 a
    angleSearch n x y (if a ≤ pi128 / 2 ∧ s * x ≤ c * y then a else acc)

/-- The angle from (1, 0) to (x, y), from 0 up to 2π, at scale 2^128. -/
def angleOf (x y : Int) : Int :=
  if 0 < x ∧ 0 ≤ y then angleSearch 129 x y 0
  else if x ≤ 0 ∧ 0 < y then pi128 / 2 + angleSearch 129 y (-x) 0
  else if x < 0 ∧ y ≤ 0 then pi128 + angleSearch 129 (-x) (-y) 0
  else if 0 ≤ x ∧ y < 0 then 3 * pi128 / 2 + angleSearch 129 (-y) x 0
  else 0

/-- A square root to 2^-32 of a raw unit, rounded down. -/
def rootFine (q : Rat) : Rat := if q ≤ 0 then 0 else (isqrt (q * 18446744073709551616).floor.toNat : Rat) / 4294967296

/-- The 16-point Gauss–Legendre rule (R159): nodes and weights times 2^64. -/
def gauss16 : List (Int × Int) :=
  [(18251225834079907731, 500874469740413987), (17424333709050216002, 1148374823782788722), (15968077252665808687, 1755364711442044912),
   (13934751793076722314, 2298998736920537511), (11397804949720383080, 2759558920152907192), (8448918278908004659, 3120387021679097899),
   (5194668631472861143, 3368438464319069790), (1752671452775708922, 3494746925672691603)]

/-! Members of a group. -/

/-- A group's record: the new image's once every member it names uses the new image (R52). -/
def mgrpRec (g : Nat) (d : Dev) : Option Rec :=
  match d.next.bind (·.find 0x0602 P0602_GROUP g) with
  | some r => if (membersOf r).all fun a => d.switched.contains (5 * 65536 + a) then some r else recAt 0x0602 P0602_GROUP g d
  | none => recAt 0x0602 P0602_GROUP g d

/-- Member `i` is a path axis. -/
def onPathAxis (r : Rec) (i : Nat) : Bool := r.b P0602_PATH_MASK i

/-- Differences of two position lists. -/
def deltas (e s : List Int) : List Int := (e.zip s).map fun p => p.1 - p.2

/-- The values of the path axes. -/
def pathOnly (r : Rec) (l : List Int) : List Int :=
  ((l.zip (List.range l.length)).filter fun p => onPathAxis r p.2).map (·.1)

/-- The sum of squares. -/
def sumSq (l : List Int) : Int := (l.map fun v => v * v).sum

/-- The fields of a segment entry's 120 bytes (R158). -/
def gsegOf (bs : List Nat) : GSeg :=
  let u (o n : Nat) : Nat := leVal ((bs.drop o).take n)
  { seq := u 0 2, kind := u 2 1, plane := u 3 1, turns := u 4 1, feed := toInt 64 (u 8 8), endSpeed := toInt 64 (u 16 8)
    ends := (List.range 6).map fun i => toInt 64 (u (24 + 8 * i) 8)
    geom := (List.range 6).map fun i => toInt 64 (u (72 + 8 * i) 8) }

/-! Geometry (R159). -/

/-- The plane members of an arc. -/
def arcPlane (s : GSeg) : Nat × Nat := (s.plane % 8, s.plane / 8 % 8)

/-- The start and end vectors of an arc from its centre, seen so that the turn is counter-clockwise. -/
def arcVecs (s : GSeg) (start : List Int) : (Int × Int) × (Int × Int) :=
  let (i, j) := arcPlane s
  let (cx, cy) := (s.geom.getD 0 0, s.geom.getD 1 0)
  let m : Int := if s.kind = 2 then -1 else 1
  ((start.getD i 0 - cx, m * (start.getD j 0 - cy)), (s.ends.getD i 0 - cx, m * (s.ends.getD j 0 - cy)))

/-- The end lies at the start's radius within one count, exactly. -/
def arcRadiusOk (s : GSeg) (start : List Int) : Bool :=
  let ((ax, ay), (bx, by')) := arcVecs s start
  let p := ax * ax + ay * ay
  let q := bx * bx + by' * by'
  let (lo, hi) := (min p q, max p q)
  let k := hi - lo - 65536 * 65536
  k ≤ 0 || decide (k * k ≤ 4 * 65536 * 65536 * lo)

/-- The turned angle of an arc. -/
def arcAngle (s : GSeg) (start : List Int) : Int :=
  let ((ax, ay), (bx, by')) := arcVecs s start
  let full := s.turns == 0 && ax == bx && ay == by'
  let a := (angleOf bx by' - angleOf ax ay) % (2 * pi128)
  if full then 2 * pi128 else (if ax = bx ∧ ay = by' then 0 else a) + 2 * pi128 * s.turns

/-- The counter-clockwise turn from `a` to `b` passes direction `e`, exactly. -/
def passes (a b e : Int × Int) : Bool :=
  let cr (p q : Int × Int) : Int := p.1 * q.2 - p.2 * q.1
  let dt (p q : Int × Int) : Int := p.1 * q.1 + p.2 * q.2
  let key (q : Int × Int) : Nat := if cr a q = 0 then (if 0 < dt a q then 0 else 2) else if 0 < cr a q then 1 else 3
  let kb := if key b = 0 then 4 else key b
  key e < kb || (key e == kb && (key e != 1 && key e != 3 || decide (0 ≤ cr e b)))

/-- Derivative of the Hermite cubic at `u`, in units per unit parameter. -/
def splineD (p0 p1 t0 t1 : Int) (u : Rat) : Rat :=
  (6 * u * u - 6 * u) * p0 + (3 * u * u - 4 * u + 1) * t0 + (6 * u - 6 * u * u) * p1 + (3 * u * u - 2 * u) * t1

/-- The Hermite cubic at `u`. -/
def splineP (p0 p1 t0 t1 : Int) (u : Rat) : Rat :=
  (2 * u ^ 3 - 3 * u ^ 2 + 1) * p0 + (u ^ 3 - 2 * u ^ 2 + u) * t0 + (3 * u ^ 2 - 2 * u ^ 3) * p1 + (u ^ 3 - u ^ 2) * t1

/-- The path speed of a spline per unit parameter. -/
def splineSpeed (r : Rec) (q : GRun) (u : Rat) : Rat :=
  let ds := (List.range q.start.length).map fun i => if onPathAxis r i then
    splineD (q.start.getD i 0) (q.seg.ends.getD i 0) (q.tan0.getD i 0) (q.tan1.getD i 0) u else 0
  rootFine ((ds.map fun v => v * v).sum)

/-- The length of a spline by the rule of R159. -/
def splineLen (r : Rec) (q : GRun) : Rat :=
  let half : Rat := 1 / 2
  let s (x : Rat) : Rat := splineSpeed r q (half + half * x)
  half * (gauss16.map fun p => (p.2 : Rat) / 18446744073709551616 * (s ((p.1 : Rat) / 18446744073709551616) + s (-(p.1 : Rat) / 18446744073709551616))).sum

/-- Position of path member `i` on a spline at parameter `u`, with its first and second derivative in s. -/
def splineAt (r : Rec) (q : GRun) (i : Nat) (u : Rat) : Rat × Rat × Rat :=
  let d1 (k : Nat) : Rat := if onPathAxis r k then splineD (q.start.getD k 0) (q.seg.ends.getD k 0) (q.tan0.getD k 0) (q.tan1.getD k 0) u else 0
  let d2 (k : Nat) : Rat := if onPathAxis r k then
    (12 * u - 6) * q.start.getD k 0 + (6 * u - 4) * q.tan0.getD k 0 + (6 - 12 * u) * q.seg.ends.getD k 0 + (6 * u - 2) * q.tan1.getD k 0 else 0
  let n := splineSpeed r q u
  let dot := ((List.range q.start.length).map fun k => d1 k * d2 k).sum
  let p := splineP (q.start.getD i 0) (q.seg.ends.getD i 0) (q.tan0.getD i 0) (q.tan1.getD i 0) u
  if n = 0 then (p, 0, 0) else (p, d1 i / n, (d2 i - d1 i * dot / (n * n)) / (n * n))

/-- The largest |d²p_i/ds²| of path member `i` at the ends and the 16 Gauss points of a spline (R160 bounds the acceleration and does not
say where it is judged: DESIGN CHOICE, log entry 70). -/
def splineBend (r : Rec) (q : GRun) (i : Nat) : Rat :=
  let at_ (x : Int) : List Rat := [((18446744073709551616 - x : Int) : Rat) / 36893488147419103232, ((18446744073709551616 + x : Int) : Rat) / 36893488147419103232]
  ((0 : Rat) :: 1 :: gauss16.flatMap fun p => at_ p.1).foldl (fun m u => max m |(splineAt r q i u).2.2|) 0

/-- The largest |dp_i/ds| of member `i` on a segment (R160); a path axis of a spline counts 1. -/
def memberRatio (r : Rec) (q : GRun) (i : Nat) : Rat :=
  let dlt : Rat := (|q.seg.ends.getD i 0 - q.start.getD i 0| : Int)
  let (a, b) := arcPlane q.seg
  if q.len = 0 then 0
  else if q.seg.kind = 4 ∧ onPathAxis r i then 1
  else if (q.seg.kind = 2 ∨ q.seg.kind = 3) ∧ (i = a ∨ i = b) then q.radius * ((q.angle : Rat) / one128) / q.len
  else dlt / q.len

/-- A member's axis record. -/
def memberRec (r : Rec) (i : Nat) (d : Dev) : Option Rec := axisRec ((membersOf r).getD i 0xFF) d

/-- The lowest of a bound over the members in the ratio of their travel. -/
def memberMin (r : Rec) (q : GRun) (f : PF) (z : Rat) (d : Dev) : Rat :=
  (List.range q.start.length).foldl (fun m i =>
    let k := memberRatio r q i
    match memberRec r i d with
    | some x => if k = 0 then m else min m ((x.s f : Rat) / k)
    | none => m) z

/-- The speed at which the bend of a spline takes no path member past its ACC. -/
def bendMin (r : Rec) (q : GRun) (v : Rat) (d : Dev) : Rat :=
  (List.range q.start.length).foldl (fun m i =>
    let k := if onPathAxis r i then splineBend r q i else 0
    match memberRec r i d with
    | some x => if k = 0 then m else min m (rootDown ((x.s P0601_ACC : Rat) / k))
    | none => m) v

/-- The bounds of R160 on a segment. -/
def withBounds (r : Rec) (q : GRun) (d : Dev) : GRun :=
  let (a, b) := arcPlane q.seg
  let accOf (i : Nat) : Int := ((memberRec r i d).map (·.s P0601_ACC)).getD 0
  let arc := q.seg.kind = 2 ∨ q.seg.kind = 3
  let v0 : Rat := min q.seg.feed (r.s P0602_V_PATH)
  let v1 := memberMin r q P0601_V_MAX v0 d
  { q with
    vMax := if arc then min v1 (rootDown (min (accOf a) (accOf b) * q.radius)) else if q.seg.kind = 4 then bendMin r q v1 d else v1
    acc := memberMin r q P0601_ACC (r.s P0602_ACC) d, dec := memberMin r q P0601_DEC (r.s P0602_DEC) d }

/-- A segment laid from `start`, with its length and tangents (R159). -/
def layRun (r : Rec) (s : GSeg) (start : List Int) (tan : Option (List Int)) (d : Dev) : GRun :=
  let n := start.length
  let ends := s.ends.take n
  let dl := deltas ends start
  let (i, j) := arcPlane s
  let q : GRun := { seg := { s with ends := ends }, start := start, tan0 := tan.getD dl, tan1 := s.geom.take n }
  let q := match s.kind with
    | 4 => { q with len := splineLen r q }
    | 1 => { q with len := if pathOnly r dl |>.all (· == 0) then ((dl.map fun v => (v.natAbs : Nat)).foldl max 0 : Nat) else rootFine (sumSq (pathOnly r dl)) }
    | _ =>
      let ((ax, ay), _) := arcVecs s start
      let rad := rootFine (ax * ax + ay * ay : Int)
      let ang := arcAngle s start
      let w := rad * ((ang : Rat) / one128)
      let rest := ((dl.zip (List.range n)).filter fun p => onPathAxis r p.2 && p.2 != i && p.2 != j).map (·.1)
      { q with radius := rad, angle := ang, len := rootFine (w * w + (sumSq rest : Int)) }
  withBounds r q d

/-- Position, first and second derivative in s of the plane axis `i` at path position `s` of an arc. -/
def arcAt (q : GRun) (s : Rat) (i : Nat) : Rat × Rat × Rat :=
  let (a, b) := arcPlane q.seg
  let ((ax, ay), _) := arcVecs q.seg q.start
  let m : Rat := if q.seg.kind = 2 ∧ i = b then -1 else 1
  let (c, sn) := trig128 ((q.angle : Rat) * s / q.len).floor
  let w : Rat := (q.angle : Rat) / one128 / q.len
  let x : Rat := ((ax * c - ay * sn : Int) : Rat) / one128
  let y : Rat := ((ax * sn + ay * c : Int) : Rat) / one128
  let ctr : Rat := q.seg.geom.getD (if i = a then 0 else 1) 0
  if i = a then (ctr + x, -y * w, -x * w * w) else (ctr + m * y, m * x * w, -(m * y) * w * w)

/-- The end tangent of a segment, which a spline behind it takes over (R159), in counts per unit parameter; none behind a line. That of an
arc is its derivative at the end over the parameter that runs from 0 to 1 along it; a segment whose END_SPEED is 0 ends at standstill
(DEDUCED, log entry 70). -/
def endTan (q : GRun) : Option (List Int) :=
  if q.seg.endSpeed = 0 ∨ q.seg.kind = 1 then none
  else if q.seg.kind = 4 then some q.tan1
  else
    let (a, b) := arcPlane q.seg
    some ((List.range q.start.length).map fun i =>
      if (i = a ∨ i = b) ∧ q.len ≠ 0 then ratHalfUp ((arcAt q q.len i).2.1 * q.len) else q.seg.ends.getD i 0 - q.start.getD i 0)

/-- Position, first and second derivative in s of member `i` at path position `s` of a segment. -/
def memberAt (r : Rec) (q : GRun) (s : Rat) (i : Nat) : Rat × Rat × Rat :=
  let p0 := q.start.getD i 0
  let p1 := q.seg.ends.getD i 0
  let (a, b) := arcPlane q.seg
  if q.len = 0 ∨ q.len ≤ s then (p1, 0, 0)
  else if q.seg.kind = 4 ∧ onPathAxis r i then
    let all := q.start ++ q.seg.ends ++ q.tan0 ++ q.tan1
    let u : Rat := (Config.splineParam all q.len s % 18446744073709551616 : Nat) / 18446744073709551616
    splineAt r q i u
  else if (q.seg.kind = 2 ∨ q.seg.kind = 3) ∧ (i = a ∨ i = b) then arcAt q s i
  else
    let k : Rat := ((p1 - p0 : Int) : Rat) / q.len
    (p0 + k * s, k, 0)

/-! Refusals (R159). -/

/-- The interior extremes of a spline's member: roots of the derivative between 0 and 1. -/
def splineRoots (p0 p1 t0 t1 : Int) : List Rat :=
  let a : Int := 6 * p0 - 6 * p1 + 3 * t0 + 3 * t1
  let b : Int := 6 * p1 - 6 * p0 - 4 * t0 - 2 * t1
  let c : Int := t0
  let disc := b * b - 4 * a * c
  let cand : List Rat := if a = 0 then (if b = 0 then [] else [-(c : Rat) / b])
    else if disc < 0 then [] else [(-(b : Rat) + rootFine disc) / (2 * a), (-(b : Rat) - rootFine disc) / (2 * a)]
  cand.filter fun u => decide (0 < u ∧ u < 1)

/-- Every position that member `i` takes on the segment lies from `lo` to `hi`. -/
def memberWithin (r : Rec) (q : GRun) (i : Nat) (lo hi : Int) : Bool :=
  let (p0, p1) := (q.start.getD i 0, q.seg.ends.getD i 0)
  let (a, b) := arcPlane q.seg
  let inside (v : Rat) : Bool := decide ((lo : Rat) ≤ v ∧ v ≤ hi)
  inside p1 &&
  (if q.seg.kind = 4 ∧ onPathAxis r i then
    (splineRoots p0 p1 (q.tan0.getD i 0) (q.tan1.getD i 0)).all fun u => inside (splineP p0 p1 (q.tan0.getD i 0) (q.tan1.getD i 0) u)
  else if (q.seg.kind = 2 ∨ q.seg.kind = 3) ∧ (i = a ∨ i = b) then
    let (va, vb) := arcVecs q.seg q.start
    let m : Int := if q.seg.kind = 2 ∧ i = b then -1 else 1
    let up : Int × Int := if i = a then (1, 0) else (0, m)
    let dn : Int × Int := if i = a then (-1, 0) else (0, -m)
    let all := q.seg.turns != 0 || va == vb
    let ctr := q.seg.geom.getD (if i = a then 0 else 1) 0
    let r2 := va.1 * va.1 + va.2 * va.2
    let hiOk := decide (ctr ≤ hi ∧ r2 ≤ (hi - ctr) * (hi - ctr))
    let loOk := decide (lo ≤ ctr ∧ r2 ≤ (ctr - lo) * (ctr - lo))
    (!(all || passes va vb up) || hiOk) && (!(all || passes va vb dn) || loOk)
  else true)

/-- Every position that member `i` takes on the segment lies within its virtual limits (R159). -/
def memberInLimits (r : Rec) (q : GRun) (i : Nat) (d : Dev) : Bool :=
  match memberRec r i d with
  | none => false
  | some x => memberWithin r q i (vlims x).1 (vlims x).2

/-- The segment leads member `i` further toward a limit that has tripped (R162). -/
def memberToTrip (r : Rec) (q : GRun) (i : Nat) (d : Dev) : Bool :=
  let a := (membersOf r).getD i 0xFF
  let p := motStrand 0 a d
  (flag MOT_AX_STATE_LIM_POS_TRIP a d && !memberWithin r q i (-(2 ^ 63)) p) ||
    (flag MOT_AX_STATE_LIM_NEG_TRIP a d && !memberWithin r q i p (2 ^ 63))

/-- The entry's fields are in range (R158). -/
def segFieldsOk (r : Rec) (s : GSeg) : Bool :=
  let n := r.u P0602_COUNT
  let arc := s.kind == 2 || s.kind == 3
  let (i, j) := arcPlane s
  decide (1 ≤ s.kind ∧ s.kind ≤ 4 ∧ 0 < s.feed ∧ s.feed ≤ r.s P0602_V_PATH ∧ 0 ≤ s.endSpeed ∧ s.endSpeed ≤ s.feed) &&
  (if arc then decide (s.plane < 64 ∧ i < n ∧ j < n ∧ i ≠ j) else s.plane == 0 && s.turns == 0)

/-! The path's plan (R160). -/

/-- End speeds of the segments in the look-ahead, last to first. -/
def endSpeeds : List GRun → List Rat
  | [] => []
  | q :: l => match endSpeeds l, l with
    | ve :: vs, n :: _ => min (min (q.seg.endSpeed : Rat) q.vMax) (min n.vMax (rootDown (ve * ve + 2 * n.dec * n.len))) :: ve :: vs
    | _, _ => [0]

/-- The speed at the end of a shape that begins at `v`. -/
def endOf (v : Rat) (cs : List Piece) : Rat :=
  match cs.getLast? with
  | some c => c.1 + c.2.1 * c.2.2
  | none => v

/-- The pieces of the path through the segments, the first with only `rest` of its length left. -/
def pathPieces : List (GRun × Rat) → Rat → Rat → List Piece
  | [], _, _ => []
  | (q, ve) :: l, v, rest =>
    let cs := shape rest (max v q.vMax) v (min ve (max v q.vMax)) q.acc q.dec
    cs ++ pathPieces l (endOf v cs) (((l.head?).map (·.1.len)).getD 0)

/-- The plan from path coordinate `p` at speed `v` at instant `t` (R160). -/
def pathPlan (r : Rec) (x : MGrpX) (t : Nat) (p v : Int) : Plan :=
  let win := x.queue.take (r.u P0602_LOOKAHEAD)
  match win with
  | [] => standPlan p
  | q :: _ =>
    let rest := max 0 (x.base + q.len - p)
    let stop := x.base + (win.map (·.len)).sum
    planOf 1 t p (pathPieces (win.zip (endSpeeds win)) v rest) (ratHalfUp stop)

/-- A group's own notes changed. -/
def mgMod (g : Nat) (f : MGrpX → MGrpX) (d : Dev) : Dev := { d with mgrps := d.mgrps.put g (f (d.mgrps.get {} g)) }

/-- A segment refused (R159, R157). -/
def segRefuse (g : Nat) (s : GSeg) (d : Dev) : Dev :=
  d |> put MOT_GRP_CMD_RESULT g 3 |> put MOT_GRP_CMD_CAUSE g 0x0B |> put MOT_GRP_FLAGS_SEG_REFUSED g 1
    |> (fun d => raise 0x060B g d 0 s.seq)

/-- A segment refused because member `a` would move toward a tripped limit (R162). -/
def segTripped (g a : Nat) (d : Dev) : Dev :=
  d |> put MOT_GRP_CMD_RESULT g 3 |> put MOT_GRP_CMD_CAUSE g 0x12 |> raise 0x0612 a

/-- Every member is enabled, homed and in STANDSTILL (R157). -/
def membersReady (r : Rec) (d : Dev) : Bool :=
  (membersOf r).all fun a => get MOT_AX_STATE_STATE a d == 2 && flag MOT_AX_STATE_HOMED a d

/-- A group STOP, or the stop for a member's fault or DISABLE, along the path at `b` (R160). The queue is discarded: QUEUED reads 0, and the
segments stay only as the geometry of the way to the standstill. -/
def groupStop (g : Nat) (t : Nat) (b : Rat) (byStop : Bool) (d : Dev) : Dev :=
  mgMod g (fun x => { x with plan := stopPlan t x.pos x.vel b, stopping := true, byStop := byStop, lastTan := none }) d
    |> put MOT_GRP_STATE_STATE g 2 |> put MOT_GRP_STATE_QUEUED g 0

/-- A segment entry taken at an evaluation with stamp `t` (R157 to R159). A group STOP has QUICK in bit 0 of the byte that holds the FLAGS of
an axis command (R147; DEDUCED, log entry 68). -/
def takeSeg (g : Nat) (r : Rec) (t : Nat) (s : GSeg) (d : Dev) : Dev :=
  let x := d.mgrps.get {} g
  let idle := get MOT_GRP_STATE_STATE g d == 0
  let d := d |> put MOT_GRP_CMD_SEQ g s.seq |> put MOT_GRP_CMD_RESULT g 1 |> put MOT_GRP_CMD_CAUSE g 0
  if s.kind = 0x10 then
    if idle || decide (1 < s.plane) then segRefuse g s d
    else groupStop g t (if s.plane = 1 then r.s P0602_STOP_DEC else r.s P0602_DEC) true d
  else
    let start := match x.queue.getLast? with
      | some q => q.seg.ends
      | none => (membersOf r).map fun a => motStrand 0 a d
    let q := layRun r s start x.lastTan d
    let arc := s.kind == 2 || s.kind == 3
    let bad := !segFieldsOk r s || x.stopping || (idle && !membersReady r d) || decide (32 ≤ x.queue.length) ||
      (arc && !arcRadiusOk s start) || (List.range start.length).any fun i => !memberInLimits r q i d
    if bad then segRefuse g s d
    else match (List.range start.length).find? fun i => memberToTrip r q i d with
    | some i => segTripped g ((membersOf r).getD i 0xFF) d
    | none =>
      let d := if idle then
          forL (membersOf r) (fun a d => newProfile a (standPlan (motStrand 0 a d)) d |> axMod a (fun y => { y with onPath := true, path := (motStrand 0 a d, 0, 0) })
            |> setAxisState a 6) (mgMod g (fun x => { x with base := 0, pos := 0, vel := 0, fault := 0, stopping := false }) d)
        else d
      mgMod g (fun x =>
        let x := { x with queue := x.queue ++ [q], lastTan := endTan q }
        { x with plan := pathPlan r x t x.pos x.vel }) d
        |> put MOT_GRP_STATE_STATE g 1 |> put MOT_GRP_STATE_QUEUED g (x.queue.length + 1)
        |> onlyIf idle (put MOT_GRP_STATE_SEQ g s.seq)

/-- The group's mailboxes at an evaluation, in the order of R149. -/
def takeSegs (t : Nat) (r : Rec) (d : Dev) : Dev :=
  let g := r.u P0602_GROUP
  let x := d.mgrps.get {} g
  let d := mgMod g (fun x => { x with boxH := none, boxS := none }) d
  match x.boxH, x.boxS with
  | none, none => d
  | some h, none => takeSeg g r t h d
  | none, some s => takeSeg g r t s d
  | some h, some s => if s.kind = 0x10 ∧ h.kind ≠ 0x10 then takeSeg g r t h (takeSeg g r t s d) else takeSeg g r t s (takeSeg g r t h d)

/-- A segment written to a mailbox (R158, R146). 0x0604 names an axis: the group's first member (DESIGN CHOICE, log entry 68). -/
def postGroup (g : Nat) (hank : Bool) (s : GSeg) (d : Dev) : Dev :=
  if s.seq = 0 ∨ (mgrpRec g d).isNone then d
  else
    let x := d.mgrps.get {} g
    let d := match (if hank then x.boxH else x.boxS) with
      | none => d
      | some old => d |> put MOT_GRP_CMD_SEQ g old.seq |> put MOT_GRP_CMD_RESULT g 4 |> put MOT_GRP_CMD_CAUSE g 0
        |> raise 0x0604 (((mgrpRec g d).map membersOf).getD [] |>.headD 0)
    mgMod g (fun x => if hank then { x with boxH := some s } else { x with boxS := some s }) d

/-- Segments that the path has left behind at coordinate `p`; the last one stays until the plan ends. -/
def passSegs (ended : Bool) (p : Rat) : Nat → List GRun → Rat → List GRun × Rat
  | 0, l, b => (l, b)
  | _ + 1, [], b => ([], b)
  | n + 1, q :: l, b =>
    if b + q.len ≤ p ∧ (l ≠ [] ∨ ended) then passSegs ended p n l (b + q.len) else (q :: l, b)

/-- The path comes to its end: the members stand where they are and return to STANDSTILL (R157, R160). -/
def groupEnd (g : Nat) (r : Rec) (starved byStop : Bool) (d : Dev) : Dev :=
  d |> forL (membersOf r) (fun a d =>
      let x := d.axes.get {} a
      if !x.onPath then d
      else d |> axMod a (fun x => { x with onPath := false, plan := standPlan x.path.1 })
        |> onlyIf (get MOT_AX_STATE_STATE a d == 6) (setAxisState a 2))
    |> mgMod g (fun _ => {}) |> put MOT_GRP_STATE_STATE g 0 |> put MOT_GRP_STATE_QUEUED g 0 |> put MOT_GRP_SPEED_SPEED g 0
    |> onlyIf (get MOT_GRP_CMD_RESULT g d == 1 && (starved || byStop)) (put MOT_GRP_CMD_RESULT g 2)
    |> onlyIf starved (put MOT_GRP_FLAGS_STARVED g 1)

/-- The path at an evaluation with stamp `t` (R159, R160): the members' points, the segments passed, the end. -/
def groupPath (t : Nat) (r : Rec) (d : Dev) : Dev :=
  let g := r.u P0602_GROUP
  if get MOT_GRP_STATE_STATE g d = 0 then d
  else
    let why := (d.mgrps.get {} g).fault
    let d := if why = 0 then d
      else mgMod g (fun x => { x with fault := 0 }) (groupStop g t (if why = 2 then r.s P0602_DEC else r.s P0602_STOP_DEC) false d)
    let x := d.mgrps.get {} g
    let (p, v, a) := planExact x.plan t
    let ended := planEnded x.plan t
    let cur := passSegs false p 33 x.queue x.base
    let here (i : Nat) : Int × Int × Int := match cur.1 with
      | [] => (0, 0, 0)
      | q :: _ =>
        let (m, k, k2) := memberAt r q (p - cur.2) i
        (ratHalfUp m, ratHalfUp (v * k), ratHalfUp (a * k + v * v * k2))
    let d := forL ((membersOf r).zip (List.range 6)) (fun m d => axMod m.1 (fun y => if y.onPath then { y with path := here m.2 } else y) d) d
    let left := passSegs ended p 33 x.queue x.base
    let passed := left.1.length != x.queue.length
    let done := passed && (x.queue.take (x.queue.length - left.1.length)).any fun q => q.seg.seq == get MOT_GRP_CMD_SEQ g d
    let d := mgMod g (fun x =>
        let x := { x with queue := left.1, base := left.2, pos := ratHalfUp p, vel := ratHalfUp v }
        if passed && !x.stopping then { x with plan := pathPlan r x t x.pos x.vel } else x) d
      |> put MOT_GRP_STATE_QUEUED g (if x.stopping then 0 else left.1.length) |> putS MOT_GRP_PATH_S g (ratHalfUp (p - left.2)) |> putS MOT_GRP_SPEED_SPEED g (ratHalfUp v)
      |> onlyIf (done && get MOT_GRP_CMD_RESULT g d == 1) (put MOT_GRP_CMD_RESULT g 2)
      |> (fun d => match left.1 with | q :: _ => put MOT_GRP_STATE_SEQ g q.seg.seq d | [] => d)
    if left.1 = [] ∨ (x.stopping ∧ ended) then groupEnd g r (!x.stopping) x.byStop d else d

/-- The servo evaluation of every axis whose SERVO_PICK is `pick`, at firing stamp `t` (R142, R143). -/
def servoEval (pick t : Nat) (d : Dev) : Dev :=
  let axes := (recsOf 0x0601 d).filterMap fun r => (axisRec (r.u P0601_AXIS) d).filter fun q => q.u P0601_SERVO_PICK == pick
  let groups := ((List.range 8).filterMap (mgrpRec · d)).filter fun r => axes.any fun q => (membersOf r).contains (q.u P0601_AXIS)
  if axes == [] then d
  else d |> forL axes (axisTake t) |> forL groups (takeSegs t) |> forL groups (groupPath t) |> forL axes (axisFinish t)

end Sys2Proof.Machine
end

