-- ==== Sys2Proof/Machine/Scan.lean ====
section
/-! DEFINITION. Scans of the Shuttle (R221 to R231, R236 to R240, R244 to R247): start and freeze, engines and urgency, the
output edge, STOP, HOLD and BREAK, and the exchange's banks. -/

namespace Sys2Proof.Machine

/-! Records, memory and banks. -/

/-- A task's notes. -/
def taskX (t : Nat) (d : Dev) : TaskX := d.shu.tasks.get {} t

/-- A task's notes changed. -/
def taskMod (t : Nat) (f : TaskX → TaskX) (d : Dev) : Dev :=
  { d with shu := { d.shu with tasks := d.shu.tasks.put t (f (taskX t d)) } }

/-- An engine's notes. -/
def shuEngX (e : Nat) (d : Dev) : ShuEngX := d.shu.engs.get {} e

/-- An engine's notes changed. -/
def shuEngMod (e : Nat) (f : ShuEngX → ShuEngX) (d : Dev) : Dev :=
  { d with shu := { d.shu with engs := d.shu.engs.put e (f (shuEngX e d)) } }

/-- A task's record in the image that it runs (R52). -/
def taskRec (t : Nat) (d : Dev) : Option Rec := recFor 0x13 0x0902 P0902_TASK t d

/-- The variable bank of a task (R227, R247). -/
def bankOf (t : Nat) (d : Dev) : Nat :=
  let b := get SHU_STATUS_VAR_BANK 0 d
  if taskSwitched t d then 1 - b else b

/-- A variable word. -/
def varGet (bank a : Nat) (d : Dev) : Nat := d.shu.vars.get 0 (bank * 32768 + a)

/-- A variable word written. -/
def varSet (bank a v : Nat) (d : Dev) : Dev :=
  { d with shu := { d.shu with vars := d.shu.vars.set 0 (bank * 32768 + a) (trunc 32 v) } }

/-- The entry of an image that covers an address. -/
def coverOf (m : Img) (a : Nat) : Option VarDef :=
  (varDefs m ++ insDefs m).find? fun v => decide (v.addr ≤ a ∧ a < v.addr + v.words)

/-- An input entry of some task writes the word (R228). -/
def inputWord (m : Img) (a : Nat) : Bool :=
  (m.all 0x0902).any fun r => (List.range (r.u P0902_IN_COUNT)).any fun i =>
    r.u P0902_DEST i == a || (bits (r.u P0902_SOURCE i) 20 4 == 1 && r.u P0902_DEST i + 1 == a) ||
      (r.u P0902_QUAL i != 0xFFFF && r.u P0902_QUAL i == a)

/-- The image that a task runs. -/
def taskImg (t : Nat) (d : Dev) : Option Img := imgFor 0x13 t d

/-- The word of the other bank that matches a word of a task's bank (R246, R247); words 5 and beyond of a timer whose MEASURE
differs do not match. -/
def twinWord (t a : Nat) (d : Dev) : Option Nat :=
  match taskImg t d, (if taskSwitched t d then d.img else d.next) with
  | some m, some o =>
    match coverOf m a with
    | none => none
    | some v =>
      let ins := decide (0x11 ≤ v.typ)
      match (if ins then insDefs o else varDefs o).find? fun w => w.id == v.id && w.typ == v.typ with
      | none => none
      | some w => if v.typ ≤ 0x13 ∧ ins ∧ w.index ≠ v.index ∧ 5 ≤ a - v.addr then none else some (w.addr + (a - v.addr))
  | _, _ => none

/-- A word stored by a task, with the dual store of an exchange (R247). -/
def taskPut (t a v : Nat) (d : Dev) : Dev :=
  let b := bankOf t d
  let d1 := varSet b a v d
  if flag SHU_XCHG_DUAL 0 d then
    match twinWord t a d with
    | some c => varSet (1 - b) c v d1
    | none => d1
  else d1

/-! Measure image and HOLD_TRAVEL (R240). -/

/-- The positions of the measures in RUN or SLOW now. -/
def measNow (d : Dev) : Tab Int := ((List.range 16).filter fun m => measRuns m d).map fun m => (m, measRaw m (now d) d)

/-- The positions that the defined measures read at stamp `t`, whatever their states (R64). -/
def measRead (t : Nat) (d : Dev) : Tab Int :=
  ((List.range 16).filter fun m => get REEL_MEAS_STATUS_SOURCE m d != 0).map fun m => (m, measRaw m t d)

/-- A task's timers stop at stamp `s`: the travel from there on goes into HOLD_TRAVEL. -/
def heldMarkAt (t s : Nat) (d : Dev) : Dev :=
  let p := measRead s d
  taskMod t (fun x => if x.heldAt.isSome then x else { x with heldAt := some p }) d

/-- A task's timers stop now. -/
def heldMark (t : Nat) (d : Dev) : Dev := heldMarkAt t (now d) d

/-- The task runs again: the travel since the mark is added. -/
def heldEnd (t : Nat) (d : Dev) : Dev :=
  let p := measRead (now d) d
  taskMod t (fun x => match x.heldAt with
    | none => x
    | some q =>
      let add (tr : Tab Int) (m : Nat × Int) : Tab Int := tr.put m.1 (tr.get 0 m.1 + (m.2 - q.get 0 m.1))
      { x with heldAt := none, travel := p.foldl add x.travel }) d

/-- The measure image at S (R240): a measure that does not run keeps its previous value. -/
def measImage (t : Nat) (d : Dev) : Tab Int :=
  let x := taskX t d
  (measNow d).foldl (fun im m => im.put m.1 (m.2 - x.travel.get 0 m.1)) x.image

/-! The freeze (R223, R224, R229). -/

/-- The words of a value by the type of its variable. -/
def typeWords (typ v : Nat) : List Nat := if typ = 5 then [trunc 32 v, trunc 32 (v / 2 ^ 32)] else [trunc 32 v]

/-- An input entry's words under its CONV (R250). -/
def convIn (conv v : Nat) : List Nat :=
  match conv with
  | 1 => [trunc 32 v, trunc 32 (v / 2 ^ 32)]
  | 2 => [f32OfScaled (toInt 32 v) 31]
  | 3 => [if v = 0 then 0 else 1]
  | _ => [trunc 32 v]

/-- Consecutive words from an address on. -/
def laid (a : Nat) (ws : List Nat) : List (Nat × Nat) := ws.zipIdx.map fun p => (a + p.2, p.1)

/-- What a freeze at the present edge takes: host variables whose mailbox holds a write, then the input entries, with the
cycles that it costs and whether a source is stale. -/
def freezeOf (t : Nat) (r : Rec) (d : Dev) : List (Nat × Nat) × Nat × Bool :=
  let hv : List VarDef := match taskImg t d with
    | none => []
    | some m => (varDefs m).filter fun v => v.owner == t && bit v.flags 1
  let host := hv.flatMap fun v => match d.shu.hbox.find? (·.1 == v.id) with
    | some (_, e, x) => if e ≤ edge d then laid v.addr (typeWords v.typ x) else []
    | none => []
  let ins : List (List (Nat × Nat) × Bool × Nat) := (List.range (r.u P0902_IN_COUNT)).map fun i =>
    let src := r.u P0902_SOURCE i
    let id := bits src 0 20
    (laid (r.u P0902_DEST i) (convIn (bits src 20 4) (strandBefore id d)), strandStale id d, r.u P0902_QUAL i)
  let inW := ins.flatMap fun p => p.1 ++ (if p.2.2 = 0xFFFF then [] else [(p.2.2, b2n p.2.1)])
  (host ++ inW, (hv.map fun v => v.words).sum + (ins.map fun p => p.1.length).sum, ins.any fun p => p.2.1)

/-- The mailboxes that the freeze of a task takes are empty again; until the freeze has copied them, the task keeps what they held. -/
def emptyBoxes (t : Nat) (d : Dev) : Dev :=
  let hv : List Nat := match taskImg t d with
    | none => []
    | some m => ((varDefs m).filter fun v => v.owner == t && bit v.flags 1).map (·.id)
  let mine (b : Nat × Nat × Nat) : Bool := hv.contains b.1 && decide (b.2.1 ≤ edge d)
  let took := d.shu.hbox.filter mine
  taskMod t (fun x => { x with boxes := took }) { d with shu := { d.shu with hbox := d.shu.hbox.filter fun b => !mine b } }

/-- A scan abandoned before its freeze was executed has copied no mailbox (R229): the writes stand in their mailboxes again, but for those
that a second write has replaced. -/
def refillBoxes (t : Nat) (d : Dev) : Dev :=
  let took := (taskX t d).boxes
  forL took (fun b d =>
    if d.shu.hbox.any (·.1 == b.1) then stick SHU_TASK_STATE_HVAR_OVW t 0x0905 t d
    else { d with shu := { d.shu with hbox := d.shu.hbox.put b.1 b.2 } }) (taskMod t (fun x => { x with boxes := [] }) d)

/-! Engines and urgency (R222). -/

/-- The logical engine of a task. -/
def taskEngine (t : Nat) (d : Dev) : Nat := orD (taskRec t d) P0902_ENGINE 0

/-- Scan `a` is more urgent than scan `b`. -/
def moreUrgent (a b : Nat) (d : Dev) : Bool :=
  let p := orD (taskRec a d) P0902_PRIORITY 0
  let q := orD (taskRec b d) P0902_PRIORITY 0
  let s := (taskX a d).stamp
  let u := (taskX b d).stamp
  decide (p < q) || (p == q && (decide (s < u) || (s == u && decide (a < b))))

/-- The scan that the engine executes next: the most urgent one under way. -/
def nextTask (e : Nat) (d : Dev) : Option Nat :=
  (List.range 8).foldl (fun best t =>
    let x := taskX t d
    if x.live && !x.broken && taskEngine t d == e then
      match best with
      | none => some t
      | some b => if moreUrgent t b d then some t else best
    else best) none

/-- The engine shows its task (R253). -/
def showEngine (e : Nat) (d : Dev) : Dev := put SHU_ENG_STATUS_RUNNING e ((nextTask e d).getD 0xF) d

/-- Cycles added to an engine's time; they count as time in scans. -/
def spend (e n : Nat) (d : Dev) : Dev :=
  let b := (shuEngX e d).busy + n
  shuEngMod e (fun y => { y with at_ := y.at_ + n, busy := b }) d |> put SHU_ENG_BUSY_NS e ((5 * b + 1) / 2)

/-- The engine turns to task `t`'s scan: an interruption or a resumption costs 4 cycles, a start 4 and its freeze (R222, R223). -/
def engTake (e t : Nat) (d : Dev) : Dev :=
  let y := shuEngX e d
  let x := taskX t d
  if y.cur = t + 1 then d
  else
    let c := taskX (y.cur - 1) d
    let cut := y.cur ≠ 0 ∧ c.live ∧ c.begun ∧ ¬ c.broken
    let d := shuEngMod e (fun y => { y with cur := t + 1, at_ := max y.at_ x.sEdge }) d
    let d := spend e ((if cut then 4 else 0) + (if x.begun then 4 else 4 + x.words)) d
    if x.begun then d
    else
      taskMod t (fun x => { x with begun := true, frz := [], boxes := [], regs := List.replicate 16 0, stack := [], posts := [], log := [] })
        (forL x.frz (fun p d => taskPut t p.1 p.2 d) d)

/-- Loom time at an FCLK edge near the present one. -/
def loomAt (e : Nat) (d : Dev) : Nat :=
  if edge d ≤ e then (d.clk.advance (e - edge d)).loom else now d - 16 * (edge d - e)

/-- S + WATCHDOG, extended by debug halts and breaks, is reached at stamp `at_` (R226, R245). -/
def watchReached (t at_ : Nat) (d : Dev) : Bool :=
  let x := taskX t d
  decide (orD (taskRec t d) P0902_WATCHDOG 0 * 32 ≤ (at_ - x.stamp - x.ext) * 5)

/-- As `watchReached`, strictly past it: an output edge there is too late. -/
def watchPassed (t at_ : Nat) (d : Dev) : Bool :=
  let x := taskX t d
  decide (orD (taskRec t d) P0902_WATCHDOG 0 * 32 < (at_ - x.stamp - x.ext) * 5)

/-! Breaks (R244). -/

/-- An armed breakpoint at index `pc`. -/
def bkptAt (t pc : Nat) (d : Dev) : Bool :=
  let en := get SHU_TASK_STATE_BKPT_EN t d
  (bit en 0 && get SHU_TASK_BKPT_BKPT0 t d == pc) || (bit en 1 && get SHU_TASK_BKPT_BKPT1 t d == pc) ||
    (bit en 2 && get SHU_TASK_BKPT_BKPT2 t d == pc) || (bit en 3 && get SHU_TASK_BKPT_BKPT3 t d == pc)

/-- The task stops before its next instruction (R244), at the edge at which its engine would begin it: HOLD_TRAVEL counts from there. -/
def enterBreak (e t : Nat) (d : Dev) : Dev :=
  let d := engTake e t d
  let at_ := loomAt (max (edge d) (shuEngX e d).at_) d
  taskMod t (fun x => { x with broken := true, cont := false, toHold := false, brkAt := at_ })
    (shuEngMod e (fun y => { y with cur := 0 }) d)
    |> put SHU_TASK_STATE_STATE t 3 |> put SHU_TASK_PC_INDEX t (taskX t d).pc |> put SHU_TASK_PC_CAUSE t 0
    |> heldMarkAt t at_ |> (fun d => raise 0x0907 t d)

/-- Breakpoints at the next instruction of the engine act, one scan after another; `fuel` is at least the number of tasks. -/
def breakSettle (e : Nat) : Nat → Dev → Dev
  | 0, d => d
  | fuel + 1, d =>
    match nextTask e d with
    | none => d
    | some t =>
      if bkptAt t (taskX t d).pc d && !(taskX t d).free then breakSettle e fuel (enterBreak e t d) else d

/-- The device's clock moved on to FCLK edge `e`, when that lies ahead. -/
def moveTo (e : Nat) (d : Dev) : Dev := advance (e - edge d) d

/-- After the scans of an engine changed. -/
def engSettle (e : Nat) (d : Dev) : Dev := if d.unit.halted then showEngine e d else showEngine e (breakSettle e 8 d)

/-- After an instruction of task `t`: when the next one is an armed breakpoint, the device's clock moves on to its edge. -/
def engSettleRun (e t : Nat) (d : Dev) : Dev :=
  if nextTask e d = some t ∧ bkptAt t (taskX t d).pc d ∧ ¬ (taskX t d).free ∧ ¬ d.unit.halted then engSettle e (moveTo (shuEngX e d).at_ d)
  else engSettle e d

/-! The exchange (R247). -/

/-- Words of a task's image that the other image does not keep take effect as it switches: timers whose MEASURE differs take
M_LAST anew (R246). -/
def retakeOf (t : Nat) (d : Dev) : List Nat :=
  match d.img, d.next with
  | some m, some o =>
    ((insDefs o).filter fun w => w.owner == t && decide (w.typ ≤ 0x13) &&
      (insDefs m).any fun v => v.id == w.id && v.typ == w.typ && v.index != w.index).map
        fun w => (1 - get SHU_STATUS_VAR_BANK 0 d) * 32768 + w.addr
  | _, _ => []

/-- Every task of the new image has switched. -/
def tasksSwitched (d : Dev) : Bool :=
  match d.next with
  | none => false
  | some o => (o.all 0x0902).all fun r => taskSwitched (r.u P0902_TASK) d

/-- A task switches banks; with the last one the dual store ends (R247). A write that waits for a host variable which the new image does not
have is dropped with it. -/
def taskSwitch (t : Nat) (d : Dev) : Dev :=
  let re := retakeOf t d
  let d : Dev := { d with switched := d.switched ++ [0x13 * 65536 + t], shu := { d.shu with retake := d.shu.retake ++ re } }
  { d with shu := { d.shu with hbox := d.shu.hbox.filter fun b => (hostVar b.1 d).isSome } }
    |> put SHU_XCHG_SWITCHED 0 (setBit (get SHU_XCHG_SWITCHED 0 d) t true) |> onlyIf (tasksSwitched d) (put SHU_XCHG_DUAL 0 0)

/-- The task is to switch at a start pick stamped `s` (R52): the exchange is in COMMITTING and S_c is reached. -/
def switchDue (t s : Nat) (d : Dev) : Bool :=
  get FUSE_XCHG_STATE 0 d == 4 && decide (d.xchg.sc ≤ s) && !taskSwitched t d

/-! Start picks (R221, R244). -/

/-- A scan begins with what was frozen at its start stamp. -/
def scanBegin (t s : Nat) (frz : List (Nat × Nat)) (words : Nat) (image : Tab Int) (free : Bool) (d : Dev) : Dev :=
  match taskRec t d with
  | none => d
  | some r =>
    taskMod t (fun x => { x with live := true, begun := false, broken := false, cont := false, free := free, toHold := false,
                                 pc := r.u P0902_ENTRY, stamp := s, sEdge := edge d, frz := frz, words := words, image := image,
                                 ext := 0, rerun := false, outAt := 0, contAt := 0 }) d
      |> engSettle (r.u P0902_ENGINE)

/-- The bytes of a frozen input image (R453): its words, then the measure image. -/
def imageBytes (frz : List (Nat × Nat)) (image : Tab Int) : List Nat :=
  (frz.flatMap fun p => leBytes 4 p.2) ++ (List.range 16).flatMap fun m => leBytes 8 (ofInt 64 (image.get 0 m))

/-- A scan is started by its own freeze (R223, R224). -/
def scanStart (t s : Nat) (free : Bool) (d : Dev) : Dev :=
  match taskRec t d with
  | none => d
  | some r =>
    let d := heldEnd t d
    let f := freezeOf t r d
    let im := measImage t d
    let d := emptyBoxes t d |> onlyIf f.2.2 (stick SHU_TASK_STATE_STALE t 0x0906 t)
    scanBegin t s f.1 f.2.1 im free (mirror 3 t s (imageBytes f.1 im) d)

/-- A broken scan goes on at a start pick stamped `s`. -/
def scanResume (t s : Nat) (free : Bool) (d : Dev) : Dev :=
  heldEnd t d
    |> taskMod t (fun x => { x with broken := false, cont := false, free := free, contAt := s, sEdge := edge d, ext := x.ext + (now d - x.brkAt) })
    |> engSettle (taskEngine t d)

/-- Tasks that own retained words (R49, R402). -/
def retainTasks (d : Dev) : List Nat := ((d.img.map retainedDefs).getD []).map (·.owner)

/-- An orderly stop has taken the last scan of task `t`: its start picks start none (R49 step 2). -/
def scanBarred (t : Nat) (d : Dev) : Bool := d.unit.orderly == 3 && (retainTasks d).contains t && !d.unit.owing.contains t

/-- An orderly stop no longer waits for task `t` (R49 step 2). -/
def scanPaid (t : Nat) (d : Dev) : Dev := { d with unit := { d.unit with owing := d.unit.owing.filter (· != t) } }

/-- What a start pick of task `t` stamped `s` does (R49, R221, R244, R402); `go` starts the scan. -/
def taskStartWith (go : Bool → Dev → Dev) (t s : Nat) (d : Dev) : Dev :=
  let st := get SHU_TASK_STATE_STATE t d
  let x := taskX t d
  let heldCount (d : Dev) : Dev := bumpSat SHU_TASK_SKIPS_HELD_STARTS t d
  if d.unit.halted ∨ st = 0 then d
  else if d.unit.pfailLow then heldCount d
  else if d.unit.stopped then d
  else if scanBarred t d then heldCount d
  else
    let d := if switchDue t s d ∧ ¬ x.live then taskSwitch t d else d
    match st with
    | 1 =>
      if x.live then
        (if x.broken then (if x.cont then scanResume t s false d else heldCount d)
         else d |> bumpSat SHU_TASK_SKIPS_OVERRUNS t |> stick SHU_TASK_STATE_OVERRUN t 0x0901 t)
      else go false d
    | 2 =>
      if flag SHU_TASK_STATE_SINGLE t d ∧ ¬ x.live then
        (go true (put SHU_TASK_STATE_SINGLE t 0 d)) else heldCount d
    | 3 =>
      if flag SHU_TASK_STATE_SINGLE t d then
        (d |> put SHU_TASK_STATE_SINGLE t 0 |> put SHU_TASK_STATE_STATE t 2 |> scanResume t s true) else heldCount d
    | _ => d

/-- Action TASK (R68, R223). -/
def taskStart (t s : Nat) (d : Dev) : Dev := taskStartWith (fun free d => scanStart t s free d) t s d

/-! The output phase (R223, R225, R230, R250). -/

/-- A strand's value word of a variable (R21, R230). -/
def strandWord (typ lo hi : Nat) : Nat :=
  if typ = 5 then lo + 2 ^ 32 * hi else if typ = 4 then lo else if typ = 1 then (if lo = 0 then 0 else 1) else ofInt 64 (toInt 32 lo)

/-- Payload offset of output entry `j` of a task record (R250). -/
def outOff (r : Rec) (j : Nat) : Nat := 20 + 8 * r.u P0902_IN_COUNT + 12 * j

/-- An output word under its CONV, with saturation and NaN (R250, R233). -/
def convOut (conv v : Nat) : Nat × Bool × Bool :=
  match conv with
  | 1 => let q := f32ToInt v 31
         (ofInt 32 q.1, q.2.1, q.2.2)
  | 2 => (if v = 0 then 0 else 1, false, false)
  | _ => (v, false, false)

/-- An output entry of KIND 1 or 2 takes a word. -/
def outTo (kind dest v : Nat) (d : Dev) : Dev := if kind = 1 then txWrite dest v d else gpioDrive dest (v != 0) d

/-- Words of a posted item by kind (R236). -/
def postWords (kind : Nat) : Nat := if kind = 0 then 8 else if kind = 1 then 30 else 4

/-- A posted item reaches its mailbox (R225, R236). -/
def postItem (p : Nat × Nat × List Nat) (d : Dev) : Dev :=
  match p with
  | (0, a, bs) => postAxis a false (mcmdOf bs) d
  | (1, g, bs) => postGroup g false (gsegOf bs) d
  | (_, h, bs) => postHank h false (hankReqOf bs) (edge d) d

/-- The STRAND variables of a task. -/
def strandVars (t : Nat) (d : Dev) : List VarDef :=
  match taskImg t d with
  | none => []
  | some m => (varDefs m).filter fun v => v.owner == t && bit v.flags 2

/-- Output words of a scan: its STRAND variables, its output entries and its posts (R223). -/
def outWords (t : Nat) (r : Rec) (d : Dev) : Nat :=
  ((strandVars t d).map fun v => v.words).sum + r.u P0902_OUT_COUNT + ((taskX t d).posts.map fun p => postWords p.1).sum

/-- Everything a scan puts out on its output edge (R225). -/
def scanOutputs (t : Nat) (r : Rec) (d : Dev) : Dev :=
  let b := bankOf t d
  let w (a : Nat) : Nat := varGet b a d
  let posts := (taskX t d).posts.map fun p =>
    (p.1, p.2.1, (List.range (postWords p.1)).flatMap fun i => leBytes 4 (w (p.2.2 + i)))
  d |> putStrands ((strandVars t d).map fun v => (0x9000 + v.index, strandWord v.typ (w v.addr) (w (v.addr + 1))))
    |> forL (List.range (r.u P0902_OUT_COUNT)) (fun j d =>
        let o := outOff r j
        let q := convOut (r.uAt (o + 3) 1) (w (r.uAt o 2))
        d |> onlyIf q.2.1 (put SHU_TASK_STATE_ISAT t 1) |> onlyIf q.2.2 (put SHU_TASK_STATE_FERR t 1)
          |> outTo (r.uAt (o + 2) 1) (r.uAt (o + 4) 2) q.1)
    |> forL posts postItem

/-- A scan is over: the engine is free of it. -/
def scanClose (e t : Nat) (d : Dev) : Dev :=
  taskMod t (fun x => { x with live := false, begun := false, broken := false, cont := false, free := false }) d
    |> shuEngMod e (fun y => if y.cur = t + 1 then { y with cur := 0 } else y)

/-- HOLD is entered (R244). -/
def enterHold (t : Nat) (d : Dev) : Dev :=
  d |> put SHU_TASK_STATE_STATE t 2 |> taskMod t (fun x => { x with toHold := false }) |> heldMark t |> (fun d => raise 0x0907 t d)

/-- The output edge of a scan (R225, R226, R244, R247). -/
def scanEnd (t : Nat) (r : Rec) (outAt : Nat) (d : Dev) : Dev :=
  let x := taskX t d
  let ns := ((outAt - x.stamp) * 5 + 16) / 32
  let d := if d.unit.stopped then d else scanOutputs t r d
  let d := d |> bump SHU_TASK_SCANS_COUNT t |> put SHU_TASK_TIME_LAST_NS t (satU 32 ns) |> maxUp SHU_TASK_TIME_MAX_NS t ns
    |> put SHU_TASK_LAST_STAMP t x.stamp |> scanClose (r.u P0902_ENGINE) t |> passBarrier 2 t x.stamp |> scanPaid t
  let d := onlyIf x.rerun (mirror 11 (256 + t) x.stamp (leBytes 8 outAt)) d
  let d := if x.toHold then enterHold t d else if get SHU_TASK_STATE_STATE t d = 2 then heldMark t d else d
  let d := if x.contAt ≠ 0 ∧ switchDue t x.contAt d then taskSwitch t d else d
  engSettle (r.u P0902_ENGINE) d

/-- The scan is abandoned and the task enters STOP (R226, R238, R244). -/
def taskStop (t code cause : Nat) (d : Dev) : Dev :=
  match taskRec t d with
  | none => d
  | some r =>
    let pc := (taskX t d).pc
    let d := d |> onlyIf (!(taskX t d).begun) (refillBoxes t) |> scanClose (r.u P0902_ENGINE) t |> taskMod t (fun x => { x with toHold := false })
      |> scanPaid t
      |> put SHU_TASK_PC_INDEX t pc |> put SHU_TASK_PC_CAUSE t cause |> put SHU_TASK_STATE_STATE t 4
      |> put SHU_TASK_STATE_SINGLE t 0 |> heldMark t
      |> forL (List.range (r.u P0902_OUT_COUNT)) (fun j d =>
          let o := outOff r j
          if bit (r.uAt (o + 6) 1) 0 ∧ ¬ d.unit.stopped then outTo (r.uAt (o + 2) 1) (r.uAt (o + 4) 2) (r.uAt (o + 8) 4) d else d)
      |> (fun d => raise code t (put SHU_TASK_STATE_FAULT t 1 d))
    engSettle (r.u P0902_ENGINE) d

/-- WATCHDOG_EXPIRY (R226): S + WATCHDOG is reached without an output edge; the scan is abandoned at the next instruction
boundary. A scan at a break does not run, and its WATCHDOG waits with it. -/
def watchdogExpiryAt (t : Nat) (d : Dev) : Dev :=
  let x := taskX t d
  if x.live ∧ ¬ x.broken ∧ ¬ d.unit.halted ∧ watchReached t (now d) d then
    let y := shuEngX (taskEngine t d) d
    taskStop t 0x0902 5 (if y.cur = t + 1 then moveTo y.at_ d else d)
  else d

def execWatchdogExpiry (dt task : Nat) (s : State) : Host.Outcome State Fault Refusal := onDev dt (watchdogExpiryAt task) s

/-- FAULT of a task cleared (R244): STOP becomes RUN. -/
def taskFaultClearAt (t : Nat) (d : Dev) : Dev :=
  let d := if get SHU_TASK_STATE_STATE t d = 4 then put SHU_TASK_STATE_STATE t 1 d else d
  clearField SHU_TASK_STATE_FAULT t d

/-! Host actions on tasks (R244). -/

/-- HOLD with breakpoint indices. -/
def taskHold (t : Nat) (bk : List Nat) (d : Dev) : Dev :=
  if bk = [] then
    (if get SHU_TASK_STATE_STATE t d = 1 then
      (if (taskX t d).live then taskMod t (fun x => { x with toHold := true }) d else enterHold t d)
     else d)
  else
    d |> put SHU_TASK_BKPT_BKPT0 t (bk.getD 0 0) |> put SHU_TASK_BKPT_BKPT1 t (bk.getD 1 0)
      |> put SHU_TASK_BKPT_BKPT2 t (bk.getD 2 0) |> put SHU_TASK_BKPT_BKPT3 t (bk.getD 3 0)
      |> put SHU_TASK_STATE_BKPT_EN t (2 ^ min 4 bk.length - 1) |> engSettle (taskEngine t d)

/-- Resume. -/
def taskResume (t : Nat) (d : Dev) : Dev :=
  let st := get SHU_TASK_STATE_STATE t d
  let d := put SHU_TASK_STATE_BKPT_EN t 0 d
  if st = 2 then put SHU_TASK_STATE_STATE t 1 (put SHU_TASK_STATE_SINGLE t 0 d)
  else if st = 3 then put SHU_TASK_STATE_STATE t 1 (put SHU_TASK_STATE_SINGLE t 0 (taskMod t (fun x => { x with cont := true }) d))
  else taskMod t (fun x => { x with toHold := false }) d

/-- A single scan is asked for. -/
def taskSingle (t : Nat) (d : Dev) : Dev := put SHU_TASK_STATE_SINGLE t 1 d

/-! Debug halt (R245). -/

/-- A debug halt begins: no task's timers advance. -/
def shuHalt (d : Dev) : Dev :=
  forL (recsOf 0x0902 d) (fun r d => heldMark (r.u P0902_TASK) d) { d with shu := { d.shu with haltAt := now d } }

/-- The halt ends: paused scans continue, their WATCHDOG extended. -/
def shuUnhalt (d : Dev) : Dev :=
  let n := now d - d.shu.haltAt
  let d := forL (recsOf 0x0902 d) (fun r d =>
    let t := r.u P0902_TASK
    let d := if (get SHU_TASK_STATE_STATE t d = 1 ∨ (taskX t d).live) ∧ ¬ (taskX t d).broken then heldEnd t d else d
    if (taskX t d).live ∧ ¬ (taskX t d).broken then taskMod t (fun x => { x with ext := x.ext + n }) d else d) d
  forL [0, 1] (fun e d => engSettle e (shuEngMod e (fun y => { y with at_ := max y.at_ (edge d) }) d)) d

/-! Loading (R227, R246). -/

/-- The words that an entry starts with in a cold start. -/
def initWords (v : VarDef) : List Nat :=
  if v.typ = 5 then typeWords 5 v.init
  else if v.typ ≤ 4 then [trunc 32 v.init]
  else if v.typ ≤ 0x13 then typeWords 5 v.init ++ [0, 0, 0, v.index, 0, 0]
  else if v.typ ≤ 0x16 then [trunc 32 v.init, 0, 0, 0]
  else [0, 0, 0, 0]

/-- An image's variables and instances laid into a bank. -/
def layImage (bank : Nat) (m : Img) (d : Dev) : Dev :=
  forL (varDefs m ++ insDefs m) (fun v d => forL (laid v.addr (initWords v)) (fun p d => varSet bank p.1 p.2 d) d) d

/-- Retained words of an image (R231). -/
def retainedWords (m : Img) : Nat := (((varDefs m ++ insDefs m).filter fun v => bit v.flags 0).map fun v => v.words).sum

/-- The Shuttle takes the running image at a start. -/
def shuImage (d : Dev) : Dev :=
  match d.img with
  | none => d
  | some m =>
    let d := layImage 0 m { d with shu := {} }
    d |> put SHU_STATUS_ENGINES 0 3 |> put SHU_STATUS_CODE_BANK 0 0 |> put SHU_STATUS_VAR_BANK 0 0
      |> put SHU_STATUS_RETAINED 0 (retainedWords m / 2)
      |> put SHU_STATUS_TASKS 0 ((m.all 0x0902).foldl (fun n r => setBit n (r.u P0902_TASK) true) 0)
      |> forL (m.all 0x0902) (fun r d => d |> put SHU_TASK_STATE_PRIORITY (r.u P0902_TASK) (r.u P0902_PRIORITY)
          |> put SHU_TASK_STATE_ENGINE (r.u P0902_TASK) (r.u P0902_ENGINE))

/-- RUN begins (R244): every task in RUN with its measure image taken. -/
def shuRun (d : Dev) : Dev :=
  let d := forL (recsOf 0x0902 d) (fun r d =>
    let t := r.u P0902_TASK
    put SHU_TASK_STATE_STATE t 1 (taskMod t (fun x => { x with image := measRead (now d) d, travel := [] }) d)) d
  forL [0, 1] (fun e d => bump SHU_ENG_STATUS_EPOCH e d) d

/-- The new image is laid into the free banks, matched words are copied, and the dual store begins (R247). -/
def shuStage (d : Dev) : Dev :=
  match d.img, d.next with
  | some m, some o =>
    let b := get SHU_STATUS_VAR_BANK 0 d
    let d1 := layImage (1 - b) o d
    let copy (v : VarDef) (d : Dev) : Dev :=
      forL (List.range v.words) (fun i d => match twinWord v.owner (v.addr + i) d with
        | some c => varSet (1 - b) c (varGet b (v.addr + i) d) d
        | none => d) d
    put SHU_XCHG_DUAL 0 1 (forL (varDefs m ++ insDefs m) copy d1)
  | _, _ => d

/-- The old banks are free: the exchange is complete (R247). -/
def shuXchgEnd (d : Dev) : Dev :=
  let b := get SHU_STATUS_VAR_BANK 0 d
  d |> put SHU_STATUS_VAR_BANK 0 (1 - b) |> put SHU_STATUS_CODE_BANK 0 (1 - b) |> put SHU_XCHG_DUAL 0 0 |> put SHU_XCHG_SWITCHED 0 0

end Sys2Proof.Machine
end

