-- ==== Sys2Proof/Machine/Shuttle.lean ====
section
/-! DEFINITION. The instructions of the cyclic program (R232 to R243). A command runs when its task's scan is the one that its
engine executes, no debug halt is in force, and its word is the instruction at the scan's index; otherwise nothing is executed. -/

namespace Sys2Proof.Machine

/-! Instruction words (R234). -/

/-- Format A. -/
def wordA (op rd ra rb sub : Nat) : Option Nat :=
  if rd < 16 ∧ ra < 16 ∧ rb < 16 ∧ sub < 2 ^ 14 then some (op * 2 ^ 26 + rd * 2 ^ 22 + ra * 2 ^ 18 + rb * 2 ^ 14 + sub) else none

/-- Format B. -/
def wordB (op rd ra x imm : Nat) : Option Nat :=
  if rd < 16 ∧ ra < 16 ∧ x < 4 ∧ imm < 2 ^ 16 then some (op * 2 ^ 26 + rd * 2 ^ 22 + ra * 2 ^ 18 + x * 2 ^ 16 + imm) else none

/-- Format C. -/
def wordC (op cond ra offset : Nat) : Option Nat :=
  if cond < 16 ∧ ra < 16 ∧ offset < 2 ^ 18 then some (op * 2 ^ 26 + cond * 2 ^ 22 + ra * 2 ^ 18 + offset) else none

/-- Format F has the layout of format A. -/
def wordF (op rd ra rb inst : Nat) : Option Nat := wordA op rd ra rb inst

/-- Instruction `i` of the image that a task runs. -/
def codeAt (t i : Nat) (d : Dev) : Option Nat :=
  match (taskImg t d).bind (·.one 0x0901) with
  | some r => if i < r.u P0901_COUNT then some (r.u P0901_CODE i) else none
  | none => none

/-! Registers (R232). -/

/-- A register. -/
def xr (x : TaskX) (k : Nat) : Nat := x.regs.getD k 0

/-- A register as an INT32. -/
def xs (x : TaskX) (k : Nat) : Int := toInt 32 (xr x k)

/-- A register pair as a TIME. -/
def xp (x : TaskX) (k : Nat) : Int := toInt 64 (xr x k + 2 ^ 32 * xr x (k + 1))

/-- A register written. -/
def setX (k v : Nat) (x : TaskX) : TaskX := { x with regs := x.regs.set k (trunc 32 v) }

/-- A register pair written. -/
def setP (k : Nat) (v : Int) (x : TaskX) : TaskX := setX (k + 1) (ofInt 64 v / 2 ^ 32) (setX k (ofInt 64 v) x)

/-! One instruction. -/

/-- What an instruction does: it completes in some cycles, or it is an execution error of a CAUSE (R238). -/
inductive Act where
  | done (x : TaskX) (d : Dev) (cyc : Nat)
  | err (cause : Nat)

/-- The scan of task `t` is the one that its engine executes now. -/
def scanRuns (t : Nat) (d : Dev) : Bool :=
  inRun d && !d.unit.halted && nextTask (taskEngine t d) d == some t

/-- An execution error (R238): the scan is abandoned before the instruction, on the edge at which it would begin. -/
def scanError (t cause : Nat) (d : Dev) : Dev := taskStop t 0x0903 cause (moveTo (shuEngX (taskEngine t d) d).at_ d)

/-- An instruction issued (R235): `w` is its word; none when the fields fit no word. -/
def issue (t : Nat) (w : Option Nat) (f : TaskX → Dev → Act) (d : Dev) : Dev :=
  if !scanRuns t d || w.isNone || codeAt t (taskX t d).pc d != w then d
  else
    let e := taskEngine t d
    let d1 := engTake e t d
    if watchReached t (loomAt (shuEngX e d1).at_ d1) d1 then d
    else
      match f { taskX t d1 with pc := (taskX t d1).pc + 1 } d1 with
      | .done x d2 cyc => engSettleRun e t (spend e cyc (taskMod t (fun _ => x) d2))
      | .err c => scanError t c d1

/-- As `issue`, on the whole state. -/
def isa (t : Nat) (w : Option Nat) (f : TaskX → Dev → Act) (s : State) : Host.Outcome State Fault Refusal :=
  .next { s with dev := issue t w f s.dev }

/-! Format A. -/

/-- A result of the register file: the value, whether it is a pair, and the flags of R233. -/
structure Alu where
  v : Int
  wide : Bool := false
  isat : Bool := false
  divz : Bool := false
  ferr : Bool := false

/-- A word as a result. -/
def aluW (v : Nat) : Alu := { v := v }

/-- A truth value as a result. -/
def aluB (b : Bool) : Alu := { v := if b then 1 else 0 }

/-- A saturating INT32 result. -/
def aluSat (v : Int) : Alu := { v := satS 32 v, isat := satS 32 v != v }

/-- A saturating 64-bit result. -/
def aluSat64 (v : Int) : Alu := { v := satS 64 v, wide := true, isat := satS 64 v != v }

/-- The flags that a result sets (R233). -/
def aluFlags (t : Nat) (q : Alu) (d : Dev) : Dev :=
  d |> onlyIf q.isat (put SHU_TASK_STATE_ISAT t 1) |> onlyIf q.ferr (put SHU_TASK_STATE_FERR t 1)
    |> onlyIf q.divz (fun d => stick SHU_TASK_STATE_DIVZ t 0x0904 t d)

/-- A result written to `rd` (R233). -/
def aluPut (t rd : Nat) (q : Alu) (cyc : Nat) (x : TaskX) (d : Dev) : Act :=
  .done (if q.wide then setP rd q.v x else setX rd (ofInt 32 q.v) x) (aluFlags t q d) cyc

/-- A format A instruction: the largest SUB, whether rb is used, and the register numbers that must be even (R234, R238). -/
def regOp (op cyc smax : Nat) (useB : Bool) (even : List Nat) (t rd ra rb sub : Nat) (f : TaskX → Alu) :
    State → Host.Outcome State Fault Refusal :=
  isa t (wordA op rd ra rb sub) fun x d =>
    if smax < sub ∨ (useB = false ∧ rb ≠ 0) then .err 1
    else if even.any (· % 2 == 1) then .err 4
    else aluPut t rd (f x) cyc x d

/-- MOV. -/
def execIMov (task rd ra rb sub : Nat) (s : State) : Host.Outcome State Fault Refusal :=
  regOp 0x06 1 0 false [] task rd ra rb sub (fun x => aluW (xr x ra)) s

/-- MOVT. -/
def execIMovt (task rd ra rb sub : Nat) (s : State) : Host.Outcome State Fault Refusal :=
  regOp 0x07 1 0 false [rd, ra] task rd ra rb sub (fun x => { v := xp x ra, wide := true }) s

/-- ADD, INT32 saturating. -/
def execIAdd (task rd ra rb sub : Nat) (s : State) : Host.Outcome State Fault Refusal :=
  regOp 0x08 1 0 true [] task rd ra rb sub (fun x => aluSat (xs x ra + xs x rb)) s

/-- SUB. -/
def execISub (task rd ra rb sub : Nat) (s : State) : Host.Outcome State Fault Refusal :=
  regOp 0x09 1 0 true [] task rd ra rb sub (fun x => aluSat (xs x ra - xs x rb)) s

/-- MUL. -/
def execIMul (task rd ra rb sub : Nat) (s : State) : Host.Outcome State Fault Refusal :=
  regOp 0x0A 2 0 true [] task rd ra rb sub (fun x => aluSat (xs x ra * xs x rb)) s

/-- DIV (R233): truncated toward zero; a divisor of 0 gives 0 and DIVZ. -/
def execIDiv (task rd ra rb sub : Nat) (s : State) : Host.Outcome State Fault Refusal :=
  regOp 0x0B 18 0 true [] task rd ra rb sub (fun x =>
    if xs x rb = 0 then { v := 0, divz := true } else aluSat (Int.tdiv (xs x ra) (xs x rb))) s

/-- MOD (R233): the sign of the dividend. -/
def execIMod (task rd ra rb sub : Nat) (s : State) : Host.Outcome State Fault Refusal :=
  regOp 0x0C 18 0 true [] task rd ra rb sub (fun x =>
    if xs x rb = 0 then { v := 0, divz := true } else { v := Int.tmod (xs x ra) (xs x rb) }) s

/-- NEG. -/
def execINeg (task rd ra rb sub : Nat) (s : State) : Host.Outcome State Fault Refusal :=
  regOp 0x0E 1 0 false [] task rd ra rb sub (fun x => aluSat (-xs x ra)) s

/-- ABS. -/
def execIAbs (task rd ra rb sub : Nat) (s : State) : Host.Outcome State Fault Refusal :=
  regOp 0x0F 1 0 false [] task rd ra rb sub (fun x => aluSat |xs x ra|) s

/-- AND. -/
def execIAnd (task rd ra rb sub : Nat) (s : State) : Host.Outcome State Fault Refusal :=
  regOp 0x10 1 0 true [] task rd ra rb sub (fun x => aluW (xr x ra &&& xr x rb)) s

/-- OR. -/
def execIOr (task rd ra rb sub : Nat) (s : State) : Host.Outcome State Fault Refusal :=
  regOp 0x11 1 0 true [] task rd ra rb sub (fun x => aluW (xr x ra ||| xr x rb)) s

/-- XOR. -/
def execIXor (task rd ra rb sub : Nat) (s : State) : Host.Outcome State Fault Refusal :=
  regOp 0x12 1 0 true [] task rd ra rb sub (fun x => aluW (xr x ra ^^^ xr x rb)) s

/-- NOT. -/
def execINot (task rd ra rb sub : Nat) (s : State) : Host.Outcome State Fault Refusal :=
  regOp 0x13 1 0 false [] task rd ra rb sub (fun x => { v := -1 - xr x ra }) s

/-- SHL: no saturation. -/
def execIShl (task rd ra rb sub : Nat) (s : State) : Host.Outcome State Fault Refusal :=
  regOp 0x14 1 0 true [] task rd ra rb sub (fun x => aluW (xr x ra * 2 ^ (xr x rb % 32))) s

/-- SHR: arithmetic. -/
def execIShr (task rd ra rb sub : Nat) (s : State) : Host.Outcome State Fault Refusal :=
  regOp 0x15 1 0 true [] task rd ra rb sub (fun x => { v := xs x ra / (2 ^ (xr x rb % 32) : Nat) }) s

/-- BNOT. -/
def execIBnot (task rd ra rb sub : Nat) (s : State) : Host.Outcome State Fault Refusal :=
  regOp 0x16 1 0 false [] task rd ra rb sub (fun x => aluB (xr x ra == 0)) s

/-- TOBOOL. -/
def execITobool (task rd ra rb sub : Nat) (s : State) : Host.Outcome State Fault Refusal :=
  regOp 0x17 1 0 false [] task rd ra rb sub (fun x => aluB (xr x ra != 0)) s

/-- The relation that SUB names (R235): EQ, NE, LT, LE, GT, GE. -/
def relation (sub : Nat) (a b : Int) : Bool :=
  match sub with
  | 0 => a == b
  | 1 => a != b
  | 2 => decide (a < b)
  | 3 => decide (a ≤ b)
  | 4 => decide (b < a)
  | _ => decide (b ≤ a)

/-- CMP. -/
def execICmp (task rd ra rb sub : Nat) (s : State) : Host.Outcome State Fault Refusal :=
  regOp 0x18 1 5 true [] task rd ra rb sub (fun x => aluB (relation sub (xs x ra) (xs x rb))) s

/-- CMPT. -/
def execICmpt (task rd ra rb sub : Nat) (s : State) : Host.Outcome State Fault Refusal :=
  regOp 0x19 2 5 true [ra, rb] task rd ra rb sub (fun x => aluB (relation sub (xp x ra) (xp x rb))) s

/-- CMPF: ordered conditions give 0 for a NaN, NE and UNORD give 1. -/
def execICmpf (task rd ra rb sub : Nat) (s : State) : Host.Outcome State Fault Refusal :=
  regOp 0x1A 2 6 true [] task rd ra rb sub (fun x =>
    let un := f32IsNaN (xr x ra) || f32IsNaN (xr x rb)
    aluB (if sub = 6 then un else if un then sub == 1 else relation sub (f32Order (xr x ra) (xr x rb)) 0)) s

/-- SEL. -/
def execISel (task rd ra rb sub : Nat) (s : State) : Host.Outcome State Fault Refusal :=
  regOp 0x1B 1 0 true [] task rd ra rb sub (fun x => aluW (if xr x rd ≠ 0 then xr x rb else xr x ra)) s

/-- The lesser or the greater of two words, as INT32 or REAL32 by SUB. -/
def pickWord (big : Bool) (sub a b : Nat) : Nat :=
  if sub = 1 then f32Pick big a b
  else if (decide (toInt 32 a ≤ toInt 32 b)) != big then a else b

/-- MIN. -/
def execIMin (task rd ra rb sub : Nat) (s : State) : Host.Outcome State Fault Refusal :=
  regOp 0x1C 1 1 true [] task rd ra rb sub (fun x => aluW (pickWord false sub (xr x ra) (xr x rb))) s

/-- MAX. -/
def execIMax (task rd ra rb sub : Nat) (s : State) : Host.Outcome State Fault Refusal :=
  regOp 0x1D 1 1 true [] task rd ra rb sub (fun x => aluW (pickWord true sub (xr x ra) (xr x rb))) s

/-- LIMIT: min(max(rd, ra), rb). -/
def execILimit (task rd ra rb sub : Nat) (s : State) : Host.Outcome State Fault Refusal :=
  regOp 0x1E 2 1 true [] task rd ra rb sub (fun x =>
    aluW (pickWord false sub (pickWord true sub (xr x rd) (xr x ra)) (xr x rb))) s

/-- SAT16. -/
def execISat16 (task rd ra rb sub : Nat) (s : State) : Host.Outcome State Fault Refusal :=
  regOp 0x1F 1 0 false [] task rd ra rb sub (fun x =>
    { v := satS 16 (xs x ra), isat := satS 16 (xs x ra) != xs x ra }) s

/-- FADD. -/
def execIFadd (task rd ra rb sub : Nat) (s : State) : Host.Outcome State Fault Refusal :=
  regOp 0x20 3 0 true [] task rd ra rb sub (fun x => aluW (f32Add (xr x ra) (xr x rb))) s

/-- FSUB. -/
def execIFsub (task rd ra rb sub : Nat) (s : State) : Host.Outcome State Fault Refusal :=
  regOp 0x21 3 0 true [] task rd ra rb sub (fun x => aluW (f32Sub (xr x ra) (xr x rb))) s

/-- FMUL. -/
def execIFmul (task rd ra rb sub : Nat) (s : State) : Host.Outcome State Fault Refusal :=
  regOp 0x22 3 0 true [] task rd ra rb sub (fun x => aluW (f32Mul (xr x ra) (xr x rb))) s

/-- FDIV. -/
def execIFdiv (task rd ra rb sub : Nat) (s : State) : Host.Outcome State Fault Refusal :=
  regOp 0x23 14 0 true [] task rd ra rb sub (fun x => aluW (f32Div (xr x ra) (xr x rb))) s

/-- FSQRT. -/
def execIFsqrt (task rd ra rb sub : Nat) (s : State) : Host.Outcome State Fault Refusal :=
  regOp 0x24 16 0 false [] task rd ra rb sub (fun x => aluW (f32Sqrt (xr x ra))) s

/-- FNEG: SUB 0 the negative, SUB 1 the absolute value. -/
def execIFneg (task rd ra rb sub : Nat) (s : State) : Host.Outcome State Fault Refusal :=
  regOp 0x25 1 1 false [] task rd ra rb sub (fun x => aluW (if sub = 0 then f32Neg (xr x ra) else f32Abs (xr x ra))) s

/-- ITOF. -/
def execIItof (task rd ra rb sub : Nat) (s : State) : Host.Outcome State Fault Refusal :=
  regOp 0x26 2 0 false [] task rd ra rb sub (fun x => aluW (f32OfScaled (xs x ra) 0)) s

/-- A REAL32 to a whole number with saturation (ISAT) and NaN (FERR). -/
def aluReal (w k : Nat) : Alu :=
  let q := f32ToInt w k
  { v := q.1, isat := q.2.1, ferr := q.2.2 }

/-- FTOI. -/
def execIFtoi (task rd ra rb sub : Nat) (s : State) : Host.Outcome State Fault Refusal :=
  regOp 0x27 2 0 false [] task rd ra rb sub (fun x => aluReal (xr x ra) 0) s

/-- QTOF. -/
def execIQtof (task rd ra rb sub : Nat) (s : State) : Host.Outcome State Fault Refusal :=
  regOp 0x28 2 0 false [] task rd ra rb sub (fun x => aluW (f32OfScaled (xs x ra) 31)) s

/-- FTOQ. -/
def execIFtoq (task rd ra rb sub : Nat) (s : State) : Host.Outcome State Fault Refusal :=
  regOp 0x29 2 0 false [] task rd ra rb sub (fun x => aluReal (xr x ra) 31) s

/-- ADDT. -/
def execIAddt (task rd ra rb sub : Nat) (s : State) : Host.Outcome State Fault Refusal :=
  regOp 0x2A 2 0 true [rd, ra, rb] task rd ra rb sub (fun x => aluSat64 (xp x ra + xp x rb)) s

/-- SUBT. -/
def execISubt (task rd ra rb sub : Nat) (s : State) : Host.Outcome State Fault Refusal :=
  regOp 0x2B 2 0 true [rd, ra, rb] task rd ra rb sub (fun x => aluSat64 (xp x ra - xp x rb)) s

/-- ITOT. -/
def execIItot (task rd ra rb sub : Nat) (s : State) : Host.Outcome State Fault Refusal :=
  regOp 0x2C 1 0 false [rd] task rd ra rb sub (fun x => { v := xs x ra, wide := true }) s

/-- TTOI. -/
def execITtoi (task rd ra rb sub : Nat) (s : State) : Host.Outcome State Fault Refusal :=
  regOp 0x2D 1 0 false [ra] task rd ra rb sub (fun x => aluSat (xp x ra)) s

/-! Format B. -/

/-- NOP. -/
def execINop (task rd ra x imm : Nat) (s : State) : Host.Outcome State Fault Refusal :=
  isa task (wordB 0x00 rd ra x imm) (fun y d => if rd + ra + x + imm ≠ 0 then .err 1 else .done y d 1) s

/-- A word may be read (R228): some record covers it. -/
def covered (t a : Nat) (d : Dev) : Bool := ((taskImg t d).bind fun m => coverOf m a).isSome

/-- A word may be stored by the task (R228). -/
def mayStore (t a : Nat) (d : Dev) : Bool :=
  match taskImg t d with
  | none => false
  | some m => ((coverOf m a).map fun v => v.owner == t).getD false && !inputWord m a

/-- Words stored in order, each with its old value in the undo log (R468). -/
def storeAll (t : Nat) (ws : List (Nat × Nat)) (x : TaskX) (d : Dev) : TaskX × Dev :=
  ws.foldl (fun p w => ({ p.1 with log := (w.1, varGet (bankOf t p.2) w.1 p.2) :: p.1.log }, taskPut t w.1 w.2 p.2)) (x, d)

/-- The operand address of format B, and whether its fields are legal (R234). -/
def addrB (y : TaskX) (ra x imm : Nat) : Option Nat :=
  if x = 0 then (if ra = 0 then some imm else none)
  else if x = 1 then some (imm + xr y ra % 65536) else none

/-- LD and LDT. -/
def loadOp (op cyc : Nat) (wide : Bool) (t rd ra x imm : Nat) : State → Host.Outcome State Fault Refusal :=
  isa t (wordB op rd ra x imm) fun y d =>
    match addrB y ra x imm with
    | none => .err 1
    | some a =>
      if wide ∧ (rd % 2 = 1 ∨ a % 2 = 1) then .err 4
      else if !covered t a d || (wide && !covered t (a + 1) d) then .err 2
      else
        let b := bankOf t d
        let y := setX rd (varGet b a d) y
        .done (if wide then setX (rd + 1) (varGet b (a + 1) d) y else y) d cyc

/-- LD. -/
def execILd (task rd ra x imm : Nat) (s : State) : Host.Outcome State Fault Refusal := loadOp 0x01 1 false task rd ra x imm s

/-- LDT. -/
def execILdt (task rd ra x imm : Nat) (s : State) : Host.Outcome State Fault Refusal := loadOp 0x02 2 true task rd ra x imm s

/-- ST and STT. -/
def storeOp (op cyc : Nat) (wide : Bool) (t rd ra x imm : Nat) : State → Host.Outcome State Fault Refusal :=
  isa t (wordB op rd ra x imm) fun y d =>
    match addrB y ra x imm with
    | none => .err 1
    | some a =>
      if wide ∧ (rd % 2 = 1 ∨ a % 2 = 1) then .err 4
      else if !mayStore t a d || (wide && !mayStore t (a + 1) d) then .err 2
      else
        let q := storeAll t ((a, xr y rd) :: if wide then [(a + 1, xr y (rd + 1))] else []) y d
        .done q.1 q.2 cyc

/-- ST. -/
def execISt (task rd ra x imm : Nat) (s : State) : Host.Outcome State Fault Refusal := storeOp 0x03 1 false task rd ra x imm s

/-- STT. -/
def execIStt (task rd ra x imm : Nat) (s : State) : Host.Outcome State Fault Refusal := storeOp 0x04 2 true task rd ra x imm s

/-- LDI. -/
def execILdi (task rd ra x imm : Nat) (s : State) : Host.Outcome State Fault Refusal :=
  isa task (wordB 0x05 rd ra x imm) (fun y d =>
    if ra ≠ 0 ∨ x = 3 then .err 1
    else
      let v := if x = 0 then ofInt 32 (toInt 16 imm) else if x = 1 then imm * 65536 + xr y rd % 65536 else imm
      .done (setX rd v y) d 1) s

/-- ADDI. -/
def execIAddi (task rd ra x imm : Nat) (s : State) : Host.Outcome State Fault Refusal :=
  isa task (wordB 0x0D rd ra x imm) (fun y d =>
    if x ≠ 0 then .err 1 else aluPut task rd (aluSat (xs y ra + toInt 16 imm)) 1 y d) s

/-- RET. -/
def execIRet (task rd ra x imm : Nat) (s : State) : Host.Outcome State Fault Refusal :=
  isa task (wordB 0x32 rd ra x imm) (fun y d =>
    if rd + ra + x + imm ≠ 0 then .err 1
    else match y.stack with
      | [] => .err 3
      | p :: ps => .done { y with pc := p, stack := ps } d 2) s

/-- POST (R236): the item's words must be covered. -/
def execIPost (task rd ra x imm : Nat) (s : State) : Host.Outcome State Fault Refusal :=
  isa task (wordB 0x34 rd ra x imm) (fun y d =>
    if x ≠ 0 then .err 1
    else if 2 < rd ∨ (if rd = 0 then 64 else if rd = 1 then 8 else 32) ≤ xr y ra ∨
        ¬ ((List.range (postWords rd)).all fun i => covered task (imm + i) d) then .err 2
    else .done { y with posts := y.posts ++ [(rd, xr y ra, imm)] } d 2) s

/-- END (R223, R225, R226): execution ends, the output words are copied and the 4 end cycles pass; the clock moves on to the
output edge. An output edge that S + WATCHDOG forbids ends the scan there instead. -/
def endScan (t : Nat) (word : Option Nat) (legal : Bool) (d : Dev) : Dev :=
  if !scanRuns t d || word.isNone || codeAt t (taskX t d).pc d != word then d
  else
    let e := taskEngine t d
    let d1 := engTake e t d
    if watchReached t (loomAt (shuEngX e d1).at_ d1) d1 then d
    else if !legal then scanError t 1 d1
    else
      match taskRec t d1 with
      | none => d
      | some r =>
        let d2 := spend e (5 + outWords t r d1) d1
        let d2 := spend e (((taskX t d2).outAt - loomAt (shuEngX e d2).at_ d2 + 15) / 16) d2
        let outAt := (shuEngX e d2).at_
        let stamp := loomAt outAt d2
        if watchPassed t stamp d2 then
          let lim := (taskX t d2).stamp + (taskX t d2).ext + (r.u P0902_WATCHDOG * 32 + 4) / 5
          taskStop t 0x0902 5 (moveTo (edge d2 + (lim - now d2 + 15) / 16) d2)
        else scanEnd t r stamp (moveTo outAt d2)

def execIEnd (task rd ra x imm : Nat) (s : State) : Host.Outcome State Fault Refusal :=
  .next { s with dev := endScan task (wordB 0x33 rd ra x imm) (rd + ra + x + imm == 0) s.dev }

/-! Format C. -/

/-- The branch target, when it lies in the code bank. -/
def targetC (y : TaskX) (offset : Nat) : Option Nat :=
  let v := (y.pc : Int) - 1 + toInt 18 offset
  if 0 ≤ v ∧ v < 65536 then some v.toNat else none

/-- BR. -/
def execIBr (task cond ra offset : Nat) (s : State) : Host.Outcome State Fault Refusal :=
  isa task (wordC 0x30 cond ra offset) (fun y d =>
    match targetC y offset with
    | none => .err 1
    | some p =>
      if 4 < cond ∨ (cond = 0 ∧ ra ≠ 0) then .err 1
      else
        let v := xs y ra
        let take := match cond with
          | 0 => true
          | 1 => v == 0
          | 2 => v != 0
          | 3 => decide (v < 0)
          | _ => decide (0 ≤ v)
        if take then .done { y with pc := p } d 2 else .done y d 1) s

/-- CALL. -/
def execICall (task cond ra offset : Nat) (s : State) : Host.Outcome State Fault Refusal :=
  isa task (wordC 0x31 cond ra offset) (fun y d =>
    match targetC y offset with
    | none => .err 1
    | some p =>
      if cond ≠ 0 ∨ ra ≠ 0 then .err 1
      else if 16 ≤ y.stack.length then .err 3
      else .done { y with pc := p, stack := y.pc :: y.stack } d 2) s

/-! Format F: timers (R241), counters (R242) and edge detectors (R243). -/

/-- The kinds of timers. -/
inductive TimerKind where
  | ton
  | tof
  | tp
  deriving DecidableEq, Repr

/-- A timer's words: ET, and the bits Q, previous IN, RUNNING and PRIMED. -/
structure TimerW where
  et : Int
  q : Bool
  prev : Bool
  run : Bool
  primed : Bool

/-- One call of a timer (R241): `dl` is the travel since the previous call. -/
def timerCall (k : TimerKind) (w : TimerW) (inn : Bool) (pt dl : Int) : TimerW :=
  let prev := if w.primed then w.prev else inn
  let adv := min (w.et + dl) (max pt 0)
  let w : TimerW := { w with prev := inn, primed := true }
  match k with
  | .ton =>
    if !inn then { w with et := 0, q := false, run := false }
    else
      let et := if w.run then adv else 0
      { w with et := et, run := true, q := decide (pt ≤ et) }
  | .tof =>
    if inn then { w with q := true, et := 0, run := false }
    else
      let w := if prev then { w with run := true, et := 0 } else if w.run then { w with et := adv } else w
      if w.run ∧ pt ≤ w.et then { w with q := false, run := false } else w
  | .tp =>
    let w := if w.run then { w with et := adv }
      else if inn && !prev then { w with q := true, run := true, et := 0 }
      else if !inn then { w with et := 0 } else w
    if w.run ∧ pt ≤ w.et then { w with q := false, run := false } else w

/-- The words that a timer call stores. -/
def timerWords (base : Nat) (pt : Int) (w : TimerW) (old4 : Nat) (m : Int) : List (Nat × Nat) :=
  let lo (v : Int) : Nat := trunc 32 (ofInt 64 v)
  let hi (v : Int) : Nat := ofInt 64 v / 2 ^ 32
  let b := old4 / 16 * 16 + b2n w.q + 2 * b2n w.prev + 4 * b2n w.run + 8 * b2n w.primed
  [(base, lo pt), (base + 1, hi pt), (base + 2, lo w.et), (base + 3, hi w.et), (base + 4, b), (base + 6, lo m), (base + 7, hi m)]

/-- Every one of `n` words from `base` on may be stored. -/
def mayStoreAll (t base n : Nat) (d : Dev) : Bool := (List.range n).all fun i => mayStore t (base + i) d

/-- TON, TOF and TP. -/
def timerOp (op : Nat) (k : TimerKind) (t rd ra rb inst : Nat) : State → Host.Outcome State Fault Refusal :=
  isa t (wordF op rd ra rb inst) fun y d =>
    let base := 4 * inst
    if 2 ^ 13 ≤ inst then .err 1
    else if rb % 2 = 1 then .err 4
    else if !mayStoreAll t base 8 d then .err 2
    else
      let b := bankOf t d
      let w (i : Nat) : Nat := varGet b (base + i) d
      let m := toInt 64 (ofInt 64 (y.image.get 0 (w 5 % 16)))
      let again := d.shu.retake.contains (b * 32768 + base)
      let dl : Int := if again then 0 else max 0 (toInt 64 (ofInt 64 (m - toInt 64 (w 6 + 2 ^ 32 * w 7))))
      let old : TimerW := ⟨toInt 64 (w 2 + 2 ^ 32 * w 3), bit (w 4) 0, bit (w 4) 1, bit (w 4) 2, bit (w 4) 3⟩
      let pt := xp y rb
      let new := timerCall k old (xr y ra != 0) pt dl
      let q := storeAll t (timerWords base pt new (w 4) m) y
        { d with shu := { d.shu with retake := d.shu.retake.filter (· != b * 32768 + base) } }
      .done (setX rd (b2n new.q) q.1) q.2 10

/-- TON. -/
def execITon (task rd ra rb inst : Nat) (s : State) : Host.Outcome State Fault Refusal := timerOp 0x38 .ton task rd ra rb inst s

/-- TOF. -/
def execITof (task rd ra rb inst : Nat) (s : State) : Host.Outcome State Fault Refusal := timerOp 0x39 .tof task rd ra rb inst s

/-- TP. -/
def execITp (task rd ra rb inst : Nat) (s : State) : Host.Outcome State Fault Refusal := timerOp 0x3A .tp task rd ra rb inst s

/-- The kinds of counters. -/
inductive CounterKind where
  | up
  | down
  | both
  deriving DecidableEq, Repr

/-- The new CV of a counter call (R242): `i1` and `i2` the inputs, `r1` and `r2` their rises, `w3` word 3. -/
def counterCv (k : CounterKind) (cv pv : Int) (i2 r1 r2 : Bool) (w3 : Nat) : Int :=
  match k with
  | .up => if i2 then 0 else if r1 then satS 32 (cv + 1) else cv
  | .down => if i2 then pv else if r1 then satS 32 (cv - 1) else cv
  | .both =>
    if bit w3 0 then 0 else if bit w3 1 then pv
    else satS 32 (cv + (if r1 then 1 else 0) - (if r2 then 1 else 0))

/-- CTU, CTD and CTUD. -/
def counterOp (op cyc : Nat) (k : CounterKind) (t rd ra rb inst : Nat) : State → Host.Outcome State Fault Refusal :=
  isa t (wordF op rd ra rb inst) fun y d =>
    let base := 4 * inst
    if 2 ^ 13 ≤ inst ∨ (k = .both ∧ rd = 15) then .err 1
    else if !mayStoreAll t base 4 d then .err 2
    else
      let b := bankOf t d
      let w (i : Nat) : Nat := varGet b (base + i) d
      let i1 := xr y ra != 0
      let i2 := xr y rb != 0
      let primed := bit (w 2) 4
      let pv := toInt 32 (w 0)
      let cv := counterCv k (toInt 32 (w 1)) pv i2 (primed && i1 && !bit (w 2) 2) (primed && i2 && !bit (w 2) 3) (w 3)
      let q := if k = .down then decide (cv ≤ 0) else decide (pv ≤ cv)
      let qd := if k = .both then decide (cv ≤ 0) else bit (w 2) 1
      let w2 := w 2 / 32 * 32 + b2n q + 2 * b2n qd + 4 * b2n i1 + 8 * b2n i2 + 16
      let s := storeAll t [(base + 1, ofInt 32 cv), (base + 2, w2)] y d
      let z := setX rd (b2n q) s.1
      .done (if k = .both then setX (rd + 1) (b2n qd) z else z) s.2 cyc

/-- CTU. -/
def execICtu (task rd ra rb inst : Nat) (s : State) : Host.Outcome State Fault Refusal := counterOp 0x3B 6 .up task rd ra rb inst s

/-- CTD. -/
def execICtd (task rd ra rb inst : Nat) (s : State) : Host.Outcome State Fault Refusal := counterOp 0x3C 6 .down task rd ra rb inst s

/-- CTUD. -/
def execICtud (task rd ra rb inst : Nat) (s : State) : Host.Outcome State Fault Refusal := counterOp 0x3D 8 .both task rd ra rb inst s

/-- R_TRIG and F_TRIG. -/
def edgeOp (op : Nat) (rise : Bool) (t rd ra rb inst : Nat) : State → Host.Outcome State Fault Refusal :=
  isa t (wordF op rd ra rb inst) fun y d =>
    let base := 4 * inst
    if 2 ^ 13 ≤ inst ∨ rb ≠ 0 then .err 1
    else if !mayStore t base d then .err 2
    else
      let w0 := varGet (bankOf t d) base d
      let clk := xr y ra != 0
      let prev := if bit w0 1 then bit w0 0 else clk
      let q := if rise then clk && !prev else !clk && prev
      let s := storeAll t [(base, w0 / 4 * 4 + b2n clk + 2)] y d
      .done (setX rd (b2n q) s.1) s.2 3

/-- R_TRIG. -/
def execIRtrig (task rd ra rb inst : Nat) (s : State) : Host.Outcome State Fault Refusal := edgeOp 0x3E true task rd ra rb inst s

/-- F_TRIG. -/
def execIFtrig (task rd ra rb inst : Nat) (s : State) : Host.Outcome State Fault Refusal := edgeOp 0x3F false task rd ra rb inst s

/-! Illegal words. -/

/-- The opcodes of R235. -/
def listedOp (op : Nat) : Bool :=
  decide (op ≤ 0x2D) || decide (0x30 ≤ op ∧ op ≤ 0x34) || decide (0x38 ≤ op ∧ op ≤ 0x3F)

/-- ILLEGAL_OPCODE (R238): the next instruction has an unlisted opcode, or its index holds none. -/
def illegalOpcodeAt (t word : Nat) (d : Dev) : Dev :=
  if !scanRuns t d then d
  else
    let c := codeAt t (taskX t d).pc d
    let bad := match c with
      | none => true
      | some w => w == word && !listedOp (w / 2 ^ 26)
    if !bad then d
    else
      let e := taskEngine t d
      let d1 := engTake e t d
      if watchReached t (loomAt (shuEngX e d1).at_ d1) d1 then d else scanError t 1 d1

def execIllegalOpcode (task word : Nat) (s : State) : Host.Outcome State Fault Refusal :=
  .next { s with dev := illegalOpcodeAt task word s.dev }

end Sys2Proof.Machine
end

