-- ==== Sys2Proof/Machine/Reserve.lean ====
section
/-! DEFINITION. What moves work to the reserve (R466 to R472): barriers of planned migrations, self-test slices, aging, correctable
and uncorrectable SRAM errors, and a residue failure of a Shuttle engine. -/

namespace Sys2Proof.Machine

/-- The reserve record's fields with their defaults (R474). -/
def rsvField (f : PF) (dflt : Nat) (d : Dev) : Nat := orD0 (recOf 0x1301 d) f dflt

/-- ROTATE is set (R474). -/
def rotates (d : Dev) : Bool := bit (orD (recOf 0x1301 d) P1301_FLAGS 1) 0

/-- The logical resource that stands on a physical one. -/
def logicalOf (kind p : Nat) (d : Dev) : Option Nat := (List.range (kindCount kind)).find? fun e => physOf kind e d == p

/-- The resource has gone out of service without a replacement. -/
def isOut (kind e : Nat) (d : Dev) : Bool :=
  match kind with
  | 0 => !(coresOn d).contains e
  | 1 => (d.engs.get {} e).out
  | _ => (shuEngX e d).out

/-- MIGRATION_BARRIER (R467): stamp B is reached; a migration without groups or tasks is complete. -/
def migrationBarrierAt (d : Dev) : Dev :=
  forL d.pool.migs (fun m d =>
    if now d < m.2.barrier then d
    else if m.2.left = [] then startWaiting m.1 (migDone m.1 d)
    else showMigrating m.1 m.2.logical true d) d

def execMigrationBarrier (dt : Nat) (s : State) : Host.Outcome State Fault Refusal := onDev dt migrationBarrierAt s

/-! The Shuttle's engines. -/

/-- Words that a scan stored go back to their values from before it (R468); the log lists the oldest store first. -/
def undoStores (log : List (Nat × Nat)) (d : Dev) : Dev :=
  log.reverse.foldl (fun d p => { d with shu := { d.shu with vars := d.shu.vars.set 0 p.1 p.2 } }) d

/-- The scan of task `t` begins again on the reserve from the same frozen image and start stamp (R468). -/
def scanAgain (t : Nat) (d : Dev) : Dev :=
  let x := taskX t d
  let back := if x.begun then x.log else []
  undoStores back d
    |> taskMod t (fun x => { x with begun := false, words := if x.begun then 0 else x.words, pc := orD (taskRec t d) P0902_ENTRY 0,
                                    posts := [], log := [], rerun := true, sEdge := edge d })

/-- A Shuttle engine is doffed urgently (R466, R468, R472). -/
def doffShu (e : Nat) (d : Dev) : Dev :=
  if (shuEngX e d).out then d
  else
    let p := physOf 2 e d
    let d := d |> retire 2 p |> bumpSat RSV_STATUS_DOFFS 0
    match takeReserve 2 d with
    | (some q, d) =>
      let d := setPhys 2 e q d
      let d := match nextTask e d with
        | some t =>
          let d := scanAgain t (shuEngMod e (fun y => { y with cur := 0 }) d)
          let d := raise 0x1303 p (put RSV_FLAGS_RESIDUE 0 1 d)
          if isStandby d then replayDiverge d else d
        | none => d
      engSettle e (raise 0x1302 p d)
    | (none, d) =>
      shuEngMod e (fun y => { y with out := true }) d |> put SHU_STATUS_ENGINES 0 (setBit (get SHU_STATUS_ENGINES 0 d) e false)
        |> poolEmpty p |> unplaced p

/-- SHUTTLE_RESIDUE_FAILURE (R468), at the boundary of the engine's present instruction. -/
def execShuttleResidueFailure (dt engine : Nat) (s : State) : Host.Outcome State Fault Refusal :=
  onDev dt (fun d => if inRun d && (nextTask engine d).isSome then doffShu engine (moveTo (shuEngX engine d).at_ d) else d) s

/-! Self-test, aging. -/

/-- A resource fails with or without a reserve of its kind: an urgent doff carries R472's consequences. -/
def failKind (kind e : Nat) (d : Dev) : Dev :=
  match kind with
  | 0 => doffCore e d
  | 1 => engsKick (doffPly e d)
  | _ => doffShu e d

/-- A planned doff as a trigger of R466 starts it: with no reserve of the kind left, and no migration that could free one, a
resource that fails falls under R472. -/
def testDoff (kind e : Nat) (d : Dev) : Dev :=
  if get (spareFld kind) 0 d = 1 ∨ d.pool.migs.any (·.1 == kind) then plannedDoff kind e false d else failKind kind e d

/-- An idle resource fails its test: it leaves the pool. -/
def spareFails (kind p : Nat) (d : Dev) : Dev :=
  let free := get (spareFld kind) 0 d
  let d := retire kind p { d with pool := { d.pool with aged := d.pool.aged.filter (· != kind * 16 + p) } }
  if free = 1 then poolEmpty p (put (spareFld kind) 0 0 d) else d

/-- A resource that was rotated out passes its test and is the reserve again (R470). -/
def spareReturns (kind p : Nat) (d : Dev) : Dev :=
  if d.pool.aged.contains (kind * 16 + p) then
    startWaiting kind (put (spareFld kind) 0 1 { d with pool := { d.pool with aged := d.pool.aged.filter (· != kind * 16 + p) } })
  else d

/-- BIST_SLICE (R466): a background self-test slice of physical resource `p` ends. -/
def bistSliceAt (kind p : Nat) (passed : Bool) (d : Dev) : Dev :=
  if !inRun d || decide (2 < kind) || decide (kindCount kind < p) || bit (get (retiredFld kind) 0 d) p then d
  else if passed then spareReturns kind p d
  else
    let d := raise 0x1309 p (put RSV_FLAGS_BIST_FAIL 0 1 d)
    match logicalOf kind p d with
    | some e => if isOut kind e d then d else testDoff kind e d
    | none => spareFails kind p d

def execBistSlice (dt kind index : Nat) (passed : Bool) (s : State) : Host.Outcome State Fault Refusal :=
  onDev dt (bistSliceAt kind index passed) s

/-- AGE_CHECK (R470): the domain's monitor reports its margin and worst resource; with ROTATE set, one that runs slower than the
least-aged of its kind by more than AGE_DELTA is doffed. -/
def ageCheckAt (dom margin worst slower : Nat) (d : Dev) : Dev :=
  if 6 ≤ dom then d
  else
    let d := d |> put RSV_AGE_MARGIN dom margin |> put RSV_AGE_WORST dom worst
    let d := if margin < rsvField P1301_AGE_WARN 50 d then raise 0x1306 worst (put RSV_FLAGS_AGE_LOW 0 1 d) 0 margin else d
    if !inRun d || decide (2 < dom) || !rotates d || decide (slower ≤ rsvField P1301_AGE_DELTA 30 d) then d
    else match logicalOf dom worst d with
      | some e => if isOut dom e d then d else plannedDoff dom e true d
      | none => d

def execAgeCheck (dt domain margin worst slower : Nat) (s : State) : Host.Outcome State Fault Refusal :=
  onDev dt (ageCheckAt domain margin worst slower) s

/-! SRAM errors (R469). -/

/-- Sixteenths in 24 h. -/
def day16 : Nat := 24 * 3600 * 1000000 * us16

/-- Spare rows of a RAM that are left. -/
def rowsFree (ram : Nat) (d : Dev) : Nat :=
  let gone := if d.pool.startRows = 0 then 0 else min 20 (Config.repairedRows d.pool.startRows d.pool.startRams ram)
  20 - gone - d.pool.rowsUsed.get 0 ram

/-- RSV_STATUS.ROWS_MIN. -/
def showRows (d : Dev) : Dev := put RSV_STATUS_ROWS_MIN 0 ((List.range 128).foldl (fun m r => min m (rowsFree r d)) 20) d

/-- SRAM_ECC_CORRECTABLE (R469): counted over 24 h; at the limit a spare row is filled, or 0x130A is raised. Eight in a core's local
memory ask T1 for a planned doff (R466). -/
def sramEccCorrectableAt (ram row : Nat) (d : Dev) : Dev :=
  let key := if ram < 128 then ram * 65536 + row else ram * 65536
  let l := (d.pool.ecc.get [] key).filter (fun t => decide (now d < t + day16)) ++ [now d]
  let d : Dev := { d with pool := { d.pool with ecc := d.pool.ecc.put key l } }
  if 128 ≤ ram then
    match logicalOf 0 (ram - 128) d with
    | some c =>
      if l.length < 8 ∨ isOut 0 c d then d
      else { d with pool := { d.pool with wanted := if d.pool.wanted.contains (c * 2) then d.pool.wanted else d.pool.wanted ++ [c * 2] } }
    | none => d
  else if l.length < rsvField P1301_ECC_ROW_LIMIT 2 d ∨ d.pool.copies.contains (ram, row) then d
  else if rowsFree ram d = 0 then raise 0x130A ram d
  else
    showRows { d with pool := { d.pool with copies := d.pool.copies ++ [(ram, row)],
                                            rowsUsed := d.pool.rowsUsed.put ram (d.pool.rowsUsed.get 0 ram + 1) } }

def execSramEccCorrectable (dt ram row : Nat) (s : State) : Host.Outcome State Fault Refusal := onDev dt (sramEccCorrectableAt ram row) s

/-- SRAM_ROW_COPY_COMPLETE (R469): the oldest copy ends, the map changes, and 0x1307. -/
def sramRowCopyCompleteAt (d : Dev) : Dev :=
  match d.pool.copies with
  | [] => d
  | (ram, row) :: rest =>
    raise 0x1307 ram (put RSV_FLAGS_ROW_REPAIRED 0 1
      { d with pool := { d.pool with copies := rest, ecc := d.pool.ecc.del (ram * 65536 + row) } })

def execSramRowCopyComplete (dt : Nat) (s : State) : Host.Outcome State Fault Refusal := onDev dt sramRowCopyCompleteAt s

/-- Regions of R18, in the order of its table, that have port-A users or are Koresque's working memory (R469). -/
def fatalRegion (region : Nat) : Bool := [0, 1, 2, 3, 8, 10].contains region

/-- What the user of a word in region `region` discards and counts (R469): the oldest record of the event buffer, or the oldest page
that waits in the recording staging area; a retained copy is then not whole. -/
def discardWord (region : Nat) (d : Dev) : Dev :=
  match region with
  | 5 => match d.recd.wait with
    | [] => d
    | _ :: w =>
      let num := d.store.histNum - d.recd.wait.length
      let drop (o : StoreOp) : StoreOp := if o.goal = 1 ∧ o.arg = num then { o with data := zeros 16384 } else o
      { d with recd := { d.recd with wait := zeros 16384 :: w }
               store := { d.store with ops := d.store.ops.map drop, waitq := d.store.waitq.map drop } }
  | 6 => { d with recd := { d.recd with retainOk := false } }
  | 7 => match d.recd.buf with
    | [] => d
    | _ :: b => logRegs { d with recd := { d.recd with buf := b, dropped := d.recd.dropped + 1 } }
  | _ => d

/-- SRAM_ECC_UNCORRECTABLE (R469). Region 11 stands for the Creel's own state, which R18 does not list (R102; log entry 63). -/
def sramEccUncorrectableAt (ram region : Nat) (d : Dev) : Dev :=
  if region = 11 then raise 0x0405 0 d
  else if fatalRegion region then raise 0x1308 ram d
  else if region < 11 then raise 0x130B ram (discardWord region d)
  else d

def execSramEccUncorrectable (dt ram region : Nat) (s : State) : Host.Outcome State Fault Refusal :=
  onDev dt (sramEccUncorrectableAt ram region) s

/-- T1 commits a planned doff that a trigger of R466 asked for. -/
def committedDoff (kind e : Nat) (d : Dev) : Dev :=
  match d.pool.wanted.find? fun w => w / 2 == kind * 16 + e with
  | some w => plannedDoff kind e (w % 2 == 1) { d with pool := { d.pool with wanted := d.pool.wanted.filter (· != w) } }
  | none => d

end Sys2Proof.Machine
end

