-- ==== Sys2Proof/Machine/Hank.lean ====
section
/-! DEFINITION. Hanks (R255 to R270): steps and their ends, staged sets, the boundary, requests and the sequencer's states. The
effect of every decision is one operation, which the active unit runs at its STEP picks and a standby at the mirrored decision. -/

namespace Sys2Proof.Machine

/-- A hank's notes. -/
def hankX (h : Nat) (d : Dev) : HankX := d.hanks.get {} h

/-- A hank's notes changed. -/
def hankMod (h : Nat) (f : HankX → HankX) (d : Dev) : Dev := { d with hanks := d.hanks.put h (f (hankX h d)) }

/-- The state of R267. -/
def hankState (h : Nat) (d : Dev) : Nat := get HANK_H_STATE_STATE h d

/-- A recipe that starts at stamp `t` takes the new version during an exchange (R52). -/
def startsNew (t : Nat) (d : Dev) : Bool := get FUSE_XCHG_STATE 0 d == 4 && decide (d.xchg.sc ≤ t) && d.next.isSome

/-- The hank's record. -/
def hankRec (h : Nat) (d : Dev) : Option Rec := (hankImg h d).bind (·.find 0x0A01 P0A01_HANK h)

/-- A recipe of hank `h` in an image. -/
def recipeIn (m : Option Img) (h n : Nat) : Option Rec :=
  (m.bind (·.find 0x0A02 P0A02_RECIPE n)).filter fun q => q.u P0A02_HANK == h

/-- The running recipe's record. -/
def hankRecipe (h : Nat) (d : Dev) : Option Rec := (hankX h d).recipe.bind fun n => recipeIn (hankImg h d) h n

/-- The hank's registers and strands (R275, R276). -/
def hankShow (h : Nat) (d : Dev) : Dev :=
  let x := hankX h d
  let orNone (n : Option Nat) : Int := match n with
    | some k => k
    | none => -1
  let count : Nat := match x.step with
    | some s => x.loops.get 0 s
    | none => 0
  d |> putB HANK_H_STATE_STAGED_NEXT h x.next.isSome |> putB HANK_H_STATE_STAGED_BRANCH h x.branch.isSome
    |> putB HANK_H_STATE_STAGED_HOLD h x.hold.isSome
    |> put HANK_H_STATE_RECIPE h (x.recipe.getD 0) |> put HANK_H_STATE_STEP h (x.step.getD 0)
    |> putStrandsS [(0x0A000 + h, hankState h d), (0x0A020 + h, orNone x.recipe), (0x0A040 + h, orNone x.step),
        (0x0A060 + h, count), (0x0A080 + h, get HANK_H_BOUNDARY_STAMP h d)]

/-! The boundary (R261). -/

/-- The measure picks of a hank. -/
def measPicks (r : Rec) : List Nat := ((List.range 4).map fun i => r.uAt (8 + 2 * i) 2).filter (· < 1024)

/-- TIME_PICK and the measure picks disarmed. -/
def disarmEnds (h : Nat) (r : Rec) (d : Dev) : Dev :=
  put HANK_H_END_AT_STAMP h 0 (forL (r.u P0A01_TIME_PICK :: measPicks r) disarmPick d)

/-- The picks that a step's end needs are armed at boundary stamp `t`. -/
def armEnds (h : Nat) (r s : Rec) (t : Nat) (d : Dev) : Dev :=
  let tp := r.u P0A01_TIME_PICK
  let at_ := (measRaw (pickMeas tp d) t d).toNat + s.u PSTEP_DURATION * us16
  d |> disarmEnds h r
    |> onlyIf (decide (s.u PSTEP_END_KIND ≠ 3 ∧ s.u PSTEP_DURATION ≠ 0))
        (fun d => put HANK_H_END_AT_STAMP h at_ (retargetPick tp at_ true d))
    |> onlyIf (s.u PSTEP_END_KIND == 2)
        (retargetPick (r.uAt (8 + 2 * s.u PSTEP_MEAS_SLOT) 2) (s.u PSTEP_MEAS_TARGET) true)

/-- A step's output bits and their pins (R256, R259). -/
def stepOutputs (h : Nat) (r : Rec) (mask value : Nat) (d : Dev) : Dev :=
  let bs := (List.range (r.u P0A01_OUTPUTS)).filter (bit mask ·)
  let pin (b : Nat) (d : Dev) : Dev :=
    let p := r.uAt (32 + b) 1
    if p = 0xFF then d else gpioDrive p (bit value b) d
  forL bs pin (putStrands (bs.map fun b => (0x0A100 + 64 * h + b, b2n (bit value b))) d)

/-- The next SEQ of a hank's commands to an axis: 1 to 65535, skipping 0 (R259). -/
def nextHankSeq (a : Nat) (d : Dev) : Nat := d.hankSeq.get 0 a % 65535 + 1

/-- The axis command of a step written to its axis's hank mailbox (R259, R274). -/
def stepCommand (bs : List Nat) (d : Dev) : Dev :=
  let a := leVal ((bs.drop 6).take 2)
  let q := nextHankSeq a d
  postAxis a true { mcmdOf bs with seq := q } { d with hankSeq := d.hankSeq.put a q }

/-- Every assignment of a step takes effect (R259). -/
def stepAssign (h : Nat) (r s : Rec) (d : Dev) : Dev :=
  let p := s.u PSTEP_N_PLY
  let v := s.u PSTEP_N_VAR
  d |> forL (List.range p) (fun i => plySet (s.u PSTEP_PLY i) (s.s PSTEP_TARGET i) (s.u PSTEP_V_MAX i) (s.u PSTEP_A_MAX i) (s.u PSTEP_J_MAX i))
    |> stepOutputs h r (s.u PSTEP_OUT_MASK) (s.u PSTEP_OUT_VALUE)
    |> forL (List.range v) (fun j d => hvarPost (s.uAt (56 + 32 * p + 16 * j) 4) (s.uAt (64 + 32 * p + 16 * j) 8) (edge d) d)
    |> forL (List.range (s.u PSTEP_N_AXIS)) (fun k => stepCommand (s.bytes (56 + 32 * p + 16 * v + 32 * k) 32))

/-- A boundary into step `n` (R261): NEXT and BRANCH are discarded, HOLD is kept. -/
def boundary (h n t : Nat) (d : Dev) : Dev :=
  match hankRec h d, hankRecipe h d with
  | some r, some q =>
    let s := stepOf q n
    d |> stepAssign h r s |> armEnds h r s t
      |> hankMod h (fun x => { x with next := none, branch := none, before := (none, none, x.hold), step := some n, deferred := 0 })
      |> put HANK_H_BOUNDARY_STAMP h t |> bump HANK_H_COUNT_BOUNDARIES h
  | _, _ => d

/-! Decisions (R267). -/

/-- A sequencer decision: what a standby needs of it (R270). Kinds: 1 boundary into RUNNING, 2 boundary into HOLDING, 3 HOLD
committed for an ABORT, 4 recipe completed, 5 recipe aborted without a boundary, 6 SELECT, 7 START, 8 RESUME, 9 hold request in
HOLDING. -/
structure HankDec where
  kind : Nat := 0
  step : Nat := 0
  cause : Nat := 0
  recipe : Nat := 0
  tag : Nat := 0
  /-- The loop counter that changes: step and count; step 0xFFFF for none. -/
  loopStep : Nat := 0xFFFF
  loopCount : Nat := 0
  /-- The hold was asked for, so that it counts in HOLDS. -/
  asked : Bool := false
  deriving DecidableEq, Repr

/-- A decision's item body (log entry 32). -/
def HankDec.bytes (k : HankDec) : List Nat :=
  [k.kind, k.recipe] ++ leBytes 2 k.step ++ leBytes 2 k.cause ++ leBytes 2 k.loopStep ++ leBytes 2 k.loopCount ++
    leBytes 2 (b2n k.asked) ++ leBytes 4 k.tag

/-- A decision from its item body. -/
def HankDec.ofBytes (bs : List Nat) : HankDec :=
  let u (o n : Nat) : Nat := leVal ((bs.drop o).take n)
  { kind := u 0 1, recipe := u 1 1, step := u 2 2, cause := u 4 2, loopStep := u 6 2, loopCount := u 8 2,
    asked := u 10 2 == 1, tag := u 12 4 }

/-- The hank is IDLE: staged sets, end picks, counters and requests of a hold are gone; its outputs and targets stay. -/
def hankIdle (h : Nat) (aborted : Bool) (d : Dev) : Dev :=
  let x := hankX h d
  let d := match hankRec h d with
    | some r => disarmEnds h r d
    | none => d
  { d with holdReq := d.holdReq.del h, holdAt := d.holdAt.del h }
    |> hankMod h (fun x => { x with next := none, branch := none, hold := none, loops := [], need := 0, deferred := 0,
                                    recipe := none, step := none, newVer := false })
    |> put HANK_H_STATE_STATE h 0 |> put HANK_H_STATE_RESUME_PENDING h 0 |> put HANK_H_STATE_OLD_VERSION h 0
    |> bumpSat (if aborted then HANK_H_RUNS_ABORTED else HANK_H_RUNS_COMPLETED) h
    |> (fun d => raise 0x0A07 h d (x.recipe.getD 0) ((get HANK_H_TAG_TAG h d + b2n aborted * 2 ^ 32 : Nat) : Int))

/-- The hold step is entered. -/
def markHeld (h cause : Nat) (asked : Bool) (d : Dev) : Dev :=
  d |> put HANK_H_FLAGS_HELD h 1 |> put HANK_H_HOLD_CAUSE h cause |> onlyIf asked (bumpSat HANK_H_HOLD_HOLDS h)

/-- What is staged next, from this edge on. -/
def hankNeed (h need : Nat) (d : Dev) : Dev := hankMod h (fun x => { x with need := need, needEdge := edge d }) d

/-- The effect of a decision with boundary stamp `t` (R258, R261, R267). -/
def hankApply (h : Nat) (k : HankDec) (t : Nat) (d : Dev) : Dev :=
  let x := hankX h d
  let loops (d : Dev) : Dev :=
    if k.loopStep = 0xFFFF then d else hankMod h (fun x => { x with loops := x.loops.set 0 k.loopStep k.loopCount }) d
  match k.kind with
  | 1 =>
    let starts := hankState h d == 1
    let seq := match hankImg h d with
      | some m => hdrU m.hdr PHDR_SEQUENCE
      | none => 0
    d |> loops |> boundary h k.step t |> put HANK_H_STATE_STATE h 2 |> put HANK_H_STATE_RESUME_PENDING h 0
      |> hankNeed h 3 |> hankShow h
      |> onlyIf starts (fun d => raiseWith 0x0A06 h
          (x.recipe.getD 0 + seq * 2 ^ 8 + get HANK_H_TAG_TAG h d * 2 ^ 40) d)
  | 2 =>
    d |> loops |> hankMod h (fun y => { y with running := x.step.getD 0 }) |> boundary h k.step t |> put HANK_H_STATE_STATE h 3
      |> hankNeed h 0 |> markHeld h k.cause k.asked |> hankShow h |> (fun d => raise 0x0A08 h d 0 k.cause)
  | 3 => d |> boundary h k.step t |> markHeld h 0 false |> hankIdle h true |> hankShow h
  | 4 => d |> loops |> hankIdle h false |> hankShow h
  | 5 => d |> onlyIf k.asked (bumpSat HANK_H_HOLD_HOLDS h) |> hankIdle h true |> hankShow h
  | 6 => d |> put HANK_H_SELECT_SELECTED h k.recipe |> put HANK_H_SELECT_VALID h 1
  | 7 =>
    hankMod h (fun x => { x with next := none, branch := none, hold := none, loops := [], aim := k.step, recipe := some k.recipe,
                                 step := none, newVer := startsNew t d }) d
      |> put HANK_H_TAG_TAG h k.tag |> put HANK_H_STATE_STATE h 1 |> hankNeed h 5 |> hankShow h
  | 8 => d |> hankMod h (fun x => { x with next := none, aim := k.step }) |> put HANK_H_STATE_RESUME_PENDING h 1 |> hankNeed h 1 |> hankShow h
  | 9 => bumpSat HANK_H_HOLD_HOLDS h d
  | _ => d

/-- A decision of the active unit: mirrored, and carried out; on a beat the sequencer is made ready (R261). -/
def hankDo (h : Nat) (k : HankDec) (t : Nat) (wakes : Bool) (d : Dev) : Dev :=
  let th := (hankRec h d).map (·.u P0A01_THREAD)
  let d := hankMod h (fun x => { x with lastEdge := edge d + 1 }) (hankApply h k t (mirror 8 h t k.bytes d))
  match th with
  | some n => if wakes then wake n d else d
  | none => d

/-! Requests (R265, R266). -/

/-- The request of a mailbox that this edge may take. -/
def boxAt (host : Bool) (h : Nat) (d : Dev) : Option HankReq :=
  match (if host then (hankX h d).boxH else (hankX h d).boxS) with
  | some (e, q) => if e ≤ edge d then some q else none
  | none => none

/-- A request leaves its mailbox with a result. -/
def takeReq (host : Bool) (h : Nat) (q : HankReq) (result : Nat) (d : Dev) : Dev :=
  d |> hankMod h (fun x => if host then { x with boxH := none } else { x with boxS := none })
    |> put HANK_H_REQ_SEQ h q.seq |> put HANK_H_REQ_RESULT h result |> putB HANK_H_REQ_SOURCE h host
    |> put HANK_H_REQ_CAUSE h (if result = 3 then 4 else 0)

/-- A refused request (0x0A04). -/
def refuseReq (host : Bool) (h : Nat) (q : HankReq) (d : Dev) : Dev :=
  d |> takeReq host h q 3 |> put HANK_H_FLAGS_REFUSED h 1 |> (fun d => raise 0x0A04 h d)

/-- The step may be entered by START or RESUME. -/
def stepAllowed (q : Rec) (n : Nat) : Bool := decide (n < q.u P0A02_STEPS) && n != q.u P0A02_HOLD_STEP

/-- The recipe that a START names. -/
def startRecipe (h t : Nat) (q : HankReq) (d : Dev) : Option (Nat × Rec) :=
  let n := if q.recipe = 0xFFFF then (if flag HANK_H_SELECT_VALID h d then some (get HANK_H_SELECT_SELECTED h d) else none)
    else some q.recipe
  n.bind fun n => (recipeIn (if startsNew t d then d.next else d.img) h n).map fun r => (n, r)

/-- The decision that a request leads to in the hank's state (item 5 of R262); none when it is refused. -/
def reqDecision (h t : Nat) (q : HankReq) (d : Dev) : Option HankDec :=
  let st := hankState h d
  match q.code with
  | 1 => if st = 0 ∧ q.recipe ≤ 255 then some { kind := 6, recipe := q.recipe } else none
  | 2 =>
    match startRecipe h t q d with
    | some (n, r) => if st = 0 ∧ stepAllowed r q.step = true then some { kind := 7, recipe := n, step := q.step, tag := q.tag } else none
    | none => none
  | 5 =>
    let n := if q.step = 0xFFFF then (hankX h d).running else q.step
    match hankRecipe h d with
    | some r => if st = 3 ∧ (q.step = 0xFFFF ∨ stepAllowed r n = true) then some { kind := 8, step := n } else none
    | none => none
  | _ => none

/-- A mailbox judged at item 5: refused, or taken and acted on. The answer says whether it acted. -/
def judgeReq (host : Bool) (h t : Nat) (d : Dev) : Bool × Dev :=
  match boxAt host h d with
  | none => (false, d)
  | some q =>
    match reqDecision h t q d with
    | none => (false, refuseReq host h q d)
    | some k => (true, hankDo h k t (k.kind != 6) (takeReq host h q 1 d))

/-! Firings of the STEP picks (R262). -/

/-- A hank-level fault of the hank is active (R269). -/
def hankFaulted (h : Nat) (d : Dev) : Bool := d.active.any (keepsHeld h d)

/-- The sets as the STEP picks of this edge read them: staging on the same edge comes after (R17, R260). -/
def stagedNow (h : Nat) (d : Dev) : Option StagedSet × Option StagedSet × Option StagedSet :=
  let x := hankX h d
  if x.stagedEdge = edge d + 1 then x.before else (x.next, x.branch, x.hold)

/-- The hank's STEP picks that fire on this edge, `pick` among them (R262). -/
def stepPicks (r : Rec) (pick : Nat) (d : Dev) : List Nat :=
  (r.u P0A01_TIME_PICK :: r.u P0A01_BEAT_PICK :: measPicks r).filter fun p =>
    p == pick || (d.pick.get {} p).owed == edge d + 1 || pickDue p d

/-- A strand as a beat reads it (R257, R15). -/
def strandOn (id : Nat) (d : Dev) : Bool := id != 0 && strandBefore id d != 0

/-- The step's fault-branch end and normal end at a firing (R257). -/
def stepEnds (r s : Rec) (picks : List Nat) (beat : Bool) (d : Dev) : Bool × Bool :=
  let kind := s.u PSTEP_END_KIND
  let time := picks.contains (r.u P0A01_TIME_PICK)
  if kind = 3 then (false, false)
  else
    ((beat && strandOn (s.u PSTEP_FAULT_STRAND) d) || (kind != 0 && time),
     (kind == 0 && time) || (kind == 1 && beat && strandOn (s.u PSTEP_COND_STRAND) d) ||
      (kind == 2 && picks.contains (r.uAt (8 + 2 * s.u PSTEP_MEAS_SLOT) 2)))

/-- HOLD is committed in place of a set that is not staged (R264). -/
def lateStage (h hold t : Nat) (beat : Bool) (d : Dev) : Dev :=
  d |> put HANK_H_FLAGS_LATE_STAGE h 1 |> (fun d => raise 0x0A01 h d)
    |> hankDo h { kind := 2, step := hold, cause := 0x0A01, asked := true } t beat

/-- A staged set commits. -/
def commitSet (h hold t cause : Nat) (beat : Bool) (g : StagedSet) (d : Dev) : Dev :=
  let l := g.loop.getD (0xFFFF, 0)
  if g.ends then hankDo h { kind := 4, loopStep := l.1, loopCount := l.2 } t false d
  else
    let into := g.step == hold
    hankDo h { kind := if into then 2 else 1, step := g.step, cause := if into then cause else 0,
               loopStep := l.1, loopCount := l.2, asked := cause == 0x0A02 } t beat d

/-- A fault-branch end acts (R257, R264). -/
def branchEnd (h hold t : Nat) (s : Rec) (beat : Bool) (d : Dev) : Dev :=
  let code := if s.u PSTEP_FAULT_NEXT = 0xFFFF then 0x0A02 else 0x0A03
  let g := (stagedNow h d).2.1
  let d := raise code h (put HANK_H_FLAGS_BRANCHED h 1 d)
  match g with
  | some g => commitSet h hold t code beat g d
  | none => lateStage h hold t beat d

/-- A normal end acts (R258, R264). -/
def normalEnd (h hold t : Nat) (beat : Bool) (d : Dev) : Dev :=
  match (stagedNow h d).1 with
  | some g => commitSet h hold t 0 beat g d
  | none => lateStage h hold t beat d

/-- Items 3 and 4 of R262, with R263. The answer says whether an end acted. -/
def endsAct (h : Nat) (picks : List Nat) (t : Nat) (r q : Rec) (beat : Bool) (d : Dev) : Bool × Dev :=
  let x := hankX h d
  let s := stepOf q (x.step.getD 0)
  let hold := q.u P0A02_HOLD_STEP
  let e := stepEnds r s picks beat d
  let ripe := decide (get HANK_H_BOUNDARY_STAMP h d + 100 * us16 ≤ t)
  let br := e.1 || (beat && ripe && x.deferred == 2)
  let no := e.2 || (beat && ripe && x.deferred == 1)
  if ¬ br ∧ ¬ no then (false, d)
  else if !ripe && !(s.u PSTEP_END_KIND == 0 && !br) then
    (false, put HANK_H_FLAGS_DEFER h 1 (hankMod h (fun x => { x with deferred := max x.deferred (if br then 2 else 1) }) d))
  else if br then (true, branchEnd h hold t s beat d)
  else (true, normalEnd h hold t beat d)

/-- Item 1 of R262: the cause of a hold request that counts at this beat, none without one. -/
def holdPending (h : Nat) (d : Dev) : Option Nat :=
  let c := d.holdReq.get 0 h
  if c ≠ 0 ∧ d.holdAt.get 0 h < edge d then some c
  else match boxAt false h d with
    | some q => if q.code = 4 then some 0 else none
    | none => none

/-- A hold request acts (R267). -/
def holdActs (h cause t : Nat) (q : Option Rec) (d : Dev) : Dev :=
  let d := match boxAt false h d with
    | some b => if b.code = 4 then takeReq false h b 1 d else d
    | none => d
  let d := if cause = 0 then d else { d with holdReq := d.holdReq.del h, holdAt := d.holdAt.del h }
  match hankState h d, q with
  | 2, some q => hankDo h { kind := 2, step := q.u P0A02_HOLD_STEP, cause := cause, asked := true } t true d
  | 3, _ => hankDo h { kind := 9 } t false d
  | _, _ => hankDo h { kind := 5, asked := true } t false d

/-- The mailbox whose ABORT is judged (item 2): the Shuttle's first. -/
def abortBox (h : Nat) (d : Dev) : Option (Bool × HankReq) :=
  let one (host : Bool) : Option (Bool × HankReq) := ((boxAt host h d).filter fun q => q.code == 3).map fun q => (host, q)
  (one false).or (one true)

/-- ABORT acts (R267). -/
def abortActs (h t : Nat) (b : Bool × HankReq) (q : Option Rec) (d : Dev) : Dev :=
  let d := takeReq b.1 h b.2 1 d
  match hankState h d, q with
  | 2, some q => hankDo h { kind := 3, step := q.u P0A02_HOLD_STEP } t true d
  | _, _ => hankDo h { kind := 5 } t false d

/-- Item 5 at a beat: the beats that lead to RUNNING, then the requests, the Shuttle's first. -/
def requestsAct (h t : Nat) (d : Dev) : Dev :=
  let x := stagedNow h d
  let ready := (hankState h d == 1 && x.2.2.isSome) || (flag HANK_H_STATE_RESUME_PENDING h d && !hankFaulted h d)
  match (if ready then x.1 else none) with
  | some g => hankDo h { kind := 1, step := g.step } t true d
  | none =>
    let (acted, d) := judgeReq false h t d
    if acted then d else (judgeReq true h t d).2

/-- ACTION STEP (R262) of hank `h` at a firing of `pick` with stamp `t`. The firing is judged with those of the hank's other picks on the edge,
and the hank acts once on an edge; a standby takes no boundary, and notes its beat (R270). -/
def hankStep (h pick t : Nat) (d : Dev) : Dev :=
  match hankRec h d with
  | none => d
  | some r =>
    if !isActive d || (hankX h d).lastEdge == edge d + 1 then d
    else
      let picks := stepPicks r pick d
      let beat := picks.contains (r.u P0A01_BEAT_PICK)
      let q := hankRecipe h d
      let busy := hankState h d != 0
      match (if beat && busy then holdPending h d else none), (if beat && busy then abortBox h d else none) with
      | some cause, _ => holdActs h cause t q d
      | none, some b => abortActs h t b q d
      | none, none =>
        let (acted, d) := match hankState h d, q with
          | 2, some q => endsAct h picks t r q beat d
          | _, _ => (false, d)
        if acted || !beat then d else requestsAct h t d

/-- A standby notes a beat of its own (R270). -/
def beatNote (h pick t : Nat) (d : Dev) : Dev :=
  match hankRec h d with
  | none => d
  | some r => if pick = r.u P0A01_BEAT_PICK then hankMod h (fun x => { x with beats := (t :: x.beats).take 64 }) d else d

/-! Staging (R260). -/

/-- The set that a normal end of the running step needs (R258). -/
def nextSet (x : HankX) (q : Rec) (n : Nat) : StagedSet :=
  let s := stepOf q n
  let c := x.loops.get 0 n
  let go (m : Nat) (l : Option (Nat × Nat)) : StagedSet := if m = 0xFFFF then { ends := true, loop := l } else { step := m, loop := l }
  if s.u PSTEP_LOOP_TO = 0xFFFF then go (s.u PSTEP_NEXT) none
  else if c < s.u PSTEP_LOOP_COUNT then go (s.u PSTEP_LOOP_TO) (some (n, c + 1))
  else go (s.u PSTEP_NEXT) (some (n, 0))

/-- The version of the recipe that a hank runs: its image's SEQUENCE (R20). -/
def hankVersion (h : Nat) (d : Dev) : Nat := ((hankImg h d).map fun m => hdrU m.hdr PHDR_SEQUENCE).getD 0

/-- A staged set as bytes of an item (log entry 32): the set, its step and loop counter, and the recipe and its version (R20). -/
def setBytes (k recipe version : Nat) (g : StagedSet) : List Nat :=
  let l := g.loop.getD (0xFFFF, 0)
  [k, b2n g.ends] ++ leBytes 2 g.step ++ leBytes 2 l.1 ++ leBytes 2 l.2 ++ leBytes 4 recipe ++ leBytes 4 version

/-- A staged set from its bytes. -/
def setOf (bs : List Nat) : StagedSet :=
  let u (o n : Nat) : Nat := leVal ((bs.drop o).take n)
  { step := u 2 2, ends := u 1 1 == 1, loop := if u 4 2 = 0xFFFF then none else some (u 4 2, u 6 2) }

/-- Set `k` (0 NEXT, 1 BRANCH, 2 HOLD) is STAGED. -/
def stageSet (h k : Nat) (g : StagedSet) (d : Dev) : Dev :=
  let e := edge d + 1
  hankShow h (hankMod h (fun x =>
    let x : HankX := if x.stagedEdge = e then x else { x with stagedEdge := e, before := (x.next, x.branch, x.hold) }
    match k with
    | 0 => { x with next := some g }
    | 1 => { x with branch := some g }
    | _ => { x with hold := some g }) d)

/-- A sequencer's activation that began on edge `began` commits: the sets that the hank needs become STAGED (R260). Staging that a
boundary has overtaken is dropped (log entry 33). -/
def stageHank (h began : Nat) (d : Dev) : Dev :=
  let x := hankX h d
  match hankRecipe h d with
  | none => d
  | some q =>
    if x.need = 0 ∨ began < x.needEdge then d
    else
      let n := x.step.getD 0
      let s := stepOf q n
      let st := hankState h d
      let next : StagedSet := if st = 2 then nextSet x q n else { step := x.aim }
      let branch : StagedSet := { step := if s.u PSTEP_FAULT_NEXT = 0xFFFF then q.u P0A02_HOLD_STEP else s.u PSTEP_FAULT_NEXT }
      let sets : List (Nat × StagedSet) := [(0, next), (1, branch), (2, { step := q.u P0A02_HOLD_STEP })]
      let sets := sets.filter fun p => bit x.need p.1
      let d := mirror 9 h (now d) (sets.flatMap fun p => setBytes p.1 (x.recipe.getD 0) (hankVersion h d) p.2) (hankMod h (fun x => { x with need := 0 }) d)
      forL sets (fun p => stageSet h p.1 p.2) d

/-! The image and RUN. -/

/-- The hanks that the image defines (R276). -/
def hankImage (d : Dev) : Dev :=
  let hs := (recsOf 0x0A01 d).map (·.u P0A01_HANK)
  put HANK_STATUS_HANKS 0 (hs.foldl (fun m h => setBit m h true) 0) { d with hanks := [], holdReq := [], holdAt := [], lostNamed := [] }

/-- RUN: every hank is IDLE with its outputs at OUT_INIT (R256, R267). -/
def hankRun (d : Dev) : Dev :=
  forL (recsOf 0x0A01 d) (fun r d =>
    let h := r.u P0A01_HANK
    hankShow h (stepOutputs h r (2 ^ 64 - 1) (r.u P0A01_OUT_INIT) d)) d

end Sys2Proof.Machine
end

