-- ==== Sys2Proof/Machine/EthOut.lean ====
section
/-! DEFINITION. The egress queues of the switch (R312) and the bytes of frames. -/

namespace Sys2Proof.Machine

/-- A frame joins an egress queue of a port, or finds it full (R312). -/
def ethQueue (p : Nat) (t : EthTx) (d : Dev) : Dev :=
  let l := d.eth.queues.get [] p
  if Config.ethQueueDepth p ≤ (l.filter fun x => x.q == t.q).length then bumpSat ETH_PORT_DROP_QUEUE_FULL p d
  else
    let d : Dev := { d with eth := { d.eth with queues := d.eth.queues.put p (l ++ [t]) } }
    if t.stream = 0 then d else bump ETH_STREAM_STATUS_QUEUED (t.stream - 1) d

/-- The network record. -/
def netRec (d : Dev) : Option Rec := recOf 0x0C01 d

/-- The unit's MAC address: the record's, or that of R314. -/
def ownMac (d : Dev) : Nat :=
  match netRec d with
  | some r => r.u P0C01_MAC
  | none => 0x026A14 * 2 ^ 24 + rd ID_UNIQUE 0 d % 2 ^ 24

/-- The unit's IPv4 address: the record's, or that of R314. -/
def ownIp (d : Dev) : Nat :=
  match netRec d with
  | some r => r.u P0C01_IPV4
  | none =>
    let u := rd ID_UNIQUE 0 d
    let b := u % 256
    169 * 2 ^ 24 + 254 * 2 ^ 16 + (1 + u / 256 % 256 % 254) * 256 + (if b = 0 then 1 else if b = 255 then 254 else b)

/-- A port is enabled. -/
def portOn (p : Nat) (d : Dev) : Bool := decide (p < 3) && bit (get ETH_STATUS_PORT_EN 0 d) p

/-- The largest frame of a port (R314, R331). -/
def maxFrame (p : Nat) (d : Dev) : Nat :=
  match netRec d with
  | some r => r.uAt (20 + 2 * p) 2
  | none => 1518

/-- The bytes of a frame without its check sequence. -/
def frameBytes (f : EthFrame) : List Nat :=
  beBytes 6 f.dst ++ beBytes 6 f.src ++ (if f.tag = 0 then [] else [0x81, 0x00] ++ beBytes 2 (f.tag - 1)) ++ beBytes 2 f.etherType ++ f.bytes

/-- The ones' complement sum of 16-bit words in network order. -/
def sum16 : List Nat → Nat
  | [] => 0
  | [a] => a * 256
  | a :: b :: t => let s := a * 256 + b + sum16 t; if 65535 < s then s - 65535 else s

/-- The complement of a checksum. -/
def check16 (bs : List Nat) : Nat := 65535 - sum16 bs % 65536

/-- An IPv4 datagram that is not a fragment. -/
def ipv4 (src dst proto ttl : Nat) (payload : List Nat) : List Nat :=
  let head (c : Nat) := [0x45, 0] ++ beBytes 2 (20 + payload.length) ++ zeros 4 ++ [ttl, proto] ++ beBytes 2 c ++ beBytes 4 src ++ beBytes 4 dst
  head (check16 (head 0)) ++ payload

/-- The checksum of a UDP datagram. -/
def udpSum (src dst : Nat) (udp : List Nat) : Nat :=
  let c := check16 (beBytes 4 src ++ beBytes 4 dst ++ [0, 17] ++ beBytes 2 udp.length ++ udp)
  if c = 0 then 65535 else c

/-- A UDP datagram in IPv4. -/
def udp4 (src dst port ttl : Nat) (payload : List Nat) : List Nat :=
  let u (c : Nat) := beBytes 2 port ++ beBytes 2 port ++ beBytes 2 (8 + payload.length) ++ beBytes 2 c ++ payload
  ipv4 src dst 17 ttl (u (udpSum src dst (u 0)))

end Sys2Proof.Machine
end

