-- ==== Sys2Proof/Machine/Nand.lean ====
section
/-! DEFINITION. The store's operations on the NAND array (R369, R373 to R381): slots by class, the choice of the next operation on a die,
the placement of pages, and the HIST pages' programs. -/

namespace Sys2Proof.Machine

/-- The array record. -/
def arrRec (d : Dev) : Option Rec := recOf 0x0F01 d

/-- The store changed. -/
def storeMod (f : StoreX → StoreX) (d : Dev) : Dev := { d with store := f d.store }

/-- A block by die × 65536 + block. -/
def blkX (k : Nat) (d : Dev) : BlkX := d.store.blocks.get {} k

/-- A block changed. -/
def blkMod (k : Nat) (f : BlkX → BlkX) (d : Dev) : Dev :=
  storeMod (fun x => { x with blocks := Tab.set {} k (f (x.blocks.get {} k)) x.blocks }) d

/-- A die. -/
def dieX (n : Nat) (d : Dev) : DieX := d.store.dies.get {} n

/-- A die changed. -/
def dieMod (n : Nat) (f : DieX → DieX) (d : Dev) : Dev := storeMod (fun x => { x with dies := x.dies.put n (f (x.dies.get {} n)) }) d

/-- The dies in service, in ascending order. -/
def inService (d : Dev) : List Nat := (List.range 32).filter fun n => get STORE_DIE_STATUS_ROLE n d == 1

/-- ERASE_MAX (R375). -/
def eraseMax (d : Dev) : Nat := ((inService d).length + 15) / 16

/-- The dies that are erasing. -/
def erasers (d : Dev) : Nat := ((List.range 32).filter fun n => (dieX n d).cur.elim false fun o => o.kind == 2).length

/-- Slots in use shown (R387). -/
def showOps (d : Dev) : Dev :=
  let n := d.store.ops.length
  d |> put STORE_OPS_IN_FLIGHT 0 (min n 256) |> maxUp STORE_OPS_MAX 0 (min n 256)

/-- A class may take a slot now (R380): every slot but FLUSH's may be borrowed. -/
def slotFree (cls : Nat) (d : Dev) : Bool :=
  let other := (d.store.ops.filter fun o => o.cls != 0).length
  if cls = 0 then decide (d.store.ops.length < 256) else decide (other < 192) && decide (d.store.ops.length < 256)

/-- An operation may begin on its die: an erase waits for ERASE_MAX and for every read queued against its block (R373, R375). -/
def mayBegin (o : StoreOp) (d : Dev) : Bool :=
  o.kind != 2 || (decide (erasers d < eraseMax d) &&
    !d.store.ops.any fun q => q.kind == 0 && q.die == o.die && q.block == o.block)

/-- The next operation of a die: lowest class, then oldest (R380). -/
def nextOp (n : Nat) (d : Dev) : Option StoreOp :=
  (d.store.ops.filter fun o => o.die == n && mayBegin o d).foldl (fun b o => match b with
    | none => some o
    | some p => if o.cls < p.cls ∨ (o.cls = p.cls ∧ o.edge < p.edge) then some o else b) none

/-! Sectors and labels (R370). -/

/-- The 64 metadata bytes of a page: its label, with CRC-32C over bytes 0 to 59 in network byte order. -/
def labelBytes (p : PageLabel) : List Nat :=
  let head := [p.skein % 256, p.flags % 256, 0, 0] ++ leBytes 4 p.blockSeq ++ leBytes 8 p.logical ++ leBytes 8 p.stamp ++ leBytes 4 p.cycle ++ zeros 32
  head ++ beBytes 4 (crc32c head)

/-- Sector `i` of a page: 2048 data bytes, 8 metadata bytes, and the 180 parity bytes of the BCH codeword, whose generator the spec does
not give. -/
def sectorBytes (p : PageLabel) (data : List Nat) (i : Nat) : List Nat :=
  let word := (List.range 2048).map (fun k => data.getD (2048 * i + k) 0) ++ ((labelBytes p).drop (8 * i)).take 8
  word ++ (List.range 180).map fun k => Config.bchParity word k % 256

/-- The 17 888 bytes of a page. -/
def pageImage (p : PageLabel) (data : List Nat) : List Nat := (List.range 8).flatMap (sectorBytes p data)

/-- An operation without label and data. -/
def plainOp (cls kind die block page skein edge goal arg : Nat) : StoreOp :=
  { cls := cls, kind := kind, die := die, block := block, page := page, skein := skein, edge := edge, goal := goal, arg := arg }

/-- The command codes of an operation (R369), with block and page, and a program's page; a flush programs by CACHE PROGRAM (R383). -/
def opBytes (o : StoreOp) : List Nat :=
  (match o.kind with
   | 0 => [0x00, 0x30]
   | 1 => [0x80, if o.goal = 3 then 0x15 else 0x10]
   | 2 => [0x60, 0xD0]
   | _ => [0xEF, 0xEE]) ++ leBytes 4 o.block ++ leBytes 4 o.page ++ (if o.kind = 1 then pageImage o.label o.data else [])

/-- An idle die begins its next operation. -/
def dieNext (n : Nat) (d : Dev) : Dev :=
  if (dieX n d).cur.isSome || (dieX n d).resetting then d
  else match nextOp n d with
    | none => d
    | some o => d |> dieMod n (fun x => { x with cur := some o, began := edge d, slow := false }) |> putB STORE_DIE_STATUS_ERASING n (o.kind == 2)
        |> send .nand n (opBytes o)

/-- Every idle die begins its next operation. -/
def diesNext (d : Dev) : Dev := forL (List.range 32) dieNext d

/-- Waiting requests take the slots that have become free, oldest first. -/
def admitOps : Nat → Dev → Dev
  | 0, d => d
  | fuel + 1, d =>
    match d.store.waitq.find? fun o => slotFree o.cls d with
    | none => d
    | some o => admitOps fuel (storeMod (fun x => { x with waitq := x.waitq.erase o, ops := x.ops ++ [o] }) d)

/-- An operation is asked for (R380): it takes a slot, or waits in Koresque's queue. -/
def storeAsk (o : StoreOp) (d : Dev) : Dev :=
  if slotFree o.cls d then dieNext o.die (showOps (storeMod (fun x => { x with ops := x.ops ++ [o] }) d))
  else stick STORE_FLAGS_QUEUE_FULL 0 0x0F0A 0xFFFF (storeMod (fun x => { x with waitq := x.waitq ++ [o] }) d)

/-- The operation of a die ends: its slot is free, and three slow operations in a row are counted anew (R379). -/
def opEnds (n : Nat) (d : Dev) : Dev :=
  let x := dieX n d
  match x.cur with
  | none => d
  | some o =>
    d |> dieMod n (fun x => { x with cur := none, strikes := if x.slow then x.strikes else 0, slow := false })
      |> put STORE_DIE_STATUS_ERASING n 0
      |> storeMod (fun x => { x with ops := x.ops.erase o })
      |> (fun d => admitOps d.store.waitq.length d) |> showOps |> diesNext

/-! Placement (R375, R378). -/

/-- Blocks of a die that are not erased. -/
def usedBlocks (n : Nat) (d : Dev) : Nat := (d.store.blocks.filter fun p => p.1 / 65536 == n && p.2.st != 0).length

/-- The good blocks of a die. -/
def goodBlocks (n : Nat) (d : Dev) : Nat := d.store.nBlocks - (dieX n d).factory - (dieX n d).grown

/-- The reserve of a die at its format: 7 % of its good blocks, rounded up, less the blocks retired since (R378). -/
def freeReserve (n : Nat) (d : Dev) : Nat :=
  ((d.store.nBlocks - (dieX n d).factory) * 7 + 99) / 100 - (dieX n d).grown

/-- The blocks of a die in a state whose erase count is the one that `sel` takes of all of theirs. -/
def blocksBy (sel : List Nat → Option Nat) (st n : Nat) (d : Dev) : List Nat :=
  let l := (List.range d.store.nBlocks).filter fun k => (blkX (n * 65536 + k) d).st == st
  let count := fun k => (blkX (n * 65536 + k) d).erases
  match sel (l.map count) with
  | none => []
  | some m => l.filter fun k => count k == m

/-- The erased block with the lowest erase count of a die (R375); which of several the spec does not say. -/
def freshBlock (n : Nat) (d : Dev) : Option Nat × Dev := oneOf (blocksBy List.min? 0 n d) d

/-- The block from which a skein takes its next page on a die: its open one, or a fresh one. -/
def pageBlock (skein n : Nat) (d : Dev) : Option Nat × Dev :=
  match d.store.blocks.find? fun p => p.1 / 65536 == n && p.2.st == 1 && p.2.skein == skein with
  | some p => (some (p.1 % 65536), d)
  | none => freshBlock n d

/-- The next page for a skein on a die: block, page, and the block's allocation number (R370). -/
def placePage (skein n : Nat) (d : Dev) : Option (Nat × Nat × Nat) × Dev :=
  match pageBlock skein n d with
  | (none, d) => (none, d)
  | (some k, d) =>
    let key := n * 65536 + k
    let u := (blkX key d).used
    let new := (blkX key d).st == 0
    let seq := if new then d.store.allocs.get 0 skein else (blkX key d).seq
    let d := if new then storeMod (fun x => { x with allocs := x.allocs.put skein (seq + 1) }) d else d
    (some (k, u, seq), blkMod key (fun x => { x with
      st := if d.store.nPages ≤ u + 1 then 2 else 1, skein := skein, used := u + 1, seq := seq
      born := if new then opMs d else x.born }) d)

/-- A place as one number: die, block, page. -/
def placeOf (die block page : Nat) : Nat := die * 4294967296 + block * 65536 + page

/-- The oldest block of the HIST ring on a die is reclaimed (R373): the tail moves past its last page, and its erase is queued. -/
def reclaim (n : Nat) (d : Dev) : Dev :=
  match d.store.histAt.find? fun l => l / 4294967296 == n with
  | none => d
  | some l =>
    let blk := l / 65536
    let k := (d.store.histAt.zipIdx.filter fun p => p.1 / 65536 == blk).foldl (fun _ p => p.2 + 1) 0
    let d : Dev := { d with recd := { d.recd with hist := d.recd.hist.drop k }, store := { d.store with histAt := d.store.histAt.drop k } }
    d |> blkMod blk (fun x => { x with st := 4 })
      |> put STORE_SK_TAIL_BYTES 0 (get STORE_SK_TAIL_BYTES 0 d + 16384 * k)
      |> storeAsk (plainOp 5 2 n (blk % 65536) 0 1 (edge d) 0 0)

/-- Bytes that a requester writes (R385), by second of OP_MS. -/
def noteWrite (n : Nat) (d : Dev) : Dev :=
  let t := opMs d / 1000
  storeMod (fun x => { x with askBytes := x.askBytes + n,
                              wrote := (x.wrote.put t (x.wrote.get 0 t + n)).filter fun p => decide (t < p.1 + 86400) }) d

/-- A page to be programmed: the skein of its block, the label's one, class, purpose and its argument, FLAGS and LOGICAL of the label, data. -/
structure PageJob where
  pool : Nat
  skein : Nat
  cls : Nat
  goal : Nat
  arg : Nat
  flags : Nat
  logical : Nat
  data : List Nat
  deriving DecidableEq, Repr

/-- A page is queued for its program on a die, with its label (R370); a ring other than HIST notes its place. -/
def programOn (n : Nat) (j : PageJob) (d : Dev) : Dev :=
  match placePage j.pool n d with
  | (some (k, u, seq), d) =>
    let label : PageLabel := ⟨j.skein, j.flags, seq, j.logical, now d, d.recd.powerCycle⟩
    let d := if j.goal = 5 then storeMod (fun x => { x with pages := Tab.set [] j.skein (x.pages.get [] j.skein ++ [⟨j.logical, placeOf n k u⟩]) x.pages }) d else d
    storeAsk { plainOp j.cls 1 n k u j.pool (edge d) j.goal j.arg with label := label, data := j.data } d
  | (none, d) => d

/-- The next die in the order of a skein's stripes. -/
def nextDie (skein : Nat) (d : Dev) : Nat × Dev :=
  let l := inService d
  let k := d.store.turns.get 0 skein
  (l.getD (k % max 1 l.length) 0, storeMod (fun x => { x with turns := x.turns.put skein (k + 1) }) d)

/-- The die of a mirrored page's second copy (R374): the next one on another channel, or with one channel the next other die. -/
def mirrorDie (n : Nat) (d : Dev) : Nat :=
  let l := inService d
  let after := (l.filter fun q => decide (n < q)) ++ l.filter fun q => decide (q < n)
  ((after.find? fun q => q / 4 != n / 4).orElse fun _ => after.head?).getD n

/-- Pages of a stripe with parity (R374). -/
def stripeP (d : Dev) : Nat := min 7 ((inService d).length - 1)

/-- The ring gives up its oldest block on the die where its head needs one. -/
def makeRoom (n : Nat) (d : Dev) : Dev :=
  if d.store.nBlocks ≤ usedBlocks n d + freeReserve n d then reclaim n d else d

/-- Two pages XORed. -/
def xorPages (a b : List Nat) : List Nat :=
  (a ++ zeros (16384 - a.length)).zipWith (· ^^^ ·) (b ++ zeros (16384 - b.length))

/-- A page with parity over its stripe is programmed on the next die; the last one of a stripe is followed by the parity page on a further
die (R374). -/
def programStriped (parity : Bool) (j : PageJob) (d : Dev) : Dev :=
  let (n, d) := nextDie j.skein d
  let d := programOn n j (makeRoom n d)
  let p := stripeP d
  if parity ∧ p ≠ 0 then
    let x := if j.logical % p = 0 then j.data else xorPages (d.store.stripes.get [] j.skein) j.data
    if j.logical % p = p - 1 then
      let (n, d) := nextDie j.skein (storeMod (fun y => { y with stripes := Tab.set [] j.skein [] y.stripes }) d)
      programOn n { j with goal := if j.goal = 5 then 5 else 4, flags := 1, data := x } (makeRoom n d)
    else storeMod (fun y => { y with stripes := Tab.set [] j.skein x y.stripes }) d
  else d

/-- A mirrored page is programmed as two copies on different dies (R374). -/
def programMirrored (j : PageJob) (d : Dev) : Dev :=
  let (n, d) := nextDie j.skein d
  let d := programOn n j (makeRoom n d)
  let m := mirrorDie n d
  programOn m { j with flags := 2 } (makeRoom m d)

/-- HIST page number `num` is queued for its program, one page per die in turn, with a parity page after each stripe (R372, R374). -/
def histProgram (num : Nat) (page : List Nat) (d : Dev) : Dev :=
  programStriped ((arrRec d).elim false fun r => r.b P0F01_FLAGS 1) ⟨1, 1, 2, 1, num, 0, num, page⟩ d

/-- A full HIST page enters the staging area and is queued. -/
def histQueue (page : List Nat) (d : Dev) : Dev :=
  let num := d.store.histNum
  let d : Dev := { d with recd := { d.recd with wait := d.recd.wait ++ [page] }, store := { d.store with histNum := num + 1 } }
  histProgram num page (noteWrite 16384 (put STORE_SK_HEAD_BYTES 0 (16384 * (num + 1)) d))

/-! The other rings (R372, R373) and the directory. -/

/-- Blocks of a skein that are full and hold no page that the ring still has are erased as maintenance (R373, R380). -/
def releaseBlocks (skein : Nat) (d : Dev) : Dev :=
  let kept := (d.store.pages.get [] skein).map fun p => p.place / 65536
  let free := d.store.blocks.filter fun b => b.2.st == 2 && b.2.skein == skein && !kept.contains b.1 && !d.store.moves.any (·.src == b.1)
  forL (free.map (·.1)) (fun k d => storeAsk (plainOp 5 2 (k / 65536) (k % 65536) 0 skein (edge d) 0 0) (blkMod k (fun x => { x with st := 4 }) d)) d

/-- The pages of a ring for which `old` holds are given up. -/
def dropPages (skein : Nat) (old : Nat → Bool) (d : Dev) : Dev :=
  releaseBlocks skein (storeMod (fun x => { x with pages := Tab.set [] skein ((x.pages.get [] skein).filter fun p => !old p.logical) x.pages }) d)

/-- A page of EVENT, RETAIN, SNAP or the directory is queued: its logical number, its class (R380), and its protection (R372). A slot of
RETAIN holds pages 0 to 15 or 16 to 31. Pages behind a ring's tail are given up. -/
def ringQueue (p : StorePage) (d : Dev) : Dev :=
  let s := p.skein
  let num := d.store.logs.get 0 s
  let d := storeMod (fun x => { x with logs := x.logs.put s (num + 1) }) d
  let num := if s = 3 then num % 32 else num
  let tail := get STORE_SK_TAIL_BYTES (s - 1) d / 16384
  let d := if s = 3 then dropPages 3 (· == num) d else if s = 2 ∨ s = 4 then dropPages s (fun l => decide (l < tail)) d else d
  let j : PageJob := ⟨s, s, if s = 4 then 4 else if s = 15 then 5 else 1, 5, p.arg, 0, num, p.data⟩
  let d := if s = 15 then d else noteWrite 16384 d
  if s = 4 then programStriped ((arrRec d).elim false fun r => r.b P0F01_FLAGS 2) j d else programMirrored j d

/-- Thread T4 queues the pages that were handed over. -/
def queueDue (d : Dev) : Dev :=
  if storeReady d then forL d.store.due ringQueue (storeMod (fun x => { x with due := [] }) d) else d

/-- Pages of the directory are handed over; the spec gives their number and contents no layout. -/
def directoryWrite (n : Nat) (d : Dev) : Dev := handPages 15 ((List.range n).map fun k => (k, Config.directoryPage (d.store.logs.get 0 15 + k))) d

end Sys2Proof.Machine
end

