-- ==== Sys2Proof/Machine/Recorder.lean ====
section
/-! DEFINITION. Recording (R389 to R412): sample sets and entries, the signal history, saved captures, the flush of the event buffer,
and acquisition streams with their packets (R328, R329). -/

namespace Sys2Proof.Machine

/-- The image by which samples at stamp `t` are selected (R52). -/
def recImg (t : Nat) (d : Dev) : Option Img :=
  if get FUSE_XCHG_STATE 0 d == 4 && decide (d.xchg.sc ≤ t) && d.next.isSome then d.next else d.img

/-- The recorder takes entries: in RUN, before a power failure (R394, R402). -/
def recorderOn (d : Dev) : Bool := inRun d && isActive d && !flag REC_STATUS_PFAIL 0 d

/-! Entries (R392). -/

/-- An entry: its head and body. -/
def entryBytes (stamp kind source aux : Nat) (body : List Nat) : List Nat :=
  leBytes 8 stamp ++ [kind, source] ++ leBytes 2 (16 + body.length) ++ leBytes 4 aux ++ body

/-- The bytes of a strand in a set by its width (R390, R392): a triple is position, stamp, rate. -/
def setValue (id width : Nat) (d : Dev) : List Nat :=
  let n := id % 4096
  match width with
  | 0 => leBytes 4 (trunc 32 (readStrand id d))
  | 1 => leBytes 8 (readStrand id d)
  | _ =>
    if id / 4096 = 8 then
      leBytes 8 (readStrand id d) ++ leBytes 8 (fbStamp n d) ++ leBytes 8 (ofInt 64 (fbSpeed n (now d) d))
    else if isTime n d then leBytes 8 (measPos n d) ++ leBytes 8 (now d) ++ leBytes 8 (ofInt 64 (measRate n d))
    else leBytes 8 (get REEL_MEAS_SAMPLE_POS n d) ++ leBytes 8 (get REEL_MEAS_SAMPLE_STAMP n d) ++ leBytes 8 (ofInt 64 (measRate n d))

/-- The strands of a set with their widths. -/
def setEntries (q : Rec) : List (Nat × Nat) :=
  (List.range (q.u P1001_COUNT)).map fun i => (q.u P1001_ENTRY i % 0x100000, bits (q.u P1001_ENTRY i) 20 2)

/-! The signal history (R394, R396). -/

/-- The bytes that a skein has taken since the format. -/
def skAdvance (s n : Nat) (d : Dev) : Dev :=
  let h := get STORE_SK_HEAD_BYTES s d + n
  d |> put STORE_SK_HEAD_BYTES s h |> put STORE_SK_TAIL_BYTES s (max (get STORE_SK_TAIL_BYTES s d) (h - get STORE_SK_SIZE_BYTES s d))

/-- An entry is lost. -/
def histLose (stamp : Nat) (d : Dev) : Dev :=
  let r := d.recd
  { d with recd := { r with blocked := true, lost := r.lost + 1, lostAt := if r.lost = 0 then stamp else r.lostAt } }
    |> addSat REC_HIST_LOST_ENTRIES 0 1 |> (fun d => stick REC_STATUS_HIST_LOSS 0 0x1005 0 d)

/-- A staging page is free for the history and the store takes pages. -/
def histFree (d : Dev) : Bool := storeReady d && decide (d.recd.wait.length < 128)

/-- An entry goes into the page being filled; a page that it does not fit is full, and goes to the store. -/
def histPlace (bs : List Nat) (stamp : Nat) (d : Dev) : Dev :=
  let r := d.recd
  if r.page.length + bs.length ≤ 16384 then { d with recd := { r with page := r.page ++ bs } }
  else
    let d := histQueue (r.page ++ zeros (16384 - r.page.length)) { d with recd := { r with page := [] } }
    if histFree d then { d with recd := { d.recd with page := bs } } else histLose stamp d

/-- An entry for HIST; after a loss a GAP entry stands before it. -/
def histAdd (bs : List Nat) (stamp : Nat) (d : Dev) : Dev :=
  let r := d.recd
  if !r.blocked then histPlace bs stamp d
  else if !histFree d then histLose stamp d
  else histPlace bs stamp (histPlace (entryBytes r.lostAt 4 0 (trunc 32 r.lost) []) r.lostAt
    { d with recd := { r with blocked := false, lost := 0 } })

/-! Stream packets (R328, R329, R412). -/

/-- The transport entry of a stream: record and number. -/
def strEntry (n : Nat) (d : Dev) : Option (Rec × Nat) :=
  (recOf 0x0C03 d).bind fun r => ((List.range (r.uAt 0 2)).find? fun i => r.u P0C03_STREAM i == n).map fun i => (r, i)

/-- The largest payload of a stream's packets: the port's frame less the Ethernet, IPv4 and UDP heads, the packet's own head and
its CRC, and the frame check sequence (log entry 34). -/
def strRoom (n : Nat) (d : Dev) : Nat :=
  match strEntry n d with
  | some (r, i) =>
    let port := r.u P0C03_PORT i
    let frame := (recOf 0x0C01 d).elim 1518 fun q => q.uAt (20 + 2 * port) 2
    frame - (14 + (if bit (r.u P0C03_PCP i) 3 then 4 else 0) + 28 + 40 + 4 + 4)
  | none => 0

/-- A packet of a stream. -/
def strPacket (n flags seq stamp entries : Nat) (body : List Nat) (d : Dev) : List Nat :=
  let head := beBytes 4 0x4F435354 ++ [1, n] ++ beBytes 2 flags ++ beBytes 4 (get REC_STR_ARM_ARM_ID n d) ++ beBytes 4 seq ++
    beBytes 8 stamp ++ beBytes 8 (rd ID_UNIQUE 0 d) ++ beBytes 2 body.length ++ beBytes 2 entries ++ zeros 4 ++ body
  head ++ beBytes 4 (crc32c head)

/-- A stream's notes changed. -/
def strMod (n : Nat) (f : StreamX → StreamX) (d : Dev) : Dev := { d with streams := d.streams.put n (f (d.streams.get {} n)) }

/-- The packet waits in its port's queue, as the IPv4 datagram of R328: from UDP port 7417 + n to the same port of the armed destination. -/
def strQueue (n : Nat) (bs : List Nat) (d : Dev) : Dev :=
  match strEntry n d with
  | none => d
  | some (r, i) =>
    let p := r.u P0C03_PORT i
    let pcp := r.u P0C03_PCP i
    ethQueue p { q := pcp % 8 / 2, frame := { tag := if bit pcp 3 then pcp % 8 * 8192 + 1 else 0, etherType := 0x0800, src := ownMac d, bytes := udp4 (ownIp d) (d.streams.get {} n).dest (7417 + n) 64 bs }, stream := n + 1 } d

/-- The state of R407, with the bits that show it. -/
def strState (n st : Nat) (d : Dev) : Dev :=
  d |> put REC_STR_STATUS_STATE n st |> putB ETH_STREAM_STATUS_ARMED n (st == 1)
    |> put REC_STATUS_ARMED 0 (setBit (get REC_STATUS_ARMED 0 d) n (st == 1))

/-- A closed packet found the queue full: `more` entries of this edge are lost with it (R412). -/
def strOverflow (n more : Nat) (d : Dev) : Dev :=
  let x := d.streams.get {} n
  let e := entryBytes x.firstStamp 6 0 (x.entries + more) []
  let pk := strPacket n (b2n x.first + 4) x.seq x.firstStamp 1 e d
  strMod n (fun x => { x with body := [], entries := 0, seq := x.seq + 1, first := false }) d
    |> strQueue n pk |> bumpSat ETH_STREAM_STATUS_DROPPED n |> (fun d => raise 0x0C04 n d)
    |> strState n 2 |> (fun d => stick REC_STR_STATUS_OVERFLOW n 0x1001 n d)

/-- The open packet of a stream closes (R329). -/
def strClose (n : Nat) (ends : Bool) (more : Nat) (d : Dev) : Dev :=
  let x := d.streams.get {} n
  let room := match strEntry n d with
    | some (r, i) => r.u P0C03_QUEUE i
    | none => 0
  if x.body = [] then d
  else if room ≤ get ETH_STREAM_STATUS_QUEUED n d then strOverflow n more d
  else
    let pk := strPacket n (b2n x.first + 2 * b2n ends) x.seq x.firstStamp x.entries x.body d
    strQueue n pk (strMod n (fun x => { x with body := [], entries := 0, seq := x.seq + 1, first := false }) d)

/-- An entry with stamp `t` enters a stream that is ARMED. -/
def strAdd (n t : Nat) (bs : List Nat) (d : Dev) : Dev :=
  if get REC_STR_STATUS_STATE n d ≠ 1 ∨ ¬ recorderOn d then d
  else
    let x := d.streams.get {} n
    let d := if x.body ≠ [] ∧ strRoom n d < x.body.length + bs.length then strClose n false 1 d else d
    if get REC_STR_STATUS_STATE n d ≠ 1 then d
    else strMod n (fun x => { x with body := x.body ++ bs, entries := x.entries + 1,
                                     firstStamp := if x.body = [] then t else x.firstStamp }) d

/-- A mark (R392, R409, R411). -/
def strMark (n t source aux : Nat) (d : Dev) : Dev :=
  if get REC_STR_STATUS_STATE n d ≠ 1 then d else bumpSat REC_STR_COUNT_MARKS n (strAdd n t (entryBytes t 3 source aux []) d)

/-- A stream is armed anew to a destination (R407). -/
def strArm (n dest : Nat) (d : Dev) : Dev :=
  { d with streams := d.streams.put n { dest := dest, first := true }
           recd := { d.recd with strDecim := d.recd.strDecim.filter fun p => p.1 / 8 != n } }
    |> bump REC_STR_ARM_ARM_ID n |> strState n 1

/-- The END entry and the packet with END (R407). -/
def strEnd (n : Nat) (d : Dev) : Dev :=
  if get REC_STR_STATUS_STATE n d ≠ 1 then d
  else strClose n true 0 (strAdd n (now d) (entryBytes (now d) 5 0 (get REC_STR_ARM_ARM_ID n d) []) d)

/-- Every stream is OFF: a restart, a takeover or a power failure (R407). -/
def streamsOff (d : Dev) : Dev :=
  forL (List.range 16) (fun n d => strMod n (fun x => { x with body := [], entries := 0 }) (strState n 0 d)) d

/-- The packet's time has come: FLUSH_US after its first entry's stamp. -/
def strDue (n : Nat) (d : Dev) : Bool :=
  let x := d.streams.get {} n
  match strEntry n d with
  | some (r, i) => x.body != [] && decide (x.firstStamp + r.u P0C03_FLUSH_US i * us16 ≤ now d)
  | none => false

/-- STREAM_PACKET_CLOSE (R329). -/
def execStreamPacketClose (dt stream : Nat) (s : State) : Host.Outcome State Fault Refusal :=
  onDev dt (fun d => if strDue stream d then strClose stream false 0 d else d) s

/-! Triggers (R408 to R410). -/

/-- A trigger's condition: KIND and REAL, the previous tested value, this value and the threshold. -/
def trigMet (k : Nat) (prev : Option Nat) (x th : Nat) : Bool :=
  let real := bit k 3
  let nan := real && (f32IsNaN x || f32IsNaN th)
  let lt (a b : Nat) : Bool := if real then decide (f32Order a b < 0) else decide (toInt 32 a < toInt 32 b)
  match k % 8, prev with
  | 1, some p => !nan && !(real && f32IsNaN p) && lt p th && !lt x th
  | 2, some p => !nan && !(real && f32IsNaN p) && lt th p && !lt th x
  | 3, _ => !nan && lt th x
  | 4, _ => !nan && lt x th
  | 5, some p => (List.range 32).any fun i => bit th i && !bit p i && bit x i
  | _, _ => false

/-- The triggers of stream record `r` on its set index `i` at an entry with stamp `t`. -/
def strTriggers (r : Rec) (i t : Nat) (d : Dev) : Dev :=
  let n := r.u P1003_STREAM
  let js := (List.range (r.u P1003_TRIG_COUNT)).filter fun j => r.u P1003_TSET j == i
  let val (j : Nat) : Nat := trunc 32 (readStrand (r.u P1003_STRAND j % 0x100000) d)
  let x := d.streams.get {} n
  let met := js.filter fun j =>
    trigMet (r.u P1003_TKIND j) ((x.prev.find? (·.1 == j)).map (·.2)) (val j) (r.u P1003_THRESHOLD j)
  let quiet := match x.acted with
    | some a => decide (t < a + r.u P1003_HOLDOFF_US * us16)
    | none => false
  let prev := js.foldl (fun l j => Tab.put j (val j) l) x.prev
  let d := strMod n (fun x => { x with prev := prev }) d
  if get REC_STR_STATUS_STATE n d ≠ 1 ∨ met = [] then d
  else
    let d := forL met (fun j => strMark n t j (if quiet then 2 else 1)) d
    if quiet then forL met (fun _ => bumpSat REC_STR_STATUS_SUPPRESSED n) d
    else
      let events := met.any fun j => bit (r.u P1003_ACTIONS j) 0
      let bufs := ((met.filter fun j => bit (r.u P1003_ACTIONS j) 1).map (r.u P1003_TRACE_BUF ·)).eraseDups
      strMod n (fun x => { x with acted := some t }) d
        |> put REC_STR_STATUS_TRIG_SEEN n 1 |> put REC_STR_TRIG_STAMP n t |> addSat REC_STR_COUNT_TRIGGERS n met.length
        |> onlyIf events (fun d => raise 0x1003 n d (met.foldl (fun m j => setBit m j true) 0))
        |> forL bufs trcTrigger

/-! Taking a set (R391, R393). -/

/-- A counter of DECIM: the table with the count moved on, and whether this firing enters. -/
def decimate (k n : Nat) (t : Tab Nat) : Bool × Tab Nat :=
  let c := t.get 0 k + 1
  if n ≤ c then (true, t.put k 0) else (false, t.put k c)

/-- The set's entry goes to HIST (R394). -/
def setToHist (m : Img) (set t : Nat) (bs : List Nat) (d : Dev) : Dev :=
  match m.one 0x1002 with
  | none => d
  | some r =>
    forL ((List.range (r.uAt 0 2)).filter fun i => r.u P1002_SET i == set) (fun i d =>
      let (go, tab) := decimate set (r.u P1002_DECIM i) d.recd.histDecim
      let d : Dev := { d with recd := { d.recd with histDecim := tab } }
      if go then histAdd bs t d else d) d

/-- The set's entry goes to the streams that carry it, with their triggers (R408). -/
def setToStreams (m : Img) (set t : Nat) (bs : List Nat) (d : Dev) : Dev :=
  forL (m.all 0x1003) (fun r d =>
    let n := r.u P1003_STREAM
    if get REC_STR_STATUS_STATE n d ≠ 1 then d
    else forL ((List.range (r.u P1003_SET_COUNT)).filter fun i => r.uAt (8 + i) 1 == set) (fun i d =>
      let (go, tab) := decimate (8 * n + i) (r.uAt (16 + 2 * i) 2) d.recd.strDecim
      let d : Dev := { d with recd := { d.recd with strDecim := tab } }
      if go then strTriggers r i t (strAdd n t bs d) else d) d) d

/-- A SAMPLED set is taken at a firing with stamp `t` (R391). -/
def setTake (m : Img) (t : Nat) (q : Rec) (d : Dev) : Dev :=
  let set := q.u P1001_SET
  let c := d.recd.setCount.get 0 set + 1
  let es := setEntries q
  let stale := es.any fun e => strandStale e.1 d
  let bs := entryBytes t 1 set (c % 2 ^ 31 + b2n stale * 2 ^ 31) (es.flatMap fun e => setValue e.1 e.2 d)
  setToStreams m set t bs (setToHist m set t bs { d with recd := { d.recd with setCount := d.recd.setCount.put set c } })

/-- The sets that a firing takes: their numbers, each with its entry (R391). -/
def firingSets (pick t : Nat) (d : Dev) : List (Nat × Nat × (Dev → Dev)) :=
  (recImg t d).elim [] fun m => ((m.all 0x1001).filter fun q => q.u P1001_KIND == 1 && q.u P1001_PICK == pick).map fun q =>
    (q.u P1001_SET, 0, setTake m t q)

/-- The EDGE sets that list a pin, each with its entry for an accepted edge (R390). -/
def edgeSets (pin t : Nat) (level : Bool) (d : Dev) : List (Nat × Nat × (Dev → Dev)) :=
  (recImg (now d) d).elim [] fun m =>
    ((m.all 0x1001).filter fun q => q.u P1001_KIND == 2 && (setEntries q).any (·.1 == 0x01000 + pin)).map fun q =>
      let bs := entryBytes t 2 pin (b2n level) []
      (q.u P1001_SET, pin + 1, fun d => setToStreams m (q.u P1001_SET) t bs (setToHist m (q.u P1001_SET) t bs d))

/-- The entries of an edge once its last due pick has fired (R393): in ascending set number, then pin; the marks of picks follow (R411). -/
def edgeTakes (due : Dev → Bool) (d : Dev) : Dev :=
  if due d then d
  else
    let r := d.recd
    let l := r.takes.flatMap (fun p => firingSets p.1 p.2 d) ++ r.edges.flatMap fun p => edgeSets p.1 p.2.1 p.2.2 d
    let sorted := l.mergeSort fun a b => decide (a.1 < b.1 ∨ (a.1 = b.1 ∧ a.2.1 ≤ b.2.1))
    let d := forL sorted (fun e d => e.2.2 d) { d with recd := { r with takes := [], edges := [], marks := [] } }
    forL r.marks (fun p d => strMark (p.1 % 16) p.2 0xFF (3 + p.1 / 16 * 256) d) d

/-- A firing that the recorder takes with its edge. -/
def setsTake (pick t : Nat) (d : Dev) : Dev :=
  if recorderOn d then { d with recd := { d.recd with takes := d.recd.takes ++ [(pick, t)] } } else d

/-- An accepted edge of a general I/O pin with stamp `t` (R390), which the recorder takes with its edge. -/
def setsEdge (pin t : Nat) (level : Bool) (d : Dev) : Dev :=
  if recorderOn d then { d with recd := { d.recd with edges := d.recd.edges ++ [(pin, t, level)] } } else d

/-- ACTION MARK (R411): stream in bits 3:0, mark code in bits 11:4. -/
def pickMark (op t : Nat) (d : Dev) : Dev :=
  if recorderOn d then { d with recd := { d.recd with marks := d.recd.marks ++ [(op, t)] } } else d

/-! The event buffer (R399). -/

/-- EVENT_FLUSH_TIMER: EVENT_FLUSH_MS has passed since the oldest unwritten record entered. -/
def eventFlushTimerAt (d : Dev) : Dev :=
  if d.recd.buf ≠ [] ∧ orD0 (recOf 0x1004 d) P1004_EVENT_FLUSH_MS 1000 * 400000 ≤ since d.recd.oldest d then flushEvents d else d

def execEventFlushTimer (dt : Nat) (s : State) : Host.Outcome State Fault Refusal := onDev dt eventFlushTimerAt s

/-! Saved captures (R405). -/

/-- The bytes of a capture of trace buffer `b`. -/
def captureBytes (b : Nat) (r : Rec) (d : Dev) : List Nat :=
  let n := r.u P0503_NODES
  let pre := get PLY_TRC_PRE_PRE_ACTUAL b d
  let rows := pre + r.u P0503_POST
  let all := (d.trcs.get {} b).rows
  let row (l : List Nat) : List Nat := match l with
    | t :: ws => leBytes 8 t ++ ws.flatMap (leBytes 4)
    | [] => []
  leBytes 4 d.recd.nextSnap ++ [b, n, get PLY_TRC_STATUS_SHORT_PRE b d, 0] ++ leBytes 8 (get PLY_TRC_TRIG_STAMP b d) ++
    leBytes 4 pre ++ leBytes 4 rows ++ leBytes 4 (get PLY_TRC_STATUS_TRIG_LOST b d) ++ zeros 4 ++
    (List.range n).flatMap (fun j => leBytes 4 (r.u P0503_NODE j)) ++ (all.drop (all.length - rows)).flatMap row

/-- Bytes that a capture takes in its ring: whole pages. -/
def snapSize (bs : List Nat) : Nat := (bs.length + 16383) / 16384 * 16384

/-- The oldest captures give way until all fit `cap` bytes. -/
def trimSnaps (cap : Nat) : List (Nat × List Nat) → List (Nat × List Nat)
  | [] => []
  | l@(_ :: t) => if (l.map fun p => snapSize p.2).sum ≤ cap then l else trimSnaps cap t

/-- TRACE_COPY_COMPLETE (R131, R405): the copy ends as a capture, or is refused. -/
def traceCopyCompleteAt (b : Nat) (d : Dev) : Dev :=
  match trcRec b d with
  | none => d
  | some r =>
    if !(d.trcs.get {} b).copying then d
    else
      let cap := orD (recOf 0x0F01 d) P0F01_SNAP_MIB 0 * 1048576
      let bs := captureBytes b r d
      let d : Dev := { d with trcs := d.trcs.put b { d.trcs.get {} b with copying := false } }
      let d := if cap < bs.length ∨ ¬ storeReady d then stick REC_STATUS_SNAP_REFUSED 0 0x1007 b d
        else
          let x := d.recd
          let pages := pagesOf (bs.length / 16384 + 1) bs
          handPages 4 (pages.map fun p => (x.nextSnap, p)) { d with recd := { x with snaps := trimSnaps cap (x.snaps ++ [(x.nextSnap, bs)]), nextSnap := x.nextSnap + 1 } }
            |> skAdvance 3 (16384 * pages.length) |> put PLY_TRC_STATUS_SAVED b 1
      if get PLY_TRC_STATUS_STATE b d = 5 then trcFill b r d else d

def execTraceCopyComplete (dt buffer : Nat) (s : State) : Host.Outcome State Fault Refusal := onDev dt (traceCopyCompleteAt buffer) s

/-! The hold-up (R384, R403) and RUN. -/

/-- T_flush in µs for `n` dies in service. -/
def flushTime (n : Nat) : Nat := 30 + 240 * ((148 + 2 * ((n + 15) / 16) + n - 1) / n)

/-- The need for the dies in service; a need above HOLDUP_US raises 0x1006. -/
def holdupCheck (dies : Nat) (d : Dev) : Dev :=
  if dies = 0 then d
  else
    let need := flushTime dies + 500
    put REC_HOLDUP_NEED_US 0 (satU 16 need) d
      |> onlyIf ((recOf 0x1004 d).isSome && decide (orD (recOf 0x1004 d) P1004_HOLDUP_US 0 < need))
          (fun d => stick REC_STATUS_HOLDUP_LOW 0 0x1006 0 d 0 need)

/-- HIST_RUN: entries are being taken (R394). -/
def showHistRun (d : Dev) : Dev := putB REC_STATUS_HIST_RUN 0 (recorderOn d && (recOf 0x1002 d).isSome) d

/-- Numbering starts (R398): above the highest SEQ in EVENT and among the records kept through a restart (R48), from 1 without them. -/
def startNumbering (d : Dev) : Dev :=
  let r := d.recd
  if r.numbering then d
  else
    let top := r.log.foldl (fun m e => max m e.seq) r.kept
    let old := (r.buf.filter fun e => e.seq != 0).length
    let numbered := r.buf.zipIdx.map fun p => if p.1.seq != 0 then p.1 else { p.1 with seq := top + 1 + (p.2 - old) }
    let last := ((numbered.filter fun e => e.code == get FLT_LAST_CODE 0 d && e.cleared == flag FLT_LAST_CLEARED 0 d).getLast?.map (·.seq)).getD 0
    put FLT_LAST_SEQ 0 last (logRegs { d with recd := { r with numbering := true, buf := numbered, nextSeq := top + 1 + (r.buf.length - old) } })

/-- RUN begins with the counters of sets at 0 and every stream OFF. -/
def recRun (d : Dev) : Dev :=
  showHistRun (streamsOff { d with recd := { d.recd with setCount := [], histDecim := [], strDecim := [], page := [], lost := 0, blocked := false } })
    |> onlyIf (recOf 0x0F01 d).isNone startNumbering

end Sys2Proof.Machine
end

