-- ==== Sys2Proof/Machine/Service.lean ====
section
/-! DEFINITION. The service protocol (R323 to R327): sessions, the order of requests, reads of the live space, and the actions that
need no other unit (R54). -/

namespace Sys2Proof.Machine

/-! Messages (R323). -/

/-- The bytes of a response. -/
def svcBytes (session op seq status : Nat) (body : List Nat) : List Nat :=
  let m := beBytes 2 0x4F53 ++ [1, 1] ++ beBytes 2 session ++ beBytes 2 op ++ beBytes 4 seq ++ beBytes 2 body.length ++
    beBytes 2 status ++ body
  m ++ beBytes 4 (crc32c m)

/-- A response leaves for a host. -/
def svcSend (h : SvcHdr) (bs : List Nat) (d : Dev) : Dev := send .service (h.addr * 65536 + h.port) bs d

/-- The service protocol runs: in RUN, in LOAD_FAIL and in programming mode (R45, R40). -/
def svcUp (d : Dev) : Bool := d.unit.phase == .run || d.unit.phase == .loadFail || d.unit.phase == .programming

/-- The built-in session of LOAD_FAIL and programming mode (R324). -/
def svcBuiltIn (d : Dev) : Bool := d.unit.phase == .loadFail || d.unit.phase == .programming

/-! Sessions (R324). -/

/-- A session's notes changed. -/
def sessMod (k : Nat) (f : SessX → SessX) (d : Dev) : Dev :=
  { d with eth := { d.eth with sess := d.eth.sess.put k (f (d.eth.sess.get {} k)) } }

/-- Slots that hold an open session. -/
def openSlots (d : Dev) : List Nat := (List.range 16).filter fun k => flag ETH_SVC_SESSION_ACTIVE k d

/-- The slot of a session ID. -/
def slotOf (session : Nat) (d : Dev) : Option Nat := (openSlots d).find? fun k => get ETH_SVC_SESSION_SESSION k d == session

/-- The threads that a session may be bound to. -/
def sessionThreads (d : Dev) : List Nat := if svcBuiltIn d then [8] else role2Threads d

/-- A thread no session is bound to. -/
def freeThread (d : Dev) : Option Nat :=
  (sessionThreads d).find? fun t => (openSlots d).all fun k => get ETH_SVC_SESSION_THREAD k d != t

/-- The session IDs in search order from a free value on: each 1 to 65535 (no rule says which ID a session gets). -/
def newSession (d : Dev) : Nat :=
  let start := Config.freeValue d.free
  ((List.range 17).map fun i => (start + i) % 65535 + 1).find? (fun n => (slotOf n d).isNone) |>.getD 1

/-- The source address is admitted at a level (R324, R331); under R314 every address is. -/
def admitted (addr level : Nat) (d : Dev) : Bool :=
  if svcBuiltIn d then true
  else match recOf 0x0C01 d with
    | none => false
    | some r => (List.range (r.u P0C01_ACCESS_COUNT)).any fun i =>
        let p := 2 ^ (32 - r.u P0C01_ACC_PREFIX i)
        addr / p == r.u P0C01_ACC_ADDR i / p && decide (level ≤ r.u P0C01_ACC_LEVEL i)

/-- The session in slot `k` ends. -/
def endSession (k : Nat) (d : Dev) : Dev :=
  { d with eth := { d.eth with sess := d.eth.sess.del k } } |> wr ETH_SVC_SESSION k 0 |> wr ETH_SVC_HOST k 0
    |> (fun d => put ETH_SVC_STATUS_OPEN 0 (openSlots d).length d)

/-- An OPEN that a session has been granted for already (R325): the same host and SEQ, with nothing processed since. -/
def openAgain (h : SvcHdr) (d : Dev) : Option Nat :=
  (openSlots d).find? fun k =>
    let x := d.eth.sess.get {} k
    get ETH_SVC_HOST_ADDR k d == h.addr && get ETH_SVC_HOST_UDP_PORT k d == h.port && x.openSeq == h.seq && x.last == h.seq

/-- A session granted in slot `k` on thread `t`. -/
def grant (h : SvcHdr) (level keep k t : Nat) (d : Dev) : Dev :=
  let id := newSession d
  let bs := svcBytes 0 1 h.seq 0 (beBytes 2 id ++ [0, 0])
  { d with free := d.free + 1, eth := { d.eth with opened := d.eth.opened + 1 } }
    |> sessMod k (fun _ => { openSeq := h.seq, last := h.seq, reply := bs, edge := edge d, keep := keep })
    |> put ETH_SVC_SESSION_ACTIVE k 1 |> put ETH_SVC_SESSION_LEVEL k level |> put ETH_SVC_SESSION_THREAD k t
    |> put ETH_SVC_SESSION_SESSION k id |> put ETH_SVC_HOST_ADDR k h.addr |> put ETH_SVC_HOST_UDP_PORT k h.port
    |> (fun d => put ETH_SVC_STATUS_OPEN 0 (openSlots d).length d) |> svcSend h bs

/-- SERVICE_OPEN (R324). -/
def serviceOpenAt (h : SvcHdr) (level keep : Nat) (d : Dev) : Dev :=
  let refuse (st : Nat) (d : Dev) : Dev := svcSend h (svcBytes 0 1 h.seq st []) d
  if !svcUp d then d
  else match openAgain h d with
    | some k => svcSend h (d.eth.sess.get {} k).reply d
    | none =>
      if level = 0 ∨ 3 < level ∨ keep = 0 ∨ 60 < keep then refuse 6 d
      else if !admitted h.addr level d then refuse 4 (raise 0x0C03 0 d)
      else match freeThread d, (List.range 16).find? fun k => !flag ETH_SVC_SESSION_ACTIVE k d with
        | some t, some k => grant h level keep k t d
        | _, _ => refuse 7 d

def execServiceOpen (dt : Nat) (h : SvcHdr) (level keepalive : Nat) (s : State) : Host.Outcome State Fault Refusal :=
  onDev dt (serviceOpenAt h level keepalive) s

/-- SESSION_KEEPALIVE_EXPIRY (R324): no request for KEEPALIVE ends the session with 0x0C06. -/
def keepaliveExpiryAt (k : Nat) (d : Dev) : Dev :=
  let x := d.eth.sess.get {} k
  if flag ETH_SVC_SESSION_ACTIVE k d ∧ x.keep * 400000000 ≤ since x.edge d then raise 0x0C06 k (endSession k d) else d

def execSessionKeepaliveExpiry (dt slot : Nat) (s : State) : Host.Outcome State Fault Refusal := onDev dt (keepaliveExpiryAt slot) s

/-! Requests (R325, R326). -/

/-- What a request leads to: a STATUS of R327, the response's body, and the device. -/
structure SvcRes where
  status : Nat := 0
  body : List Nat := []
  dev : Dev

/-- A refusal with a status. -/
def svcRefused (st : Nat) (d : Dev) : SvcRes := { status := st, dev := d }

/-- A request executed with an empty body. -/
def okNone (d : Dev) : SvcRes := { dev := d }

/-- ACCEPT_STAMP: the stamp of the edge on which the action was taken. -/
def svcAccepted (d : Dev) : SvcRes := { body := beBytes 8 (now d), dev := d }

/-- Which units accept an opcode (R40, R45, R485, R54): 0 every session message and read, 1 an action of RUN, 2 the image opcodes,
3 the fuse write, 4 a restart, 5 reads that need an image. -/
def svcAllows (kind : Nat) (d : Dev) : Bool :=
  match d.unit.phase with
  | .run =>
    if isStandby d then kind == 0 || kind == 5
    else if d.unit.stopped then kind == 0 || kind == 4
    else kind != 3
  | .loadFail => kind == 0 || kind == 2
  | .programming => kind == 0 || kind == 3
  | _ => false

/-- A new request of session `k` executed: its level, then its own effect; the response is stored and sent (R325). -/
def svcExec (k : Nat) (h : SvcHdr) (op level kind : Nat) (f : Dev → SvcRes) (d : Dev) : Dev :=
  let res := if get ETH_SVC_SESSION_LEVEL k d < level then svcRefused 4 d
    else if !svcAllows kind d then svcRefused 5 d
    else f d
  let bs := svcBytes h.session op h.seq res.status res.body
  svcSend h bs (sessMod k (fun x => { x with last := h.seq, reply := bs, held := none }) res.dev)

/-- A request that arrives (R324, R325): a new one is executed, waits while the service share is exhausted, or is discarded; a
retransmission gets the stored response. The command's edge stands for the one on which the thread's activation commits the request
(log entry 63). -/
def svcTake (i : Instr) (h : SvcHdr) (op level kind : Nat) (f : Dev → SvcRes) (d : Dev) : Dev :=
  if !svcUp d then d
  else match slotOf h.session d with
    | none => svcSend h (svcBytes h.session op h.seq 3 []) d
    | some k =>
      if get ETH_SVC_HOST_ADDR k d ≠ h.addr ∨ get ETH_SVC_HOST_UDP_PORT k d ≠ h.port then
        svcSend h (svcBytes h.session op h.seq 3 []) d
      else
        let d := sessMod k (fun x => { x with edge := edge d }) d
        let x := d.eth.sess.get {} k
        let next := (x.last + 1) % 4294967296
        if h.seq = x.last then svcSend h x.reply d
        else if x.held.isSome then (if h.seq = next then d else bumpSat ETH_SVC_STATUS_SEQ_DROPS 0 d)
        else if h.seq ≠ next then bumpSat ETH_SVC_STATUS_SEQ_DROPS 0 d
        else if d.creel.exhausted && isRole2 (get ETH_SVC_SESSION_THREAD k d) d then sessMod k (fun x => { x with held := some i }) d
        else svcExec k h op level kind f d

/-- As `svcTake`, as a command. -/
def svcCmd (dt : Nat) (i : Instr) (h : SvcHdr) (op level kind : Nat) (f : Dev → SvcRes) (s : State) :
    Host.Outcome State Fault Refusal := onDev dt (svcTake i h op level kind f) s

/-! Session opcodes. -/

/-- SERVICE_CLOSE (R324): answered, and the session ends. -/
def execServiceClose (dt : Nat) (h : SvcHdr) (s : State) : Host.Outcome State Fault Refusal :=
  onDev dt (fun d =>
    let was := (slotOf h.session d).map fun k => (k, (d.eth.sess.get {} k).last)
    let d := svcTake (.serviceClose 0 h) h 0x0002 1 0 okNone d
    match was with
    | some (k, last) =>
      let x := d.eth.sess.get {} k
      if flag ETH_SVC_SESSION_ACTIVE k d ∧ x.last ≠ last ∧ x.last = h.seq then endSession k d else d
    | none => d) s

/-- SERVICE_KEEPALIVE (R324). -/
def execServiceKeepalive (dt : Nat) (h : SvcHdr) (s : State) : Host.Outcome State Fault Refusal :=
  svcCmd dt (.serviceKeepalive 0 h) h 0x0003 1 0 okNone s

/-- SERVICE_UNKNOWN_OPCODE (R327). -/
def execServiceUnknownOpcode (dt : Nat) (h : SvcHdr) (opcode : Nat) (s : State) : Host.Outcome State Fault Refusal :=
  svcCmd dt (.serviceUnknownOpcode 0 h opcode) h opcode 0 0 (svcRefused 2) s

/-! Reads (R6, R8, R326). -/

/-- A register as a read sees it now: those that follow the clock are computed (R84, R216, R398, R101), the others hold their last
value. -/
def liveReg (r : Reg) (i : Nat) (d : Dev) : Nat :=
  if r.base = REEL_LOOM_TIME.base then trunc 64 (now d)
  else if r.base = REEL_LOCAL_TIME.base then trunc 64 (16 * edge d)
  else if r.base = REEL_STEER.base then ofInt 32 d.clk.ppb
  else if r.base = REEL_MEAS_POS.base then measPos i d
  else if r.base = REEL_MEAS_RATE.base then ofInt 64 (measRate i d)
  else if r.base = FBK_FB_SPEED.base then ofInt 64 (fbSpeed i (now d) d)
  else if r.base = REC_LIFE.base then trunc 40 (opMs d) + d.recd.powerCycle * 2 ^ 40
  else if r.base = CREEL_CORE_BUSY.base then
    let x := coreX i d
    let t := x.run - 1
    if x.run = 0 then rd r i d else nsOf (x.busy + (edge d - ((d.creel.threads.get {} t).runs - 1)))
  else if r.base = DRV_AX_PINS.base then rd r i (settlePins i d)
  else if r.base = PLY_ENG_BUSY.base then edgesNs (engBusy i d)
  else if r.base = CREEL_THREAD_STATUS.base then setBits (rd r i d) CREEL_THREAD_STATUS_LEVEL.lo CREEL_THREAD_STATUS_LEVEL.width (thrLevel i d)
  else rd r i d

/-- The register and index whose bytes hold address `a`. -/
def regAt (a : Nat) : Option (Reg × Nat) :=
  allRegs.findSome? fun r =>
    if a < r.base then none
    else
      let i := if r.stride = 0 then 0 else (a - r.base) / r.stride
      if i < r.count ∧ a - r.base - i * r.stride < r.width / 8 then some (r, i) else none

/-- The 32-bit word of the live space at address `a` (R7, R21, R22). -/
def liveWord (a : Nat) (d : Dev) : Nat :=
  if 0x150000 ≤ a then 0
  else if 0x8000 ≤ a % 65536 then
    let v := readStrand (a / 65536 * 4096 + (a % 65536 - 0x8000) / 8) d
    bits v (8 * (a % 8)) 32
  else match regAt a with
    | some (r, i) => bits (liveReg r i d) (8 * (a - r.addr i)) 32
    | none => if 0xD1000 ≤ a ∧ a < 0xD7000 then d.live.get 0 a else 0

/-- READ (R326). -/
def doRead (addr len : Nat) (d : Dev) : SvcRes :=
  if 2 ^ 32 ≤ addr ∨ 2 ^ 16 ≤ len then svcRefused 1 d
  else if addr % 4 ≠ 0 ∨ len % 4 ≠ 0 ∨ len = 0 ∨ 1024 < len then svcRefused 6 d
  else { body := (List.range (len / 4)).flatMap fun k => leBytes 4 (liveWord (addr + 4 * k) d), dev := d }

/-- SERVICE_READ (R326). -/
def execServiceRead (dt : Nat) (h : SvcHdr) (addr len : Nat) (s : State) : Host.Outcome State Fault Refusal :=
  svcCmd dt (.serviceRead 0 h addr len) h 0x0010 1 0 (doRead addr len) s

/-- READ_STRANDS (R326). -/
def doReadStrands (ids : List Nat) (d : Dev) : SvcRes :=
  if ids = [] ∨ 128 < ids.length ∨ ids.any (!strandOk ·) then svcRefused 6 d
  else { body := beBytes 8 (now d) ++ ids.flatMap fun id => beBytes 8 (readStrand id d), dev := d }

def execReadStrands (dt : Nat) (h : SvcHdr) (ids : List Nat) (s : State) : Host.Outcome State Fault Refusal :=
  svcCmd dt (.readStrands 0 h ids) h 0x0011 1 0 (doReadStrands ids) s

/-- EVENT_READ (R389, R401): the records from FIRST_SEQ to LIMIT of severity at or above SEV_MIN, in ascending SEQ. -/
def doEventRead (first limit mx sevMin : Nat) (d : Dev) : SvcRes :=
  if mx = 0 ∨ 44 < mx ∨ 5 < sevMin then svcRefused 6 d
  else
    let high := d.recd.nextSeq - 1
    let lim := if limit = 0 then high else limit
    let all := ((d.recd.log ++ d.recd.buf).filter fun e => e.seq != 0 && decide (first ≤ e.seq ∧ e.seq ≤ lim ∧ sevMin ≤ e.sev)).mergeSort
      fun a b => decide (a.seq ≤ b.seq)
    let out := all.take mx
    let next := ((all.drop mx).head?.map (·.seq)).getD 0
    { body := leBytes 4 high ++ leBytes 4 lim ++ leBytes 4 next ++ leBytes 2 out.length ++ [0, 0] ++
        leBytes 4 (satU 32 d.recd.overwritten) ++ leBytes 4 (satU 32 d.recd.dropped) ++ out.flatMap EvRec.bytes,
      dev := d }

def execEventRead (dt : Nat) (h : SvcHdr) (first limit max sevMin : Nat) (s : State) : Host.Outcome State Fault Refusal :=
  svcCmd dt (.eventRead 0 h first limit max sevMin) h 0x0080 1 0 (doEventRead first limit max sevMin) s

/-- Bytes of HIST from logical byte `off` modulo 2^32 on; none where they lie outside the readable part (R406). -/
def histBytes (off len : Nat) (d : Dev) : Option (List Nat) :=
  let head := get STORE_SK_HEAD_BYTES 0 d
  let pages := (d.recd.hist ++ d.recd.wait).flatten
  let tail := head - pages.length
  let o := off + (tail / 4294967296) * 4294967296
  let o := if o < tail then o + 4294967296 else o
  if o + len ≤ head then some ((pages.drop (o - tail)).take len) else none

/-- The pages of HIST that a read touches in the array are read (R380, class READ); the response does not wait for them (log entry 44). -/
def histReads (off len : Nat) (d : Dev) : Dev :=
  let head := get STORE_SK_HEAD_BYTES 0 d
  let tail := head - (d.recd.hist.length + d.recd.wait.length) * 16384
  let o := off + (tail / 4294967296) * 4294967296
  let o := (if o < tail then o + 4294967296 else o) - tail
  forL ((List.range ((o + len - 1) / 16384 + 1)).drop (o / 16384)) (fun p d => match d.store.histAt[p]? with
    | some l => storeAsk (plainOp 3 0 (l / 4294967296) (l / 65536 % 65536) (l % 65536) 1 (edge d) 0 0) d
    | none => d) d

/-- SNAP_READ (R389, R406). -/
def doSnapRead (capture off len : Nat) (d : Dev) : SvcRes :=
  if len % 4 ≠ 0 ∨ len = 0 ∨ 1024 < len ∨ 2 ^ 32 ≤ off then svcRefused 6 d
  else if capture = 0xFFFFFFFF then
    match histBytes off len d with
    | some bs => { body := leBytes 4 capture ++ leBytes 4 (get STORE_SK_HEAD_BYTES 0 d) ++ bs, dev := histReads off len d }
    | none => svcRefused 6 d
  else
    match (if capture = 0 then d.recd.snaps.getLast? else d.recd.snaps.find? fun p => p.1 == capture) with
    | some (n, bs) =>
      if bs.length < off + len then svcRefused 6 d
      else { body := leBytes 4 n ++ leBytes 4 bs.length ++ (bs.drop off).take len, dev := d }
    | none => svcRefused 6 d

def execSnapRead (dt : Nat) (h : SvcHdr) (capture offset len : Nat) (s : State) : Host.Outcome State Fault Refusal :=
  svcCmd dt (.snapRead 0 h capture offset len) h 0x0081 1 5 (doSnapRead capture offset len) s

/-- TRACE_READ (R326): rows of a buffer, oldest first, as many as the response holds. -/
def doTraceRead (b first rows : Nat) (d : Dev) : SvcRes :=
  match trcRec b d with
  | none => svcRefused 6 d
  | some r =>
    let n := r.u P0503_NODES
    let l := (d.trcs.get {} b).rows
    let k := min rows (1448 / (8 + 4 * n))
    if l.length ≤ first ∧ rows ≠ 0 then svcRefused 6 d
    else { body := ((l.drop first).take k).flatMap fun row => leBytes 8 (row.headD 0) ++ row.tail.flatMap (leBytes 4), dev := d }

def execTraceRead (dt : Nat) (h : SvcHdr) (buffer first rows : Nat) (s : State) : Host.Outcome State Fault Refusal :=
  svcCmd dt (.traceRead 0 h buffer first rows) h 0x0044 1 5 (doTraceRead buffer first rows) s

/-! Actions (R54). -/

/-- A host action is mirrored (R449): opcode and fields (log entry 32). -/
def hostItem (op index : Nat) (body : List Nat) (d : Dev) : Dev := mirror 7 index (now d) (leBytes 2 op ++ body) d

/-- The record that claims a pick provides for changes (R71): its RETARGET flag. -/
def mayRetarget (p : Nat) (d : Dev) : Bool :=
  match d.img.bind (fun m => pickEntry m p) with
  | some (r, i) => bit (r.u P0303_FLAGS i) 5
  | none => false

/-- WRITE_HVAR (R229). -/
def doWriteHvar (vid value : Nat) (d : Dev) : SvcRes :=
  if 2 ^ 64 ≤ value then svcRefused 1 d
  else if !isActive d then svcRefused 5 d
  else if (hostVar vid d).isNone then svcRefused 6 d
  else svcAccepted (hvarPost vid value (edge d + 1) (hostItem 0x20 0 (leBytes 4 vid ++ leBytes 8 value) d))

def execWriteHvar (dt : Nat) (h : SvcHdr) (varId value : Nat) (s : State) : Host.Outcome State Fault Refusal :=
  svcCmd dt (.writeHvar 0 h varId value) h 0x0020 2 1 (doWriteHvar varId value) s

/-- W1C bits of a register cleared, but those that an event set on the present edge (R9); PLY_STATE.STOPPED, the FAULT of a task and
FAULTY of an interface act as their own rules say (R122, R244, R215). -/
def clearReg (r : Reg) (i mask : Nat) (d : Dev) : Dev :=
  let set := if d.w1cEdge = edge d + 1 then d.w1cSet.get 0 (r.addr i) else 0
  let m := mask &&& r.w1c
  let m := m - (m &&& set)
  let own (f : Fld) : Bool := r.base == f.reg.base && bit m f.lo
  let skip (f : Fld) (m : Nat) : Nat := if r.base = f.reg.base then setBits m f.lo 1 0 else m
  let g := skip PLY_STATE_STOPPED (skip SHU_TASK_STATE_FAULT (skip FBK_FB_FLAGS_FAULTY m))
  let v := rd r i d
  let d := settleFields (wr r i (v - (v &&& g)) d)
  d |> onlyIf (own PLY_STATE_STOPPED) (fun d => plyClearStopped i (hostItem 0x21 i (leBytes 4 (r.addr i) ++ leBytes 4 mask) d))
    |> onlyIf (own SHU_TASK_STATE_FAULT) (fun d => taskFaultClearAt i (hostItem 0x21 i (leBytes 4 (r.addr i) ++ leBytes 4 mask) d))
    |> onlyIf (own FBK_FB_FLAGS_FAULTY) (fbFaultyClearAt i)

/-- CLEAR_W1C (R9, R54): no field of the SAFE block. -/
def doClear (addr mask : Nat) (d : Dev) : SvcRes :=
  if 2 ^ 32 ≤ mask then svcRefused 1 d
  else if addr / 65536 = 0x11 then svcRefused 5 d
  else match regAt addr with
    | some (r, i) =>
      let m := mask * 2 ^ (8 * (addr - r.addr i))
      if addr % 4 ≠ 0 ∨ m &&& r.w1c = 0 then svcRefused 6 d else svcAccepted (clearReg r i m d)
    | none => svcRefused 6 d

def execClearW1c (dt : Nat) (h : SvcHdr) (addr mask : Nat) (s : State) : Host.Outcome State Fault Refusal :=
  svcCmd dt (.clearW1c 0 h addr mask) h 0x0021 2 1 (doClear addr mask) s

/-- PLY_STOPPED_CLEAR (R122): the CLEAR_W1C request for STOPPED of a ply. -/
def execPlyStoppedClear (dt : Nat) (h : SvcHdr) (ply : Nat) (s : State) : Host.Outcome State Fault Refusal :=
  svcCmd dt (.plyStoppedClear 0 h ply) h 0x0021 2 1 (fun d =>
    if 1024 ≤ ply then svcRefused 6 d else doClear (PLY_STATE.addr ply) (2 ^ PLY_STATE_STOPPED.lo) d) s

/-- TASK_FAULT_CLEAR (R244): the CLEAR_W1C request for FAULT of a task. -/
def execTaskFaultClear (dt : Nat) (h : SvcHdr) (task : Nat) (s : State) : Host.Outcome State Fault Refusal :=
  svcCmd dt (.taskFaultClear 0 h task) h 0x0021 2 1 (fun d =>
    if 8 ≤ task then svcRefused 6 d else doClear (SHU_TASK_STATE.addr task) (2 ^ SHU_TASK_STATE_FAULT.lo) d) s

/-- FB_FAULTY_CLEAR (R215): the CLEAR_W1C request for FAULTY of an interface. -/
def execFbFaultyClear (dt : Nat) (h : SvcHdr) (iface : Nat) (s : State) : Host.Outcome State Fault Refusal :=
  svcCmd dt (.fbFaultyClear 0 h iface) h 0x0021 2 1 (fun d =>
    if 24 ≤ iface then svcRefused 6 d else doClear (FBK_FB_FLAGS.addr iface) (2 ^ FBK_FB_FLAGS_FAULTY.lo) d) s

/-- The 16 bytes of a hank request (R265). -/
def hankReqBytes (q : HankReq) : List Nat :=
  leBytes 2 q.seq ++ [q.code, 0] ++ leBytes 2 q.recipe ++ leBytes 2 q.step ++ leBytes 4 q.tag ++ zeros 4

/-- HANK_REQUEST (R265, R266). -/
def doHankRequest (h : Nat) (q : HankReq) (d : Dev) : SvcRes :=
  if 2 ^ 16 ≤ q.seq ∨ 2 ^ 16 ≤ q.recipe ∨ 2 ^ 16 ≤ q.step ∨ 2 ^ 32 ≤ q.tag then svcRefused 1 d
  else if !isActive d then svcRefused 5 d
  else if q.seq = 0 ∨ q.code = 0 ∨ 3 < q.code ∨ (recAt 0x0A01 P0A01_HANK h d).isNone then svcRefused 6 d
  else if q.code = 2 ∧ hankState h d ≠ 0 then svcRefused 5 d
  else svcAccepted (postHank h true q (edge d + 1) (hostItem 0x30 h (hankReqBytes q) d))

def execHankRequest (dt : Nat) (h : SvcHdr) (hank : Nat) (req : HankReq) (s : State) : Host.Outcome State Fault Refusal :=
  svcCmd dt (.hankRequest 0 h hank req) h 0x0030 2 1 (doHankRequest hank req) s

/-- The stream that a transport record names (R330, R333). -/
def streamDefined (n : Nat) (d : Dev) : Bool := decide (n < 16) && (strEntry n d).isSome

/-- STREAM_ARM (R407). -/
def doStreamArm (n addr : Nat) (d : Dev) : SvcRes :=
  if 2 ^ 32 ≤ addr then svcRefused 1 d
  else if !streamDefined n d then svcRefused 6 d
  else
    let d := if get REC_STR_STATUS_STATE n d = 1 then strArm n addr (strEnd n d) else strArm n addr d
    { body := beBytes 4 (get REC_STR_ARM_ARM_ID n d), dev := d }

def execStreamArm (dt : Nat) (h : SvcHdr) (stream addr port : Nat) (s : State) : Host.Outcome State Fault Refusal :=
  svcCmd dt (.streamArm 0 h stream addr port) h 0x0040 2 1 (doStreamArm stream addr) s

/-- STREAM_DISARM (R407). -/
def doStreamDisarm (n : Nat) (d : Dev) : SvcRes :=
  if !streamDefined n d then svcRefused 6 d
  else match get REC_STR_STATUS_STATE n d with
    | 0 => okNone d
    | 1 => okNone (strState n 0 (strEnd n d))
    | _ => okNone (strState n 0 d)

def execStreamDisarm (dt : Nat) (h : SvcHdr) (stream : Nat) (s : State) : Host.Outcome State Fault Refusal :=
  svcCmd dt (.streamDisarm 0 h stream) h 0x0041 2 1 (doStreamDisarm stream) s

/-- TRACE_ARM (R131). -/
def doTraceArm (b : Nat) (d : Dev) : SvcRes :=
  match trcRec b d with
  | some r => okNone (trcArm b r d)
  | none => svcRefused 6 d

def execTraceArm (dt : Nat) (h : SvcHdr) (buffer : Nat) (s : State) : Host.Outcome State Fault Refusal :=
  svcCmd dt (.traceArm 0 h buffer) h 0x0042 2 1 (doTraceArm buffer) s

/-- TRACE_TRIGGER (R130). -/
def doTraceTrigger (b : Nat) (d : Dev) : SvcRes :=
  match trcRec b d with
  | some _ => svcAccepted (trcTrigger b d)
  | none => svcRefused 6 d

def execTraceTrigger (dt : Nat) (h : SvcHdr) (buffer : Nat) (s : State) : Host.Outcome State Fault Refusal :=
  svcCmd dt (.traceTrigger 0 h buffer) h 0x0043 2 1 (doTraceTrigger buffer) s

/-- PRODUCTION_LOCK holds on the active member of a pair (R54). -/
def productionLocked (d : Dev) : Bool :=
  pairState d == 6 && (d.img.map fun m => bit (hdrU m.hdr PHDR_FLAGS) 0).getD false

/-- The effect of a SHUTTLE_CTRL action on the tasks of a mask (R244): 1 HOLD, 2 SINGLE, 3 RESUME. -/
def shuttleCtrl (action tasks : Nat) (bk : List Nat) (d : Dev) : Dev :=
  forL ((List.range 8).filter (bit tasks ·)) (fun t d => match action with
    | 1 => taskHold t bk d
    | 2 => taskSingle t d
    | _ => taskResume t d) d

/-- SHUTTLE_CTRL (R244, R54). -/
def doShuttle (action tasks : Nat) (bk : List Nat) (d : Dev) : SvcRes :=
  if 256 ≤ tasks ∨ bk.any (65536 ≤ ·) then svcRefused 1 d
  else if productionLocked d then svcRefused 5 d
  else if 4 < bk.length ∨ (List.range 8).any (fun t => bit tasks t && (taskRec t d).isNone) then svcRefused 6 d
  else svcAccepted (shuttleCtrl action tasks bk (hostItem 0x50 tasks ([action, bk.length] ++ bk.flatMap (leBytes 2)) d))

/-- SHUTTLE_HOLD (R244). -/
def execShuttleHold (dt : Nat) (h : SvcHdr) (tasks : Nat) (bkpts : List Nat) (s : State) : Host.Outcome State Fault Refusal :=
  svcCmd dt (.shuttleHold 0 h tasks bkpts) h 0x0050 3 1 (doShuttle 1 tasks bkpts) s

/-- SHUTTLE_SINGLE_SCAN (R244). -/
def execShuttleSingleScan (dt : Nat) (h : SvcHdr) (tasks : Nat) (s : State) : Host.Outcome State Fault Refusal :=
  svcCmd dt (.shuttleSingleScan 0 h tasks) h 0x0050 3 1 (doShuttle 2 tasks []) s

/-- SHUTTLE_RESUME (R244). -/
def execShuttleResume (dt : Nat) (h : SvcHdr) (tasks : Nat) (s : State) : Host.Outcome State Fault Refusal :=
  svcCmd dt (.shuttleResume 0 h tasks) h 0x0050 3 1 (doShuttle 3 tasks []) s

/-! Fuses (R40). -/

/-- The first bit and the width of a fuse field (R39). -/
def fuseRange (field : Nat) : Option (Nat × Nat) :=
  match field with
  | 0 => some (0, 256)
  | 1 => some (256, 256)
  | 2 => some (512, 64)
  | 3 => some (576, 2)
  | 4 => some (578, 1)
  | 5 => some (640, 256)
  | _ => none

/-- Consecutive blown bits from bit 0 of `n` bits (R35). -/
def onesFrom : Nat → Nat → Nat
  | 0, _ => 0
  | n + 1, t => if t % 2 = 1 then 1 + onesFrom n (t / 2) else 0

/-- The FUSE registers hold the fuses as the loader copied them (R42). -/
def showFuses (fuses : Nat) (pgm : Bool) (d : Dev) : Dev :=
  d |> wr FUSE_KEY0 0 (bits fuses 0 256) |> wr FUSE_KEY1 0 (bits fuses 256 256) |> wr FUSE_ARB 0 (bits fuses 512 64)
    |> wr FUSE_SAFETY 0 (bits fuses 640 256)
    |> put FUSE_CFG_DEBUG_LEVEL 0 (bits fuses 576 2) |> put FUSE_CFG_SECURE_BOOT 0 (bits fuses 578 1)
    |> putB FUSE_CFG_KEY0_SET 0 (bits fuses 0 256 != 0) |> putB FUSE_CFG_KEY1_SET 0 (bits fuses 256 256 != 0)
    |> putB FUSE_CFG_SAFETY_SET 0 (bits fuses 640 256 != 0) |> putB FUSE_CFG_PGM_MODE 0 pgm
    |> put FUSE_CFG_ARB_COUNT 0 (onesFrom 64 (bits fuses 512 64))

/-- The fuses after a write of a field: 1 bits are blown, blown bits stay. -/
def blow (field value fuses : Nat) : Nat :=
  match fuseRange field with
  | some (lo, w) => setBits fuses lo w (bits fuses lo w ||| trunc w value)
  | none => fuses

/-- FUSE_WRITE (R40, R326): the field as read back. The FUSE_ registers follow at once, where R42 says only that the loader copies the fuses at a
start (DESIGN CHOICE, log entry 43). -/
def doFuse (fuses field value : Nat) (d : Dev) : SvcRes :=
  match fuseRange field with
  | none => svcRefused 6 d
  | some (lo, w) =>
    if 2 ^ w ≤ value then svcRefused 1 d
    else
      let f := blow field value fuses
      { body := beBytes ((w + 7) / 8) (bits f lo w), dev := showFuses f true d }

/-- FUSE_WRITE (R40). The fuses change when the request is a new one that programming mode accepts. -/
def execFuseWrite (dt : Nat) (h : SvcHdr) (field value : Nat) (s : State) : Host.Outcome State Fault Refusal :=
  let d := svcTake (.fuseWrite 0 h field value) h 0x00F0 3 3 (doFuse s.fuses field value) (advance dt s.dev)
  let k := slotOf h.session s.dev
  let took := (k.map fun k => decide ((d.eth.sess.get {} k).last ≠ (s.dev.eth.sess.get {} k).last) &&
    (d.eth.sess.get {} k).reply == svcBytes h.session 0x00F0 h.seq 0 (doFuse s.fuses field value s.dev).body).getD false
  .next { s with dev := d, fuses := if took then blow field value s.fuses else s.fuses }

end Sys2Proof.Machine
end

