-- ==== Sys2Proof/Machine/Commit.lean ====
section
/-! DEFINITION. The end of an activation (R88, R89, R96): the effects that it commits, its wait, and an activation that runs past
MAX_RUN. -/

namespace Sys2Proof.Machine

/-- One effect of thread `t`, whose activation began on edge `began` (R88). A planned doff is T1's alone (R466), and a set is staged by
the sequencer of its hank (R260). Only an active or unpaired unit writes mailboxes by itself (R451). -/
def commitEffect (t began : Nat) (e : Effect) (d : Dev) : Dev :=
  match e with
  | .hvar vid value => if isActive d then hvarPost vid (trunc 64 value) (edge d + 1) (hostItem 0x20 0 (leBytes 4 vid ++ leBytes 8 value) d) else d
  | .request h q => if isActive d then postHank h true q (edge d + 1) (hostItem 0x30 h (hankReqBytes q) d) else d
  | .item i => mirror i.item i.index i.stamp i.body d
  | .retarget p arm target => if mayRetarget p d then retargetPick p (trunc 64 target) arm d else d
  | .signal u => if u < 256 then wake u d else d
  | .doff kind index => if t = 1 then committedDoff kind index d else d
  | .stage => match hankOfThread t d with
    | some h => stageHank h began d
    | none => d

/-- The wait that ends an activation (R89, R95): a pending wake makes the thread READY at once; a delay of 1 to 2^32 − 1 ticks enters
the delay list, and a delay on tick 1 while it is disabled is refused. -/
def enterWait (t : Nat) (w : Wait) (d : Dev) : Dev :=
  let p := get CREEL_THREAD_STATUS_PENDING t d
  if p ≠ 0 then thrReady t (setThr t 1 (put CREEL_THREAD_STATUS_PENDING t (p - 1) d))
  else match w with
    | .wake => setThr t 1 d
    | .delay k n =>
      if n = 0 ∨ 2 ^ 32 ≤ n ∨ 1 < k ∨ (k = 1 ∧ get CREEL_STATUS_TICK1_EN 0 d = 0) then setThr t 1 d
      else setThr t 2 (thrMod t (fun y => { y with tick := k, until_ := tickCount k d + n }) d)

/-- A session whose thread ran past MAX_RUN ends with a service error (R96): a request that still waits is answered NO_SESSION. -/
def overrunSession (t : Nat) (d : Dev) : Dev :=
  match (openSlots d).find? fun k => get ETH_SVC_SESSION_THREAD k d == t with
  | none => d
  | some k =>
    let x := d.eth.sess.get {} k
    let h : SvcHdr := ⟨get ETH_SVC_HOST_ADDR k d, get ETH_SVC_HOST_UDP_PORT k d, get ETH_SVC_SESSION_SESSION k d, (x.last + 1) % 4294967296⟩
    endSession k (svcSend h (svcBytes h.session 0 h.seq 3 []) d)

/-- MAX_RUN_EXPIRY (R96): the activation is abandoned with OVERRUN; a sequencer's raises 0x0401, a Koresque thread's 0x0404, a
session's ends the session. -/
def maxRunExpiryAt (c : Nat) (d : Dev) : Dev :=
  match overrunning c d with
  | none => d
  | some t =>
    if !inRun d then d
    else
      let d := abandon t (put CREEL_THREAD_STATUS_OVERRUN t 1 d)
      if t < 8 then raise 0x0404 t d
      else if isRole1 t d then raise 0x0401 t d
      else overrunSession t d

/-- THREAD_WAIT_COMMIT (R88): the running activation of a core ends with its wait and commits all it holds; one that has run
longer than MAX_RUN is abandoned instead (R96). T2 does not run in a debug halt (R440). -/
def waitCommitAt (c : Nat) (effects : List Effect) (w : Wait) (d : Dev) : Dev :=
  match (coreX c d).run with
  | 0 => d
  | t + 1 =>
    if !inRun d || (t == 2 && d.unit.halted) then d
    else if pastLimit t d then maxRunExpiryAt c d
    else
      let began := (d.creel.threads.get {} t).began - 1
      let d := leaveCores t d
      let d := noteTime t d
      let d := forL effects (commitEffect t began) d
      let d := if t = 2 then safetyCommit d else d
      let d := thrMod t (fun y => { y with used := 0, began := 0 }) d
        |> bump CREEL_THREAD_COUNT_ACTIVATIONS t
      settleCores (enterWait t w d)

def execThreadWaitCommit (dt core : Nat) (effects : List Effect) (wait : Wait) (s : State) : Host.Outcome State Fault Refusal :=
  onDev dt (waitCommitAt core effects wait) s

def execMaxRunExpiry (dt core : Nat) (s : State) : Host.Outcome State Fault Refusal := onDev dt (maxRunExpiryAt core) s

end Sys2Proof.Machine
end

