-- ==== Sys2Proof/Machine/LineCode.lean ====
section
/-! DEFINITION. The line code of the Weft (R278): the 8b/10b code groups of IEEE 802.3 Clause 36, which R278 names and the spec does not
print (PRESUMED, log entry 102). A code group is ten bits abcdei fghj, bit a the most significant and sent first. -/

namespace Sys2Proof.Machine

/-- abcdei of D.0 to D.31 at negative running disparity. -/
def groups6 : List Nat :=
  [0b100111, 0b011101, 0b101101, 0b110001, 0b110101, 0b101001, 0b011001, 0b111000,
   0b111001, 0b100101, 0b010101, 0b110100, 0b001101, 0b101100, 0b011100, 0b010111]
  ++ [0b011011, 0b100011, 0b010011, 0b110010, 0b001011, 0b101010, 0b011010, 0b111010,
   0b110011, 0b100110, 0b010110, 0b110110, 0b001110, 0b101110, 0b011110, 0b101011]

/-- fghj of D.x.0 to D.x.7 at negative running disparity. -/
def groups4 : List Nat := [0b1011, 0b1001, 0b0101, 0b1100, 0b1101, 0b1010, 0b0110, 0b1110]

/-- The ones among the low `w` bits. -/
def onesOf (w n : Nat) : Nat := ((List.range w).filter fun k => n.testBit k).length

/-- The code group of a data byte at a running disparity (`true`: positive), and the disparity after it. -/
def codeGroup (plus : Bool) (b : Nat) : Nat × Bool :=
  let x := b % 32
  let y := b / 32 % 8
  let p := groups6.getD x 0
  let six := if plus && (onesOf 6 p != 3 || x == 7) then 63 - p else p
  let mid := plus != (onesOf 6 p != 3)
  let alt := y == 7 && (if mid then [11, 13, 14] else [17, 18, 20]).contains x
  let q := if alt then 0b0111 else groups4.getD y 0
  let four := if mid && (onesOf 4 q != 2 || y == 3) then 15 - q else q
  (16 * six + four, mid != (onesOf 4 q != 2))

/-- The code groups of data bytes from a running disparity on. -/
def codeGroups : Bool → List Nat → List Nat
  | _, [] => []
  | plus, b :: bs => let g := codeGroup plus b; g.1 :: codeGroups g.2 bs

/-- The start of frame (R283) at negative running disparity: K28.5, K28.5 and K27.7, which leave it negative. -/
def sofGroups : List Nat := [0b0011111010, 0b1100000101, 0b1101101000]

/-- A frame on the line (R278, R283): the start of frame, then the characters `bs`. -/
def frameLine (bs : List Nat) : List Nat := sofGroups ++ codeGroups false bs

/-- Bit `k` of a frame on the line, in the order sent. -/
def lineBit (gs : List Nat) (k : Nat) : Bool := (gs.getD (k / 10) 0).testBit (9 - k % 10)

end Sys2Proof.Machine
end

