-- ==== Sys2Proof/Machine/Loader.lean ====
section
/-! DEFINITION. The loader: header, records, authentication, anti-rollback, claims and the order of the
checks (R23 to R43, R509 to R511). -/

namespace Sys2Proof.Machine

/-- What a copy that passes gives: the image and the notes of R34 and R37. -/
structure Loaded where
  img : Img
  isUnsigned : Bool
  safetyUnset : Bool
  deriving DecidableEq, Repr

/-- The base of a copy in the flash (R23). -/
def copyBase (c : Nat) : Nat := if c = 0 then 0 else 0x800000

/-- A header is valid (R25): MAGIC, HDR_VERSION, HDR_SIZE and HEADER_CRC. -/
def headerValid (h : List Nat) : Bool :=
  h.take 4 == [0x4F, 0x43, 0x53, 0x4E] && hdrU h PHDR_HDR_VERSION == 1 && hdrU h PHDR_HDR_SIZE == 256 &&
  crc32c (h.take 252) == hdrU h PHDR_HEADER_CRC

/-- The bytes of an image behind its header: 256 to IMAGE_LENGTH − 1. -/
def bodyOf (mem : List Host.Cell) (base : Nat) (h : List Nat) : List Nat :=
  flashBytes mem (base + 256) (hdrU h PHDR_IMAGE_LENGTH - 256)

/-- The signed message (R32): the header with PUBLIC_KEY's neighbours SIGNATURE and HEADER_CRC zero. -/
def signedMessage (h : List Nat) : List Nat :=
  h.take 112 ++ zeros 64 ++ (h.drop 176).take 76 ++ zeros 4

/-- A fuse field (R39). -/
def fuseField (fuses lo w : Nat) : Nat := bits fuses lo w

/-- The anti-rollback count: consecutive blown bits of the thermometer from its bit 0 (R35). -/
def thermoCount : Nat → Nat → Nat
  | 0, _ => 0
  | n + 1, t => if t % 2 = 1 then 1 + thermoCount n (t / 2) else 0

/-- The count of R35 for the whole fuse array. -/
def arbCount (fuses : Nat) : Nat := thermoCount 64 (fuseField fuses 512 64)

/-- The signature, key slot and secure-boot checks (R32 to R34). -/
def authOk (fuses : Nat) (h : List Nat) : Bool :=
  let slot := hdrU h PHDR_KEY_SLOT
  if slot = 0xFF then fuseField fuses 578 1 == 0
  else if slot = 0 ∨ slot = 1 then
    let key := fuseField fuses (256 * slot) 256
    let x := beVal ((h.drop 48).take 32)
    let y := beVal ((h.drop 80).take 32)
    let r := beVal ((h.drop 112).take 32)
    let s := beVal ((h.drop 144).take 32)
    key != 0 && !(slot == 0 && fuseField fuses 256 256 != 0) &&
    sha256 ((h.drop 48).take 64) == key && ecdsaOk (sha256 (signedMessage h)) x y r s
  else false

/-- The rollback level lies between the count and 64 (R35). -/
def rollbackOk (fuses : Nat) (h : List Nat) : Bool :=
  let l := hdrU h PHDR_SEQUENCE / 2 ^ 24
  decide (arbCount fuses ≤ l ∧ l ≤ 64)

/-- Part and revision (R36). -/
def partOk (id : Ident) (h : List Nat) : Bool :=
  let p := hdrU h PHDR_PART
  p / 16 == 0x6A14816 && (p % 16 == 0 || p % 16 == 1) &&
  decide (hdrU h PHDR_MIN_SILICON ≤ id.major * 256 + id.minor) && decide (hdrU h PHDR_MIN_BUILD ≤ id.build)

/-- A record as it stands in a copy (R26): TYPE, BODY, BODY_CRC, whether it ends within IMAGE_LENGTH, and whether LENGTH is 4 or more and
its padding zero. -/
structure RawRec where
  typ : Nat
  body : List Nat
  crc : Nat
  whole : Bool
  formed : Bool
  deriving DecidableEq, Repr

/-- The records from the front of `bs`. One that runs past the end is the last, and has no BODY_CRC. -/
def takeRecords : Nat → List Nat → List RawRec
  | 0, _ => []
  | n + 1, bs =>
    if bs == [] then []
    else
      let len := leVal ((bs.drop 2).take 4)
      let size := (10 + len + 3) / 4 * 4
      let typ := leVal (bs.take 2)
      if bs.length < size then [⟨typ, [], 0, false, false⟩]
      else
        let pad := (bs.drop (10 + len)).take (size - 10 - len)
        ⟨typ, (bs.drop 6).take len, leVal ((bs.drop (6 + len)).take 4), true, decide (4 ≤ len) && pad.all (· == 0)⟩ ::
          takeRecords n (bs.drop size)

/-- The highest resource index of a class (R29, R494); `none` for a class that is not listed. -/
def classTop (cls : Nat) : Option Nat :=
  ([(0x01, 541), (0x02, 1023), (0x03, 15), (0x04, 1023), (0x05, 63), (0x06, 47), (0x07, 7), (0x08, 31), (0x09, 47),
    (0x0A, 5), (0x0B, 23), (0x0C, 31), (0x0D, 63), (0x0E, 0xFFFFFFFF), (0x0F, 127), (0x10, 255), (0x11, 7), (0x12, 255),
    (0x13, 7), (0x14, 31), (0x15, 15), (0x16, 35), (0x17, 7)].find? fun p => p.1 == cls).map (·.2)

/-- The claim list and payload of a body (R28); `none` when the list does not fit or is out of range. -/
def takeBody (idx typ : Nat) (body : List Nat) : Option Rec :=
  let n := leVal (body.take 2)
  if 4096 < n ∨ body.length < 4 + 8 * n ∨ leVal ((body.drop 2).take 2) ≠ 0 then none
  else
    let cs := (List.range n).map fun i =>
      let e := (body.drop (4 + 8 * i)).take 8
      (⟨leVal (e.take 1), leVal ((e.drop 1).take 1) == 1, leVal ((e.drop 2).take 2), leVal (e.drop 4)⟩, leVal ((e.drop 1).take 1))
    let ok (p : Claim × Nat) : Bool := decide (p.2 ≤ 1 ∧ 1 ≤ p.1.count ∧ p.1.count ≤ 4096) &&
      ((classTop p.1.cls).map fun top => decide (p.1.first + p.1.count ≤ top + 1)).getD false
    if cs.all ok then some ⟨idx, typ, cs.map (·.1), body.drop (4 + 8 * n)⟩ else none

/-! Claims (R30). -/

/-- What a record holds for the conflict check: class or kind, first, count, MODE 0, and the hank of kind 0x80. -/
def usesOf (r : Rec) : List (Nat × Nat × Nat × Bool × Nat) :=
  (r.claims.map fun c => (c.cls, c.first, c.count, !c.shared, 0)) ++
  (if r.typ = 0x0A02 then (recipePlies r).map fun p => (0x80, p, 1, true, r.u P0A02_HANK + 1) else []) ++
  (weftWords r).map fun w => (0x81, w, 1, true, 0)

/-- The lowest overlapping index of two uses, when they conflict. -/
def overlap (a b : Nat × Nat × Nat × Bool × Nat) : Option Nat :=
  let lo := max a.2.1 b.2.1
  if a.1 = b.1 ∧ lo < a.2.1 + a.2.2.1 ∧ lo < b.2.1 + b.2.2.1 ∧ (a.2.2.2.1 ∨ b.2.2.2.1 ∨ a.1 = 0x0E) ∧
     (a.1 ≠ 0x80 ∨ a.2.2.2.2 ≠ b.2.2.2.2) then some lo else none

/-- Every conflict of a pair of records, each as class or kind and lowest index, and once however many entries of the two name it: a record
holds a resource once. R30 does not say what FUSE_LDR_CONFLICTS counts as one conflict; this count is a DESIGN CHOICE (log entry 26). -/
def conflictsOf (a b : Rec) : List (Nat × Nat) :=
  ((usesOf a).flatMap fun x => (usesOf b).filterMap fun y => (overlap x y).map fun k => (x.1, k)).eraseDups

/-- The lowest class or kind, and within it the lowest index. -/
def leastPair : List (Nat × Nat) → Option (Nat × Nat)
  | [] => none
  | p :: ps => match leastPair ps with
    | none => some p
    | some q => if p.1 < q.1 ∨ (p.1 = q.1 ∧ p.2 < q.2) then some p else some q

/-- Pairs of records by the later index, then the earlier, with their conflicts. -/
def allConflicts (rs : List Rec) : List (Rec × Rec × List (Nat × Nat)) :=
  (rs.flatMap fun b => (rs.filter fun a => a.idx < b.idx).map fun a => (a, b, conflictsOf a b)).filter
    fun t => t.2.2 != []

/-- The claim check: the first conflict, and the count of all (R30, R481). -/
def claimCheck (rs : List Rec) : Option Reject :=
  let cs := allConflicts rs
  match cs with
  | [] => none
  | (a, b, l) :: _ =>
    let p := (leastPair l).getD (0, 0)
    some { code := 0x0209, obj := b.idx, aux := some p.1, value := toInt 48 (a.idx + p.2 * 0x10000),
           conflicts := (cs.map fun t => t.2.2.length).foldl (· + ·) 0 }

/-! The two steps. -/

/-- Start-up step 4 over one copy, in the order of R511. -/
def step4 (fuses : Nat) (id : Ident) (h body : List Nat) : Option Reject :=
  if sha256 body ≠ beVal ((h.drop 176).take 32) then some { code := 0x0203 }
  else if !authOk fuses h then some { code := 0x0204 }
  else if !rollbackOk fuses h then some { code := 0x0205 }
  else if !partOk id h then some { code := 0x0206 }
  else
    let dig := fuseField fuses 640 256
    match (takeRecords body.length body).find? fun r => r.typ == 0x1101 && r.whole with
    | some r => if dig ≠ 0 ∧ sha256 r.body ≠ dig then some { code := 0x020F } else none
    | none => none

/-- The first of a list of optional rejections. -/
def firstReject : List (Option Reject) → Option Reject
  | [] => none
  | some r :: _ => some r
  | none :: l => firstReject l

/-- Start-up step 5 over one copy, in the order of R511. `changed` says that the flash's content changed
between the two reads (R44). DESIGN CHOICE (log entry 26): header FLAGS above bit 1, reserved header bytes that are not zero, and a length
outside R24, for which no rule names a step or a code, are judged with the header's record count. -/
def step5 (id : Ident) (h body : List Nat) (changed : Bool) : Except Reject Img :=
  let raw := takeRecords body.length body
  let idx := List.range raw.length
  let framed := idx.zip raw
  match framed.find? fun r => r.2.whole && crc32c r.2.body != r.2.crc with
  | some r => .error { code := 0x0202, obj := r.1 }
  | none =>
    if changed then .error { code := 0x0203 }
    else
      let len := hdrU h PHDR_IMAGE_LENGTH
      let countOk := raw.length == hdrU h PHDR_RECORD_COUNT && decide (1 ≤ raw.length ∧ raw.length ≤ 65535 ∧ len % 4 = 0 ∧ 512 ≤ len ∧ len ≤ 8388608) &&
        decide (hdrU h PHDR_FLAGS < 4) && ((h.drop 45).take 3).all (· == 0) && ((h.drop 240).take 12).all (· == 0)
      let opt := framed.map fun r => (r.1, if r.2.formed then takeBody r.1 r.2.typ r.2.body else none)
      let img : Img := ⟨h, opt.filterMap (·.2)⟩
      let ordered (i : Nat) : Bool := i == 0 || decide (((raw[i - 1]?).map (·.typ)).getD 0 ≤ ((raw[i]?).map (·.typ)).getD 0)
      let recCheck (p : Nat × Option Rec) : Option Reject :=
        match p.2 with
        | none => some { code := 0x0207, obj := p.1 }
        | some r =>
          if !ordered p.1 then some { code := 0x0207, obj := p.1 }
          else if r.typ = 0x0211 ∧ r.u P0211_BASE_BUILD ≠ id.build then some { code := 0x0206, obj := p.1 }
          else if checkRec img r then none else some { code := 0x0207, obj := p.1 }
      match firstReject (opt.map recCheck) with
      | some e => .error e
      | none =>
        if !countOk then .error { code := 0x0207, obj := 0xFFFF }
        else
          match firstReject (typeCount img ++ [claimCheck img.recs, placementCheck img]) with
          | some e => .error e
          | none => .ok img

/-- Both steps over one copy. -/
def loadCopy (fuses : Nat) (id : Ident) (mem : List Host.Cell) (base : Nat) (changed : Bool) : Except Reject Loaded :=
  let h := flashBytes mem base 256
  let body := bodyOf mem base h
  match step4 fuses id h body with
  | some e => .error e
  | none =>
    match step5 id h body changed with
    | .error e => .error e
    | .ok img => .ok ⟨img, hdrU h PHDR_KEY_SLOT == 0xFF, fuseField fuses 640 256 == 0⟩

/-- The rejection's event (R480, R481): AUX names the copy but for 0x0209. -/
def Reject.raise (e : Reject) (copy : Nat) (d : Dev) : Dev :=
  (Sys2Proof.Machine.raise e.code e.obj d (e.aux.getD copy) e.value)
    |> put FUSE_LDR_CONFLICTS_COUNT 0 e.conflicts

/-- The order in which the copies are tried (R43): valid headers, the higher SEQUENCE first, A on a tie. -/
def tryOrder (mem : List Host.Cell) : List Nat :=
  let ha := flashBytes mem 0 256
  let hb := flashBytes mem 0x800000 256
  let va := headerValid ha
  let vb := headerValid hb
  if va && vb then (if hdrU ha PHDR_SEQUENCE < hdrU hb PHDR_SEQUENCE then [1, 0] else [0, 1])
  else if va then [0] else if vb then [1] else []

/-- The copies tried in turn: the first that passes, with the events of those abandoned; bit `c` of `changed` says that copy `c` changed
between its two reads. -/
def tryCopies (fuses : Nat) (id : Ident) (changed : Nat) : List Nat → Dev → Dev × Option (Nat × Loaded)
  | [], d => (d, none)
  | c :: cs, d =>
    match loadCopy fuses id d.flash (copyBase c) (bit changed c) with
    | .ok l => (put FUSE_LDR_CONFLICTS_COUNT 0 0 d, some (c, l))
    | .error e => tryCopies fuses id changed cs (e.raise c d)

/-- The copy choice of steps 3 to 5 (R43): each invalid header is skipped with 0x0201. -/
def chooseCopy (fuses : Nat) (id : Ident) (changed : Nat) (d : Dev) : Dev × Option (Nat × Loaded) :=
  let order := tryOrder d.flash
  let d := forL [0, 1] (fun c d => if order.contains c then d
    else Sys2Proof.Machine.raise 0x0201 0 d c) d
  let (d, r) := tryCopies fuses id changed order d
  match order with
  | first :: _ => (putB FUSE_LDR_STATE_FALLBACK 0 (r.all fun p => p.1 != first) d, r)
  | [] => (d, r)

end Sys2Proof.Machine
end

