-- ==== Sys2Proof/Machine/Sample.lean ====
section
/-! DEFINITION. Samples of a measure (R63 to R65), the crossings they show or predict (R73), and the error
bound (R75). -/

namespace Sys2Proof.Machine

/-- A position of a measure's source after REVERSE and PHASE_OFFSET (R63). -/
def measFinal (r : Rec) (p : Int) : Int :=
  let p := if r.b P0302_FLAGS 0 then -p else p
  if r.u P0302_KIND = 2 then p + r.u P0302_PHASE_OFFSET else p

/-- A 48.16 count as the position of a measure of sources 5 to 7 (R63). -/
def measCount (r : Rec) (p : Int) : Int :=
  let cpr := r.u P0302_COUNTS_PER_REV
  if cpr = 0 then p else divHalfUp (p * 65536) cpr

/-- The crossing that two samples show from `a` to `b`, with its direction (R66, R73). -/
def crossingShown (pk : Nat) (a b : Int) (d : Dev) : Option (Int × Bool) :=
  let up := decide (a < b)
  if a = b ∨ !dirAllows pk up d then none
  else
    let t := get REEL_PICK_TARGET_TARGET pk d
    let x : Int := if flag REEL_PICK_CFG_ANGLE_ONLY pk d then
        (if up then b - (b - t) % 4294967296 else b + ((t : Int) - b) % 4294967296) else toInt 64 t
    if (if up then decide (a < x ∧ x ≤ b) else decide (b ≤ x ∧ x < a)) then some (x, up) else none

/-- An armed pick judged from a new sample at `p`, the one before it at `q` (R73, R65): a crossing shown and not fired for
fires at once, late in RUN; otherwise it is predicted. "From the first new sample onward" (R72) takes in the sample that brings RUN
with the way to it from the sample before: a crossing there fires, late (DESIGN CHOICE, log entry 61). -/
def judgePick (m pk : Nat) (q p : Int) (d : Dev) : Dev :=
  let x := d.pick.get {} pk
  let passed : Bool := match x.fired with
    | some (t, up) => if up then decide (t ≤ p) else decide (p ≤ t)
    | none => true
  let start := if q < p then max q x.armPos else if p < q then min q x.armPos else q
  let d1 : Dev := { d with pick := d.pick.put pk { x with armPos := p, fired := if passed then none else x.fired } }
  if !pickArmed pk d then d1
  else if !passed then
    { d1 with pick := d1.pick.put pk { d1.pick.get {} pk with predAt := none, due := 0 } } |> put REEL_PICK_STATUS_STATE pk 2
  else
    let beyond (t : Int) (up : Bool) : Bool := match x.fired with
      | some (f, fup) => up != fup || (if up then decide (f < t) else decide (t < f))
      | none => true
    match (if (q < p ∧ start < p) ∨ (p < q ∧ p < start) then crossingShown pk start p d else none) with
    | some (t, up) =>
      if beyond t up then
        let late := get REEL_MEAS_STATUS_STATE m d == 2
        { d1 with pick := d1.pick.put pk { d1.pick.get {} pk with predAt := none, due := if late then 2 else 1 } }
          |> put REEL_PICK_STATUS_STATE pk 2
      else predictPick pk d1
    | none =>
      if get REEL_MEAS_STATUS_STATE m d = 2 then predictPick pk d1
      else { d1 with pick := d1.pick.put pk { d1.pick.get {} pk with predAt := none } } |> put REEL_PICK_STATUS_STATE pk 2

/-- e_max of R74 in nanoseconds (R75, R512), from the last four samples and the rate; saturated where the bound does not
hold. Positions in raw units, times in sixteenths. -/
def errorBound (r : Rec) (smp : List Sample) : Nat :=
  match smp with
  | s0 :: s1 :: _ :: _ :: _ =>
    let aj := Config.estimateAJ (smp.map fun s => (s.t, s.p))
    let a := |aj.1|
    let j := |aj.2|
    let v : Rat := |(s0.r : Rat)| / (6400 * 4294967296)
    let ts : Rat := (s0.t : Int) - s1.t
    let h := ts + 640
    let cpr := r.u P0302_COUNTS_PER_REV
    let unit : Rat := if cpr ≠ 0 then 4294967296 / cpr else 65536
    let enc := r.u P0302_SOURCE = 5 ∨ r.u P0302_SOURCE = 6 ∨ r.u P0302_SOURCE = 7
    let q : Rat := if enc then (r.u P0302_EDGE_ERROR : Rat) / 256 * unit else 0
    let u : Rat := if enc then 1 else (r.u P0302_STAMP_UNCERT : Rat) * 32 / 5
    let den := v - j * ts ^ 2 / 3
    if den ≤ 0 then 0xFFFFFFFF
    else
      let e := (a * h ^ 2 / 2 + j * (h ^ 3 / 6 + ts ^ 2 * h / 3)) / den + 5 * (q / v + u) + 32
      satU 32 (ratHalfUp (e * 5 / 32)).toNat
  | _ => 0xFFFFFFFF

/-- The state after a sample in RUN or SLOW (R65), with 0x0302. -/
def measState (m : Nat) (r : Rec) (rate : Int) (d : Dev) : Dev :=
  let slow := decide (rate.natAbs < r.u P0302_RATE_MIN)
  d |> put REEL_MEAS_STATUS_STATE m (if slow then 3 else 2)
    |> clearFault 0x0301 m
    |> onlyIf (decide (r.u P0302_RATE_MAX < rate.natAbs)) (fun d => stick REEL_MEAS_STATUS_RATE_RANGE m 0x0302 m d 0 rate.natAbs)

/-- A sample of measure `m` with stamp `t` and position `p` (R64, R65, R73, R75). -/
def measTake (m : Nat) (r : Rec) (t : Nat) (p : Int) (d : Dev) : Dev :=
  let x := d.meas.get {} m
  let st := get REEL_MEAS_STATUS_STATE m d
  if st = 0 then d
  else if st ≠ 4 ∧ (x.smp.head?.map (·.t)) = some t then
    { d with meas := d.meas.put m { x with lastEdge := edge d } }
  else
    let old := if st = 4 then [] else x.smp
    let rate : Option Int := match old with
      | b :: a :: _ => some (rateOfSlope (parabolaRate t b.t a.t p b.p a.p))
      | _ => none
    let s : Sample := ⟨t, p, rate.getD 0⟩
    let d1 := { d with meas := d.meas.put m { x with smp := (s :: old).take 4, lastEdge := edge d, ever := true } }
      |> put REEL_MEAS_SAMPLE_STAMP m t |> putS REEL_MEAS_SAMPLE_POS m p
    match rate with
    | none => put REEL_MEAS_STATUS_STATE m 1 d1 |> put REEL_MEAS_EBOUND_NS m 0xFFFFFFFF
    | some v =>
      let picks := (List.range 1024).filter fun k => pickUsed k d && pickMeas k d == m
      let q := ((old.head?.map (·.p)).getD p)
      d1 |> putS REEL_MEAS_RATE_RATE m v |> measState m r v
        |> put REEL_MEAS_EBOUND_NS m (errorBound r ((s :: old).take 4))
        |> forL picks (fun k d => judgePick m k q p d)

/-! Zero crossings (sources 3 and 4). -/

/-- The next crossing count after the last one kept, in half revolutions (R64). -/
def nextCrossing (last : Option Int) (rising : Bool) : Int :=
  match last with
  | none => if rising then 0 else 1
  | some k => if (k % 2 == 0) == rising then k + 2 else k + 1

/-- A zero crossing of measure `m` stamped `t` (R64). -/
def zeroCross (m : Nat) (r : Rec) (rising : Bool) (t : Nat) (d : Dev) : Dev :=
  let x := d.meas.get {} m
  let st := get REEL_MEAS_STATUS_STATE m d
  if st = 0 ∨ (st ≠ 4 ∧ (x.smp.head?.map (·.t)) = some t) then measTake m r t 0 d
  else
    let k := nextCrossing x.crossing rising
    measTake m r t (measFinal r (k * 2147483648)) { d with meas := d.meas.put m { x with crossing := some k } }

/-- An edge of a general I/O pin as the measures of source 3 see it. -/
def measPinEdge (pin : Nat) (level : Bool) (stamp : Nat) (r : Rec) (d : Dev) : Dev :=
  if r.u P0302_SOURCE = 3 ∧ r.u P0302_SOURCE_INDEX = pin ∧ (level ∨ r.b P0302_FLAGS 1) then
    zeroCross (r.u P0302_MEASURE) r level stamp d
  else d

/-- A value of an ADC strand as the measures of source 4 see it: a sign change, its instant interpolated (R63). -/
def measAdc (id t : Nat) (v : Int) (r : Rec) (d : Dev) : Dev :=
  if r.u P0302_SOURCE ≠ 4 ∨ r.u P0302_SOURCE_INDEX ≠ id then d
  else
    let m := r.u P0302_MEASURE
    let x := d.meas.get {} m
    let d1 : Dev := { d with meas := d.meas.put m { x with adc := some (t, v) } }
    match x.adc with
    | none => d1
    | some (t0, v0) =>
      if decide (v0 < 0) = decide (v < 0) then d1
      else
        let at_ := (t0 : Int) + ratHalfUp ((((t : Int) - t0) * -v0 : Int) / ((v - v0 : Int) : Rat))
        zeroCross m r (decide (v0 < 0)) at_.toNat d1

/-! Sources 5 to 7. -/

/-- The actual position of an axis as a measure follows it, from its feedback interface: stamp and 48.16 count. -/
def axisMeas (a : Nat) (d : Dev) : Option (Nat × Int) :=
  match axisRec a d with
  | some q =>
    let n := q.u P0601_FB_INDEX
    let neg (v : Int) : Int := if q.b P0601_FLAGS 0 then -v else v
    let off := getS MOT_AX_HOME_OFFSET_OFFSET a d
    if q.u P0601_FB_SOURCE = 0 then
      (if flag FBK_FB_FLAGS_FAULTY n d then none else some (fbStamp n d, neg (fbCount n d) + off))
    else none
  | none => none

/-- MEASURE_SAMPLE_PERIOD (R63, R64): the count at the last edge accepted before the instant, once SAMPLE_PERIOD has passed. The
periods count from start-up step 6 (DESIGN CHOICE, log entry 61). -/
def measureSamplePeriodAt (m : Nat) (d : Dev) : Dev :=
  match (measRec m d).filter fun _ => decide ((d.meas.get {} m).due2 ≤ 5 * edge d) with
  | some r =>
    let d : Dev := { d with meas := d.meas.put m { d.meas.get {} m with due2 := (d.meas.get {} m).due2 + 2 * r.u P0302_SAMPLE_PERIOD } }
    let k := r.u P0302_SOURCE_INDEX
    match (if r.u P0302_SOURCE = 5 then axisMeas k d
           else if r.u P0302_SOURCE = 6 ∧ ¬ flag FBK_FB_FLAGS_FAULTY k d then some (fbStamp k d, fbCount k d) else none) with
    | some (t, p) => measTake m r t (measFinal r (measCount r p)) d
    | none => d
  | none => d

def execMeasureSamplePeriod (dt measure : Nat) (s : State) : Host.Outcome State Fault Refusal :=
  onDev dt (measureSamplePeriodAt measure) s

/-- MEASURE_LOST_TIMEOUT (R65): no sample for LOST_TIMEOUT, which runs from start-up step 6. -/
def measureLostTimeoutAt (m : Nat) (d : Dev) : Dev :=
  match measRec m d with
  | some r =>
    if !isTime m d ∧ r.u P0302_LOST_TIMEOUT * 400 ≤ since (d.meas.get {} m).lastEdge d then measLost m d else d
  | none => d

def execMeasureLostTimeout (dt measure : Nat) (s : State) : Host.Outcome State Fault Refusal :=
  onDev dt (measureLostTimeoutAt measure) s

/-- A delivery of the feedback strand of an axis with FB_SOURCE 1, as a measure on that axis sees it (R64): the frame's
stamp and the extended count after the reading. -/
def measDelivery (ids : List Nat) (stamp : Nat) (r : Rec) (d : Dev) : Dev :=
  match (if r.u P0302_SOURCE = 5 then axisRec (r.u P0302_SOURCE_INDEX) d else none) with
  | some q =>
    let n := q.u P0601_FB_INDEX
    if q.u P0601_FB_SOURCE = 1 ∧ ids.contains n ∧ ¬ strandStale n d then
      let a := q.u P0601_AXIS
      let x := d.axes.get {} a
      let w := q.u P0601_FB_BITS
      let diff := match x.reading with
        | some u => toInt w (ofInt w ((strandId n d % 2 ^ w : Nat) - (u : Int)))
        | none => 0
      let p := x.ext + (if q.b P0601_FLAGS 0 then -diff else diff) * 65536 + getS MOT_AX_HOME_OFFSET_OFFSET a d
      measTake (r.u P0302_MEASURE) r stamp (measFinal r (measCount r p)) d
    else d
  | none => d

/-- SSI_READ_COMPLETE (R214): the read is checked, and a good one is a sample of the measures of source 7 on it. -/
def ssiReadCompleteAt (n : Nat) (bs : List Bool) (d : Dev) : Dev :=
  match fbRec n d with
  | some r =>
    if r.u P0801_MODE = 3 ∧ (d.fbs.get {} n).busy ∧ ssiEdges r ≤ since (d.fbs.get {} n).readEdge d then
      let q := ssiFinish n r bs d
      if q.1 then
        forL (recsOf 0x0302 q.2) (fun r d => if r.u P0302_SOURCE = 7 ∧ r.u P0302_SOURCE_INDEX = n then
          measTake (r.u P0302_MEASURE) r (fbStamp n d) (measFinal r (measCount r (fbCount n d))) d else d) q.2
      else q.2
    else d
  | none => d

def execSsiReadComplete (dt iface : Nat) (bits : List Bool) (s : State) : Host.Outcome State Fault Refusal :=
  onDev dt (ssiReadCompleteAt iface bits) s

/-- The measures at start-up step 6 (R65): time measures run, the others start with their samples cleared. -/
def measStart (d : Dev) : Dev :=
  forL (recsOf 0x0302 d) (fun r d =>
    let m := r.u P0302_MEASURE
    let time := r.u P0302_SOURCE == 1 || r.u P0302_SOURCE == 2
    { d with meas := d.meas.put m { lastEdge := edge d, due2 := 5 * edge d + 2 * r.u P0302_SAMPLE_PERIOD } }
      |> put REEL_MEAS_STATUS_KIND m (r.u P0302_KIND) |> put REEL_MEAS_STATUS_SOURCE m (r.u P0302_SOURCE)
      |> put REEL_MEAS_STATUS_STATE m (if time then 2 else 1)) d

end Sys2Proof.Machine
end

