-- ==== Sys2Proof/Machine/LoopPort.lean ====
section
/-! DEFINITION. The loop ports (R349 to R352) and their HART master (R353 to R356). -/

namespace Sys2Proof.Machine

/-- A port's record. -/
def loopRec (n : Nat) (d : Dev) : Option Rec := recAt 0x0E01 P0E01_PORT n d

/-- A port. -/
def loopX (n : Nat) (d : Dev) : LoopX := d.loops.get {} n

/-- A port changed. -/
def loopMod (n : Nat) (f : LoopX → LoopX) (d : Dev) : Dev := { d with loops := d.loops.put n (f (loopX n d)) }

/-- The status of a port in its register and on its strand (R357). -/
def setLoop (n st : Nat) (d : Dev) : Dev := putStrands [(0xE008 + n, st)] (put LPP_P_STATE_STATUS n st d)

/-! Measurement (R350, R355). -/

/-- x of R350 in Q1.31 from the converter's mean voltage in units of 2.5 V × 2^-31: the current over 32 mA in INPUT, the voltage in
AC_SENSE. -/
def loopRaw (r : Rec) (v : Int) : Int :=
  if r.u P0E01_MODE = 1 then clampQ (divHalfUp (v * 15625) (2 * max 1 (r.u P0E01_R_SENSE))) else clampQ v

/-- The published value of R350. -/
def loopValue (r : Rec) (x : Int) : Int := clampQ (rnd (r.s P0E01_GAIN * x) + r.s P0E01_OFFSET)

/-- The measured current in µA. -/
def loopMicro (r : Rec) (v : Int) : Int := divHalfUp (v * 250000000) (2147483648 * max 1 (r.u P0E01_R_SENSE))

/-- LP_CONVERSION (R350): a conversion ends, every 100 µs or every 10 µs in AC_SENSE; the measures of source 4 on the port see it. -/
def lpConversionAt (n : Nat) (v : Int) (d : Dev) : Dev :=
  match loopRec n d with
  | none => d
  | some r =>
    let gap := if r.u P0E01_MODE = 3 then 4000 else 40000
    let x := loopX n d
    if r.u P0E01_MODE = 2 ∨ (x.conv ≠ [] ∧ edge d < x.convEdge + gap) then d
    else
      let d := loopMod n (fun x => { x with conv := ((now d, v) :: x.conv).take 4, convEdge := edge d }) d
      let t := ((now d : Int) + chanDelay (152 + n) d).toNat
      forL (recsOf 0x0302 d) (fun q d => measAdc (0xE000 + n) t (loopValue r (loopRaw r v)) q d) d

def execLpConversion (dt port : Nat) (value : Int) (s : State) : Host.Outcome State Fault Refusal :=
  onDev dt (lpConversionAt port value) s

/-- The status of an INPUT port after a sample (R350, R355). -/
def loopStatus (n : Nat) (r : Rec) (micro : Int) (d : Dev) : Dev :=
  let mark (b : Bool) (d : Dev) := markStale (0xE000 + n) b (markStale (0xE010 + n) b d)
  if r.b P0E01_FLAGS 1 then mark true (setLoop n 4 d)
  else if micro < r.u P0E01_LOW_ALARM then mark true (raise 0x0E01 n (setLoop n 1 (put LPP_P_FLAGS_LOW n 1 d)) 0 micro)
  else if (r.u P0E01_HIGH_ALARM : Int) < micro then mark true (raise 0x0E01 n (setLoop n 2 (put LPP_P_FLAGS_HIGH n 1 d)) 0 micro)
  else mark false (clearFault 0x0E01 n (setLoop n 0 d))

/-- A sample of an INPUT or AC_SENSE port (R350): the last conversion that ended at or before the stamp less d_c. -/
def loopTake (n t : Nat) (r : Rec) (d : Dev) : Dev :=
  let lim := (t : Int) - chanDelay (152 + n) d
  match (loopX n d).conv.find? fun c => decide ((c.1 : Int) ≤ lim) with
  | none => d
  | some (_, v) =>
    let d := putStrandsS [(0xE000 + n, loopValue r (loopRaw r v))] d
    if r.u P0E01_MODE = 1 then loopStatus n r (loopMicro r v) (putStrandsS [(0xE010 + n, loopMicro r v)] d)
    else setLoop n 0 d

/-- An output port takes its command (R351); a debug halt keeps the one in force. -/
def loopCommand (n : Nat) (r : Rec) (d : Dev) : Dev :=
  if d.unit.halted then d
  else
    let x := toInt 32 (strandBefore (r.u P0E01_SOURCE_STRAND % 0x100000) d)
    let v := loopValue r x
    let micro := divHalfUp (v * 32000) 2147483648
    let lim := clampI (r.u P0E01_OUT_MIN) (r.u P0E01_OUT_MAX) micro
    d |> putStrandsS [(0xE000 + n, v), (0xE010 + n, lim)] |> onlyIf (lim != micro) (put LPP_P_FLAGS_CMD_LIMIT n 1)
      |> onlyIf (get LPP_P_STATE_STATUS n d == 5) (setLoop n 0)

/-- What LPn_GATE makes the pass transistor carry, in µA; none holds it off: without a record, in another mode, before the first command, and
in a standby (R349, R351). -/
def loopGate (n : Nat) (d : Dev) : Option Int :=
  match loopRec n d with
  | some r => if r.u P0E01_MODE = 2 ∧ get LPP_P_STATE_STATUS n d ≠ 5 ∧ ¬ isStandby d then some (toInt 64 (strandId (0xE010 + n) d)) else none
  | none => none

/-- A SAMPLE firing of a group at stamp `t`, as the loop ports take it. -/
def loopSample (group t : Nat) (d : Dev) : Dev :=
  forL (recsOf 0x0E01 d) (fun r d =>
    if r.u P0E01_SAMPLE_GROUP ≠ group then d
    else if r.u P0E01_MODE = 2 then loopCommand (r.u P0E01_PORT) r d else loopTake (r.u P0E01_PORT) t r d) d

/-- LP_HEADROOM_SET (R352): the regulator has stood at its limit for 1 ms. -/
def lpHeadroomSetAt (n : Nat) (d : Dev) : Dev :=
  if (loopRec n d).elim true (fun r => r.u P0E01_MODE != 2) then d
  else d |> loopMod n (fun x => { x with limEdge := edge d }) |> put LPP_P_STATE_HEADROOM_NOW n 1 |> setLoop n 3 |> (fun d => stick LPP_P_FLAGS_HEADROOM n 0x0E03 n d)

def execLpHeadroomSet (dt port : Nat) (s : State) : Host.Outcome State Fault Refusal := onDev dt (lpHeadroomSetAt port) s

/-- LP_HEADROOM_CLEAR (R352): 10 ms without the condition. -/
def execLpHeadroomClear (dt port : Nat) (s : State) : Host.Outcome State Fault Refusal :=
  onDev dt (fun d => if get LPP_P_STATE_STATUS port d = 3 ∧ 4000000 ≤ since (loopX port d).limEdge d then setLoop port 0 (put LPP_P_STATE_HEADROOM_NOW port 0 d) else d) s

/-! HART (R353 to R356). -/

/-- The poll record of a port with HART. -/
def pollRec (n : Nat) (d : Dev) : Option Rec :=
  if (loopRec n d).elim false (fun r => r.b P0E01_FLAGS 0) then (recsOf 0x0E02 d).find? fun r => r.uAt 0 1 == n else none

/-- An entry is due (R354). -/
def pollDue (n : Nat) (r : Rec) (i : Nat) (d : Dev) : Bool :=
  let b := (loopX n d).began.get 0 i
  b == 0 || decide (r.u P0E02_PERIOD i * 400000 ≤ since (b - 1) d)

/-- The request of an entry: preambles, long-frame delimiter, address, command, length, data, checksum (R353). -/
def hartRequest (r : Rec) (i : Nat) : List Nat :=
  let body := [0x82] ++ r.bytes (8 + 44 * i) 5 ++ [r.u P0E02_COMMAND i, r.u P0E02_REQ_LEN i] ++ r.bytes (20 + 44 * i) (r.u P0E02_REQ_LEN i)
  List.replicate (r.uAt 2 1) 0xFF ++ body ++ [body.foldl (· ^^^ ·) 0]

/-- A request of entry `i` begins. -/
def hartBegin (n : Nat) (r : Rec) (i : Nat) (d : Dev) : Dev :=
  d |> loopMod n (fun x => { x with phase := 1, entry := i, edge := edge d, began := x.began.put i (edge d + 1) })
    |> put LPP_P_STATE_ENTRY n i |> send .hart n (hartRequest r i)

/-- The next due entry in round-robin order is served, when the port is idle. A standby sends no request (R356). -/
def hartServe (n : Nat) (d : Dev) : Dev :=
  match pollRec n d with
  | none => d
  | some r =>
    let k := r.uAt 1 1
    let x := loopX n d
    if x.phase ≠ 0 ∨ isStandby d ∨ k = 0 then d
    else if x.again then hartBegin n r x.entry (loopMod n (fun x => { x with again := false }) d)
    else match ((List.range k).map fun j => (x.entry + 1 + j) % k).find? fun i => pollDue n r i d with
      | none => d
      | some i => hartBegin n r i (loopMod n (fun x => { x with fails := 0 }) d)

/-- HART_POLL_DUE (R354): an entry is due. -/
def execHartPollDue (dt port entry : Nat) (s : State) : Host.Outcome State Fault Refusal :=
  onDev dt (fun d => match pollRec port d with
    | some r => if entry < r.uAt 1 1 ∧ pollDue port r entry d then hartServe port d else d
    | none => d) s

/-- HART_REQUEST_SENT (R354): the response timer starts. -/
def execHartRequestSent (dt port : Nat) (s : State) : Host.Outcome State Fault Refusal :=
  onDev dt (fun d => if (loopX port d).phase = 1 then loopMod port (fun x => { x with phase := 2, edge := edge d }) d else d) s

/-- The strands that an entry maps to. -/
def entryStrands (n : Nat) (r : Rec) (i : Nat) : List Nat :=
  (List.range (r.u P0E02_MAP_COUNT i)).map fun k => 0xE040 + 16 * n + r.uAt (39 + 44 * i + 4 * k) 1

/-- Silence begins (R354). -/
def hartQuiet (n : Nat) (again : Bool) (d : Dev) : Dev :=
  loopMod n (fun x => { x with phase := 3, edge := edge d, again := again }) d

/-- A frame is a response to the request of entry `i`: delimiter, address, command, length and checksum are right (R353, R354). -/
def hartGood (r : Rec) (i : Nat) (bs : List Nat) : Bool :=
  bs.head? == some 0x86 && (bs.drop 1).take 5 == r.bytes (8 + 44 * i) 5 && bs.getD 6 0 == r.u P0E02_COMMAND i &&
    bs.length == 9 + bs.getD 7 0 && decide (2 ≤ bs.getD 7 0) && bs.foldl (· ^^^ ·) 0 == 0

/-- A burst frame, or a frame of the secondary master: bit 7 of the address is the primary master's (log entry 41). -/
def hartForeign (bs : List Nat) : Bool :=
  let dl := bs.getD 0 0 % 8
  dl == 1 || dl == 2 || (dl == 6 && !bit (bs.getD 1 0) 7)

/-- HART_RESPONSE_RX (R353, R354, R356): a good response is mirrored and waits for its delivery; a bad one counts as none. -/
def hartResponseRxAt (n : Nat) (bs : List Nat) (parityOk : Bool) (d : Dev) : Dev :=
  match pollRec n d with
  | none => d
  | some r =>
    let x := loopX n d
    if parityOk && hartForeign bs then bumpSat LPP_P_HART_DISCARDED n d
    else if x.phase = 2 ∧ parityOk ∧ hartGood r x.entry bs then
      let body := (bs.drop 8).take (bs.getD 7 0)
      d |> loopMod n (fun x => { x with resp := x.resp ++ [(now d, x.entry, body)], fails := 0 }) |> hartQuiet n false
        |> mirror 6 n (now d) ([x.entry, body.length, 0, 0] ++ body)
    else d

def execHartResponseRx (dt port : Nat) (bytes : List Nat) (parityOk : Bool) (s : State) : Host.Outcome State Fault Refusal :=
  onDev dt (hartResponseRxAt port bytes parityOk) s

/-- HART_RESPONSE_TIMEOUT (R354): the request is repeated, or the entry fails. -/
def hartResponseTimeoutAt (n : Nat) (d : Dev) : Dev :=
  match pollRec n d with
  | none => d
  | some r =>
    let x := loopX n d
    if x.phase ≠ 2 ∨ since x.edge d < r.uAt 4 2 * 400000 then d
    else if x.fails < r.uAt 3 1 then hartQuiet n true (loopMod n (fun x => { x with fails := x.fails + 1 }) d)
    else
      let was := flag LPP_P_FLAGS_HART_FAIL n d
      d |> forL (entryStrands n r x.entry) (fun id d => markStale id true d) |> bumpSat LPP_P_HART_FAILURES n
        |> put LPP_P_FLAGS_HART_FAIL n 1 |> hartQuiet n false |> onlyIf (!was) (fun d => raise 0x0E02 n d x.entry)

def execHartResponseTimeout (dt port : Nat) (s : State) : Host.Outcome State Fault Refusal :=
  onDev dt (hartResponseTimeoutAt port) s

/-- HART_SILENCE_END (R354): 8 character times, 73.3 ms, have passed. -/
def execHartSilenceEnd (dt port : Nat) (s : State) : Host.Outcome State Fault Refusal :=
  onDev dt (fun d => if (loopX port d).phase = 3 ∧ 29333334 ≤ since (loopX port d).edge d then
    hartServe port (loopMod port (fun x => { x with phase := 0 }) d) else d) s

/-- The mapped fields of a good response of entry `i` take effect (R356). -/
def hartApply (n i : Nat) (body : List Nat) (d : Dev) : Dev :=
  match pollRec n d with
  | none => d
  | some r =>
    let data := body.drop 2
    let field (k : Nat) : Nat × Nat :=
      let off := 36 + 44 * i + 4 * k
      let v := beVal ((data.drop (r.uAt off 1)).take (r.uAt (off + 2) 1))
      (0xE040 + 16 * n + r.uAt (off + 3) 1, if r.uAt (off + 1) 1 = 1 then trunc 32 v else ofInt 64 (toInt 32 v))
    let whole (k : Nat) : Bool := decide (r.uAt (36 + 44 * i + 4 * k) 1 + r.uAt (38 + 44 * i + 4 * k) 1 ≤ data.length)
    let ks := (List.range (r.u P0E02_MAP_COUNT i)).filter whole
    d |> forL (entryStrands n r i) (fun id d => markStale id false d) |> putStrands (ks.map field)
      |> bump LPP_P_HART_TRANSACTIONS n |> put LPP_P_HART_RESPONSE_CODE n (body.getD 0 0) |> put LPP_P_HART_DEVICE_STATUS n (body.getD 1 0)

/-- HART_DELIVERY (R356): 100 µs after the checksum's stop bit. -/
def hartDeliveryAt (n : Nat) (d : Dev) : Dev :=
  match (loopX n d).resp with
  | [] => d
  | (t, i, body) :: rest => if now d < t + 100 * us16 then d else hartApply n i body (loopMod n (fun x => { x with resp := rest }) d)

def execHartDelivery (dt port : Nat) (s : State) : Host.Outcome State Fault Refusal := onDev dt (hartDeliveryAt port) s

/-- The ports at the end of start-up step 5. LPP_P_DELAY shows FILTER_MS/2 plus 100 µs (R350); in AC_SENSE half its 10 µs window plus its
10 µs period (log entry 42). -/
def loopStart (d : Dev) : Dev :=
  forL (recsOf 0x0E01 d) (fun r d =>
    let n := r.u P0E01_PORT
    d |> loopMod n (fun _ => { entry := (pollRec n d).elim 0 fun q => q.uAt 1 1 - 1 }) |> setLoop n 5 |> put LPP_STATUS_DEFINED 0 (setBit (get LPP_STATUS_DEFINED 0 d) n true)
      |> put LPP_P_STATE_MODE n (r.u P0E01_MODE) |> putB LPP_P_STATE_HART_EN n (r.b P0E01_FLAGS 0)
      |> putB LPP_P_STATE_MULTIDROP n (r.b P0E01_FLAGS 1)
      |> put LPP_P_DELAY_NS n (if r.u P0E01_MODE = 1 then r.u P0E01_FILTER_MS * 500000 + 100000 else if r.u P0E01_MODE = 3 then 15000 else 0)) d

end Sys2Proof.Machine
end

