-- ==== Sys2Proof/Machine/Switch.lean ====
section
/-! DEFINITION. The switch and the internal port (R311 to R316): forwarding, learning, ageing, link changes, ARP and ICMP. -/

namespace Sys2Proof.Machine

/-- The link bits on strand 3 of block 0x0C (R322). -/
def showLinks (d : Dev) : Dev :=
  putStrands [(0xC003, (List.range 3).foldl (fun n p => setBit n p (flag ETH_PORT_STATUS_LINK p d)) 0)] d

/-- ETH_LINK_CHANGE (R311, R335): a link that is down on an enabled port is a fault. -/
def ethLinkChangeAt (p : Nat) (up : Bool) (d : Dev) : Dev :=
  if !portOn p d then d
  else
    let was := flag ETH_PORT_STATUS_LINK p d
    let d := showLinks (putB ETH_PORT_STATUS_LINK p up d)
    if up then clearFault 0x0C01 p d
    else if was then raise 0x0C01 p (put ETH_PORT_STATUS_LINK_LOST p 1 d)
    else d

def execEthLinkChange (dt port : Nat) (up : Bool) (s : State) : Host.Outcome State Fault Refusal :=
  onDev dt (ethLinkChangeAt port up) s

/-! Stamps (R315, R316). -/

/-- The whole nanosecond of a stamp taken `tenths` of 0.1 ns after loom time `t`. -/
def stampNs (t : Nat) (tenths : Int) : Nat := (((t : Int) * 25 + tenths * 16) / 160).toNat

/-- A board value of a port (R331). -/
def boardNs (p : Nat) (out : Bool) (d : Dev) : Int :=
  match netRec d with
  | some r => toInt 16 (r.uAt (28 + 4 * p + 2 * b2n out) 2)
  | none => 0

/-- A descriptor's stamp D (R316): 32 bits of ns. -/
def descOf (ns : Nat) : Nat := ns % 2 ^ 32

/-- A descriptor's stamp extended by loom time at its processing (R316), in ns. A message is processed on the edge of its command, so the
interval is no wait; a descriptor that cannot be extended comes as ETH_RX_AGED (log entry 45). -/
def extendDesc (desc : Nat) (d : Dev) : Nat :=
  let n := stampNs (now d) 0
  (n + toInt 32 (ofInt 32 ((desc : Int) - n))).toNat

/-- The receive stamp of a frame on a port now, in ns of loom time (R315), by its descriptor (R316). -/
def rxNs (p : Nat) (d : Dev) : Nat := extendDesc (descOf (stampNs (now d) (-((if p = 0 then 512 else 640) + boardNs p false d)))) d

/-- The transmit stamp of a frame on a port now, in ns of loom time (R315), by its descriptor (R316). -/
def txNs (p : Nat) (d : Dev) : Nat := extendDesc (descOf (stampNs (now d) ((if p = 0 then 448 else 560) + boardNs p true d))) d

/-! Forwarding (R312). -/

/-- A group address. -/
def isGroup (mac : Nat) : Bool := bit mac 40

/-- A source address is learned or refreshed; the table has 2048 entries (R312). -/
def learn (p mac : Nat) (d : Dev) : Dev :=
  let t := d.eth.table
  if isGroup mac ∨ (¬ (t.any (·.1 == mac)) ∧ 2048 ≤ t.length) then d
  else { d with eth := { d.eth with table := t.put mac (p, edge d) } }

/-- ADDRESS_TABLE_AGE_OUT (R312): an entry is 300 s old. -/
def addressTableAgeOutAt (mac : Nat) (d : Dev) : Dev :=
  match d.eth.table.find? (·.1 == mac) with
  | some (_, _, e) => if 120000000000 ≤ since e d then { d with eth := { d.eth with table := d.eth.table.del mac } } else d
  | none => d

def execAddressTableAgeOut (dt mac : Nat) (s : State) : Host.Outcome State Fault Refusal := onDev dt (addressTableAgeOutAt mac) s

/-- The port behind which a unicast address was learned within the last 300 s (R312). -/
def learned (mac : Nat) (d : Dev) : Option Nat :=
  (d.eth.table.find? fun e => e.1 == mac && decide (since e.2.2 d < 120000000000)).map (·.2.1)

/-- The external ports that a frame goes to (R312): the learned one, or all but the ingress port. Pause frames go nowhere. -/
def egress (p : Nat) (f : EthFrame) (d : Dev) : List Nat :=
  let others := (List.range 3).filter fun q => q != p && portOn q d
  if f.etherType = 0x8808 ∨ f.dst = ownMac d then []
  else if isGroup f.dst then others
  else match learned f.dst d with
    | some q => others.filter (· == q)
    | none => others

/-- A frame goes to the internal port (R312): one to the unit's address, and a group or unknown unicast frame that the unit accepts. -/
def toInternal (f : EthFrame) (d : Dev) : Bool := f.dst == ownMac d || isGroup f.dst || (learned f.dst d).isNone

/-- The queue of a forwarded frame (R312). -/
def queueOf (f : EthFrame) : Nat := if f.tag = 0 then 1 else (f.tag - 1) / 8192 % 8 / 2

/-- The UDP part of an IPv4 frame that is no fragment: source and destination address, destination port and payload. -/
def udpOf (f : EthFrame) : Option (Nat × Nat × Nat × List Nat) :=
  if f.etherType ≠ 0x0800 ∨ f.bytes.getD 0 0 / 16 ≠ 4 ∨ f.bytes.getD 9 0 ≠ 17 ∨ beVal ((f.bytes.drop 6).take 2) % 16384 ≠ 0 then none
  else
    let h := f.bytes.getD 0 0 % 16 * 4
    some (beVal ((f.bytes.drop 12).take 4), beVal ((f.bytes.drop 16).take 4), beVal ((f.bytes.drop (h + 2)).take 2),
      (f.bytes.take (beVal ((f.bytes.drop 2).take 2))).drop (h + 8))

/-- The PTP record. -/
def ptpRec (d : Dev) : Option Rec := recOf 0x0C02 d

/-- The frame is a PTP frame in the record's transport. -/
def isPtp (f : EthFrame) (d : Dev) : Bool :=
  match ptpRec d with
  | none => false
  | some r => if r.b P0C02_FLAGS 2 then (udpOf f).elim false fun u => u.2.2.1 == 319 || u.2.2.1 == 320 else f.etherType == 0x88F7

/-- An ICMP echo request to the unit. -/
def isEcho (f : EthFrame) (d : Dev) : Bool :=
  f.etherType == 0x0800 && f.bytes.getD 9 0 == 1 && beVal ((f.bytes.drop 6).take 2) % 16384 == 0 &&
    beVal ((f.bytes.drop 16).take 4) == ownIp d && f.bytes.getD (f.bytes.getD 0 0 % 16 * 4) 0 == 8

/-- The internal port accepts a frame (R313). -/
def acceptsFrame (f : EthFrame) (d : Dev) : Bool :=
  f.etherType == 0x0806 || isEcho f d || isPtp f d ||
    (udpOf f).elim false fun u => u.2.1 == ownIp d && u.2.2.1 == 7416

/-- The checks of R323 on a service message. -/
def svcMessageOk (bs : List Nat) : Bool :=
  let n := beVal ((bs.drop 12).take 2)
  decide (20 ≤ bs.length) && bs.take 4 == [0x4F, 0x53, 1, 0] && decide (n ≤ 1448) && bs.length == 20 + n &&
    (bs.drop 14).take 2 == [0, 0] && beVal (bs.drop (16 + n)) == crc32c (bs.take (16 + n))

/-- ETH_FRAME_RX (R312, R313, R320): forwarding, and the internal port's decision. What an accepted message does is its own command. -/
def ethFrameRxAt (p : Nat) (f : EthFrame) (d : Dev) : Dev :=
  if !portOn p d || !flag ETH_PORT_STATUS_LINK p d then d
  else if f.bad then bumpSat ETH_PORT_DROP_RX_ERR p d
  else
    let d := bump ETH_PORT_COUNT_RX p d
    let size := 18 + (if f.tag = 0 then 0 else 4) + f.bytes.length
    if maxFrame p d < size then d
    else
      let inside := toInternal f d
      let d := learn p f.src d
      let d := forL (egress p f d) (fun q d => ethQueue q { q := queueOf f, frame := f, inPort := p + 1, inStamp := rxNs p d } d) d
      if !inside then d
      else if !acceptsFrame f d then (if f.dst = ownMac d then bumpSat ETH_STATUS_DISCARDS 0 d else d)
      else match udpOf f with
        | some (_, _, 7416, bs) => if svcMessageOk bs then d else bumpSat ETH_SVC_STATUS_BAD 0 d
        | _ => d

def execEthFrameRx (dt port : Nat) (frame : EthFrame) (s : State) : Host.Outcome State Fault Refusal :=
  onDev dt (ethFrameRxAt port frame) s

/-- ARP_REQUEST (R313): a request for the unit's address is answered on the port it came in on. -/
def arpRequestAt (p : Nat) (f : EthFrame) (d : Dev) : Dev :=
  let b := f.bytes
  if !portOn p d ∨ f.etherType ≠ 0x0806 ∨ b.take 8 ≠ [0, 1, 8, 0, 6, 4, 0, 1] ∨ beVal ((b.drop 24).take 4) ≠ ownIp d then d
  else
    let me := ownMac d
    let reply := [0, 1, 8, 0, 6, 4, 0, 2] ++ beBytes 6 me ++ beBytes 4 (ownIp d) ++ (b.drop 8).take 10
    ethQueue p { q := 1, frame := { dst := beVal ((b.drop 8).take 6), src := me, etherType := 0x0806, bytes := reply } } d

def execArpRequest (dt port : Nat) (frame : EthFrame) (s : State) : Host.Outcome State Fault Refusal :=
  onDev dt (arpRequestAt port frame) s

/-- ICMP_ECHO_REQUEST (R313): the echo reply. -/
def icmpEchoRequestAt (p : Nat) (f : EthFrame) (d : Dev) : Dev :=
  if !portOn p d || !isEcho f d then d
  else
    let h := f.bytes.getD 0 0 % 16 * 4
    let icmp := (f.bytes.take (beVal ((f.bytes.drop 2).take 2))).drop h
    let body := icmp.drop 4
    let c := check16 ([0, 0, 0, 0] ++ body)
    let ip := ipv4 (ownIp d) (beVal ((f.bytes.drop 12).take 4)) 1 64 ([0, 0] ++ beBytes 2 c ++ body)
    ethQueue p { q := 1, frame := { dst := f.src, src := ownMac d, etherType := 0x0800, bytes := ip } } d

def execIcmpEchoRequest (dt port : Nat) (frame : EthFrame) (s : State) : Host.Outcome State Fault Refusal :=
  onDev dt (icmpEchoRequestAt port frame) s

/-- ETH_RX_AGED (R316): a received frame waited 1 s in the internal queue. -/
def execEthRxAged (dt : Nat) (s : State) : Host.Outcome State Fault Refusal :=
  onDev dt (fun d => stick ETH_STATUS_RX_AGED 0 0x0C02 0 d) s

end Sys2Proof.Machine
end

