-- ==== Sys2Proof/Machine/Ptp.lean ====
section
/-! DEFINITION. Network time (R317 to R321, R59 to R61): master selection, the servo and its lock, path delays, the messages that the
clock sends, the transparent clock, and frames leaving a port. Message layouts, identities and the default best master clock algorithm
are those of IEEE 1588 (log entry 45). -/

namespace Sys2Proof.Machine

/-- The clock changed. -/
def ptpMod (f : PtpX → PtpX) (d : Dev) : Dev := { d with ptp := f d.ptp }

/-- 2^k of a signed exponent. -/
def pow2 (k : Int) : Rat := if 0 ≤ k then (2 ^ k.toNat : Nat) else 1 / ((2 ^ (-k).toNat : Nat) : Rat)

/-- The Sync interval in seconds (R321). -/
def syncT (r : Rec) : Rat := pow2 (r.s P0C02_LOG_SYNC)

/-- The profile uses peer delay. -/
def isP2P (r : Rec) : Bool := r.u P0C02_PROFILE != 1

/-- clockIdentity: the MAC address with FF-FE in its middle. -/
def clockId (d : Dev) : Nat := let m := ownMac d; m / 2 ^ 24 * 2 ^ 40 + 0xFFFE * 2 ^ 24 + m % 2 ^ 24

/-- The state of the PTP port, with its strand (R322). -/
def ptpState (d : Dev) : Nat := get ETH_PTP_STATUS_PORT_STATE 0 d

/-- PTP nanoseconds of a loom time in ns (R59). -/
def ptpOfLoom (ns : Int) : Int := ns + 946684800000000000

/-- The offset between PTP-derived and present loom time that the servo's offset is counted against while EPOCH_VALID is 0, in ns (R60;
log entry 49). -/
def epochNs (d : Dev) : Rat := if flag REEL_TIME_STATUS_EPOCH_VALID 0 d then 0 else (d.ptp.epoch : Rat) * 5 / 32

/-- The loom-time record's fields with their defaults (R80). -/
def ptpSource (d : Dev) : Bool := orD (recOf 0x0301 d) P0301_SOURCE 0 == 1

/-- PTP lock is lost (R61): holdover with SOURCE 1. -/
def loseLock (d : Dev) : Dev :=
  if !flag REEL_TIME_STATUS_PTP_LOCKED 0 d then ptpMod (fun x => { x with good := 0, bad := 0 }) d
  else
    let d := put REEL_TIME_STATUS_PTP_LOCKED 0 0 (ptpMod (fun x => { x with good := 0, bad := 0 }) d)
    if ptpSource d then raise 0x0303 0 (put REEL_TIME_STATUS_HOLDOVER 0 1 d) else d

/-- The port changes its state; leaving SLAVE loses lock (R321). -/
def setPtpState (st : Nat) (d : Dev) : Dev :=
  let was := ptpState d
  let d := putStrands [(0xC002, st)] (put ETH_PTP_STATUS_PORT_STATE 0 st d)
  if was = 9 ∧ st ≠ 9 then loseLock d else d

/-! Messages that leave. -/

/-- The 34-byte header of a PTP message. -/
def ptpHead (typ len seq flags : Nat) (corr : Int) (port : Nat) (control interval : Nat) (r : Rec) (d : Dev) : List Nat :=
  [typ, 0x12] ++ beBytes 2 len ++ [r.u P0C02_DOMAIN, 0] ++ beBytes 2 flags ++ beBytes 8 (ofInt 64 corr) ++ zeros 4 ++
    beBytes 8 (clockId d) ++ beBytes 2 (port + 1) ++ beBytes 2 seq ++ [control, interval]

/-- A timestamp of a message: seconds and nanoseconds. -/
def ptpTime (ns : Nat) : List Nat := beBytes 6 (ns / 1000000000) ++ beBytes 4 (ns % 1000000000)

/-- A message in its transport (R317, R319): an event message over UDP carries two bytes more. -/
def ptpFrame (peer event : Bool) (msg : List Nat) (r : Rec) (d : Dev) : EthFrame :=
  if r.b P0C02_FLAGS 2 then
    let dst := if peer then 0xE000006B else 0xE0000181
    { dst := if peer then 0x01005E00006B else 0x01005E000181, src := ownMac d, etherType := 0x0800,
      bytes := udp4 (ownIp d) dst (if event then 319 else 320) 1 (msg ++ (if event then [0, 0] else [])) }
  else { dst := if peer then 0x0180C200000E else 0x011B19000000, src := ownMac d, etherType := 0x88F7, bytes := msg }

/-- A message joins queue 3 of a port (R312). -/
def ptpSend (p kind stamp : Nat) (peer event : Bool) (msg : List Nat) (r : Rec) (d : Dev) : Dev :=
  ethQueue p { q := 3, frame := ptpFrame peer event msg r d, ptp := kind, inStamp := stamp } d

/-- The next number of a kind of message. -/
def nextSeq (k : Nat) (d : Dev) : Nat × Dev :=
  let n := d.ptp.seqs.getD k 0
  (n, ptpMod (fun x => { x with seqs := x.seqs.set k ((n + 1) % 65536) }) d)

/-- Where the PTP message lies in a frame's payload: after IPv4 and UDP heads, or at its start. -/
def ptpOff (f : EthFrame) : Nat := if f.etherType = 0x0800 then f.bytes.getD 0 0 % 16 * 4 + 8 else 0

/-- Bytes replaced at an offset. -/
def patch (off : Nat) (new : List Nat) (bs : List Nat) : List Nat := bs.take off ++ new ++ bs.drop (off + new.length)

/-- A PTP frame whose message bytes were changed keeps a right UDP checksum (R319, R320): two bytes after the message take up the
difference, or the checksum becomes zero. -/
def repairSum (old new : EthFrame) : EthFrame :=
  if new.etherType ≠ 0x0800 then new
  else
    let h := new.bytes.getD 0 0 % 16 * 4
    let len := beVal ((new.bytes.drop (h + 10)).take 2)
    let tail := h + 8 + len
    if tail + 2 ≤ new.bytes.length then
      let a := sum16 (old.bytes.drop h)
      let b := sum16 (patch tail [0, 0] (new.bytes.drop 0) |>.drop h)
      let diff := (a + 65535 - b) % 65535
      -- An odd place of the two bytes in the datagram swaps them in the sum.
      let v := if (tail - h) % 2 = 0 then diff else diff % 256 * 256 + diff / 256
      { new with bytes := patch tail (beBytes 2 v) new.bytes }
    else { new with bytes := patch (h + 6) [0, 0] new.bytes }

/-- A field of the message in a frame. -/
def msgField (f : EthFrame) (off n : Nat) : Nat := beVal ((f.bytes.drop (ptpOff f + off)).take n)

/-- correctionField raised. -/
def addCorrection (c : Int) (f : EthFrame) : EthFrame :=
  let v := toInt 64 (msgField f 8 8) + c
  repairSum f { f with bytes := patch (ptpOff f + 8) (beBytes 8 (ofInt 64 v)) f.bytes }

/-- The transparent clock's correction of a forwarded event message as it leaves (R320). -/
def tcCorrect (p : Nat) (t : EthTx) (d : Dev) : EthFrame :=
  match ptpRec d with
  | none => t.frame
  | some r =>
    if t.inPort = 0 ∨ !r.b P0C02_FLAGS 3 ∨ !isPtp t.frame d ∨ 4 ≤ msgField t.frame 0 1 % 16 ∨ msgField t.frame 4 1 ≠ r.u P0C02_DOMAIN then t.frame
    else
      let residence : Int := (txNs p d : Int) - t.inStamp
      let peer : Rat := if isP2P r ∧ msgField t.frame 0 1 % 16 = 0 then (d.ptp.peers.get {} (t.inPort - 1)).delay else 0
      addCorrection (residence * 65536 + ratHalfUp (peer * 65536)) t.frame

/-- The unit's own event message as it leaves, with what its transmit stamp is for (R319). -/
def ownLeaves (p : Nat) (t : EthTx) (r : Rec) (d : Dev) : EthFrame × Dev :=
  let ns := txNs p d
  let ptp := (ptpOfLoom ns).toNat
  let seq := msgField t.frame 30 2
  let two := r.b P0C02_FLAGS 1
  match t.ptp with
  | 1 =>
    if two then (t.frame, ptpSend p 0 0 false false (ptpHead 8 44 seq 0 0 p 2 (r.u P0C02_LOG_SYNC) r d ++ ptpTime ptp) r d)
    else (repairSum t.frame { t.frame with bytes := patch (ptpOff t.frame + 34) (ptpTime ptp) t.frame.bytes }, d)
  | 2 =>
    if two then
      let req := (t.frame.bytes.drop (ptpOff t.frame + 44)).take 10
      (t.frame, ptpSend p 0 0 true false (ptpHead 0xA 54 seq 0 0 p 5 0x7F r d ++ ptpTime ptp ++ req) r d)
    else (addCorrection (((ns : Int) - t.inStamp) * 65536) t.frame, d)
  | 3 => (t.frame, ptpMod (fun x => { x with dreq := (seq, ptp) }) d)
  | 4 => (t.frame, ptpMod (fun x => { x with peers := x.peers.put p { x.peers.get {} p with seq := seq, t1 := ptp, wait := false } }) d)
  | _ => (t.frame, d)

/-- ETH_FRAME_TX (R312, R315, R319, R320): the frame of highest priority leaves a port. -/
def ethFrameTxAt (p : Nat) (d : Dev) : Dev :=
  let l := d.eth.queues.get [] p
  let top := l.foldl (fun m t => max m t.q) 0
  match l.find? fun t => t.q == top with
  | none => d
  | some t =>
    if !portOn p d || !flag ETH_PORT_STATUS_LINK p d then d
    else
      let d : Dev := { d with eth := { d.eth with queues := d.eth.queues.put p (l.erase t) } }
      let d := bump ETH_PORT_COUNT_TX p d
      match t.stream with
      | n + 1 =>
        let b := t.frame.bytes.drop 28
        d |> put ETH_STREAM_STATUS_QUEUED n (get ETH_STREAM_STATUS_QUEUED n d - 1) |> put ETH_STREAM_SEQ_SEQ n (beVal ((b.drop 12).take 4))
          |> put REC_STR_COUNT_ENTRIES n (get REC_STR_COUNT_ENTRIES n d + beVal ((b.drop 34).take 2)) |> send .stream n t.frame.bytes
      | 0 =>
        match (if t.ptp = 0 then none else ptpRec d) with
        | some r =>
          let (f, d) := ownLeaves p t r d
          send .ethernet p (frameBytes f) d
        | none => send .ethernet p (frameBytes (tcCorrect p t d)) d

def execEthFrameTx (dt port : Nat) (s : State) : Host.Outcome State Fault Refusal := onDev dt (ethFrameTxAt port) s

/-! Master selection (R318). -/

/-- What an Announce body says of its grandmaster, in the order of comparison: priority1, class, accuracy, variance, priority2,
identity. -/
def announceKey (b : List Nat) : Nat :=
  b.getD 13 0 * 2 ^ 104 + beVal ((b.drop 14).take 4) * 2 ^ 72 + b.getD 18 0 * 2 ^ 64 + beVal ((b.drop 19).take 8)

/-- The own data set (R318). -/
def ownKey (r : Rec) (d : Dev) : Nat :=
  r.u P0C02_PRIORITY1 * 2 ^ 104 + 0xF8FEFFFF * 2 ^ 72 + r.u P0C02_PRIORITY2 * 2 ^ 64 + clockId d

/-- Foreign masters are compared by their data set, then by steps removed and sender. -/
def foreignKey (f : PtpForeign) : Nat × Nat × Nat :=
  (announceKey f.data, beVal ((f.data.drop 27).take 2), f.identity * 65536 + f.portNum)

/-- One foreign master is better than another. -/
def betterThan (a b : PtpForeign) : Bool :=
  let (x, y, z) := foreignKey a
  let (u, v, w) := foreignKey b
  decide (x < u ∨ (x = u ∧ (y < v ∨ (y = v ∧ z < w))))

/-- The Announce interval in edges. -/
def annEdges (r : Rec) : Nat := (pow2 (r.s P0C02_LOG_ANNOUNCE) * 400000000).floor.toNat

/-- The best qualified foreign master: two Announces within four intervals. -/
def bestForeign (r : Rec) (d : Dev) : Option PtpForeign :=
  (d.ptp.foreign.filter fun f => decide (2 ≤ (f.seen.filter fun e => decide (edge d ≤ e + 4 * annEdges r)).length)).foldl (fun b f => match b with
    | none => some f
    | some g => if betterThan f g then some f else b) none

/-- The grandmaster shown; a change of its identity is 0x0C05 (R318). -/
def setGm (id : Nat) (d : Dev) : Dev :=
  let old := get ETH_PTP_GM_IDENTITY 0 d
  let d := put ETH_PTP_GM_IDENTITY 0 id d
  if old ≠ 0 ∧ old ≠ id then raise 0x0C05 0 (put ETH_PTP_STATUS_GM_CHANGED 0 1 d) else d

/-- The port's decision (R318): the unit becomes master only without SLAVE_ONLY and while EPOCH_VALID is 1. -/
def selectMaster (timeout : Bool) (r : Rec) (d : Dev) : Dev :=
  let may := !r.b P0C02_FLAGS 0 && flag REEL_TIME_STATUS_EPOCH_VALID 0 d
  match bestForeign r d with
  | none =>
    if may ∧ (timeout ∨ ptpState d = 6) then setGm (clockId d) (setPtpState 6 (ptpMod (fun x => { x with parent := none }) d))
    else if timeout ∨ ptpState d = 6 then setPtpState 4 (ptpMod (fun x => { x with parent := none, pend := none }) d)
    else d
  | some f =>
    if may ∧ ownKey r d < announceKey f.data then setGm (clockId d) (setPtpState 6 (ptpMod (fun x => { x with parent := none }) d))
    else
      let d := setGm (beVal ((f.data.drop 19).take 8)) d
      if d.ptp.parent = some (f.identity, f.portNum) ∧ (ptpState d = 8 ∨ ptpState d = 9) then d
      else setPtpState 8 (ptpMod (fun x => { x with parent := some (f.identity, f.portNum), pend := none, d21 := none }) d)

/-- The record, when the message came in on PTP_PORT and belongs to its domain. -/
def onPtpPort (p : Nat) (m : PtpMsg) (d : Dev) : Option Rec :=
  (ptpRec d).filter fun r => r.u P0C02_PTP_PORT == p && r.u P0C02_DOMAIN == m.domain && decide (m.identity ≠ clockId d) && portOn p d

/-- PTP_ANNOUNCE (R318). -/
def ptpAnnounceAt (p : Nat) (m : PtpMsg) (d : Dev) : Dev :=
  match onPtpPort p m d with
  | none => d
  | some r =>
    let same (f : PtpForeign) : Bool := f.identity == m.identity && f.portNum == m.portNum
    let old := ((d.ptp.foreign.find? same).map (·.seen)).getD []
    let f : PtpForeign := { identity := m.identity, portNum := m.portNum, data := m.data, seen := (edge d :: old).take 2 }
    selectMaster false r (ptpMod (fun x => { x with foreign := (x.foreign.filter fun g => !same g) ++ [f] }) d)

def execPtpAnnounce (dt port : Nat) (msg : PtpMsg) (s : State) : Host.Outcome State Fault Refusal :=
  onDev dt (ptpAnnounceAt port msg) s

/-- PTP_ANNOUNCE_TIMEOUT (R318): a foreign master that has been silent for ANNOUNCE_TIMEOUT intervals is dropped. -/
def ptpAnnounceTimeoutAt (d : Dev) : Dev :=
  match ptpRec d with
  | none => d
  | some r =>
    let lim := r.u P0C02_ANNOUNCE_TIMEOUT * annEdges r
    let gone (f : PtpForeign) : Bool := match f.seen with
      | e :: _ => decide (e + lim ≤ edge d)
      | [] => true
    selectMaster true r (ptpMod (fun x => { x with foreign := x.foreign.filter fun f => !gone f }) d)

def execPtpAnnounceTimeout (dt : Nat) (s : State) : Host.Outcome State Fault Refusal := onDev dt ptpAnnounceTimeoutAt s

/-! The servo (R321). -/

/-- A rational held inside bounds. -/
def clampR (lo hi x : Rat) : Rat := if x < lo then lo else if hi < x then hi else x

/-- The term that is in force (R59, R61): the servo's while it is locked, the last one in holdover, none after a refused return. -/
def applyTerm (d : Dev) : Dev :=
  let lock := flag REEL_TIME_STATUS_PTP_LOCKED 0 d
  let keep := flag REEL_TIME_STATUS_HOLDOVER 0 d
  ptpMod (fun x => { x with applied := if x.refused then 0 else if lock then x.term else if keep then x.applied else 0 }) d

/-- PTP-derived loom time less loom time, from an offset of loom time in ns; REEL_EPOCH_OFFSET shows it while EPOCH_VALID is 0 and PTP
is locked (R60). -/
def showEpoch (full : Rat) (d : Dev) : Dev :=
  if flag REEL_TIME_STATUS_EPOCH_VALID 0 d ∨ d.ptp.refused then d
  else
    let e := -(ratHalfUp (full * 32 / 5))
    ptpMod (fun x => { x with epoch := e }) d |> onlyIf (flag REEL_TIME_STATUS_PTP_LOCKED 0 d) (putS REEL_EPOCH_OFFSET_OFFSET 0 e)

/-- The lock status after an offset (R321), and the end of holdover (R61). -/
def lockStep (o : Rat) (d : Dev) : Dev :=
  let th : Rat := orD0 (recOf 0x0301 d) P0301_LOCK_THRESHOLD 100
  let a := |o|
  let x := d.ptp
  let good := if a < th then x.good + 1 else 0
  let bad := if 2 * th < a then x.bad + 1 else 0
  let d := ptpMod (fun x => { x with good := good, bad := bad }) d
  if flag REEL_TIME_STATUS_PTP_LOCKED 0 d then (if 4 ≤ bad then loseLock d else d)
  else if 8 ≤ good ∧ !x.refused then
    d |> put REEL_TIME_STATUS_PTP_LOCKED 0 1 |> put REEL_TIME_STATUS_HOLDOVER 0 0 |> clearFault 0x0303 0
  else d

/-- The mean path delay on PTP_PORT, in ns: the peer delay or the measured path, by profile. -/
def pathDelay (r : Rec) (d : Dev) : Rat := if isP2P r then (d.ptp.peers.get {} (r.u P0C02_PTP_PORT)).delay else d.ptp.path

/-- Strand 1 of block 0x0C (R322). -/
def showPath (d : Dev) : Dev :=
  match ptpRec d with
  | some r => putStrandsS [(0xC001, satS 32 (ratHalfUp (pathDelay r d)))] d
  | none => d

/-- A Sync in SLAVE with the offset of loom time in ns (R321, R60, R61). While EPOCH_VALID is 0 the servo and its lock go by what that
offset has moved since the last Sync (log entry 49). -/
def servo (full : Rat) (r : Rec) (d : Dev) : Dev :=
  let o := full + epochNs d
  let t := syncT r
  let x := d.ptp
  let integ := clampR (-1 / 1000000) (1 / 1000000) (x.integ - o / (16 * t) / 1000000000)
  let term := clampR (-1 / 1000000) (1 / 1000000) (integ - o / (4 * t) / 1000000000)
  let d := ptpMod (fun x => { x with integ := integ, term := term }) d
    |> bump ETH_PTP_STATUS_SYNCS 0 |> putS REEL_PTP_OFFSET_NS 0 (satS 32 (ratHalfUp full))
    |> putStrandsS [(0xC000, satS 32 (ratHalfUp full)), (0xC001, satS 32 (ratHalfUp (pathDelay r d)))]
  if flag REEL_TIME_STATUS_HOLDOVER 0 d ∧ 1000000 < |o| ∧ !x.refused then
    let d := putS REEL_EPOCH_OFFSET_OFFSET 0 (-(ratHalfUp (full * 32 / 5))) (put REEL_TIME_STATUS_PTP_REFUSED 0 1 d)
    raise 0x0307 0 (applyTerm (ptpMod (fun x => { x with refused := true }) d))
  else showEpoch full (applyTerm (lockStep o d))

/-- A Sync with its origin time, receive time (both in ns of the PTP scale but for the epoch) and correction is complete. -/
def syncDone (r : Rec) (t1 : Nat) (t2 : Nat) (corr : Int) (d : Dev) : Dev :=
  let first := !flag REEL_TIME_STATUS_EPOCH_VALID 0 d && !d.ptp.epochKnown
  let raw : Rat := (ptpOfLoom t2 - t1 : Int) - (corr : Rat) / 65536
  let d := if first then ptpMod (fun x => { x with epochKnown := true, epoch := -(ratHalfUp (raw * 32 / 5)) }) d else d
  let peer := d.ptp.peers.get {} (r.u P0C02_PTP_PORT)
  let d := ptpMod (fun x => { x with d21 := some raw, syncEdge := edge d }) d
  let d := if ptpState d = 8 ∧ isP2P r ∧ peer.ever then setPtpState 9 d else d
  if ptpState d = 9 then servo (raw - pathDelay r d) r d else d

/-- The message is the selected master's, and the port is UNCALIBRATED or SLAVE. -/
def fromParent (m : PtpMsg) (d : Dev) : Bool :=
  d.ptp.parent == some (m.identity, m.portNum) && (ptpState d == 8 || ptpState d == 9)

/-- PTP_SYNC (R321). -/
def ptpSyncAt (p : Nat) (m : PtpMsg) (d : Dev) : Dev :=
  match onPtpPort p m d with
  | none => d
  | some r =>
    if !fromParent m d then d
    else if m.twoStep then ptpMod (fun x => { x with pend := some (m.seq, rxNs p d, m.correction) }) d
    else syncDone r m.origin (rxNs p d) m.correction d

def execPtpSync (dt port : Nat) (msg : PtpMsg) (s : State) : Host.Outcome State Fault Refusal := onDev dt (ptpSyncAt port msg) s

/-- PTP_FOLLOW_UP (R319). -/
def ptpFollowUpAt (p : Nat) (m : PtpMsg) (d : Dev) : Dev :=
  match onPtpPort p m d, d.ptp.pend with
  | some r, some (seq, t2, corr) =>
    if fromParent m d ∧ seq = m.seq then syncDone r m.origin t2 (corr + m.correction) (ptpMod (fun x => { x with pend := none }) d) else d
  | _, _ => d

def execPtpFollowUp (dt port : Nat) (msg : PtpMsg) (s : State) : Host.Outcome State Fault Refusal := onDev dt (ptpFollowUpAt port msg) s

/-- PTP_SYNC_TIMEOUT (R321): four Sync intervals without a Sync. -/
def ptpSyncTimeoutAt (d : Dev) : Dev :=
  match ptpRec d with
  | none => d
  | some r => if (4 * syncT r * 400000000).floor.toNat ≤ since d.ptp.syncEdge d then loseLock d else d

def execPtpSyncTimeout (dt : Nat) (s : State) : Host.Outcome State Fault Refusal := onDev dt ptpSyncTimeoutAt s

/-! Path delays (R317, R320). -/

/-- PTP_DELAY_REQ (R317): the master answers with its receive stamp. -/
def ptpDelayReqAt (p : Nat) (m : PtpMsg) (d : Dev) : Dev :=
  match onPtpPort p m d with
  | none => d
  | some r =>
    if ptpState d ≠ 6 ∨ isP2P r then d
    else
      let t4 := (ptpOfLoom (rxNs p d)).toNat
      let msg := ptpHead 9 54 m.seq 0 m.correction p 3 (r.u P0C02_LOG_DELAY) r d ++ ptpTime t4 ++ beBytes 8 m.identity ++ beBytes 2 m.portNum
      ptpSend p 0 0 false false msg r d

def execPtpDelayReq (dt port : Nat) (msg : PtpMsg) (s : State) : Host.Outcome State Fault Refusal := onDev dt (ptpDelayReqAt port msg) s

/-- PTP_DELAY_RESP (R317): the path delay is measured, and the port is SLAVE. -/
def ptpDelayRespAt (p : Nat) (m : PtpMsg) (d : Dev) : Dev :=
  match onPtpPort p m d, d.ptp.d21 with
  | some r, some d21 =>
    if !fromParent m d ∨ isP2P r ∨ m.reqIdentity ≠ clockId d ∨ m.reqPort ≠ p + 1 ∨ m.seq ≠ d.ptp.dreq.1 ∨ d.ptp.dreq.2 = 0 then d
    else
      let d43 : Rat := (m.origin : Int) - (d.ptp.dreq.2 : Int) - (m.correction : Rat) / 65536
      let d := showPath (ptpMod (fun x => { x with path := (d21 + d43) / 2, dreq := (x.dreq.1, 0) }) d)
      if ptpState d = 8 then setPtpState 9 d else d
  | _, _ => d

def execPtpDelayResp (dt port : Nat) (msg : PtpMsg) (s : State) : Host.Outcome State Fault Refusal := onDev dt (ptpDelayRespAt port msg) s

/-- The port measures and answers peer delay (R320): every enabled port with TC_EN, else PTP_PORT. -/
def peerPort (p : Nat) (d : Dev) : Option Rec :=
  (ptpRec d).filter fun r => isP2P r && portOn p d && (r.b P0C02_FLAGS 3 || r.u P0C02_PTP_PORT == p)

/-- PTP_PDELAY_REQ (R320). -/
def ptpPdelayReqAt (p : Nat) (m : PtpMsg) (d : Dev) : Dev :=
  match peerPort p d with
  | none => d
  | some r =>
    if m.domain ≠ r.u P0C02_DOMAIN then d
    else
      let t2 := rxNs p d
      let two := r.b P0C02_FLAGS 1
      let msg := ptpHead 3 54 m.seq (if two then 0x0200 else 0) m.correction p 5 0x7F r d ++
        (if two then ptpTime (ptpOfLoom t2).toNat else zeros 10) ++ beBytes 8 m.identity ++ beBytes 2 m.portNum
      ptpSend p 2 t2 true true msg r d

def execPtpPdelayReq (dt port : Nat) (msg : PtpMsg) (s : State) : Host.Outcome State Fault Refusal := onDev dt (ptpPdelayReqAt port msg) s

/-- A peer delay is measured: shown in whole ns (R334). -/
def peerDone (p : Nat) (delay : Rat) (d : Dev) : Dev :=
  ptpMod (fun x => { x with peers := x.peers.put p { x.peers.get {} p with delay := delay, ever := true, wait := false, t1 := 0 } }) d
    |> put ETH_PORT_STATUS_PEER_DELAY_NS p (satU 16 (ratHalfUp (max 0 delay)).toNat) |> showPath

/-- PTP_PDELAY_RESP (R320): complete in one-step operation, else its Follow_Up is awaited. -/
def ptpPdelayRespAt (p : Nat) (m : PtpMsg) (d : Dev) : Dev :=
  match peerPort p d with
  | none => d
  | some r =>
    let x := d.ptp.peers.get {} p
    if m.domain ≠ r.u P0C02_DOMAIN ∨ m.reqIdentity ≠ clockId d ∨ m.reqPort ≠ p + 1 ∨ m.seq ≠ x.seq ∨ x.t1 = 0 then d
    else
      let t4 := (ptpOfLoom (rxNs p d)).toNat
      if m.twoStep then
        ptpMod (fun y => { y with peers := y.peers.put p { x with t4 := t4, t2 := m.origin, corr := m.correction, wait := true } }) d
      else peerDone p ((((t4 : Int) - x.t1 : Int) - (m.correction : Rat) / 65536) / 2) d

def execPtpPdelayResp (dt port : Nat) (msg : PtpMsg) (s : State) : Host.Outcome State Fault Refusal := onDev dt (ptpPdelayRespAt port msg) s

/-- PTP_PDELAY_RESP_FOLLOW_UP (R320). -/
def ptpPdelayRespFollowUpAt (p : Nat) (m : PtpMsg) (d : Dev) : Dev :=
  match peerPort p d with
  | none => d
  | some _ =>
    let x := d.ptp.peers.get {} p
    if !x.wait ∨ m.seq ≠ x.seq ∨ m.reqIdentity ≠ clockId d ∨ m.reqPort ≠ p + 1 then d
    else
      let turn : Int := (m.origin : Int) - x.t2
      peerDone p ((((x.t4 : Int) - x.t1 - turn : Int) - ((x.corr + m.correction : Int) : Rat) / 65536) / 2) d

def execPtpPdelayRespFollowUp (dt port : Nat) (msg : PtpMsg) (s : State) : Host.Outcome State Fault Refusal :=
  onDev dt (ptpPdelayRespFollowUpAt port msg) s

/-- PTP_MGMT_SIGNALING (R317): ignored; the switch's part is ETH_FRAME_RX. -/
def execPtpMgmtSignaling (dt _port : Nat) (_msg : PtpMsg) (s : State) : Host.Outcome State Fault Refusal := onDev dt id s

/-! Own messages (R317, R318). -/

/-- The body of an Announce of the unit as master (R318). -/
def announceBody (r : Rec) (d : Dev) : List Nat :=
  zeros 10 ++ [0, 37, 0] ++ [r.u P0C02_PRIORITY1, 248, 0xFE, 0xFF, 0xFF, r.u P0C02_PRIORITY2] ++ beBytes 8 (clockId d) ++ [0, 0, 0xA0]

/-- A master whose EPOCH_VALID has gone to 0 is master no more (R318). -/
def masterStands (d : Dev) : Dev := if ptpState d = 6 ∧ !flag REEL_TIME_STATUS_EPOCH_VALID 0 d then setPtpState 4 d else d

/-- The interval of an own message in edges (R317, R332). -/
def txEdges (kind : Nat) (r : Rec) : Nat :=
  let log := if kind = 0 then r.s P0C02_LOG_SYNC else if kind = 1 then r.s P0C02_LOG_ANNOUNCE else r.s P0C02_LOG_DELAY
  3125000 * 2 ^ (log + 7).toNat

/-- `f` sends own messages of a kind when their interval has elapsed. -/
def ptpRound (kind : Nat) (r : Rec) (f : Dev → Dev) (d : Dev) : Dev :=
  if dueAgain (d.ptp.sent.get 0 kind) (txEdges kind r) d then f (ptpMod (fun x => { x with sent := x.sent.put kind (edge d + 1) }) d) else d

/-- PTP_TX_INTERVAL: 0 Sync, 1 Announce (both as master), 2 Delay_Req, 3 Pdelay_Req. -/
def ptpTxIntervalAt (kind : Nat) (d : Dev) : Dev :=
  match ptpRec d with
  | none => d
  | some r =>
    let d := masterStands d
    let p := r.u P0C02_PTP_PORT
    let two := if r.b P0C02_FLAGS 1 then 0x0200 else 0
    match kind with
    | 0 =>
      if ptpState d ≠ 6 then d
      else ptpRound 0 r (fun d =>
        let (n, d) := nextSeq 0 d
        ptpSend p 1 0 false true (ptpHead 0 44 n two 0 p 0 (r.u P0C02_LOG_SYNC) r d ++ zeros 10) r d) d
    | 1 =>
      if ptpState d ≠ 6 then d
      else ptpRound 1 r (fun d =>
        let (n, d) := nextSeq 1 d
        ptpSend p 0 0 false false (ptpHead 0xB 64 n 0x0008 0 p 5 (r.u P0C02_LOG_ANNOUNCE) r d ++ announceBody r d) r d) d
    | 2 =>
      if isP2P r ∨ (ptpState d ≠ 8 ∧ ptpState d ≠ 9) then d
      else ptpRound 2 r (fun d =>
        let (n, d) := nextSeq 2 d
        ptpSend p 3 0 false true (ptpHead 1 44 n 0 0 p 1 0x7F r d ++ zeros 10) r d) d
    | 3 =>
      ptpRound 3 r (forL (List.range 3) fun q d => if (peerPort q d).isNone then d else
        let (n, d) := nextSeq 3 d
        ptpSend q 4 0 true true (ptpHead 2 54 n 0 0 q 5 0x7F r d ++ zeros 20) r d) d
    | _ => d

def execPtpTxInterval (dt kind : Nat) (s : State) : Host.Outcome State Fault Refusal := onDev dt (ptpTxIntervalAt kind) s

/-- The network at the end of start-up step 5, or with the settings of R314: PTP listens; links come up by their own commands. -/
def netStart (d : Dev) : Dev :=
  let d := match netRec d with
    | some r => put ETH_STATUS_DEFAULTS 0 0 (put ETH_STATUS_PORT_EN 0 (r.u P0C01_PORT_EN) d)
    | none => put ETH_STATUS_DEFAULTS 0 1 (put ETH_STATUS_PORT_EN 0 7 d)
  match ptpRec d with
  | none => d
  | some r =>
    d |> put ETH_PTP_STATUS_PROFILE 0 (r.u P0C02_PROFILE) |> putB ETH_PTP_STATUS_TWO_STEP 0 (r.b P0C02_FLAGS 1) |> setPtpState 4

end Sys2Proof.Machine
end

