-- ==== Sys2Proof/Machine/Enter.lean ====
section
/-! DEFINITION. What the loader puts into registers from the image, the fuses and the die (step 5 of R44), the retained words and the
choice of a warm or cold restart (R47, R48, R231, R402), and the entry into RUN (step 10). -/

namespace Sys2Proof.Machine

/-! Registers that the image, the fuses and the die set. -/

/-- The node and schedule records of the Weft. -/
def nodeRec (d : Dev) : Option Rec := recOf 0x0B01 d

/-- The schedule record. -/
def schedRec (d : Dev) : Option Rec := recOf 0x0B02 d

/-- This unit's node ID. -/
def ownNode (d : Dev) : Nat := orD (nodeRec d) P0B01_NODE_ID 0

/-- The identity registers (R38, R42). -/
def showIdent (id : Ident) (d : Dev) : Dev :=
  d |> put ID_REV_BUILD 0 id.build |> put ID_REV_SI_MAJOR 0 id.major |> put ID_REV_SI_MINOR 0 id.minor |> put ID_UNIQUE_SERIAL 0 id.serial

/-- Factory trims by channel (R78): signed fuse bits of bank c / 4. -/
def showTrims (fuses : Nat) (d : Dev) : Dev :=
  forL (List.range 160) (fun c d => put REEL_CHAN_DELAY_FACTORY c (bits fuses (896 + 4 * (c / 4)) 4) d) d

/-- The Reel's settings (R80, R82, R83). Every pick of the image is disarmed; a hook's pick has the settings of R302. -/
def reelImage (d : Dev) : Dev :=
  let trims (r : Rec) (d : Dev) : Dev := forL (List.range (r.uAt 0 2)) (fun i d => put REEL_CHAN_DELAY_BOARD (r.uAt (4 + 4 * i) 1) (r.uAt (6 + 4 * i) 2) d) d
  let entry (r : Rec) (i : Nat) (d : Dev) : Dev :=
    let p := r.u P0303_PICK i
    let f := r.u P0303_FLAGS i
    d |> put REEL_PICK_STATUS_STATE p 1 |> put REEL_PICK_CFG_MEASURE p (r.u P0303_MEASURE i) |> put REEL_PICK_CFG_DIR p (f % 4)
      |> putB REEL_PICK_CFG_ANGLE_ONLY p (bit f 2) |> putB REEL_PICK_CFG_WAKE_EN p (bit f 4) |> put REEL_PICK_CFG_ACTION p (r.u P0303_ACTION i)
      |> put REEL_PICK_CFG_WAKE_THREAD p (r.u P0303_WAKE_THREAD i) |> put REEL_PICK_CFG_OPERAND p (r.u P0303_OPERAND i)
      |> put REEL_PICK_CFG_INTERVAL p (r.u P0303_INTERVAL i) |> put REEL_PICK_TARGET_TARGET p (r.u P0303_TARGET i)
  let hook (r : Rec) (d : Dev) : Dev :=
    let p := r.u P0B04_PICK
    let task := r.u P0B04_TASK
    d |> put REEL_PICK_STATUS_STATE p 1 |> put REEL_PICK_CFG_MEASURE p (r.u P0B04_MEASURE) |> put REEL_PICK_CFG_DIR p 1
      |> put REEL_PICK_CFG_INTERVAL p (orD (schedRec d) P0B02_CYCLE 0 * 2 / 5)
      |> onlyIf (task != 0xFF) (fun d => d |> put REEL_PICK_CFG_ACTION p 6 |> put REEL_PICK_CFG_OPERAND p task)
  d |> put REEL_TIME_STATUS_SOURCE 0 (orD (recOf 0x0301 d) P0301_SOURCE 0)
    |> forL (recsOf 0x0303 d) (fun r d => forL (List.range (r.u P0303_COUNT)) (entry r) d)
    |> forL (recsOf 0x0B04 d) hook |> forL (recsOf 0x0304 d) trims

/-- The Weft's settings (IMG of R309). -/
def weftImage (d : Dev) : Dev :=
  let me := ownNode d
  let slot (r : Rec) (s : Nat) (d : Dev) : Dev :=
    let f := r.u P0B02_FLAGS s
    let p := r.u P0B02_PARTNER s
    d |> put WEFT_SLOT_CFG_OWNER s (r.u P0B02_OWNER s) |> putB WEFT_SLOT_CFG_SYNC s (bit f 0) |> putB WEFT_SLOT_CFG_HEARTBEAT s (bit f 1)
      |> put WEFT_SLOT_CFG_WORDS s (r.u P0B02_WORDS s) |> putB WEFT_SLOT_CFG_OWN s (r.u P0B02_OWNER s == me)
      |> putB WEFT_SLOT_CFG_PARTNERED s (p != 0xFF) |> put WEFT_SLOT_CFG_PARTNER s (if p = 0xFF then 0 else p)
  let hook (r : Rec) (d : Dev) : Dev :=
    let h := r.u P0B04_HOOK
    let t := r.u P0B04_THREAD
    let k := r.u P0B04_TASK
    d |> put WEFT_HOOK_PICK h (r.u P0B04_PICK) |> putB WEFT_HOOK_THREAD_EN h (t != 0xFFFF) |> put WEFT_HOOK_THREAD h (if t = 0xFFFF then 0 else t)
      |> putB WEFT_HOOK_TASK_EN h (k != 0xFF) |> put WEFT_HOOK_TASK h (if k = 0xFF then 0 else k) |> put WEFT_HOOK_OFFSET_NS h (r.u P0B04_OFFSET)
  d |> put WEFT_STATUS_NODE_ID 0 me |> forL (recsOf 0x0B04 d) hook
    |> (fun d => match schedRec d with
      | some r => forL (List.range (r.u P0B02_SLOTS)) (slot r) d
      | none => d)

/-- The pair record by which the unit is a member (R446, R473). -/
def pairRec (d : Dev) : Option Rec := (recsOf 0x1201 d).find? fun r => r.u P1201_ROLE == 1

/-- The pairs that the unit watches as witness, in record order (R476). -/
def witRecs (d : Dev) : List Rec := (recsOf 0x1201 d).filter fun r => r.u P1201_ROLE == 2

/-- The partner's node ID. -/
def partnerNode (d : Dev) : Nat :=
  match pairRec d with
  | some r => if r.u P1201_MEMBER_A = ownNode d then r.u P1201_MEMBER_B else r.u P1201_MEMBER_A
  | none => 0

/-- The pair's settings (IMG of R476). -/
def pairImage (d : Dev) : Dev :=
  d |> putB PAIR_STATUS_PREFERRED 0 ((pairRec d).elim false fun r => r.u P1201_PREFERRED == ownNode d) |> put PAIR_STATUS_PARTNER 0 (partnerNode d)
    |> forL (witRecs d).zipIdx (fun p d => put PAIR_W_STATE_PAIR p.2 (p.1.u P1201_PAIR) d)

/-- The settings of the general I/O pins, the feedback interfaces and the recorder (IMG of R508, R218, R419). -/
def otherImage (d : Dev) : Dev :=
  let pins := (recsOf 0x0101 d).flatMap fun r => (List.range (r.uAt 0 2)).map fun i => (r.u P0101_PIN i, r.u P0101_FLAGS i)
  let fbs := recsOf 0x0801 d
  d |> put SYS_GPIO_OUT_OUTPUT 0 (pins.foldl (fun n p => setBit n p.1 true) 0)
    |> put SYS_GPIO_PICK_PICK 0 (pins.foldl (fun n p => setBit n p.1 (bit p.2 2)) 0)
    |> put FBK_STATUS_DEFINED 0 (fbs.foldl (fun n r => setBit n (r.u P0801_IFACE) true) 0)
    |> forL fbs (fun r d => alarmStart r (put FBK_FB_STATUS_MODE (r.u P0801_IFACE) (r.u P0801_MODE) d))
    |> put REC_HIST_RATE_KBS 0 (match d.img with
      | some m => (wRec m / 1000).ceil.toNat
      | none => 0)
    |> put REC_HOLDUP_HOLDUP_US 0 (orD (recOf 0x1004 d) P1004_HOLDUP_US 0)

/-- One patch in force (R38): its code in the patch area, and its vectors redirected to their replacements. -/
def applyPatch (r : Rec) (x : PatchX) : PatchX :=
  let off := r.u P0211_LOAD_OFFSET
  let v := r.u P0211_VECTORS
  { code := x.code.put off (r.bytes (16 + 8 * v) (r.u P0211_CODE_LENGTH))
    vectors := (List.range v).foldl (fun t i => t.put (r.u P0211_VECTOR i) (off + r.u P0211_TARGET i)) x.vectors }

/-- The patch records of the image applied in ascending PATCH_ID (R38). -/
def applyPatches (d : Dev) : Dev :=
  { d with patch := forL ((recsOf 0x0211 d).mergeSort fun a b => decide (a.u P0211_PATCH_ID ≤ b.u P0211_PATCH_ID)) applyPatch {} }

/-- The loader's registers for the running copy (R38, R55). -/
def loaderImage (copy : Nat) (d : Dev) : Dev :=
  let patches := (recsOf 0x0211 d).map (·.u P0211_PATCH_ID)
  let h := (d.img.map (·.hdr)).getD []
  applyPatches d |> put FUSE_LDR_STATE_COPY 0 copy |> put FUSE_LDR_SEQ_SEQUENCE 0 (hdrU h PHDR_SEQUENCE)
    |> put FUSE_LDR_PATCH_COUNT 0 patches.length |> put FUSE_LDR_PATCH_LAST_ID 0 (patches.foldl max 0)

/-- Every block takes the image at the end of step 5. -/
def takeImage (copy : Nat) (d : Dev) : Dev :=
  d |> loaderImage copy |> reelImage |> weftImage |> pairImage |> otherImage |> plyImage |> motImage |> driveImage |> shuImage |> creelImage |> hankImage

/-! Retained words. -/

/-- The retain set of now (R402): RETAIN_LAYOUT, SEQUENCE, the power cycle, the stamp `t0`, and the retained words. -/
def retainSet (t0 : Nat) (d : Dev) : List Nat :=
  match d.img with
  | none => []
  | some m => [hdrU m.hdr PHDR_RETAIN_LAYOUT, hdrU m.hdr PHDR_SEQUENCE, d.recd.powerCycle, t0] ++
      (retainedDefs m).flatMap fun v => (List.range v.words).map fun i => varGet (bankOf v.owner d) (v.addr + i) d

/-- The retained words put back: variables and counters with their values, counters to be primed again; timers and edge detectors
stay idle (R48, R242). -/
def restoreWords : List VarDef → List Nat → Dev → Dev
  | [], _, d => d
  | v :: vs, ws, d =>
    let own := ws.take v.words
    let own := if v.typ ≤ 5 then own else if 0x14 ≤ v.typ ∧ v.typ ≤ 0x16 then own.take 2 ++ [0, 0] else []
    restoreWords vs (ws.drop v.words) (forL (laid v.addr own) (fun p d => varSet (get SHU_STATUS_VAR_BANK 0 d) p.1 p.2 d) d)

/-- The retain set that RETAIN holds fits the image (R47). -/
def warmPossible (d : Dev) : Bool :=
  match d.img with
  | none => false
  | some m => bit (hdrU m.hdr PHDR_FLAGS) 1 && d.recd.retainOk && d.recd.retain.head? == some (hdrU m.hdr PHDR_RETAIN_LAYOUT)

/-- Step 9 (R47): warm when everything for it holds, else cold, with 0x020D where the image allows a warm restart and no cold one
was asked for. -/
def chooseRestart (d : Dev) : Dev :=
  let allowed := (d.img.map fun m => bit (hdrU m.hdr PHDR_FLAGS) 1).getD false
  let d := put FUSE_LDR_STATE_STEP 0 9 d
  let warm := warmPossible d && !d.unit.coldRequest
  let d := if warm then restoreWords ((d.img.map retainedDefs).getD []) (d.recd.retain.drop 4) (put FUSE_LDR_STATE_START_KIND 0 1 d)
    else put FUSE_LDR_STATE_START_KIND 0 0 d
  let d := if allowed && !warm && !d.unit.coldRequest then raise 0x020D 0 d else d
  { d with unit := { d.unit with coldRequest := false, warmRequest := false } }

/-! RUN. -/

/-- What an interface counts and refers to since RUN is empty at RUN (R209, R210, R213, R218): count 0, no change, no reference, no mirrored
sample; an SSI interface keeps its last good read. -/
def fbZero (n : Nat) (r : Rec) (d : Dev) : Dev :=
  let x := d.fbs.get {} n
  { d with fbs := d.fbs.put n { x with changes := [], idxRef := none, idxDirs := 0, lastDev := 0, hallLost := false, hallError := false
                                       offset := none, shift := 0, mir := none } }
    |> put FBK_FB_INDEX_MAX_DEV n 0 |> put FBK_FB_INDEX_MISMATCHES n 0 |> put FBK_FB_ERRORS_ERRORS n 0
    |> onlyIf (r.u P0801_MODE != 3) (fun d => d |> put FBK_FB_POS_COUNT n 0 |> put FBK_FB_SPEED_SPEED n 0 |> putStrands [(0x08000 + n, 0)])

/-- Feedback at RUN (R207, R211): the levels of the lines are accepted as the edge of RUN samples them, and the sector follows a valid Hall
state. -/
def fbRun (d : Dev) : Dev :=
  forL (recsOf 0x0801 d) (fun r d =>
    let n := r.u P0801_IFACE
    let lv := (fbInputs r).foldl (fun m k => setBit m k (lineRun (d.lines.get {} (3 * n + k)) (edge d)).1) 0
    let d := d |> fbZero n r |> put FBK_FB_STATUS_LEVELS n lv |> put FBK_FB_STATUS_METHOD n 0
    if r.u P0801_MODE = 2 then
      match hallSector r lv with
      | some k => put FBK_FB_STATUS_SECTOR n k d
      | none => { d with fbs := d.fbs.put n { d.fbs.get {} n with hallLost := true } }
    else d) d

/-- Writers of a general I/O output (R497): an axis brake, a hank's outputs, a task's output entries. -/
def pinWritten (pin : Nat) (d : Dev) : Bool :=
  (recsOf 0x0601 d).any (fun r => r.u P0601_BRAKE_OUT == 32 + pin) ||
  (recsOf 0x0A01 d).any (fun r => (r.bytes P0A01_OUT_PIN.off 64).contains pin) ||
  (recsOf 0x0902 d).any fun r => (List.range (r.u P0902_OUT_COUNT)).any fun j =>
    let o := outOff r j
    r.uAt (o + 2) 1 != 1 && r.uAt (o + 4) 2 == pin

/-- General I/O outputs at RUN (R497): a pin with PICK, and a pin without a writer, starts at INIT_HIGH. -/
def gpioRun (d : Dev) : Dev :=
  forL (recsOf 0x0101 d) (fun r d => forL (List.range (r.uAt 0 2)) (fun i d =>
    let p := r.u P0101_PIN i
    let f := r.u P0101_FLAGS i
    if bit f 2 || !pinWritten p d then gpioDrive p (bit f 1) d else d) d) d

/-- The picks that are armed at RUN (R82). -/
def armedAtRun (d : Dev) : List Nat :=
  (recsOf 0x0303 d).flatMap fun r => ((List.range (r.u P0303_COUNT)).filter fun i => bit (r.u P0303_FLAGS i) 3).map fun i => r.u P0303_PICK i

/-- The epoch in force, with its strand (R475). -/
def setEpoch (e : Nat) (d : Dev) : Dev := setStrand 0x12 1 e (put PAIR_STATUS_EPOCH 0 e d)

/-- ACTIVE_N is low in ACTIVE and STOPPED, and in an unpaired unit from RUN (R446, R448). -/
def setActiveOut (b : Bool) (d : Dev) : Dev := putB PAIR_STATUS_ACTIVE_OUT 0 b d

/-- Registers that count or show the largest since RUN. -/
def sinceRun (d : Dev) : Dev :=
  d |> wr FLT_COUNTS 0 0 |> wr REEL_COUNTS 0 0 |> wr PAIR_LINK 0 0 |> put SYS_STATUS_HALTS 0 0 |> put SYS_TEMP_TJ_MAX 0 (get SYS_TEMP_TJ 0 d)
    |> forN 9 (fun k d => put SYS_RAIL_MIN_MV k (get SYS_RAIL_MV k d) d)

/-- Step 10: RUN begins in pair state `st` (R44, R456): every block starts, and the picks armed at RUN are armed. -/
def enterRun (st : Nat) (d : Dev) : Dev :=
  let us := (2 * d.unit.lockNs + 5 * edge d + 1000) / 2000
  { d with unit := { d.unit with phase := .run, failedStarts := 0, stopped := false } }
    |> put FUSE_LDR_STATE_STEP 0 10 |> put FUSE_LDR_TIME_START_US 0 (satU 32 us) |> setPairState st |> setActiveOut (st == 6 || st == 9)
    |> sinceRun |> gpioRun |> fbRun |> plyRun |> motRun |> driveRun |> shuRun |> creelRun |> hankRun |> recRun |> safetyRun
    |> (fun d => forL (armedAtRun d) armPick d)

end Sys2Proof.Machine
end

