-- ==== Sys2Proof/Machine/PairRole.lean ====
section
/-! DEFINITION. The roles of a pair (R455 to R462): epochs, role changes, heartbeats, the witness, TAKEOVER frames and the takeover
boundary. -/

namespace Sys2Proof.Machine

/-! Epochs and reports. -/

/-- The successor of an epoch (R460). -/
def succEpoch (e : Nat) : Nat := if e % 65536 = 65535 then 1 else e % 65536 + 1

/-- `a` is the higher epoch (R291). -/
def epochHigher (a b : Nat) : Bool :=
  let k := (a + 65536 - b % 65536) % 65536
  decide (1 ≤ k ∧ k ≤ 32767)

/-- The pair's notes changed. -/
def pairMod (f : PairX → PairX) (d : Dev) : Dev := { d with pairx := f d.pairx }

/-- The highest epoch heard for the pair since step 7 (R456). -/
def hearEpoch (e : Nat) (d : Dev) : Dev :=
  if e ≠ 0 ∧ (d.pairx.heard = 0 ∨ epochHigher e d.pairx.heard) then pairMod (fun x => { x with heard := e }) d else d

/-- The unit is a member of a pair. -/
def isMember (d : Dev) : Bool := (pairRec d).isSome

/-- A role report goes over the pair link (R455, log entry 30). -/
def sendReport (d : Dev) : Dev := linkSend 5 ([2, pairState d] ++ leBytes 2 (get PAIR_STATUS_EPOCH 0 d)) d

/-- A state of R455 entered and reported; 0x120B clears when WAITING is left. -/
def roleTo (st : Nat) (d : Dev) : Dev :=
  let was := pairState d
  sendReport (onlyIf (was == 2 && st != 2) (clearFault 0x120B 0) (setPairState st d))

/-- The unit becomes ACTIVE at a start (R456, R460): its epoch, step 9 and RUN. -/
def startActive (e : Nat) (d : Dev) : Dev :=
  let d := setEpoch e (clearFault 0x120B 0 d)
  let d := enterRun 6 (chooseRestart d)
  sendReport (pairMod (fun x => { x with runEdge := edge d, shadowSeen := false, shadowMiss := 0, silent := false }) d)

/-- The unit joins its ACTIVE partner (R455, R457): RUN as a standby, without step 9, and a join request. -/
def startJoining (d : Dev) : Dev :=
  let d := clearFault 0x120B 0 d
  let d := put FUSE_LDR_STATE_START_KIND 0 2 (setEpoch 0 d)
  let d := if d.unit.phase == .run then setPairState 3 d else enterRun 3 { d with unit := { d.unit with coldRequest := false, warmRequest := false } }
  sendReport (requestJoin d)

/-- WAITING is entered (R456): 0x120B. -/
def startWaiting2 (d : Dev) : Dev := raise 0x120B 0 (roleTo 2 (setEpoch 0 d))

/-- The partner has become ACTIVE: a WAITING member requests a join (R455). -/
def partnerIsActive (d : Dev) : Dev :=
  let was := d.pairx.partnerActive
  let d := pairMod (fun x => { x with partnerActive := true }) d
  if !was && pairState d == 2 then startJoining d else d

/-- The mirrored samples are no longer read (R208): the unit is not a standby. -/
def fbUnmirror (d : Dev) : Dev :=
  forL (recsOf 0x0801 d) (fun r d => let n := r.u P0801_IFACE; { d with fbs := d.fbs.put n { d.fbs.get {} n with mir := none } }) d

/-- A join fails (R455, R457): 0x1206, and it is tried again after 1 s. -/
def joinFails (d : Dev) : Dev :=
  if pairState d = 3 ∨ pairState d = 4 then
    let d := stick PAIR_FLAGS_JOIN_FAIL 0 0x1206 0 d
    let d := pairMod (fun x => { x with failEdge := edge d + 1, replay := [], held := 0, snap := [], snapOn := false }) d
    if d.pairx.partnerActive then setPairState 3 d else startWaiting2 (fbUnmirror d)
  else d

/-- The partner is no longer ACTIVE. -/
def partnerLeaves (d : Dev) : Dev := joinFails (pairMod (fun x => { x with partnerActive := false }) d)

/-- A member is replaced (R455, R461): ACTIVE_N is released, no more DATA, epoch 0, and 0x1205 where it was ACTIVE. -/
def depose (d : Dev) : Dev :=
  let d := onlyIf (pairState d != 7) (stick PAIR_FLAGS_DEPOSED 0 0x1205 0) d
  roleTo 8 (pairMod (fun x => { x with deposedEdge := edge d, silent := true }) (setEpoch 0 (setActiveOut false d)))

/-! TAKEOVER. -/

/-- A TAKEOVER word that names this pair (R459, R460). -/
def takeWord (w : Nat) (d : Dev) : Dev :=
  let e := bits w 0 16
  let dest := bits w 16 6
  match pairRec d with
  | none => d
  | some r =>
    if bits w 22 5 ≠ r.u P1201_PAIR then d
    else
      let st := pairState d
      if dest = ownNode d ∧ st = 5 ∧ e = succEpoch (get PAIR_STATUS_EPOCH 0 d) then pairMod (fun x => { x with pend := some e }) d
      else if dest = ownNode d ∧ st = 2 ∧ e = (if d.pairx.heard = 0 then 1 else succEpoch d.pairx.heard) then startActive e d
      else if dest = partnerNode d ∧ st = 6 then depose d
      else stick PAIR_FLAGS_TAKEOVER_IGNORED 0 0x120C 0 d

/-- The OFFSET of an interface becomes permanent (R460): the count, what was kept of it, and its strand move by it. -/
def fbKeepOffset (n : Nat) (d : Dev) : Dev :=
  let x := d.fbs.get {} n
  let o := x.offset.getD 0
  let p := fbCount n d + o
  { d with fbs := d.fbs.put n { x with mir := none, offset := none, idxRef := x.idxRef.map (· + o)
                                       changes := x.changes.map fun c => { c with p := c.p + o / 65536 } } }
    |> onlyIf (o != 0) (fun d => putStrandsS [(0x08000 + n, p)] (putS FBK_FB_POS_COUNT n p d))

/-- Hold requests at a takeover (R269, R270): those stay whose fault is still active, the others are those of decisions that the active unit
made in its time. -/
def holdsKept (d : Dev) : Dev :=
  let on (h : Nat) : Bool := hankFaulted h d
  { d with holdReq := d.holdReq.filter fun p => on p.1, holdAt := d.holdAt.filter fun p => on p.1 }

/-- Whole multiples of 40 ns in sixteenths. -/
def ns16 (ns : Nat) : Nat := ns * 32 / 5

/-- CYCLE in ns. -/
def weftCycle (d : Dev) : Nat := orD (schedRec d) P0B02_CYCLE 0

/-- CYCLE in sixteenths. -/
def weftCycle16 (d : Dev) : Nat := ns16 (weftCycle d)

/-- The present edge is the first one at or after the start of a Weft cycle (R280). -/
def cycleBoundary (d : Dev) : Bool :=
  let x := d.weft
  let past := now d - x.start
  !x.timed || decide (x.start ≤ now d ∧ past % max 1 (weftCycle16 d) < 16)

/-- TAKEOVER_BOUNDARY (R460): the first cycle boundary after an accepted TAKEOVER. -/
def takeoverBoundaryAt (d : Dev) : Dev :=
  match d.pairx.pend with
  | none => d
  | some e =>
    if pairState d ≠ 5 || !cycleBoundary d then d
    else
      let d := setActiveOut true (setEpoch e (setPairState 6 d))
      let d := pairMod (fun x => { x with pend := none, replay := [], held := 0, partnerActive := false, runEdge := edge d, shadowSeen := false
                                          shadowMiss := 0, silent := false }) d
      d |> put PAIR_TAKEOVER_STAMP 0 (now d) |> put FUSE_LDR_STATE_START_KIND 0 3
        |> (fun d => forL (recsOf 0x0801 d) (fun r => fbKeepOffset (r.u P0801_IFACE)) d)
        |> (fun d => forL (recsOf 0x0702 d) (fun r => sdRestart r (3 * 2 ^ r.u P0702_OSR_LOG2)) d)
        |> (fun d => forL (List.range 256) (fun t d => if isRole1 t d then put CREEL_THREAD_STATUS_PENDING t 0 d else d) d)
        |> holdsKept |> plyRun |> streamsOff |> xchgAbort
        |> (fun d => raise 0x1204 0 (put PAIR_FLAGS_TOOK_OVER 0 1 d)) |> sendReport

def execTakeoverBoundary (dt : Nat) (s : State) : Host.Outcome State Fault Refusal := onDev dt takeoverBoundaryAt s

/-! Heartbeats. -/

/-- What a member takes from its partner's heartbeat slot at a delivery edge (R456, R458, R461, 0x1201): whether a valid heartbeat came, its
epoch, and whether it was a DATA frame. -/
def partnerBeat (present : Bool) (epoch : Nat) (data : Bool) (d : Dev) : Dev :=
  let d := if present then hearEpoch epoch d else d
  let mine := get PAIR_STATUS_EPOCH 0 d
  let d := if present && data && epoch != 0 then (if pairState d = 6 && epochHigher epoch mine then depose d else partnerIsActive d) else d
  if pairState d ≠ 6 then d
  else if present && !data && epoch == mine then clearFault 0x1201 0 (pairMod (fun x => { x with shadowSeen := true, shadowMiss := 0 }) d)
  else
    let n := d.pairx.shadowMiss + 1
    let d := pairMod (fun x => { x with shadowMiss := n }) d
    if (d.pairx.shadowSeen && decide (3 ≤ n)) || (!d.pairx.shadowSeen && decide (4000000000 ≤ since d.pairx.runEdge d)) then
      raise 0x1201 0 (put PAIR_FLAGS_PARTNER_LOST 0 1 d)
    else d

/-- A declaration of the witness (R459): the word waits for the first own slot whose assembly closes after it. -/
def declare_ (w : Nat) (r : Rec) (dest epoch : Nat) (d : Dev) : Dev :=
  let word := succEpoch epoch + dest * 65536 + r.u P1201_PAIR * 4194304
  { d with weft := { d.weft with takeover := d.weft.takeover ++ [word] } }
    |> bumpSat PAIR_W_STATE_TAKEOVERS w |> put PAIR_W_LAST_STAMP w (now d) |> (fun d => raise 0x120A (r.u P1201_PAIR) d)

/-- What the witness of pair record `w` takes from member A's or B's heartbeat slot at its delivery edge (R458, R459). -/
def witnessBeat (w : Nat) (r : Rec) (isA present : Bool) (epoch : Nat) (data : Bool) (d : Dev) : Dev :=
  let x := d.pairx.wits.get {} w
  let node := if isA then r.u P1201_MEMBER_A else r.u P1201_MEMBER_B
  let x := if isA then { x with presA := present, epochA := epoch, missA := if present then 0 else x.missA + 1 }
    else { x with presB := present, epochB := epoch, missB := if present then 0 else x.missB + 1 }
  let live := present && data && epoch != 0
  let x := if live && (x.high == 0 || !epochHigher x.high epoch) then { x with active := node } else x
  let x := if present && epoch != 0 && (x.high == 0 || epochHigher epoch x.high) then { x with high := epoch } else x
  let x := { x with quiet := if live then 0 else if isA then x.quiet + 1 else x.quiet }
  let act := x.active
  let misses := if act = r.u P1201_MEMBER_A then x.missA else if act = r.u P1201_MEMBER_B then x.missB else 0
  let show_ (x : WitX) (d : Dev) : Dev := pairMod (fun p => { p with wits := p.wits.put w x }) d
    |> put PAIR_W_STATE_ACTIVE_NODE w x.active |> put PAIR_W_STATE_MISSES w (min 3 misses)
  let other : Nat × Bool × Nat := if act = r.u P1201_MEMBER_A then (r.u P1201_MEMBER_B, x.presB, x.epochB) else (r.u P1201_MEMBER_A, x.presA, x.epochA)
  if act = node ∧ misses = 3 ∧ other.2.1 = true ∧ other.2.2 ≠ 0 ∧ other.2.2 = x.high then declare_ w r other.1 other.2.2 (show_ x d)
  else if 3 ≤ x.quiet ∧ ((x.presA = true ∧ x.epochA = 0) ∨ (x.presB = true ∧ x.epochB = 0)) ∧ (x.presA = true ∨ x.presB = true) then
    let waitsA := x.presA && x.epochA == 0
    let waitsB := x.presB && x.epochB == 0
    let pref := r.u P1201_PREFERRED
    let dest := if pref = r.u P1201_MEMBER_A then (if waitsA then pref else r.u P1201_MEMBER_B) else if waitsB then pref else r.u P1201_MEMBER_A
    declare_ w r dest x.high (show_ { x with quiet := 0 } d)
  else show_ x d

/-- The heartbeats that a slot carries, for this unit as a member and as a witness. -/
def heartbeats (slot : Nat) (present : Bool) (epoch : Nat) (data : Bool) (d : Dev) : Dev :=
  let d := match pairRec d with
    | some r =>
      let s := if r.u P1201_MEMBER_A = ownNode d then r.u P1201_HB_SLOT_B else r.u P1201_HB_SLOT_A
      if s = slot then partnerBeat present epoch data d else d
    | none => d
  forL (witRecs d).zipIdx (fun p d =>
    if p.1.u P1201_HB_SLOT_A = slot then witnessBeat p.2 p.1 true present epoch data d
    else if p.1.u P1201_HB_SLOT_B = slot then witnessBeat p.2 p.1 false present epoch data d else d) d

/-- The witness's slot of a member's pair: 0x1202 while it is LOST. -/
def witnessSlot (slot status : Nat) (d : Dev) : Dev :=
  match pairRec d with
  | some r =>
    if r.u P1201_WITNESS = 0 ∨ r.u P1201_WITNESS_SLOT ≠ slot then d
    else if status = 3 then raise 0x1202 0 (put PAIR_FLAGS_WITNESS_LOST 0 1 d)
    else if status = 1 then clearFault 0x1202 0 d else d
  | none => d

/-! Other events of R455. -/

/-- PEER_ACTIVE_FALL (R448, R455, R461): with its own ACTIVE_N low the unit releases it, and a member is deposed. -/
def peerActiveFallAt (d : Dev) : Dev :=
  let d := put PAIR_STATUS_PEER_ACTIVE 0 1 d
  if !flag PAIR_STATUS_ACTIVE_OUT 0 d then d else if isMember d then depose d else setActiveOut false d

def execPeerActiveFall (dt : Nat) (s : State) : Host.Outcome State Fault Refusal := onDev dt peerActiveFallAt s

/-- HOLD_LIMIT in edges (R462): 5 cycles and 1 ms. -/
def holdLimit (d : Dev) : Nat := orD (schedRec d) P0B02_CYCLE 0 * 2 + 400000

/-- HOLD_LIMIT_EXPIRY (R462, R485): the bridge pins of a stopped unit go to SAFE; a member's raises 0x120D. -/
def holdLimitExpiryAt (d : Dev) : Dev :=
  if d.unit.stopped ∧ ¬ d.unit.holdDone ∧ holdLimit d ≤ since d.unit.stopEdge d ∧ (pairState d = 7 ∨ pairState d = 9) then
    let d := { d with unit := { d.unit with holdDone := true } }
    let d := forL (recsOf 0x0704 d) (fun r d => pinsSafe (edge d) (r.u P0704_AXIS) d) d
    if pairState d = 7 then raise 0x120D 0 d else d
  else d

def execHoldLimitExpiry (dt : Nat) (s : State) : Host.Outcome State Fault Refusal := onDev dt holdLimitExpiryAt s

/-- JOIN_TIMEOUT (R457): not in SHADOW 10 s after the join request, or more than 192 KiB of items held. -/
def joinTimeoutAt (d : Dev) : Dev :=
  if (pairState d = 3 ∨ pairState d = 4) ∧ d.pairx.failEdge = 0 ∧ (4000000000 ≤ since d.pairx.joinEdge d ∨ 196608 < d.pairx.held) then joinFails d
  else d

def execJoinTimeout (dt : Nat) (s : State) : Host.Outcome State Fault Refusal := onDev dt joinTimeoutAt s

/-- JOIN_RETRY (R455): 1 s after a failed join. -/
def joinRetryAt (d : Dev) : Dev :=
  if d.pairx.failEdge ≠ 0 ∧ 400000000 ≤ since (d.pairx.failEdge - 1) d then
    let d := pairMod (fun x => { x with failEdge := 0 }) d
    if pairState d = 3 ∧ d.pairx.partnerActive then requestJoin d else d
  else d

def execJoinRetry (dt : Nat) (s : State) : Host.Outcome State Fault Refusal := onDev dt joinRetryAt s

/-- NEGOTIATION_END (R456): the listen period of 20 ms or 4 cycles is over. -/
def negotiationEndAt (d : Dev) : Dev :=
  let wait := max 8000000 (4 * (orD (schedRec d) P0B02_CYCLE 0 * 2 / 5))
  if d.unit.phase ≠ .starting ∨ pairState d ≠ 1 ∨ since d.pairx.negEdge d < wait then d
  else if d.pairx.partnerActive then startJoining d
  else if flag PAIR_STATUS_PREFERRED 0 d then startActive (if d.pairx.heard = 0 then 1 else succEpoch d.pairx.heard) d
  else startWaiting2 d

def execNegotiationEnd (dt : Nat) (s : State) : Host.Outcome State Fault Refusal := onDev dt negotiationEndAt s

end Sys2Proof.Machine
end

