-- ==== Sys2Proof/Machine/SnapCode.lean ====
section
/-! DEFINITION. How a join's snapshot (R457) is laid out in bytes. The layout is the model's own (log entry 47): every item of state is a
list of numbers, each number its length in two bytes and then its magnitude, and edge counts are given relative to the boundary. -/

namespace Sys2Proof.Machine

/-! Numbers. -/

/-- A number. -/
def encN (n : Nat) : List Int := [n]
/-- A signed number. -/
def encI (i : Int) : List Int := [i]
/-- A truth value. -/
def encB (b : Bool) : List Int := [b2n b]
/-- A rational. -/
def encR (q : Rat) : List Int := [q.num, q.den]
/-- An edge count, or 0, relative to the boundary's edge. -/
def encE (b : Int) (n : Nat) : List Int := if n = 0 then [0, 0] else [1, n - b]
/-- A pair. -/
def encP {α β : Type} (f : α → List Int) (g : β → List Int) (p : α × β) : List Int := f p.1 ++ g p.2
/-- An option. -/
def encO {α : Type} (f : α → List Int) : Option α → List Int
  | none => [0]
  | some a => 1 :: f a
/-- A list. -/
def encL {α : Type} (f : α → List Int) (l : List α) : List Int := (l.length : Int) :: l.flatMap f
/-- A table. -/
def encT {α : Type} (f : α → List Int) (l : Tab α) : List Int := encL (encP encN f) l

/-- A signed number off the front. -/
def decI : List Int → Int × List Int
  | [] => (0, [])
  | i :: l => (i, l)
/-- A number off the front. -/
def decN (l : List Int) : Nat × List Int := ((decI l).1.toNat, (decI l).2)
/-- A truth value off the front. -/
def decB (l : List Int) : Bool × List Int := ((decI l).1 == 1, (decI l).2)
/-- A rational off the front. -/
def decR (l : List Int) : Rat × List Int :=
  let p := decI l
  let q := decN p.2
  (mkRat p.1 q.1, q.2)
/-- An edge count off the front, for a boundary at edge `b`. -/
def decE (b : Int) (l : List Int) : Nat × List Int :=
  let p := decI l
  let q := decI p.2
  (if p.1 = 0 then 0 else (q.1 + b).toNat, q.2)
/-- A pair off the front. -/
def decP {α β : Type} (f : List Int → α × List Int) (g : List Int → β × List Int) (l : List Int) : (α × β) × List Int :=
  let p := f l
  let q := g p.2
  ((p.1, q.1), q.2)
/-- An option off the front. -/
def decO {α : Type} (f : List Int → α × List Int) (l : List Int) : Option α × List Int :=
  let p := decI l
  if p.1 = 0 then (none, p.2) else
    let q := f p.2
    (some q.1, q.2)
/-- `n` items off the front. -/
def decMany {α : Type} (f : List Int → α × List Int) : Nat → List Int → List α × List Int
  | 0, l => ([], l)
  | n + 1, l =>
    let p := f l
    let q := decMany f n p.2
    (p.1 :: q.1, q.2)
/-- A list off the front. -/
def decL {α : Type} (f : List Int → α × List Int) (l : List Int) : List α × List Int :=
  let p := decN l
  decMany f (min p.1 p.2.length) p.2
/-- A table off the front. -/
def decT {α : Type} (f : List Int → α × List Int) (l : List Int) : Tab α × List Int := decL (decP decN f) l

/-! Bytes. -/

/-- Bytes that a number needs. -/
def byteLen : Nat → Nat → Nat
  | 0, _ => 0
  | fuel + 1, n => if n = 0 then 0 else byteLen fuel (n / 256) + 1

/-- A number as bytes: twice its magnitude, plus one when negative, behind its length. -/
def numBytes (i : Int) : List Nat :=
  let z := if i < 0 then 2 * i.natAbs + 1 else 2 * i.natAbs
  let n := byteLen 65535 z
  leBytes 2 n ++ leBytes n z

/-- Numbers out of bytes; `fuel` is at least their count. -/
def bytesNums : Nat → List Nat → List Int
  | 0, _ => []
  | _, [] => []
  | fuel + 1, bs =>
    let n := leVal (bs.take 2)
    let z := leVal ((bs.drop 2).take n)
    (if z % 2 = 1 then -((z / 2 : Nat) : Int) else ((z / 2 : Nat) : Int)) :: bytesNums fuel (bs.drop (2 + n))

/-! The structures of State, field by field. -/

/-- `PlyW` as numbers. -/
def encPlyW (_b : Int) (x : PlyW) : List Int :=
  encL encI x.a1 ++ encL encI x.a2

/-- `PlyW` out of numbers. -/
def decPlyW (_b : Int) (l : List Int) : PlyW × List Int :=
  let p0 := decL decI l
  let p1 := decL decI p0.2
  ({ a1 := p0.1, a2 := p1.1 }, p1.2)

/-- `Ramp` as numbers. -/
def encRamp (_b : Int) (x : Ramp) : List Int :=
  encI x.r ++ encI x.v ++ encI x.a ++ encI x.x ++ encB x.fromFb ++ encB x.given

/-- `Ramp` out of numbers. -/
def decRamp (_b : Int) (l : List Int) : Ramp × List Int :=
  let p0 := decI l
  let p1 := decI p0.2
  let p2 := decI p1.2
  let p3 := decI p2.2
  let p4 := decB p3.2
  let p5 := decB p4.2
  ({ r := p0.1, v := p1.1, a := p2.1, x := p3.1, fromFb := p4.1, given := p5.1 }, p5.2)

/-- `PlyL` as numbers. -/
def encPlyL (b : Int) (x : PlyL) : List Int :=
  encB x.live ++ encN x.stamp ++ encE b x.edge ++ encI x.y ++ encI x.x ++ encI x.xff ++ encN x.kind5 ++ encI x.term ++ encB x.hold ++ encI x.goal ++
    encI x.vLim ++ encI x.aLim ++ encI x.jLim ++ encB x.done ++ encE b x.fin ++ encI x.r ++ encI x.e ++ encI x.w ++ encI x.ff ++ encI x.u ++
    encL encI x.xs ++ encPlyW b x.next ++ encRamp b x.ramp

/-- `PlyL` out of numbers. -/
def decPlyL (b : Int) (l : List Int) : PlyL × List Int :=
  let p0 := decB l
  let p1 := decN p0.2
  let p2 := decE b p1.2
  let p3 := decI p2.2
  let p4 := decI p3.2
  let p5 := decI p4.2
  let p6 := decN p5.2
  let p7 := decI p6.2
  let p8 := decB p7.2
  let p9 := decI p8.2
  let p10 := decI p9.2
  let p11 := decI p10.2
  let p12 := decI p11.2
  let p13 := decB p12.2
  let p14 := decE b p13.2
  let p15 := decI p14.2
  let p16 := decI p15.2
  let p17 := decI p16.2
  let p18 := decI p17.2
  let p19 := decI p18.2
  let p20 := decL decI p19.2
  let p21 := decPlyW b p20.2
  let p22 := decRamp b p21.2
  ({ live := p0.1, stamp := p1.1, edge := p2.1, y := p3.1, x := p4.1, xff := p5.1, kind5 := p6.1, term := p7.1, hold := p8.1, goal := p9.1,
     vLim := p10.1, aLim := p11.1, jLim := p12.1, done := p13.1, fin := p14.1, r := p15.1, e := p16.1, w := p17.1, ff := p18.1, u := p19.1,
     xs := p20.1, next := p21.1, ramp := p22.1 }, p22.2)

/-- `PlyX` as numbers. -/
def encPlyX (b : Int) (x : PlyX) : List Int :=
  encPlyW b x.w ++ encRamp b x.ramp ++ encN x.n0 ++ encN x.staleRun ++ encB x.restart ++ encPlyL b x.launch ++ encI x.nodeE ++ encI x.nodeW ++
    encI x.nodeFf ++ encL encI x.nodeX ++ encE b x.pubEdge ++ encL encN x.old ++ encN x.vSet ++ encN x.aSet ++ encN x.jSet ++ encN x.shape

/-- `PlyX` out of numbers. -/
def decPlyX (b : Int) (l : List Int) : PlyX × List Int :=
  let p0 := decPlyW b l
  let p1 := decRamp b p0.2
  let p2 := decN p1.2
  let p3 := decN p2.2
  let p4 := decB p3.2
  let p5 := decPlyL b p4.2
  let p6 := decI p5.2
  let p7 := decI p6.2
  let p8 := decI p7.2
  let p9 := decL decI p8.2
  let p10 := decE b p9.2
  let p11 := decL decN p10.2
  let p12 := decN p11.2
  let p13 := decN p12.2
  let p14 := decN p13.2
  let p15 := decN p14.2
  ({ w := p0.1, ramp := p1.1, n0 := p2.1, staleRun := p3.1, restart := p4.1, launch := p5.1, nodeE := p6.1, nodeW := p7.1, nodeFf := p8.1,
     nodeX := p9.1, pubEdge := p10.1, old := p11.1, vSet := p12.1, aSet := p13.1, jSet := p14.1, shape := p15.1 }, p15.2)

/-- `GrpX` as numbers. -/
def encGrpX (b : Int) (x : GrpX) : List Int :=
  encB x.live ++ encN x.stamp ++ encE b x.edge ++ encB x.ever ++ encN x.pos ++ encN x.posTwin ++ encN x.started ++ encB x.okMain ++ encB x.okTwin ++
    encL (encP encN encN) x.flipMain ++ encL (encP encN encN) x.flipTwin ++ encB x.decided ++ encB x.held ++ encN x.unresolved ++ encN x.single ++
    encB x.rerun ++ encB x.traced ++ encN x.placed ++ encN x.epoch ++ encN x.epochTwin ++ encT (encE b) x.finMain ++ encT (encE b) x.finTwin

/-- `GrpX` out of numbers. -/
def decGrpX (b : Int) (l : List Int) : GrpX × List Int :=
  let p0 := decB l
  let p1 := decN p0.2
  let p2 := decE b p1.2
  let p3 := decB p2.2
  let p4 := decN p3.2
  let p5 := decN p4.2
  let p6 := decN p5.2
  let p7 := decB p6.2
  let p8 := decB p7.2
  let p9 := decL (decP decN decN) p8.2
  let p10 := decL (decP decN decN) p9.2
  let p11 := decB p10.2
  let p12 := decB p11.2
  let p13 := decN p12.2
  let p14 := decN p13.2
  let p15 := decB p14.2
  let p16 := decB p15.2
  let p17 := decN p16.2
  let p18 := decN p17.2
  let p19 := decN p18.2
  let p20 := decT (decE b) p19.2
  let p21 := decT (decE b) p20.2
  ({ live := p0.1, stamp := p1.1, edge := p2.1, ever := p3.1, pos := p4.1, posTwin := p5.1, started := p6.1, okMain := p7.1, okTwin := p8.1,
     flipMain := p9.1, flipTwin := p10.1, decided := p11.1, held := p12.1, unresolved := p13.1, single := p14.1, rerun := p15.1, traced := p16.1,
     placed := p17.1, epoch := p18.1, epochTwin := p19.1, finMain := p20.1, finTwin := p21.1 }, p21.2)

/-- `EngX` as numbers. -/
def encEngX (b : Int) (x : EngX) : List Int :=
  encN x.group ++ encN x.entry ++ encE b x.since

/-- `EngX` out of numbers. -/
def decEngX (b : Int) (l : List Int) : EngX × List Int :=
  let p0 := decN l
  let p1 := decN p0.2
  let p2 := decE b p1.2
  ({ group := p0.1, entry := p1.1, since := p2.1 }, p2.2)

/-- `Seg` as numbers. -/
def encSeg (_b : Int) (x : Seg) : List Int :=
  encR x.t ++ encR x.p ++ encR x.v ++ encR x.a

/-- `Seg` out of numbers. -/
def decSeg (_b : Int) (l : List Int) : Seg × List Int :=
  let p0 := decR l
  let p1 := decR p0.2
  let p2 := decR p1.2
  let p3 := decR p2.2
  ({ t := p0.1, p := p1.1, v := p2.1, a := p3.1 }, p3.2)

/-- `Plan` as numbers. -/
def encPlan (b : Int) (x : Plan) : List Int :=
  encL (encSeg b) x.segs ++ encR x.tEnd ++ encI x.target ++ encO encR x.reversing

/-- `Plan` out of numbers. -/
def decPlan (b : Int) (l : List Int) : Plan × List Int :=
  let p0 := decL (decSeg b) l
  let p1 := decR p0.2
  let p2 := decI p1.2
  let p3 := decO decR p2.2
  ({ segs := p0.1, tEnd := p1.1, target := p2.1, reversing := p3.1 }, p3.2)

/-- `MCmd` as numbers. -/
def encMCmd (_b : Int) (x : MCmd) : List Int :=
  encN x.seq ++ encN x.code ++ encN x.flags ++ encN x.p1 ++ encN x.p2 ++ encI x.value ++ encI x.speed ++ encN x.aux ++ encN x.pad

/-- `MCmd` out of numbers. -/
def decMCmd (_b : Int) (l : List Int) : MCmd × List Int :=
  let p0 := decN l
  let p1 := decN p0.2
  let p2 := decN p1.2
  let p3 := decN p2.2
  let p4 := decN p3.2
  let p5 := decI p4.2
  let p6 := decI p5.2
  let p7 := decN p6.2
  let p8 := decN p7.2
  ({ seq := p0.1, code := p1.1, flags := p2.1, p1 := p3.1, p2 := p4.1, value := p5.1, speed := p6.1, aux := p7.1, pad := p8.1 }, p8.2)

/-- `GearX` as numbers. -/
def encGearX (_b : Int) (x : GearX) : List Int :=
  encN x.measure ++ encI x.pA ++ encI x.mA ++ encI x.num ++ encN x.shift ++ encN x.e ++ encR x.prevV ++ encN x.prevT

/-- `GearX` out of numbers. -/
def decGearX (_b : Int) (l : List Int) : GearX × List Int :=
  let p0 := decN l
  let p1 := decI p0.2
  let p2 := decI p1.2
  let p3 := decI p2.2
  let p4 := decN p3.2
  let p5 := decN p4.2
  let p6 := decR p5.2
  let p7 := decN p6.2
  ({ measure := p0.1, pA := p1.1, mA := p2.1, num := p3.1, shift := p4.1, e := p5.1, prevV := p6.1, prevT := p7.1 }, p7.2)

/-- `HomeX` as numbers. -/
def encHomeX (_b : Int) (x : HomeX) : List Int :=
  encN x.phase ++ encI x.start ++ encN x.began ++ encN x.after ++ encO encN x.refT ++ encO encI x.refP ++ encO (encP encN encI) x.since ++
    encL encN x.idx ++ encB x.suspended ++ encB x.ended

/-- `HomeX` out of numbers. -/
def decHomeX (_b : Int) (l : List Int) : HomeX × List Int :=
  let p0 := decN l
  let p1 := decI p0.2
  let p2 := decN p1.2
  let p3 := decN p2.2
  let p4 := decO decN p3.2
  let p5 := decO decI p4.2
  let p6 := decO (decP decN decI) p5.2
  let p7 := decL decN p6.2
  let p8 := decB p7.2
  let p9 := decB p8.2
  ({ phase := p0.1, start := p1.1, began := p2.1, after := p3.1, refT := p4.1, refP := p5.1, since := p6.1, idx := p7.1, suspended := p8.1,
     ended := p9.1 }, p9.2)

/-- `AxisX` as numbers. -/
def encAxisX (b : Int) (x : AxisX) : List Int :=
  encPlan b x.plan ++ encO (encMCmd b) x.boxH ++ encO (encMCmd b) x.boxS ++ encN x.by_ ++ encN x.code ++ encB x.shown ++ encO (encGearX b) x.gear ++
    encHomeX b x.home ++ encL (encP encN encI) x.smp ++ encO encN x.reading ++ encI x.ext ++ encN x.staleRun ++ encO encN x.lastEval ++
    encO encN x.inpos ++ encO (encP (encE b) encN) x.brake ++ encB x.enableAtRun ++ encB x.onPath ++ encP encI (encP encI encI) x.path ++
    encO encN x.limPos ++ encO encN x.limNeg ++ encI x.tripPos ++ encI x.tripNeg ++ encI x.posR ++ encI x.ffTerm ++ encB x.satPos ++ encB x.satVel

/-- `AxisX` out of numbers. -/
def decAxisX (b : Int) (l : List Int) : AxisX × List Int :=
  let p0 := decPlan b l
  let p1 := decO (decMCmd b) p0.2
  let p2 := decO (decMCmd b) p1.2
  let p3 := decN p2.2
  let p4 := decN p3.2
  let p5 := decB p4.2
  let p6 := decO (decGearX b) p5.2
  let p7 := decHomeX b p6.2
  let p8 := decL (decP decN decI) p7.2
  let p9 := decO decN p8.2
  let p10 := decI p9.2
  let p11 := decN p10.2
  let p12 := decO decN p11.2
  let p13 := decO decN p12.2
  let p14 := decO (decP (decE b) decN) p13.2
  let p15 := decB p14.2
  let p16 := decB p15.2
  let p17 := decP decI (decP decI decI) p16.2
  let p18 := decO decN p17.2
  let p19 := decO decN p18.2
  let p20 := decI p19.2
  let p21 := decI p20.2
  let p22 := decI p21.2
  let p23 := decI p22.2
  let p24 := decB p23.2
  let p25 := decB p24.2
  ({ plan := p0.1, boxH := p1.1, boxS := p2.1, by_ := p3.1, code := p4.1, shown := p5.1, gear := p6.1, home := p7.1, smp := p8.1, reading := p9.1,
     ext := p10.1, staleRun := p11.1, lastEval := p12.1, inpos := p13.1, brake := p14.1, enableAtRun := p15.1, onPath := p16.1, path := p17.1,
     limPos := p18.1, limNeg := p19.1, tripPos := p20.1, tripNeg := p21.1, posR := p22.1, ffTerm := p23.1, satPos := p24.1, satVel := p25.1 }, p25.2)

/-- `GSeg` as numbers. -/
def encGSeg (_b : Int) (x : GSeg) : List Int :=
  encN x.seq ++ encN x.kind ++ encN x.plane ++ encN x.turns ++ encI x.feed ++ encI x.endSpeed ++ encL encI x.ends ++ encL encI x.geom

/-- `GSeg` out of numbers. -/
def decGSeg (_b : Int) (l : List Int) : GSeg × List Int :=
  let p0 := decN l
  let p1 := decN p0.2
  let p2 := decN p1.2
  let p3 := decN p2.2
  let p4 := decI p3.2
  let p5 := decI p4.2
  let p6 := decL decI p5.2
  let p7 := decL decI p6.2
  ({ seq := p0.1, kind := p1.1, plane := p2.1, turns := p3.1, feed := p4.1, endSpeed := p5.1, ends := p6.1, geom := p7.1 }, p7.2)

/-- `GRun` as numbers. -/
def encGRun (b : Int) (x : GRun) : List Int :=
  encGSeg b x.seg ++ encL encI x.start ++ encR x.len ++ encL encI x.tan0 ++ encL encI x.tan1 ++ encR x.radius ++ encI x.angle ++ encR x.vMax ++
    encR x.acc ++ encR x.dec

/-- `GRun` out of numbers. -/
def decGRun (b : Int) (l : List Int) : GRun × List Int :=
  let p0 := decGSeg b l
  let p1 := decL decI p0.2
  let p2 := decR p1.2
  let p3 := decL decI p2.2
  let p4 := decL decI p3.2
  let p5 := decR p4.2
  let p6 := decI p5.2
  let p7 := decR p6.2
  let p8 := decR p7.2
  let p9 := decR p8.2
  ({ seg := p0.1, start := p1.1, len := p2.1, tan0 := p3.1, tan1 := p4.1, radius := p5.1, angle := p6.1, vMax := p7.1, acc := p8.1, dec := p9.1 }, p9.2)

/-- `MGrpX` as numbers. -/
def encMGrpX (b : Int) (x : MGrpX) : List Int :=
  encO (encGSeg b) x.boxH ++ encO (encGSeg b) x.boxS ++ encL (encGRun b) x.queue ++ encPlan b x.plan ++ encR x.base ++ encB x.stopping ++
    encB x.byStop ++ encN x.fault ++ encI x.pos ++ encI x.vel ++ encO (encL encI) x.lastTan

/-- `MGrpX` out of numbers. -/
def decMGrpX (b : Int) (l : List Int) : MGrpX × List Int :=
  let p0 := decO (decGSeg b) l
  let p1 := decO (decGSeg b) p0.2
  let p2 := decL (decGRun b) p1.2
  let p3 := decPlan b p2.2
  let p4 := decR p3.2
  let p5 := decB p4.2
  let p6 := decB p5.2
  let p7 := decN p6.2
  let p8 := decI p7.2
  let p9 := decI p8.2
  let p10 := decO (decL decI) p9.2
  ({ boxH := p0.1, boxS := p1.1, queue := p2.1, plan := p3.1, base := p4.1, stopping := p5.1, byStop := p6.1, fault := p7.1, pos := p8.1,
     vel := p9.1, lastTan := p10.1 }, p10.2)

/-- `GroupX` as numbers. -/
def encGroupX (b : Int) (x : GroupX) : List Int :=
  encE b x.start ++ encT encN x.staged ++ encT (encE b) x.stagedAt ++ encT (encE b) x.launchOf ++ encE b x.loadEdge ++ encE b x.again ++
    encE b x.priorEdge ++ encT encN x.prior ++ encE b x.reloaded

/-- `GroupX` out of numbers. -/
def decGroupX (b : Int) (l : List Int) : GroupX × List Int :=
  let p0 := decE b l
  let p1 := decT decN p0.2
  let p2 := decT (decE b) p1.2
  let p3 := decT (decE b) p2.2
  let p4 := decE b p3.2
  let p5 := decE b p4.2
  let p6 := decE b p5.2
  let p7 := decT decN p6.2
  let p8 := decE b p7.2
  ({ start := p0.1, staged := p1.1, stagedAt := p2.1, launchOf := p3.1, loadEdge := p4.1, again := p5.1, priorEdge := p6.1, prior := p7.1,
     reloaded := p8.1 }, p8.2)

/-- `DriveX` as numbers. -/
def encDriveX (b : Int) (x : DriveX) : List Int :=
  encE b x.enableEdge ++ encB x.pending ++ encE b x.launchEdge ++ encI x.ia ++ encI x.ib ++ encI x.ic ++ encN x.theta ++ encN x.thetaOut ++
    encI x.id ++ encI x.iq ++ encN x.ca ++ encN x.cb ++ encN x.cc ++ encB x.stale ++ encO (encP (encE b) encB) x.pinsAt ++ encT (encE b) x.pinEdge

/-- `DriveX` out of numbers. -/
def decDriveX (b : Int) (l : List Int) : DriveX × List Int :=
  let p0 := decE b l
  let p1 := decB p0.2
  let p2 := decE b p1.2
  let p3 := decI p2.2
  let p4 := decI p3.2
  let p5 := decI p4.2
  let p6 := decN p5.2
  let p7 := decN p6.2
  let p8 := decI p7.2
  let p9 := decI p8.2
  let p10 := decN p9.2
  let p11 := decN p10.2
  let p12 := decN p11.2
  let p13 := decB p12.2
  let p14 := decO (decP (decE b) decB) p13.2
  let p15 := decT (decE b) p14.2
  ({ enableEdge := p0.1, pending := p1.1, launchEdge := p2.1, ia := p3.1, ib := p4.1, ic := p5.1, theta := p6.1, thetaOut := p7.1, id := p8.1,
     iq := p9.1, ca := p10.1, cb := p11.1, cc := p12.1, stale := p13.1, pinsAt := p14.1, pinEdge := p15.1 }, p15.2)

/-- `TaskX` as numbers. -/
def encTaskX (b : Int) (x : TaskX) : List Int :=
  encB x.live ++ encB x.begun ++ encB x.broken ++ encB x.cont ++ encB x.free ++ encB x.toHold ++ encN x.pc ++ encL encN x.regs ++
    encL encN x.stack ++ encN x.stamp ++ encE b x.sEdge ++ encL (encP encN encN) x.frz ++ encN x.words ++ encT encI x.image ++ encT encI x.travel ++
    encO (encT encI) x.heldAt ++ encL (encP encN (encP encN encN)) x.posts ++ encL (encP encN encN) x.log ++ encN x.ext ++ encN x.brkAt ++
    encB x.rerun ++ encN x.outAt ++ encN x.contAt ++ encT (encP (encE b) encN) x.boxes

/-- `TaskX` out of numbers. -/
def decTaskX (b : Int) (l : List Int) : TaskX × List Int :=
  let p0 := decB l
  let p1 := decB p0.2
  let p2 := decB p1.2
  let p3 := decB p2.2
  let p4 := decB p3.2
  let p5 := decB p4.2
  let p6 := decN p5.2
  let p7 := decL decN p6.2
  let p8 := decL decN p7.2
  let p9 := decN p8.2
  let p10 := decE b p9.2
  let p11 := decL (decP decN decN) p10.2
  let p12 := decN p11.2
  let p13 := decT decI p12.2
  let p14 := decT decI p13.2
  let p15 := decO (decT decI) p14.2
  let p16 := decL (decP decN (decP decN decN)) p15.2
  let p17 := decL (decP decN decN) p16.2
  let p18 := decN p17.2
  let p19 := decN p18.2
  let p20 := decB p19.2
  let p21 := decN p20.2
  let p22 := decN p21.2
  let p23 := decT (decP (decE b) decN) p22.2
  ({ live := p0.1, begun := p1.1, broken := p2.1, cont := p3.1, free := p4.1, toHold := p5.1, pc := p6.1, regs := p7.1, stack := p8.1, stamp := p9.1,
     sEdge := p10.1, frz := p11.1, words := p12.1, image := p13.1, travel := p14.1, heldAt := p15.1, posts := p16.1, log := p17.1, ext := p18.1,
     brkAt := p19.1, rerun := p20.1, outAt := p21.1, contAt := p22.1, boxes := p23.1 }, p23.2)

/-- `ShuEngX` as numbers. -/
def encShuEngX (b : Int) (x : ShuEngX) : List Int :=
  encN x.cur ++ encE b x.at_

/-- `ShuEngX` out of numbers. -/
def decShuEngX (b : Int) (l : List Int) : ShuEngX × List Int :=
  let p0 := decN l
  let p1 := decE b p0.2
  ({ cur := p0.1, at_ := p1.1 }, p1.2)

/-- `HankReq` as numbers. -/
def encHankReq (_b : Int) (x : HankReq) : List Int :=
  encN x.seq ++ encN x.code ++ encN x.recipe ++ encN x.step ++ encN x.tag

/-- `HankReq` out of numbers. -/
def decHankReq (_b : Int) (l : List Int) : HankReq × List Int :=
  let p0 := decN l
  let p1 := decN p0.2
  let p2 := decN p1.2
  let p3 := decN p2.2
  let p4 := decN p3.2
  ({ seq := p0.1, code := p1.1, recipe := p2.1, step := p3.1, tag := p4.1 }, p4.2)

/-- `StagedSet` as numbers. -/
def encStagedSet (_b : Int) (x : StagedSet) : List Int :=
  encN x.step ++ encB x.ends ++ encO (encP encN encN) x.loop

/-- `StagedSet` out of numbers. -/
def decStagedSet (_b : Int) (l : List Int) : StagedSet × List Int :=
  let p0 := decN l
  let p1 := decB p0.2
  let p2 := decO (decP decN decN) p1.2
  ({ step := p0.1, ends := p1.1, loop := p2.1 }, p2.2)

/-- `HankX` as numbers. -/
def encHankX (b : Int) (x : HankX) : List Int :=
  encO (encP (encE b) (encHankReq b)) x.boxH ++ encO (encP (encE b) (encHankReq b)) x.boxS ++ encO (encStagedSet b) x.next ++
    encO (encStagedSet b) x.branch ++ encO (encStagedSet b) x.hold ++ encT encN x.loops ++ encN x.need ++ encE b x.needEdge ++ encN x.deferred ++
    encN x.aim ++ encN x.running ++ encB x.newVer ++ encO encN x.recipe ++ encO encN x.step ++ encE b x.lastEdge ++ encE b x.stagedEdge ++
    encP (encO (encStagedSet b)) (encP (encO (encStagedSet b)) (encO (encStagedSet b))) x.before ++ encL encN x.beats

/-- `HankX` out of numbers. -/
def decHankX (b : Int) (l : List Int) : HankX × List Int :=
  let p0 := decO (decP (decE b) (decHankReq b)) l
  let p1 := decO (decP (decE b) (decHankReq b)) p0.2
  let p2 := decO (decStagedSet b) p1.2
  let p3 := decO (decStagedSet b) p2.2
  let p4 := decO (decStagedSet b) p3.2
  let p5 := decT decN p4.2
  let p6 := decN p5.2
  let p7 := decE b p6.2
  let p8 := decN p7.2
  let p9 := decN p8.2
  let p10 := decN p9.2
  let p11 := decB p10.2
  let p12 := decO decN p11.2
  let p13 := decO decN p12.2
  let p14 := decE b p13.2
  let p15 := decE b p14.2
  let p16 := decP (decO (decStagedSet b)) (decP (decO (decStagedSet b)) (decO (decStagedSet b))) p15.2
  let p17 := decL decN p16.2
  ({ boxH := p0.1, boxS := p1.1, next := p2.1, branch := p3.1, hold := p4.1, loops := p5.1, need := p6.1, needEdge := p7.1, deferred := p8.1,
     aim := p9.1, running := p10.1, newVer := p11.1, recipe := p12.1, step := p13.1, lastEdge := p14.1, stagedEdge := p15.1, before := p16.1,
     beats := p17.1 }, p17.2)

end Sys2Proof.Machine
end

