-- ==== Sys2Proof/Machine/PairSnap.lean ====
section
/-! DEFINITION. The snapshot of a join (R457): what it holds, how the active unit sends it, and how the joining unit takes it. -/

namespace Sys2Proof.Machine

/-- Registers and strands of the snapshot (R457): picks, plies, motion, drive, Shuttle, hanks, and the words and statuses of Weft slots. -/
def snapAddr (a : Nat) : Bool :=
  let blk := a / 65536
  let off := a % 65536
  if blk = 0x3 then decide (0x1000 ≤ off ∧ off < 0x8000)
  else if blk = 0x5 then decide (0x1000 ≤ off)
  else if blk = 0x7 then decide ((0x100 ≤ off ∧ off < 0x1000) ∨ 0x2000 ≤ off)
  else if blk = 0x9 then decide (off = 0 ∨ 0x400 ≤ off)
  else if blk = 0xB then decide (0x8000 ≤ off ∧ (off - 0x8000) / 8 % 64 ≤ 60)
  else decide (blk = 0x6 ∨ blk = 0xA)

/-- The snapshot as numbers. -/
def snapNums (d : Dev) : List Int :=
  let b : Int := edge d
  encN (now d) ++ encT encN (d.live.filter fun c => snapAddr c.1) ++ encT (encPlyX b) d.plies ++ encT (encGrpX b) d.grps ++ encT (encEngX b) d.engs
    ++ encT (encAxisX b) d.axes ++ encT (encMGrpX b) d.mgrps ++ encT (encGroupX b) d.groups ++ encT (encDriveX b) d.drives
    ++ encT (encTaskX b) d.shu.tasks ++ encT (encShuEngX b) d.shu.engs ++ encT encN d.shu.vars ++ encL encN d.shu.retake
    ++ encT (encHankX b) d.hanks ++ encT encN d.hankSeq ++ encT encN d.txw ++ encT (encP (encE b) encN) d.txLate ++ encL encN d.txNew

/-- The snapshot put in place (R457). Its edge counts are turned into this unit's own by the loom time of the boundary. -/
def snapTake (l : List Int) (d : Dev) : Dev :=
  let p0 := decN l
  let b : Int := edge d - (now d - p0.1 : Int) / 16
  let p1 := decT decN p0.2
  let p2 := decT (decPlyX b) p1.2
  let p3 := decT (decGrpX b) p2.2
  let p4 := decT (decEngX b) p3.2
  let p5 := decT (decAxisX b) p4.2
  let p6 := decT (decMGrpX b) p5.2
  let p7 := decT (decGroupX b) p6.2
  let p8 := decT (decDriveX b) p7.2
  let p9 := decT (decTaskX b) p8.2
  let p10 := decT (decShuEngX b) p9.2
  let p11 := decT decN p10.2
  let p12 := decL decN p11.2
  let p13 := decT (decHankX b) p12.2
  let p14 := decT decN p13.2
  let p15 := decT decN p14.2
  let p16 := decT (decP (decE b) decN) p15.2
  let p17 := decL decN p16.2
  let own := d.live.filter fun c => !snapAddr c.1
  let live := (p1.1.filter fun c => snapAddr c.1).foldl (fun t c => Tab.put c.1 c.2 t) own
  { d with live := live, plies := p2.1, grps := p3.1, engs := p4.1, axes := p5.1, mgrps := p6.1, groups := p7.1, drives := p8.1
           shu := { d.shu with tasks := p9.1, engs := p10.1, vars := p11.1, retake := p12.1 }
           hanks := p13.1, hankSeq := p14.1, txw := p15.1, txLate := p16.1, txNew := p17.1 }
    |> (fun d => forL ((List.range 1024).filter fun k => pickArmed k d) armPick d)

/-- The snapshot's KIND 2 frames: the model's own bodies (log entry 47), a word that is 1 in the last, and the bytes. -/
def snapSend : Nat → List Nat → Dev → Dev
  | 0, _, d => d
  | fuel + 1, bs, d =>
    if bs.length ≤ 2044 then linkSend 2 (leBytes 4 1 ++ bs) d
    else snapSend fuel (bs.drop 2044) (linkSend 2 (leBytes 4 0 ++ bs.take 2044) d)

/-- The active unit's snapshot at a cycle boundary (R457). -/
def sendSnapshot (d : Dev) : Dev :=
  let bs := (snapNums d).flatMap numBytes
  snapSend (bs.length / 2044 + 1) bs { d with pairx := { d.pairx with joinReq := false } }

end Sys2Proof.Machine
end

