-- ==== Sys2Proof/Machine/Weft.lean ====
section
/-! DEFINITION. The Weft controller (R278 to R294, R297 to R303): receptions, assembly and transmission, deliveries, the end of a cycle, and
the loom's start, integration and loss. Deviations are in tenths of a sixteenth, so that 1 ns is 64 of them. -/

namespace Sys2Proof.Machine

/-! The schedule (R280, R306). -/

/-- The Weft's notes changed. -/
def weftMod (f : WeftX → WeftX) (d : Dev) : Dev := { d with weft := f d.weft }

/-- The controller's state (R297). -/
def weftState (d : Dev) : Nat := get WEFT_STATUS_STATE 0 d

/-- A state of R297 entered. -/
def setWeftState (st : Nat) (d : Dev) : Dev := put WEFT_STATUS_STATE 0 st d

/-- Nanoseconds in FCLK edges, rounded up. -/
def nsEdges (ns : Nat) : Nat := (2 * ns + 4) / 5

/-- SELVAGE in ns. -/
def selvage (d : Dev) : Nat := orD (schedRec d) P0B02_SELVAGE 0

/-- Slots of the schedule. -/
def weftSlots (d : Dev) : Nat := orD (schedRec d) P0B02_SLOTS 0

/-- A field of a slot. -/
def slotU (f : PF) (s : Nat) (d : Dev) : Nat := ((schedRec d).map (·.u f s)).getD 0

/-- The slot is a sync slot. -/
def slotSync (s : Nat) (d : Dev) : Bool := bit (slotU P0B02_FLAGS s d) 0

/-- The slot is a heartbeat slot. -/
def slotBeat (s : Nat) (d : Dev) : Bool := bit (slotU P0B02_FLAGS s d) 1

/-- This node owns the slot. -/
def slotOwn (s : Nat) (d : Dev) : Bool := decide (s < weftSlots d) && slotU P0B02_OWNER s d == ownNode d

/-- The slots of this node. -/
def ownSlots (d : Dev) : List Nat := (List.range (weftSlots d)).filter fun s => slotOwn s d

/-- The sync slot of a node. -/
def syncSlotOf (node : Nat) (d : Dev) : Option Nat := (List.range (weftSlots d)).find? fun s => slotU P0B02_OWNER s d == node && slotSync s d

/-- Channel `c` is enabled. -/
def chanOn (c : Nat) (d : Dev) : Bool := decide (c < 2) && bit (orD (nodeRec d) P0B01_FLAGS 0) (1 + c)

/-- The channels that are enabled. -/
def chansOn (d : Dev) : List Nat := (List.range 2).filter fun c => chanOn c d

/-- CABLE of a node on channel `c`. -/
def cableOf (node c : Nat) (d : Dev) : Nat :=
  match schedRec d with
  | some r =>
    let base := 16 + 16 * r.u P0B02_SLOTS
    ((List.range (r.u P0B02_NODES)).find? fun j => r.uAt (base + 8 * j) 1 == node).elim 0 fun j => r.uAt (base + 8 * j + 2 + 2 * c) 2
  | none => 0

/-- STAR_DELAY of channel `c`. -/
def starOf (c : Nat) (d : Dev) : Nat := orD (schedRec d) (if c = 0 then P0B02_STAR_DELAY_A else P0B02_STAR_DELAY_B) 0

/-- start(c) of cycle `c` (R280). -/
def startOf (c : Nat) (d : Dev) : Int := d.weft.start + ((c : Int) - d.weft.n) * weftCycle16 d

/-- The action point of slot `s` in cycle `c` (R281). -/
def actionPoint (s c : Nat) (d : Dev) : Int := startOf c d + ns16 (slotU P0B02_OFFSET s d + selvage d + 120)

/-- Characters of a frame with `w` words (R281). -/
def frameChars (sync : Bool) (w : Nat) : Nat := 13 + 8 * b2n sync + 4 * w

/-- E less start(n) for slot `s` on channel `c` (R289), in tenths of a sixteenth. -/
def expectOff (s c : Nat) (d : Dev) : Int :=
  64 * (slotU P0B02_OFFSET s d + selvage d + 200 + cableOf (slotU P0B02_OWNER s d) c d + starOf c d + cableOf (ownNode d) c d : Nat)

/-- LISTEN_CYCLES × CYCLE in edges. -/
def listenEdges (d : Dev) : Nat := nsEdges (orD (nodeRec d) P0B01_LISTEN_CYCLES 0 * weftCycle d)

/-! The heddle as the controller acts on it (R295). -/

/-- The restart signal: TXEN off, no reference, BLOCKED. -/
def heddleRestart (d : Dev) : Dev :=
  let d := weftMod (fun x => { x with mark := none, markOk := false, span := none }) d
  if get WEFT_STATUS_HEDDLE 0 d = 2 then d else put WEFT_STATUS_HEDDLE 0 0 d

/-- A transmission outside a shed (R295): HEDDLE_VIOL and 0x0B05. -/
def heddleViol (d : Dev) : Dev := raise 0x0B05 0 (put WEFT_FLAGS_HEDDLE_VIOL 0 1 (bumpSat WEFT_COUNTS_HEDDLE_VIOL 0 d))

/-- The heddle lets a frame of slot `s` through now. -/
def shedOpen (s : Nat) (d : Dev) : Bool :=
  match d.weft.span with
  | some (sl, lo, hi) => sl == s && decide (lo ≤ edge d ∧ edge d ≤ hi) && get WEFT_STATUS_HEDDLE 0 d != 2
  | none => false

/-- The characters of a frame behind its SOF (R283), header and CRC in network byte order (R4). -/
def weftBytes (s c typ epoch : Nat) (ws : List Nat) (d : Dev) : List Nat :=
  let ctrl := typ * 16384 + b2n (slotSync s d) * 8192 + b2n (slotBeat s d) * 4096 + ws.length * 64 + ownNode d
  let body := beBytes 2 ctrl ++ beBytes 2 epoch ++ beBytes 2 (c % 65536) ++ (if slotSync s d then beBytes 8 (startOf c d).toNat else [])
    ++ ws.flatMap (beBytes 4)
  body ++ beBytes 4 (crc32c body)

/-- A frame leaves on every enabled channel, as far as the heddle lets it (R284, R295): its code groups on the line (R278, R283). -/
def weftSend (s c : Nat) (a : WeftAsm) (d : Dev) : Dev :=
  let line := frameLine (weftBytes s c a.typ a.epoch a.carried d)
  let d := weftMod (fun x => { x with air := some (edge d, line) }) d
  if shedOpen s d then send .weft (s * 4 + (chansOn d).foldl (fun m k => m + 2 ^ k) 0) line d
  else if get WEFT_STATUS_HEDDLE 0 d = 1 then heddleViol d
  else d

/-- The bit of the frame on the air that a channel sends at the present edge: a bit lasts 4 ns, 1.6 edges (R278). -/
def airBit (d : Dev) : Option Bool :=
  match d.weft.air with
  | some (e, gs) =>
    let k := (edge d - e) * 5 / 8
    if e ≤ edge d ∧ k < 10 * gs.length then some (lineBit gs k) else none
  | none => none

/-- The level of the ball WA_TXEN or WB_TXEN, active high (R278): the controller's request, let through by the heddle (R295). -/
def txenBall (c : Nat) (d : Dev) : Bool :=
  match d.weft.span with
  | some (s, _, _) => chanOn c d && shedOpen s d && (airBit d).isSome
  | none => false

/-- The level of the ball WA_TXD or WB_TXD: NRZ, and low while TXEN is inactive (R278). -/
def txdBall (c : Nat) (d : Dev) : Bool := txenBall c d && (airBit d).getD false

/-! Cycles and loom time. -/

/-- The cycle's registers (R309). -/
def showCycle (d : Dev) : Dev := d |> put WEFT_CYCLE_NUMBER 0 d.weft.n |> put WEFT_CYCLE_START_STAMP 0 d.weft.start

/-- The node's cycles follow from cycle `n` with its start (R280, R298). -/
def retime (n start : Nat) (d : Dev) : Dev :=
  showCycle (weftMod (fun x => { x with
    timed := true, n := n, start := start, rx := [], asm := [], devs := [], good := 0, bad := false, whole := false
    got := x.got.map fun p => (p.1, { p.2 with next := 0 }), heard := false, ownSeen := false, ownMiss := 0, chanSeen := 0, echoBy := 0 }) d)

/-- The stamps of a measure's samples on the new scale. -/
def stepMeas (step : Int) (x : MeasX) : MeasX :=
  let move (t : Nat) : Nat := (t + step).toNat
  { x with smp := x.smp.map fun s => { s with t := move s.t }, adc := x.adc.map fun a => (move a.1, a.2) }

/-- Loom time moves by `step`, and so do the stamps from before it: of event records, measure samples, and the last transitions of pins
and lines (R58, R397). REEL_STEP_OFFSET holds the sum of the steps. -/
def stepLoom (step : Int) (d : Dev) : Dev :=
  let move (t : Nat) : Nat := (t + step).toNat
  let sampled := (d.meas.filter fun p => p.2.ever).map (·.1)
  let d : Dev := { d with
    clk := { d.clk with loom := move d.clk.loom }
    recd := { d.recd with buf := d.recd.buf.map fun e => if e.preLoom then { e with stamp := move e.stamp } else e }
    meas := d.meas.map fun p => (p.1, stepMeas step p.2)
    pins := d.pins.map fun p => (p.1, if p.2.ever then { p.2 with stamp := move p.2.stamp, inst := move p.2.inst } else p.2)
    lines := d.lines.map fun p => (p.1, if p.2.ever then { p.2 with stamp := move p.2.stamp, inst := move p.2.inst, lvlStamp := move p.2.lvlStamp } else p.2)
    ptp := { d.ptp with d21 := none, epoch := d.ptp.epoch - step } }
  d |> forL sampled (fun m d => put REEL_MEAS_SAMPLE_STAMP m (move (get REEL_MEAS_SAMPLE_STAMP m d)) d)
    |> putS REEL_STEP_OFFSET_OFFSET 0 (getS REEL_STEP_OFFSET_OFFSET 0 d + step)
    |> onlyIf (flag REEL_TIME_STATUS_PTP_LOCKED 0 d) (fun d => putS REEL_EPOCH_OFFSET_OFFSET 0 (getS REEL_EPOCH_OFFSET_OFFSET 0 d - step) d)

/-- 0x0306: VALUE is the step in ms, rounded. -/
def noteStep (step : Int) (d : Dev) : Dev := raise 0x0306 0 d 0 (divHalfUp step ms16)

/-- Step 7's listening begins (R297). -/
def weftListen (d : Dev) : Dev :=
  setWeftState 1 { d with weft := { listenUntil := edge d + listenEdges d } } |> put FUSE_LDR_STATE_STEP 0 7

/-- LISTEN is entered again, with a timer longer by `more` edges. -/
def listenAgain (more : Nat) (d : Dev) : Dev :=
  setWeftState 1 (weftMod (fun x => { x with listenUntil := edge d + listenEdges d + more, echoBy := 0 }) d)

/-! Receptions (R285, R289). -/

/-- A reception fails a check of R285. -/
def weftFail (chan s cause : Nat) (d : Dev) : Dev :=
  let f := if cause ≤ 2 then WEFT_CHAN_ERR_CODE_LENGTH else if cause = 3 then WEFT_CHAN_ERR_CRC else if cause = 4 then WEFT_CHAN_ERR_WINDOW
    else WEFT_CHAN_ERR_HEADER
  bumpSat f chan d |> onlyIf (decide (s < weftSlots d)) (fun d => put WEFT_SLOT_STATUS_CAUSE s cause (bumpSat WEFT_SLOT_COUNT_ERRORS s d))

/-- W agrees with R284. -/
def lengthOk (s : Nat) (f : WeftFrame) (d : Dev) : Bool :=
  let w := f.words.length
  match f.typ with
  | 0 => w == slotU P0B02_WORDS s d
  | 1 => w == 0
  | 2 => w == 0 && slotSync s d
  | 3 => decide (w ≤ slotU P0B02_WORDS s d)
  | _ => false

/-- The header check of R285, without the cycle number. -/
def headerOk (s : Nat) (f : WeftFrame) (d : Dev) : Bool :=
  f.source == slotU P0B02_OWNER s d && bit f.flags 0 == slotSync s d && bit f.flags 1 == slotBeat s d && lengthOk s f d

/-- A channel is up again with a valid frame (R294). -/
def chanUp (c : Nat) (d : Dev) : Dev :=
  clearFault 0x0B02 c (put (if c = 0 then WEFT_STATUS_CHAN_A_UP else WEFT_STATUS_CHAN_B_UP) 0 1
    (weftMod (fun x => { x with chanSeen := setBit x.chanSeen c true, chanMiss := x.chanMiss.put c 0 }) d))

/-- A valid reception noted for its delivery and for the correction of R292. -/
def noteRx (chan s c : Nat) (dev : Int) (f : WeftFrame) (d : Dev) : Dev :=
  let own := slotOwn s d
  let sync := slotSync s d && !own
  weftMod (fun x => { x with
    rx := x.rx ++ [⟨s, chan, c, dev, f⟩], ownSeen := x.ownSeen || own
    devs := if sync then x.devs.put (2 * s + chan) dev else x.devs }) (chanUp chan d)

/-- First integration (R297, R298): loom time and cycle are set from a sync frame. The upper 32 bits of the cycle number, and whether the
loom's time is on the TAI epoch, are open (log entries 48 and 49). -/
def integrate (chan s : Nat) (f : WeftFrame) (d : Dev) : Dev :=
  let hi := fresh 32 d
  let tai := fresh 1 hi.2
  let n := f.cycle % 65536 + 65536 * hi.1
  let late := 10 * ((now d : Int) + f.sof) - (10 * (f.stamp : Int) + expectOff s chan d)
  let step := divHalfUp (-late) 10
  heddleRestart tai.2 |> stepLoom step |> put REEL_TIME_STATUS_LOOM_SET 0 1 |> put REEL_TIME_STATUS_EPOCH_VALID 0 tai.1
    |> put WEFT_STATUS_ALONE 0 0 |> retime n f.stamp |> weftMod (fun x => { x with step := step })
    |> setWeftState 3 |> noteStep step |> noteRx chan s n (late + 10 * step) f

/-- The setting is discarded (R297): loom time goes back, and the node listens again. -/
def discardSetting (d : Dev) : Dev :=
  let step := d.weft.step
  stepLoom (-step) d |> put REEL_TIME_STATUS_LOOM_SET 0 0 |> put REEL_TIME_STATUS_EPOCH_VALID 0 0
    |> weftMod (fun x => { x with timed := false, step := 0 }) |> listenAgain 0

/-- A reintegration is abandoned (R301). -/
def reintFail (d : Dev) : Dev :=
  raise 0x0B09 0 (put WEFT_FLAGS_REINT_FAIL 0 1 (setWeftState 1 (weftMod (fun x => { x with dead := true }) d)))

/-- The first sync frame of a reintegration (R297, R301): the cycle is taken from it, and loom time is only steered. -/
def reintegrate (chan s : Nat) (f : WeftFrame) (d : Dev) : Dev :=
  let late := 10 * ((now d : Int) + f.sof) - (10 * (f.stamp : Int) + expectOff s chan d)
  if 64000000 < late.natAbs then reintFail (chanUp chan d)
  else
    let near : Int := d.weft.n + ((f.stamp : Int) - d.weft.start) / weftCycle16 d
    let n := (near + toInt 16 (ofInt 16 ((f.cycle : Int) - near))).toNat
    heddleRestart d |> retime n f.stamp |> setWeftState 3 |> noteRx chan s n late f

/-- A frame in LISTEN (R285, R297): only sync frames, without the WINDOW and CYCLE checks. -/
def listenRx (chan : Nat) (f : WeftFrame) (d : Dev) : Dev :=
  let s := (syncSlotOf f.source d).getD 64
  if !f.good then weftFail chan s (max 1 f.cause) d
  else if !bit f.flags 0 then d
  else if !headerOk s f d then weftFail chan s 5 d
  else if d.weft.settled then reintegrate chan s f d
  else integrate chan s f d

/-- The cycle in which a reception of slot `s` lies nearest to its expected instant, and its deviation. -/
def nearestCycle (chan s : Nat) (sof : Int) (d : Dev) : Nat × Int :=
  let t := 10 * ((now d : Int) + sof) - expectOff s chan d
  let cand := [d.weft.n, d.weft.n + 1, d.weft.n - 1].map fun c => (c, t - 10 * startOf c d)
  cand.foldl (fun b p => if p.2.natAbs < b.2.natAbs then p else b) (d.weft.n, t - 10 * startOf d.weft.n d)

/-- What a valid frame does in COLDSTART (R297). -/
def coldRx (chan s : Nat) (f : WeftFrame) (d : Dev) : Dev :=
  let me := ownNode d
  if f.typ = 2 ∧ f.source < me then (if d.weft.settled then reintegrate chan s f d else integrate chan s f d)
  else if f.typ = 2 ∧ f.source = me ∧ d.weft.echoBy ≠ 0 then
    put WEFT_STATUS_ALONE 0 1 (put REEL_TIME_STATUS_LOOM_SET 0 1 (weftMod (fun x => { x with echoBy := 0, aloneN := 0 }) d))
  else if f.typ ≠ 2 ∧ f.source ≠ me ∧ slotSync s d then weftMod (fun x => { x with heard := true }) d
  else d

/-- What a valid frame does in INTEGRATING (R297). -/
def integRx (s : Nat) (dev : Int) (d : Dev) : Dev :=
  if slotSync s d ∧ slotOwn s d = false ∧ 64 * orD (nodeRec d) P0B01_SYNC_LIMIT 0 < dev.natAbs then
    if d.weft.settled then weftMod (fun x => { x with bad := true }) d else discardSetting d
  else d

/-- WEFT_FRAME_RX (R285). -/
def weftFrameRxAt (chan : Nat) (f : WeftFrame) (d : Dev) : Dev :=
  let st := weftState d
  if !chanOn chan d ∨ st = 0 ∨ (st = 1 ∧ d.weft.dead) then d
  else if st = 1 then listenRx chan f d
  else if weftSlots d ≤ f.slot then weftFail chan f.slot (if f.good then 4 else max 1 f.cause) d
  else
    let s := f.slot
    let c := nearestCycle chan s f.sof d
    if !f.good then weftFail chan s (max 1 f.cause) d
    else if 64 * selvage d < c.2.natAbs then weftFail chan s 4 d
    else if !headerOk s f d || f.cycle % 65536 != c.1 % 65536 then weftFail chan s 5 d
    else
      let d := noteRx chan s c.1 c.2 f d
      if st = 2 then coldRx chan s f d else if st = 3 then integRx s c.2 d else d

def execWeftFrameRx (dt channel : Nat) (frame : WeftFrame) (s : State) : Host.Outcome State Fault Refusal := onDev dt (weftFrameRxAt channel frame) s

/-! Assembly and transmission (R284, R286, R287). -/

/-- The entries of the transmit map for slot `s`: word, flags, strand. -/
def txEntries (s : Nat) (d : Dev) : List (Nat × Nat × Nat) :=
  match recOf 0x0B03 d with
  | some r => ((List.range (r.uAt 0 2)).map fun i => (r.u P0B03_WORD i, r.u P0B03_FLAGS i, r.u P0B03_STRAND i)).filter fun e => e.1 / 64 == s
  | none => []

/-- A transmit word as it stood before the present edge, and whether it had been written since the last close. -/
def txBefore (w : Nat) (d : Dev) : Nat × Bool :=
  let p := d.txPrev.get (0, 0, false) w
  if p.1 = edge d + 1 then p.2 else (d.txw.get 0 w, d.txNew.contains w)

/-- The words that a slot's assembly takes (R287). -/
def slotWords (s : Nat) (d : Dev) : List Nat :=
  let es := txEntries s d
  (List.range (slotU P0B02_WORDS s d)).map fun w =>
    match es.find? fun e => e.1 == 64 * s + w && bit e.2.1 1 with
    | some e => trunc 32 (strandBefore e.2.2 d)
    | none => (txBefore (64 * s + w) d).1

/-- Every FRESH word of the slot has been written since the previous close; an entry with STRAND writes its word at every close
(log entry 50). -/
def freshOk (s : Nat) (d : Dev) : Bool := (txEntries s d).all fun e => !bit e.2.1 0 || bit e.2.1 1 || (txBefore e.1 d).2

/-- The unit takes its own decisions on what it sends: in RUN, active or unpaired, not in debug halt. -/
def sendsData (d : Dev) : Bool := running d && isActive d && !d.unit.halted && !d.pairx.silent

/-- TYPE of an assembled frame, and whether it is sent at all (R284, R297, R303, R459, R462). -/
def frameType (s : Nat) (d : Dev) : Option Nat :=
  let live := (d.unit.phase == .starting || d.unit.phase == .run) && !d.unit.stopped
  if !live then none
  else if weftState d = 2 then (if flag WEFT_STATUS_ALONE 0 d && slotSync s d then some 2 else none)
  else if weftState d = 4 then
    if d.weft.takeover ≠ [] ∧ 0 < slotU P0B02_WORDS s d ∧ ¬ d.unit.halted then some 3
    else if sendsData d && freshOk s d then some 0
    else some 1
  else none

/-- The epoch that a frame carries (R283, R458, R461). -/
def frameEpoch (d : Dev) : Nat := if pairState d = 6 ∨ pairState d = 5 then get PAIR_STATUS_EPOCH 0 d else 0

/-- WEFT_ASSEMBLY_CLOSE (R287) for the slot's next cycle. -/
def weftAssemblyCloseAt (s : Nat) (d : Dev) : Dev :=
  let x := d.weft
  let due (c : Nat) : Bool := (x.asm.get {} (2 * s + c % 2)).cycle1 != c + 1 &&
    decide (startOf c d + ns16 (slotU P0B02_OFFSET s d) - us16 ≤ now d ∧ (now d : Int) ≤ actionPoint s c d)
  if !x.timed || !slotOwn s d then d
  else
    match [x.n, x.n + 1].find? due with
    | none => d
    | some c =>
      let d := settleTx d
      let ws := slotWords s d
      let typ := frameType s d
      let carried := match typ with
        | some 0 => ws
        | some 3 => x.takeover.take (slotU P0B02_WORDS s d)
        | _ => []
      let unready := typ == some 1 && sendsData d
      let a : WeftAsm :=
        { cycle1 := c + 1, typ := typ.getD 1, sends := typ.isSome, unready := unready, words := ws, carried := carried, epoch := frameEpoch d }
      let keep (w : Nat) : Bool := w / 64 != s || (d.txPrev.get (0, 0, false) w).1 == edge d + 1
      let d := weftMod (fun x => { x with asm := x.asm.put (2 * s + c % 2) a
                                          takeover := if typ = some 3 then x.takeover.drop carried.length else x.takeover }) d
      { d with txNew := d.txNew.filter keep }

def execWeftAssemblyClose (dt slot : Nat) (s : State) : Host.Outcome State Fault Refusal := onDev dt (weftAssemblyCloseAt slot) s

/-- WEFT_FRAME_TX (R281, R284) at the action point. -/
def weftFrameTxAt (s : Nat) (d : Dev) : Dev :=
  let x := d.weft
  let due (c : Nat) : Bool :=
    let a := x.asm.get {} (2 * s + c % 2)
    a.cycle1 == c + 1 && a.sends && !a.sent && decide (actionPoint s c d ≤ now d)
  if !x.timed || !slotOwn s d then d
  else
    match [x.n, x.n + 1].find? due with
    | none => d
    | some c =>
      let a := x.asm.get {} (2 * s + c % 2)
      let d := weftMod (fun x => { x with asm := x.asm.put (2 * s + c % 2) { a with sent := true } }) d
      let d := if a.unready then raise 0x0B07 s (put WEFT_FLAGS_NOT_READY 0 1 (bumpSat WEFT_COUNTS_NOT_READY 0 d)) else d
      weftSend s c a d

def execWeftFrameTx (dt slot : Nat) (s : State) : Host.Outcome State Fault Refusal := onDev dt (weftFrameTxAt slot) s

/-! Deliveries (R288, R290, R291). -/

/-- The words and status of a slot as the strands show them (R290): 1 with the words, 2 and 3 without. -/
def slotTake (s status : Nat) (ws : List Nat) (stamp : Nat) (d : Dev) : Dev :=
  let was := get WEFT_SLOT_STATUS_STATUS s d
  let d := put WEFT_SLOT_STATUS_STATUS s status d
  let vals : List (Nat × Int) := if status = 1 then ws.zipIdx.map fun p => (0x0B000 + 64 * s + p.2, toInt 32 p.1) else []
  let d := putStrandsS (vals ++ [(0x0B000 + 64 * s + 60, (status : Int))]) d
  let d := if status = 1 then forL (recsOf 0x0302 d) (measDelivery (vals.map (·.1)) stamp) (clearFault 0x0B01 s d) else d
  if status = 3 ∧ was ≠ 3 then raise 0x0B01 s (bumpSat WEFT_SLOT_COUNT_LOSSES s d) else d

/-- The status of R290 from what slots delivered: 0 before the first valid frame. -/
def lossStatus (gs : List WeftGot) (d : Dev) : Nat :=
  if !gs.any (·.ever) then 0
  else if gs.any fun g => decide (g.missed < orD (nodeRec d) P0B01_LOSS_CYCLES 0) then 2
  else 3

/-- The partner of a slot, when it has one (R291). -/
def slotPartner (s : Nat) (d : Dev) : Option Nat :=
  let p := slotU P0B02_PARTNER s d
  if p = 0xFF ∨ weftSlots d ≤ p then none else some p

/-- The status, words and stamp that a slot's strands are to show (R290, R291). -/
def slotShown (s : Nat) (d : Dev) : Nat × List Nat × Nat :=
  let g := d.weft.got.get {} s
  let own (g : WeftGot) : Nat × List Nat × Nat := if g.data then (1, g.words, g.stamp) else (lossStatus [g] d, [], g.stamp)
  match slotPartner s d with
  | some q =>
    if s < q then
      let h := d.weft.got.get {} q
      if g.data ∧ h.data then own (if epochHigher h.epoch g.epoch then h else g)
      else if g.data then own g
      else if h.data then own h
      else (lossStatus [g, h] d, [], g.stamp)
    else own g
  | none => own g

/-- A slot's strands take what it is to show, and the active unit mirrors it as item 4 (R20, R453); in a standby they wait for the active
unit's item (R303). -/
def slotPublish (s : Nat) (d : Dev) : Dev :=
  if isStandby d then d
  else
    let v := slotShown s d
    slotTake s v.1 v.2.1 v.2.2 (mirror 4 (s + 256 * v.1) (now d) (v.2.1.flatMap (leBytes 4)) d)

/-- Two valid copies differ (R288). -/
def copiesDiffer (a b : WeftFrame) : Bool :=
  a.typ != b.typ || a.epoch != b.epoch || a.cycle != b.cycle || a.stamp != b.stamp || a.words != b.words || a.flags != b.flags

/-- A slot's own receptions of cycle `c` take effect: its registers and strands 61 to 63 (R288, R290, R294). -/
def slotReceive (s c : Nat) (d : Dev) : Option WeftFrame × Dev :=
  let rs := d.weft.rx.filter fun r => r.slot == s && r.cycle == c
  let ra := rs.find? (·.chan == 0)
  let rb := rs.find? (·.chan == 1)
  let used := ra.orElse fun _ => rb
  let g := d.weft.got.get {} s
  let valid := used.isSome
  let typ := used.elim g.typ (·.frame.typ)
  let isData := valid && typ == 0
  let stamp := match used with
    | some r => ((10 * startOf c d + expectOff s r.chan d + r.dev) / 10).toNat
    | none => g.stamp
  let g : WeftGot :=
    { next := c + 1, data := isData, valid := valid, ever := g.ever || valid, typ := typ, stamp := stamp
      words := if isData then used.elim [] (·.frame.words) else g.words, epoch := used.elim g.epoch (·.frame.epoch)
      missed := if valid then 0 else g.missed + 1 }
  let devs := (rs.map (·.dev))
  let ns : Int := ratHalfUp ((devs.sum : Int) / (64 * (max 1 devs.length : Nat) : Int) : Rat)
  let a := d.weft.asm.get {} (2 * s + c % 2)
  let echo := slotOwn s d && a.cycle1 == c + 1 && a.sent && (chansOn d).length == 2
  let d := weftMod (fun x => { x with got := x.got.put s g, rx := x.rx.filter fun r => !(r.slot == s && decide (r.cycle ≤ c)) }) d
    |> putB WEFT_SLOT_STATUS_VALID_A s ra.isSome |> putB WEFT_SLOT_STATUS_VALID_B s rb.isSome |> put WEFT_SLOT_STATUS_TYPE s g.typ
    |> put WEFT_SLOT_STATUS_MISSED s (satU 8 g.missed) |> onlyIf valid (putS WEFT_SLOT_DEV_NS s ns)
    |> putStrandsS [(0x0B000 + 64 * s + 61, toInt 64 g.stamp), (0x0B000 + 64 * s + 62, (g.epoch : Int)), (0x0B000 + 64 * s + 63, (g.missed : Int))]
    |> onlyIf (echo && ra.isSome != rb.isSome) (fun d => raise 0x0B04 (if ra.isSome then 1 else 0) (put WEFT_FLAGS_ECHO_FAIL 0 1 d))
    |> onlyIf (ra.any fun a => rb.any fun b => copiesDiffer a.frame b.frame) (fun d => raise 0x0B08 s (put WEFT_FLAGS_CHAN_DIFF 0 1 d))
  (used.map (·.frame), d)

/-- WEFT_DELIVERY (R288) of the slot's latest cycle whose delivery edge has come. -/
def weftDeliveryAt (s : Nat) (d : Dev) : Dev :=
  let x := d.weft
  let at_ := ns16 (slotU P0B02_OFFSET s d + slotU P0B02_LENGTH s d + orD (schedRec d) P0B02_RX_LAG 0)
  let c : Int := x.n + ((now d : Int) - x.start - at_) / weftCycle16 d
  if !x.timed ∨ weftSlots d ≤ s ∨ c < (x.got.get {} s).next then d
  else
    let r := slotReceive s c.toNat d
    let d := slotPublish s r.2
    let d := match slotPartner s d with
      | some p => if p < s then slotPublish p d else d
      | none => d
    let beat := r.1.any fun f => bit f.flags 1 && f.typ != 3
    let d := heartbeats s beat (r.1.elim 0 (·.epoch)) (r.1.any (·.typ == 0)) d
    let g := d.weft.got.get {} s
    let d := witnessSlot s (if g.data then 1 else lossStatus [g] d) d
    match r.1 with
    | some f => if f.typ = 3 then forL f.words takeWord d else d
    | none => d

def execWeftDelivery (dt slot : Nat) (s : State) : Host.Outcome State Fault Refusal := onDev dt (weftDeliveryAt slot) s

/-! The end of a cycle (R292, R294, R297, R302). -/

/-- The deviations of the sync slots in ns: the mean over the valid channels of each (R292). -/
def syncValues (d : Dev) : List Rat :=
  ((List.range (weftSlots d)).filter fun s => slotSync s d && !slotOwn s d).filterMap fun s =>
    let vs := (d.weft.devs.filter fun p => p.1 / 2 == s).map (·.2)
    if vs = [] then none else some ((vs.sum : Int) / (64 * vs.length : Nat) : Rat)

/-- m of R292 with N and k. -/
def midpoint (vals : List Rat) : Option (Rat × Nat × Nat) :=
  let n := vals.length
  let k := if n ≤ 2 then 0 else if n ≤ 7 then 1 else 2
  let l := vals.mergeSort fun a b => decide (a ≤ b)
  if n = 0 then none else some ((l.getD k 0 + l.getD (n - 1 - k) 0) / 2, n, k)

/-- The steering rate in force (R58, R292), in ppb. -/
def steer (rate : Rat) (atLimit : Bool) (d : Dev) : Dev :=
  let ppb := ratHalfUp (rate * 1000000000)
  { d with clk := { d.clk with ppb := ppb } } |> putS REEL_STEER_PPB 0 ppb |> onlyIf atLimit (put REEL_TIME_STATUS_STEER_AT_LIMIT 0 1)

/-- The correction of R292. -/
def syncCorrect (d : Dev) : Option Rat × Dev :=
  match midpoint (syncValues d) with
  | none => (none, weftMod (fun x => { x with miss := x.miss + 1, devs := [] }) d |> put WEFT_STATUS_SYNC_VALUES 0 0 |> put WEFT_STATUS_K 0 0)
  | some (m, n, k) =>
    let lim : Rat := (orD0 (recOf 0x0301 d) P0301_STEER_LIMIT 100000 : Rat) / 1000000000
    let cyc : Rat := weftCycle d
    let term : Rat := if orD (recOf 0x0301 d) P0301_SOURCE 0 = 1 ∧ flag REEL_TIME_STATUS_EPOCH_VALID 0 d then d.ptp.applied else 0
    let drift := clampR (-lim) lim (d.weft.drift - m / (4 * cyc))
    let want := drift - m / (2 * cyc) + term
    let rate := clampR (-lim) lim want
    let ns := ratHalfUp m
    (some m, weftMod (fun x => { x with miss := 0, devs := [], drift := drift, rate := rate }) d
      |> steer rate (decide (lim ≤ |want|)) |> put WEFT_STATUS_SYNC_VALUES 0 n |> put WEFT_STATUS_K 0 k
      |> putS WEFT_SYNC_M 0 (satS 16 ns) |> maxUp WEFT_SYNC_MAX_ABS 0 ns.natAbs |> putS WEFT_DRIFT_PPB 0 (ratHalfUp (drift * 1000000000)))

/-- SYNC is entered (R297). -/
def enterSync (d : Dev) : Dev :=
  weftMod (fun x => { x with settled := true, reint := false, ownMiss := 0, miss := 0, heard := false }) d
    |> setWeftState 4 |> put WEFT_STATUS_ALONE 0 0 |> put WEFT_SYNC_MAX_ABS 0 0 |> put REEL_TIME_STATUS_LOOM_SET 0 1

/-- SYNC is lost (R294): the node falls silent, and 0x0B03 with the quantity that was over its limit. -/
def loseSync (value : Int) (d : Dev) : Dev :=
  let d := weftMod (fun x => { x with reint := true, lostAt := now d }) d
  raise 0x0B03 0 (put WEFT_FLAGS_SYNC_LOST 0 1 (bumpSat WEFT_COUNTS_SYNC_LOSSES 0 (setWeftState 5 d))) 0 value

/-- The conditions of R294 after a correction with `m`. -/
def syncCheck (m : Option Rat) (d : Dev) : Dev :=
  let x := d.weft
  let sent := (ownSlots d).any fun s => let a := x.asm.get {} (2 * s + x.n % 2); a.cycle1 == x.n + 1 && a.sends
  let ownMiss := if sent && !x.ownSeen then x.ownMiss + 1 else 0
  let d := weftMod (fun x => { x with ownMiss := ownMiss }) d
  let off := m.any fun m => decide ((orD (nodeRec d) P0B01_SYNC_LIMIT 0 : Rat) < |m|)
  if off || decide (orD (nodeRec d) P0B01_LOSS_CYCLES 0 ≤ x.miss) || decide (2 ≤ ownMiss) then
    loseSync (if off then ratHalfUp (m.getD 0) else if 2 ≤ ownMiss then ownMiss else x.miss) d
  else d

/-- A cycle of INTEGRATING ends (R297): after INTEG_CYCLES complete good ones the node enters SYNC. -/
def integCheck (m : Option Rat) (d : Dev) : Dev :=
  let x := d.weft
  let near := !x.settled || m.any fun m => decide (|m| ≤ (orD (nodeRec d) P0B01_SYNC_LIMIT 0 : Rat) / 2)
  let good := if x.whole && !x.bad && near then x.good + 1 else 0
  let d := weftMod (fun x => { x with good := good }) d
  if orD (nodeRec d) P0B01_INTEG_CYCLES 0 ≤ good then enterSync d else d

/-- A cycle of COLDSTART ends (R297). -/
def coldCheck (d : Dev) : Dev :=
  if d.weft.heard then enterSync d
  else if flag WEFT_STATUS_ALONE 0 d then weftMod (fun x => { x with aloneN := x.aloneN + 1 }) d
  else d

/-- A channel without a valid frame for LOSS_CYCLES cycles is down (R294). -/
def chanCheck (c : Nat) (d : Dev) : Dev :=
  if bit d.weft.chanSeen c then d
  else
    let k := d.weft.chanMiss.get 0 c + 1
    let d := weftMod (fun x => { x with chanMiss := x.chanMiss.put c k }) d
    if k = orD (nodeRec d) P0B01_LOSS_CYCLES 0 then
      d |> put (if c = 0 then WEFT_STATUS_CHAN_A_UP else WEFT_STATUS_CHAN_B_UP) 0 0
        |> put (if c = 0 then WEFT_FLAGS_CHAN_A_DOWN else WEFT_FLAGS_CHAN_B_DOWN) 0 1 |> (fun d => raise 0x0B02 c d 0 k)
    else d

/-- Hooks are armed at a cycle start in SYNC or alone (R302). -/
def armHooks (d : Dev) : Dev :=
  let on := weftState d == 4 || (weftState d == 2 && flag WEFT_STATUS_ALONE 0 d)
  forL (recsOf 0x0B04 d) (fun r d =>
    let h := r.u P0B04_HOOK
    if on && !flag WEFT_HOOK_ARMED h d then
      let p := r.u P0B04_PICK
      armPick p (put REEL_PICK_TARGET_TARGET p (d.weft.start + ns16 (r.u P0B04_OFFSET)) (put WEFT_HOOK_ARMED h 1 d))
    else d) d

/-- OUT_CRC of cycle `c` (R449): over the transmit words of every own slot assembled in it, in slot order and in network byte order. -/
def outCrc (c : Nat) (d : Dev) : Nat :=
  crc32c ((ownSlots d).flatMap fun s =>
    let a := d.weft.asm.get {} (2 * s + c % 2)
    if a.cycle1 = c + 1 then a.words.flatMap (beBytes 4) else [])

/-- The active unit's cycle-end item (R449, R453), and the link's load (R476). -/
def cycleEndItem (d : Dev) : Dev :=
  if !mirrors d then d
  else
    let x := d.pairx
    let load := satU 16 (x.bytes * 2000 / max 1 (weftCycle d))
    let body := leBytes 8 d.weft.n ++ leBytes 4 x.items ++ leBytes 4 (outCrc d.weft.n d)
    let d := mirror 10 0 (d.weft.start + weftCycle16 d) body d
    { d with pairx := { d.pairx with items := 0, bytes := 0 } } |> put PAIR_LINK_LOAD 0 load |> maxUp PAIR_LINK_LOAD_MAX 0 load

/-- Step 7 ends (R44, R297): a member negotiates, an unpaired unit goes on to steps 9 and 10. -/
def endStep7 (d : Dev) : Dev :=
  let done := weftState d == 4 || (weftState d == 2 && flag WEFT_STATUS_ALONE 0 d && decide (8 ≤ d.weft.aloneN))
  if d.unit.phase ≠ .starting ∨ get FUSE_LDR_STATE_STEP 0 d ≠ 7 ∨ !done then d
  else if isMember d then
    sendReport (setPairState 1 (pairMod (fun x => { x with negEdge := edge d }) (put FUSE_LDR_STATE_STEP 0 8 d)))
  else enterRun 9 (chooseRestart d)

/-- WEFT_CYCLE_END (R292). -/
def weftCycleEndAt (d : Dev) : Dev :=
  let x := d.weft
  let st := weftState d
  if !x.timed ∨ st = 0 ∨ now d < x.start + weftCycle16 d then d
  else
    let r := if st = 3 ∨ st = 4 then syncCorrect d else (none, weftMod (fun x => { x with devs := [] }) d)
    let d := if st = 4 then syncCheck r.1 r.2 else if st = 3 then integCheck r.1 r.2 else if st = 2 then coldCheck r.2 else r.2
    let d := forL (chansOn d) chanCheck d
    let d := cycleEndItem d
    let d := weftMod (fun x => { x with n := x.n + 1, start := x.start + weftCycle16 d, whole := weftState d == 3, bad := false,
                                        ownSeen := false, chanSeen := 0 }) d
    let d := armHooks (showCycle d)
    let d := if d.pairx.joinReq ∧ pairState d = 6 then sendSnapshot d else d
    endStep7 d

def execWeftCycleEnd (dt : Nat) (s : State) : Host.Outcome State Fault Refusal := onDev dt weftCycleEndAt s

/-! Cold start and loss (R297, R299, R301). -/

/-- A cold-starting node with a locked PTP servo takes loom time from PTP (R60). -/
def takePtpTime (d : Dev) : Dev :=
  if flag REEL_TIME_STATUS_PTP_LOCKED 0 d && !flag REEL_TIME_STATUS_EPOCH_VALID 0 d && !flag REEL_TIME_STATUS_LOOM_SET 0 d then
    let step := getS REEL_EPOCH_OFFSET_OFFSET 0 d
    d |> stepLoom step |> put REEL_EPOCH_OFFSET_OFFSET 0 0 |> put REEL_TIME_STATUS_EPOCH_VALID 0 1 |> put REEL_TIME_STATUS_LOOM_SET 0 1 |> noteStep step
  else d

/-- A COLDSTART frame at the listen timer's end (R299). -/
def coldStart (s : Nat) (d : Dev) : Dev :=
  let d := takePtpTime d
  let way := (List.range 2).foldl (fun m c => max m (2 * cableOf (ownNode d) c d + starOf c d)) 0
  let a : WeftAsm := { cycle1 := 1, typ := 2, sends := true, sent := true, epoch := frameEpoch d }
  let d := retime 0 (now d - ns16 (slotU P0B02_OFFSET s d + selvage d + 120)) d
  let d := weftMod (fun x => { x with asm := [(2 * s, a)], echoBy := edge d + nsEdges (40 * frameChars true 0 + way + 200) + 1 }) d
  weftSend s 0 a (put WEFT_STATUS_ALONE 0 0 (setWeftState 2 d))

/-- LISTEN_TIMEOUT (R297). -/
def listenTimeoutAt (d : Dev) : Dev :=
  if weftState d ≠ 1 ∨ d.weft.dead ∨ edge d < d.weft.listenUntil then d
  else
    match (if bit (orD (nodeRec d) P0B01_FLAGS 0) 0 && !d.unit.stopped then syncSlotOf (ownNode d) d else none) with
    | some s => coldStart s d
    | none => listenAgain 0 d

def execListenTimeout (dt : Nat) (s : State) : Host.Outcome State Fault Refusal := onDev dt listenTimeoutAt s

/-- COLDSTART_ECHO_DEADLINE (R297, R299): the collision's back-off is NODE_ID times the largest LENGTH. -/
def coldstartEchoDeadlineAt (d : Dev) : Dev :=
  let x := d.weft
  if weftState d ≠ 2 ∨ x.echoBy = 0 ∨ edge d < x.echoBy - 1 then d
  else
    let unit_ := (List.range (weftSlots d)).foldl (fun m s => max m (slotU P0B02_LENGTH s d)) 0
    let d := weftMod (fun x => { x with timed := false }) (heddleRestart d)
    let d := listenAgain (nsEdges (ownNode d * unit_)) d
    raise 0x0B06 0 (put WEFT_FLAGS_COLLISION 0 1 (bumpSat WEFT_COUNTS_COLLISIONS 0 d))

def execColdstartEchoDeadline (dt : Nat) (s : State) : Host.Outcome State Fault Refusal := onDev dt coldstartEchoDeadlineAt s

/-- SYNC_LOST_RELISTEN (R297): one complete cycle after the loss. -/
def syncLostRelistenAt (d : Dev) : Dev :=
  if weftState d = 5 ∧ d.weft.lostAt + weftCycle16 d ≤ now d then listenAgain 0 d else d

def execSyncLostRelisten (dt : Nat) (s : State) : Host.Outcome State Fault Refusal := onDev dt syncLostRelistenAt s

/-- REINT_TIMEOUT (R301): not in SYNC within REINT_CYCLES. -/
def reintTimeoutAt (d : Dev) : Dev :=
  if d.weft.reint ∧ ¬ d.weft.dead ∧ d.weft.lostAt + orD (nodeRec d) P0B01_REINT_CYCLES 0 * weftCycle16 d ≤ now d then reintFail d else d

def execReintTimeout (dt : Nat) (s : State) : Host.Outcome State Fault Refusal := onDev dt reintTimeoutAt s

end Sys2Proof.Machine
end

