-- ==== Sys2Proof/Machine/Heddle.lean ====
section
/-! DEFINITION. The heddle (R295): shed marks, spans and GDCLK. Its times are counted in FCLK edges (log entry 51). -/

namespace Sys2Proof.Machine

/-- The heddle's state: 0 BLOCKED, 1 ARMED, 2 NO_CLOCK. -/
def heddle (d : Dev) : Nat := get WEFT_STATUS_HEDDLE 0 d

/-- The mark after one of slot `s`: its slot, and the edges between the two. -/
def nextMark (s : Nat) (d : Dev) : Nat × Nat :=
  let own := ownSlots d
  let off (k : Nat) : Nat := slotU P0B02_OFFSET k d
  match own.find? fun k => decide (s < k) with
  | some k => (k, nsEdges (off k - off s))
  | none =>
    let k := own.headD s
    (k, nsEdges (weftCycle d + off k - off s))

/-- How far a mark now lies from its prediction, in edges, with the tolerance of 80 ns + 2 × 10^-4 of the interval times 10000. -/
def markError (e interval : Nat) (d : Dev) : Int × Nat := ((edge d : Int) - e - interval, 320000 + 2 * (edge d - e))

/-- A mark of slot `s` lies within the tolerance of its prediction. -/
def markFits (s : Nat) (d : Dev) : Bool :=
  match d.weft.mark with
  | some (s0, e) =>
    let p := nextMark s0 d
    let m := markError e p.2 d
    p.1 == s && decide (10000 * m.1.natAbs ≤ m.2)
  | none => false

/-- A cold-start span is allowed: none opened within 0.999 × LISTEN_CYCLES × CYCLE. -/
def coldAllowed (d : Dev) : Bool := d.weft.coldAt == 0 || decide (999 * listenEdges d ≤ 1000 * (edge d + 1 - d.weft.coldAt))

/-- The span of slot `s` timed from a mark now. -/
def openSpan (s : Nat) (d : Dev) : Dev :=
  weftMod (fun x => { x with span := some (s, edge d + nsEdges (selvage d), edge d + nsEdges (slotU P0B02_LENGTH s d) - nsEdges (selvage d)) }) d

/-- A mark becomes the reference of the next. -/
def takeMark (s : Nat) (ok : Bool) (d : Dev) : Dev := weftMod (fun x => { x with mark := some (s, edge d), markOk := ok }) d

/-- The heddle blocks (R295): TXEN off, HEDDLE_BLOCK and 0x0B05. -/
def heddleBlock (d : Dev) : Dev :=
  raise 0x0B05 0 (put WEFT_FLAGS_HEDDLE_BLOCK 0 1 (put WEFT_STATUS_HEDDLE 0 0 (weftMod (fun x => { x with span := none, markOk := false }) d)))

/-- HEDDLE_MARK (R295). -/
def heddleMarkAt (s : Nat) (cold : Bool) (d : Dev) : Dev :=
  if heddle d = 2 ∨ slotOwn s d = false then d
  else if heddle d = 0 ∧ cold = true ∧ coldAllowed d = true ∧ slotSync s d = true then
    weftMod (fun x => { x with coldAt := edge d + 1 }) (openSpan s (takeMark s true d))
  else
    let fits := markFits s d
    if heddle d = 1 then (if fits then openSpan s (takeMark s true d) else takeMark s false (heddleBlock d))
    else if fits && d.weft.markOk then openSpan s (takeMark s true (put WEFT_STATUS_HEDDLE 0 1 d))
    else takeMark s fits d

def execHeddleMark (dt slot : Nat) (cold : Bool) (s : State) : Host.Outcome State Fault Refusal := onDev dt (heddleMarkAt slot cold) s

/-- HEDDLE_MARK_MISSING (R295): ARMED, and the predicted mark is overdue. -/
def heddleMarkMissingAt (d : Dev) : Dev :=
  match d.weft.mark with
  | some (s, e) =>
    let m := markError e (nextMark s d).2 d
    if heddle d = 1 ∧ 0 < m.1 ∧ m.2 < 10000 * m.1.natAbs then heddleBlock d else d
  | none => d

def execHeddleMarkMissing (dt : Nat) (s : State) : Host.Outcome State Fault Refusal := onDev dt heddleMarkMissingAt s

/-- HEDDLE_SPAN_END (R295): the span closes, and a frame that still runs is cut: the sender says so, or the frame on the air outlasts the
edge. -/
def heddleSpanEndAt (running : Bool) (d : Dev) : Dev :=
  match d.weft.span with
  | some (_, _, hi) =>
    if edge d < hi then d
    else
      let cut := running || (airBit d).isSome
      let d := weftMod (fun x => { x with span := none }) d
      if cut then heddleViol d else d
  | none => d

def execHeddleSpanEnd (dt : Nat) (running : Bool) (s : State) : Host.Outcome State Fault Refusal := onDev dt (heddleSpanEndAt running) s

/-- GDCLK_LOST (R295): no GDCLK edge for 400 ns. -/
def gdclkLostAt (d : Dev) : Dev :=
  if heddle d = 2 then weftMod (fun x => { x with gdclkAt := edge d }) d
  else
    let d := weftMod (fun x => { x with span := none, mark := none, markOk := false, gdclkAt := edge d }) d
    raise 0x0B0A 0 (put WEFT_FLAGS_GDCLK_LOST 0 1 (put WEFT_STATUS_HEDDLE 0 2 d))

def execGdclkLost (dt : Nat) (s : State) : Host.Outcome State Fault Refusal := onDev dt gdclkLostAt s

/-- GDCLK_RETURN (R295): GDCLK has been present for 1 ms. -/
def gdclkReturnAt (d : Dev) : Dev :=
  if heddle d = 2 ∧ d.weft.gdclkAt + 400000 ≤ edge d then put WEFT_STATUS_HEDDLE 0 0 d else d

def execGdclkReturn (dt : Nat) (s : State) : Host.Outcome State Fault Refusal := onDev dt gdclkReturnAt s

end Sys2Proof.Machine
end

