-- ==== Sys2Proof/Machine/Store.lean ====
section
/-! DEFINITION. The skein store (R368 to R387): probing, mount and format, the completions of its operations, wear, refresh and the
retirement of blocks and dies, the directory, and the power-fail flush. -/

namespace Sys2Proof.Machine

/-- The dies that the record names, in ascending order, with whether each is a spare (R368). -/
def arrayDies (r : Rec) : List (Nat × Bool) :=
  (List.range 8).flatMap fun c => if bit (r.u P0F01_CHANNELS) c then
    (List.range (r.u P0F01_DIES + r.u P0F01_SPARE)).map fun p => (4 * c + p, decide (r.u P0F01_DIES ≤ p)) else []

/-! Registers (R387). -/

/-- One die's registers. -/
def showDie (n : Nat) (d : Dev) : Dev :=
  let x := dieX n d
  let nb := d.store.nBlocks
  let good := goodBlocks n d
  let mine := d.store.blocks.filter fun p => p.1 / 65536 == n && p.2.st != 3
  let unlisted := good - mine.length
  let es := mine.map fun p => p.2.erases
  let mn := es.foldl min (if unlisted = 0 then (es.head?).getD 0 else 0)
  d |> put STORE_DIE_STATUS_RESERVE n (min 1023 (freeReserve n d * 1000 / max 1 good))
    |> put STORE_DIE_STATUS_BAD_BLOCKS n (min 65535 (x.factory + x.grown))
    |> put STORE_DIE_WEAR_ERASE_MIN n (satU 16 mn) |> put STORE_DIE_WEAR_ERASE_MAX n (satU 16 (es.foldl max 0))
    |> put STORE_DIE_WEAR_ERASE_MEAN n (satU 16 ((2 * es.sum + good) / (2 * max 1 good)))
    |> onlyIf (nb == 0) (put STORE_DIE_STATUS_RESERVE n 0)

/-- The number of dies, and the smallest reserve of any. -/
def showArray (d : Dev) : Dev :=
  let l := inService d
  let d := forL (List.range 32) (fun n d => if get STORE_DIE_STATUS_ROLE n d = 1 ∨ get STORE_DIE_STATUS_ROLE n d = 2 then showDie n d else d) d
  d |> put STORE_STATUS_DIES 0 l.length
    |> put STORE_STATUS_SPARES 0 ((List.range 32).filter fun n => get STORE_DIE_STATUS_ROLE n d == 2).length
    |> put STORE_LIFE_RESERVE_MIN 0 (l.foldl (fun m n => min m (get STORE_DIE_STATUS_RESERVE n d)) 1000)

/-- The sizes of the skeins (R372): HIST has what the others, the block reserve, the directory and the power-fail area leave. -/
def showSizes (r : Rec) (d : Dev) : Dev :=
  let l := inService d
  let p := min 7 (l.length - 1)
  let pg := d.store.nPages * 16384
  let total := (l.map fun n => (goodBlocks n d - freeReserve n d) * pg).sum
  let ev := r.u P0F01_EVENT_MIB * 1048576
  let sn := r.u P0F01_SNAP_MIB * 1048576
  let snap := if r.b P0F01_FLAGS 2 ∧ p ≠ 0 then sn * (p + 1) / p else sn
  let rest := total - 2 * ev - 1048576 - snap - 148 * 16384 - Config.directoryPages d.store.nBlocks l.length * 16384
  let hist := if r.b P0F01_FLAGS 1 ∧ p ≠ 0 then rest * p / (p + 1) else rest
  d |> put STORE_SK_SIZE_BYTES 0 (hist / 16384 * 16384) |> put STORE_SK_SIZE_BYTES 1 ev |> put STORE_SK_SIZE_BYTES 2 1048576
    |> put STORE_SK_SIZE_BYTES 3 sn
    |> putB STORE_SK_STATUS_PARITY 0 (r.b P0F01_FLAGS 1) |> putB STORE_SK_STATUS_PARITY 3 (r.b P0F01_FLAGS 2)
    |> put STORE_SK_STATUS_MIRROR 1 1 |> put STORE_SK_STATUS_MIRROR 2 1

/-- The write rate and the remaining life (R385), with 0x0F07. -/
def showLife (r : Rec) (d : Dev) : Dev :=
  let x := d.store
  let t := opMs d / 1000
  let rate := ((x.wrote.filter fun p => decide (t < p.1 + 10)).map (·.2)).sum
  let day := (x.wrote.map (·.2)).sum
  let ask := max 1 x.askBytes
  let rated := r.u P0F01_PE_RATED
  let used := (x.blocks.filter fun p => p.2.st != 3 && (inService d).contains (p.1 / 65536)).map fun p => p.2.erases
  let good := ((inService d).map fun n => goodBlocks n d).sum
  let budget := good * rated
  let left := budget - used.sum
  let years := if day = 0 ∨ x.progBytes = 0 then 65535
    else left * (x.nPages * 16384) * ask * 86400 * 10 / (x.progBytes * day * 31557600)
  let d := d |> put STORE_RATE_WRITE_MBS 0 (satU 16 ((rate + 5000000) / 10000000))
    |> put STORE_RATE_WA_MILLI 0 (satU 16 ((x.progBytes * 1000 + ask / 2) / ask))
    |> put STORE_LIFE_PE_USED 0 (satU 16 (used.sum * 1000 / max 1 budget)) |> put STORE_LIFE_YEARS 0 (satU 16 years)
  if years < 10 * r.u P0F01_LIFE_WARN then stick STORE_FLAGS_LIFE_LOW 0 0x0F07 0xFFFF d 0 (years / 10 : Nat) else d

/-! Moves and refreshes (R376, R377). -/

/-- The label of a page that is moved (R370): that of the page at its place, stamped as it is queued; a page of no ring is a parity page. -/
def movedLabel (place : Nat) (d : Dev) : PageLabel :=
  let b := blkX (place / 65536) d
  let base := d.store.histNum - d.recd.wait.length - d.store.histAt.length
  let l : PageLabel := { skein := b.skein, blockSeq := b.seq, stamp := now d, cycle := d.recd.powerCycle, flags := 1 }
  match d.store.histAt.idxOf? place, (d.store.pages.get [] b.skein).find? (·.place == place) with
  | some i, _ => { l with flags := 0, logical := base + i }
  | none, some p =>
    let first := ((d.store.pages.get [] b.skein).find? (·.logical == p.logical)).elim true (· == p)
    { l with flags := if first then 0 else if b.skein = 4 then 1 else 2, logical := p.logical }
  | none, none => l

/-- A move's destination is programmed page by page. -/
def movePages (m : BlkMove) (skein : Nat) (d : Dev) : Dev :=
  forL (List.range m.left) (fun i d =>
    let src := m.src * 65536 + i
    storeAsk { plainOp 5 1 (m.dst / 65536) (m.dst % 65536) i skein (edge d) 2 m.dst with
      label := movedLabel src d, data := Config.arrayPage src } d) d

/-- A block's data are copied to a block of the same die. -/
def moveBlock (src dst : Nat) (wear : Bool) (d : Dev) : Dev :=
  let b := blkX src d
  let m : BlkMove := ⟨src, dst, b.used, wear⟩
  d |> blkMod dst (fun x => { x with st := 2, skein := b.skein, used := b.used, seq := b.seq, born := opMs d })
    |> storeMod (fun x => { x with moves := x.moves ++ [m] }) |> movePages m b.skein

/-- A block is refreshed (R377), unless a move of it is under way. -/
def refreshBlock (k : Nat) (d : Dev) : Dev :=
  let b := blkX k d
  if (b.st ≠ 1 ∧ b.st ≠ 2) ∨ b.used = 0 ∨ (d.store.moves.any fun m => m.src == k) then d
  else match freshBlock (k / 65536) d with
    | (some j, d) => moveBlock k (k / 65536 * 65536 + j) false (blkMod k (fun x => { x with st := 2 }) d)
    | (none, d) => d

/-- Wear levelling on a die (R376). -/
def levelWear (n : Nat) (d : Dev) : Dev :=
  let all := (List.range d.store.nBlocks).filter fun k => (blkX (n * 65536 + k) d).st != 3
  let e (k : Nat) := (blkX (n * 65536 + k) d).erases
  let hi := all.foldl (fun m k => max m (e k)) 0
  let lo := all.foldl (fun m k => min m (e k)) hi
  if hi - lo ≤ orD (arrRec d) P0F01_WL_DELTA 0xFFFF ∨ d.store.moves.any (fun m => m.wear && m.src / 65536 == n) then d
  else
    let (src, d) := oneOf (blocksBy List.min? 2 n d) d
    let (dst, d) := oneOf (blocksBy List.max? 0 n d) d
    match src, dst with
    | some s, some t => moveBlock (n * 65536 + s) (n * 65536 + t) true d
    | _, _ => d

/-- A page of a move is programmed; with the last one the map changes and the old block is erased. -/
def moveStep (dst : Nat) (d : Dev) : Dev :=
  match d.store.moves.find? fun m => m.dst == dst with
  | none => d
  | some m =>
    let rest := d.store.moves.filter fun q => q.dst != dst
    if 1 < m.left then storeMod (fun x => { x with moves := rest ++ [{ m with left := m.left - 1 }] }) d
    else
      let remap (l : Nat) : Nat := if l / 65536 = m.src then m.dst * 65536 + l % 65536 else l
      d |> storeMod (fun x => { x with moves := rest, histAt := x.histAt.map remap, ahead := x.ahead.map (fun p => (p.1, remap p.2))
                                       pages := x.pages.map fun p => (p.1, p.2.map fun q => { q with place := remap q.place }) })
        |> bumpSat (if m.wear then STORE_MAINT_WL_MOVES else STORE_MAINT_REFRESHES) 0
        |> onlyIf ((blkX m.src d).st != 3) (fun d => d |> blkMod m.src (fun x => { x with st := 4 })
          |> storeAsk (plainOp 5 2 (m.src / 65536) (m.src % 65536) 0 0 (edge d) 0 0))

/-! Retirement (R378, R379). -/

/-- A die is to be retired; one retirement runs at a time, and none starts while FLUSHING. -/
def retireDie (n : Nat) (d : Dev) : Dev :=
  if get STORE_DIE_STATUS_ROLE n d ≠ 1 ∨ d.store.retiring = n + 1 ∨ d.store.retire.contains n then d
  else if d.store.retiring = 0 ∧ get STORE_STATUS_STATE 0 d = 3 then storeMod (fun x => { x with retiring := n + 1 }) d
  else storeMod (fun x => { x with retire := x.retire ++ [n] }) d

/-- The reserve of a die judged after a retirement (R378, R379). -/
def judgeReserve (n : Nat) (d : Dev) : Dev :=
  let free := freeReserve n d * 1000
  let good := goodBlocks n d
  let d := showArray d |> onlyIf (decide (free < 35 * good)) (fun d => stick STORE_FLAGS_RESERVE_LOW 0 0x0F06 n d 0 (freeReserve n d))
  if free < 10 * good then retireDie n d else d

/-- A block is retired (R378); its other data move to another block. -/
def retireBlock (k : Nat) (d : Dev) : Dev :=
  let b := blkX k d
  if b.st = 3 then d
  else
    let n := k / 65536
    let d := if b.st = 1 ∨ b.st = 2 then refreshBlock k d else d
    d |> blkMod k (fun x => { x with st := 3 }) |> dieMod n (fun x => { x with grown := x.grown + 1 })
      |> put STORE_FLAGS_BLOCK_RETIRED 0 1 |> (fun d => raise 0x0F04 n d) |> judgeReserve n

/-- DIE_RETIREMENT_COMPLETE (R379): a spare takes the die's place, or D falls by one. -/
def dieRetirementCompleteAt (n : Nat) (d : Dev) : Dev :=
  if d.store.retiring ≠ n + 1 then d
  else
    let spare := (List.range 32).find? fun k => get STORE_DIE_STATUS_ROLE k d == 2
    let dst := match spare with
      | some k => k
      | none => ((inService d).find? (· != n)).getD n
    let remap (l : Nat) : Nat := if l / 4294967296 = n then dst * 4294967296 + l % 4294967296 else l
    let d := put STORE_DIE_STATUS_ROLE n 3 d
    let d := match spare with
      | some k =>
        storeMod (fun x => { x with
          roles := (x.roles.put n 3).put k 1
          blocks := forL (x.blocks.filter fun p => p.1 / 65536 == n) (fun p t => t.put (k * 65536 + p.1 % 65536) { p.2 with erases := (t.get {} (k * 65536 + p.1 % 65536)).erases })
            (x.blocks.filter fun p => p.1 / 65536 != n) }) (put STORE_DIE_STATUS_ROLE k 1 d)
      | none => storeMod (fun x => { x with roles := x.roles.put n 3, blocks := x.blocks.filter fun p => p.1 / 65536 != n }) (put STORE_STATUS_DEGRADED 0 1 d)
    let waiting := d.store.retire
    let d := storeMod (fun x => { x with
        retiring := (waiting.head?.map (· + 1)).getD 0, retire := waiting.drop 1, histAt := x.histAt.map remap,
        ahead := x.ahead.map (fun p => (p.1, remap p.2)),
        pages := x.pages.map (fun p => (p.1, p.2.map fun q => { q with place := remap q.place })),
        ops := x.ops.filter fun o => o.die != n, waitq := x.waitq.filter fun o => o.die != n }) d
      |> dieMod n (fun x => { x with cur := none }) |> put STORE_DIE_STATUS_ERASING n 0
    let d := showOps d |> put STORE_FLAGS_DIE_RETIRED 0 1 |> (fun d => raise 0x0F05 n d) |> showArray
    let d := match arrRec d with
      | some r => showSizes r d
      | none => d
    holdupCheck (inService d).length d

def execDieRetirementComplete (dt die : Nat) (s : State) : Host.Outcome State Fault Refusal :=
  onDev dt (dieRetirementCompleteAt die) s

/-! Completions. -/

/-- The operation that a completion names is the one under way on its die. -/
def current (o : NandOp) (kind : Nat) (d : Dev) : Option StoreOp :=
  match (dieX o.die d).cur with
  | some q => if q.kind = kind ∧ q.block = o.block ∧ q.page = o.page then some q else none
  | none => none

/-- The pages at the front of the staging area that are in the array join HIST, in order. -/
def settleHist : Nat → Dev → Dev
  | 0, d => d
  | fuel + 1, d =>
    match d.recd.wait with
    | [] => d
    | p :: w =>
      let num := d.store.histNum - d.recd.wait.length
      match d.store.ahead.find? fun q => q.1 == num with
      | none => d
      | some q => settleHist fuel { d with recd := { d.recd with wait := w, hist := d.recd.hist ++ [p] },
                                           store := { d.store with histAt := d.store.histAt ++ [q.2], ahead := d.store.ahead.filter (· != q) } }

/-- The flush is complete (R382, R384). -/
def flushDone (d : Dev) : Dev :=
  if get STORE_STATUS_STATE 0 d = 4 ∧ 148 ≤ d.store.flushed.length then put STORE_STATUS_STATE 0 5 (storeMod (fun x => { x with flushEdge := edge d + 1 }) d) else d

/-- The dies that take flush pages, the ready ones first (R383). -/
def flushDies (d : Dev) : List Nat :=
  let l := inService d
  let idle (n : Nat) : Bool := !(dieX n d).resetting
  l.filter idle ++ l.filter fun n => !idle n

/-- Bytes of a retain set's slot (R372): its words, least significant byte first, zeros, and CRC-32C over them in the last four bytes;
the spec gives the slot no layout (log entry 85). -/
def retainSlot (set : List Nat) : List Nat :=
  let body := (set.flatMap (leBytes 8)).take 262140
  let body := body ++ zeros (262140 - body.length)
  body ++ leBytes 4 (crc32c body)

/-- What flush page `k` holds (R402): four pages of event records, 128 of the staging area, 16 of the retain set; skein, logical page,
data. -/
def flushData (k : Nat) (d : Dev) : Nat × Nat × List Nat :=
  if k < 4 then (2, k, (pagesOf 1 ((bufPage k d.recd.buf).flatMap EvRec.bytes)).headD (zeros 16384))
  else if k < 132 then (1, d.store.histNum - d.recd.wait.length + (k - 4), d.recd.wait.getD (k - 4) (zeros 16384))
  else (3, k - 132, ((retainSlot d.recd.retainCopy).drop (16384 * (k - 132))).take 16384)

/-- Flush page `k` is queued on a die, with FLAGS bit 2 (R383). -/
def flushPage (k : Nat) (d : Dev) : Dev :=
  let l := flushDies d
  let p := flushData k d
  programOn (l.getD (k % max 1 l.length) 0) ⟨14, p.1, 0, 3, k, 4, p.2.1, p.2.2⟩ d

/-- What a page's program was for. -/
def programmed (o : StoreOp) (d : Dev) : Dev :=
  match o.goal with
  | 1 => settleHist 129 (storeMod (fun x => { x with ahead := x.ahead ++ [(o.arg, placeOf o.die o.block o.page)] }) d)
  | 2 => moveStep o.arg d
  | 3 => flushDone (storeMod (fun x => { x with flushed := if x.flushed.contains o.arg then x.flushed else x.flushed ++ [o.arg] }) d)
  | _ => d

/-- The data of a page whose program failed are written again elsewhere (R378). -/
def programAgain (o : StoreOp) (d : Dev) : Dev :=
  match o.goal with
  | 2 => match d.store.moves.find? fun m => m.dst == o.arg with
    | some m => refreshBlock m.src (storeMod (fun x => { x with moves := x.moves.filter (· != m) }) d)
    | none => d
  | 3 => flushPage o.arg d
  | _ =>
    let place := placeOf o.die o.block o.page
    let d := storeMod (fun x => { x with pages := x.pages.map fun p => (p.1, p.2.filter (·.place != place)) }) d
    programOn o.die ⟨o.skein, o.label.skein, o.cls, o.goal, o.arg, o.label.flags, o.label.logical, o.data⟩ d

/-- READ STATUS ENHANCED (R369): the store asks a die for the status of an operation that has ended. -/
def statusRead (n : Nat) (d : Dev) : Dev := send .nand n [0x78] d

/-- NAND_PROGRAM_COMPLETE (R378, R384, R385): the directory's own pages do not count as bytes programmed. -/
def nandProgramCompleteAt (p : NandOp) (ok : Bool) (d : Dev) : Dev :=
  match current p 1 d with
  | none => d
  | some o =>
    let d := opEnds o.die (statusRead o.die d)
    if ok then
      let n := if o.skein = 15 then 0 else 16384
      levelWear o.die (programmed o (storeMod (fun x => { x with progBytes := x.progBytes + n }) (queueDue d)))
    else programAgain o (retireBlock (o.die * 65536 + o.block) d)

def execNandProgramComplete (dt : Nat) (op : NandOp) (ok : Bool) (s : State) : Host.Outcome State Fault Refusal :=
  onDev dt (nandProgramCompleteAt op ok) s

/-- NAND_ERASE_COMPLETE (R375, R376, R378, R379). -/
def nandEraseCompleteAt (p : NandOp) (ok : Bool) (d : Dev) : Dev :=
  match current p 2 d with
  | none => d
  | some o =>
    let k := o.die * 65536 + o.block
    let d := opEnds o.die (statusRead o.die d)
    if ok then
      d |> blkMod k (fun x => { st := 0, erases := x.erases + 1 }) |> dieMod o.die (fun x => { x with eraseFails := 0 })
        |> showDie o.die |> levelWear o.die
    else
      let d := retireBlock k (dieMod o.die (fun x => { x with eraseFails := x.eraseFails + 1 }) d)
      if 8 ≤ (dieX o.die d).eraseFails then retireDie o.die d else d

def execNandEraseComplete (dt : Nat) (op : NandOp) (ok : Bool) (s : State) : Host.Outcome State Fault Refusal :=
  onDev dt (nandEraseCompleteAt op ok) s

/-- The register index of a skein (R387) from its page label's number (R370). -/
def skIndex (skein : Nat) : Option Nat := if 1 ≤ skein ∧ skein ≤ 4 then some (skein - 1) else none

/-- A skein has a mirror or parity (R372). -/
def protected_ (skein : Nat) (d : Dev) : Bool :=
  match skIndex skein with
  | some i => flag STORE_SK_STATUS_MIRROR i d || flag STORE_SK_STATUS_PARITY i d
  | none => skein == 15

/-- A sector is lost (R371, R379): counted for the unit, its skein and its die; four in 24 h retire the die. -/
def sectorLost (die skein : Nat) (d : Dev) : Dev :=
  let t := opMs d
  let l := ((dieX die d).losses.filter fun e => decide (t < e + 86400000)) ++ [t]
  let d := d |> dieMod die (fun x => { x with losses := l }) |> bumpSat STORE_ECC_LOST 0 |> bumpSat STORE_DIE_WEAR_LOST die
  let d := match skIndex skein with
    | some i => bumpSat STORE_SK_STATUS_LOST_SECTORS i d
    | none => d
  let d := stick STORE_FLAGS_LOST 0 0x0F03 die d
  if 4 ≤ l.length then retireDie die d else d

/-- A sector recovered from its mirror or its stripe goes to a fresh block (R371). -/
def sectorRecovered (die k : Nat) (d : Dev) : Dev :=
  d |> bumpSat STORE_ECC_RECOVERED 0 |> put STORE_FLAGS_RECOVERED 0 1 |> (fun d => raise 0x0F02 die d) |> refreshBlock k

/-- Corrected bits of a read: the largest count, and a refresh from REFRESH_BITS on (R371, R377). -/
def corrected (k n : Nat) (d : Dev) : Dev :=
  let d := maxUp STORE_ECC_MAX_BITS 0 n d
  if (arrRec d).elim false fun r => decide (r.u P0F01_REFRESH_BITS ≤ n) then refreshBlock k d else d

/-- A read of a block is counted (R377). -/
def countRead (k : Nat) (d : Dev) : Dev :=
  let d := blkMod k (fun x => { x with reads := x.reads + 1 }) d
  if (arrRec d).elim false fun r => decide (r.u P0F01_RD_LIMIT ≤ (blkX k d).reads) then refreshBlock k d else d

/-- The sectors of a page that was read are transferred (R369). -/
def sectorsOut (n : Nat) (d : Dev) : Dev := send .nand n [0x06, 0xE0] d

/-- Read-retry on a die with the first `k` values of the record (R371): each is set before its read, and read back; then the die's default
value is restored. -/
def retryReads (p : NandOp) (k : Nat) (d : Dev) : Dev :=
  match arrRec d with
  | none => d
  | some r =>
    let f := r.u P0F01_RETRY_FEATURE
    let setTo (v : Nat) (d : Dev) : Dev := send .nand p.die ([0xEF, f] ++ leBytes 4 v) d |> send .nand p.die [0xEE, f]
    if r.u P0F01_RETRY_COUNT = 0 then d
    else forL (List.range k) (fun i d => setTo (r.u P0F01_RETRY_VALUES i) d |> send .nand p.die (opBytes (plainOp 0 0 p.die p.block p.page 0 0 0 0))) d
      |> setTo (Config.retryDefault p.die)

/-- The read-retry of a read by its result: all values where no one gave the data, otherwise up to the one that did, which the command
does not name. -/
def retryFor (p : NandOp) (res : NandRead) (d : Dev) : Dev :=
  let n := orD (arrRec d) P0F01_RETRY_COUNT 0
  match res with
  | .good _ => d
  | .retried _ => match oneOf ((List.range n).map (· + 1)) d with
    | (some k, d) => retryReads p k d
    | (none, d) => d
  | .recovered | .lost => retryReads p n d

/-- NAND_READ_COMPLETE (R371, R377): a queued read, or a read of the scrub on a die that has no other operation. -/
def nandReadCompleteAt (p : NandOp) (res : NandRead) (d : Dev) : Dev :=
  let k := p.die * 65536 + p.block
  let b := blkX k d
  let queued := (current p 0 d).isSome
  if !storeReady d || (!queued && ((dieX p.die d).cur.isSome || decide (b.used ≤ p.page) || b.st == 0 || b.st == 3)) then d
  else
    let d := sectorsOut p.die (retryFor p res d)
    let d := if queued then opEnds p.die d else d
    let d := countRead k d
    match res with
    | .good n => corrected k n d
    | .retried n => corrected k n (bumpSat STORE_ECC_RETRIES 0 d)
    | .recovered =>
      let d := bumpSat STORE_ECC_RETRIES 0 d
      if protected_ b.skein d then sectorRecovered p.die k d else sectorLost p.die b.skein d
    | .lost => sectorLost p.die b.skein (bumpSat STORE_ECC_RETRIES 0 d)

def execNandReadComplete (dt : Nat) (op : NandOp) (result : NandRead) (s : State) : Host.Outcome State Fault Refusal :=
  onDev dt (nandReadCompleteAt op result) s

/-- The array is not mounted: 0x0F01 with the die (0xFFFF where none applies, R489), FAILED. -/
def storeFail (die : Nat) (d : Dev) : Dev := startNumbering (put STORE_STATUS_STATE 0 6 (raise 0x0F01 die d))

/-- NAND_FEATURES_COMPLETE (R369): a read-back that differs while probing is a die that differs from the record. -/
def nandFeaturesCompleteAt (p : NandOp) (ok : Bool) (d : Dev) : Dev :=
  let d := if (current p 3 d).isSome then opEnds p.die d else d
  if get STORE_STATUS_STATE 0 d = 1 ∧ !ok ∧ ((arrRec d).elim false fun r => (arrayDies r).any (·.1 == p.die)) then storeFail p.die d else d

def execNandFeaturesComplete (dt : Nat) (op : NandOp) (ok : Bool) (s : State) : Host.Outcome State Fault Refusal :=
  onDev dt (nandFeaturesCompleteAt op ok) s

/-- NAND_RESET_COMPLETE (R383): the die is ready for flush pages. -/
def execNandResetComplete (dt die : Nat) (s : State) : Host.Outcome State Fault Refusal :=
  onDev dt (fun d => if (dieX die d).resetting then dieNext die (dieMod die (fun x => { x with resetting := false }) d) else d) s

/-- NAND_BUSY_TIMEOUT (R379): the third slow operation in a row retires the die. -/
def nandBusyTimeoutAt (n : Nat) (d : Dev) : Dev :=
  let x := dieX n d
  if x.cur.isNone || x.slow || decide (since x.began d ≤ 4000000) then d
  else
    let d := dieMod n (fun x => { x with slow := true, strikes := x.strikes + 1 }) d
    if 3 ≤ x.strikes + 1 then retireDie n d else d

def execNandBusyTimeout (dt die : Nat) (s : State) : Host.Outcome State Fault Refusal := onDev dt (nandBusyTimeoutAt die) s

/-- A task of the store that comes round (R369, R375, R377): it is due again, and its time is noted. -/
def storeRound (k period : Nat) (f : Dev → Dev) (d : Dev) : Dev :=
  if storeReady d && dueAgain (d.store.last.get 0 k) period d then f (storeMod (fun x => { x with last := x.last.put k (edge d + 1) }) d) else d

/-- 10 min of loom time have passed since the last ZQ calibration. -/
def zqDue (d : Dev) : Bool := d.store.last.get 0 3 == 0 || decide (d.store.last.get 0 3 - 1 + 600000000 * us16 ≤ now d)

/-- ZQ_CALIBRATION (R369): the command goes to every die, every 10 min of loom time. -/
def execZqCalibration (dt : Nat) (s : State) : Host.Outcome State Fault Refusal :=
  onDev dt (fun d => if storeReady d && zqDue d then
    forL ((List.range 32).filter fun n => get STORE_DIE_STATUS_ROLE n d == 1 || get STORE_DIE_STATUS_ROLE n d == 2) (fun n d => send .nand n [0xF9] d)
      (storeMod (fun x => { x with last := x.last.put 3 (now d + 1) }) d) else d) s

/-- The directory is written as `n` pages, mirrored (R375, R398): OP_MS is saved. -/
def saveDirectory (n : Nat) (d : Dev) : Dev :=
  if !storeReady d then d
  else
    let d := queueDue (directoryWrite n (storeMod (fun x => { x with saved := opMs d }) d))
    match arrRec d with
    | some r => showLife r (showArray d)
    | none => d

/-- DIRECTORY_JOURNAL (R375): every 100 ms. -/
def execDirectoryJournal (dt : Nat) (s : State) : Host.Outcome State Fault Refusal :=
  onDev dt (storeRound 1 40000000 (saveDirectory 1)) s

/-- A checkpoint is the whole directory; what the directory held before the last checkpoint is given up. -/
def directoryCheckpointAt (d : Dev) : Dev :=
  if !storeReady d then d
  else
    let old := d.store.checkpoint
    let d := dropPages 15 (fun l => decide (l < old)) (storeMod (fun x => { x with checkpoint := x.logs.get 0 15 }) d)
    saveDirectory (Config.directoryPages d.store.nBlocks (inService d).length) d

/-- DIRECTORY_CHECKPOINT (R375): every 60 min. -/
def execDirectoryCheckpoint (dt : Nat) (s : State) : Host.Outcome State Fault Refusal :=
  onDev dt (storeRound 2 1440000000000 directoryCheckpointAt) s

/-- The blocks whose age exceeds RETENTION_DAYS (R377). -/
def agedBlocks (d : Dev) : List Nat :=
  let days := orD (arrRec d) P0F01_RETENTION_DAYS 0xFFFFFFFF
  (d.store.blocks.filter fun b => (b.2.st == 1 || b.2.st == 2) && decide (b.2.born + days * 86400000 < opMs d)).map (·.1)

/-- SCRUB_PASS (R377): a pass ends; the blocks that aged past RETENTION_DAYS are refreshed: by operating time, and those that the command
names, which aged while the unit was off. -/
def execScrubPass (dt : Nat) (aged : List Nat) (s : State) : Host.Outcome State Fault Refusal :=
  onDev dt (fun d => storeRound 4 (orD (arrRec d) P0F01_SCRUB_HOURS 0 * 1440000000000)
    (fun d => forL (agedBlocks d ++ aged) refreshBlock (bumpSat STORE_MAINT_SCRUB_PASSES 0 d)) d) s

/-! Probing and mount (R382, R384, R404). -/

/-- STORE_PROBE_COMPLETE (R382). -/
def storeProbeCompleteAt (res : ProbeResult) (d : Dev) : Dev :=
  match arrRec d with
  | none => d
  | some r =>
    if get STORE_STATUS_STATE 0 d ≠ 1 then d
    else
      let roleOf (p : Nat × Bool) : Nat := d.store.roles.get (if p.2 then 2 else 1) p.1
      match (arrayDies r).find? fun p => roleOf p != 3 && !bit res.present p.1 with
      | some p => storeFail p.1 d
      | none =>
        let role (p : Nat × Bool) (d : Dev) : Dev := put STORE_DIE_STATUS_ROLE p.1 (roleOf p) d
        storeMod (fun x => { x with nBlocks := res.blocks, nPages := res.pages }) (forL (arrayDies r) role d)
          |> put STORE_STATUS_STATE 0 2

/-- The stripe under way of HIST begins with the pages of it that the array holds (R374). -/
def restripe (base : Nat) (d : Dev) : Dev :=
  let p := max 1 (stripeP d)
  let held := d.recd.hist.drop (d.recd.hist.length - base % p)
  storeMod (fun x => { x with stripes := Tab.set [] 1 (match held with
    | [] => []
    | a :: t => t.foldl xorPages a) x.stripes }) d

/-- The flush pages of the last power failure are placed (R404): event records under their SEQ, HIST pages at their positions. Pages that
waited through a start of the firmware are queued again. -/
def placeFlush (d : Dev) : Dev :=
  let x := d.store
  let base := x.histNum - d.recd.wait.length
  let d := restripe base d
  if !x.flushing then forL d.recd.wait.zipIdx (fun p d => histProgram (base + p.2) p.1 d) d
  else
    let pages := d.recd.wait
    let d : Dev := { d with recd := { d.recd with wait := [] }
                            store := { x with flushing := false, flushed := [], histNum := x.histNum - pages.length } }
    let d := onlyIf (decide (x.flushed.length < 148)) (fun d => stick STORE_FLAGS_FLUSH_SHORT 0 0x0F08 0xFFFF d 0 x.flushed.length) d
    forL pages histQueue d

/-- The rounds of `storeRound` and the ZQ calibrations count from READY. -/
def roundsAt (d : Dev) : Tab Nat := [(1, edge d + 1), (2, edge d + 1), (3, now d + 1), (4, edge d + 1)]

/-- READY (R382): numbering starts, the power cycle is counted and written to the directory's journal at once (R398), blocks that wait for
an erase are erased. -/
def mounted (d : Dev) : Dev :=
  let r := d.recd
  let cyc := d.store.cycles + 1
  let n := d.store.nand
  let d : Dev := { d with recd := { r with opBase := d.store.saved, powerCycle := cyc % 0x1000000, mounted := true, log := n.log, hist := n.hist
                                           wait := n.wait, snaps := n.snaps, nextSnap := n.nextSnap, retain := n.retain, retainOk := n.retainOk }
                          store := { d.store with cycles := cyc, ops := [], waitq := [], moves := [], retiring := 0, last := roundsAt d } }
  let d := put STORE_STATUS_STATE 0 3 d |> startNumbering
  let d := forL (d.store.heads) (fun p d => put STORE_SK_HEAD_BYTES p.1 p.2 d) d
  let d := match arrRec d with
    | some r => showSizes r (showArray d)
    | none => d
  let d := d |> put STORE_SK_HEAD_BYTES 0 (16384 * d.store.histNum)
    |> put STORE_SK_TAIL_BYTES 0 (16384 * (d.store.histNum - d.recd.wait.length - d.recd.hist.length))
    |> holdupCheck (inService d).length
  queueDue (directoryWrite 1 (forL (d.store.blocks.filter fun p => p.2.st == 4)
    (fun p d => storeAsk (plainOp 5 2 (p.1 / 65536) (p.1 % 65536) 0 0 (edge d) 0 0) d) d))

/-- The format of a blank array (R378, R382): factory marks kept, everything else empty. -/
def formatArray (marked : List Nat) (d : Dev) : Dev :=
  let cnt (n : Nat) : Nat := (marked.filter fun k => k / 65536 == n).length
  storeMod (fun x => { nBlocks := x.nBlocks, nPages := x.nPages, formatted := true,
                       blocks := forL marked (fun k t => Tab.put k { st := 3 } t) [],
                       dies := (List.range 32).map fun n => (n, { factory := cnt n }) }) d
    |> put STORE_STATUS_FORMATTED 0 1

/-- STORE_MOUNT_COMPLETE (R382): READY after a valid directory or a format, otherwise FAILED. Torn pages are counted (R384). -/
def storeMountCompleteAt (res : MountResult) (d : Dev) : Dev :=
  match arrRec d with
  | none => d
  | some r =>
    if get STORE_STATUS_STATE 0 d ≠ 2 then d
    else if res.directory ∧ d.store.formatted then
      let d := if res.torn = 0 then d else raise 0x0F09 0xFFFF (put STORE_FLAGS_TORN 0 1 (addSat STORE_MAINT_TORN_PAGES 0 res.torn d))
      placeFlush (mounted d)
    else if !res.directory ∧ res.blank ∧ r.b P0F01_FLAGS 0 then raise 0x0F0B 0xFFFF (mounted (formatArray res.marked d))
    else storeFail 0xFFFF d

def execStoreProbeComplete (dt : Nat) (result : ProbeResult) (s : State) : Host.Outcome State Fault Refusal :=
  onDev dt (storeProbeCompleteAt result) s

def execStoreMountComplete (dt : Nat) (result : MountResult) (s : State) : Host.Outcome State Fault Refusal :=
  onDev dt (storeMountCompleteAt result) s

/-- The commands that set up a die (R369, R382), as they go out: RESET, READ ID, READ PARAMETER PAGE, the SET FEATURES of the interface and
of pSLC with the read-back of each, the read-back of the read-retry default, and ZQ CALIBRATION LONG. -/
def dieSetup (r : Rec) : List (List Nat) :=
  let feature (l : List Nat) : List (List Nat) := [0xEF :: l, [0xEE, l.headD 0]]
  [[0xFF], [0x90], [0xEC]] ++ (Config.interfaceFeatures (r.u P0F01_MT_S)).flatMap feature ++
    feature (r.u P0F01_PSLC_FEATURE :: leBytes 4 (r.u P0F01_PSLC_VALUE)) ++
    (if r.u P0F01_RETRY_COUNT = 0 then [] else [[0xEE, r.u P0F01_RETRY_FEATURE]]) ++ [[0xF9]]

/-- The store at the end of start-up step 5 (R382): every die is set up, and probing begins. -/
def storeStart (d : Dev) : Dev :=
  match arrRec d with
  | none => d
  | some r => put STORE_STATUS_STATE 0 1 (forL (arrayDies r) (fun p d => forL (dieSetup r) (send .nand p.1) d) d)

/-! The power-fail flush (R383, R402). -/

/-- What the pages that a flush abandons held (R383): event records are unwritten again, for the buffer still has them (R399), and a capture
that is not whole in the array is lost; the ring no longer counts on their places. -/
def abandonPages (d : Dev) : Dev :=
  let open_ := (d.store.ops ++ d.store.waitq).filter fun o => o.goal == 5
  let args (s : Nat) : List Nat := ((open_.filter fun o => o.label.skein == s).map (·.arg)) ++ ((d.store.due.filter fun p => p.skein == s).map (·.arg))
  let places := open_.map fun o => placeOf o.die o.block o.page
  let r := d.recd
  let back : List EvRec := match (args 2).min? with
    | some q => r.log.filter fun e => decide (q ≤ e.seq)
    | none => []
  let back := back.drop (back.length + r.buf.length - 2048)
  let lost := args 4
  { d with recd := { r with log := r.log.filter (fun e => !back.contains e), buf := back ++ r.buf, snaps := r.snaps.filter fun c => !lost.contains c.1 }
           store := { d.store with pages := d.store.pages.map fun p => (p.1, p.2.filter fun q => !places.contains q.place) } }

/-- FLUSHING begins: every die that programs or erases is reset, and every operation of classes 1 to 5 is abandoned. -/
def storeFlush (d : Dev) : Dev :=
  if !storeReady d then d
  else
    let part := d.recd.page
    let d : Dev := if part = [] then d else
      { d with recd := { d.recd with wait := d.recd.wait ++ [part ++ zeros (16384 - part.length)], page := [] }
               store := { d.store with histNum := d.store.histNum + 1 } }
    let reset (n : Nat) (d : Dev) : Dev := match (dieX n d).cur with
      | some o => if o.kind = 1 ∨ o.kind = 2 then send .nand n [0xFF] (dieMod n (fun x => { x with cur := none, resetting := true }) d)
          else dieMod n (fun x => { x with cur := none }) d
      | none => d
    let dsts := d.store.moves.map (·.dst)
    let d := abandonPages d
    let d := forL (List.range 32) (fun n d => put STORE_DIE_STATUS_ERASING n 0 (reset n d)) d
    forL dsts (fun k d => blkMod k (fun x => { x with st := 4 }) d)
      (storeMod (fun x => { x with ops := [], waitq := [], moves := [], ahead := [], due := [], flushing := true, flushed := [], saved := opMs d }) d)
      |> showOps |> put STORE_STATUS_STATE 0 4

/-- Flush pages `lo` to `hi − 1` are queued. -/
def flushPages (lo hi : Nat) (d : Dev) : Dev :=
  if get STORE_STATUS_STATE 0 d = 4 then forL ((List.range hi).drop lo) flushPage d else d

/-- What the array holds of the records and what the store keeps when the unit is reset or loses its supply: of what was still in
SRAM only what a flush has written, to be placed in its skeins at the next mount (R402, R404). An array that was never mounted keeps what it held. -/
def storeKeep (d : Dev) : StoreX :=
  let x := d.store
  if !d.recd.mounted then { x with ops := [], waitq := [], moves := [], due := [], last := [], flushEdge := 0 }
  else
    let ok (k : Nat) : Bool := x.flushing && x.flushed.contains k
    let r := d.recd
    let buf := (r.buf.zipIdx.filter fun p => ok (p.2 / 512)).map (·.1)
    let wait := (r.wait.zipIdx.filter fun p => ok (4 + p.2)).map (·.1)
    let base := x.histNum - r.wait.length
    let keptRetain : List Nat × Bool := if x.flushing then (r.retainCopy, r.retainCopy != [] && (List.range 16).all fun k => ok (132 + k))
      else (r.retain, r.retainOk)
    let slot := if x.flushing && keptRetain.2 then (pagesOf 16 (retainSlot keptRetain.1)).map fun p => StorePage.mk 3 0 p else []
    { x with ops := [], waitq := [], moves := [], ahead := [], histNum := base + wait.length, retiring := 0, last := [], flushEdge := 0
             due := (eventPages buf).map (fun p => ⟨2, p.1, p.2⟩) ++ slot
             heads := [1, 2, 3].map (fun s => (s, get STORE_SK_HEAD_BYTES s d))
             dies := x.dies.map fun p => (p.1, { p.2 with cur := none, resetting := false, slow := false })
             nand := { log := r.log ++ buf, hist := r.hist, wait := wait, snaps := r.snaps, nextSnap := r.nextSnap, retain := keptRetain.1
                       retainOk := keptRetain.2 } }

/-- Pages of the rings that were handed over and are not yet in the array, as pages to be queued anew; a second copy goes with its first. -/
def unwritten (x : StoreX) : List StorePage :=
  ((x.ops ++ x.waitq).filter fun o => o.goal == 5 && o.label.flags == 0 && o.label.skein != 15).map (fun o => ⟨o.label.skein, o.arg, o.data⟩) ++ x.due

/-- As `storeKeep`, at a start that the firmware makes: the history pages that wait stay, the one being filled among them, the pages that
were handed over, and the retain set (R48). -/
def storeStay (d : Dev) : StoreX :=
  let y := storeKeep d
  let r := d.recd
  if !r.mounted || d.store.flushing then y
  else
    let wait := r.wait ++ (if r.page = [] then [] else [r.page ++ zeros (16384 - r.page.length)])
    { y with due := unwritten d.store, histNum := d.store.histNum - r.wait.length + wait.length, nand := { y.nand with log := r.log, wait := wait } }

end Sys2Proof.Machine
end

