-- ==== Sys2Proof/Machine/Start.lean ====
section
/-! DEFINITION. Power, start-up and stops: PWR_GOOD and PFAIL_N (R402, R499, R500), the monitors (R501), the start-up sequence (R43 to R45),
restarts and the orderly stop (R47 to R49, R485 to R487), the debug halt (R41, R192, R245), and register writes (R5). -/

namespace Sys2Proof.Machine

/-- A command that acts on the device with the fuses and the die's identity at hand. -/
def onUnit (dt : Nat) (f : Nat → Ident → Dev → Dev) (s : State) : Host.Outcome State Fault Refusal :=
  .next { s with dev := f s.fuses s.ident (advance dt s.dev) }

/-- The unit's life and restart notes changed. -/
def unitMod (f : UnitX → UnitX) (d : Dev) : Dev := { d with unit := f d.unit }

/-! What a start begins with. -/

/-- The levels that the safety domain's own receivers hold through a reset (R421). -/
def safeLevels (old : Dev) (d : Dev) : Dev :=
  d |> forN 24 (fun i d => put SAFE_IN_RAW_A i (get SAFE_IN_RAW_A i old) (put SAFE_IN_RAW_B i (get SAFE_IN_RAW_B i old) d))
    |> forN 8 (fun n d => put SAFE_OUT_READBACK n (get SAFE_OUT_READBACK n old) d)

/-- The device in reset: every register and strand at its reset value; flash, NAND array, safety receivers and what was sent stay
(R23, R382, R421). -/
def resetDev (phase : Phase) (d : Dev) : Dev :=
  safeLevels d { flash := d.flash, store := storeKeep d, out := d.out, free := d.free, safe := { ins := d.safe.ins }
                 unit := { phase := phase, failedStarts := d.unit.failedStarts, monitorCode := d.unit.monitorCode, monitorObj := d.unit.monitorObj
                           coldRequest := d.unit.coldRequest, nextCause := d.unit.nextCause } }

/-- The levels that the balls have at the start, with their registers and strands (R22, R508). -/
def startPins (p : StartPins) (d : Dev) : Dev :=
  let gpio := (List.range 32).filter fun k => bit p.gpio k
  let lines := (List.range 72).filter fun k => bit p.lines k
  { d with pins := gpio.map fun k => (k, { level := true }), lines := lines.map fun k => (k, { raw := true, lvl := true }) }
    |> put SYS_GPIO_LEVEL_LEVEL 0 p.gpio |> forL gpio (fun k => setStrand 0x01 k 1)

/-- Temperature and rails as the monitors first report them: their values are open, every rail is in range (R499, R508; log entry 52). -/
def startMonitors (d : Dev) : Dev :=
  let t := fresh 16 d
  let rail (k : Nat) (d : Dev) : Dev :=
    let v := fresh 16 d
    v.2 |> put SYS_RAIL_MV k v.1 |> put SYS_RAIL_MIN_MV k v.1
  t.2 |> put SYS_TEMP_TJ 0 t.1 |> put SYS_TEMP_TJ_MAX 0 t.1 |> put SYS_SUPPLY_IN_RANGE 0 0x1FF |> forN 9 rail

/-- LOAD_FAIL (R43, R45): no usable copy, 0x020A, and the service protocol on the network's defaults. -/
def loadFail (d : Dev) : Dev :=
  let d := put FUSE_LDR_STATE_STEP 0 0xF (unitMod (fun x => { x with phase := .loadFail }) d)
  netStart (startNumbering (raise 0x020A 0 d))

/-- Steps 5 to 7 with the copy that passed (R44): every block takes the image and starts, measures run on local time, the Weft listens. -/
def startBlocks (copy : Nat) (l : Loaded) (d : Dev) : Dev :=
  let d : Dev := { d with img := some l.img, unit := { d.unit with copy := copy, phase := .starting } }
  d |> onlyIf l.isUnsigned (fun d => raise 0x020E 0 d copy) |> onlyIf l.safetyUnset (fun d => raise 0x0210 0 d copy)
    |> put FUSE_LDR_STATE_STEP 0 5 |> takeImage copy |> safetyStart (!l.safetyUnset) |> canStart |> loopStart |> storeStart |> netStart
    |> put FUSE_LDR_STATE_STEP 0 6 |> measStart |> weftListen

/-- Step 2 (R44): the rows repaired, and a fault beyond the spare rows, which ends the start. -/
def startRepair (p : StartPins) (d : Dev) : Dev :=
  { d with pool := { d.pool with startRows := p.rows, startRams := p.rams } }
    |> put FUSE_LDR_STATE_STEP 0 2 |> put FUSE_REPAIR_ROWS 0 (satU 16 p.rows) |> put FUSE_REPAIR_MACROS 0 (satU 8 p.rams) |> showRows

/-- Steps 2 to 7 of R44. -/
def startSteps (fuses : Nat) (id : Ident) (p : StartPins) (d : Dev) : Dev :=
  let d := startRepair p d
  if p.bistFail then
    let d := raise 0x020C 0 (put FUSE_REPAIR_BIST_FAIL 0 1 (unitMod (fun x => { x with phase := .starting }) d))
    if d.unit.phase == .loadFail then netStart (startNumbering d) else d
  else
    let r := chooseCopy fuses id p.reread (put FUSE_LDR_STATE_STEP 0 3 d)
    match r.2 with
    | some (c, l) => startBlocks c l r.1
    | none => loadFail r.1

/-- After step 1: the event of a monitor's declaration (R501), programming mode (R40), or the other steps. -/
def startOn (fuses : Nat) (id : Ident) (p : StartPins) (d : Dev) : Dev :=
  let u := d.unit
  let d := put SYS_STATUS_PFAIL 0 0 (unitMod (fun x => { x with pfailLow := false, monitorCode := 0 }) d)
  let d := if u.monitorCode = 0 then d else raise u.monitorCode u.monitorObj d
  let closed := bits fuses 576 2 == 3 && bits fuses 0 256 != 0 && bits fuses 256 256 != 0
  if p.fusePgm && !closed then
    netStart (put FUSE_LDR_STATE_STEP 0 0xE (showFuses fuses true (unitMod (fun x => { x with phase := .programming }) d)))
  else startSteps fuses id p (showFuses fuses false d)

/-- A start from step 1 with RESET_CAUSE `cause` (R44, R495, R500, R508), of a device in reset. -/
def startFrom (cause fuses : Nat) (id : Ident) (p : StartPins) (d : Dev) : Dev :=
  let d : Dev := { d with clk := { edges := p.bootEdges, loom := 16 * p.bootEdges } }
  let d := startMonitors (startPins p (showIdent id (showTrims fuses (unitMod (fun x => { x with lockNs := p.lockNs }) d))))
    |> putB SYS_STATUS_JTAG_EN 0 p.jtagEn |> put SYS_STATUS_RESET_CAUSE 0 cause |> put FUSE_LDR_STATE_STEP 0 1
  if p.testEn then put SYS_STATUS_TEST 0 1 (unitMod (fun x => { x with phase := .test }) d)
  else if p.pfailLow then put SYS_STATUS_PFAIL 0 1 (unitMod (fun x => { x with pfailLow := true, nextCause := cause }) d)
  else startOn fuses id p d

/-- A start after a reset, which keeps what R23 and R404 keep. -/
def startUnit (cause fuses : Nat) (id : Ident) (p : StartPins) (old : Dev) : Dev := startFrom cause fuses id p (resetDev .step1 old)

/-- The device in reset for a start that the firmware makes (R48): the event log, the history and the snapshots are kept, with what had not
been written. -/
def restartDev (d : Dev) : Dev :=
  { resetDev .step1 d with store := storeStay d, recd := { buf := d.recd.buf, kept := d.recd.buf.foldl (fun m e => max m e.seq) 0 } }

/-- A start that the firmware makes: the unwritten event records go to EVENT first. -/
def restartUnit (cold : Bool) (fuses : Nat) (id : Ident) (p : StartPins) (d : Dev) : Dev :=
  startFrom 3 fuses id p (restartDev (flushEvents (unitMod (fun x => { x with coldRequest := cold }) d)))

/-! PWR_GOOD and PFAIL_N (R402, R500). -/

/-- PWR_GOOD_RISE (R44). -/
def pwrGoodRiseAt (p : StartPins) (fuses : Nat) (id : Ident) (d : Dev) : Dev :=
  if d.unit.phase == .reset then startUnit 0 fuses id p d else d

def execPwrGoodRise (dt : Nat) (pins : StartPins) (s : State) : Host.Outcome State Fault Refusal := onUnit dt (pwrGoodRiseAt pins) s

/-- PWR_GOOD_FALL (R500): every ball takes its reset state, even during a flush. -/
def pwrGoodFallAt (d : Dev) : Dev :=
  unitMod (fun x => { x with failedStarts := 0, coldRequest := false, monitorCode := 0 }) (resetDev .reset d)

def execPwrGoodFall (dt : Nat) (s : State) : Host.Outcome State Fault Refusal := onDev dt pwrGoodFallAt s

/-- The unit has started its blocks: RUN, steps 7 to 9, or a start that an F4 fault ended. -/
def blocksOn (d : Dev) : Bool := d.unit.phase == .run || d.unit.phase == .starting

/-- PFAIL_N_FALL (R402, event 1): 0x1004, the recorder stops, and the store flushes. -/
def pfailNFallAt (d : Dev) : Dev :=
  if d.unit.phase == .reset || d.unit.phase == .monitorReset || d.unit.pfailLow then d
  else
    let d := put SYS_STATUS_PFAIL 0 1 (unitMod (fun x => { x with pfailLow := true, pfailEdge := edge d, pfailStamp := now d }) d)
    if blocksOn d then raise 0x1004 0 (showHistRun (put REC_STATUS_PFAIL 0 1 (storeFlush d))) else d

def execPfailNFall (dt : Nat) (s : State) : Host.Outcome State Fault Refusal := onDev dt pfailNFallAt s

/-- PFAIL_EVENT_FREEZE (R402, events 2 and 3): 20 µs after t0. -/
def pfailEventFreezeAt (d : Dev) : Dev :=
  if flag REC_STATUS_PFAIL 0 d && !d.recd.frozen && decide (8000 ≤ since d.unit.pfailEdge d) then
    flushPages 4 132 (flushPages 0 4 { d with recd := { d.recd with frozen := true } })
  else d

def execPfailEventFreeze (dt : Nat) (s : State) : Host.Outcome State Fault Refusal := onDev dt pfailEventFreezeAt s

/-- No scan of a task that owns retained words is under way (R49, R402). -/
def retainStill (d : Dev) : Bool := (retainTasks d).all fun t => !(taskX t d).live

/-- POWER_FAIL_RETAIN_COPY (R402, event 4). -/
def powerFailRetainCopyAt (d : Dev) : Dev :=
  if flag REC_STATUS_PFAIL 0 d && d.recd.frozen && d.recd.retainCopy == [] && retainStill d then
    flushPages 132 148 { d with recd := { d.recd with retainCopy := retainSet d.unit.pfailStamp d } }
  else d

def execPowerFailRetainCopy (dt : Nat) (s : State) : Host.Outcome State Fault Refusal := onDev dt powerFailRetainCopyAt s

/-- PFAIL_RESTART (R402): PFAIL_N inactive for 10 ms after FLUSHED. -/
def pfailRestartAt (p : StartPins) (fuses : Nat) (id : Ident) (d : Dev) : Dev :=
  if flag REC_STATUS_PFAIL 0 d && get STORE_STATUS_STATE 0 d == 5 && dueAgain d.store.flushEdge 4000000 d then
    startUnit 0 fuses id p (unitMod (fun x => { x with coldRequest := false }) d)
  else d

def execPfailRestart (dt : Nat) (pins : StartPins) (s : State) : Host.Outcome State Fault Refusal := onUnit dt (pfailRestartAt pins) s

/-- PFAIL_STEP1_WAIT_END (R500): the loader goes on. -/
def pfailStep1WaitEndAt (p : StartPins) (fuses : Nat) (id : Ident) (d : Dev) : Dev :=
  if d.unit.phase == .step1 && d.unit.pfailLow then startOn fuses id p (startPins p d) else d

def execPfailStep1WaitEnd (dt : Nat) (pins : StartPins) (s : State) : Host.Outcome State Fault Refusal := onUnit dt (pfailStep1WaitEndAt pins) s

/-! The monitors (R501). -/

/-- The balls at a clock stop or supply fault (R192, R448, R496): bridge pins inactive, ACTIVE_N released, the heddle blocks. -/
def monitorStop (code obj : Nat) (d : Dev) : Dev :=
  let d := unitMod (fun x => { x with phase := .monitorReset, monitorCode := code, monitorObj := obj, coldRequest := false }) d
  setActiveOut false (heddleRestart (forN 16 pinsOff d))

/-- CLOCK_STOP. -/
def clockStopAt (d : Dev) : Dev :=
  if d.unit.phase == .reset || d.unit.phase == .monitorReset then d else monitorStop 0x0101 0 d

def execClockStop (dt : Nat) (s : State) : Host.Outcome State Fault Refusal := onDev dt clockStopAt s

/-- SUPPLY_FAULT: any rail but VDD_SAFE, which is rail 8 (R498). -/
def supplyFaultAt (rail : Nat) (d : Dev) : Dev :=
  if d.unit.phase == .reset || d.unit.phase == .monitorReset || decide (8 ≤ rail) then d
  else monitorStop 0x0102 rail (put SYS_SUPPLY_IN_RANGE 0 (setBit (get SYS_SUPPLY_IN_RANGE 0 d) rail false) d)

def execSupplyFault (dt rail : Nat) (s : State) : Host.Outcome State Fault Refusal := onDev dt (supplyFaultAt rail) s

/-- MONITOR_RESTART: after 10 ms with everything good, the unit starts with the event of its declaration. -/
def monitorRestartAt (p : StartPins) (fuses : Nat) (id : Ident) (d : Dev) : Dev :=
  if d.unit.phase == .monitorReset then startUnit (if d.unit.monitorCode = 0x0101 then 1 else 2) fuses id p d else d

def execMonitorRestart (dt : Nat) (pins : StartPins) (s : State) : Host.Outcome State Fault Refusal := onUnit dt (monitorRestartAt pins) s

/-- TJ_THRESHOLD: the highest Tj in 0.1 °C; 0x0103 above 105 °C until below 100 °C. -/
def tjThresholdAt (tj : Int) (d : Dev) : Dev :=
  if d.unit.phase == .reset || d.unit.phase == .monitorReset then d
  else
    let d := putS SYS_TEMP_TJ 0 tj d
    let d := if getS SYS_TEMP_TJ_MAX 0 d < tj then putS SYS_TEMP_TJ_MAX 0 tj d else d
    if 1050 < tj then raise 0x0103 0 (put SYS_STATUS_TJ_HIGH 0 1 d) 0 (divHalfUp tj 10)
    else if tj < 1000 then clearFault 0x0103 0 (put SYS_STATUS_TJ_HIGH 0 0 d)
    else d

def execTjThreshold (dt : Nat) (tj : Int) (s : State) : Host.Outcome State Fault Refusal := onDev dt (tjThresholdAt tj) s

/-! The debug halt (R41, R192, R245). -/

/-- What JTAG gives at a level of the debug lock (R41); IDCODE and BYPASS at every level. -/
structure DebugPort where
  boundaryScan : Bool
  halt : Bool
  memRead : Bool
  memWrite : Bool
  deriving DecidableEq, Repr

/-- The table of R41 for the fused level. -/
def debugPort (fuses : Nat) : DebugPort :=
  let l := bits fuses 576 2
  ⟨l != 3, decide (l ≤ 1), decide (l ≤ 1), l == 0⟩

/-- The IDCODE (R495). -/
def idcode (d : Dev) : Nat := get ID_REV_SI_MAJOR 0 d % 16 * 268435456 + 0x4816D43

/-- DEBUG_HALT: levels 0 and 1 of the debug lock give the debug port its halt (log entry 17). -/
def debugHaltAt (fuses : Nat) (d : Dev) : Dev :=
  if !(debugPort fuses).halt ∨ d.unit.halted ∨ !blocksOn d then d
  else
    unitMod (fun x => { x with halted := true }) d |> put SYS_STATUS_HALTED 0 1 |> bumpSat SYS_STATUS_HALTS 0
      |> (fun d => raise 0x0104 0 d) |> driveHalt |> shuHalt

def execDebugHalt (dt : Nat) (s : State) : Host.Outcome State Fault Refusal := onUnit dt (fun fuses _ => debugHaltAt fuses) s

/-- DEBUG_HALT_END. -/
def debugHaltEndAt (d : Dev) : Dev :=
  if d.unit.halted then unitMod (fun x => { x with halted := false }) d |> put SYS_STATUS_HALTED 0 0 |> driveUnhalt |> gpioUnhalt |> shuUnhalt else d

def execDebugHaltEnd (dt : Nat) (s : State) : Host.Outcome State Fault Refusal := onDev dt debugHaltEndAt s

/-! Restarts (R47, R326, R455, R485, R486). -/

/-- The last F4 or F5 fault lets the unit start again by itself (R482, R486). -/
def mayRestart (d : Dev) : Bool := !d.unit.noRestart && faultClass d.unit.lastF4 != 5

/-- F4_RESTART (R485, R487): 100 ms after the unit went to OFF. -/
def f4RestartAt (p : StartPins) (fuses : Nat) (id : Ident) (d : Dev) : Dev :=
  if d.unit.phase == .ended && mayRestart d && decide (40000000 ≤ since d.unit.stopEdge d) then restartUnit false fuses id p d else d

def execF4Restart (dt : Nat) (pins : StartPins) (s : State) : Host.Outcome State Fault Refusal := onUnit dt (f4RestartAt pins) s

/-- DEPOSED_RESTART (R455): a cold start 100 ms after DEPOSED. -/
def deposedRestartAt (p : StartPins) (fuses : Nat) (id : Ident) (d : Dev) : Dev :=
  if pairState d == 8 && d.unit.phase == .run && mayRestart d && decide (40000000 ≤ since d.pairx.deposedEdge d) then restartUnit true fuses id p d else d

def execDeposedRestart (dt : Nat) (pins : StartPins) (s : State) : Host.Outcome State Fault Refusal := onUnit dt (deposedRestartAt pins) s

/-- Retained words written to RETAIN as the current slot (R47, R49): false when the store is not READY. -/
def writeRetain (d : Dev) : Bool × Dev :=
  if storeReady d then
    let set := retainSet (now d) d
    let pages := (pagesOf 16 (retainSlot set)).map fun p => (0, p)
    (true, handPages 3 pages (skAdvance 2 262144 { d with recd := { d.recd with retain := set, retainOk := true } }))
  else (false, d)

/-- A RESTART with KIND 0 or 1 taken up (R54, R326, R485): the mark is RESET_CAUSE's value for the start that follows the response. -/
def doRestart (warm : Bool) (d : Dev) : SvcRes :=
  let u := d.unit
  if productionLocked d then svcRefused 5 d
  else if u.stopped ∧ u.lastF4 ≠ 0 ∧ u.noRestart then svcRefused 5 d
  else
    let cold := !warm || (u.stopped && u.orderly != 2)
    let d := if warm && !u.stopped then (writeRetain d).2 else d
    okNone (unitMod (fun x => { x with nextCause := 3, coldRequest := cold, warmRequest := warm }) d)

/-- The start that follows an accepted RESTART. -/
def afterRestart (p : StartPins) (fuses : Nat) (id : Ident) (d : Dev) : Dev :=
  if d.unit.nextCause = 3 then restartUnit d.unit.coldRequest fuses id p (unitMod (fun x => { x with nextCause := 0 }) d) else d

/-- RESTART_COLD (R326). -/
def execRestartCold (dt : Nat) (h : SvcHdr) (pins : StartPins) (s : State) : Host.Outcome State Fault Refusal :=
  onUnit dt (fun fuses id d => afterRestart pins fuses id (svcTake (.restartCold 0 h pins) h 0x0070 3 4 (doRestart false) d)) s

/-- RESTART_WARM (R326). -/
def execRestartWarm (dt : Nat) (h : SvcHdr) (pins : StartPins) (s : State) : Host.Outcome State Fault Refusal :=
  onUnit dt (fun fuses id d => afterRestart pins fuses id (svcTake (.restartWarm 0 h pins) h 0x0070 3 4 (doRestart true) d)) s

/-- An orderly stop begins (R49): every hank that runs a recipe receives a hold request. -/
def doOrderlyStop (d : Dev) : SvcRes :=
  if productionLocked d ∨ d.unit.stopped ∨ d.unit.orderly ≠ 0 then svcRefused 5 d
  else
    let d := unitMod (fun x => { x with orderly := 1, stopEdge := edge d }) d
    okNone (forL (recsOf 0x0A01 d) (fun r => requestHold (r.u P0A01_HANK) 0xFFFFFF) d)

/-- ORDERLY_STOP (R49). -/
def execOrderlyStop (dt : Nat) (h : SvcHdr) (s : State) : Host.Outcome State Fault Refusal :=
  svcCmd dt (.orderlyStop 0 h) h 0x0070 3 4 doOrderlyStop s

/-- Step 1 of R49 is over: every hank is HOLDING or IDLE, or 1 s has passed. -/
def holdWaitOver (d : Dev) : Bool :=
  let held := (recsOf 0x0A01 d).all fun r => let st := hankState (r.u P0A01_HANK) d; st == 0 || st == 3
  d.unit.orderly == 1 && (held || decide (400000000 ≤ since d.unit.stopEdge d))

/-- Step 2 of R49 begins: each task that owns retained words and runs owes the end of its scan under way, or of its next one. -/
def scanWait (d : Dev) : Dev :=
  unitMod (fun x => { x with orderly := 3, owing := (retainTasks d).eraseDups.filter fun t => get SHU_TASK_STATE_STATE t d == 1 }) d

/-- Steps 3 and 4 of R49: RETAIN and EVENT are written, and the unit stops. Without a READY store the next start is cold. -/
def orderlyEnd (d : Dev) : Dev :=
  let w := writeRetain d
  let d := flushEvents w.2
  let d := onlyIf (!w.1) (fun d => { d with recd := { d.recd with retainOk := false }, store := { d.store with nand := { d.store.nand with retainOk := false } } }) d
  let d := unitMod (fun x => { x with orderly := 2, stopped := true, stopEdge := edge d, lastF4 := 0, noRestart := false, holdDone := true }) d
  let d := put FLT_STATUS_STOPPED 0 1 (if pairState d = 6 then showRole 7 d else d)
  let d := forL (recsOf 0x0704 d) (fun r d => pinsSafe (edge d) (r.u P0704_AXIS) d) d
  raise 0x0211 0 d 0 (if w.1 then 0 else 1)

/-- ORDERLY_STOP_HOLD_WAIT_END (R49): the end of step 1's wait, and with no scan owed the stop; while scans are owed, the command at
the last one's output edge brings the stop. -/
def orderlyStopHoldWaitEndAt (d : Dev) : Dev :=
  if d.unit.stopped then d
  else
    let d := onlyIf (holdWaitOver d) scanWait d
    if d.unit.orderly = 3 ∧ d.unit.owing = [] then orderlyEnd d else d

def execOrderlyStopHoldWaitEnd (dt : Nat) (s : State) : Host.Outcome State Fault Refusal := onDev dt orderlyStopHoldWaitEndAt s

/-- SRESET_PRESS_END (R436): a press that clears the lock-out also starts a stopped unit again (R486). -/
def sresetPressEndAt (both : Bool) (p : StartPins) (fuses : Nat) (id : Ident) (d : Dev) : Dev :=
  let r := pressEnd both d
  if r.1 && (r.2.unit.stopped || r.2.unit.phase == .ended) then restartUnit false fuses id p r.2 else r.2

def execSresetPressEnd (dt : Nat) (seenByBoth : Bool) (pins : StartPins) (s : State) : Host.Outcome State Fault Refusal :=
  onUnit dt (sresetPressEndAt seenByBoth pins) s

/-! Register writes (R5, R7, R9, R71). -/

/-- A pick's STATE or TARGET written by Koresque (R71), where the record that claims the pick provides for it. TARGET is written whole
at the register's address, so that the change is complete at one edge. -/
def pickWrite (r : Reg) (i addr value : Nat) (d : Dev) : Dev :=
  if !mayRetarget i d || addr != r.addr i then d
  else if r.base = REEL_PICK_TARGET.base then moveTarget i (trunc 64 value) d
  else if r.base = REEL_PICK_STATUS.base then
    if value % 4 = 1 then disarmPick i d else if value % 4 = 0 then d else retargetPick i (get REEL_PICK_TARGET_TARGET i d) true d
  else d

/-- REGISTER_WRITE (R5, R7): a 32-bit word, or a pick's TARGET whole. Writable fields take its bits, W1C fields that it sets are
cleared, and nothing else has an effect. -/
def registerWriteAt (addr value : Nat) (d : Dev) : Dev :=
  match (if d.unit.phase == .reset || d.unit.phase == .monitorReset || addr % 4 != 0 then none else regAt addr) with
  | none => d
  | some (r, i) =>
    let sh := 8 * (addr - r.addr i)
    let v := trunc 32 value * 2 ^ sh
    let d := if v &&& r.w1c = 0 then d else clearReg r i (v &&& r.w1c) d
    let lane := r.rw &&& (4294967295 * 2 ^ sh)
    if lane = 0 then d else pickWrite r i addr value d

def execRegisterWrite (dt addr value : Nat) (s : State) : Host.Outcome State Fault Refusal := onDev dt (registerWriteAt addr value) s

end Sys2Proof.Machine
end

