-- ==== Sys2Proof/Machine/Exchange.lean ====
section
/-! DEFINITION. The on-line exchange (R50 to R53, R247, R488), image transfer in LOAD_FAIL (R45), and the image that a joining member takes
from its partner (R51). -/

namespace Sys2Proof.Machine

/-- The exchange's notes changed. -/
def xchgMod (f : XchgX → XchgX) (d : Dev) : Dev := { d with xchg := f d.xchg }

/-! Writing the copy (R51, R326). -/

/-- IMAGE_LENGTH of the header received so far. -/
def xchgLength (x : XchgX) : Option Nat := if 24 ≤ x.header.length then some (leVal ((x.header.drop 20).take 4)) else none

/-- A transfer begins: the copy is erased, and RECEIVING is entered. -/
def xchgStart (partner fromPair : Bool) (d : Dev) : Dev :=
  let b := otherBase d
  put FUSE_XCHG_STATE 0 1 { d with flash := flashErase b (b + 0x800000) d.flash, xchg := { partner := partner, fromPair := fromPair } }

/-- Bytes of the image at an offset: the header page waits, all others are programmed; with the last byte VERIFYING is entered. -/
def xchgWrite (off : Nat) (bs : List Nat) (d : Dev) : Dev :=
  let x := d.xchg
  let x := { x with got := off + bs.length, lastEdge := edge d, header := x.header ++ bs.take (256 - off) }
  let d : Dev := { d with xchg := x, flash := flashPut (otherBase d + max off 256) (bs.drop (256 - off)) d.flash }
  match xchgLength x with
  | some n => if n ≤ x.got then put FUSE_XCHG_STATE 0 2 d else d
  | none => d

/-- The body of a KIND 3 frame, the model's own (log entry 30): offset and bytes. -/
def forward (off : Nat) (bs : List Nat) (d : Dev) : Dev := linkSend 3 (leBytes 4 off ++ bs) d

/-- The standby is told that the exchange has ended. -/
def xchgTell (d : Dev) : Dev := if d.xchg.partner then linkSend 5 [4, 0, 0] d else d

/-- An exchange is refused or times out (R51, R481): 0x020B with its cause, in both units. -/
def xchgRefuse (code : Nat) (d : Dev) : Dev :=
  raise 0x020B 0 (put FUSE_XCHG_CAUSE 0 code (xchgEnd (xchgTell d))) (code % 256) code

/-- An active or unpaired unit, or one in LOAD_FAIL, takes transfers, commits and aborts (R54). -/
def mayExchange (d : Dev) : Bool := d.unit.phase == .loadFail || isActive d

/-- IMAGE_TRANSFER (R51, R54, R326, R457). -/
def doTransfer (off : Nat) (bs : List Nat) (d : Dev) : SvcRes :=
  let st := get FUSE_XCHG_STATE 0 d
  let joins := isMember d && (d.pairx.partnerState == 3 || d.pairx.partnerState == 4)
  if bs = [] ∨ 1024 < bs.length ∨ bs.length % 4 ≠ 0 ∨ bs.any (255 < ·) ∨ 2 ^ 32 ≤ off then svcRefused 1 d
  else if !mayExchange d then svcRefused 5 d
  else if off = 0 ∧ st ≠ 0 then svcRefused 7 d
  else if (off = 0 ∧ joins) ∨ (off ≠ 0 ∧ st ≠ 1) then svcRefused 5 d
  else if off ≠ 0 ∧ (off ≠ d.xchg.got ∨ 0x800000 < off + bs.length) then svcRefused 6 d
  else
    let d := if off = 0 then xchgStart (pairState d == 6 && d.pairx.partnerState == 5) false d else d
    let d := if d.xchg.partner then forward off bs d else d
    okNone (xchgWrite off bs d)

def execImageTransfer (dt : Nat) (h : SvcHdr) (offset : Nat) (bytes : List Nat) (s : State) : Host.Outcome State Fault Refusal :=
  svcCmd dt (.imageTransfer 0 h offset bytes) h 0x0060 3 2 (doTransfer offset bytes) s

/-- EXCHANGE_TRANSFER_TIMEOUT (R51): no transfer message for 10 s. -/
def exchangeTransferTimeoutAt (d : Dev) : Dev :=
  if get FUSE_XCHG_STATE 0 d = 1 ∧ 4000000000 ≤ since d.xchg.lastEdge d then xchgEnd (xchgTell d) else d

def execExchangeTransferTimeout (dt : Nat) (s : State) : Host.Outcome State Fault Refusal := onDev dt exchangeTransferTimeoutAt s

/-! Verification (R50). -/

/-- Two records are byte-identical. -/
def sameRec (a b : Rec) : Bool := a.typ == b.typ && a.claims == b.claims && a.pay == b.pay

/-- The blocks whose records an exchange may not change. -/
def fixedBlocks : List Nat := [1, 2, 3, 4, 7, 8, 0xB, 0xC, 0xD, 0xE, 0xF, 0x11, 0x12, 0x13]

/-- The records of those blocks. -/
def fixedRecs (m : Img) : List Rec := m.recs.filter fun r => fixedBlocks.contains (r.typ / 256)

/-- The claims that an exchange may not change. -/
def fixedClaims (m : Img) : List Claim :=
  (m.recs.flatMap (·.claims)).filter fun c => [1, 3, 0x14, 0x16].contains c.cls || decide (5 ≤ c.cls ∧ c.cls ≤ 0x11)

/-- TYPEs of the records that claim a pick. -/
def pickTypes (m : Img) (p : Nat) : List Nat :=
  (m.recs.filter fun r => r.claims.any fun c => c.cls == 2 && decide (c.first ≤ p ∧ p < c.first + c.count)).map (·.typ)

/-- Engines that a ply is assigned to. -/
def pliesOn (m : Img) (p : Nat) : List Nat := (groupsOfPly m p).map (·.u P0502_ENGINE)

/-- Bytes of the records that the running image lacks: the size of their bodies is taken for their loaded form. -/
def changedBytes (m o : Img) : Nat :=
  ((o.recs.filter fun r => !m.recs.any (sameRec r)).map fun r => 4 + 8 * r.claims.length + r.pay.length).sum

/-- The second to last conditions of R50 for the new image `o` beside the running one `m`. -/
def exchangeable (m o : Img) : Bool :=
  let a := fixedRecs m
  let b := fixedRecs o
  let ca := fixedClaims m
  let cb := fixedClaims o
  let both := ((m.all 0x0501).map (·.u P0501_PLY)).filter fun p => (o.find 0x0501 P0501_PLY p).isSome
  decide (hdrU m.hdr PHDR_SEQUENCE < hdrU o.hdr PHDR_SEQUENCE) && a.length == b.length && (a.zip b).all (fun p => sameRec p.1 p.2)
    && ca.all cb.contains && cb.all ca.contains && both.all (fun p => pliesOn m p == pliesOn o p)
    && (List.range 1024).all (fun p => pickTypes m p == [] || (pickTypes o p).all (pickTypes m p).contains)
    && decide (changedBytes m o ≤ 1048576)

/-- R50 over the image that has been read back: its copy with the header page. A condition of R50 that no loader fault names gives no code. -/
def xchgCheck (fuses : Nat) (id : Ident) (d : Dev) : Except (Option Reject) Img :=
  let b := otherBase d
  if !headerValid d.xchg.header then .error (some { code := 0x0201 })
  else match loadCopy fuses id (flashPut b d.xchg.header d.flash) b false with
    | .error e => .error (some e)
    | .ok l =>
      if d.unit.phase == .loadFail || d.xchg.fromPair then .ok l.img
      else match d.img with
        | some m => if exchangeable m l.img then .ok l.img else .error none
        | none => .error none

/-- STAGED (R51, R247): the new program and variables are laid out. -/
def xchgStaged (d : Dev) : Dev := shuStage (put FUSE_XCHG_STATE 0 3 d)

/-- The active unit is in VERIFYING with its header page programmed: STAGED with the standby's report, or at once without a partner. -/
def xchgProceed (d : Dev) : Dev :=
  let x := d.xchg
  if get FUSE_XCHG_STATE 0 d = 2 ∧ x.headerDone ∧ (¬ x.partner ∨ x.standbyStaged) then xchgStaged d else d

/-- What a refused image leads to in its unit: 0x020B, and a standby reports it; a joining member stays in WAITING. -/
def xchgFailed (code : Nat) (d : Dev) : Dev :=
  let joiner := d.xchg.fromPair
  let st := pairState d
  let d := xchgRefuse code d
  if joiner then roleTo 2 d else if st = 5 then linkSend 5 ([4] ++ leBytes 2 code) d else d

/-- EXCHANGE_READBACK_DONE (R50, R51, R45). -/
def exchangeReadbackDoneAt (p : StartPins) (fuses : Nat) (id : Ident) (d : Dev) : Dev :=
  if get FUSE_XCHG_STATE 0 d ≠ 2 ∨ d.xchg.headerDone then d
  else match xchgCheck fuses id d with
    | .error (some e) => xchgFailed e.code (put FUSE_LDR_CONFLICTS_COUNT 0 e.conflicts d)
    | .error none =>
      let v := fresh 8 (put FUSE_LDR_CONFLICTS_COUNT 0 0 d)
      xchgFailed (0x200 + v.1) v.2
    | .ok o =>
      let d := put FUSE_LDR_CONFLICTS_COUNT 0 0 { d with flash := flashPut (otherBase d) d.xchg.header d.flash }
      if d.unit.phase == .loadFail || d.xchg.fromPair then restartUnit false fuses id p d
      else
        let d := xchgMod (fun x => { x with headerDone := true, headerEdge := edge d }) { d with next := some o }
        if pairState d = 5 then linkSend 5 [3] (xchgStaged d) else xchgProceed d

def execExchangeReadbackDone (dt : Nat) (pins : StartPins) (s : State) : Host.Outcome State Fault Refusal :=
  onUnit dt (exchangeReadbackDoneAt pins) s

/-- EXCHANGE_STAGE_TIMEOUT (R51): no report of the standby for 30 s. No check has refused the image: cause and VALUE are 0. -/
def exchangeStageTimeoutAt (d : Dev) : Dev :=
  if get FUSE_XCHG_STATE 0 d = 2 ∧ d.xchg.headerDone ∧ 12000000000 ≤ since d.xchg.headerEdge d then xchgRefuse 0 d else d

def execExchangeStageTimeout (dt : Nat) (s : State) : Host.Outcome State Fault Refusal := onDev dt exchangeStageTimeoutAt s

/-- The standby's report (R51). -/
def standbyStagedReport (d : Dev) : Dev := xchgProceed (xchgMod (fun x => { x with standbyStaged := true }) d)

/-- A report of failure: the active unit refuses the exchange; a standby's own ends with the active unit's. -/
def failedReport (code : Nat) (d : Dev) : Dev :=
  let st := get FUSE_XCHG_STATE 0 d
  if pairState d = 6 then (if (st = 1 ∨ st = 2) ∧ d.xchg.partner then xchgRefuse code d else d)
  else if isStandby d then xchgAbort d else d

/-! Commit and abort (R51, R326). -/

/-- S_c is known: COMMITTING. -/
def commitAt (sc : Nat) (d : Dev) : Dev :=
  xchgMod (fun x => { x with sc := sc }) d |> put FUSE_XCHG_STAMP_S_C 0 sc |> put FUSE_XCHG_STATE 0 4

/-- IMAGE_COMMIT (R51): S_c lies 1 ms to 10 s ahead, and is mirrored to the standby. -/
def doCommit (sc : Nat) (d : Dev) : SvcRes :=
  if 2 ^ 64 ≤ sc then svcRefused 1 d
  else if !mayExchange d ∨ get FUSE_XCHG_STATE 0 d ≠ 3 then svcRefused 5 d
  else if sc < now d + 6400000 ∨ now d + 64000000000 < sc then svcRefused 6 d
  else okNone (commitAt sc (hostItem 0x61 0 (leBytes 8 sc) d))

def execImageCommit (dt : Nat) (h : SvcHdr) (sc : Nat) (s : State) : Host.Outcome State Fault Refusal :=
  svcCmd dt (.imageCommit 0 h sc) h 0x0061 3 2 (doCommit sc) s

/-- IMAGE_ABORT (R51): in RECEIVING and STAGED. -/
def doAbort (d : Dev) : SvcRes :=
  let st := get FUSE_XCHG_STATE 0 d
  if mayExchange d ∧ (st = 1 ∨ st = 3) then okNone (xchgEnd (xchgTell d)) else svcRefused 5 d

def execImageAbort (dt : Nat) (h : SvcHdr) (s : State) : Host.Outcome State Fault Refusal :=
  svcCmd dt (.imageAbort 0 h) h 0x0062 3 2 doAbort s

/-! COMMITTING (R52). -/

/-- The exchange switches objects at stamp `t`. -/
def committing (t : Nat) (d : Dev) : Bool := get FUSE_XCHG_STATE 0 d == 4 && decide (d.xchg.sc ≤ t)

/-- The object of a fault is not defined by image `o` (R488): plies, groups, trace buffers and streams are what an exchange may drop. -/
def objectGone (o : Img) (a : Active) : Bool :=
  if [0x0501, 0x0502, 0x0505, 0x0507].contains a.code then (o.find 0x0501 P0501_PLY a.obj).isNone
  else if a.code = 0x0503 ∨ a.code = 0x0506 then (o.find 0x0502 P0502_GROUP a.obj).isNone
  else if a.code = 0x1007 then (o.find 0x0503 P0503_BUFFER a.obj).isNone
  else if a.code = 0x1001 then (o.find 0x1003 P1003_STREAM a.obj).isNone
  else false

/-- A stream whose record changed closes with an end mark and reopens (R52, R407). -/
def streamSwitch (m o : Img) (n : Nat) (d : Dev) : Dev :=
  let a := m.find 0x1003 P1003_STREAM n
  let b := o.find 0x1003 P1003_STREAM n
  let same : Bool := match a, b with
    | some x, some y => sameRec x y
    | none, none => true
    | _, _ => false
  if same ∨ get REC_STR_STATUS_STATE n d ≠ 1 then d
  else
    let dest := (d.streams.get {} n).dest
    let d := strEnd n d
    if b.isSome then strArm n dest d else strState n 0 d

/-- Hanks that run a recipe of the replaced image. -/
def oldHanks (d : Dev) : Nat :=
  (recsOf 0x0A01 d).foldl (fun n r =>
    let h := r.u P0A01_HANK
    setBit n h (hankState h d != 0 && !(hankX h d).newVer)) 0

/-- FUSE_XCHG_OLD and the hanks' OLD_VERSION bits (R52, R276). -/
def showOld (d : Dev) : Dev :=
  let n := oldHanks d
  put FUSE_XCHG_OLD_HANKS 0 n (forL (recsOf 0x0A01 d) (fun r => putB HANK_H_STATE_OLD_VERSION (r.u P0A01_HANK) (bit n (r.u P0A01_HANK))) d)

/-- What S_c itself brings, at the first firing at or after it (R52, R488). -/
def xchgBegin (t : Nat) (d : Dev) : Dev :=
  if !committing t d || d.xchg.begun then d
  else match d.img, d.next with
    | some m, some o =>
      xchgMod (fun x => { x with begun := true }) d |> clearWhere (objectGone o)
        |> forL (List.range 16) (streamSwitch m o) |> showOld
    | _, _ => d

/-- An axis takes its new record: with no move under way, or as a command that starts a move is about to be taken (R52). -/
def axisSwitch (t a : Nat) (d : Dev) : Dev :=
  let st := get MOT_AX_STATE_STATE a d
  let x := d.axes.get {} a
  let starts (c : Option MCmd) : Bool := (c.map fun c => [3, 4, 5, 7, 8].contains c.code).getD false
  if !committing t d || d.switched.contains (5 * 65536 + a) then d
  else if [0, 1, 2, 9].contains st || ([3, 5].contains st && (starts x.boxH || starts x.boxS)) then { d with switched := (5 * 65536 + a) :: d.switched }
  else d

/-- The axes of a servo pick before its evaluation. -/
def axesSwitch (pick t : Nat) (d : Dev) : Dev :=
  if !committing t d then d
  else forL (recsOf 0x0601 d) (fun r d =>
    let a := r.u P0601_AXIS
    if ((axisRec a d).map (·.u P0601_SERVO_PICK)).getD 1024 = pick then axisSwitch t a d else d) d

/-- Every ply, axis and task of the new image has switched, and no hank runs an old recipe. -/
def xchgComplete (o : Img) (d : Dev) : Bool :=
  let sw (cls : Nat) (typ : Nat) (key : PF) : Bool := (o.all typ).all fun r => d.switched.contains (cls * 65536 + r.u key)
  d.xchg.begun && sw 0x502 0x0502 P0502_GROUP && sw 5 0x0601 P0601_AXIS && sw 0x13 0x0902 P0902_TASK && oldHanks d == 0

/-- The registers that show the new running image (IMG). -/
def xchgImage (o : Img) (d : Dev) : Dev :=
  d |> put FUSE_LDR_STATE_COPY 0 d.unit.copy |> put FUSE_LDR_SEQ_SEQUENCE 0 (hdrU o.hdr PHDR_SEQUENCE)
    |> put PLY_STATUS_PLIES 0 (o.all 0x0501).length
    |> forN 8 (fun e d => put PLY_ENG_STATUS_LOAD e (satU 8 (ratHalfUp (engLoad o e * 100)).toNat) d)
    |> put SHU_STATUS_RETAINED 0 (retainedWords o / 2)
    |> forL (o.all 0x0902) (fun r d => d |> put SHU_TASK_STATE_PRIORITY (r.u P0902_TASK) (r.u P0902_PRIORITY)
        |> put SHU_TASK_STATE_ENGINE (r.u P0902_TASK) (r.u P0902_ENGINE))
    |> motImage |> otherImage

/-- After each firing stamped `t`: FUSE_XCHG_OLD, and the end of the exchange with its event record (R51). The spec names no code for that
record: it is a free value. -/
def xchgTick (t : Nat) (d : Dev) : Dev :=
  if !committing t d then d
  else
    let d := showOld d
    match d.next with
    | none => d
    | some o =>
      if !xchgComplete o d then d
      else
        let hs := d.hanks.map fun p => (p.1, { p.2 with newVer := false })
        let d := { shuXchgEnd (plyDrop o d) with img := some o, next := none, switched := [], xchg := {}, hanks := hs, unit := { d.unit with copy := 1 - d.unit.copy } }
        let v := fresh 16 (put FUSE_XCHG_STATE 0 0 (xchgImage o d))
        record v.1 0 0 false v.2

/-! A joining member's image (R51). -/

/-- The whole running image goes to the partner in KIND 3 frames. -/
def forwardAll : Nat → Nat → List Nat → Dev → Dev
  | 0, _, _, d => d
  | fuel + 1, off, bs, d => if bs = [] then d else forwardAll fuel (off + 2044) (bs.drop 2044) (forward off (bs.take 2044) d)

/-- The running image as its copy holds it. -/
def forwardImage (d : Dev) : Dev :=
  let b := copyBase d.unit.copy
  let n := ((d.img.map fun m => hdrU m.hdr PHDR_IMAGE_LENGTH)).getD 0
  forwardAll (n / 2044 + 1) 0 (flashBytes d.flash b n) d

/-- Image bytes from the partner: a standby takes part in the exchange, a joining member stays in WAITING and takes the running image. -/
def takeForwarded (off : Nat) (bs : List Nat) (d : Dev) : Dev :=
  let st := pairState d
  if bs.any (255 < ·) ∨ 0x800000 < off + bs.length then d
  else if st = 5 then
    let d := if off = 0 then xchgStart false false d else d
    if get FUSE_XCHG_STATE 0 d = 1 ∧ off = d.xchg.got then xchgWrite off bs d else d
  else if st = 2 ∨ st = 3 then
    let d := if off = 0 then xchgStart false true (if st = 3 then roleTo 2 d else d) else d
    if get FUSE_XCHG_STATE 0 d = 1 ∧ d.xchg.fromPair ∧ off = d.xchg.got then xchgWrite off bs d else d
  else d

end Sys2Proof.Machine
end

