-- ==== Sys2Proof/Machine/Reel.lean ====
section
/-! DEFINITION. Firings of picks and what they set off (R66 to R73, R142, R176, R451), and edges of general I/O pins (R56). -/

namespace Sys2Proof.Machine

/-! Items that the active unit mirrors of a firing (R453). -/

/-- A feedback position as a triple (p, t, r) of 24 bytes. -/
def tripleBytes (n t : Nat) (d : Dev) : List Nat :=
  leBytes 8 (ofInt 64 (fbCount n d)) ++ leBytes 8 (fbStamp n d) ++ leBytes 8 (ofInt 64 (fbSpeed n t d))

/-- The sigma-delta channels of a sample group. -/
def groupChans (g : Nat) (d : Dev) : List Rec := (recsOf 0x0702 d).filter fun r => r.u P0702_SAMPLE_GROUP == g

/-- Its loop ports. -/
def groupPorts (g : Nat) (d : Dev) : List Nat := ((recsOf 0x0E01 d).filter fun r => r.u P0E01_SAMPLE_GROUP == g).map (·.u P0E01_PORT)

/-- Its SSI interfaces. -/
def groupSsi (g : Nat) (d : Dev) : List Rec := (recsOf 0x0801 d).filter fun r => r.u P0801_MODE == 3 && r.u P0801_SAMPLE_GROUP == g

/-- The feedback interfaces of the drives whose currents it samples. -/
def groupDrives (g : Nat) (d : Dev) : List Nat :=
  ((recsOf 0x0704 d).filter fun r => (groupChans g d).any fun c => c.u P0702_CHANNEL == r.u P0704_SD_A).map fun r =>
    ((axisRec (r.u P0704_AXIS) d).map (·.u P0601_FB_INDEX)).getD 0

/-- General I/O strands that plies launched with a sample group read: they go with its item (R20; log entry 89). -/
def groupPins (g : Nat) (d : Dev) : List Nat :=
  let of (m : Option Img) : List Nat := (m.map fun m => pinsRead m g).getD []
  let l := of d.img ++ of d.next
  (List.range 32).filter l.contains

/-- The values of a sample group as an item: channels, ports, SSI positions, positions of drive axes, pins. -/
def sampleItem (g t : Nat) (d : Dev) : List Nat :=
  ((groupChans g d).flatMap fun r => leBytes 4 (strand 0x07 (r.u P0702_CHANNEL) d)) ++ ((groupPorts g d).flatMap fun n => leBytes 4 (strand 0x0E n d)) ++
    ((groupSsi g d).flatMap fun r => tripleBytes (r.u P0801_IFACE) t d) ++ ((groupDrives g d).flatMap fun n => tripleBytes n t d) ++
    (groupPins g d).flatMap fun k => leBytes 4 (strand 0x01 k d)

/-- The axes that a servo pick evaluates. -/
def servoAxes (pick : Nat) (d : Dev) : List Rec :=
  (recsOf 0x0601 d).filterMap fun r => (axisRec (r.u P0601_AXIS) d).filter fun q => q.u P0601_SERVO_PICK == pick

/-- The local positions of a servo pick's axes as an item. -/
def servoItem (pick t : Nat) (d : Dev) : List Nat :=
  ((servoAxes pick d).filter fun q => q.u P0601_FB_SOURCE == 0).flatMap fun q => tripleBytes (q.u P0601_FB_INDEX) t d

/-! Actions (R68). -/

/-- ACTION SAMPLE on the unit's own channels (R176, R214, R350, R351): `sd` gives the bits of each sigma-delta channel. -/
def sampleOwn (g t : Nat) (sd : List (Nat × List Bool)) (d : Dev) : Dev :=
  d |> forL (groupChans g d) (fun r d => match sd.find? fun p => p.1 == r.u P0702_CHANNEL with
        | some p => sdSample r p.2 d
        | none => d)
    |> forL (groupSsi g d) (fun r => ssiStart (r.u P0801_IFACE) r) |> loopSample g t

/-- The servo evaluation that a firing brings (R142), with the axes that change to a new image's records first (R52). -/
def servoAt (pick t : Nat) (d : Dev) : Dev := servoEval pick t (axesSwitch pick t d)

/-- ACTION PIN: low, high or toggled. -/
def pinAction (op : Nat) (d : Dev) : Dev :=
  let pin := op % 32
  gpioDrive pin (match op / 32 % 4 with
    | 0 => false
    | 1 => true
    | _ => !bit d.gpioOut pin) d

/-- The actions whose effect leaves through the unit's own pins (R451): PWM_LOAD, PULSE_OPEN, PULSE_CLOSE and PIN of pick `p`. -/
def pinSide (act op p : Nat) (d : Dev) : Dev :=
  match act with
  | 2 => loadAll op d
  | 3 => pulse op true d
  | 4 => phaseClose p (pulse op false d)
  | 8 => pinAction op d
  | _ => d

/-- An item that waits for its replay, in order of stamps. -/
def waitItem (i : PairItem) (d : Dev) : Dev :=
  let l := d.pairx.replay
  pairMod (fun x => { x with replay := (l.filter fun j => decide (j.stamp ≤ i.stamp)) ++ [i] ++ l.filter fun j => decide (i.stamp < j.stamp) }) d

/-- The wakes of the cycle hooks that own pick `p` (R302), which wait for the edge's pick wakes (R92). -/
def hookWakes (p : Nat) (d : Dev) : Dev :=
  forL (recsOf 0x0B04 d) (fun r d => if r.u P0B04_PICK = p ∧ r.u P0B04_THREAD ≠ 0xFFFF then
    { d with creel := { d.creel with hooks := d.creel.hooks ++ [(r.u P0B04_HOOK, r.u P0B04_THREAD)] } } else d) d

/-- The effect of pick `p`, fired at stamp `t`, in a unit that is active or unpaired. The item of a start follows the values that the
started work reads, so that a standby replays them in that order (R142). -/
def pickAct (p t : Nat) (sd : List (Nat × List Bool)) (d : Dev) : Dev :=
  let act := get REEL_PICK_CFG_ACTION p d
  let op := get REEL_PICK_CFG_OPERAND p d
  let d := if act = 1 then (fun d => mirror 2 op t (sampleItem op t d) d) (sampleOwn op t sd d) else d
  let d := if servoAxes p d == [] then d else servoAt p t (mirror 2 (4096 + p) t (servoItem p t d) d)
  let d := if act = 6 ∨ act = 9 then mirror 1 p t [] d else d
  let d := match act with
    | 1 => launchSample op t d
    | 5 => wake op d
    | 6 => taskStart op t d
    | 9 => launchPick op t d
    | 10 => hankStep op p t d
    | _ => pinSide act op p d
  canLoadPick p (if flag REEL_PICK_CFG_WAKE_EN p d then wake (get REEL_PICK_CFG_WAKE_THREAD p d) d else d)

/-- What a standby does at a firing from its own measure (R451): what acts on pins waits for one cycle, and wakes go on. -/
def pickShadow (p t : Nat) (d : Dev) : Dev :=
  let act := get REEL_PICK_CFG_ACTION p d
  let op := get REEL_PICK_CFG_OPERAND p d
  let d := if [2, 3, 4, 8].contains act then waitItem { stamp := t, item := 32 + act, index := p, body := leBytes 2 op } d
    else if act = 5 then wake op d else if act = 10 then beatNote op p t d else d
  if flag REEL_PICK_CFG_WAKE_EN p d then wake (get REEL_PICK_CFG_WAKE_THREAD p d) d else d

/-! Firings (R67, R70, R73). -/

/-- The unwrapped target for which a due pick fires. -/
def firedTarget (p : Nat) (d : Dev) : Int :=
  let x := d.pick.get {} p
  if isTime (pickMeas p d) d then timeTarget p d
  else if x.due = 0 then x.predX
  else
    let t := get REEL_PICK_TARGET_TARGET p d
    if flag REEL_PICK_CFG_ANGLE_ONLY p d then
      let b := x.armPos
      if 0 < measRate (pickMeas p d) d then b - (b - t) % 4294967296 else b + ((t : Int) - b) % 4294967296
    else toInt 64 t

/-- The firing counted (R67, R73, R84): stamp, counts, LATE. -/
def countFiring (p t : Nat) (late : Bool) (d : Dev) : Dev :=
  d |> bump REEL_PICK_STATUS_FIRES p |> bump REEL_COUNTS_FIRES 0 |> put REEL_PICK_TARGET_LAST p t
    |> onlyIf late (fun d => stick REEL_PICK_STATUS_LATE p 0x0304 p (bumpSat REEL_COUNTS_LATE 0 d))

/-- After a firing (R70): disarmed, armed at the same angle, or the target moved by INTERVAL past the measure; `skips` counts what is
passed over. -/
def rearm (p : Nat) (skips : Bool) (d : Dev) : Dev :=
  let m := pickMeas p d
  let time := isTime m d
  let x := d.pick.get {} p
  let predicted := !time && x.due == 0
  let up := time || decide (0 < measRate m d)
  let target := firedTarget p d
  let n : Int := get REEL_PICK_CFG_INTERVAL p d * (if time then 16 else 1)
  let angle := flag REEL_PICK_CFG_ANGLE_ONLY p d
  let pos := measRaw m (now d) d
  let x := { x with predAt := none, due := 0, owed := 0, armPos := if time then pos else x.armPos
                    fired := if predicted then some (target, up) else x.fired }
  let d := { d with pick := d.pick.put p x }
  if n = 0 then put REEL_PICK_STATUS_STATE p (if angle then 2 else 1) d |> (fun d => if angle && !time then predictPick p d else d)
  else
    let fall := get REEL_PICK_CFG_DIR p d == 2
    let moved := if fall then target - n else target + n
    let k : Int := if fall then (if pos < moved then (moved - pos) / n + 1 else 0) else if moved < pos then (pos - moved) / n + 1 else 0
    let next := if fall then moved - k * n else moved + k * n
    let d := put REEL_PICK_TARGET_TARGET p (ofInt (if angle then 32 else 64) next) (put REEL_PICK_STATUS_STATE p 2 d)
    let d := if skips && k != 0 then
        stick REEL_PICK_STATUS_SKIPPED p 0x0305 p (addSat REEL_COUNTS_SKIPS 0 k.toNat d) else d
    if time then d else predictPick p d

/-- A member that neither takes decisions nor samples for itself: a standby, or one that waits. -/
def shadows (d : Dev) : Bool := isStandby d || pairState d == 2

/-- What every firing brings besides its action: sets, marks, tick 1, and the exchange. -/
def afterFiring (p t : Nat) (d : Dev) : Dev :=
  let d := setsTake p t (tick1Advance p d)
  let d := if get REEL_PICK_CFG_ACTION p d = 7 ∧ ¬ shadows d ∧ running d then pickMark (get REEL_PICK_CFG_OPERAND p d) t d else d
  edgeWakes (xchgTick t (edgeTakes (dueBelow 1024) d))

/-- PICK_FIRE (R67 to R73). A pick that is not due does nothing, and neither does one while a pick of lower index is due (R69). Picks that start plies, tasks and sample groups do not fire from a
standby's own measures (R19): only their arming follows the measure there. -/
def pickFireAt (p : Nat) (sd : List (Nat × List Bool)) (d : Dev) : Dev :=
  let x := d.pick.get {} p
  let owed := x.owed == edge d + 1
  if 1024 ≤ p || !blocksOn d || !(owed || pickDue p d) || dueBelow p d then d
  else
    let t := now d
    let late := if owed then x.owedLate else x.due == 2
    let quiet := shadows d && [1, 6, 9].contains (get REEL_PICK_CFG_ACTION p d)
    let d := xchgBegin t d
    let d := if quiet then d else countFiring p t late d
    let d := if owed then { d with pick := d.pick.put p { d.pick.get {} p with owed := 0 } } else rearm p (!quiet) d
    let d := if running d then hookWakes p (if quiet then d else syncPick p d) else d
    let d := if quiet || !running d then d else if shadows d then pickShadow p t d else pickAct p t sd d
    afterFiring p t d

def execPickFire (dt pick : Nat) (sd : List (Nat × List Bool)) (s : State) : Host.Outcome State Fault Refusal := onDev dt (pickFireAt pick sd) s

/-! General I/O edges (R56). -/

/-- GPIO_EDGE (R56): a transition at a ball, stamped unless less than 5 ns after the last stamped one. The level's register and strand
follow; measures, limits, homes, alarms and EDGE sets see it. -/
def gpioEdgeAt (pin : Nat) (level : Bool) (frac : Nat) (d : Dev) : Dev :=
  let x := d.pins.get {} pin
  if 32 ≤ pin || d.unit.phase == .reset || d.unit.phase == .monitorReset || (x.level == level && !x.owed) then d
  else
    let inst := nowPlus (min frac 15) d
    let own := !x.ever || decide (x.inst + 32 ≤ inst)
    let y : PinX := if own then { level := level, inst := inst, ever := true, stamp := edgeStamp (72 + pin) (min frac 15) d, edge := edge d }
      else { x with level := level, edge := edge d, owed := false }
    let d := { d with pins := d.pins.put pin y } |> put SYS_GPIO_LEVEL_LEVEL 0 (setBit (get SYS_GPIO_LEVEL_LEVEL 0 d) pin level)
      |> putStrands [(0x01000 + pin, b2n level)]
    if !blocksOn d then d
    else
      let d := d |> forL (recsOf 0x0801 d) (alarmEdge pin level) |> forL ((recsOf 0x0601 d).filterMap fun r => axisRec (r.u P0601_AXIS) d) (axisPinEdge pin level y.stamp)
      if own then edgeTakes (dueBelow 1024) (setsEdge pin y.stamp level (forL (recsOf 0x0302 d) (measPinEdge pin level y.stamp) d)) else d

def execGpioEdge (dt pin : Nat) (level : Bool) (frac : Nat) (s : State) : Host.Outcome State Fault Refusal := onDev dt (gpioEdgeAt pin level frac) s

end Sys2Proof.Machine
end

