-- ==== Sys2Proof/Machine/PairLink.lean ====
section
/-! DEFINITION. The pair link (R453), and a standby's replay of the active unit's items (R19, R449 to R452, R457). -/

namespace Sys2Proof.Machine

/-! The link (R453). -/

/-- A frame of a kind other than acknowledgement has come: it is acknowledged. -/
def linkAck (seq : Nat) (d : Dev) : Dev := linkSend 4 (leBytes 4 seq) d

/-- A valid frame has come: 0x1203 clears after 1 ms of them. -/
def linkSeen (d : Dev) : Dev :=
  let d := pairMod (fun x => { x with linkEdge := edge d + 1, upEdge := if x.upEdge = 0 then edge d + 1 else x.upEdge }) d
  if 400000 ≤ since (d.pairx.upEdge - 1) d then clearFault 0x1203 0 d else d

/-- An item came late, or a frame is lost for good (R453): 0x1208, and the standby leaves SHADOW. -/
def itemLate (d : Dev) : Dev := if pairState d = 5 then leaveShadow (stick PAIR_FLAGS_ITEM_LATE 0 0x1208 0 d) else d

/-- The frame numbers in order: a gap is noted, and a frame that fills one removes it. The answer says whether the frame is new. A gap
that has lasted 10 µs is a frame lost after its retransmission. -/
def linkOrder (seq : Nat) (d : Dev) : Bool × Dev :=
  let x := d.pairx
  let mark (x : PairX) : PairX := match x.rxNext with
    | none => { x with rxNext := some ((seq + 1) % 4294967296) }
    | some n =>
      let ahead := (seq + 4294967296 - n) % 4294967296
      if ahead < 2147483648 then
        { x with rxNext := some ((seq + 1) % 4294967296)
                 gaps := (List.range (min ahead 64)).foldl (fun t i => Tab.put ((n + i) % 4294967296) (edge d) t) x.gaps }
      else { x with gaps := x.gaps.del seq }
  let new := match x.rxNext with
    | none => true
    | some n => decide ((seq + 4294967296 - n) % 4294967296 < 2147483648) || x.gaps.any fun p => p.1 == seq
  let d := pairMod mark d
  let old := d.pairx.gaps.filter fun p => decide (4000 ≤ since p.2 d)
  (new, if old == [] then d else itemLate (pairMod (fun x => { x with gaps := x.gaps.filter fun p => !decide (4000 ≤ since p.2 d) }) d))

/-- A frame of kinds 1, 2, 3 and 5 as a member receives it; `f` is what a new one does. -/
def linkTake (seq : Nat) (f : Dev → Dev) (d : Dev) : Dev :=
  if !isMember d || !blocksOn d then d
  else
    let r := linkOrder (seq % 4294967296) (linkSeen d)
    let d := linkAck (seq % 4294967296) r.2
    if r.1 then f d else d

/-- PAIR_ACK_RX (R453). -/
def pairAckRxAt (seq : Nat) (d : Dev) : Dev :=
  if !isMember d || !blocksOn d then d
  else pairMod (fun x => { x with unacked := x.unacked.filter fun u => u.seq != seq }) (linkSeen d)

def execPairAckRx (dt seq : Nat) (s : State) : Host.Outcome State Fault Refusal := onDev dt (pairAckRxAt seq) s

/-- PAIR_LINK_RETRANSMIT (R453): not acknowledged within 3 µs, a frame is sent once more. -/
def pairLinkRetransmitAt (seq : Nat) (d : Dev) : Dev :=
  match d.pairx.unacked.find? fun u => u.seq == seq with
  | none => d
  | some u =>
    if since u.edge d < 1200 then d
    else if u.resent then pairMod (fun x => { x with unacked := x.unacked.filter fun u => u.seq != seq }) d
    else
      let again (u : LinkTx) : LinkTx := if u.seq == seq then { u with resent := true, edge := edge d } else u
      send .pair 0 (linkFrame u.seq u.kind u.body) (pairMod (fun x => { x with unacked := x.unacked.map again }) d)
        |> bumpSat PAIR_LINK_RETRIES 0

def execPairLinkRetransmit (dt seq : Nat) (s : State) : Host.Outcome State Fault Refusal := onDev dt (pairLinkRetransmitAt seq) s

/-- PAIR_LINK_DOWN (R489): no valid frame for 10 µs. -/
def pairLinkDownAt (d : Dev) : Dev :=
  if isMember d ∧ blocksOn d ∧ 4000 ≤ since (d.pairx.linkEdge - 1) d then
    raise 0x1203 0 (put PAIR_FLAGS_LINK_DOWN 0 1 (pairMod (fun x => { x with upEdge := 0 }) d))
  else d

def execPairLinkDown (dt : Nat) (s : State) : Host.Outcome State Fault Refusal := onDev dt pairLinkDownAt s

/-! Frames with items, state, images and role control. -/

/-- One item on arrival: its lateness, and its place among those that wait. -/
def takeItem (i : PairItem) (d : Dev) : Dev :=
  if !isStandby d || i.item == 0 || decide (11 < i.item) then d
  else
    let late := now d - i.stamp
    let d := maxUp PAIR_LINK_LATEST_NS 0 ((late * 5 + 16) / 32) d
    let d := waitItem i (if pairState d = 3 then pairMod (fun x => { x with held := x.held + 16 + i.body.length }) d else d)
    if 64000 < late then itemLate d else d

/-- PAIR_ITEMS_RX (R19, R449, R453). -/
def execPairItemsRx (dt seq : Nat) (items : List PairItem) (s : State) : Host.Outcome State Fault Refusal :=
  onDev dt (linkTake seq (forL items takeItem)) s

/-- A part of the snapshot (R457): with the last one it is put in place, items from before its boundary go, and CATCHING_UP begins. -/
def takeSnap (p : SnapPart) (d : Dev) : Dev :=
  if pairState d ≠ 3 then d
  else
    let bs := d.pairx.snap ++ p.bytes
    if !p.last then pairMod (fun x => { x with snap := bs, snapOn := true }) d
    else
      let l := bytesNums bs.length bs
      let b := (decN l).1
      let d := snapTake l (pairMod (fun x => { x with snap := [], snapOn := false, lastEnd := b, replay := x.replay.filter fun i => decide (b ≤ i.stamp) }) d)
      roleTo 4 d

/-- PAIR_STATE_RX (R457). -/
def execPairStateRx (dt seq : Nat) (part : SnapPart) (s : State) : Host.Outcome State Fault Refusal :=
  onDev dt (linkTake seq (takeSnap part)) s

/-- PAIR_IMAGE_RX (R51). -/
def execPairImageRx (dt seq offset : Nat) (bytes : List Nat) (s : State) : Host.Outcome State Fault Refusal :=
  onDev dt (linkTake seq (takeForwarded offset bytes)) s

/-- A join request (R51, R457): a partner that runs another image gets the running one first. -/
def joinAsked (sequence : Nat) (d : Dev) : Dev :=
  if pairState d ≠ 6 then d
  else
    let d := pairMod (fun x => { x with partnerState := 3 }) d
    if ((d.img.map fun m => hdrU m.hdr PHDR_SEQUENCE)).getD 0 = sequence then pairMod (fun x => { x with joinReq := true }) d else forwardImage d

/-- A role report (R455, R456, R461). -/
def roleReported (state epoch : Nat) (d : Dev) : Dev :=
  let d := hearEpoch (epoch % 65536) (pairMod (fun x => { x with partnerState := state }) d)
  if state = 6 then
    (if pairState d = 6 then (if epochHigher epoch (get PAIR_STATUS_EPOCH 0 d) then depose d else d) else partnerIsActive d)
  else if d.pairx.partnerActive then partnerLeaves d else d

/-- A role-control message. -/
def takeRole (m : RoleMsg) (d : Dev) : Dev :=
  match m with
  | .joinRequest sequence => joinAsked sequence d
  | .roleReport state epoch => roleReported state epoch d
  | .staged => if pairState d = 6 then standbyStagedReport d else d
  | .failed cause => failedReport (cause % 65536) d

/-- PAIR_ROLE_CONTROL_RX (R455, R51). -/
def execPairRoleControlRx (dt seq : Nat) (msg : RoleMsg) (s : State) : Host.Outcome State Fault Refusal :=
  onDev dt (linkTake seq (takeRole msg)) s

/-! Replay (R19): every stamp of the active unit counts one Weft cycle later in the standby. -/

/-- Little-endian words of `n` bytes out of a body. -/
def words (n : Nat) (bs : List Nat) : List Nat := (List.range (bs.length / n)).map fun i => leVal ((bs.drop (n * i)).take n)

/-- The unit's own count of an interface at stamp `t`, with no own accepted edge within 100 ns of it (R452). -/
def ownCountAt (n t : Nat) (d : Dev) : Option Int :=
  let cs := (d.fbs.get {} n).changes
  if cs.any fun c => decide (c.acc ≤ t + 640 ∧ t ≤ c.acc + 640) then none
  else match cs.find? fun c => decide (c.acc ≤ t) with
    | some c => some (c.p * 65536)
    | none => match cs.getLast? with
      | some c => some ((c.p - c.dir) * 65536)
      | none => some (fbCount n d)

/-- A mirrored position (R452): OFFSET is formed or checked, and the sample stands for readers of the interface. -/
def mirrorTriple (n stamp : Nat) (b : List Nat) (d : Dev) : Dev :=
  let p := toInt 64 (leVal (b.take 8))
  let tk := leVal ((b.drop 8).take 8) + weftCycle16 d
  let v := toInt 64 (leVal ((b.drop 16).take 8))
  let x := d.fbs.get {} n
  let ssi := ((fbRec n d).map (·.u P0801_MODE)).getD 0 == 3
  let own := if ssi then none else (ownCountAt n stamp d).map (p - ·)
  let d := { d with fbs := d.fbs.put n { x with mir := some (p, tk, v), offset := x.offset.or own } }
  let d := if ssi then putStrandsS [(0x08000 + n, p)] (put FBK_FB_EDGE_STAMP n tk (putS FBK_FB_POS_COUNT n p d)) else d
  match x.offset, own with
  | some o, some q => if o = q then d else leaveShadow (stick PAIR_FLAGS_FB_DIVERGE 0 0x1207 0 d)
  | _, _ => d

/-- The pick of a sample group, whose firing its item stands for: the first one with ACTION SAMPLE for it (DEDUCED, log entry 89). It counts
as fired, and it aligns its carriers (R187, R193). -/
def sampleFiring (g t : Nat) (d : Dev) : Dev :=
  match (List.range 1024).find? fun p => pickUsed p d && get REEL_PICK_CFG_ACTION p d == 1 && get REEL_PICK_CFG_OPERAND p d == g with
  | some p => syncPick p (countFiring p t false d)
  | none => d

/-- `f` with strands of general I/O pins as the active unit sampled them; afterwards they show the unit's own pins again. -/
def withPins (l : List (Nat × Nat)) (f : Dev → Dev) (d : Dev) : Dev :=
  let own := l.map fun q => (q.1, strand 0x01 q.1 d)
  forL own (fun q => setStrand 0x01 q.1 q.2) (f (forL l (fun q => setStrand 0x01 q.1 q.2) d))

/-- Item 2 of a sample group (R453): the values take the places of own samples, and the group's launches follow. -/
def replaySamples (g stamp t : Nat) (b : List Nat) (d : Dev) : Dev :=
  let cs := groupChans g d
  let ps := groupPorts g d
  let ns := (groupSsi g d).map (·.u P0801_IFACE) ++ groupDrives g d
  let w := words 4 b
  let rest := b.drop (4 * (cs.length + ps.length))
  let pw := words 4 (rest.drop (24 * ns.length))
  let pins := (groupPins g d).zipIdx.map fun q => (q.1, pw.getD q.2 0)
  let port (q : Nat × Nat) (d : Dev) : Dev := match loopRec q.1 d with
    | none => d
    | some r =>
      let v := toInt 32 (w.getD (cs.length + q.2) 0)
      if r.u P0E01_MODE = 2 then loopCommand q.1 r d
      else if r.u P0E01_MODE = 1 then
        let micro := divHalfUp (v * 32000) 2147483648
        loopStatus q.1 r micro (putStrandsS [(0xE000 + q.1, v), (0xE010 + q.1, micro)] d)
      else setLoop q.1 0 (putStrandsS [(0xE000 + q.1, v)] d)
  d |> forL cs.zipIdx (fun q => putStrandsS [(0x07000 + q.1.u P0702_CHANNEL, toInt 32 (w.getD q.2 0))]) |> forL ps.zipIdx port
    |> forL ns.zipIdx (fun q => mirrorTriple q.1 stamp ((rest.drop (24 * q.2)).take 24)) 
    |> withPins pins (fun d => launchSample g t (sampleFiring g t d))

/-- Item 2 of a servo pick: positions of its axes, then the evaluation. -/
def replayServo (p stamp t : Nat) (b : List Nat) (d : Dev) : Dev :=
  let ns := ((servoAxes p d).filter fun q => q.u P0601_FB_SOURCE == 0).map (·.u P0601_FB_INDEX)
  servoAt p t (forL ns.zipIdx (fun q => mirrorTriple q.1 stamp ((b.drop (24 * q.2)).take 24)) d)

/-- Item 1 (R451): the firing of a pick that starts a group or a task. A start that froze an image follows with its item 3. -/
def replayFiring (p stamp t : Nat) (d : Dev) : Dev :=
  let op := get REEL_PICK_CFG_OPERAND p d
  let d := syncPick p (countFiring p t false d)
  if get REEL_PICK_CFG_ACTION p d = 9 then launchPick op t d
  else if get REEL_PICK_CFG_ACTION p d = 6 then
    (if d.pairx.replay.any fun i => i.item == 3 && i.index == op && i.stamp == stamp then d else taskStartWith (fun _ d => d) op t d)
  else d

/-- Item 3: a scan starts with the active unit's input image in place of an own freeze. -/
def replayImage (task t : Nat) (b : List Nat) (d : Dev) : Dev :=
  match taskRec task d with
  | none => d
  | some _ => taskStartWith (fun free d => match taskRec task d with
      | none => d
      | some r =>
        let d := heldEnd task d
        let f := freezeOf task r d
        let w := words 4 b
        let frz := f.1.zipIdx.map fun q => (q.1.1, w.getD q.2 0)
        let im := (words 8 (b.drop (4 * frz.length))).zipIdx.map fun q => (q.2, toInt 64 q.1)
        scanBegin task t frz f.2.1 (im.filter fun q => q.2 != 0) free (emptyBoxes task d)) task t d

/-- Item 7: a host action (R449). -/
def replayHost (index : Nat) (b : List Nat) (d : Dev) : Dev :=
  let u (o n : Nat) : Nat := leVal ((b.drop o).take n)
  match u 0 2 with
  | 0x20 => hvarPost (u 2 4) (u 6 8) (edge d + 1) d
  | 0x21 => match regAt (u 2 4) with
    | some (r, i) => clearReg r i (u 6 4) d
    | none => d
  | 0x30 => postHank index true (hankReqOf (b.drop 2)) (edge d + 1) d
  | 0x50 => shuttleCtrl (u 2 1) index ((List.range (u 3 1)).map fun k => u (4 + 2 * k) 2) d
  | 0x61 => put FUSE_XCHG_STAMP_S_C 0 (u 2 8) (commitAt (u 2 8 + weftCycle16 d) d)
  | _ => d

/-- The mailbox request that a decision has taken: SELECT, START, ABORT, HOLD or RESUME, the Shuttle's first; a hold that the active unit
has acted on is pending no more. -/
def takenBox (h : Nat) (k : HankDec) (d : Dev) : Dev :=
  let holds := k.kind == 9 || (k.asked && (k.kind == 5 || (k.kind == 2 && k.cause / 256 != 0x0A)))
  let code := match k.kind with
    | 6 => 1
    | 7 => 2
    | 8 => 5
    | 3 => 3
    | _ => if holds then 4 else if k.kind = 5 then 3 else 0
  let d : Dev := if holds then { d with holdReq := d.holdReq.del h, holdAt := d.holdAt.del h } else d
  let one (host : Bool) : Option (Bool × HankReq) := ((boxAt host h d).filter fun q => q.code == code).map fun q => (host, q)
  match (one false).or (one true) with
  | some (host, q) => takeReq host h q 1 d
  | none => d

/-- Item 9: sets become STAGED. A set of another recipe or version than the standby's hank runs cannot be followed. -/
def replayStaging (h : Nat) (b : List Nat) (d : Dev) : Dev :=
  let sets := (List.range (b.length / 16)).map fun i => (b.drop (16 * i)).take 16
  let mine (q : List Nat) : Bool := leVal ((q.drop 8).take 4) == (hankX h d).recipe.getD 0 && leVal ((q.drop 12).take 4) == hankVersion h d
  if sets.all mine then forL sets (fun q => stageSet h (q.headD 0) (setOf q)) (hankMod h (fun x => { x with need := 0 }) d)
  else replayDiverge d

/-- The end of the active unit's cycle stamped `c` has been replayed: the requests that stood in a mailbox at a beat of that cycle have been
taken by the active unit, refused ones too (R266, R270). Each entered the standby's mailbox one Weft cycle after the active unit's. -/
def boxesPast (c : Nat) (d : Dev) : Dev :=
  forL (recsOf 0x0A01 d) (fun r d =>
    let h := r.u P0A01_HANK
    let x := hankX h d
    match (x.beats.filter (· ≤ c)).head? with
    | none => d
    | some b =>
      let keep (q : Nat × HankReq) : Bool := decide (b + weftCycle16 d < now d - 16 * (edge d - q.1))
      hankMod h (fun x => { x with boxH := x.boxH.filter keep, boxS := x.boxS.filter keep, beats := x.beats.filter (c < ·) }) d) d

/-- The output and state words of one ply in an override; what is left of the words. -/
def overridePly (p : Nat) (ws : List Nat) (d : Dev) : List Nat × Dev :=
  let x := d.plies.get {} p
  let n := x.w.a1.length
  let m := x.w.a2.length
  let v := (ws.drop 1).map (toInt 32)
  let w := { x.w with a1 := v.take n, a2 := (v.drop n).take m }
  let d := { d with plies := d.plies.put p { x with w := w, launch := { x.launch with live := false } } }
  (ws.drop (1 + n + m), putStrandsS [(0x05000 + p, toInt 32 (ws.headD 0))] d)

/-- Item 11 (R450): what the active unit published stands in place of the standby's own result of that launch, or the output edge of a
scan waits for the active unit's. -/
def replayOverride (index : Nat) (b : List Nat) (d : Dev) : Dev :=
  if 256 ≤ index then
    if (taskX (index - 256) d).live then taskMod (index - 256) (fun x => { x with outAt := leVal (b.take 8) + weftCycle16 d }) d else d
  else match grpRec index d with
    | none => d
    | some r =>
      let d := { d with grps := d.grps.put index { d.grps.get {} index with decided := true, held := true } }
      ((groupPlies d r).foldl (fun (a : List Nat × Dev) p => overridePly p a.1 a.2) (words 4 b, d)).2

/-- The replay lag shown (R475, R476). -/
def showLag (d : Dev) : Dev :=
  let n := satU 16 ((now d - d.pairx.lastEnd + weftCycle16 d - 1) / max 1 (weftCycle16 d))
  setStrand 0x12 2 n (put PAIR_LAG_CYCLES 0 n d)

/-- Item 10: the end of a cycle (R449, R455). In SHADOW the standby compares OUT_CRC with its own for the same cycle's replay; in
CATCHING_UP a lag of one cycle leads to SHADOW. -/
def replayEnd (stamp : Nat) (b : List Nat) (d : Dev) : Dev :=
  let n := leVal (b.take 8)
  let d := boxesPast stamp (showLag (pairMod (fun x => { x with lastEnd := stamp }) d))
  if pairState d = 4 then
    if now d ≤ stamp + weftCycle16 d then
      let d := setEpoch d.pairx.heard (bumpSat PAIR_LAG_JOINS 0 d)
      roleTo 5 (pairMod (fun x => { x with held := 0 }) d)
    else d
  else if leVal ((b.drop 12).take 4) = outCrc (n + 1) d then d else replayDiverge d

/-- One item takes effect. -/
def replayItem (i : PairItem) (d : Dev) : Dev :=
  let t := i.stamp + weftCycle16 d
  let b := i.body
  let d := xchgBegin t d
  let d := match i.item with
    | 1 => replayFiring i.index i.stamp t d
    | 2 => if 4096 ≤ i.index then replayServo (i.index - 4096) i.stamp t b d else replaySamples i.index i.stamp t b d
    | 3 => replayImage i.index t b d
    | 4 => slotTake (i.index % 256) (i.index / 256) (words 4 b) t d
    | 5 => let q := canOfItem b
           let q := { q with sof := q.sof + weftCycle16 d, valid := q.valid + weftCycle16 d }
           canMod i.index (fun x => { x with q0 := (x.q0 ++ [q]).take 64 }) d
    | 6 => loopMod i.index (fun x => { x with resp := x.resp ++ [(t, b.headD 0, (b.drop 4).take (b.getD 1 0))], fails := 0 }) d
    | 7 => replayHost i.index b d
    | 8 => let k := HankDec.ofBytes b
           hankApply i.index k t (takenBox i.index k d)
    | 9 => replayStaging i.index b d
    | 10 => replayEnd i.stamp b d
    | 11 => replayOverride i.index b d
    | a => pinSide (a - 32) (leVal (b.take 2)) i.index d
  xchgTick t d

/-- The item that is replayed next: in SHADOW one whose stamp lies a cycle back, in CATCHING_UP any of the active unit's; own delayed
actions always wait for their cycle. -/
def nextItem (d : Dev) : Option PairItem :=
  d.pairx.replay.find? fun i => decide (i.stamp + weftCycle16 d ≤ now d) || (pairState d == 4 && decide (i.item < 32))

/-- MIRROR_ITEM_REPLAY (R19, R451). -/
def mirrorItemReplayAt (d : Dev) : Dev :=
  if (pairState d ≠ 4 ∧ pairState d ≠ 5) ∨ !running d then d
  else match nextItem d with
    | none => d
    | some i => replayItem i (pairMod (fun x => { x with replay := x.replay.erase i }) d)

def execMirrorItemReplay (dt : Nat) (s : State) : Host.Outcome State Fault Refusal := onDev dt mirrorItemReplayAt s

end Sys2Proof.Machine
end

