-- ==== Sys2Proof/Machine/HeldSvc.lean ====
section
/-! DEFINITION. Requests that waited while their session's thread was HELD (R97, R325). -/

namespace Sys2Proof.Machine

/-- A request executed as it would have been on arrival. -/
def runHeld (i : Instr) (s : State) : Host.Outcome State Fault Refusal :=
  match i with
  | .imageTransfer _ h offset bytes => execImageTransfer 0 h offset bytes s
  | .imageCommit _ h sc => execImageCommit 0 h sc s
  | .imageAbort _ h => execImageAbort 0 h s
  | .serviceClose _ h => execServiceClose 0 h s
  | .serviceKeepalive _ h => execServiceKeepalive 0 h s
  | .serviceUnknownOpcode _ h opcode => execServiceUnknownOpcode 0 h opcode s
  | .serviceRead _ h addr len => execServiceRead 0 h addr len s
  | .readStrands _ h ids => execReadStrands 0 h ids s
  | .eventRead _ h first limit mx sevMin => execEventRead 0 h first limit mx sevMin s
  | .snapRead _ h capture offset len => execSnapRead 0 h capture offset len s
  | .traceRead _ h buffer first rows => execTraceRead 0 h buffer first rows s
  | .writeHvar _ h varId value => execWriteHvar 0 h varId value s
  | .clearW1c _ h addr mask => execClearW1c 0 h addr mask s
  | .plyStoppedClear _ h ply => execPlyStoppedClear 0 h ply s
  | .taskFaultClear _ h task => execTaskFaultClear 0 h task s
  | .fbFaultyClear _ h iface => execFbFaultyClear 0 h iface s
  | .hankRequest _ h hank req => execHankRequest 0 h hank req s
  | .streamArm _ h stream addr port => execStreamArm 0 h stream addr port s
  | .streamDisarm _ h stream => execStreamDisarm 0 h stream s
  | .traceArm _ h buffer => execTraceArm 0 h buffer s
  | .traceTrigger _ h buffer => execTraceTrigger 0 h buffer s
  | .shuttleHold _ h tasks bkpts => execShuttleHold 0 h tasks bkpts s
  | .shuttleSingleScan _ h tasks => execShuttleSingleScan 0 h tasks s
  | .shuttleResume _ h tasks => execShuttleResume 0 h tasks s
  | .fuseWrite _ h field value => execFuseWrite 0 h field value s
  | .restartCold _ h pins => execRestartCold 0 h pins s
  | .restartWarm _ h pins => execRestartWarm 0 h pins s
  | .orderlyStop _ h => execOrderlyStop 0 h s
  | _ => .next s

/-- The request that session slot `k` holds back is executed. -/
def runSlot (s : State) (k : Nat) : State :=
  match (s.dev.eth.sess.get {} k).held with
  | none => s
  | some i => match runHeld i { s with dev := sessMod k (fun x => { x with held := none }) s.dev } with
    | .next t => t
    | _ => s

/-- SHARE_WINDOW_END (R97): held threads are READY again, and their requests go on. -/
def execShareWindowEnd (dt : Nat) (s : State) : Host.Outcome State Fault Refusal :=
  let d := advance dt s.dev
  let s1 : State := { s with dev := shareWindowEndAt d }
  .next (if s1.dev.creel.window = d.creel.window then s1 else (List.range 16).foldl runSlot s1)

end Sys2Proof.Machine
end

