-- ==== Sys2Proof/Machine/Dispatch.lean ====
section
/-! DEFINITION. The one place where a command meets its meaning. -/

namespace Sys2Proof.Machine

def exec (i : Instr) (s : State) : Host.Outcome State Fault Refusal :=
  match i with
  | .pwrGoodRise dt pins => Sys2Proof.Machine.execPwrGoodRise dt pins s
  | .pwrGoodFall dt => Sys2Proof.Machine.execPwrGoodFall dt s
  | .pfailNFall dt => Sys2Proof.Machine.execPfailNFall dt s
  | .pfailEventFreeze dt => Sys2Proof.Machine.execPfailEventFreeze dt s
  | .powerFailRetainCopy dt => Sys2Proof.Machine.execPowerFailRetainCopy dt s
  | .pfailRestart dt pins => Sys2Proof.Machine.execPfailRestart dt pins s
  | .pfailStep1WaitEnd dt pins => Sys2Proof.Machine.execPfailStep1WaitEnd dt pins s
  | .clockStop dt => Sys2Proof.Machine.execClockStop dt s
  | .supplyFault dt rail => Sys2Proof.Machine.execSupplyFault dt rail s
  | .monitorRestart dt pins => Sys2Proof.Machine.execMonitorRestart dt pins s
  | .tjThreshold dt tj => Sys2Proof.Machine.execTjThreshold dt tj s
  | .debugHalt dt => Sys2Proof.Machine.execDebugHalt dt s
  | .debugHaltEnd dt => Sys2Proof.Machine.execDebugHaltEnd dt s
  | .serviceOpen dt h level keepalive => Sys2Proof.Machine.execServiceOpen dt h level keepalive s
  | .serviceClose dt h => Sys2Proof.Machine.execServiceClose dt h s
  | .serviceKeepalive dt h => Sys2Proof.Machine.execServiceKeepalive dt h s
  | .sessionKeepaliveExpiry dt slot => Sys2Proof.Machine.execSessionKeepaliveExpiry dt slot s
  | .serviceRead dt h addr len => Sys2Proof.Machine.execServiceRead dt h addr len s
  | .readStrands dt h ids => Sys2Proof.Machine.execReadStrands dt h ids s
  | .writeHvar dt h varId value => Sys2Proof.Machine.execWriteHvar dt h varId value s
  | .clearW1c dt h addr mask => Sys2Proof.Machine.execClearW1c dt h addr mask s
  | .plyStoppedClear dt h ply => Sys2Proof.Machine.execPlyStoppedClear dt h ply s
  | .taskFaultClear dt h task => Sys2Proof.Machine.execTaskFaultClear dt h task s
  | .fbFaultyClear dt h iface => Sys2Proof.Machine.execFbFaultyClear dt h iface s
  | .hankRequest dt h hank req => Sys2Proof.Machine.execHankRequest dt h hank req s
  | .streamArm dt h stream addr port => Sys2Proof.Machine.execStreamArm dt h stream addr port s
  | .streamDisarm dt h stream => Sys2Proof.Machine.execStreamDisarm dt h stream s
  | .traceArm dt h buffer => Sys2Proof.Machine.execTraceArm dt h buffer s
  | .traceTrigger dt h buffer => Sys2Proof.Machine.execTraceTrigger dt h buffer s
  | .traceRead dt h buffer first rows => Sys2Proof.Machine.execTraceRead dt h buffer first rows s
  | .shuttleHold dt h tasks bkpts => Sys2Proof.Machine.execShuttleHold dt h tasks bkpts s
  | .shuttleSingleScan dt h tasks => Sys2Proof.Machine.execShuttleSingleScan dt h tasks s
  | .shuttleResume dt h tasks => Sys2Proof.Machine.execShuttleResume dt h tasks s
  | .imageTransfer dt h offset bytes => Sys2Proof.Machine.execImageTransfer dt h offset bytes s
  | .imageCommit dt h sc => Sys2Proof.Machine.execImageCommit dt h sc s
  | .imageAbort dt h => Sys2Proof.Machine.execImageAbort dt h s
  | .restartCold dt h pins => Sys2Proof.Machine.execRestartCold dt h pins s
  | .restartWarm dt h pins => Sys2Proof.Machine.execRestartWarm dt h pins s
  | .orderlyStop dt h => Sys2Proof.Machine.execOrderlyStop dt h s
  | .orderlyStopHoldWaitEnd dt => Sys2Proof.Machine.execOrderlyStopHoldWaitEnd dt s
  | .eventRead dt h first limit max sevMin => Sys2Proof.Machine.execEventRead dt h first limit max sevMin s
  | .snapRead dt h capture offset len => Sys2Proof.Machine.execSnapRead dt h capture offset len s
  | .fuseWrite dt h field value => Sys2Proof.Machine.execFuseWrite dt h field value s
  | .serviceUnknownOpcode dt h opcode => Sys2Proof.Machine.execServiceUnknownOpcode dt h opcode s
  | .exchangeTransferTimeout dt => Sys2Proof.Machine.execExchangeTransferTimeout dt s
  | .exchangeReadbackDone dt pins => Sys2Proof.Machine.execExchangeReadbackDone dt pins s
  | .exchangeStageTimeout dt => Sys2Proof.Machine.execExchangeStageTimeout dt s
  | .pickFire dt pick sd => Sys2Proof.Machine.execPickFire dt pick sd s
  | .measureSamplePeriod dt measure => Sys2Proof.Machine.execMeasureSamplePeriod dt measure s
  | .measureLostTimeout dt measure => Sys2Proof.Machine.execMeasureLostTimeout dt measure s
  | .threadDispatch dt core => Sys2Proof.Machine.execThreadDispatch dt core s
  | .threadWaitCommit dt core effects wait => Sys2Proof.Machine.execThreadWaitCommit dt core effects wait s
  | .tick0Advance dt => Sys2Proof.Machine.execTick0Advance dt s
  | .delayExpiry dt thread => Sys2Proof.Machine.execDelayExpiry dt thread s
  | .sliceExpiry dt core => Sys2Proof.Machine.execSliceExpiry dt core s
  | .maxRunExpiry dt core => Sys2Proof.Machine.execMaxRunExpiry dt core s
  | .serviceShareExhausted dt => Sys2Proof.Machine.execServiceShareExhausted dt s
  | .shareWindowEnd dt => Sys2Proof.Machine.execShareWindowEnd dt s
  | .coreLockstepMismatch dt core => Sys2Proof.Machine.execCoreLockstepMismatch dt core s
  | .plyEvalComplete dt engine residueOk result => Sys2Proof.Machine.execPlyEvalComplete dt engine residueOk result s
  | .plyPublish dt ply => Sys2Proof.Machine.execPlyPublish dt ply s
  | .traceCopyComplete dt buffer => Sys2Proof.Machine.execTraceCopyComplete dt buffer s
  | .engineSelfTest dt engine passed => Sys2Proof.Machine.execEngineSelfTest dt engine passed s
  | .brakeTimeElapsed dt axis => Sys2Proof.Machine.execBrakeTimeElapsed dt axis s
  | .overcurrentTrip dt channel bits => Sys2Proof.Machine.execOvercurrentTrip dt channel bits s
  | .sdStuck dt channel => Sys2Proof.Machine.execSdStuck dt channel s
  | .sdChannelValid dt channel => Sys2Proof.Machine.execSdChannelValid dt channel s
  | .pwmReload dt group => Sys2Proof.Machine.execPwmReload dt group s
  | .pwmCompareMatch dt group => Sys2Proof.Machine.execPwmCompareMatch dt group s
  | .deadTimeExpiry dt pin => Sys2Proof.Machine.execDeadTimeExpiry dt pin s
  | .readbackError dt axis pair => Sys2Proof.Machine.execReadbackError dt axis pair s
  | .shootThrough dt axis pair => Sys2Proof.Machine.execShootThrough dt axis pair s
  | .fbLineEdge dt line level frac => Sys2Proof.Machine.execFbLineEdge dt line level frac s
  | .fbLevelAccept dt line => Sys2Proof.Machine.execFbLevelAccept dt line s
  | .fbZeroTime dt iface => Sys2Proof.Machine.execFbZeroTime dt iface s
  | .fbErrRunReset dt iface => Sys2Proof.Machine.execFbErrRunReset dt iface s
  | .fbAlarmTimeout dt iface => Sys2Proof.Machine.execFbAlarmTimeout dt iface s
  | .ssiReadComplete dt iface bits => Sys2Proof.Machine.execSsiReadComplete dt iface bits s
  | .gpioEdge dt pin level frac => Sys2Proof.Machine.execGpioEdge dt pin level frac s
  | .watchdogExpiry dt task => Sys2Proof.Machine.execWatchdogExpiry dt task s
  | .iNop task rd ra x imm => Sys2Proof.Machine.execINop task rd ra x imm s
  | .iLd task rd ra x imm => Sys2Proof.Machine.execILd task rd ra x imm s
  | .iLdt task rd ra x imm => Sys2Proof.Machine.execILdt task rd ra x imm s
  | .iSt task rd ra x imm => Sys2Proof.Machine.execISt task rd ra x imm s
  | .iStt task rd ra x imm => Sys2Proof.Machine.execIStt task rd ra x imm s
  | .iLdi task rd ra x imm => Sys2Proof.Machine.execILdi task rd ra x imm s
  | .iMov task rd ra rb sub => Sys2Proof.Machine.execIMov task rd ra rb sub s
  | .iMovt task rd ra rb sub => Sys2Proof.Machine.execIMovt task rd ra rb sub s
  | .iAdd task rd ra rb sub => Sys2Proof.Machine.execIAdd task rd ra rb sub s
  | .iSub task rd ra rb sub => Sys2Proof.Machine.execISub task rd ra rb sub s
  | .iMul task rd ra rb sub => Sys2Proof.Machine.execIMul task rd ra rb sub s
  | .iDiv task rd ra rb sub => Sys2Proof.Machine.execIDiv task rd ra rb sub s
  | .iMod task rd ra rb sub => Sys2Proof.Machine.execIMod task rd ra rb sub s
  | .iAddi task rd ra x imm => Sys2Proof.Machine.execIAddi task rd ra x imm s
  | .iNeg task rd ra rb sub => Sys2Proof.Machine.execINeg task rd ra rb sub s
  | .iAbs task rd ra rb sub => Sys2Proof.Machine.execIAbs task rd ra rb sub s
  | .iAnd task rd ra rb sub => Sys2Proof.Machine.execIAnd task rd ra rb sub s
  | .iOr task rd ra rb sub => Sys2Proof.Machine.execIOr task rd ra rb sub s
  | .iXor task rd ra rb sub => Sys2Proof.Machine.execIXor task rd ra rb sub s
  | .iNot task rd ra rb sub => Sys2Proof.Machine.execINot task rd ra rb sub s
  | .iShl task rd ra rb sub => Sys2Proof.Machine.execIShl task rd ra rb sub s
  | .iShr task rd ra rb sub => Sys2Proof.Machine.execIShr task rd ra rb sub s
  | .iBnot task rd ra rb sub => Sys2Proof.Machine.execIBnot task rd ra rb sub s
  | .iTobool task rd ra rb sub => Sys2Proof.Machine.execITobool task rd ra rb sub s
  | .iCmp task rd ra rb sub => Sys2Proof.Machine.execICmp task rd ra rb sub s
  | .iCmpt task rd ra rb sub => Sys2Proof.Machine.execICmpt task rd ra rb sub s
  | .iCmpf task rd ra rb sub => Sys2Proof.Machine.execICmpf task rd ra rb sub s
  | .iSel task rd ra rb sub => Sys2Proof.Machine.execISel task rd ra rb sub s
  | .iMin task rd ra rb sub => Sys2Proof.Machine.execIMin task rd ra rb sub s
  | .iMax task rd ra rb sub => Sys2Proof.Machine.execIMax task rd ra rb sub s
  | .iLimit task rd ra rb sub => Sys2Proof.Machine.execILimit task rd ra rb sub s
  | .iSat16 task rd ra rb sub => Sys2Proof.Machine.execISat16 task rd ra rb sub s
  | .iFadd task rd ra rb sub => Sys2Proof.Machine.execIFadd task rd ra rb sub s
  | .iFsub task rd ra rb sub => Sys2Proof.Machine.execIFsub task rd ra rb sub s
  | .iFmul task rd ra rb sub => Sys2Proof.Machine.execIFmul task rd ra rb sub s
  | .iFdiv task rd ra rb sub => Sys2Proof.Machine.execIFdiv task rd ra rb sub s
  | .iFsqrt task rd ra rb sub => Sys2Proof.Machine.execIFsqrt task rd ra rb sub s
  | .iFneg task rd ra rb sub => Sys2Proof.Machine.execIFneg task rd ra rb sub s
  | .iItof task rd ra rb sub => Sys2Proof.Machine.execIItof task rd ra rb sub s
  | .iFtoi task rd ra rb sub => Sys2Proof.Machine.execIFtoi task rd ra rb sub s
  | .iQtof task rd ra rb sub => Sys2Proof.Machine.execIQtof task rd ra rb sub s
  | .iFtoq task rd ra rb sub => Sys2Proof.Machine.execIFtoq task rd ra rb sub s
  | .iAddt task rd ra rb sub => Sys2Proof.Machine.execIAddt task rd ra rb sub s
  | .iSubt task rd ra rb sub => Sys2Proof.Machine.execISubt task rd ra rb sub s
  | .iItot task rd ra rb sub => Sys2Proof.Machine.execIItot task rd ra rb sub s
  | .iTtoi task rd ra rb sub => Sys2Proof.Machine.execITtoi task rd ra rb sub s
  | .iBr task cond ra offset => Sys2Proof.Machine.execIBr task cond ra offset s
  | .iCall task cond ra offset => Sys2Proof.Machine.execICall task cond ra offset s
  | .iRet task rd ra x imm => Sys2Proof.Machine.execIRet task rd ra x imm s
  | .iEnd task rd ra x imm => Sys2Proof.Machine.execIEnd task rd ra x imm s
  | .iPost task rd ra x imm => Sys2Proof.Machine.execIPost task rd ra x imm s
  | .iTon task rd ra rb inst => Sys2Proof.Machine.execITon task rd ra rb inst s
  | .iTof task rd ra rb inst => Sys2Proof.Machine.execITof task rd ra rb inst s
  | .iTp task rd ra rb inst => Sys2Proof.Machine.execITp task rd ra rb inst s
  | .iCtu task rd ra rb inst => Sys2Proof.Machine.execICtu task rd ra rb inst s
  | .iCtd task rd ra rb inst => Sys2Proof.Machine.execICtd task rd ra rb inst s
  | .iCtud task rd ra rb inst => Sys2Proof.Machine.execICtud task rd ra rb inst s
  | .iRtrig task rd ra rb inst => Sys2Proof.Machine.execIRtrig task rd ra rb inst s
  | .iFtrig task rd ra rb inst => Sys2Proof.Machine.execIFtrig task rd ra rb inst s
  | .illegalOpcode task word => Sys2Proof.Machine.execIllegalOpcode task word s
  | .weftFrameRx dt channel frame => Sys2Proof.Machine.execWeftFrameRx dt channel frame s
  | .weftFrameTx dt slot => Sys2Proof.Machine.execWeftFrameTx dt slot s
  | .weftAssemblyClose dt slot => Sys2Proof.Machine.execWeftAssemblyClose dt slot s
  | .weftDelivery dt slot => Sys2Proof.Machine.execWeftDelivery dt slot s
  | .weftCycleEnd dt => Sys2Proof.Machine.execWeftCycleEnd dt s
  | .listenTimeout dt => Sys2Proof.Machine.execListenTimeout dt s
  | .coldstartEchoDeadline dt => Sys2Proof.Machine.execColdstartEchoDeadline dt s
  | .syncLostRelisten dt => Sys2Proof.Machine.execSyncLostRelisten dt s
  | .reintTimeout dt => Sys2Proof.Machine.execReintTimeout dt s
  | .heddleMark dt slot cold => Sys2Proof.Machine.execHeddleMark dt slot cold s
  | .heddleMarkMissing dt => Sys2Proof.Machine.execHeddleMarkMissing dt s
  | .heddleSpanEnd dt running => Sys2Proof.Machine.execHeddleSpanEnd dt running s
  | .gdclkLost dt => Sys2Proof.Machine.execGdclkLost dt s
  | .gdclkReturn dt => Sys2Proof.Machine.execGdclkReturn dt s
  | .ethFrameRx dt port frame => Sys2Proof.Machine.execEthFrameRx dt port frame s
  | .ethFrameTx dt port => Sys2Proof.Machine.execEthFrameTx dt port s
  | .arpRequest dt port frame => Sys2Proof.Machine.execArpRequest dt port frame s
  | .icmpEchoRequest dt port frame => Sys2Proof.Machine.execIcmpEchoRequest dt port frame s
  | .ptpSync dt port msg => Sys2Proof.Machine.execPtpSync dt port msg s
  | .ptpFollowUp dt port msg => Sys2Proof.Machine.execPtpFollowUp dt port msg s
  | .ptpDelayReq dt port msg => Sys2Proof.Machine.execPtpDelayReq dt port msg s
  | .ptpDelayResp dt port msg => Sys2Proof.Machine.execPtpDelayResp dt port msg s
  | .ptpPdelayReq dt port msg => Sys2Proof.Machine.execPtpPdelayReq dt port msg s
  | .ptpPdelayResp dt port msg => Sys2Proof.Machine.execPtpPdelayResp dt port msg s
  | .ptpPdelayRespFollowUp dt port msg => Sys2Proof.Machine.execPtpPdelayRespFollowUp dt port msg s
  | .ptpAnnounce dt port msg => Sys2Proof.Machine.execPtpAnnounce dt port msg s
  | .ptpMgmtSignaling dt port msg => Sys2Proof.Machine.execPtpMgmtSignaling dt port msg s
  | .ptpSyncTimeout dt => Sys2Proof.Machine.execPtpSyncTimeout dt s
  | .ptpAnnounceTimeout dt => Sys2Proof.Machine.execPtpAnnounceTimeout dt s
  | .ptpTxInterval dt kind => Sys2Proof.Machine.execPtpTxInterval dt kind s
  | .ethRxAged dt => Sys2Proof.Machine.execEthRxAged dt s
  | .ethLinkChange dt port up => Sys2Proof.Machine.execEthLinkChange dt port up s
  | .streamPacketClose dt stream => Sys2Proof.Machine.execStreamPacketClose dt stream s
  | .canFrameRx dt ctrl frame => Sys2Proof.Machine.execCanFrameRx dt ctrl frame s
  | .canDelivery dt ctrl => Sys2Proof.Machine.execCanDelivery dt ctrl s
  | .canPairTimeout dt ctrl pair => Sys2Proof.Machine.execCanPairTimeout dt ctrl pair s
  | .canTxComplete dt ctrl buffer began tdc => Sys2Proof.Machine.execCanTxComplete dt ctrl buffer began tdc s
  | .canTxError dt ctrl buffer kind began tdc => Sys2Proof.Machine.execCanTxError dt ctrl buffer kind began tdc s
  | .canBusError dt ctrl kind => Sys2Proof.Machine.execCanBusError dt ctrl kind s
  | .canIntegrationDone dt ctrl => Sys2Proof.Machine.execCanIntegrationDone dt ctrl s
  | .canBusoffHoldExpiry dt ctrl => Sys2Proof.Machine.execCanBusoffHoldExpiry dt ctrl s
  | .canRecoveryDone dt ctrl => Sys2Proof.Machine.execCanRecoveryDone dt ctrl s
  | .lpConversion dt port value => Sys2Proof.Machine.execLpConversion dt port value s
  | .lpHeadroomSet dt port => Sys2Proof.Machine.execLpHeadroomSet dt port s
  | .lpHeadroomClear dt port => Sys2Proof.Machine.execLpHeadroomClear dt port s
  | .hartPollDue dt port entry => Sys2Proof.Machine.execHartPollDue dt port entry s
  | .hartRequestSent dt port => Sys2Proof.Machine.execHartRequestSent dt port s
  | .hartResponseRx dt port bytes parityOk => Sys2Proof.Machine.execHartResponseRx dt port bytes parityOk s
  | .hartResponseTimeout dt port => Sys2Proof.Machine.execHartResponseTimeout dt port s
  | .hartSilenceEnd dt port => Sys2Proof.Machine.execHartSilenceEnd dt port s
  | .hartDelivery dt port => Sys2Proof.Machine.execHartDelivery dt port s
  | .storeProbeComplete dt result => Sys2Proof.Machine.execStoreProbeComplete dt result s
  | .storeMountComplete dt result => Sys2Proof.Machine.execStoreMountComplete dt result s
  | .nandReadComplete dt op result => Sys2Proof.Machine.execNandReadComplete dt op result s
  | .nandProgramComplete dt op ok => Sys2Proof.Machine.execNandProgramComplete dt op ok s
  | .nandEraseComplete dt op ok => Sys2Proof.Machine.execNandEraseComplete dt op ok s
  | .nandFeaturesComplete dt op ok => Sys2Proof.Machine.execNandFeaturesComplete dt op ok s
  | .nandResetComplete dt die => Sys2Proof.Machine.execNandResetComplete dt die s
  | .nandBusyTimeout dt die => Sys2Proof.Machine.execNandBusyTimeout dt die s
  | .zqCalibration dt => Sys2Proof.Machine.execZqCalibration dt s
  | .directoryJournal dt => Sys2Proof.Machine.execDirectoryJournal dt s
  | .directoryCheckpoint dt => Sys2Proof.Machine.execDirectoryCheckpoint dt s
  | .scrubPass dt aged => Sys2Proof.Machine.execScrubPass dt aged s
  | .dieRetirementComplete dt die => Sys2Proof.Machine.execDieRetirementComplete dt die s
  | .eventFlushTimer dt => Sys2Proof.Machine.execEventFlushTimer dt s
  | .safetyInputEdge dt input channel level => Sys2Proof.Machine.execSafetyInputEdge dt input channel level s
  | .safetyInputAccept dt input channel proc => Sys2Proof.Machine.execSafetyInputAccept dt input channel proc s
  | .discTimeExpiry dt input proc => Sys2Proof.Machine.execDiscTimeExpiry dt input proc s
  | .safetyMatrixEval dt mismatch => Sys2Proof.Machine.execSafetyMatrixEval dt mismatch s
  | .safetyTimerExpiry dt timer => Sys2Proof.Machine.execSafetyTimerExpiry dt timer s
  | .testPulseStart dt pulse => Sys2Proof.Machine.execTestPulseStart dt pulse s
  | .testPulseEnd dt pulse levels ball => Sys2Proof.Machine.execTestPulseEnd dt pulse levels ball s
  | .tpBlankingEnd dt pulse levels => Sys2Proof.Machine.execTpBlankingEnd dt pulse levels s
  | .procCommitTimeout dt => Sys2Proof.Machine.execProcCommitTimeout dt s
  | .switchPTimeout dt => Sys2Proof.Machine.execSwitchPTimeout dt s
  | .crossCompareTimeout dt output => Sys2Proof.Machine.execCrossCompareTimeout dt output s
  | .requestCrossing dt => Sys2Proof.Machine.execRequestCrossing dt s
  | .requestTimeout dt output => Sys2Proof.Machine.execRequestTimeout dt output s
  | .readbackSettle dt output => Sys2Proof.Machine.execReadbackSettle dt output s
  | .srbEdge dt output level => Sys2Proof.Machine.execSrbEdge dt output level s
  | .offPulseStart dt output => Sys2Proof.Machine.execOffPulseStart dt output s
  | .offPulseEnd dt output low high => Sys2Proof.Machine.execOffPulseEnd dt output low high s
  | .sresetPressStart dt => Sys2Proof.Machine.execSresetPressStart dt s
  | .sresetPressEnd dt seenByBoth pins => Sys2Proof.Machine.execSresetPressEnd dt seenByBoth pins s
  | .safetyDomainFault dt internal => Sys2Proof.Machine.execSafetyDomainFault dt internal s
  | .pairItemsRx dt seq items => Sys2Proof.Machine.execPairItemsRx dt seq items s
  | .pairStateRx dt seq part => Sys2Proof.Machine.execPairStateRx dt seq part s
  | .pairImageRx dt seq offset bytes => Sys2Proof.Machine.execPairImageRx dt seq offset bytes s
  | .pairAckRx dt seq => Sys2Proof.Machine.execPairAckRx dt seq s
  | .pairRoleControlRx dt seq msg => Sys2Proof.Machine.execPairRoleControlRx dt seq msg s
  | .mirrorItemReplay dt => Sys2Proof.Machine.execMirrorItemReplay dt s
  | .pairLinkRetransmit dt seq => Sys2Proof.Machine.execPairLinkRetransmit dt seq s
  | .pairLinkDown dt => Sys2Proof.Machine.execPairLinkDown dt s
  | .peerActiveFall dt => Sys2Proof.Machine.execPeerActiveFall dt s
  | .negotiationEnd dt => Sys2Proof.Machine.execNegotiationEnd dt s
  | .joinTimeout dt => Sys2Proof.Machine.execJoinTimeout dt s
  | .joinRetry dt => Sys2Proof.Machine.execJoinRetry dt s
  | .takeoverBoundary dt => Sys2Proof.Machine.execTakeoverBoundary dt s
  | .holdLimitExpiry dt => Sys2Proof.Machine.execHoldLimitExpiry dt s
  | .deposedRestart dt pins => Sys2Proof.Machine.execDeposedRestart dt pins s
  | .migrationBarrier dt => Sys2Proof.Machine.execMigrationBarrier dt s
  | .sramEccCorrectable dt ram row => Sys2Proof.Machine.execSramEccCorrectable dt ram row s
  | .sramEccUncorrectable dt ram region => Sys2Proof.Machine.execSramEccUncorrectable dt ram region s
  | .sramRowCopyComplete dt => Sys2Proof.Machine.execSramRowCopyComplete dt s
  | .bistSlice dt kind index passed => Sys2Proof.Machine.execBistSlice dt kind index passed s
  | .ageCheck dt domain margin worst slower => Sys2Proof.Machine.execAgeCheck dt domain margin worst slower s
  | .shuttleResidueFailure dt engine => Sys2Proof.Machine.execShuttleResidueFailure dt engine s
  | .registerWrite dt addr value => Sys2Proof.Machine.execRegisterWrite dt addr value s
  | .sdInputToggle dt channel => Sys2Proof.Machine.execSdInputToggle dt channel s
  | .f4Restart dt pins => Sys2Proof.Machine.execF4Restart dt pins s
  | .addressTableAgeOut dt mac => Sys2Proof.Machine.execAddressTableAgeOut dt mac s

end Sys2Proof.Machine
end

