-- ==== Sys2Proof/Machine/Balls.lean ====
section
/-! DEFINITION. The ball grid (R491 to R493), the claim indices of ball functions (R494) and the state that each group of balls takes
before RUN and after a clock stop or supply fault (R496). No command reads the grid: it says where each signal of the other files lies. -/

namespace Sys2Proof.Machine

/-- Row names in order (R491): I, O, Q, S, X and Z are not used. -/
def rowNames : List String :=
  ["A", "B", "C", "D", "E", "F", "G", "H", "J", "K", "L", "M", "N", "P", "R", "T", "U", "V", "W", "Y"] ++
  ["AA", "AB", "AC", "AD", "AE", "AF", "AG", "AH", "AJ", "AK", "AL", "AM", "AN", "AP"]

/-- The row index r of a row's name, 1 to 34. -/
def rowOf (name : String) : Option Nat := (rowNames.findIdx? (· == name)).map (· + 1)

/-- The regions of R492. -/
inductive BallRegion where
  | core
  | nand (n : Nat)
  | nandCommon
  | bridge
  | sigmaDelta
  | feedback
  | auxGpio
  | serdes
  | system
  | field
  | safety
  deriving DecidableEq, Repr

/-- What a ball is: the supply of rail r (R498), ground, or signal `j` of its region's list, from 0. -/
inductive Ball where
  | supply (rail : Nat)
  | vss
  | vssSafe
  | signal (region : BallRegion) (j : Nat)
  deriving DecidableEq, Repr

/-- The region of row `r` and column `c`. -/
def regionAt (r c : Nat) : Option BallRegion :=
  if r = 0 ∨ 34 < r ∨ c = 0 ∨ 34 < c then none
  else if r ≤ 10 then some (if c ≤ 32 then .nand ((c - 1) / 4) else .nandCommon)
  else if 25 ≤ r then some (if c ≤ 11 then .bridge else if c ≤ 17 then .sigmaDelta else if c ≤ 26 then .feedback else .auxGpio)
  else if 11 ≤ c ∧ c ≤ 24 then some .core
  else if r ≤ 16 then some (if c ≤ 10 then .serdes else .field)
  else some (if c ≤ 10 then .system else .safety)

/-- A region's place and content outside the core: first and last row and column, supply balls by rail, its ground and the number of
its ground balls (R492; the Safety region's ground is VSS_SAFE). -/
structure RegionRow where
  rows : Nat × Nat
  cols : Nat × Nat
  supply : List (Nat × Nat)
  ground : Ball
  grounds : Nat
  deriving DecidableEq, Repr

/-- The table of R492. -/
def regionRow : BallRegion → Option RegionRow
  | .core => none
  | .nand n => some ⟨(1, 10), (4 * n + 1, 4 * n + 4), [(6, 5)], .vss, 11⟩
  | .nandCommon => some ⟨(1, 10), (33, 34), [], .vss, 19⟩
  | .bridge => some ⟨(25, 34), (1, 11), [(7, 4)], .vss, 10⟩
  | .sigmaDelta => some ⟨(25, 34), (12, 17), [(7, 2)], .vss, 4⟩
  | .feedback => some ⟨(25, 34), (18, 26), [(7, 4)], .vss, 14⟩
  | .auxGpio => some ⟨(25, 34), (27, 34), [(7, 8)], .vss, 8⟩
  | .serdes => some ⟨(11, 16), (1, 10), [(2, 12), (3, 6)], .vss, 26⟩
  | .system => some ⟨(17, 24), (1, 10), [(4, 10), (5, 2)], .vss, 34⟩
  | .field => some ⟨(11, 16), (25, 34), [(7, 6)], .vss, 14⟩
  | .safety => some ⟨(17, 24), (25, 34), [(8, 4)], .vssSafe, 7⟩

/-- A ball's place in its region's order (R493): from the side nearest the package centre outward, row by row in the upper and lower rows
and column by column at the sides. -/
def regionPlace (q : RegionRow) (r c : Nat) : Nat :=
  let (r0, r1) := q.rows
  let (c0, c1) := q.cols
  if r1 ≤ 10 then (10 - r) * (c1 - c0 + 1) + (c - c0)
  else if 25 ≤ r0 then (r - 25) * (c1 - c0 + 1) + (c - c0)
  else if c1 ≤ 10 then (10 - c) * (r1 - r0 + 1) + (r - r0)
  else (c - 25) * (r1 - r0 + 1) + (r - r0)

/-- The first balls of a region's order are its supply balls in the listed order, then its ground balls, then its signals (R493). -/
def fillAt (g : BallRegion) (q : RegionRow) : List (Nat × Nat) → Nat → Ball
  | [], k => if k < q.grounds then q.ground else .signal g (k - q.grounds)
  | (rail, n) :: rest, k => if k < n then .supply rail else fillAt g q rest (k - n)

/-- The ball at row `r` and column `c` (R491 to R493). -/
def ballAt (r c : Nat) : Option Ball :=
  (regionAt r c).map fun g =>
    match regionRow g with
    | none => if (r + c) % 2 = 1 then .vss else if r ≤ 14 then .supply 1 else .supply 0
    | some q => fillAt g q q.supply (regionPlace q r c)

/-- The index by which a CLASS 0x01 claim names a ball's function (R494); a ball without one cannot be claimed. -/
def claimIndexOf : Ball → Option Nat
  | .signal (.bridge) j => some j
  | .signal (.auxGpio) j => some (if j < 32 then 96 + j else 254 + (j - 32))
  | .signal (.sigmaDelta) j => some (128 + j)
  | .signal (.feedback) j => some (182 + j)
  | .signal (.field) j => some (286 + j)
  | .signal (.system) j => if j < 6 then some (326 + j) else if j = 19 ∨ j = 20 then some (521 + j) else none
  | .signal (.serdes) j => some (if j < 12 then 332 + j else 524 + j)
  | .signal (.nand n) j => some (344 + 24 * n + j)
  | _ => none

/-- The groups of balls of R496. -/
inductive BallGroup where
  | bridge
  | auxGpioOut
  | mclk
  | inputs
  | ssiClock
  | canTx
  | loopGate
  | weftTx
  | selects
  | memResets
  | lanes
  | activeN
  | safety
  deriving DecidableEq, Repr

/-- What a group's balls show: a state of R496, an input, or what the rules of their block set. -/
inductive Pad where
  | highZ
  | pullDown
  | low
  | high
  | gateOff
  | inactive
  | held
  | idle
  | released
  | input
  | block
  deriving DecidableEq, Repr

/-- The reset column of R496, from power-up until RUN. -/
def resetPad : BallGroup → Pad
  | .bridge => .pullDown
  | .auxGpioOut => .pullDown
  | .mclk => .low
  | .inputs => .input
  | .ssiClock => .highZ
  | .canTx => .high
  | .loopGate => .gateOff
  | .weftTx => .low
  | .selects => .high
  | .memResets => .low
  | .lanes => .idle
  | .activeN => .released
  | .safety => .low

/-- The last column of R496: a clock stop or supply fault. -/
def stoppedPad : BallGroup → Pad
  | .bridge => .inactive
  | .auxGpioOut => .held
  | .mclk => .low
  | .inputs => .input
  | .ssiClock => .highZ
  | .canTx => .high
  | .loopGate => .gateOff
  | .weftTx => .low
  | .selects => .high
  | .memResets => .low
  | .lanes => .idle
  | .activeN => .released
  | .safety => .block

/-- The blocks that a start, LOAD_FAIL or the programming mode uses before RUN: the flash, the array, the Weft, Ethernet and the pair link
(R40, R44, R45). -/
def usedBeforeRun : BallGroup → Bool
  | .weftTx => true
  | .selects => true
  | .memResets => true
  | .lanes => true
  | _ => false

/-- The state of a group of balls (R45, R496). In RUN, a debug halt included, the block's own rules set it: the bridge pins by R183, the
auxiliary outputs by R192, the gate by R351. The safety domain has a reset of its own (R421). -/
def ballPad (g : BallGroup) (d : Dev) : Pad :=
  if g = .inputs then .input
  else match d.unit.phase with
    | .run => .block
    | .monitorReset => stoppedPad g
    | .reset => resetPad g
    | .test => resetPad g
    | _ => if usedBeforeRun g then .block else resetPad g

end Sys2Proof.Machine
end

