-- ==== Sys2Proof/WellFormed.lean ====
section
/-! DEFINITION. Which commands are well formed: every operand inside the width or the count that the spec gives it. A
well-formed request may still be answered with an error by its meaning (R327). -/

namespace Sys2Proof

/-- A number that fits in `w` bits. -/
def fits (w n : Nat) : Bool := decide (n < 2 ^ w)

/-- An integer that fits in `w` bits of two's complement. -/
def inS (w : Nat) (i : Int) : Bool := decide (minS w ≤ i) && decide (i ≤ maxS w)

/-- Bytes. -/
def octets (bs : List Nat) : Bool := bs.all (fits 8)

/-- 32 general I/O balls and 72 feedback lines (R508, R209). -/
def StartPins.wf (p : StartPins) : Bool := fits 32 p.gpio && fits 72 p.lines

/-- The header's widths (R323). -/
def SvcHdr.wf (h : SvcHdr) : Bool := fits 32 h.addr && fits 16 h.port && fits 16 h.session && fits 32 h.seq

/-- The fields of R265. -/
def HankReq.wf (q : HankReq) : Bool := fits 16 q.seq && fits 8 q.code && fits 16 q.recipe && fits 16 q.step && fits 32 q.tag

/-- An item of R453. -/
def PairItem.wf (i : PairItem) : Bool := fits 64 i.stamp && fits 8 i.item && fits 16 i.index && octets i.body

/-- A pick of R66, a thread of R86 and the kinds of R466. -/
def Effect.wf : Effect → Bool
  | .hvar varId value => fits 32 varId && fits 64 value
  | .request hank req => decide (hank < 32) && req.wf
  | .item i => i.wf
  | .retarget pick _ target => decide (pick < 1024) && fits 64 target
  | .signal thread => decide (thread < 256)
  | .doff kind index => decide (kind < 3) && decide (index < 9)
  | .stage => true

/-- Tick 0 or tick 1 (R95). -/
def Wait.wf : Wait → Bool
  | .wake => true
  | .delay tick ticks => decide (tick < 2) && fits 32 ticks

/-- The widths of R283. -/
def WeftFrame.wf (f : WeftFrame) : Bool :=
  decide (f.typ < 4) && decide (f.source < 64) && fits 16 f.slot && decide (f.flags < 4) && fits 16 f.epoch && fits 16 f.cycle &&
    fits 64 f.stamp && f.words.all (fits 32) && decide (f.words.length ≤ 60)

/-- Addresses of 48 bits, a tag's control field plus one, and bytes (R312). -/
def EthFrame.wf (f : EthFrame) : Bool :=
  fits 48 f.dst && fits 48 f.src && decide (f.tag ≤ 65536) && fits 16 f.etherType && octets f.bytes

/-- The widths of a PTP header (R317). -/
def PtpMsg.wf (m : PtpMsg) : Bool :=
  fits 64 m.identity && fits 16 m.portNum && fits 16 m.seq && inS 64 m.correction && fits 8 m.domain && inS 8 m.interval &&
    fits 64 m.reqIdentity && fits 16 m.reqPort && octets m.data

/-- An identifier of 11 or 29 bits, a DLC and up to 64 bytes (R341). -/
def CanFrame.wf (f : CanFrame) : Bool :=
  fits (if f.ext then 29 else 11) f.ident && decide (f.dlc < 16) && octets f.data && decide (f.data.length ≤ 64) && !(f.fd && f.rtr)

/-- 32 dies (R367). -/
def ProbeResult.wf (p : ProbeResult) : Bool := fits 32 p.present && fits 16 p.blocks && fits 16 p.pages

/-- Marked blocks by die. -/
def MountResult.wf (m : MountResult) : Bool := m.marked.all fun b => decide (b < 32 * 65536)

/-- A die, and a block and page of it. -/
def NandOp.wf (o : NandOp) : Bool := decide (o.die < 32) && fits 16 o.block && fits 16 o.page && decide (o.skein < 8)

/-- Safety inputs 0 to 23 with two channels each (R444). -/
def TpLevel.wf (l : TpLevel) : Bool := decide (l.input < 24) && decide (l.channel < 2)

/-- The reports of R455 and R51. -/
def RoleMsg.wf : RoleMsg → Bool
  | .joinRequest sequence => fits 32 sequence
  | .roleReport state epoch => fits 8 state && fits 32 epoch
  | .staged => true
  | .failed cause => fits 16 cause

/-- A well-formed command. -/
def Instr.wf : Instr → Bool
  | .pwrGoodRise _ pins => pins.wf
  | .pwrGoodFall _ => true
  | .pfailNFall _ => true
  | .pfailEventFreeze _ => true
  | .powerFailRetainCopy _ => true
  | .pfailRestart _ pins => pins.wf
  | .pfailStep1WaitEnd _ pins => pins.wf
  | .clockStop _ => true
  | .supplyFault _ rail => decide (rail < 9)
  | .monitorRestart _ pins => pins.wf
  | .tjThreshold _ tj => inS 16 tj
  | .debugHalt _ => true
  | .debugHaltEnd _ => true
  | .serviceOpen _ h level keepalive => h.wf && fits 8 level && fits 32 keepalive
  | .serviceClose _ h => h.wf
  | .serviceKeepalive _ h => h.wf
  | .sessionKeepaliveExpiry _ slot => decide (slot < 16)
  | .serviceRead _ h addr len => h.wf && fits 32 addr && fits 16 len
  | .readStrands _ h ids => h.wf && ids.all (fits 32) && decide (ids.length ≤ 255)
  | .writeHvar _ h varId value => h.wf && fits 32 varId && fits 64 value
  | .clearW1c _ h addr mask => h.wf && fits 32 addr && fits 32 mask
  | .plyStoppedClear _ h ply => h.wf && fits 16 ply
  | .taskFaultClear _ h task => h.wf && fits 16 task
  | .fbFaultyClear _ h iface => h.wf && fits 16 iface
  | .hankRequest _ h hank req => h.wf && fits 8 hank && req.wf
  | .streamArm _ h stream addr port => h.wf && fits 8 stream && fits 32 addr && fits 16 port
  | .streamDisarm _ h stream => h.wf && fits 8 stream
  | .traceArm _ h buffer => h.wf && fits 8 buffer
  | .traceTrigger _ h buffer => h.wf && fits 8 buffer
  | .traceRead _ h buffer first rows => h.wf && fits 8 buffer && fits 32 first && fits 16 rows
  | .shuttleHold _ h tasks bkpts => h.wf && fits 8 tasks && bkpts.all (fits 16) && decide (bkpts.length ≤ 255)
  | .shuttleSingleScan _ h tasks => h.wf && fits 8 tasks
  | .shuttleResume _ h tasks => h.wf && fits 8 tasks
  | .imageTransfer _ h offset bytes => h.wf && fits 32 offset && octets bytes
  | .imageCommit _ h sc => h.wf && fits 64 sc
  | .imageAbort _ h => h.wf
  | .restartCold _ h pins => h.wf && pins.wf
  | .restartWarm _ h pins => h.wf && pins.wf
  | .orderlyStop _ h => h.wf
  | .orderlyStopHoldWaitEnd _ => true
  | .eventRead _ h first limit max sevMin => h.wf && fits 64 first && fits 64 limit && fits 16 max && fits 8 sevMin
  | .snapRead _ h capture offset len => h.wf && fits 32 capture && fits 32 offset && fits 16 len
  | .fuseWrite _ h field value => h.wf && fits 8 field && fits 256 value
  | .serviceUnknownOpcode _ h opcode => h.wf && fits 16 opcode
  | .exchangeTransferTimeout _ => true
  | .exchangeReadbackDone _ pins => pins.wf
  | .exchangeStageTimeout _ => true
  | .pickFire _ pick sd => decide (pick < 1024) && sd.all fun c => decide (c.1 < 48)
  | .measureSamplePeriod _ measure => decide (measure < 16)
  | .measureLostTimeout _ measure => decide (measure < 16)
  | .threadDispatch _ core => decide (core < 4)
  | .threadWaitCommit _ core effects wait => decide (core < 4) && effects.all Effect.wf && wait.wf
  | .tick0Advance _ => true
  | .delayExpiry _ thread => decide (thread < 256)
  | .sliceExpiry _ core => decide (core < 4)
  | .maxRunExpiry _ core => decide (core < 4)
  | .serviceShareExhausted _ => true
  | .shareWindowEnd _ => true
  | .coreLockstepMismatch _ core => decide (core < 4)
  | .plyEvalComplete _ engine _ result => decide (engine < 8) && fits 1312 result.flip && fits 16 result.epoch
  | .plyPublish _ ply => decide (ply < 1024)
  | .traceCopyComplete _ buffer => decide (buffer < 16)
  | .engineSelfTest _ engine _ => decide (engine < 8)
  | .brakeTimeElapsed _ axis => decide (axis < 64)
  | .overcurrentTrip _ channel _ => decide (channel < 48)
  | .sdStuck _ channel => decide (channel < 48)
  | .sdChannelValid _ channel => decide (channel < 48)
  | .pwmReload _ group => decide (group < 8)
  | .pwmCompareMatch _ group => decide (group < 8)
  | .deadTimeExpiry _ pin => decide (pin < 96)
  | .readbackError _ axis pair => decide (axis < 16) && decide (pair < 48)
  | .shootThrough _ axis pair => decide (axis < 16) && decide (pair < 48)
  | .fbLineEdge _ line _ frac => decide (line < 72) && decide (frac < 16)
  | .fbLevelAccept _ line => decide (line < 72)
  | .fbZeroTime _ iface => decide (iface < 24)
  | .fbErrRunReset _ iface => decide (iface < 24)
  | .fbAlarmTimeout _ iface => decide (iface < 24)
  | .ssiReadComplete _ iface _ => decide (iface < 24)
  | .gpioEdge _ pin _ frac => decide (pin < 32) && decide (frac < 16)
  | .watchdogExpiry _ task => decide (task < 8)
  | .iNop task rd ra x imm => decide (task < 8) && decide (rd < 16) && decide (ra < 16) && decide (x < 4) && fits 16 imm
  | .iLd task rd ra x imm => decide (task < 8) && decide (rd < 16) && decide (ra < 16) && decide (x < 4) && fits 16 imm
  | .iLdt task rd ra x imm => decide (task < 8) && decide (rd < 16) && decide (ra < 16) && decide (x < 4) && fits 16 imm
  | .iSt task rd ra x imm => decide (task < 8) && decide (rd < 16) && decide (ra < 16) && decide (x < 4) && fits 16 imm
  | .iStt task rd ra x imm => decide (task < 8) && decide (rd < 16) && decide (ra < 16) && decide (x < 4) && fits 16 imm
  | .iLdi task rd ra x imm => decide (task < 8) && decide (rd < 16) && decide (ra < 16) && decide (x < 4) && fits 16 imm
  | .iMov task rd ra rb sub => decide (task < 8) && decide (rd < 16) && decide (ra < 16) && decide (rb < 16) && fits 14 sub
  | .iMovt task rd ra rb sub => decide (task < 8) && decide (rd < 16) && decide (ra < 16) && decide (rb < 16) && fits 14 sub
  | .iAdd task rd ra rb sub => decide (task < 8) && decide (rd < 16) && decide (ra < 16) && decide (rb < 16) && fits 14 sub
  | .iSub task rd ra rb sub => decide (task < 8) && decide (rd < 16) && decide (ra < 16) && decide (rb < 16) && fits 14 sub
  | .iMul task rd ra rb sub => decide (task < 8) && decide (rd < 16) && decide (ra < 16) && decide (rb < 16) && fits 14 sub
  | .iDiv task rd ra rb sub => decide (task < 8) && decide (rd < 16) && decide (ra < 16) && decide (rb < 16) && fits 14 sub
  | .iMod task rd ra rb sub => decide (task < 8) && decide (rd < 16) && decide (ra < 16) && decide (rb < 16) && fits 14 sub
  | .iAddi task rd ra x imm => decide (task < 8) && decide (rd < 16) && decide (ra < 16) && decide (x < 4) && fits 16 imm
  | .iNeg task rd ra rb sub => decide (task < 8) && decide (rd < 16) && decide (ra < 16) && decide (rb < 16) && fits 14 sub
  | .iAbs task rd ra rb sub => decide (task < 8) && decide (rd < 16) && decide (ra < 16) && decide (rb < 16) && fits 14 sub
  | .iAnd task rd ra rb sub => decide (task < 8) && decide (rd < 16) && decide (ra < 16) && decide (rb < 16) && fits 14 sub
  | .iOr task rd ra rb sub => decide (task < 8) && decide (rd < 16) && decide (ra < 16) && decide (rb < 16) && fits 14 sub
  | .iXor task rd ra rb sub => decide (task < 8) && decide (rd < 16) && decide (ra < 16) && decide (rb < 16) && fits 14 sub
  | .iNot task rd ra rb sub => decide (task < 8) && decide (rd < 16) && decide (ra < 16) && decide (rb < 16) && fits 14 sub
  | .iShl task rd ra rb sub => decide (task < 8) && decide (rd < 16) && decide (ra < 16) && decide (rb < 16) && fits 14 sub
  | .iShr task rd ra rb sub => decide (task < 8) && decide (rd < 16) && decide (ra < 16) && decide (rb < 16) && fits 14 sub
  | .iBnot task rd ra rb sub => decide (task < 8) && decide (rd < 16) && decide (ra < 16) && decide (rb < 16) && fits 14 sub
  | .iTobool task rd ra rb sub => decide (task < 8) && decide (rd < 16) && decide (ra < 16) && decide (rb < 16) && fits 14 sub
  | .iCmp task rd ra rb sub => decide (task < 8) && decide (rd < 16) && decide (ra < 16) && decide (rb < 16) && fits 14 sub
  | .iCmpt task rd ra rb sub => decide (task < 8) && decide (rd < 16) && decide (ra < 16) && decide (rb < 16) && fits 14 sub
  | .iCmpf task rd ra rb sub => decide (task < 8) && decide (rd < 16) && decide (ra < 16) && decide (rb < 16) && fits 14 sub
  | .iSel task rd ra rb sub => decide (task < 8) && decide (rd < 16) && decide (ra < 16) && decide (rb < 16) && fits 14 sub
  | .iMin task rd ra rb sub => decide (task < 8) && decide (rd < 16) && decide (ra < 16) && decide (rb < 16) && fits 14 sub
  | .iMax task rd ra rb sub => decide (task < 8) && decide (rd < 16) && decide (ra < 16) && decide (rb < 16) && fits 14 sub
  | .iLimit task rd ra rb sub => decide (task < 8) && decide (rd < 16) && decide (ra < 16) && decide (rb < 16) && fits 14 sub
  | .iSat16 task rd ra rb sub => decide (task < 8) && decide (rd < 16) && decide (ra < 16) && decide (rb < 16) && fits 14 sub
  | .iFadd task rd ra rb sub => decide (task < 8) && decide (rd < 16) && decide (ra < 16) && decide (rb < 16) && fits 14 sub
  | .iFsub task rd ra rb sub => decide (task < 8) && decide (rd < 16) && decide (ra < 16) && decide (rb < 16) && fits 14 sub
  | .iFmul task rd ra rb sub => decide (task < 8) && decide (rd < 16) && decide (ra < 16) && decide (rb < 16) && fits 14 sub
  | .iFdiv task rd ra rb sub => decide (task < 8) && decide (rd < 16) && decide (ra < 16) && decide (rb < 16) && fits 14 sub
  | .iFsqrt task rd ra rb sub => decide (task < 8) && decide (rd < 16) && decide (ra < 16) && decide (rb < 16) && fits 14 sub
  | .iFneg task rd ra rb sub => decide (task < 8) && decide (rd < 16) && decide (ra < 16) && decide (rb < 16) && fits 14 sub
  | .iItof task rd ra rb sub => decide (task < 8) && decide (rd < 16) && decide (ra < 16) && decide (rb < 16) && fits 14 sub
  | .iFtoi task rd ra rb sub => decide (task < 8) && decide (rd < 16) && decide (ra < 16) && decide (rb < 16) && fits 14 sub
  | .iQtof task rd ra rb sub => decide (task < 8) && decide (rd < 16) && decide (ra < 16) && decide (rb < 16) && fits 14 sub
  | .iFtoq task rd ra rb sub => decide (task < 8) && decide (rd < 16) && decide (ra < 16) && decide (rb < 16) && fits 14 sub
  | .iAddt task rd ra rb sub => decide (task < 8) && decide (rd < 16) && decide (ra < 16) && decide (rb < 16) && fits 14 sub
  | .iSubt task rd ra rb sub => decide (task < 8) && decide (rd < 16) && decide (ra < 16) && decide (rb < 16) && fits 14 sub
  | .iItot task rd ra rb sub => decide (task < 8) && decide (rd < 16) && decide (ra < 16) && decide (rb < 16) && fits 14 sub
  | .iTtoi task rd ra rb sub => decide (task < 8) && decide (rd < 16) && decide (ra < 16) && decide (rb < 16) && fits 14 sub
  | .iBr task cond ra offset => decide (task < 8) && decide (cond < 16) && decide (ra < 16) && fits 18 offset
  | .iCall task cond ra offset => decide (task < 8) && decide (cond < 16) && decide (ra < 16) && fits 18 offset
  | .iRet task rd ra x imm => decide (task < 8) && decide (rd < 16) && decide (ra < 16) && decide (x < 4) && fits 16 imm
  | .iEnd task rd ra x imm => decide (task < 8) && decide (rd < 16) && decide (ra < 16) && decide (x < 4) && fits 16 imm
  | .iPost task rd ra x imm => decide (task < 8) && decide (rd < 16) && decide (ra < 16) && decide (x < 4) && fits 16 imm
  | .iTon task rd ra rb inst => decide (task < 8) && decide (rd < 16) && decide (ra < 16) && decide (rb < 16) && fits 14 inst
  | .iTof task rd ra rb inst => decide (task < 8) && decide (rd < 16) && decide (ra < 16) && decide (rb < 16) && fits 14 inst
  | .iTp task rd ra rb inst => decide (task < 8) && decide (rd < 16) && decide (ra < 16) && decide (rb < 16) && fits 14 inst
  | .iCtu task rd ra rb inst => decide (task < 8) && decide (rd < 16) && decide (ra < 16) && decide (rb < 16) && fits 14 inst
  | .iCtd task rd ra rb inst => decide (task < 8) && decide (rd < 16) && decide (ra < 16) && decide (rb < 16) && fits 14 inst
  | .iCtud task rd ra rb inst => decide (task < 8) && decide (rd < 16) && decide (ra < 16) && decide (rb < 16) && fits 14 inst
  | .iRtrig task rd ra rb inst => decide (task < 8) && decide (rd < 16) && decide (ra < 16) && decide (rb < 16) && fits 14 inst
  | .iFtrig task rd ra rb inst => decide (task < 8) && decide (rd < 16) && decide (ra < 16) && decide (rb < 16) && fits 14 inst
  | .illegalOpcode task word => decide (task < 8) && fits 32 word
  | .weftFrameRx _ channel frame => decide (channel < 2) && frame.wf
  | .weftFrameTx _ slot => decide (slot < 64)
  | .weftAssemblyClose _ slot => decide (slot < 64)
  | .weftDelivery _ slot => decide (slot < 64)
  | .weftCycleEnd _ => true
  | .listenTimeout _ => true
  | .coldstartEchoDeadline _ => true
  | .syncLostRelisten _ => true
  | .reintTimeout _ => true
  | .heddleMark _ slot _ => decide (slot < 64)
  | .heddleMarkMissing _ => true
  | .heddleSpanEnd _ _ => true
  | .gdclkLost _ => true
  | .gdclkReturn _ => true
  | .ethFrameRx _ port frame => decide (port < 3) && frame.wf
  | .ethFrameTx _ port => decide (port < 3)
  | .arpRequest _ port frame => decide (port < 3) && frame.wf
  | .icmpEchoRequest _ port frame => decide (port < 3) && frame.wf
  | .ptpSync _ port msg => decide (port < 3) && msg.wf
  | .ptpFollowUp _ port msg => decide (port < 3) && msg.wf
  | .ptpDelayReq _ port msg => decide (port < 3) && msg.wf
  | .ptpDelayResp _ port msg => decide (port < 3) && msg.wf
  | .ptpPdelayReq _ port msg => decide (port < 3) && msg.wf
  | .ptpPdelayResp _ port msg => decide (port < 3) && msg.wf
  | .ptpPdelayRespFollowUp _ port msg => decide (port < 3) && msg.wf
  | .ptpAnnounce _ port msg => decide (port < 3) && msg.wf
  | .ptpMgmtSignaling _ port msg => decide (port < 3) && msg.wf
  | .ptpSyncTimeout _ => true
  | .ptpAnnounceTimeout _ => true
  | .ptpTxInterval _ kind => decide (kind < 4)
  | .ethRxAged _ => true
  | .ethLinkChange _ port _ => decide (port < 3)
  | .streamPacketClose _ stream => decide (stream < 16)
  | .canFrameRx _ ctrl frame => decide (ctrl < 4) && frame.wf
  | .canDelivery _ ctrl => decide (ctrl < 4)
  | .canPairTimeout _ ctrl pair => decide (ctrl < 4) && decide (pair < 64)
  | .canTxComplete _ ctrl buffer _ _ => decide (ctrl < 4) && decide (buffer < 16)
  | .canTxError _ ctrl buffer kind _ _ => decide (ctrl < 4) && decide (buffer < 16) && decide (kind < 3)
  | .canBusError _ ctrl kind => decide (ctrl < 4) && decide (kind < 2)
  | .canIntegrationDone _ ctrl => decide (ctrl < 4)
  | .canBusoffHoldExpiry _ ctrl => decide (ctrl < 4)
  | .canRecoveryDone _ ctrl => decide (ctrl < 4)
  | .lpConversion _ port value => decide (port < 8) && inS 32 value
  | .lpHeadroomSet _ port => decide (port < 8)
  | .lpHeadroomClear _ port => decide (port < 8)
  | .hartPollDue _ port entry => decide (port < 8) && decide (entry < 16)
  | .hartRequestSent _ port => decide (port < 8)
  | .hartResponseRx _ port bytes _ => decide (port < 8) && octets bytes
  | .hartResponseTimeout _ port => decide (port < 8)
  | .hartSilenceEnd _ port => decide (port < 8)
  | .hartDelivery _ port => decide (port < 8)
  | .storeProbeComplete _ result => result.wf
  | .storeMountComplete _ result => result.wf
  | .nandReadComplete _ op _ => op.wf
  | .nandProgramComplete _ op _ => op.wf
  | .nandEraseComplete _ op _ => op.wf
  | .nandFeaturesComplete _ op _ => op.wf
  | .nandResetComplete _ die => decide (die < 32)
  | .nandBusyTimeout _ die => decide (die < 32)
  | .zqCalibration _ => true
  | .directoryJournal _ => true
  | .directoryCheckpoint _ => true
  | .scrubPass _ _ => true
  | .dieRetirementComplete _ die => decide (die < 32)
  | .eventFlushTimer _ => true
  | .safetyInputEdge _ input channel _ => decide (input < 24) && decide (channel < 2)
  | .safetyInputAccept _ input channel _ => decide (input < 24) && decide (channel < 2)
  | .discTimeExpiry _ input _ => decide (input < 24)
  | .safetyMatrixEval _ _ => true
  | .safetyTimerExpiry _ timer => decide (timer < 16)
  | .testPulseStart _ pulse => decide (pulse < 4)
  | .testPulseEnd _ pulse levels _ => decide (pulse < 4) && levels.all TpLevel.wf
  | .tpBlankingEnd _ pulse levels => decide (pulse < 4) && levels.all TpLevel.wf
  | .procCommitTimeout _ => true
  | .switchPTimeout _ => true
  | .crossCompareTimeout _ output => decide (output < 8)
  | .requestCrossing _ => true
  | .requestTimeout _ output => decide (output < 8)
  | .readbackSettle _ output => decide (output < 8)
  | .srbEdge _ output _ => decide (output < 8)
  | .offPulseStart _ output => decide (output < 8)
  | .offPulseEnd _ output _ _ => decide (output < 8)
  | .sresetPressStart _ => true
  | .sresetPressEnd _ _ pins => pins.wf
  | .safetyDomainFault _ _ => true
  | .pairItemsRx _ seq items => fits 32 seq && items.all PairItem.wf
  | .pairStateRx _ seq part => fits 32 seq && octets part.bytes
  | .pairImageRx _ seq offset bytes => fits 32 seq && fits 32 offset && octets bytes
  | .pairAckRx _ seq => fits 32 seq
  | .pairRoleControlRx _ seq msg => fits 32 seq && msg.wf
  | .mirrorItemReplay _ => true
  | .pairLinkRetransmit _ seq => fits 32 seq
  | .pairLinkDown _ => true
  | .peerActiveFall _ => true
  | .negotiationEnd _ => true
  | .joinTimeout _ => true
  | .joinRetry _ => true
  | .takeoverBoundary _ => true
  | .holdLimitExpiry _ => true
  | .deposedRestart _ pins => pins.wf
  | .migrationBarrier _ => true
  | .sramEccCorrectable _ ram row => fits 32 ram && fits 32 row
  | .sramEccUncorrectable _ ram region => fits 32 ram && decide (region < 12)
  | .sramRowCopyComplete _ => true
  | .bistSlice _ kind index _ => decide (kind < 3) && decide (index < 9)
  | .ageCheck _ domain margin worst slower => decide (domain < 8) && fits 16 margin && fits 16 worst && fits 16 slower
  | .shuttleResidueFailure _ engine => decide (engine < 8)
  | .registerWrite _ addr value => fits 32 addr && fits 64 value
  | .sdInputToggle _ channel => decide (channel < 48)
  | .f4Restart _ pins => pins.wf
  | .addressTableAgeOut _ mac => fits 48 mac

end Sys2Proof
end

