-- ==== Sys2Proof/Safety.lean ====
section
/-! DEFINITION. The terms in which claims about a run are stated: what a command gives, what it leaves alone, and the invariants that
every step keeps. -/

namespace Sys2Proof.Machine

/-! What a command gives. -/

/-- The device when the command comes: `dt` FCLK edges after the command before. -/
def later (dt : Nat) (s : State) : Dev := advance dt s.dev

/-- The command answers a next state; fuses, identity and queue are as before, and `P` holds of the device then. -/
def Gives (i : Instr) (s : State) (P : Dev → Prop) : Prop :=
  ∃ t, exec i s = .next t ∧ t.fuses = s.fuses ∧ t.ident = s.ident ∧ t.pending = s.pending ∧ P t.dev

/-! What a command leaves alone. -/

/-- The device without its live file (registers and strands) and the two notes about what the present edge wrote. -/
def Dev.rest (d : Dev) : Dev := { d with live := [], w1cEdge := 0, w1cSet := [], oldEdge := 0, olds := [] }

/-- Nothing but live registers and strands at the addresses `as` differs between `d` and `e`. -/
def KeepsBut (as : List Nat) (d e : Dev) : Prop :=
  e.rest = d.rest ∧ ∀ a, a ∉ as → ∀ z, e.live.get z a = d.live.get z a

/-- The device without what raising a fault may change besides (R480 to R485): the event log with its pages for the store, the active
faults, the unit's life, the hold requests and the hanks named by a lost measure, and an exchange that an F4 reaction aborts, with its
flash sector. -/
def Dev.quiet (d : Dev) : Dev :=
  { d.rest with recd := {}, active := [], unit := {}, holdReq := [], holdAt := [], lostNamed := [], flash := [], next := none, xchg := {}
                store := { d.rest.store with due := [] } }

/-- The registers and the strand that raising a fault may write: the loader's last fault, the exchange that an F4 aborts, the log's
registers and its skein, the role, and the fault block. -/
def raiseAddrs : List Nat :=
  [FUSE_LDR_STATE.addr 0, FUSE_XCHG.addr 0, SHU_XCHG.addr 0, STORE_SK_HEAD.addr 1, STORE_SK_TAIL.addr 1, REC_STATUS.addr 0,
   REC_EVENT_SEQ.addr 0, REC_EVENT_COUNT.addr 0, REC_EVENT_BUF.addr 0, PAIR_STATUS.addr 0, strandAddr 0x12 0, FLT_STATUS.addr 0,
   FLT_LAST.addr 0, FLT_COUNTS.addr 0] ++ (List.range 21).map FLT_ACTIVE.addr

/-- Nothing but the live cells at `as` and what raising a fault may change differs between `d` and `e`. -/
def KeepsButFault (as : List Nat) (d e : Dev) : Prop :=
  e.quiet = d.quiet ∧ ∀ a, a ∉ as → a ∉ raiseAddrs → ∀ z, e.live.get z a = d.live.get z a

/-! Service requests (R325). -/

/-- The thread of session `k` waits for the next share window (R97). -/
def shareWaits (k : Nat) (d : Dev) : Bool := d.creel.exhausted && isRole2 (get ETH_SVC_SESSION_THREAD k d) d

/-- Session `k` executes a request of this level and kind now: its host sends the next SEQ, nothing waits, its thread's share is not
exhausted, its level suffices, and the unit takes such requests. -/
def Accepts (k : Nat) (h : SvcHdr) (level kind : Nat) (d : Dev) : Prop :=
  svcUp d = true ∧ slotOf h.session d = some k ∧ get ETH_SVC_HOST_ADDR k d = h.addr ∧ get ETH_SVC_HOST_UDP_PORT k d = h.port ∧
  (d.eth.sess.get {} k).held = none ∧ h.seq = ((d.eth.sess.get {} k).last + 1) % 4294967296 ∧
  shareWaits k d = false ∧ level ≤ get ETH_SVC_SESSION_LEVEL k d ∧ svcAllows kind d = true

/-- The session's KEEPALIVE time starts anew as the request arrives. -/
def arrived (k : Nat) (d : Dev) : Dev := sessMod k (fun x => { x with edge := edge d }) d

/-- The response of a request to `op` leaves last, with this STATUS and body, and is stored; the SEQ counts as processed. -/
def Answered (k : Nat) (h : SvcHdr) (op status : Nat) (body : List Nat) (e : Dev) : Prop :=
  e.out.getLast? = some ⟨.service, h.addr * 65536 + h.port, svcBytes h.session op h.seq status body⟩ ∧
  (e.eth.sess.get {} k).last = h.seq ∧ (e.eth.sess.get {} k).reply = svcBytes h.session op h.seq status body ∧ (e.eth.sess.get {} k).held = none

/-- A request of the service protocol that acts on the device alone: edges before it, header, opcode, level, kind, effect. -/
structure Request where
  dt : Nat
  hdr : SvcHdr
  op : Nat
  level : Nat
  kind : Nat
  act : Dev → SvcRes

/-- The request that a command is. -/
def request : Instr → Option Request
  | .serviceKeepalive dt h => some ⟨dt, h, 0x0003, 1, 0, okNone⟩
  | .serviceRead dt h addr len => some ⟨dt, h, 0x0010, 1, 0, doRead addr len⟩
  | .readStrands dt h ids => some ⟨dt, h, 0x0011, 1, 0, doReadStrands ids⟩
  | .writeHvar dt h v x => some ⟨dt, h, 0x0020, 2, 1, doWriteHvar v x⟩
  | .clearW1c dt h addr mask => some ⟨dt, h, 0x0021, 2, 1, doClear addr mask⟩
  | .hankRequest dt h hank q => some ⟨dt, h, 0x0030, 2, 1, doHankRequest hank q⟩
  | .streamArm dt h n addr _ => some ⟨dt, h, 0x0040, 2, 1, doStreamArm n addr⟩
  | .streamDisarm dt h n => some ⟨dt, h, 0x0041, 2, 1, doStreamDisarm n⟩
  | .traceArm dt h b => some ⟨dt, h, 0x0042, 2, 1, doTraceArm b⟩
  | .traceTrigger dt h b => some ⟨dt, h, 0x0043, 2, 1, doTraceTrigger b⟩
  | .traceRead dt h b first rows => some ⟨dt, h, 0x0044, 1, 5, doTraceRead b first rows⟩
  | .shuttleHold dt h tasks bk => some ⟨dt, h, 0x0050, 3, 1, doShuttle 1 tasks bk⟩
  | .shuttleSingleScan dt h tasks => some ⟨dt, h, 0x0050, 3, 1, doShuttle 2 tasks []⟩
  | .shuttleResume dt h tasks => some ⟨dt, h, 0x0050, 3, 1, doShuttle 3 tasks []⟩
  | .imageTransfer dt h off bs => some ⟨dt, h, 0x0060, 3, 2, doTransfer off bs⟩
  | .imageCommit dt h sc => some ⟨dt, h, 0x0061, 3, 2, doCommit sc⟩
  | .imageAbort dt h => some ⟨dt, h, 0x0062, 3, 2, doAbort⟩
  | .orderlyStop dt h => some ⟨dt, h, 0x0070, 3, 4, doOrderlyStop⟩
  | .eventRead dt h first limit mx sev => some ⟨dt, h, 0x0080, 1, 0, doEventRead first limit mx sev⟩
  | .snapRead dt h c off len => some ⟨dt, h, 0x0081, 1, 5, doSnapRead c off len⟩
  | _ => none

/-! The orderly stop (R49). -/

/-- The unit has stopped in order: RETAIN holds the retained words of this edge when the store is READY, and none when it is not. -/
def StoppedInOrder (d e : Dev) : Prop :=
  e.unit.orderly = 2 ∧ e.unit.stopped = true ∧ e.unit.stopEdge = edge d ∧ get FLT_STATUS_STOPPED 0 e = 1 ∧
  (storeReady d = true → e.recd.retain = retainSet (now d) d ∧ e.recd.retainOk = true) ∧ (storeReady d = false → e.recd.retainOk = false)

/-! Lock-out (R435). -/

/-- The unit has locked out for this code, input, output or pulse: every switch is open in both channels. -/
def Locked (code index : Nat) (e : Dev) : Prop :=
  get SAFE_STATUS_STATE 0 e = 3 ∧ get SAFE_LOCK_CAUSE_CODE 0 e = code ∧ get SAFE_LOCK_CAUSE_INDEX 0 e = index ∧
  get SAFE_LOCK_STAMP_STAMP 0 e = now e % 2 ^ 64 ∧
  ∀ n, n < 8 → (e.safe.outs.get {} n).cmdH = false ∧ (e.safe.outs.get {} n).cmdP = false ∧ get SAFE_OUT_CMD_H n e = 0 ∧ get SAFE_OUT_CMD_P n e = 0

/-! Instructions of the cyclic program. -/

/-- The task and the word of an instruction command (R234, R235). -/
def shuWord : Instr → Option (Nat × Option Nat)
  | .iNop t rd ra x imm => some (t, wordB 0x00 rd ra x imm)
  | .iLd t rd ra x imm => some (t, wordB 0x01 rd ra x imm)
  | .iLdt t rd ra x imm => some (t, wordB 0x02 rd ra x imm)
  | .iSt t rd ra x imm => some (t, wordB 0x03 rd ra x imm)
  | .iStt t rd ra x imm => some (t, wordB 0x04 rd ra x imm)
  | .iLdi t rd ra x imm => some (t, wordB 0x05 rd ra x imm)
  | .iMov t rd ra rb sub => some (t, wordA 0x06 rd ra rb sub)
  | .iMovt t rd ra rb sub => some (t, wordA 0x07 rd ra rb sub)
  | .iAdd t rd ra rb sub => some (t, wordA 0x08 rd ra rb sub)
  | .iSub t rd ra rb sub => some (t, wordA 0x09 rd ra rb sub)
  | .iMul t rd ra rb sub => some (t, wordA 0x0A rd ra rb sub)
  | .iDiv t rd ra rb sub => some (t, wordA 0x0B rd ra rb sub)
  | .iMod t rd ra rb sub => some (t, wordA 0x0C rd ra rb sub)
  | .iAddi t rd ra x imm => some (t, wordB 0x0D rd ra x imm)
  | .iNeg t rd ra rb sub => some (t, wordA 0x0E rd ra rb sub)
  | .iAbs t rd ra rb sub => some (t, wordA 0x0F rd ra rb sub)
  | .iAnd t rd ra rb sub => some (t, wordA 0x10 rd ra rb sub)
  | .iOr t rd ra rb sub => some (t, wordA 0x11 rd ra rb sub)
  | .iXor t rd ra rb sub => some (t, wordA 0x12 rd ra rb sub)
  | .iNot t rd ra rb sub => some (t, wordA 0x13 rd ra rb sub)
  | .iShl t rd ra rb sub => some (t, wordA 0x14 rd ra rb sub)
  | .iShr t rd ra rb sub => some (t, wordA 0x15 rd ra rb sub)
  | .iBnot t rd ra rb sub => some (t, wordA 0x16 rd ra rb sub)
  | .iTobool t rd ra rb sub => some (t, wordA 0x17 rd ra rb sub)
  | .iCmp t rd ra rb sub => some (t, wordA 0x18 rd ra rb sub)
  | .iCmpt t rd ra rb sub => some (t, wordA 0x19 rd ra rb sub)
  | .iCmpf t rd ra rb sub => some (t, wordA 0x1A rd ra rb sub)
  | .iSel t rd ra rb sub => some (t, wordA 0x1B rd ra rb sub)
  | .iMin t rd ra rb sub => some (t, wordA 0x1C rd ra rb sub)
  | .iMax t rd ra rb sub => some (t, wordA 0x1D rd ra rb sub)
  | .iLimit t rd ra rb sub => some (t, wordA 0x1E rd ra rb sub)
  | .iSat16 t rd ra rb sub => some (t, wordA 0x1F rd ra rb sub)
  | .iFadd t rd ra rb sub => some (t, wordA 0x20 rd ra rb sub)
  | .iFsub t rd ra rb sub => some (t, wordA 0x21 rd ra rb sub)
  | .iFmul t rd ra rb sub => some (t, wordA 0x22 rd ra rb sub)
  | .iFdiv t rd ra rb sub => some (t, wordA 0x23 rd ra rb sub)
  | .iFsqrt t rd ra rb sub => some (t, wordA 0x24 rd ra rb sub)
  | .iFneg t rd ra rb sub => some (t, wordA 0x25 rd ra rb sub)
  | .iItof t rd ra rb sub => some (t, wordA 0x26 rd ra rb sub)
  | .iFtoi t rd ra rb sub => some (t, wordA 0x27 rd ra rb sub)
  | .iQtof t rd ra rb sub => some (t, wordA 0x28 rd ra rb sub)
  | .iFtoq t rd ra rb sub => some (t, wordA 0x29 rd ra rb sub)
  | .iAddt t rd ra rb sub => some (t, wordA 0x2A rd ra rb sub)
  | .iSubt t rd ra rb sub => some (t, wordA 0x2B rd ra rb sub)
  | .iItot t rd ra rb sub => some (t, wordA 0x2C rd ra rb sub)
  | .iTtoi t rd ra rb sub => some (t, wordA 0x2D rd ra rb sub)
  | .iBr t c ra off => some (t, wordC 0x30 c ra off)
  | .iCall t c ra off => some (t, wordC 0x31 c ra off)
  | .iRet t rd ra x imm => some (t, wordB 0x32 rd ra x imm)
  | .iEnd t rd ra x imm => some (t, wordB 0x33 rd ra x imm)
  | .iPost t rd ra x imm => some (t, wordB 0x34 rd ra x imm)
  | .iTon t rd ra rb inst => some (t, wordF 0x38 rd ra rb inst)
  | .iTof t rd ra rb inst => some (t, wordF 0x39 rd ra rb inst)
  | .iTp t rd ra rb inst => some (t, wordF 0x3A rd ra rb inst)
  | .iCtu t rd ra rb inst => some (t, wordF 0x3B rd ra rb inst)
  | .iCtd t rd ra rb inst => some (t, wordF 0x3C rd ra rb inst)
  | .iCtud t rd ra rb inst => some (t, wordF 0x3D rd ra rb inst)
  | .iRtrig t rd ra rb inst => some (t, wordF 0x3E rd ra rb inst)
  | .iFtrig t rd ra rb inst => some (t, wordF 0x3F rd ra rb inst)
  | _ => none

/-- The device with task `t`'s engine turned to it: its scan is started or resumed when the engine was not in it (R222, R223). -/
def turned (t : Nat) (d : Dev) : Dev := engTake (taskEngine t d) t d

/-- Task `t` executes the word `w` next: its scan is the one that its engine executes, the word stands at its index, WATCHDOG is not reached,
and no breakpoint is armed. -/
def Issues (t : Nat) (w : Option Nat) (d : Dev) : Prop :=
  t < 8 ∧ taskEngine t d < 2 ∧ (taskRec t d).isSome = true ∧ scanRuns t d = true ∧ w.isSome = true ∧ codeAt t (taskX t d).pc d = w ∧
  watchReached t (loomAt (shuEngX (taskEngine t d) (turned t d)).at_ (turned t d)) (turned t d) = false ∧ get SHU_TASK_STATE_BKPT_EN t d = 0

/-- From `d` to `e` task `t` ran one instruction of `cyc` cycles: its notes are `x`, other tasks and the other engine are as before, and
nothing else differs but the variables and the engine's own registers. -/
def Ran (t cyc : Nat) (x : TaskX) (d e : Dev) : Prop :=
  taskX t e = x ∧ (∀ u, u ≠ t → taskX u e = taskX u d) ∧
  (shuEngX (taskEngine t d) e).at_ = (shuEngX (taskEngine t d) d).at_ + cyc ∧ (∀ k, k ≠ taskEngine t d → shuEngX k e = shuEngX k d) ∧
  e.shu = { d.shu with tasks := e.shu.tasks, engs := e.shu.engs, vars := e.shu.vars, retake := e.shu.retake } ∧
  KeepsBut [SHU_ENG_STATUS.addr (taskEngine t d), SHU_ENG_BUSY.addr (taskEngine t d)] { d with shu := e.shu } e

/-- No variable changes. -/
def VarsKept (d e : Dev) : Prop := e.shu.vars = d.shu.vars ∧ e.shu.retake = d.shu.retake

/-- Where `i` is issued it completes in `cyc` cycles, writes only the registers that `wr` names, and sets ISAT and FERR where `isat` and `ferr` say. -/
def Computes (i : Instr) (cyc : Nat) (wr : TaskX → List (Nat × Int)) (isat ferr : TaskX → Bool := fun _ => false) : Prop :=
  ∀ t w s, shuWord i = some (t, w) → Issues t w s.dev → Gives i s fun e =>
    let d := turned t s.dev
    let x := taskX t d
    Ran t cyc { x with pc := x.pc + 1, regs := (wr x).foldl (fun l p => l.set p.1 (ofInt 32 p.2)) x.regs }
      (d |> onlyIf (isat x) (put SHU_TASK_STATE_ISAT t 1) |> onlyIf (ferr x) (put SHU_TASK_STATE_FERR t 1)) e ∧ VarsKept d e

/-- A register pair takes a 64-bit value. -/
def pairOf (rd : Nat) (v : Int) : List (Nat × Int) := [(rd, v), (rd + 1, v / 2 ^ 32)]

/-- Where `i` is issued it completes with `v` saturated to INT32 in `rd`, and with ISAT where `v` is out of range. -/
def Saturates (i : Instr) (cyc rd : Nat) (v : TaskX → Int) : Prop :=
  Computes i cyc (fun x => [(rd, max (-2 ^ 31) (min (2 ^ 31 - 1) (v x)))]) (fun x => decide (v x < -2 ^ 31 ∨ 2 ^ 31 ≤ v x))

/-- As `Saturates`, to a 64-bit pair. -/
def SaturatesPair (i : Instr) (cyc rd : Nat) (v : TaskX → Int) : Prop :=
  Computes i cyc (fun x => pairOf rd (max (-2 ^ 63) (min (2 ^ 63 - 1) (v x)))) (fun x => decide (v x < -2 ^ 63 ∨ 2 ^ 63 ≤ v x))

/-- Where `i` is issued, and `h` holds of the task's notes and the device, its task stops with fault 0x0903 and this CAUSE before the instruction (R238). -/
def StopsOn (i : Instr) (cause : Nat) (h : TaskX → Dev → Prop := fun _ _ => True) : Prop :=
  ∀ t w s, shuWord i = some (t, w) → Issues t w s.dev → h (taskX t (turned t s.dev)) (turned t s.dev) → Gives i s fun e =>
    get SHU_TASK_STATE_STATE t e = 4 ∧ get SHU_TASK_STATE_FAULT t e = 1 ∧ get SHU_TASK_PC_CAUSE t e = cause ∧
    get SHU_TASK_PC_INDEX t e = (taskX t s.dev).pc % 2 ^ SHU_TASK_PC_INDEX.width ∧ (taskX t e).live = false

/-- From `d` to `e`, besides what `Ran` says, task `t` stored these words of its bank and, under the dual store, the matching words of the other
bank; every other word is as before (R228, R247). -/
def Stored (t : Nat) (ws : List (Nat × Nat)) (d e : Dev) : Prop :=
  (∀ p ∈ ws, varGet (bankOf t d) p.1 e = trunc 32 p.2) ∧
  (flag SHU_XCHG_DUAL 0 d = true → ∀ p ∈ ws, ∀ c, twinWord t p.1 d = some c → varGet (1 - bankOf t d) c e = trunc 32 p.2) ∧
  ∀ k, (∀ p ∈ ws, k ≠ bankOf t d * 32768 + p.1 ∧ (flag SHU_XCHG_DUAL 0 d = true → ∀ c, twinWord t p.1 d = some c → k ≠ (1 - bankOf t d) * 32768 + c)) →
    e.shu.vars.get 0 k = d.shu.vars.get 0 k

/-- The undo log of a scan after it stored these words, last first (R468). -/
def logged (t : Nat) (ws : List (Nat × Nat)) (x : TaskX) (d : Dev) : List (Nat × Nat) :=
  (ws.map fun p => (p.1, varGet (bankOf t d) p.1 d)).reverse ++ x.log

/-- An operand address of format B (R234). -/
def OperandAt (x : TaskX) (ra X imm a : Nat) : Prop := (X = 0 ∧ ra = 0 ∧ a = imm) ∨ (X = 1 ∧ a = imm + xr x ra % 65536)

/-- The unused fields of an instruction that must be zero are not, or its variant or its instance is none of the listed ones (R234, R235). -/
def unusedFields : Instr → Prop
  | .iMov _ _ _ rb sub | .iMovt _ _ _ rb sub | .iNeg _ _ _ rb sub | .iAbs _ _ _ rb sub | .iNot _ _ _ rb sub | .iBnot _ _ _ rb sub
  | .iTobool _ _ _ rb sub | .iSat16 _ _ _ rb sub | .iFsqrt _ _ _ rb sub | .iItof _ _ _ rb sub | .iFtoi _ _ _ rb sub
  | .iQtof _ _ _ rb sub | .iFtoq _ _ _ rb sub | .iItot _ _ _ rb sub | .iTtoi _ _ _ rb sub => rb ≠ 0 ∨ sub ≠ 0
  | .iFneg _ _ _ rb sub => rb ≠ 0 ∨ 1 < sub
  | .iAdd _ _ _ _ sub | .iSub _ _ _ _ sub | .iMul _ _ _ _ sub | .iDiv _ _ _ _ sub | .iMod _ _ _ _ sub | .iAnd _ _ _ _ sub
  | .iOr _ _ _ _ sub | .iXor _ _ _ _ sub | .iShl _ _ _ _ sub | .iShr _ _ _ _ sub | .iSel _ _ _ _ sub | .iFadd _ _ _ _ sub
  | .iFsub _ _ _ _ sub | .iFmul _ _ _ _ sub | .iFdiv _ _ _ _ sub | .iAddt _ _ _ _ sub | .iSubt _ _ _ _ sub => sub ≠ 0
  | .iMin _ _ _ _ sub | .iMax _ _ _ _ sub | .iLimit _ _ _ _ sub => 1 < sub
  | .iCmp _ _ _ _ sub | .iCmpt _ _ _ _ sub => 5 < sub
  | .iCmpf _ _ _ _ sub => 6 < sub
  | .iNop _ rd ra x imm | .iRet _ rd ra x imm | .iEnd _ rd ra x imm => rd ≠ 0 ∨ ra ≠ 0 ∨ x ≠ 0 ∨ imm ≠ 0
  | .iLd _ _ ra x _ | .iLdt _ _ ra x _ | .iSt _ _ ra x _ | .iStt _ _ ra x _ => (x = 0 ∧ ra ≠ 0) ∨ 1 < x
  | .iLdi _ _ ra x _ => ra ≠ 0 ∨ x = 3
  | .iAddi _ _ _ x _ | .iPost _ _ _ x _ => x ≠ 0
  | .iBr _ c ra _ => 4 < c ∨ (c = 0 ∧ ra ≠ 0)
  | .iCall _ c ra _ => c ≠ 0 ∨ ra ≠ 0
  | .iTon _ _ _ _ inst | .iTof _ _ _ _ inst | .iTp _ _ _ _ inst | .iCtu _ _ _ _ inst | .iCtd _ _ _ _ inst | .iCtud _ _ _ _ inst => 2 ^ 13 ≤ inst
  | .iRtrig _ _ _ rb inst | .iFtrig _ _ _ rb inst => rb ≠ 0 ∨ 2 ^ 13 ≤ inst
  | _ => False

/-- A timer instance's ET, Q, previous IN, RUNNING and PRIMED (R241). -/
def timerAt (t base : Nat) (d : Dev) : TimerW :=
  let w (i : Nat) : Nat := varGet (bankOf t d) (base + i) d
  ⟨toInt 64 (w 2 + 2 ^ 32 * w 3), bit (w 4) 0, bit (w 4) 1, bit (w 4) 2, bit (w 4) 3⟩

/-- A TIME in variable memory. -/
def timeAt (t a : Nat) (d : Dev) : Int := toInt 64 (varGet (bankOf t d) a d + 2 ^ 32 * varGet (bankOf t d) (a + 1) d)

/-- The travel that a timer's call adds: of its measure in the frozen image, since M_LAST; none where an exchange takes M_LAST anew (R241, R246). -/
def timerTravel (t base : Nat) (d : Dev) : Int :=
  if d.shu.retake.contains (bankOf t d * 32768 + base) then 0
  else max 0 (toInt 64 (ofInt 64 (toInt 64 (ofInt 64 ((taskX t d).image.get 0 (varGet (bankOf t d) (base + 5) d % 16))) - timeAt t (base + 6) d)))

/-! Invariants. -/

/-- Every image of the device, running or staged, holds only records that the loader's checks accept (R27, R50). -/
def ImgOk (d : Dev) : Prop := ∀ m, d.img = some m ∨ d.next = some m → ∀ r ∈ m.recs, checkRec m r = true

/-- Fuses are a 2048-bit array (R39). -/
def FusesInv (s : State) : Prop := s.fuses < 2 ^ 2048

/-- No blown fuse of `s` reads 0 in `t` (R39, R40). -/
def FusesKept (s t : State) : Prop := ∀ k, s.fuses.testBit k = true → t.fuses.testBit k = true

end Sys2Proof.Machine
end

