-- ==== Sys2Proof/Certificates/Slice0/Obligations.lean ====
section
/-! DEFINITION. The statements for the provers. -/

open Sys2Proof Sys2Proof.Machine

/-- The command at the front of the queue runs with the queue's rest. -/
def Obligations.StepRunsFront : Prop :=
  ∀ c rest s, s.pending = c :: rest → step s = exec c { s with pending := rest }

/-- What reset leaves: PWR_GOOD low; every register at the reset value of its heading (R5), every strand 0, an erased flash in its canonical form, no image, no fuse blown,
no command waiting. Fuses and flash after reset are the model's choice (log entries 21 and 22). -/
def Obligations.ResetState : Prop :=
  State.reset.dev.unit.phase = .reset ∧ State.reset.pending = [] ∧ State.reset.dev.img = none ∧ State.reset.dev.active = [] ∧
  (∀ r ∈ allRegs, ∀ i, i < r.count → rd r i State.reset.dev = r.resetAt i) ∧ (∀ b i, strand b i State.reset.dev = 0) ∧
  (∀ a, flashGet State.reset.dev.flash a = 255) ∧ Memory.wf State.reset.dev.flash = true ∧ FusesInv State.reset ∧ ImgOk State.reset.dev

/-- Every command answers a next state, and none touches the queue or the identity; with an empty queue one FCLK edge passes and nothing else happens (log entry 2). -/
def Obligations.EveryCommandAnswers : Prop :=
  (∀ c s, ∃ t, exec c s = .next t ∧ t.pending = s.pending ∧ t.ident = s.ident) ∧
  (∀ s, s.pending = [] → ∃ t, step s = .next t ∧ edge t.dev = edge s.dev + 1 ∧ t = { s with dev := { s.dev with clk := t.dev.clk } })

/-- R39, R40: fuses. At every step a blown bit stays blown, the fuses stay an array of 2048 bits, and no bit outside the fields that FUSE_WRITE names changes; only FUSE_WRITE, or
the end of a share window that lets a waiting one go on, changes any. -/
def Obligations.FusesOnlyBlow : Prop :=
  (∀ s t, FusesInv s → step s = .next t → FusesInv t ∧ FusesKept s t ∧ ∀ k, (579 ≤ k ∧ k < 640) ∨ 896 ≤ k → t.fuses.testBit k = s.fuses.testBit k) ∧
  (∀ c s t, exec c s = .next t → (∀ dt h field value, c ≠ .fuseWrite dt h field value) → (∀ dt, c ≠ .shareWindowEnd dt) → t.fuses = s.fuses)

/-- R27, R50: images. The loader accepts a copy only where every record passes its checks, and every step keeps it so that the running and the staged image hold only such records. -/
def Obligations.ImagesStayChecked : Prop :=
  (∀ fuses id mem base changed l, loadCopy fuses id mem base changed = .ok l → ∀ r ∈ l.img.recs, checkRec l.img r = true) ∧
  (∀ s t, ImgOk s.dev → step s = .next t → ImgOk t.dev)

/-- The flash: every operation keeps its canonical form, a byte written reads back, erased bytes read 0xFF, and every other byte is as before. -/
def Obligations.FlashForm : Prop :=
  (∀ a v mem, Memory.wf mem = true → Memory.wf (flashSet a v mem) = true ∧ flashGet (flashSet a v mem) a = v % 256 ∧
    ∀ b, b ≠ a → flashGet (flashSet a v mem) b = flashGet mem b) ∧
  (∀ a bs mem, Memory.wf mem = true → Memory.wf (flashPut a bs mem) = true ∧ (∀ k, k < bs.length → flashGet (flashPut a bs mem) (a + k) = bs.getD k 0 % 256) ∧
    ∀ b, b < a ∨ a + bs.length ≤ b → flashGet (flashPut a bs mem) b = flashGet mem b) ∧
  (∀ lo hi mem, Memory.wf mem = true → Memory.wf (flashErase lo hi mem) = true ∧
    ∀ b, flashGet (flashErase lo hi mem) b = if lo ≤ b ∧ b < hi then 255 else flashGet mem b) ∧
  (∀ a n mem, Memory.wf mem = true → flashBytes mem a n = (List.range n).map fun k => flashGet mem (a + k))

/-- R480 to R485, R490: raising a fault. While it is active for the same object nothing happens; a fault of class 0 or 1 is recorded, counted and shown, and active unless it is momentary, and has no
other reaction; an F4 or F5 fault in RUN stops an active or unpaired unit, and puts a standby to OFF. -/
def Obligations.FaultReactions : Prop :=
  (∀ code obj detail d, isActiveFault code obj d = true → raiseWith code obj detail d = d) ∧
  (∀ code obj detail d, isActiveFault code obj d = false → faultClass code ≤ 1 → code < 65536 → code / 256 ≠ 2 → (raiseWith code obj detail d).recd.dropped = d.recd.dropped →
    let e := raiseWith code obj detail d
    ((∀ x ∈ d.recd.buf, x.stamp ≠ now d) → get FLT_LAST_CODE 0 e = code ∧ get FLT_LAST_CLASS 0 e = faultClass code) ∧
    (d.unit.phase = .run → faultClass code = 0 → get FLT_COUNTS_F0 0 e = satU FLT_COUNTS_F0.width (get FLT_COUNTS_F0 0 d + 1)) ∧
    (d.unit.phase = .run → faultClass code = 1 → get FLT_COUNTS_F1 0 e = satU FLT_COUNTS_F1.width (get FLT_COUNTS_F1 0 d + 1)) ∧
    (faultKind code = .momentary → e.active = d.active) ∧ (faultKind code ≠ .momentary → e.active = insertActive ⟨code, obj, detail⟩ d.active) ∧ e.unit = d.unit ∧ e.holdReq = d.holdReq) ∧
  (∀ code obj detail d, isActiveFault code obj d = false → faultClass code = 4 ∨ faultClass code = 5 → d.unit.phase = .run → pairState d = 6 ∨ pairState d = 9 → d.unit.stopped = false →
    let e := raiseWith code obj detail d
    e.unit.stopped = true ∧ e.unit.lastF4 = code ∧ e.unit.stopEdge = edge d ∧ get FLT_STATUS_STOPPED 0 e = 1 ∧ pairState e = (if pairState d = 6 then 7 else 9)) ∧
  (∀ code obj detail d, isActiveFault code obj d = false → faultClass code = 4 ∨ faultClass code = 5 → d.unit.phase = .run → pairState d ≠ 6 → pairState d ≠ 7 → pairState d ≠ 8 → pairState d ≠ 9 →
    let e := raiseWith code obj detail d
    e.unit.phase = .ended ∧ e.unit.lastF4 = code ∧ e.unit.stopEdge = edge d ∧ pairState e = 0)

/-- R33, R35, R36: why the loader rejects a copy at step 4 once its digest is right. A KEY_SLOT that names no key slot or an unprogrammed one, and slot 0 once slot 1 is programmed: 0x0204.
The anti-rollback count is the number of consecutive blown bits of the thermometer from its bit 0; a rollback level below it or above 64: 0x0205, whatever the build count. Another part,
or a part or build that the copy asks more of: 0x0206. A copy that passes is none of these. -/
def Obligations.LoaderRejections : Prop :=
  (∀ fuses n, n ≤ 64 → (arbCount fuses = n ↔ (∀ k, k < n → fuses.testBit (512 + k) = true) ∧ (n < 64 → fuses.testBit (512 + n) = false))) ∧
  (∀ fuses id h body, sha256 body = beVal ((h.drop 176).take 32) →
    let slot := hdrU h PHDR_KEY_SLOT
    let level := hdrU h PHDR_SEQUENCE / 2 ^ 24
    let part := hdrU h PHDR_PART
    (((slot ≠ 0 ∧ slot ≠ 1 ∧ slot ≠ 0xFF) ∨ (slot = 0 ∧ bits fuses 0 256 = 0) ∨ (slot = 1 ∧ bits fuses 256 256 = 0) ∨ (slot = 0 ∧ bits fuses 256 256 ≠ 0)) →
      step4 fuses id h body = some { code := 0x0204 }) ∧
    (authOk fuses h = true → level < arbCount fuses ∨ 64 < level → step4 fuses id h body = some { code := 0x0205 }) ∧
    (authOk fuses h = true → arbCount fuses ≤ level → level ≤ 64 → step4 fuses id h body ≠ some { code := 0x0205 } ∧
      ((part / 16 ≠ ID_PART.reset / 16 ∨ (part % 16 ≠ 0 ∧ part % 16 ≠ ID_PART.reset % 16) ∨ id.major * 256 + id.minor < hdrU h PHDR_MIN_SILICON ∨
        id.build < hdrU h PHDR_MIN_BUILD) → step4 fuses id h body = some { code := 0x0206 }))) ∧
  (∀ fuses id mem base changed l, loadCopy fuses id mem base changed = .ok l →
    let h := flashBytes mem base 256
    arbCount fuses ≤ hdrU h PHDR_SEQUENCE / 2 ^ 24 ∧ hdrU h PHDR_SEQUENCE / 2 ^ 24 ≤ 64 ∧ hdrU h PHDR_PART / 16 = ID_PART.reset / 16 ∧
    (hdrU h PHDR_PART % 16 = 0 ∨ hdrU h PHDR_PART % 16 = ID_PART.reset % 16) ∧ hdrU h PHDR_MIN_SILICON ≤ id.major * 256 + id.minor ∧ hdrU h PHDR_MIN_BUILD ≤ id.build)

/-- R43, R44, R495, R500, R40: how far a start gets. TEST_EN ends it in test, a low PFAIL_N holds it in step 1, FUSE_PGM leads to programming mode
(step 0xE) while the part is not closed; without a usable copy the unit is in LOAD_FAIL (step 0xF), with one it runs that copy's image.
R44, R402, R485, R455, R500, R501: which starts a command makes. PWR_GOOD rising starts with RESET_CAUSE 0; a declaration of the monitors with 1
(clock) or 2 (supply); PFAIL_N inactive after the flush with 0; an F4 stop before RUN, and DEPOSED, 100 ms later with 3, the latter cold; an accepted
RESTART, and in LOAD_FAIL an image that passed its verification, with 3; a wait in step 1 goes on. -/
def Obligations.Starts : Prop :=
  ((∀ cause fuses id p d, p.testEn = true → (startUnit cause fuses id p d).unit.phase = .test ∧ get SYS_STATUS_TEST 0 (startUnit cause fuses id p d) = 1 ∧
    get SYS_STATUS_RESET_CAUSE 0 (startUnit cause fuses id p d) = cause % 8 ∧ (startUnit cause fuses id p d).clk.edges = p.bootEdges ∧
    (startUnit cause fuses id p d).img = none ∧ (startUnit cause fuses id p d).flash = d.flash) ∧
  (∀ cause fuses id p d, p.testEn = false → p.pfailLow = true → (startUnit cause fuses id p d).unit.phase = .step1 ∧
    get SYS_STATUS_PFAIL 0 (startUnit cause fuses id p d) = 1 ∧ (startUnit cause fuses id p d).img = none) ∧
  (∀ fuses id p d, p.fusePgm = true → (bits fuses 576 2 ≠ 3 ∨ bits fuses 0 256 = 0 ∨ bits fuses 256 256 = 0) →
    (startOn fuses id p d).unit.phase = .programming ∧ get FUSE_LDR_STATE_STEP 0 (startOn fuses id p d) = 0xE) ∧
  (∀ fuses id p d, p.bistFail = false → (chooseCopy fuses id p.reread (put FUSE_LDR_STATE_STEP 0 3 (startRepair p d))).2 = none →
    (startSteps fuses id p d).unit.phase = .loadFail ∧ get FUSE_LDR_STATE_STEP 0 (startSteps fuses id p d) = 0xF) ∧
  (∀ fuses id p d c l, p.bistFail = false → (chooseCopy fuses id p.reread (put FUSE_LDR_STATE_STEP 0 3 (startRepair p d))).2 = some (c, l) →
    (startSteps fuses id p d).img = some l.img)) ∧
  ((∀ dt p s, s.dev.unit.phase = .reset →
    exec (.pwrGoodRise dt p) s = .next { s with dev := startUnit 0 s.fuses s.ident p (later dt s) }) ∧
  (∀ dt p s, s.dev.unit.phase = .monitorReset →
    exec (.monitorRestart dt p) s = .next { s with dev := startUnit (if s.dev.unit.monitorCode = 0x0101 then 1 else 2) s.fuses s.ident p (later dt s) }) ∧
  (∀ dt p s, get REC_STATUS_PFAIL 0 s.dev = 1 → get STORE_STATUS_STATE 0 s.dev = 5 → dueAgain s.dev.store.flushEdge 4000000 (later dt s) = true →
    exec (.pfailRestart dt p) s = .next { s with dev := startUnit 0 s.fuses s.ident p (unitMod (fun x => { x with coldRequest := false }) (later dt s)) }) ∧
  (∀ dt p s, s.dev.unit.phase = .step1 → s.dev.unit.pfailLow = true →
    exec (.pfailStep1WaitEnd dt p) s = .next { s with dev := startOn s.fuses s.ident p (startPins p (later dt s)) }) ∧
  (∀ dt p s, s.dev.unit.phase = .ended → s.dev.unit.noRestart = false → faultClass s.dev.unit.lastF4 ≠ 5 →
    40000000 ≤ since s.dev.unit.stopEdge (later dt s) →
    exec (.f4Restart dt p) s = .next { s with dev := restartUnit false s.fuses s.ident p (later dt s) }) ∧
  (∀ dt p s, pairState s.dev = 8 → s.dev.unit.phase = .run → s.dev.unit.noRestart = false → faultClass s.dev.unit.lastF4 ≠ 5 →
    40000000 ≤ since s.dev.pairx.deposedEdge (later dt s) →
    exec (.deposedRestart dt p) s = .next { s with dev := restartUnit true s.fuses s.ident p (later dt s) }) ∧
  (∀ dt h p s k i, Accepts k h 3 4 (later dt s) → productionLocked s.dev = false →
    (s.dev.unit.stopped = false ∨ s.dev.unit.lastF4 = 0 ∨ s.dev.unit.noRestart = false) → i = .restartCold dt h p ∨ i = .restartWarm dt h p → Gives i s fun e =>
      ∃ cold d, e = restartUnit cold s.fuses s.ident p d ∧
        (p.testEn = true ∨ p.pfailLow = true → get SYS_STATUS_RESET_CAUSE 0 e = 3 ∧ e.img = none ∧ e.flash = s.dev.flash)) ∧
  (∀ dt p s o, s.dev.unit.phase = .loadFail → get FUSE_XCHG_STATE 0 s.dev = 2 → s.dev.xchg.headerDone = false →
    xchgCheck s.fuses s.ident (later dt s) = .ok o → p.testEn = true → Gives (.exchangeReadbackDone dt p) s fun e =>
      e.unit.phase = .test ∧ get SYS_STATUS_RESET_CAUSE 0 e = 3 ∧ e.flash = flashPut (otherBase s.dev) s.dev.xchg.header s.dev.flash))

/-- R500, R23, R421: PWR_GOOD falling resets every register and strand but the levels of the safety receivers; flash and what was sent stay.
R402, R382: a power failure. PFAIL_N falling shows in SYS_STATUS and, with a mounted store, begins the flush (state 4); 20 µs later the event
log is frozen; the retained words are copied once no scan of their tasks runs.
R49: an orderly stop whose hanks are held, or that has waited for 1 s, stops the unit on the edge when no scan is owed. -/
def Obligations.PowerLoss : Prop :=
  (∀ dt s, Gives (.pwrGoodFall dt) s fun e => e.unit.phase = .reset ∧ e.img = none ∧ e.next = none ∧ e.active = [] ∧ e.flash = s.dev.flash ∧
    e.out = s.dev.out ∧ e.clk.edges = 0 ∧
    (∀ a, a ∉ (List.range 24).map SAFE_IN.addr → a ∉ (List.range 8).map SAFE_OUT.addr → ∀ z, e.live.get z a = z) ∧
    (∀ n, n < 24 → get SAFE_IN_RAW_A n e = get SAFE_IN_RAW_A n s.dev ∧ get SAFE_IN_RAW_B n e = get SAFE_IN_RAW_B n s.dev) ∧
    ∀ n, n < 8 → get SAFE_OUT_READBACK n e = get SAFE_OUT_READBACK n s.dev) ∧
  ((∀ dt s, s.dev.unit.phase ≠ .reset → s.dev.unit.phase ≠ .monitorReset → s.dev.unit.pfailLow = false →
    Gives (.pfailNFall dt) s fun e => get SYS_STATUS_PFAIL 0 e = 1 ∧
      (blocksOn s.dev = false → e.unit = { s.dev.unit with pfailLow := true, pfailEdge := edge (later dt s), pfailStamp := now (later dt s) } ∧
        KeepsBut [SYS_STATUS.addr 0] { later dt s with unit := e.unit } e) ∧
      (blocksOn s.dev = true → get STORE_STATUS_STATE 0 s.dev = 3 → get STORE_STATUS_STATE 0 e = 4)) ∧
  (∀ dt s, get REC_STATUS_PFAIL 0 s.dev = 1 → s.dev.recd.frozen = false → 8000 ≤ since s.dev.unit.pfailEdge (later dt s) →
    Gives (.pfailEventFreeze dt) s fun e => e.recd.frozen = true ∧ e.unit = s.dev.unit) ∧
  (∀ dt s, get REC_STATUS_PFAIL 0 s.dev = 1 → s.dev.recd.frozen = true → s.dev.recd.retainCopy = [] → retainStill s.dev = true →
    Gives (.powerFailRetainCopy dt) s fun e => e.recd.retainCopy = retainSet s.dev.unit.pfailStamp (later dt s)) ∧
  (∀ dt s, s.dev.unit.orderly = 1 → s.dev.unit.stopped = false →
    ((∀ r ∈ recsOf 0x0A01 s.dev, hankState (r.u P0A01_HANK) s.dev = 0 ∨ hankState (r.u P0A01_HANK) s.dev = 3) ∨
      400000000 ≤ since s.dev.unit.stopEdge (later dt s)) → retainTasks s.dev = [] →
    Gives (.orderlyStopHoldWaitEnd dt) s fun e => e.unit.orderly = 2 ∧ e.unit.stopped = true ∧ e.unit.stopEdge = edge (later dt s)))

/-- R192, R448, R499, R501: a clock stop or a supply fault puts the unit into internal reset with the code it will raise, and releases ACTIVE_N;
a supply fault shows in its rail's bit. TJ is shown with its maximum; above 105 °C TJ_HIGH is set, below 100 °C it is cleared.
R41, R192: at debug lock levels 0 and 1 the debug port halts a unit that runs, which HALTED shows, and releases it again.
R491 to R494, R496: a clock stop brings every group of balls to its state of that column; each claim index of CLASS 0x01, 0 to 541, names one ball of the grid. -/
def Obligations.MonitorsAndHalt : Prop :=
  ((∀ dt s, s.dev.unit.phase ≠ .reset → s.dev.unit.phase ≠ .monitorReset → Gives (.clockStop dt) s fun e =>
    e.unit.phase = .monitorReset ∧ e.unit.monitorCode = 0x0101 ∧ get PAIR_STATUS_ACTIVE_OUT 0 e = 0 ∧ (∀ g, ballPad g e = stoppedPad g) ∧
    ∀ n, n < 16 → get DRV_AX_PINS_COMMANDED n e = 0) ∧
  (∀ dt rail s, s.dev.unit.phase ≠ .reset → s.dev.unit.phase ≠ .monitorReset → rail < 8 → Gives (.supplyFault dt rail) s fun e =>
    e.unit.phase = .monitorReset ∧ e.unit.monitorCode = 0x0102 ∧ e.unit.monitorObj = rail ∧ bit (get SYS_SUPPLY_IN_RANGE 0 e) rail = false ∧
    get PAIR_STATUS_ACTIVE_OUT 0 e = 0 ∧ ∀ n, n < 16 → get DRV_AX_PINS_COMMANDED n e = 0) ∧
  (∀ dt tj s, s.dev.unit.phase ≠ .reset → s.dev.unit.phase ≠ .monitorReset → -32768 ≤ tj → tj ≤ 32767 → Gives (.tjThreshold dt tj) s fun e =>
    get SYS_TEMP_TJ 0 e = ofInt 16 tj ∧ getS SYS_TEMP_TJ_MAX 0 s.dev ≤ getS SYS_TEMP_TJ_MAX 0 e ∧
      get SYS_STATUS_TJ_HIGH 0 e = (if 1050 < tj then 1 else if tj < 1000 then 0 else get SYS_STATUS_TJ_HIGH 0 s.dev))) ∧
  ((∀ dt s, bits s.fuses 576 2 < 2 → s.dev.unit.halted = false → blocksOn s.dev = true →
    Gives (.debugHalt dt) s fun e => e.unit.halted = true ∧ get SYS_STATUS_HALTED 0 e = 1 ∧
      get SYS_STATUS_HALTS 0 e = satU 16 (get SYS_STATUS_HALTS 0 s.dev + 1)) ∧
  (∀ dt s, 2 ≤ bits s.fuses 576 2 → Gives (.debugHalt dt) s fun e => e = later dt s) ∧
  (∀ dt s, s.dev.unit.halted = true → Gives (.debugHaltEnd dt) s fun e => e.unit.halted = false ∧ get SYS_STATUS_HALTED 0 e = 0)) ∧
  (∀ i, i < 542 → ∃ r c, (ballAt r c).bind claimIndexOf = some i ∧ ∀ r' c', (ballAt r' c').bind claimIndexOf = some i → r' = r ∧ c' = c) ∧
  (∀ r c i, (ballAt r c).bind claimIndexOf = some i → i < 542)

/-- R5, R7, R9: a write to no register, or to a register without writable or W1C bits, does nothing; W1C bits written as 1 are cleared and all other
bits of the register stay, but for bits that an event set on the same edge. -/
def Obligations.RegisterWrites : Prop :=
  (∀ dt a v s, regAt a = none → Gives (.registerWrite dt a v) s fun e => e = later dt s) ∧
  (∀ dt a v s r i, regAt a = some (r, i) → r.rw = 0 → r.w1c = 0 → Gives (.registerWrite dt a v) s fun e => e = later dt s) ∧
  (∀ dt a v s r i, s.dev.unit.phase ≠ .reset → s.dev.unit.phase ≠ .monitorReset → a % 4 = 0 → regAt a = some (r, i) → r.rw = 0 →
    r.base ≠ PLY_STATE.base → r.base ≠ SHU_TASK_STATE.base → r.base ≠ FBK_FB_FLAGS.base → r.addr i ∉ raiseAddrs → s.dev.w1cEdge ≠ edge (later dt s) + 1 →
    trunc 32 v * 2 ^ (8 * (a - r.addr i)) &&& r.w1c ≠ 0 → rd r i s.dev < 2 ^ r.width → Gives (.registerWrite dt a v) s fun e =>
      rd r i e = rd r i s.dev - (rd r i s.dev &&& (trunc 32 v * 2 ^ (8 * (a - r.addr i)) &&& r.w1c)) ∧
      (s.dev.active = [] → KeepsBut [r.addr i] (later dt s) e))

/-- R9: a W1C field that its event has set on an edge keeps its value through a clear that is written on the same edge, by a host's CLEAR_W1C or by a register write. -/
def Obligations.SetBeatsClear : Prop :=
  (∀ h a m f i v k s d, f.reg ∈ allRegs → f.lo + f.width ≤ f.reg.width → bits f.reg.w1c f.lo f.width = 2 ^ f.width - 1 → v % 2 ^ f.width ≠ 0 → regAt a = some (f.reg, i) → s.dev = put f i v d →
    Accepts k h 2 1 (later 0 s) → a % 4 = 0 → a / 65536 ≠ 0x11 → m < 2 ^ 32 → m * 2 ^ (8 * (a - f.reg.addr i)) &&& f.reg.w1c ≠ 0 →
    Gives (.clearW1c 0 h a m) s fun e => get f i e = v % 2 ^ f.width) ∧
  (∀ a w f i v s d, f.reg ∈ allRegs → f.lo + f.width ≤ f.reg.width → bits f.reg.w1c f.lo f.width = 2 ^ f.width - 1 → v % 2 ^ f.width ≠ 0 → regAt a = some (f.reg, i) → f.reg.rw = 0 →
    s.dev = put f i v d → Gives (.registerWrite 0 a w) s fun e => get f i e = v % 2 ^ f.width)

/-- R324: sessions. An OPEN from an admitted address with a free slot and thread opens one; a CLOSE is answered and ends it; a session without a
request for KEEPALIVE ends, and its slot reads 0. R51: the other times that the protocol's commands start: a transfer without a message for 10 s, and a
verified image without the standby's report for 30 s, end the exchange. -/
def Obligations.ServiceSessions : Prop :=
  (∀ dt h level keep s t k, svcUp s.dev = true → openAgain h s.dev = none → 1 ≤ level → level ≤ 3 → 1 ≤ keep → keep ≤ 60 →
    admitted h.addr level s.dev = true → freeThread s.dev = some t → (List.range 16).find? (fun k => !flag ETH_SVC_SESSION_ACTIVE k s.dev) = some k →
    Gives (.serviceOpen dt h level keep) s fun e => get ETH_SVC_SESSION_ACTIVE k e = 1 ∧ get ETH_SVC_SESSION_LEVEL k e = level ∧
      get ETH_SVC_HOST_ADDR k e = h.addr % 2 ^ 32 ∧ get ETH_SVC_HOST_UDP_PORT k e = h.port % 2 ^ 16 ∧ e.eth.opened = s.dev.eth.opened + 1 ∧
      (e.eth.sess.get {} k).keep = keep ∧ (e.eth.sess.get {} k).last = h.seq ∧
      e.out = s.dev.out ++ [⟨.service, h.addr * 65536 + h.port, (e.eth.sess.get {} k).reply⟩]) ∧
  (∀ dt h level keep s, svcUp s.dev = true → openAgain h s.dev = none → (level = 0 ∨ 3 < level ∨ keep = 0 ∨ 60 < keep) →
    Gives (.serviceOpen dt h level keep) s fun e => { e with out := s.dev.out } = later dt s ∧
      e.out = s.dev.out ++ [⟨.service, h.addr * 65536 + h.port, svcBytes 0 1 h.seq 6 []⟩]) ∧
  (∀ dt h s k, Accepts k h 1 0 (later dt s) → Gives (.serviceClose dt h) s fun e => get ETH_SVC_SESSION_ACTIVE k e = 0 ∧
    (∀ x ∈ e.eth.sess, x.1 ≠ k) ∧ e.out = s.dev.out ++ [⟨.service, h.addr * 65536 + h.port, svcBytes h.session 2 h.seq 0 []⟩]) ∧
  (∀ dt k s, k < 16 → get ETH_SVC_SESSION_ACTIVE k s.dev = 1 → (s.dev.eth.sess.get {} k).keep * 400000000 ≤ since (s.dev.eth.sess.get {} k).edge (later dt s) →
    Gives (.sessionKeepaliveExpiry dt k) s fun e => rd ETH_SVC_SESSION k e = 0 ∧ rd ETH_SVC_HOST k e = 0 ∧ ∀ x ∈ e.eth.sess, x.1 ≠ k) ∧
  (∀ dt s i, (i = .exchangeTransferTimeout dt ∧ get FUSE_XCHG_STATE 0 s.dev = 1 ∧ 4000000000 ≤ since s.dev.xchg.lastEdge (later dt s)) ∨
      (i = .exchangeStageTimeout dt ∧ get FUSE_XCHG_STATE 0 s.dev = 2 ∧ s.dev.xchg.headerDone = true ∧ 12000000000 ≤ since s.dev.xchg.headerEdge (later dt s)) →
    Gives i s fun e => get FUSE_XCHG_STATE 0 e = 0 ∧ e.next = none ∧ e.xchg = {} ∧ e.img = s.dev.img)

/-- R325, R327, R40, R45, R54: in which order a request is judged. Without the service protocol it is ignored; an unknown session or another host is
STATUS 3; the last SEQ again gets the stored response; any other SEQ but the next is counted and dropped; while the share of its thread is exhausted the
request waits; a level too low is STATUS 4, a unit that does not take such requests STATUS 5; otherwise the effect decides. -/
def Obligations.ServiceOrder : Prop :=
  ∀ i r s, request i = some r →
    (svcUp s.dev = false → Gives i s fun e => e = later r.dt s) ∧
    (svcUp s.dev = true → slotOf r.hdr.session s.dev = none → Gives i s fun e => { e with out := s.dev.out } = later r.dt s ∧
      e.out = s.dev.out ++ [⟨.service, r.hdr.addr * 65536 + r.hdr.port, svcBytes r.hdr.session r.op r.hdr.seq 3 []⟩]) ∧
    (∀ k, svcUp s.dev = true → slotOf r.hdr.session s.dev = some k → get ETH_SVC_HOST_ADDR k s.dev = r.hdr.addr →
      get ETH_SVC_HOST_UDP_PORT k s.dev = r.hdr.port → (s.dev.eth.sess.get {} k).held = none →
      (r.hdr.seq = (s.dev.eth.sess.get {} k).last → Gives i s fun e =>
        e.out = s.dev.out ++ [⟨.service, r.hdr.addr * 65536 + r.hdr.port, (s.dev.eth.sess.get {} k).reply⟩] ∧
          { e with out := s.dev.out, eth := s.dev.eth } = later r.dt s) ∧
      (r.hdr.seq ≠ (s.dev.eth.sess.get {} k).last → r.hdr.seq ≠ ((s.dev.eth.sess.get {} k).last + 1) % 4294967296 → Gives i s fun e =>
        get ETH_SVC_STATUS_SEQ_DROPS 0 e = satU 16 (get ETH_SVC_STATUS_SEQ_DROPS 0 s.dev + 1) ∧
          KeepsBut [ETH_SVC_STATUS.addr 0] (arrived k (later r.dt s)) e) ∧
      (r.hdr.seq = ((s.dev.eth.sess.get {} k).last + 1) % 4294967296 → shareWaits k s.dev = true → Gives i s fun e =>
        e.out = s.dev.out ∧ e.live = s.dev.live ∧ (e.eth.sess.get {} k).last = (s.dev.eth.sess.get {} k).last ∧
          ∃ j q, (e.eth.sess.get {} k).held = some j ∧ request j = some q ∧ q.dt = 0 ∧ q.hdr = r.hdr ∧ q.op = r.op ∧ q.act = r.act) ∧
      (r.hdr.seq = ((s.dev.eth.sess.get {} k).last + 1) % 4294967296 → shareWaits k s.dev = false →
        get ETH_SVC_SESSION_LEVEL k s.dev < r.level → Gives i s fun e => Answered k r.hdr r.op 4 [] e ∧ e.live = s.dev.live) ∧
      (r.hdr.seq = ((s.dev.eth.sess.get {} k).last + 1) % 4294967296 → shareWaits k s.dev = false →
        r.level ≤ get ETH_SVC_SESSION_LEVEL k s.dev → svcAllows r.kind s.dev = false → Gives i s fun e =>
          Answered k r.hdr r.op 5 [] e ∧ e.live = s.dev.live)) ∧
    (∀ k, Accepts k r.hdr r.level r.kind (later r.dt s) → Gives i s fun e =>
      Answered k r.hdr r.op (r.act (arrived k (later r.dt s))).status (r.act (arrived k (later r.dt s))).body e ∧
        e.live = (r.act (arrived k (later r.dt s))).dev.live)

/-- R326, R327, R389, R401, R406, R8: reads answer from the device and change nothing but the session. Registers are read as words in little-endian order, strands
as 64-bit words behind the stamp; an event read answers the records asked for, a snapshot read bytes of a capture, a trace read rows of a buffer; an
unknown opcode is STATUS 2. -/
def Obligations.ServiceReads : Prop :=
  (∀ dt h s k, Accepts k h 1 0 (later dt s) → Gives (.serviceKeepalive dt h) s fun e =>
    Answered k h 3 0 [] e ∧ { e with eth := s.dev.eth, out := s.dev.out } = later dt s) ∧
  (∀ dt h addr len s k, Accepts k h 1 0 (later dt s) → addr < 2 ^ 32 → addr % 4 = 0 → len % 4 = 0 → 0 < len → len ≤ 1024 →
    Gives (.serviceRead dt h addr len) s fun e => { e with eth := s.dev.eth, out := s.dev.out } = later dt s ∧
      Answered k h 0x10 0 ((List.range (len / 4)).flatMap fun j => leBytes 4 (liveWord (addr + 4 * j) (arrived k (later dt s)))) e) ∧
  (∀ dt h ids s k, Accepts k h 1 0 (later dt s) → ids ≠ [] → ids.length ≤ 128 → (∀ id ∈ ids, strandOk id = true) → Gives (.readStrands dt h ids) s fun e =>
    { e with eth := s.dev.eth, out := s.dev.out } = later dt s ∧
      Answered k h 0x11 0 (beBytes 8 (now (later dt s)) ++ ids.flatMap fun id => beBytes 8 (readStrand id (arrived k (later dt s)))) e) ∧
  (∀ dt h first limit mx sev s k, Accepts k h 1 0 (later dt s) → 1 ≤ mx → mx ≤ 44 → sev ≤ 5 → Gives (.eventRead dt h first limit mx sev) s fun e =>
    { e with eth := s.dev.eth, out := s.dev.out } = later dt s ∧ ∃ l : List EvRec, ∃ hd : List Nat, l.length ≤ mx ∧ hd.length = 24 ∧
      Answered k h 0x80 0 (hd ++ l.flatMap EvRec.bytes) e ∧ ∀ r ∈ l, (r ∈ s.dev.recd.log ∨ r ∈ s.dev.recd.buf) ∧ first ≤ r.seq ∧ r.seq ≠ 0 ∧ sev ≤ r.sev) ∧
  (∀ dt h c off len s k n bs, Accepts k h 1 5 (later dt s) → len % 4 = 0 → 0 < len → len ≤ 1024 → off < 2 ^ 32 → c ≠ 0xFFFFFFFF →
    (if c = 0 then s.dev.recd.snaps.getLast? else s.dev.recd.snaps.find? fun p => p.1 == c) = some (n, bs) → off + len ≤ bs.length →
    Gives (.snapRead dt h c off len) s fun e => { e with eth := s.dev.eth, out := s.dev.out } = later dt s ∧
      Answered k h 0x81 0 (leBytes 4 n ++ leBytes 4 bs.length ++ (bs.drop off).take len) e) ∧
  (∀ dt h b first rows s k r, Accepts k h 1 5 (later dt s) → trcRec b s.dev = some r → first < (s.dev.trcs.get {} b).rows.length →
    Gives (.traceRead dt h b first rows) s fun e => { e with eth := s.dev.eth, out := s.dev.out } = later dt s ∧
      Answered k h 0x44 0 ((((s.dev.trcs.get {} b).rows.drop first).take (min rows (1448 / (8 + 4 * r.u P0503_NODES)))).flatMap fun row =>
        leBytes 8 (row.headD 0) ++ row.tail.flatMap (leBytes 4)) e) ∧
  (∀ dt h op s k, Accepts k h 0 0 (later dt s) → Gives (.serviceUnknownOpcode dt h op) s fun e =>
    Answered k h op 2 [] e ∧ { e with eth := s.dev.eth, out := s.dev.out } = later dt s)

/-- R229, R265, R9, R122, R244, R215: what accepted requests of level 2 do. A host variable's value and a hank's request stand in their mailboxes for the
next edge on; W1C bits of a register are cleared; STOPPED of a ply and FAULT of a task are cleared, and FAULTY of an interface once its condition has not
held for 10 ms. -/
def Obligations.ServiceActions : Prop :=
  (∀ dt h v x s k q, Accepts k h 2 1 (later dt s) → x < 2 ^ 64 → isActive s.dev = true → hostVar v s.dev = some q → Gives (.writeHvar dt h v x) s fun e =>
    Answered k h 0x20 0 (beBytes 8 (now (later dt s))) e ∧ e.shu.hbox.get (0, 0) v = (edge (later dt s) + 1, x)) ∧
  (∀ dt h n q s k, Accepts k h 2 1 (later dt s) → q.seq < 2 ^ 16 → q.recipe < 2 ^ 16 → q.step < 2 ^ 16 → q.tag < 2 ^ 32 → isActive s.dev = true →
    q.seq ≠ 0 → 1 ≤ q.code → q.code ≤ 3 → (recAt 0x0A01 P0A01_HANK n s.dev).isSome = true → (q.code = 2 → hankState n s.dev = 0) →
    Gives (.hankRequest dt h n q) s fun e => Answered k h 0x30 0 (beBytes 8 (now (later dt s))) e ∧
      (e.hanks.get {} n).boxH = some (edge (later dt s) + 1, q)) ∧
  (∀ dt h a m s k r i, Accepts k h 2 1 (later dt s) → m < 2 ^ 32 → a / 65536 ≠ 0x11 → regAt a = some (r, i) → a % 4 = 0 →
    m * 2 ^ (8 * (a - r.addr i)) &&& r.w1c ≠ 0 → r.base ≠ PLY_STATE.base → r.base ≠ SHU_TASK_STATE.base → r.base ≠ FBK_FB_FLAGS.base →
    r.addr i ∉ raiseAddrs → s.dev.w1cEdge ≠ edge (later dt s) + 1 → rd r i s.dev < 2 ^ r.width → Gives (.clearW1c dt h a m) s fun e =>
      Answered k h 0x21 0 (beBytes 8 (now (later dt s))) e ∧ rd r i e = rd r i s.dev - (rd r i s.dev &&& (m * 2 ^ (8 * (a - r.addr i)) &&& r.w1c))) ∧
  (∀ dt h p s k, Accepts k h 2 1 (later dt s) → p < 1024 → s.dev.w1cEdge ≠ edge (later dt s) + 1 → Gives (.plyStoppedClear dt h p) s fun e =>
    Answered k h 0x21 0 (beBytes 8 (now (later dt s))) e ∧ get PLY_STATE_STOPPED p e = 0 ∧
      (get PLY_STATE_STATE p s.dev = 2 → axisOfPly p s.dev = none → (e.plies.get {} p).restart = true) ∧
      (axisOfPly p s.dev ≠ none → (e.plies.get {} p).restart = (s.dev.plies.get {} p).restart)) ∧
  (∀ dt h t s k, Accepts k h 2 1 (later dt s) → t < 8 → s.dev.w1cEdge ≠ edge (later dt s) + 1 → Gives (.taskFaultClear dt h t) s fun e =>
    Answered k h 0x21 0 (beBytes 8 (now (later dt s))) e ∧ get SHU_TASK_STATE_FAULT t e = 0 ∧
      get SHU_TASK_STATE_STATE t e = if get SHU_TASK_STATE_STATE t s.dev = 4 then 1 else get SHU_TASK_STATE_STATE t s.dev) ∧
  (∀ dt h n s k, Accepts k h 2 1 (later dt s) → n < 24 → s.dev.w1cEdge ≠ edge (later dt s) + 1 → get FBK_FB_FLAGS_FAULTY n s.dev = 1 →
    fbCondNow n s.dev = false → (s.dev.fbs.get {} n).condEdge = 0 → Gives (.fbFaultyClear dt h n) s fun e =>
      Answered k h 0x21 0 (beBytes 8 (now (later dt s))) e ∧ get FBK_FB_FLAGS_FAULTY n e = 0 ∧ (e.fbs.get {} n).idxRef = none)

/-- R407, R130, R131: streams and trace buffers. Arming gives a stream its destination and a new ARM_ID, and shows it ARMED; disarming leaves it OFF. An OFF
buffer that is armed fills anew, or is ARMED at once without PRE; a DONE buffer whose copy runs enters REARM; a host trigger waits for the next row, and is
counted as lost in DONE and REARM. -/
def Obligations.StreamsAndTraces : Prop :=
  (∀ dt h n addr port s k, Accepts k h 2 1 (later dt s) → addr < 2 ^ 32 → streamDefined n s.dev = true → Gives (.streamArm dt h n addr port) s fun e =>
    Answered k h 0x40 0 (beBytes 4 (get REC_STR_ARM_ARM_ID n e)) e ∧ get REC_STR_STATUS_STATE n e = 1 ∧ get ETH_STREAM_STATUS_ARMED n e = 1 ∧
      (e.streams.get {} n).dest = addr ∧ (e.streams.get {} n).body = [] ∧ (e.streams.get {} n).first = true) ∧
  (∀ dt h n s k, Accepts k h 2 1 (later dt s) → streamDefined n s.dev = true → Gives (.streamDisarm dt h n) s fun e =>
    Answered k h 0x41 0 [] e ∧ get REC_STR_STATUS_STATE n e = 0) ∧
  (∀ dt h b s k r, Accepts k h 2 1 (later dt s) → b < 8 → trcRec b s.dev = some r →
    (get PLY_TRC_STATUS_STATE b s.dev = 0 ∨ get PLY_TRC_STATUS_STATE b s.dev = 4 ∧ (s.dev.trcs.get {} b).copying = false) → Gives (.traceArm dt h b) s fun e =>
      Answered k h 0x42 0 [] e ∧ get PLY_TRC_STATUS_STATE b e = (if r.u P0503_PRE = 0 then 2 else 1) ∧ (e.trcs.get {} b).rows = [] ∧
        get PLY_TRC_STATUS_TRIG_LOST b e = 0) ∧
  (∀ dt h b s k r, Accepts k h 2 1 (later dt s) → b < 8 → trcRec b s.dev = some r → get PLY_TRC_STATUS_STATE b s.dev = 4 →
    (s.dev.trcs.get {} b).copying = true → Gives (.traceArm dt h b) s fun e =>
      Answered k h 0x42 0 [] e ∧ get PLY_TRC_STATUS_STATE b e = 5 ∧ e.trcs = s.dev.trcs) ∧
  (∀ dt h b s k r, Accepts k h 2 1 (later dt s) → trcRec b s.dev = some r → 1 ≤ get PLY_TRC_STATUS_STATE b s.dev → get PLY_TRC_STATUS_STATE b s.dev ≤ 3 →
    Gives (.traceTrigger dt h b) s fun e => Answered k h 0x43 0 (beBytes 8 (now (later dt s))) e ∧ (e.trcs.get {} b).host = true ∧ e.live = s.dev.live) ∧
  (∀ dt h b s k r, Accepts k h 2 1 (later dt s) → b < 8 → trcRec b s.dev = some r → 4 ≤ get PLY_TRC_STATUS_STATE b s.dev → get PLY_TRC_STATUS_STATE b s.dev ≤ 5 →
    Gives (.traceTrigger dt h b) s fun e => Answered k h 0x43 0 (beBytes 8 (now (later dt s))) e ∧ e.trcs = s.dev.trcs ∧
      get PLY_TRC_STATUS_TRIG_LOST b e = satU PLY_TRC_STATUS_TRIG_LOST.width (get PLY_TRC_STATUS_TRIG_LOST b s.dev + 1))

/-- R244: SHUTTLE_CTRL. A task that is not in a scan enters HOLD, one in a scan at its end; breakpoints are set; a single scan is asked for; a held or
broken task goes on. -/
def Obligations.ShuttleControl : Prop :=
  (∀ dt h tasks s k t, Accepts k h 3 1 (later dt s) → tasks < 256 → productionLocked s.dev = false → (∀ t, t < 8 → bit tasks t = true → (taskRec t s.dev).isSome = true) →
    t < 8 → bit tasks t = true → get SHU_TASK_STATE_STATE t s.dev = 1 → Gives (.shuttleHold dt h tasks []) s fun e =>
      Answered k h 0x50 0 (beBytes 8 (now (later dt s))) e ∧
        if (taskX t s.dev).live = true then (taskX t e).toHold = true ∧ get SHU_TASK_STATE_STATE t e = 1
        else get SHU_TASK_STATE_STATE t e = 2) ∧
  (∀ dt h tasks bk s k t, Accepts k h 3 1 (later dt s) → tasks < 256 → productionLocked s.dev = false →
    (∀ t, t < 8 → bit tasks t = true → (taskRec t s.dev).isSome = true) → bk ≠ [] → bk.length ≤ 4 → (∀ x ∈ bk, x < 65536) →
    t < 8 → bit tasks t = true → Gives (.shuttleHold dt h tasks bk) s fun e => Answered k h 0x50 0 (beBytes 8 (now (later dt s))) e ∧
      get SHU_TASK_STATE_BKPT_EN t e = 2 ^ bk.length - 1 ∧ get SHU_TASK_BKPT_BKPT0 t e = bk.headD 0) ∧
  (∀ dt h tasks s k t, Accepts k h 3 1 (later dt s) → tasks < 256 → productionLocked s.dev = false → (∀ t, t < 8 → bit tasks t = true → (taskRec t s.dev).isSome = true) →
    t < 8 → bit tasks t = true → Gives (.shuttleSingleScan dt h tasks) s fun e => Answered k h 0x50 0 (beBytes 8 (now (later dt s))) e ∧
      get SHU_TASK_STATE_SINGLE t e = 1 ∧ get SHU_TASK_STATE_STATE t e = get SHU_TASK_STATE_STATE t s.dev) ∧
  (∀ dt h tasks s k t, Accepts k h 3 1 (later dt s) → tasks < 256 → productionLocked s.dev = false → (∀ t, t < 8 → bit tasks t = true → (taskRec t s.dev).isSome = true) →
    t < 8 → bit tasks t = true → Gives (.shuttleResume dt h tasks) s fun e => Answered k h 0x50 0 (beBytes 8 (now (later dt s))) e ∧
      get SHU_TASK_STATE_BKPT_EN t e = 0 ∧ (get SHU_TASK_STATE_STATE t s.dev = 2 ∨ get SHU_TASK_STATE_STATE t s.dev = 3 →
        get SHU_TASK_STATE_STATE t e = 1 ∧ get SHU_TASK_STATE_SINGLE t e = 0))

/-- R40, R326: an accepted FUSE_WRITE blows the 1 bits of its field and answers the field as read back. -/
def Obligations.FuseWrite : Prop :=
  ∀ dt h field v s k lo w, Accepts k h 3 3 (later dt s) → fuseRange field = some (lo, w) → v < 2 ^ w →
    ∃ t, exec (.fuseWrite dt h field v) s = .next t ∧ t.ident = s.ident ∧ t.pending = s.pending ∧ t.fuses = blow field v s.fuses ∧
      bits t.fuses lo w = bits s.fuses lo w ||| v ∧ Answered k h 0xF0 0 (beBytes ((w + 7) / 8) (bits t.fuses lo w)) t.dev

/-- R47, R49, R326, R485: RESTART is answered and the unit starts again, warm only where the unit still ran or had stopped in order. An orderly stop asks every
hank that runs a recipe to hold. Once every hank is held or idle, or after 1 s, each running task with retained words owes the end of a scan; with none owed,
at once or when the last one's output edge has passed, the unit stops, with the retained words in the store. -/
def Obligations.ServiceRestarts : Prop :=
  (∀ dt h p s k, Accepts k h 3 4 (later dt s) → productionLocked s.dev = false → (s.dev.unit.stopped = false ∨ s.dev.unit.lastF4 = 0 ∨ s.dev.unit.noRestart = false) →
    Gives (.restartCold dt h p) s fun e => ∃ d, e = restartUnit true s.fuses s.ident p d ∧ Answered k h 0x70 0 [] d) ∧
  (∀ dt h p s k, Accepts k h 3 4 (later dt s) → productionLocked s.dev = false → (s.dev.unit.stopped = false ∨ s.dev.unit.lastF4 = 0 ∨ s.dev.unit.noRestart = false) →
    Gives (.restartWarm dt h p) s fun e => ∃ d, e = restartUnit (s.dev.unit.stopped && s.dev.unit.orderly != 2) s.fuses s.ident p d ∧
      Answered k h 0x70 0 [] d) ∧
  (∀ dt h s k, Accepts k h 3 4 (later dt s) → productionLocked s.dev = false → s.dev.unit.stopped = false → s.dev.unit.orderly = 0 →
    Gives (.orderlyStop dt h) s fun e => Answered k h 0x70 0 [] e ∧ e.unit = { s.dev.unit with orderly := 1, stopEdge := edge (later dt s) } ∧
      ∀ r ∈ recsOf 0x0A01 s.dev, get HANK_H_STATE_STATE (r.u P0A01_HANK) s.dev ≠ 0 → e.holdReq.get 0 (r.u P0A01_HANK) ≠ 0) ∧
  (∀ dt s, s.dev.unit.orderly = 1 → s.dev.unit.stopped = false →
    ((∀ r ∈ recsOf 0x0A01 s.dev, hankState (r.u P0A01_HANK) s.dev = 0 ∨ hankState (r.u P0A01_HANK) s.dev = 3) ∨
      400000000 ≤ since s.dev.unit.stopEdge (later dt s)) → Gives (.orderlyStopHoldWaitEnd dt) s fun e =>
      if ∀ t ∈ retainTasks s.dev, get SHU_TASK_STATE_STATE t s.dev ≠ 1 then StoppedInOrder (later dt s) e
      else e.unit.orderly = 3 ∧ (∀ t, t ∈ e.unit.owing ↔ t ∈ retainTasks s.dev ∧ get SHU_TASK_STATE_STATE t s.dev = 1) ∧
        e = { later dt s with unit := e.unit }) ∧
  (∀ dt s, s.dev.unit.orderly = 3 → s.dev.unit.stopped = false → s.dev.unit.owing = [] →
    Gives (.orderlyStopHoldWaitEnd dt) s fun e => StoppedInOrder (later dt s) e) ∧
  (∀ dt s, s.dev.unit.orderly = 1 → (∃ r ∈ recsOf 0x0A01 s.dev, hankState (r.u P0A01_HANK) s.dev ≠ 0 ∧ hankState (r.u P0A01_HANK) s.dev ≠ 3) →
    since s.dev.unit.stopEdge (later dt s) < 400000000 → Gives (.orderlyStopHoldWaitEnd dt) s fun e => e = later dt s)

/-- R45, R51, R326: the exchange's commands. The first transfer erases the other copy and enters RECEIVING, its bytes behind the header page are programmed and the
header waits; the next one goes on where the last ended; a commit in STAGED sets S_c; an abort erases the header's sector. -/
def Obligations.ExchangeCommands : Prop :=
  (∀ dt h bs s k, Accepts k h 3 2 (later dt s) → bs ≠ [] → bs.length ≤ 1024 → bs.length % 4 = 0 → (∀ b ∈ bs, b ≤ 255) → mayExchange s.dev = true → get FUSE_XCHG_STATE 0 s.dev = 0 →
    ¬ (isMember s.dev = true ∧ (s.dev.pairx.partnerState = 3 ∨ s.dev.pairx.partnerState = 4)) → Gives (.imageTransfer dt h 0 bs) s fun e =>
      Answered k h 0x60 0 [] e ∧ e.xchg.got = bs.length ∧ e.xchg.header = bs.take 256 ∧ e.xchg.lastEdge = edge (later dt s) ∧
        e.flash = flashPut (otherBase s.dev + 256) (bs.drop 256) (flashErase (otherBase s.dev) (otherBase s.dev + 0x800000) s.dev.flash) ∧
        get FUSE_XCHG_STATE 0 e = (match xchgLength e.xchg with | some n => if n ≤ bs.length then 2 else 1 | none => 1)) ∧
  (∀ dt h off bs s k, Accepts k h 3 2 (later dt s) → bs ≠ [] → bs.length ≤ 1024 → bs.length % 4 = 0 → (∀ b ∈ bs, b ≤ 255) → mayExchange s.dev = true → 0 < off → get FUSE_XCHG_STATE 0 s.dev = 1 →
    off = s.dev.xchg.got → off + bs.length ≤ 0x800000 → Gives (.imageTransfer dt h off bs) s fun e =>
      Answered k h 0x60 0 [] e ∧ e.xchg.got = off + bs.length ∧ e.xchg.header = s.dev.xchg.header ++ bs.take (256 - off) ∧
        e.flash = flashPut (otherBase s.dev + max off 256) (bs.drop (256 - off)) s.dev.flash) ∧
  (∀ dt h sc s k, Accepts k h 3 2 (later dt s) → sc < 2 ^ 64 → mayExchange s.dev = true → get FUSE_XCHG_STATE 0 s.dev = 3 → now (later dt s) + 6400000 ≤ sc →
    sc ≤ now (later dt s) + 64000000000 → Gives (.imageCommit dt h sc) s fun e => Answered k h 0x61 0 [] e ∧ get FUSE_XCHG_STATE 0 e = 4 ∧
      get FUSE_XCHG_STAMP_S_C 0 e = sc ∧ e.xchg = { s.dev.xchg with sc := sc }) ∧
  (∀ dt h s k, Accepts k h 3 2 (later dt s) → mayExchange s.dev = true → (get FUSE_XCHG_STATE 0 s.dev = 1 ∨ get FUSE_XCHG_STATE 0 s.dev = 3) → Gives (.imageAbort dt h) s fun e =>
    Answered k h 0x62 0 [] e ∧ get FUSE_XCHG_STATE 0 e = 0 ∧ get FUSE_XCHG_ABORTED 0 e = 1 ∧ e.next = none ∧ e.xchg = {} ∧
      e.flash = flashErase (otherBase s.dev) (otherBase s.dev + 4096) s.dev.flash) ∧
  (∀ dt h off bs sc s k i, (i = .imageTransfer dt h off bs ∧ bs ≠ [] ∧ bs.length ≤ 1024 ∧ bs.length % 4 = 0 ∧ (∀ b ∈ bs, b ≤ 255) ∧ off < 2 ^ 32) ∨
      (i = .imageCommit dt h sc ∧ sc < 2 ^ 64) ∨ i = .imageAbort dt h → Accepts k h 3 2 (later dt s) → mayExchange s.dev = false → Gives i s fun e =>
      (e.eth.sess.get {} k).last = h.seq ∧ e.flash = s.dev.flash ∧ e.xchg = s.dev.xchg ∧ e.live = s.dev.live)

/-- R50, R51, R45: how an exchange's verification ends. 10 s without a transfer message end it; an image that passes goes to its header page and, alone, is STAGED with
the new image at hand, with a partner it waits for the standby's report; a standby is STAGED and reports it; in LOAD_FAIL, and in a unit that joins, the unit starts with
it; a refused image, and a standby that does not report for 30 s, end the exchange. -/
def Obligations.ExchangeEvents : Prop :=
  (∀ dt s, get FUSE_XCHG_STATE 0 s.dev = 1 → 4000000000 ≤ since s.dev.xchg.lastEdge (later dt s) → Gives (.exchangeTransferTimeout dt) s fun e =>
    get FUSE_XCHG_STATE 0 e = 0 ∧ get FUSE_XCHG_ABORTED 0 e = 1 ∧ e.xchg = {} ∧ e.flash = flashErase (otherBase s.dev) (otherBase s.dev + 4096) s.dev.flash) ∧
  (∀ dt p s o, get FUSE_XCHG_STATE 0 s.dev = 2 → s.dev.xchg.headerDone = false → xchgCheck s.fuses s.ident (later dt s) = .ok o → s.dev.unit.phase = .run →
    s.dev.xchg.fromPair = false → pairState s.dev ≠ 5 → Gives (.exchangeReadbackDone dt p) s fun e => e.next = some o ∧ e.img = s.dev.img ∧
      e.flash = flashPut (otherBase s.dev) s.dev.xchg.header s.dev.flash ∧ e.xchg.headerDone = true ∧
      get FUSE_XCHG_STATE 0 e = if s.dev.xchg.partner = false ∨ s.dev.xchg.standbyStaged = true then 3 else 2) ∧
  (∀ dt p s o, get FUSE_XCHG_STATE 0 s.dev = 2 → s.dev.xchg.headerDone = false → xchgCheck s.fuses s.ident (later dt s) = .ok o → s.dev.unit.phase = .run →
    s.dev.xchg.fromPair = false → pairState s.dev = 5 → Gives (.exchangeReadbackDone dt p) s fun e => e.next = some o ∧ e.img = s.dev.img ∧
      e.flash = flashPut (otherBase s.dev) s.dev.xchg.header s.dev.flash ∧ get FUSE_XCHG_STATE 0 e = 3 ∧
        e.out = s.dev.out ++ [⟨.pair, 0, linkFrame s.dev.pairx.txSeq 5 [3]⟩]) ∧
  (∀ dt p s o, get FUSE_XCHG_STATE 0 s.dev = 2 → s.dev.xchg.headerDone = false → xchgCheck s.fuses s.ident (later dt s) = .ok o →
    s.dev.unit.phase = .loadFail ∨ s.dev.xchg.fromPair = true → Gives (.exchangeReadbackDone dt p) s fun e =>
      ∃ d, e = restartUnit false s.fuses s.ident p d ∧ d.flash = flashPut (otherBase s.dev) s.dev.xchg.header s.dev.flash ∧ d.unit = s.dev.unit) ∧
  (∀ dt p s r, get FUSE_XCHG_STATE 0 s.dev = 2 → s.dev.xchg.headerDone = false → xchgCheck s.fuses s.ident (later dt s) = .error (some r) →
    s.dev.xchg.fromPair = false → Gives (.exchangeReadbackDone dt p) s fun e => e.next = none ∧ e.xchg = {} ∧ e.img = s.dev.img ∧
      get FUSE_XCHG_CAUSE 0 e = r.code % 256 ∧ get FUSE_XCHG_STATE 0 e = 0 ∧
        e.flash = flashErase (otherBase s.dev) (otherBase s.dev + 4096) s.dev.flash) ∧
  (∀ dt p s, get FUSE_XCHG_STATE 0 s.dev = 2 → s.dev.xchg.headerDone = false → xchgCheck s.fuses s.ident (later dt s) = .error none →
    s.dev.xchg.fromPair = false → Gives (.exchangeReadbackDone dt p) s fun e => e.next = none ∧ e.xchg = {} ∧ e.img = s.dev.img ∧ get FUSE_XCHG_STATE 0 e = 0) ∧
  (∀ dt s, get FUSE_XCHG_STATE 0 s.dev = 2 → s.dev.xchg.headerDone = true → 12000000000 ≤ since s.dev.xchg.headerEdge (later dt s) →
    Gives (.exchangeStageTimeout dt) s fun e => e.next = none ∧ e.xchg = {} ∧ get FUSE_XCHG_STATE 0 e = 0 ∧ get FUSE_XCHG_ABORTED 0 e = 1)

/-- R339, R340, R343: what the events of a CAN controller on the bus do. Integration and recovery lead to ACTIVE (state 2, recovery with
both error counters 0), the end of BUSOFF_HOLD to recovery (5); a reception error raises REC by 1 or 8 up to 255,
a counting transmission error TEC by 8 with the frame kept in its buffer.
R341 to R343, R346: frames on a CAN controller. A received frame is counted, and one that no filter takes is counted as unmatched; one
for the control queue enters it with VALID_STAMP at the present edge; 2 µs after that it leaves the queue and its pair's strands are good
again; a pair without a delivery for TIMEOUT goes stale; a frame sent without error leaves the unit with TEC one lower. -/
def Obligations.CanBus : Prop :=
  ((∀ dt c s, c < 4 → canState c s.dev = 1 → Gives (.canIntegrationDone dt c) s fun e => canState c e = 2 ∧ e.cans = s.dev.cans) ∧
  (∀ dt c s r, c < 4 → canRec c s.dev = some r → canState c s.dev = 4 →
    r.u P0D01_BUSOFF_HOLD * 400000 ≤ since (canX c s.dev).offEdge (later dt s) →
    Gives (.canBusoffHoldExpiry dt c) s fun e => canState c e = 5 ∧ e.cans = s.dev.cans) ∧
  (∀ dt c s, c < 4 → canState c s.dev = 5 → recoveryEdges c s.dev ≤ since (canX c s.dev).offEdge (later dt s) → Gives (.canRecoveryDone dt c) s fun e =>
    canState c e = 2 ∧ (canX c e).tec = 0 ∧ (canX c e).rec_ = 0 ∧ get CAN_C_STATE_TEC c e = 0 ∧ get CAN_C_STATE_REC c e = 0) ∧
  (∀ dt c kind s, c < 4 → (canRec c s.dev).isSome = true → canOnBus c s.dev = true → Gives (.canBusError dt c kind) s fun e =>
    (canX c e).rec_ = min 255 ((canX c s.dev).rec_ + if kind = 0 then 1 else 8) ∧ (canX c e).tec = (canX c s.dev).tec) ∧
  (∀ dt c b began tdc s r, c < 4 → txRec c b s.dev = some r → canOnBus c s.dev = true → offered c b (edge (later dt s) - began) s.dev = true →
    Gives (.canTxError dt c b 1 began tdc) s fun e =>
      (canX c e).tec = (canX c s.dev).tec + 8 ∧ (canX c e).rec_ = (canX c s.dev).rec_ ∧
        ((canX c s.dev).bufs.get {} b).loads.getLast? = ((canX c e).bufs.get {} b).loads.getLast?)) ∧
  ((∀ dt c f s r, c < 4 → canRec c s.dev = some r → canOnBus c s.dev = true → filterRec c s.dev = none → Gives (.canFrameRx dt c f) s fun e =>
    get CAN_C_COUNT_RX c e = (get CAN_C_COUNT_RX c s.dev + 1) % 2 ^ 32 ∧
      get CAN_C_DROPS_UNMATCHED c e = satU 16 (get CAN_C_DROPS_UNMATCHED c s.dev + 1)) ∧
  (∀ dt c f s r q i, c < 4 → canRec c s.dev = some r → canState c s.dev = 2 → (canX c s.dev).tec < 128 → (canX c s.dev).rec_ < 128 →
    f.rtr = false → filterRec c s.dev = some q → matchPair q f = some i → bit (q.u P0D02_FLAGS i) 1 = false → bit (q.u P0D02_FLAGS i) 2 = false →
    isStandby s.dev = false → (canX c s.dev).q0.length < 64 → Gives (.canFrameRx dt c f) s fun e =>
      ∃ x : CanRx, (canX c e).q0 = (canX c s.dev).q0 ++ [x] ∧ x.frame = f ∧ x.valid = now (later dt s) ∧ x.pair = q.u P0D02_PAIR i) ∧
  (∀ dt c s q t r, c < 4 → (canX c s.dev).q0 = q :: t → mapRec c s.dev = some r → q.valid + 2 * us16 ≤ now (later dt s) →
    Gives (.canDelivery dt c) s fun e => (canX c e).q0 = t ∧ (canX c e).lastAt.get 0 q.pair = edge (later dt s) ∧
      ∀ id ∈ pairStrands c q.pair s.dev, id ∉ e.stale) ∧
  (∀ dt c pair s r i, c < 4 → filterRec c s.dev = some r → (List.range (r.uAt 1 1)).find? (fun i => r.u P0D02_PAIR i == pair) = some i →
    r.u P0D02_TIMEOUT i ≠ 0 → r.u P0D02_TIMEOUT i * 400000 ≤ since ((canX c s.dev).lastAt.get 0 pair) (later dt s) →
    isActiveFault 0x0D04 (c * 64 + pair) s.dev = false → Gives (.canPairTimeout dt c pair) s fun e => get CAN_C_FLAGS_STALE c e = 1 ∧ ∀ id ∈ pairStrands c pair s.dev, id ∈ e.stale) ∧
  (∀ dt c b began tdc s r n data, c < 4 → txRec c b s.dev = some r →
    loadAt (edge (later dt s) - began) ((canX c s.dev).bufs.get {} b) = some (n, data) → canOnBus c s.dev = true →
    offered c b (edge (later dt s) - began) s.dev = true → tdcOut c tdc r s.dev = false → Gives (.canTxComplete dt c b began tdc) s fun e =>
      e.out = s.dev.out ++ [⟨.can, c * 32 + b, canOut r (r.b P0D03_FLAGS 1 && canState c s.dev == 3) data⟩] ∧
        (canX c e).tec = (canX c s.dev).tec - 1))

/-- R350, R352: a conversion of an INPUT or AC_SENSE loop port, no sooner than its interval after the last one, is kept as the newest of the last four; HEADROOM set and cleared. -/
def Obligations.LoopPortEvents : Prop :=
  (∀ dt n v s r, n < 8 → loopRec n s.dev = some r → r.u P0E01_MODE ≠ 2 →
    (loopX n s.dev).conv = [] ∨ (loopX n s.dev).convEdge + (if r.u P0E01_MODE = 3 then 4000 else 40000) ≤ edge (later dt s) →
    Gives (.lpConversion dt n v) s fun e =>
    (loopX n e).conv = ((now (later dt s), v) :: (loopX n s.dev).conv).take 4 ∧
      (recsOf 0x0302 s.dev = [] → { e with loops := s.dev.loops } = later dt s)) ∧
  (∀ dt n s r, n < 8 → loopRec n s.dev = some r → r.u P0E01_MODE = 2 → Gives (.lpHeadroomSet dt n) s fun e =>
    get LPP_P_STATE_STATUS n e = 3 ∧ get LPP_P_STATE_HEADROOM_NOW n e = 1 ∧ get LPP_P_FLAGS_HEADROOM n e = 1) ∧
  (∀ dt n s, n < 8 → get LPP_P_STATE_STATUS n s.dev = 3 → 4000000 ≤ since (loopX n s.dev).limEdge (later dt s) → Gives (.lpHeadroomClear dt n) s fun e =>
    get LPP_P_STATE_STATUS n e = 0 ∧ get LPP_P_STATE_HEADROOM_NOW n e = 0 ∧ get LPP_P_FLAGS_HEADROOM n e = get LPP_P_FLAGS_HEADROOM n s.dev)

/-- R354, R356: one HART transaction. A due entry of an idle port is sent as a request; its end starts the response timer; a good response
is kept for its delivery and silence begins; a missing one is repeated up to the retries, and then fails with HART_FAIL; after 8 character
times of silence the repetition is sent; 100 µs after its checksum a response is delivered with its two status bytes shown. -/
def Obligations.HartTransaction : Prop :=
  (∀ dt n i s r, n < 8 → pollRec n s.dev = some r → i < r.uAt 1 1 → pollDue n r i (later dt s) = true → (loopX n s.dev).phase = 0 →
    isStandby s.dev = false → Gives (.hartPollDue dt n i) s fun e => (loopX n e).phase = 1 ∧ (loopX n e).edge = edge (later dt s) ∧
      e.out = s.dev.out ++ [⟨.hart, n, hartRequest r (loopX n e).entry⟩] ∧ get LPP_P_STATE_ENTRY n e = (loopX n e).entry % 16) ∧
  (∀ dt n s, (loopX n s.dev).phase = 1 → Gives (.hartRequestSent dt n) s fun e =>
    (loopX n e).phase = 2 ∧ (loopX n e).edge = edge (later dt s) ∧ { e with loops := s.dev.loops } = later dt s) ∧
  (∀ dt n bs s r, pollRec n s.dev = some r → (loopX n s.dev).phase = 2 → hartForeign bs = false → hartGood r (loopX n s.dev).entry bs = true →
    Gives (.hartResponseRx dt n bs true) s fun e => (loopX n e).phase = 3 ∧
      (loopX n e).resp = (loopX n s.dev).resp ++ [(now (later dt s), (loopX n s.dev).entry, (bs.drop 8).take (bs.getD 7 0))]) ∧
  (∀ dt n s r, pollRec n s.dev = some r → (loopX n s.dev).phase = 2 → r.uAt 4 2 * 400000 ≤ since (loopX n s.dev).edge (later dt s) →
    (loopX n s.dev).fails < r.uAt 3 1 → Gives (.hartResponseTimeout dt n) s fun e =>
      (loopX n e).phase = 3 ∧ (loopX n e).again = true ∧ (loopX n e).fails = (loopX n s.dev).fails + 1) ∧
  (∀ dt n s r, n < 8 → pollRec n s.dev = some r → (loopX n s.dev).phase = 2 → r.uAt 4 2 * 400000 ≤ since (loopX n s.dev).edge (later dt s) →
    r.uAt 3 1 ≤ (loopX n s.dev).fails → Gives (.hartResponseTimeout dt n) s fun e =>
      (loopX n e).phase = 3 ∧ (loopX n e).again = false ∧ get LPP_P_FLAGS_HART_FAIL n e = 1) ∧
  (∀ dt n s r, pollRec n s.dev = some r → r.uAt 1 1 ≠ 0 → (loopX n s.dev).phase = 3 → (loopX n s.dev).again = true → isStandby s.dev = false →
    29333334 ≤ since (loopX n s.dev).edge (later dt s) → Gives (.hartSilenceEnd dt n) s fun e => (loopX n e).phase = 1 ∧
      (loopX n e).again = false ∧ e.out = s.dev.out ++ [⟨.hart, n, hartRequest r (loopX n s.dev).entry⟩]) ∧
  (∀ dt n s r t i body rest, n < 8 → pollRec n s.dev = some r → (loopX n s.dev).resp = (t, i, body) :: rest → t + 100 * us16 ≤ now (later dt s) →
    Gives (.hartDelivery dt n) s fun e => (loopX n e).resp = rest ∧ get LPP_P_HART_RESPONSE_CODE n e = body.getD 0 0 % 256 ∧
      get LPP_P_HART_DEVICE_STATUS n e = body.getD 1 0 % 256)

/-- R295: the heddle. A cold-start mark of an own sync slot opens a span while BLOCKED; an ARMED heddle opens the span of a mark within
its tolerance and blocks on one outside it, with HEDDLE_BLOCK set; a mark that stays out blocks too; the span closes at its end; without
GDCLK the heddle is in NO_CLOCK, and its return, 1 ms after
the loss or later, leaves it BLOCKED. -/
def Obligations.HeddleStates : Prop :=
  (∀ dt sl s, heddle s.dev = 0 → slotOwn sl s.dev = true → coldAllowed (later dt s) = true → slotSync sl s.dev = true →
    Gives (.heddleMark dt sl true) s fun e => heddle e = 0 ∧ e.weft.mark = some (sl, edge (later dt s)) ∧ e.weft.span =
      some (sl, edge (later dt s) + nsEdges (selvage s.dev), edge (later dt s) + nsEdges (slotU P0B02_LENGTH sl s.dev) - nsEdges (selvage s.dev))) ∧
  (∀ dt sl cold s, heddle s.dev = 1 → slotOwn sl s.dev = true → markFits sl (later dt s) = true → Gives (.heddleMark dt sl cold) s fun e =>
    heddle e = 1 ∧ e.weft.mark = some (sl, edge (later dt s)) ∧ e.weft.span =
      some (sl, edge (later dt s) + nsEdges (selvage s.dev), edge (later dt s) + nsEdges (slotU P0B02_LENGTH sl s.dev) - nsEdges (selvage s.dev))) ∧
  (∀ dt sl cold s, heddle s.dev = 1 → slotOwn sl s.dev = true → markFits sl (later dt s) = false → Gives (.heddleMark dt sl cold) s fun e =>
    heddle e = 0 ∧ get WEFT_FLAGS_HEDDLE_BLOCK 0 e = 1 ∧ e.weft.span = none) ∧
  (∀ dt s sl m, heddle s.dev = 1 → s.dev.weft.mark = some (sl, m) →
    0 < (markError m (nextMark sl s.dev).2 (later dt s)).1 →
    (markError m (nextMark sl s.dev).2 (later dt s)).2 < 10000 * (markError m (nextMark sl s.dev).2 (later dt s)).1.natAbs →
    Gives (.heddleMarkMissing dt) s fun e => heddle e = 0 ∧ get WEFT_FLAGS_HEDDLE_BLOCK 0 e = 1 ∧ e.weft.span = none) ∧
  (∀ dt run s sl lo hi, s.dev.weft.span = some (sl, lo, hi) → hi ≤ edge (later dt s) → Gives (.heddleSpanEnd dt run) s fun e =>
    e.weft.span = none ∧ get WEFT_FLAGS_HEDDLE_VIOL 0 e = if run || (airBit (later dt s)).isSome then 1 else get WEFT_FLAGS_HEDDLE_VIOL 0 s.dev) ∧
  (∀ dt s, heddle s.dev ≠ 2 → Gives (.gdclkLost dt) s fun e =>
    heddle e = 2 ∧ get WEFT_FLAGS_GDCLK_LOST 0 e = 1 ∧ e.weft.span = none ∧ e.weft.mark = none) ∧
  (∀ dt s, heddle s.dev = 2 → s.dev.weft.gdclkAt + 400000 ≤ edge (later dt s) → Gives (.gdclkReturn dt) s fun e => heddle e = 0 ∧ KeepsBut [WEFT_STATUS.addr 0] (later dt s) e)

/-- R281, R285, R287: a frame with a wrong CRC is counted on its channel and changes nothing the schedule uses; a valid one in SYNC waits for
its delivery; the assembly of an own slot fixes the words that stand at its close; at the action point an open shed lets the frame out.
R278, R283: the line code keeps every character of a frame, and each of its code groups holds four to six ones. -/
def Obligations.WeftFrames : Prop :=
  (∀ dt ch f s, chanOn ch s.dev = true → weftState s.dev = 4 → f.slot < weftSlots s.dev → f.good = false → f.cause = 3 →
    Gives (.weftFrameRx dt ch f) s fun e => e.weft = s.dev.weft ∧ get WEFT_CHAN_ERR_CRC ch e = satU 16 (get WEFT_CHAN_ERR_CRC ch s.dev + 1) ∧
      get WEFT_SLOT_STATUS_CAUSE f.slot e = 3) ∧
  (∀ dt ch f s, chanOn ch s.dev = true → weftState s.dev = 4 → f.slot < weftSlots s.dev → f.good = true →
    (nearestCycle ch f.slot f.sof (later dt s)).2.natAbs ≤ 64 * selvage s.dev → headerOk f.slot f s.dev = true →
    f.cycle % 65536 = (nearestCycle ch f.slot f.sof (later dt s)).1 % 65536 → Gives (.weftFrameRx dt ch f) s fun e =>
      e.weft.rx = s.dev.weft.rx ++ [⟨f.slot, ch, (nearestCycle ch f.slot f.sof (later dt s)).1, (nearestCycle ch f.slot f.sof (later dt s)).2, f⟩]) ∧
  (∀ dt sl s, s.dev.weft.timed = true → slotOwn sl s.dev = true →
    (s.dev.weft.asm.get {} (2 * sl + s.dev.weft.n % 2)).cycle1 ≠ s.dev.weft.n + 1 →
    startOf s.dev.weft.n s.dev + ns16 (slotU P0B02_OFFSET sl s.dev) - us16 ≤ (now (later dt s) : Int) →
    (now (later dt s) : Int) ≤ actionPoint sl s.dev.weft.n s.dev → Gives (.weftAssemblyClose dt sl) s fun e =>
      (e.weft.asm.get {} (2 * sl + s.dev.weft.n % 2)).cycle1 = s.dev.weft.n + 1 ∧
      (e.weft.asm.get {} (2 * sl + s.dev.weft.n % 2)).words = slotWords sl (settleTx (later dt s)) ∧
      (e.weft.asm.get {} (2 * sl + s.dev.weft.n % 2)).sent = false ∧ e.live = s.dev.live) ∧
  (∀ dt sl s, s.dev.weft.timed = true → slotOwn sl s.dev = true →
    (s.dev.weft.asm.get {} (2 * sl + s.dev.weft.n % 2)).cycle1 = s.dev.weft.n + 1 →
    (s.dev.weft.asm.get {} (2 * sl + s.dev.weft.n % 2)).sends = true → (s.dev.weft.asm.get {} (2 * sl + s.dev.weft.n % 2)).sent = false →
    (s.dev.weft.asm.get {} (2 * sl + s.dev.weft.n % 2)).unready = false → actionPoint sl s.dev.weft.n s.dev ≤ (now (later dt s) : Int) →
    shedOpen sl (later dt s) = true → Gives (.weftFrameTx dt sl) s fun e =>
      (e.weft.asm.get {} (2 * sl + s.dev.weft.n % 2)).sent = true ∧ e.live = s.dev.live ∧
      ∃ m, e.out = s.dev.out ++ [⟨.weft, m, frameLine (weftBytes sl s.dev.weft.n (s.dev.weft.asm.get {} (2 * sl + s.dev.weft.n % 2)).typ
        (s.dev.weft.asm.get {} (2 * sl + s.dev.weft.n % 2)).epoch (s.dev.weft.asm.get {} (2 * sl + s.dev.weft.n % 2)).carried s.dev)⟩]) ∧
  (∀ bs bs', (∀ b ∈ bs, b < 256) → (∀ b ∈ bs', b < 256) → frameLine bs = frameLine bs' → bs = bs') ∧
  (∀ plus bs g, g ∈ codeGroups plus bs → 4 ≤ onesOf 10 g ∧ onesOf 10 g ≤ 6)

/-- R288, R297, R299, R301: a slot whose delivery edge has come is delivered once a cycle; a cycle ends once; a listening node that may not
cold-start listens again, one that may sends COLDSTART alone; a missing echo counts a collision; a node that lost sync listens again after
a whole cycle, and reintegration ends at its time limit. -/
def Obligations.WeftCycle : Prop :=
  (∀ dt sl s c, s.dev.weft.timed = true → sl < weftSlots s.dev →
    (s.dev.weft.n : Int) + ((now (later dt s) : Int) - s.dev.weft.start -
      ns16 (slotU P0B02_OFFSET sl s.dev + slotU P0B02_LENGTH sl s.dev + orD (schedRec s.dev) P0B02_RX_LAG 0)) / weftCycle16 s.dev = (c : Nat) →
    (s.dev.weft.got.get {} sl).next ≤ c → Gives (.weftDelivery dt sl) s fun e => (e.weft.got.get {} sl).next = c + 1) ∧
  (∀ dt s, s.dev.weft.timed = true → weftState s.dev ≠ 0 → s.dev.weft.start + weftCycle16 s.dev ≤ now (later dt s) → s.dev.unit.phase = .run →
    recsOf 0x0B04 s.dev = [] → s.dev.pairx.joinReq = false → Gives (.weftCycleEnd dt) s fun e =>
      e.weft.n = s.dev.weft.n + 1 ∧ e.weft.start = s.dev.weft.start + weftCycle16 s.dev ∧
      get WEFT_CYCLE_NUMBER 0 e = (s.dev.weft.n + 1) % 2 ^ 48 ∧ get WEFT_CYCLE_START_STAMP 0 e = (s.dev.weft.start + weftCycle16 s.dev) % 2 ^ 64) ∧
  (∀ dt s, weftState s.dev = 1 → s.dev.weft.dead = false → s.dev.weft.listenUntil ≤ edge (later dt s) →
    (bit (orD (nodeRec s.dev) P0B01_FLAGS 0) 0 = false ∨ s.dev.unit.stopped = true) → Gives (.listenTimeout dt) s fun e =>
      weftState e = 1 ∧ e.weft.listenUntil = edge (later dt s) + listenEdges s.dev ∧ KeepsBut [WEFT_STATUS.addr 0] { later dt s with weft := e.weft } e) ∧
  (∀ dt s sl, weftState s.dev = 1 → s.dev.weft.dead = false → s.dev.weft.listenUntil ≤ edge (later dt s) →
    bit (orD (nodeRec s.dev) P0B01_FLAGS 0) 0 = true → s.dev.unit.stopped = false → syncSlotOf (ownNode s.dev) s.dev = some sl →
    Gives (.listenTimeout dt) s fun e => weftState e = 2 ∧ get WEFT_STATUS_ALONE 0 e = 0 ∧ e.weft.timed = true ∧ e.weft.n = 0) ∧
  (∀ dt s, weftState s.dev = 2 → s.dev.weft.echoBy ≠ 0 → s.dev.weft.echoBy - 1 ≤ edge (later dt s) → Gives (.coldstartEchoDeadline dt) s fun e =>
    weftState e = 1 ∧ get WEFT_FLAGS_COLLISION 0 e = 1 ∧ e.weft.timed = false ∧ e.weft.echoBy = 0) ∧
  (∀ dt s, weftState s.dev = 5 → s.dev.weft.lostAt + weftCycle16 s.dev ≤ now (later dt s) → Gives (.syncLostRelisten dt) s fun e =>
    weftState e = 1 ∧ e.weft.listenUntil = edge (later dt s) + listenEdges s.dev) ∧
  (∀ dt s, s.dev.weft.reint = true → s.dev.weft.dead = false →
    s.dev.weft.lostAt + orD (nodeRec s.dev) P0B01_REINT_CYCLES 0 * weftCycle16 s.dev ≤ now (later dt s) → Gives (.reintTimeout dt) s fun e =>
      weftState e = 1 ∧ e.weft.dead = true ∧ get WEFT_FLAGS_REINT_FAIL 0 e = 1)

/-- R311, R312, R316: ports of the switch. A link change shows in LINK, and a loss in LINK_LOST; an address 300 s old leaves the table; a
damaged frame is counted as such and a good one as received; a queued frame that no PTP stamp concerns leaves the port; an aged frame sets
RX_AGED.
R313: an ARP request and an ICMP echo request to the unit are answered on the port they came in on, to the sender; an answer that finds
its queue full is counted. -/
def Obligations.EthernetTraffic : Prop :=
  ((∀ dt p s, p < 3 → portOn p s.dev = true → Gives (.ethLinkChange dt p true) s fun e => get ETH_PORT_STATUS_LINK p e = 1) ∧
  (∀ dt p s, p < 3 → portOn p s.dev = true → flag ETH_PORT_STATUS_LINK p s.dev = true → Gives (.ethLinkChange dt p false) s fun e =>
    get ETH_PORT_STATUS_LINK p e = 0 ∧ get ETH_PORT_STATUS_LINK_LOST p e = 1) ∧
  (∀ dt mac s k q ed, s.dev.eth.table.find? (·.1 == mac) = some (k, q, ed) → 120000000000 ≤ since ed (later dt s) →
    Gives (.addressTableAgeOut dt mac) s fun e => (∀ x ∈ e.eth.table, x.1 ≠ mac) ∧ (∀ x ∈ s.dev.eth.table, x.1 ≠ mac → x ∈ e.eth.table) ∧
      { e with eth := s.dev.eth } = later dt s) ∧
  (∀ dt p f s, p < 3 → portOn p s.dev = true → flag ETH_PORT_STATUS_LINK p s.dev = true → f.bad = true → Gives (.ethFrameRx dt p f) s fun e =>
    get ETH_PORT_DROP_RX_ERR p e = satU 16 (get ETH_PORT_DROP_RX_ERR p s.dev + 1) ∧ KeepsBut [ETH_PORT_DROP.addr p] (later dt s) e) ∧
  (∀ dt p f s, p < 3 → portOn p s.dev = true → flag ETH_PORT_STATUS_LINK p s.dev = true → f.bad = false → Gives (.ethFrameRx dt p f) s fun e =>
    get ETH_PORT_COUNT_RX p e = (get ETH_PORT_COUNT_RX p s.dev + 1) % 2 ^ 32) ∧
  (∀ dt p s t, p < 3 → portOn p s.dev = true → flag ETH_PORT_STATUS_LINK p s.dev = true →
    (s.dev.eth.queues.get [] p).find? (fun x => x.q == (s.dev.eth.queues.get [] p).foldl (fun m t => max m t.q) 0) = some t →
    t.stream = 0 → t.ptp = 0 → Gives (.ethFrameTx dt p) s fun e => e.eth.queues.get [] p = (s.dev.eth.queues.get [] p).erase t ∧
      get ETH_PORT_COUNT_TX p e = (get ETH_PORT_COUNT_TX p s.dev + 1) % 2 ^ 32 ∧ ∃ bs, e.out = s.dev.out ++ [⟨.ethernet, p, bs⟩]) ∧
  (∀ dt s, Gives (.ethRxAged dt) s fun e => get ETH_STATUS_RX_AGED 0 e = 1)) ∧
  ((∀ dt p f s, p < 3 → portOn p s.dev = true → f.etherType = 0x0806 → f.bytes.take 8 = [0, 1, 8, 0, 6, 4, 0, 1] →
    beVal ((f.bytes.drop 24).take 4) = ownIp s.dev → Gives (.arpRequest dt p f) s fun e =>
      if Config.ethQueueDepth p ≤ ((s.dev.eth.queues.get [] p).filter fun x => x.q == 1).length then
        get ETH_PORT_DROP_QUEUE_FULL p e = satU 16 (get ETH_PORT_DROP_QUEUE_FULL p s.dev + 1)
      else ∃ t : EthTx, e.eth.queues.get [] p = s.dev.eth.queues.get [] p ++ [t] ∧ t.frame.dst = beVal ((f.bytes.drop 8).take 6) ∧
        t.frame.src = ownMac s.dev ∧ t.frame.etherType = 0x0806) ∧
  (∀ dt p f s, p < 3 → portOn p s.dev = true → isEcho f s.dev = true → Gives (.icmpEchoRequest dt p f) s fun e =>
      if Config.ethQueueDepth p ≤ ((s.dev.eth.queues.get [] p).filter fun x => x.q == 1).length then
        get ETH_PORT_DROP_QUEUE_FULL p e = satU 16 (get ETH_PORT_DROP_QUEUE_FULL p s.dev + 1)
      else ∃ t : EthTx, e.eth.queues.get [] p = s.dev.eth.queues.get [] p ++ [t] ∧ t.frame.dst = f.src ∧ t.frame.src = ownMac s.dev ∧
        t.frame.etherType = 0x0800))

/-- R317 to R321: what a PTP message of the unit's domain on PTP_PORT does. An Announce enters the list of foreign masters; a two-step Sync
waits for its Follow_Up, which ends the wait; a Delay_Req reaches a MASTER's queue as Delay_Resp; a Delay_Resp for the last Delay_Req makes
an UNCALIBRATED port SLAVE; Management and Signaling messages do nothing.
R317, R318, R320, R321: peer delays, timers and transmissions of the PTP port. A Pdelay_Req is answered; the answer to the unit's own
Pdelay_Req waits for its follow-up in two-step operation and counts at once otherwise; a silent foreign master leaves the list; four Sync
intervals without a Sync end the lock; at its interval a MASTER numbers and queues a Sync. -/
def Obligations.PtpTime : Prop :=
  ((∀ dt p m s r, onPtpPort p m s.dev = some r → Gives (.ptpAnnounce dt p m) s fun e =>
    ∃ f ∈ e.ptp.foreign, f.identity = m.identity ∧ f.portNum = m.portNum ∧ f.data = m.data ∧ f.seen.head? = some (edge (later dt s))) ∧
  (∀ dt p m s r, onPtpPort p m s.dev = some r → fromParent m s.dev = true → m.twoStep = true → Gives (.ptpSync dt p m) s fun e =>
    e.ptp.pend = some (m.seq, rxNs p (later dt s), m.correction) ∧ { e with ptp := s.dev.ptp } = later dt s) ∧
  (∀ dt p m s r q t c, onPtpPort p m s.dev = some r → fromParent m s.dev = true → s.dev.ptp.pend = some (q, t, c) → q = m.seq →
    Gives (.ptpFollowUp dt p m) s fun e => e.ptp.pend = none ∧ e.ptp.syncEdge = edge (later dt s)) ∧
  (∀ dt p m s r, p < 3 → onPtpPort p m s.dev = some r → ptpState s.dev = 6 → isP2P r = false → Gives (.ptpDelayReq dt p m) s fun e =>
      if Config.ethQueueDepth p ≤ ((s.dev.eth.queues.get [] p).filter fun x => x.q == 3).length then
        get ETH_PORT_DROP_QUEUE_FULL p e = satU 16 (get ETH_PORT_DROP_QUEUE_FULL p s.dev + 1)
      else ∃ t : EthTx, e.eth.queues.get [] p = s.dev.eth.queues.get [] p ++ [t] ∧ t.q = 3 ∧ t.frame.src = ownMac s.dev) ∧
  (∀ dt p m s r d21, onPtpPort p m s.dev = some r → s.dev.ptp.d21 = some d21 → fromParent m s.dev = true → isP2P r = false →
    m.reqIdentity = clockId s.dev → m.reqPort = p + 1 → m.seq = s.dev.ptp.dreq.1 → s.dev.ptp.dreq.2 ≠ 0 → Gives (.ptpDelayResp dt p m) s fun e =>
      e.ptp.path = (d21 + ((m.origin : Int) - (s.dev.ptp.dreq.2 : Int) - (m.correction : Rat) / 65536)) / 2 ∧ ptpState e = 9) ∧
  (∀ dt p m s, Gives (.ptpMgmtSignaling dt p m) s fun e => e = later dt s)) ∧
  ((∀ dt p m s r, p < 3 → peerPort p s.dev = some r → m.domain = r.u P0C02_DOMAIN → Gives (.ptpPdelayReq dt p m) s fun e =>
      if Config.ethQueueDepth p ≤ ((s.dev.eth.queues.get [] p).filter fun x => x.q == 3).length then
        get ETH_PORT_DROP_QUEUE_FULL p e = satU 16 (get ETH_PORT_DROP_QUEUE_FULL p s.dev + 1)
      else ∃ t : EthTx, e.eth.queues.get [] p = s.dev.eth.queues.get [] p ++ [t] ∧ t.q = 3 ∧ t.ptp = 2 ∧ t.frame.src = ownMac s.dev) ∧
  (∀ dt p m s r, peerPort p s.dev = some r → m.domain = r.u P0C02_DOMAIN → m.reqIdentity = clockId s.dev → m.reqPort = p + 1 →
    m.seq = (s.dev.ptp.peers.get {} p).seq → (s.dev.ptp.peers.get {} p).t1 ≠ 0 → m.twoStep = true → Gives (.ptpPdelayResp dt p m) s fun e =>
      (e.ptp.peers.get {} p).wait = true ∧ (e.ptp.peers.get {} p).t2 = m.origin ∧ { e with ptp := s.dev.ptp } = later dt s) ∧
  (∀ dt p m s r, peerPort p s.dev = some r → (s.dev.ptp.peers.get {} p).wait = true → m.seq = (s.dev.ptp.peers.get {} p).seq →
    m.reqIdentity = clockId s.dev → m.reqPort = p + 1 → Gives (.ptpPdelayRespFollowUp dt p m) s fun e =>
      (e.ptp.peers.get {} p).ever = true ∧ (e.ptp.peers.get {} p).wait = false) ∧
  (∀ dt s r, ptpRec s.dev = some r → Gives (.ptpAnnounceTimeout dt) s fun e =>
    ∀ f ∈ e.ptp.foreign, ∃ ed, f.seen.head? = some ed ∧ edge (later dt s) < ed + r.u P0C02_ANNOUNCE_TIMEOUT * annEdges r) ∧
  (∀ dt s r, ptpRec s.dev = some r → (4 * syncT r * 400000000).floor.toNat ≤ since s.dev.ptp.syncEdge (later dt s) → Gives (.ptpSyncTimeout dt) s fun e =>
    get REEL_TIME_STATUS_PTP_LOCKED 0 e = 0 ∧ e.ptp.good = 0) ∧
  (∀ dt s r, ptpRec s.dev = some r → r.u P0C02_PTP_PORT < 3 → ptpState s.dev = 6 → flag REEL_TIME_STATUS_EPOCH_VALID 0 s.dev = true →
    dueAgain (s.dev.ptp.sent.get 0 0) (txEdges 0 r) (later dt s) = true → Gives (.ptpTxInterval dt 0) s fun e =>
    e.ptp.seqs = s.dev.ptp.seqs.set 0 ((s.dev.ptp.seqs.getD 0 0 + 1) % 65536) ∧
      (¬ Config.ethQueueDepth (r.u P0C02_PTP_PORT) ≤ ((s.dev.eth.queues.get [] (r.u P0C02_PTP_PORT)).filter fun x => x.q == 3).length →
        ∃ t : EthTx, e.eth.queues.get [] (r.u P0C02_PTP_PORT) = s.dev.eth.queues.get [] (r.u P0C02_PTP_PORT) ++ [t] ∧ t.q = 3 ∧ t.ptp = 1)))

/-- R435, R424, R425, R429, R430, R433, R434: every fault of class F5 in RUN locks the unit out on its edge, with the first cause kept and all switches open: a
discrepancy, a test pulse that fails, a readback or an off-pulse that does not show what is commanded, channels that differ for too long, a late
processor channel, and a fault of the safety domain.
R436, R486: the reset of a lock-out. SRESET_N going low is shown; a press that meets every condition ends the lock-out, and starts a stopped unit again; one that misses a
condition leaves the unit LOCKED and is counted. -/
def Obligations.LockOuts : Prop :=
  ((∀ dt i proc s r o, get SAFE_STATUS_STATE 0 s.dev = 2 → i < 24 → safeRec s.dev = some r → safeInOff i r = some o →
    (inState proc i s.dev = 2 ∨ inState proc i s.dev = 3) →
    safeTime proc (1000 * r.uAt (o + 6) 2) ≤ since (if proc then (safeIn i s.dev).discP else (safeIn i s.dev).discH) (later dt s) →
    Gives (.discTimeExpiry dt i proc) s fun e => Locked 0x1101 i e ∧ inState proc i e = 4 ∧ get SAFE_IN_DISC_SEEN i e = 1) ∧
  (∀ dt k s r, get SAFE_STATUS_STATE 0 s.dev = 2 → k < 4 → safeRec s.dev = some r → (∀ i ∈ safeInputs r, i < 24) → (s.dev.safe.tps.get {} k).low = true →
    safeTime false (r.u P1101_TP_WIDTH) ≤ since (s.dev.safe.tps.get {} k).start (later dt s) → ∀ levels,
    Gives (.testPulseEnd dt k levels true) s fun e => Locked 0x1102 k e ∧ get SAFE_TP_LEVEL k e = 1 ∧ (e.safe.tps.get {} k).low = false) ∧
  (∀ dt s, get SAFE_STATUS_STATE 0 s.dev = 2 → procLate (later dt s) = true → Gives (.procCommitTimeout dt) s fun e =>
    Locked 0x1106 0 e ∧ get SAFE_STATUS_PROC_OK 0 e = 0) ∧
  (∀ dt n s r o, get SAFE_STATUS_STATE 0 s.dev = 2 → n < 8 → safeOutEntry n s.dev = some (r, o) → (s.dev.safe.outs.get {} n).diff ≠ 0 →
    safeTime false (crossTime r (n, o)) < since ((s.dev.safe.outs.get {} n).diff - 1) (later dt s) → Gives (.crossCompareTimeout dt n) s (Locked 0x1105 n)) ∧
  (∀ dt n s r, get SAFE_STATUS_STATE 0 s.dev = 2 → n < 8 → safeRec s.dev = some r → (s.dev.safe.outs.get {} n).settled = false →
    safeTime false (r.u P1101_RB_TIME) ≤ since (s.dev.safe.outs.get {} n).chg (later dt s) → flag SAFE_OUT_READBACK n s.dev ≠ outOn n s.dev →
    Gives (.readbackSettle dt n) s fun e => Locked 0x1103 n e ∧ get SAFE_OUT_RB_FAIL n e = 1) ∧
  (∀ dt n level s, get SAFE_STATUS_STATE 0 s.dev = 2 → n < 8 → (s.dev.safe.outs.get {} n).settled = true → (s.dev.safe.outs.get {} n).pulse = 0 →
    level ≠ outOn n s.dev → Gives (.srbEdge dt n level) s fun e => Locked 0x1103 n e ∧ get SAFE_OUT_RB_FAIL n e = 1 ∧ get SAFE_OUT_READBACK n e = b2n level) ∧
  (∀ dt n low high s, get SAFE_STATUS_STATE 0 s.dev = 2 → n < 8 → (s.dev.safe.outs.get {} n).pulse ≠ 0 → (low && high) = false →
    safeTime false ((safeRec s.dev).elim 0 fun r => r.u P1101_OP_WIDTH) ≤ since (s.dev.safe.outs.get {} n).pulseAt (later dt s) →
    Gives (.offPulseEnd dt n low high) s fun e => Locked 0x1104 n e ∧ get SAFE_OUT_RB_FAIL n e = 1 ∧ (e.safe.outs.get {} n).pulse = 0) ∧
  (∀ dt internal s, get SAFE_STATUS_STATE 0 s.dev = 2 → Gives (.safetyDomainFault dt internal) s fun e =>
    Locked (if internal then 0x1108 else 0x1107) 0 e ∧ (internal = false → get SAFE_STATUS_DOMAIN_OK 0 e = 0)) ∧
  (∀ dt s r, get SAFE_STATUS_STATE 0 s.dev = 2 → safeRec s.dev = some r → get SAFE_STATUS_DOMAIN_OK 0 s.dev = 1 →
    dueAgain s.dev.safe.matAt (safeTime false 1) (later dt s) = true → Gives (.safetyMatrixEval dt true) s (Locked 0x1108 0))) ∧
  ((∀ dt s, Gives (.sresetPressStart dt) s fun e => get SAFE_STATUS_RESET_PIN 0 e = 1 ∧ e.safe.press = edge (later dt s) + 1 ∧
    KeepsBut [SAFE_STATUS.addr 0] { later dt s with safe := e.safe } e) ∧
  (∀ dt both p s r, safeRec s.dev = some r → s.dev.safe.press ≠ 0 → get SAFE_STATUS_STATE 0 s.dev = 3 → false ∉ pressConditions r both (later dt s) →
    s.dev.unit.stopped = false → s.dev.unit.phase = .run → Gives (.sresetPressEnd dt both p) s fun e => get SAFE_STATUS_STATE 0 e = 2 ∧ get SAFE_STATUS_RESET_PIN 0 e = 0 ∧
      get SAFE_COUNTS_RESETS 0 e = satU 16 (get SAFE_COUNTS_RESETS 0 s.dev + 1) ∧ strand 0x11 56 e = 2 ∧ e.safe.press = 0) ∧
  (∀ dt both p s r, safeRec s.dev = some r → s.dev.safe.press ≠ 0 → get SAFE_STATUS_STATE 0 s.dev = 3 → false ∉ pressConditions r both (later dt s) →
    s.dev.unit.phase = .ended → ∃ d, exec (.sresetPressEnd dt both p) s = .next { s with dev := restartUnit false s.fuses s.ident p d } ∧
      get SAFE_STATUS_STATE 0 d = 2) ∧
  (∀ dt both p s r, safeRec s.dev = some r → s.dev.safe.press ≠ 0 → get SAFE_STATUS_STATE 0 s.dev = 3 → false ∈ pressConditions r both (later dt s) →
    Gives (.sresetPressEnd dt both p) s fun e => get SAFE_STATUS_STATE 0 e = 3 ∧ get SAFE_STATUS_RESET_PIN 0 e = 0 ∧
      get SAFE_STATUS_REFUSED 0 e = satU 16 (get SAFE_STATUS_REFUSED 0 s.dev + 1) ∧ e.safe.outs = s.dev.safe.outs))

/-- R428 to R430: inputs and test pulses. An edge at the ball starts the filter; a level that has been stable for it is accepted in its channel; a pulse drops its supply
and opens its blanking window; fed channels that were low end it; the window closes on channels that are high again, and a pulse without failure is counted.
R429: the state of an input. OPEN leaves for CLOSED with both channels in their run states and for CLOSING with one; CLOSING ends in CLOSED or OPEN; CLOSED
leaves for OPEN or OPENING as soon as a channel leaves its run state; OPENING ends in OPEN alone; FAULT stays. -/
def Obligations.SafetyInputStates : Prop :=
  ((∀ dt i c level s, (safeChan i c s.dev).level ≠ level → Gives (.safetyInputEdge dt i c level) s fun e =>
    safeChan i c e = { safeChan i c s.dev with level := level, stable := edge (later dt s) } ∧ { e with safe := s.dev.safe } = later dt s) ∧
  (∀ dt i c proc s r o, i < 24 → safeRec s.dev = some r → safeInOff i r = some o → safeOn s.dev = true →
    (safeChan i c s.dev).level ≠ accepted proc i c s.dev → blanked i c r s.dev = false →
    safeTime proc (10 * r.uAt (o + 4) 2) ≤ since (safeChan i c s.dev).stable (later dt s) → Gives (.safetyInputAccept dt i c proc) s fun e =>
      accepted proc i c e = (safeChan i c s.dev).level) ∧
  (∀ dt k s, k < 4 → safeOn s.dev = true → get SAFE_TP_DRIVEN k s.dev = 1 → tpDue k (later dt s) = true → Gives (.testPulseStart dt k) s fun e => get SAFE_TP_LEVEL k e = 0 ∧
    (e.safe.tps.get {} k).low = true ∧ (e.safe.tps.get {} k).blank = true ∧ (e.safe.tps.get {} k).start = edge (later dt s) ∧
    KeepsBut [SAFE_TP.addr k] { later dt s with safe := e.safe } e) ∧
  (∀ dt k levels s r, k < 4 → safeRec s.dev = some r → (s.dev.safe.tps.get {} k).low = true →
    safeTime false (r.u P1101_TP_WIDTH) ≤ since (s.dev.safe.tps.get {} k).start (later dt s) → (∀ p ∈ fedBy k r, fedLevel p.1 p.2 levels s.dev = false) →
    Gives (.testPulseEnd dt k levels false) s fun e => get SAFE_TP_LEVEL k e = 1 ∧ (e.safe.tps.get {} k).low = false ∧
      (e.safe.tps.get {} k).failed = (s.dev.safe.tps.get {} k).failed ∧ KeepsBut [SAFE_TP.addr k] { later dt s with safe := e.safe } e) ∧
  (∀ dt k levels s r, k < 4 → safeRec s.dev = some r → (s.dev.safe.tps.get {} k).blank = true → (s.dev.safe.tps.get {} k).low = false →
    safeTime false (r.u P1101_TP_WIDTH + r.u P1101_TP_RECOVER) ≤ since (s.dev.safe.tps.get {} k).start (later dt s) →
    (∀ p ∈ fedBy k r, ∃ l ∈ levels, l.input = p.1 ∧ l.channel = p.2) → (∀ l ∈ levels, l.level = true) → Gives (.tpBlankingEnd dt k levels) s fun e =>
      (e.safe.tps.get {} k).blank = false ∧ (e.safe.tps.get {} k).lastOk = !(s.dev.safe.tps.get {} k).failed ∧
      get SAFE_TP_PASSED k e = (get SAFE_TP_PASSED k s.dev + b2n (!(s.dev.safe.tps.get {} k).failed)) % 2 ^ 16 ∧
      KeepsBut [SAFE_TP.addr k] { later dt s with safe := e.safe } e)) ∧
  (∀ proc i self other d, i < 24 → inState proc i (inputMove proc i self other d) = match inState proc i d with
    | 0 => if self then (if other then 1 else 3) else 0
    | 1 => if self then 1 else if other then 2 else 0
    | 2 => if !self && !other then 0 else 2
    | 3 => if self && other then 1 else if !self && !other then 0 else 3
    | n => n)

/-- R431, R432, R435: an output that a channel commands on is in a unit in RUN, permitted by one of its terms in that channel, requested, and past the wait of
MANUAL_RESTART.
R422, R424, R431 to R434: the outputs. An evaluation without mismatch is the matrix's; a timer reaches TIME; requests cross into the domain and time out there;
enables that are not renewed open switch P; a readback settles as commanded and is shown; an off-pulse opens one switch and, seen low and high again, is counted
and passes on to the other switch. -/
def Obligations.SafetyOutputStates : Prop :=
  (∀ proc r p d, (let x := (outStep proc r p d).safe.outs.get {} p.1; (if proc then x.cmdP else x.cmdH) = true) →
    get SAFE_STATUS_STATE 0 d = 2 ∧ (∃ j, j < 32 ∧ bit (r.uAt (p.2 + 4) 4) j = true ∧ termVal proc j r d = true) ∧ safeRequest proc r p d = true ∧
      (let x := (outStep proc r p d).safe.outs.get {} p.1; (if proc then x.waitP else x.waitH) = 0)) ∧
  ((∀ dt s r, safeRec s.dev = some r → safeOn s.dev = true → get SAFE_STATUS_DOMAIN_OK 0 s.dev = 1 →
    dueAgain s.dev.safe.matAt (safeTime false 1) (later dt s) = true → exec (.safetyMatrixEval dt false) s =
      .next { s with dev := matrixEval false r { later dt s with safe := { s.dev.safe with mismatch := false, matAt := edge (later dt s) + 1 } } }) ∧
  (∀ dt k s r p, safeRec s.dev = some r → (safeTimers r).find? (·.1 == k) = some p → safeOn s.dev = true →
    safeTime false (1000 * r.uAt (p.2 + 4) 4) ≤ since (s.dev.safe.tims.get {} k).sinceH (later dt s) →
    (s.dev.safe.tims.get {} k).termH ≠ (r.uAt (p.2 + 1) 1 == 1) → Gives (.safetyTimerExpiry dt k) s fun e =>
      (e.safe.tims.get {} k).valH = !(r.uAt (p.2 + 1) 1 == 1) ∧ { e with safe := s.dev.safe } = later dt s) ∧
  (∀ dt s r p, safeRec s.dev = some r → safeOn s.dev = true → p ∈ safeOutputs r → (∀ q ∈ safeOutputs r, q.1 < 8) → ((safeOutputs r).map (·.1)).Nodup →
    dueAgain s.dev.safe.reqAt (safeTime false 10) (later dt s) = true → Gives (.requestCrossing dt) s fun e => get SAFE_OUT_REQUEST p.1 e = b2n (safeRequest true r p (later dt s)) ∧
      (e.safe.outs.get {} p.1).reqAt = edge (later dt s)) ∧
  (∀ dt n s, n < 8 → safeOn s.dev = true → safeTime false 100 ≤ since (s.dev.safe.outs.get {} n).reqAt (later dt s) → Gives (.requestTimeout dt n) s fun e =>
    get SAFE_OUT_REQUEST n e = 0 ∧ KeepsBut [SAFE_OUT.addr n] (later dt s) e) ∧
  (∀ dt n s, n < 8 → procLate (later dt s) = true → Gives (.switchPTimeout dt) s fun e => (e.safe.outs.get {} n).cmdP = false ∧
    (e.safe.outs.get {} n).cmdH = (s.dev.safe.outs.get {} n).cmdH ∧ get SAFE_OUT_CMD_P n e = 0 ∧ get SAFE_STATUS_STATE 0 e = get SAFE_STATUS_STATE 0 s.dev) ∧
  (∀ dt n s r, safeRec s.dev = some r → safeOn s.dev = true → (s.dev.safe.outs.get {} n).settled = false →
    safeTime false (r.u P1101_RB_TIME) ≤ since (s.dev.safe.outs.get {} n).chg (later dt s) → flag SAFE_OUT_READBACK n s.dev = outOn n s.dev →
    Gives (.readbackSettle dt n) s fun e => (e.safe.outs.get {} n).settled = true ∧ { e with safe := s.dev.safe } = later dt s) ∧
  (∀ dt n level s, n < 8 → level = outOn n s.dev → Gives (.srbEdge dt n level) s fun e => get SAFE_OUT_READBACK n e = b2n level ∧
    strand 0x11 (32 + n) e = b2n level ∧ KeepsBut [SAFE_OUT.addr n, strandAddr 0x11 (32 + n)] (later dt s) e) ∧
  (∀ dt n s r o, n < 8 → safeOutEntry n s.dev = some (r, o) → bit (r.uAt (o + 1) 1) 1 = true → outOn n s.dev = true → pulseDue n r (later dt s) = true →
    Gives (.offPulseStart dt n) s fun e => (e.safe.outs.get {} n).pulseAt = edge (later dt s) ∧
      get SAFE_OUT_CMD_H n e = b2n (get SAFE_OUT_NEXT_SWITCH n s.dev ≠ 0) ∧ get SAFE_OUT_CMD_P n e = b2n (get SAFE_OUT_NEXT_SWITCH n s.dev ≠ 1) ∧
      (e.safe.outs.get {} n).cmdH = true ∧ (e.safe.outs.get {} n).cmdP = true) ∧
  (∀ dt n s, n < 8 → 1 ≤ (s.dev.safe.outs.get {} n).pulse → (s.dev.safe.outs.get {} n).pulse ≤ 2 →
    safeTime false ((safeRec s.dev).elim 0 fun r => r.u P1101_OP_WIDTH) ≤ since (s.dev.safe.outs.get {} n).pulseAt (later dt s) →
    Gives (.offPulseEnd dt n true true) s fun e =>
    (e.safe.outs.get {} n).pulse = 0 ∧ get SAFE_OUT_NEXT_SWITCH n e = 2 - (s.dev.safe.outs.get {} n).pulse ∧
    get SAFE_OUT_PULSES n e = (get SAFE_OUT_PULSES n s.dev + 1) % 2 ^ 16))

/-- R177, R183, R184, R194: a trip of the local drive. A pair that has read back wrongly for its filter time after settling, a shoot-through that stood for more
than 4 cycles behind it, or an overcurrent turns the drive OFF on that edge and every pin of the axis inactive within 2 FCLK cycles, sets its flag, and breaks an
enabled axis in RUN.
R175, R178, R460: a stuck modulator makes its channel STUCK and stale and trips its axes; when it toggles again, or enough bits have been captured, the channel
is good. -/
def Obligations.DriveSamples : Prop :=
  ((∀ dt n pair s r d, n < 16 → ImgOk s.dev → driveRec n s.dev = some r → pair / 3 = n → d = settlePins n (later dt s) →
    min (settled n (2 * (pair % 3)) r d) (settled n (2 * (pair % 3) + 1) r d) + r.u P0704_RB_FILTER ≤ edge d → Gives (.readbackError dt n pair) s fun e =>
    get DRV_AX_STATUS_DRIVE n e = 0 ∧ (∀ k, 2 ≤ k → get DRV_AX_PINS_COMMANDED n (settlePins n (advance k e)) = 0) ∧ get DRV_AX_STATUS_RB_ERR n e = 1 ∧
      get DRV_AX_PINS_RB_ERRORS n e = satU 16 (get DRV_AX_PINS_RB_ERRORS n s.dev + 1) ∧
      (s.dev.unit.phase = .run → (axisRec n s.dev).isSome = true → axisEnabled n s.dev = true → get MOT_AX_STATE_STATE n e = 9)) ∧
  (∀ dt n pair s r d, n < 16 → ImgOk s.dev → driveRec n s.dev = some r → pair / 3 = n → d = settlePins n (later dt s) →
    max (settled n (2 * (pair % 3)) r d) (settled n (2 * (pair % 3) + 1) r d) + 4 < edge d → Gives (.shootThrough dt n pair) s fun e =>
    get DRV_AX_STATUS_DRIVE n e = 0 ∧ (∀ k, 2 ≤ k → get DRV_AX_PINS_COMMANDED n (settlePins n (advance k e)) = 0) ∧ get DRV_AX_STATUS_SHOOT n e = 1 ∧
      (s.dev.unit.phase = .run → (axisRec n s.dev).isSome = true → axisEnabled n s.dev = true → get MOT_AX_STATE_STATE n e = 9)) ∧
  (∀ dt c bs s r v, c < 48 → ImgOk s.dev → sdRec c s.dev = some r → ocTrips r bs = some v → Gives (.overcurrentTrip dt c bs) s fun e =>
    get DRV_SD_STATUS_OC c e = 1 ∧ get DRV_SD_STATUS_OC_TRIPS c e = satU 16 (get DRV_SD_STATUS_OC_TRIPS c s.dev + 1) ∧
      ∀ n ∈ drivesOfChan c s.dev, get DRV_AX_STATUS_DRIVE n e = 0 ∧ get DRV_AX_STATUS_OC_TRIP n e = 1 ∧
        ∀ k, 2 ≤ k → get DRV_AX_PINS_COMMANDED n (settlePins n (advance k e)) = 0)) ∧
  ((∀ dt c s, c < 48 → ImgOk s.dev → (sdRec c s.dev).isSome = true → (s.dev.sds.get {} c).stuckNow = false → Gives (.sdStuck dt c) s fun e =>
    get DRV_SD_STATUS_STUCK c e = 1 ∧ get DRV_SD_STATUS_STALE c e = 1 ∧ (e.sds.get {} c).stuckNow = true ∧
      ∀ n ∈ drivesOfChan c s.dev, get DRV_AX_STATUS_DRIVE n e = 0 ∧ get DRV_AX_STATUS_STUCK n e = 1 ∧
        ∀ k, 2 ≤ k → get DRV_AX_PINS_COMMANDED n (settlePins n (advance k e)) = 0) ∧
  (∀ dt c s, c < 48 → (s.dev.sds.get {} c).stuckNow = true → Gives (.sdInputToggle dt c) s fun e => (e.sds.get {} c).stuckNow = false ∧
    get DRV_SD_STATUS_STALE c e = (if (s.dev.sds.get {} c).validEdge ≤ edge (later dt s) then 0 else get DRV_SD_STATUS_STALE c s.dev) ∧
    KeepsBut [DRV_SD_STATUS.addr c] { later dt s with sds := e.sds, drives := e.drives } e) ∧
  (∀ dt c s, c < 48 → (sdRec c s.dev).isSome = true → get DRV_SD_STATUS_STALE c s.dev = 1 → (s.dev.sds.get {} c).stuckNow = false →
    (s.dev.sds.get {} c).validEdge ≤ edge (later dt s) → Gives (.sdChannelValid dt c) s fun e => get DRV_SD_STATUS_STALE c e = 0 ∧
      KeepsBut [DRV_SD_STATUS.addr c] { later dt s with drives := e.drives } e))

/-- R186, R190, R191: PWM. At a reload edge load-all transfers what was staged before it, is refused where PAIRED items are incomplete, and waits when it was set on
this very edge; a compare match brings every output to its command; a delayed pin goes active at the end of its dead time.
R186: the pins of a switching drive follow their compares with never both pins of a pair active. -/
def Obligations.PwmPins : Prop :=
  ((∀ dt g s r, g < 8 → ImgOk s.dev → pwmRec g s.dev = some r → atReload g r (later dt s) = true → get DRV_GRP_STATUS_LOAD_ALL g s.dev = 1 →
    (s.dev.groups.get {} g).loadEdge ≠ edge (later dt s) → (s.dev.groups.get {} g).again ≠ edge (later dt s) + 1 → stagedItems g (later dt s) ≠ [] →
    (get DRV_GRP_STATUS_PAIRED g s.dev = 1 → (stagedPeriod g (later dt s)).isSome = true) →
    Gives (.pwmReload dt g) s fun e => get DRV_GRP_STATUS_LOAD_ALL g e = 0 ∧ get DRV_GRP_STATUS_LOAD_PENDING g e = 0 ∧
      get DRV_GRP_RELOADS_TRANSFERS g e = (get DRV_GRP_RELOADS_TRANSFERS g s.dev + 1) % 2 ^ 32) ∧
  (∀ dt g s r, g < 8 → ImgOk s.dev → pwmRec g s.dev = some r → atReload g r (later dt s) = true → get DRV_GRP_STATUS_LOAD_ALL g s.dev = 1 →
    (s.dev.groups.get {} g).loadEdge ≠ edge (later dt s) → (s.dev.groups.get {} g).again ≠ edge (later dt s) + 1 → stagedItems g (later dt s) ≠ [] → get DRV_GRP_STATUS_PAIRED g s.dev = 1 →
    stagedPeriod g (later dt s) = none → Gives (.pwmReload dt g) s fun e => get DRV_GRP_STATUS_LOAD_ALL g e = 0 ∧
      get DRV_GRP_STATUS_LOAD_REFUSED g e = 1 ∧ get DRV_GRP_COUNT_REFUSED g e = satU 16 (get DRV_GRP_COUNT_REFUSED g s.dev + 1) ∧
      get DRV_GRP_RELOADS_TRANSFERS g e = get DRV_GRP_RELOADS_TRANSFERS g s.dev) ∧
  (∀ dt g s r, g < 8 → ImgOk s.dev → pwmRec g s.dev = some r → atReload g r (later dt s) = true → get DRV_GRP_STATUS_LOAD_ALL g s.dev = 1 →
    (s.dev.groups.get {} g).loadEdge = edge (later dt s) → Gives (.pwmReload dt g) s fun e => get DRV_GRP_STATUS_LOAD_PENDING g e = 1 ∧
      get DRV_GRP_STATUS_LOAD_ALL g e = 1) ∧
  (∀ dt g s, exec (.pwmCompareMatch dt g) s = .next { s with dev := refreshPins g (later dt s) }) ∧
  (∀ dt pin s d, pin < 96 → d = settlePins (pin / 6) (later dt s) → d.riseAt.get 0 pin ≠ 0 → d.riseAt.get 0 pin ≤ edge d + 1 →
    Gives (.deadTimeExpiry dt pin) s fun e =>
    get DRV_AX_PINS_COMMANDED (pin / 6) e = setBit (get DRV_AX_PINS_COMMANDED (pin / 6) d) (pin % 6) true ∧ e.riseAt.get 0 pin = 0 ∧
      KeepsBut [DRV_AX_PINS.addr (pin / 6)] { d with riseAt := e.riseAt, drives := e.drives } e)) ∧
  (∀ ph p n d k, get DRV_AX_STATUS_DRIVE n d = 2 → d.unit.holdDone = false → k < 3 →
    ¬ (bit (get DRV_AX_PINS_COMMANDED n (drivePins ph p n d)) (2 * k) = true ∧ bit (get DRV_AX_PINS_COMMANDED n (drivePins ph p n d)) (2 * k + 1) = true))

/-- R56, R207, R213, R215: lines of a feedback interface. A transition is kept with its level, and one that returns in RUN to the accepted level before the acceptance
edge counts as a glitch; at the acceptance edge every due
line's level is accepted; without a change for ZERO_TIME the speed reads 0 by the PERIOD method; 10 ms without an error clear ERR_RUN; an alarm active for 100 µs
makes the interface FAULTY.
R209: one step of quadrature moves the count by one count, forward in the order 00, 10, 11, 01 of (A, B) unless REVERSE swaps it.
R214: the end of an SSI read. A good one gives the count, its stamp, and no error run; a bad one sets SSI_ERR and leaves the count. -/
def Obligations.Feedback : Prop :=
  ((∀ dt line level frac s r, line < 72 → fbRec (line / 3) s.dev = some r → s.dev.unit.phase = .run → line % 3 ∈ fbInputs r →
    (s.dev.lines.get {} line).raw ≠ level →
    Gives (.fbLineEdge dt line level frac) s fun e => (e.lines.get {} line).raw = level ∧ (e.lines.get {} line).edge = edge (later dt s) ∧
      get FBK_FB_GLITCH_GLITCHES (line / 3) e =
        (get FBK_FB_GLITCH_GLITCHES (line / 3) s.dev + b2n (level == bit (get FBK_FB_STATUS_LEVELS (line / 3) s.dev) (line % 3) &&
          !lineDue (line / 3) (line % 3) r (later dt s))) % 2 ^ FBK_FB_GLITCH_GLITCHES.width ∧
      KeepsBut [FBK_FB_GLITCH.addr (line / 3)] { later dt s with lines := e.lines } e) ∧
  (∀ dt line level frac s, line < 72 → inRun s.dev = false → (s.dev.lines.get {} line).raw ≠ level → Gives (.fbLineEdge dt line level frac) s fun e =>
    (e.lines.get {} line).raw = level ∧ { e with lines := s.dev.lines } = later dt s) ∧
  (∀ dt line s r k, line < 72 → ImgOk s.dev → fbRec (line / 3) s.dev = some r → s.dev.unit.phase = .run → lineDue (line / 3) (line % 3) r (later dt s) = true →
    k ∈ fbInputs r → lineDue (line / 3) k r (later dt s) = true → Gives (.fbLevelAccept dt line) s fun e =>
      bit (get FBK_FB_STATUS_LEVELS (line / 3) e) k = (lineRun (s.dev.lines.get {} (line / 3 * 3 + k)) (edge (later dt s))).1 ∧ e.lines = s.dev.lines) ∧
  (∀ dt n s r, n < 24 → fbRec n s.dev = some r → r.u P0801_MODE ≠ 3 → fbStamp n s.dev + r.u P0801_ZERO_TIME * us16 ≤ now (later dt s) →
    Gives (.fbZeroTime dt n) s fun e => get FBK_FB_STATUS_METHOD n e = 0 ∧ get FBK_FB_SPEED_SPEED n e = 0 ∧
      KeepsBut [FBK_FB_STATUS.addr n, FBK_FB_SPEED.addr n] (later dt s) e) ∧
  (∀ dt n s r, n < 24 → fbRec n s.dev = some r → r.u P0801_MODE ≠ 3 → 4000000 ≤ since (s.dev.fbs.get {} n).errEdge (later dt s) →
    Gives (.fbErrRunReset dt n) s fun e => get FBK_FB_STATUS_ERR_RUN n e = 0 ∧ KeepsBut [FBK_FB_STATUS.addr n] { later dt s with fbs := e.fbs } e) ∧
  (∀ dt n s, n < 24 → ImgOk s.dev → get FBK_FB_STATUS_ALARM n s.dev = 1 → 40000 ≤ since (s.dev.fbs.get {} n).alarmEdge (later dt s) →
    Gives (.fbAlarmTimeout dt n) s fun e => get FBK_FB_FLAGS_FAULTY n e = 1)) ∧
  (∀ n r old new t tz d, n < 24 → r.b P0801_FLAGS 1 = false → (bit old 0 != bit new 0) ≠ (bit old 1 != bit new 1) →
    fbCount n (quadAccept n r old new t tz d) =
      toInt 64 (ofInt 64 (fbCount n d + if ((quadPlace new + 4 - quadPlace old) % 4 == 1) != r.b P0801_FLAGS 0 then 65536 else -65536))) ∧
  ((∀ dt n bs s r v c, n < 24 → ImgOk s.dev → fbRec n s.dev = some r → r.u P0801_MODE = 3 → (s.dev.fbs.get {} n).busy = true →
    ssiEdges r ≤ since (s.dev.fbs.get {} n).readEdge (later dt s) → ssiValue n r bs (later dt s) = some (v, c) → Gives (.ssiReadComplete dt n bs) s fun e =>
      get FBK_FB_POS_COUNT n e = ofInt 64 (c * 65536) ∧ get FBK_FB_EDGE_STAMP n e = (s.dev.fbs.get {} n).readStamp % 2 ^ 64 ∧ get FBK_FB_STATUS_ERR_RUN n e = 0 ∧
      (e.fbs.get {} n).busy = false ∧ (e.fbs.get {} n).good = some ((s.dev.fbs.get {} n).readStamp, v, c)) ∧
  (∀ dt n bs s r, n < 24 → ImgOk s.dev → fbRec n s.dev = some r → r.u P0801_MODE = 3 → (s.dev.fbs.get {} n).busy = true →
    ssiEdges r ≤ since (s.dev.fbs.get {} n).readEdge (later dt s) → ssiValue n r bs (later dt s) = none → Gives (.ssiReadComplete dt n bs) s fun e =>
      get FBK_FB_FLAGS_SSI_ERR n e = 1 ∧ get FBK_FB_POS_COUNT n e = get FBK_FB_POS_COUNT n s.dev ∧ (e.fbs.get {} n).busy = false))

/-- R233, R235: integer instructions of the cyclic program. Each takes its cycles, writes `rd` (or the pair), saturates to the range of its
result with ISAT, and changes nothing else; a divisor of 0 gives 0, sets DIVZ and raises 0x0904. -/
def Obligations.ShuttleIntegers : Prop := ∀ t rd ra rb imm : Nat,
  Computes (.iMov t rd ra 0 0) 1 (fun x => [(rd, xr x ra)]) ∧
  (rd % 2 = 0 → ra % 2 = 0 → Computes (.iMovt t rd ra 0 0) 1 (fun x => pairOf rd (xp x ra))) ∧
  Saturates (.iAdd t rd ra rb 0) 1 rd (fun x => xs x ra + xs x rb) ∧
  Saturates (.iSub t rd ra rb 0) 1 rd (fun x => xs x ra - xs x rb) ∧
  Saturates (.iMul t rd ra rb 0) 2 rd (fun x => xs x ra * xs x rb) ∧
  Saturates (.iAddi t rd ra 0 imm) 1 rd (fun x => xs x ra + toInt 16 imm) ∧
  Saturates (.iNeg t rd ra 0 0) 1 rd (fun x => -xs x ra) ∧
  Saturates (.iAbs t rd ra 0 0) 1 rd (fun x => |xs x ra|) ∧
  Computes (.iSat16 t rd ra 0 0) 1 (fun x => [(rd, max (-32768) (min 32767 (xs x ra)))]) (fun x => decide (xs x ra < -32768 ∨ 32767 < xs x ra)) ∧
  (rd % 2 = 0 → ra % 2 = 0 → rb % 2 = 0 → SaturatesPair (.iAddt t rd ra rb 0) 2 rd (fun x => xp x ra + xp x rb)) ∧
  (rd % 2 = 0 → ra % 2 = 0 → rb % 2 = 0 → SaturatesPair (.iSubt t rd ra rb 0) 2 rd (fun x => xp x ra - xp x rb)) ∧
  (rd % 2 = 0 → Computes (.iItot t rd ra 0 0) 1 (fun x => pairOf rd (xs x ra))) ∧
  (ra % 2 = 0 → Saturates (.iTtoi t rd ra 0 0) 1 rd (fun x => xp x ra)) ∧
  (∀ i op s, (i = .iDiv t rd ra rb 0 ∧ op = 0x0B) ∨ (i = .iMod t rd ra rb 0 ∧ op = 0x0C) → Issues t (wordA op rd ra rb 0) s.dev → Gives i s fun e =>
    let d := turned t s.dev
    let x := taskX t d
    let q := Int.tdiv (xs x ra) (xs x rb)
    let v := if xs x rb = 0 then 0 else if op = 0x0C then xs x ra - xs x rb * q else min (2 ^ 31 - 1) q
    Ran t 18 { x with pc := x.pc + 1, regs := x.regs.set rd (ofInt 32 v) }
      (d |> onlyIf (decide (op = 0x0B ∧ q = 2 ^ 31)) (put SHU_TASK_STATE_ISAT t 1)
         |> onlyIf (decide (xs x rb = 0)) (stick SHU_TASK_STATE_DIVZ t 0x0904 t)) e ∧ VarsKept d e)

/-- R235: bitwise instructions, shifts, comparisons and choices of the cyclic program, on words, INT32 and pairs. -/
def Obligations.ShuttleLogic : Prop := ∀ t rd ra rb sub : Nat,
  Computes (.iAnd t rd ra rb 0) 1 (fun x => [(rd, (xr x ra &&& xr x rb : Nat))]) ∧
  Computes (.iOr t rd ra rb 0) 1 (fun x => [(rd, (xr x ra ||| xr x rb : Nat))]) ∧
  Computes (.iXor t rd ra rb 0) 1 (fun x => [(rd, (xr x ra ^^^ xr x rb : Nat))]) ∧
  Computes (.iNot t rd ra 0 0) 1 (fun x => [(rd, 2 ^ 32 - 1 - (xr x ra : Int))]) ∧
  Computes (.iShl t rd ra rb 0) 1 (fun x => [(rd, (xr x ra <<< (xr x rb % 32) : Nat))]) ∧
  Computes (.iShr t rd ra rb 0) 1 (fun x => [(rd, xs x ra >>> (xr x rb % 32))]) ∧
  Computes (.iBnot t rd ra 0 0) 1 (fun x => [(rd, if xr x ra = 0 then 1 else 0)]) ∧
  Computes (.iTobool t rd ra 0 0) 1 (fun x => [(rd, if xr x ra = 0 then 0 else 1)]) ∧
  Computes (.iSel t rd ra rb 0) 1 (fun x => [(rd, if xr x rd = 0 then xr x ra else xr x rb)]) ∧
  (∀ rel : Int → Int → Bool, (sub, rel) ∈ ([(0, (· == ·)), (1, (· != ·)), (2, (decide <| · < ·)), (3, (decide <| · ≤ ·)), (4, (decide <| · > ·)),
      (5, (decide <| · ≥ ·))] : List (Nat × (Int → Int → Bool))) →
    Computes (.iCmp t rd ra rb sub) 1 (fun x => [(rd, b2n (rel (xs x ra) (xs x rb)))]) ∧
    (ra % 2 = 0 → rb % 2 = 0 → Computes (.iCmpt t rd ra rb sub) 2 (fun x => [(rd, b2n (rel (xp x ra) (xp x rb)))])) ∧
    Computes (.iCmpf t rd ra rb sub) 2 (fun x => [(rd, b2n (if f32IsNaN (xr x ra) || f32IsNaN (xr x rb) then sub == 1 else rel (f32Order (xr x ra) (xr x rb)) 0))])) ∧
  Computes (.iCmpf t rd ra rb 6) 2 (fun x => [(rd, b2n (f32IsNaN (xr x ra) || f32IsNaN (xr x rb)))]) ∧
  Computes (.iMin t rd ra rb 0) 1 (fun x => [(rd, min (xs x ra) (xs x rb))]) ∧
  Computes (.iMax t rd ra rb 0) 1 (fun x => [(rd, max (xs x ra) (xs x rb))]) ∧
  Computes (.iLimit t rd ra rb 0) 2 (fun x => [(rd, min (max (xs x rd) (xs x ra)) (xs x rb))]) ∧
  Computes (.iMin t rd ra rb 1) 1 (fun x => [(rd, f32Pick false (xr x ra) (xr x rb))]) ∧
  Computes (.iMax t rd ra rb 1) 1 (fun x => [(rd, f32Pick true (xr x ra) (xr x rb))]) ∧
  Computes (.iLimit t rd ra rb 1) 2 (fun x => [(rd, f32Pick false (f32Pick true (xr x rd) (xr x ra)) (xr x rb))])

/-- R233, R235: REAL32 instructions of the cyclic program and conversions. A NaN result is 0x7FC0_0000; a NaN operand of FTOI and FTOQ gives 0 and FERR. -/
def Obligations.ShuttleReals : Prop := ∀ t rd ra rb : Nat,
  Computes (.iFadd t rd ra rb 0) 3 (fun x => [(rd, f32Add (xr x ra) (xr x rb))]) ∧
  Computes (.iFsub t rd ra rb 0) 3 (fun x => [(rd, f32Sub (xr x ra) (xr x rb))]) ∧
  Computes (.iFmul t rd ra rb 0) 3 (fun x => [(rd, f32Mul (xr x ra) (xr x rb))]) ∧
  Computes (.iFdiv t rd ra rb 0) 14 (fun x => [(rd, f32Div (xr x ra) (xr x rb))]) ∧
  Computes (.iFsqrt t rd ra 0 0) 16 (fun x => [(rd, f32Sqrt (xr x ra))]) ∧
  Computes (.iFneg t rd ra 0 0) 1 (fun x => [(rd, f32Neg (xr x ra))]) ∧
  Computes (.iFneg t rd ra 0 1) 1 (fun x => [(rd, f32Abs (xr x ra))]) ∧
  Computes (.iItof t rd ra 0 0) 2 (fun x => [(rd, f32OfScaled (xs x ra) 0)]) ∧
  Computes (.iQtof t rd ra 0 0) 2 (fun x => [(rd, f32OfScaled (xs x ra) 31)]) ∧
  (∀ i k, (i = .iFtoi t rd ra 0 0 ∧ k = 0) ∨ (i = .iFtoq t rd ra 0 0 ∧ k = 31) →
    Computes i 2 (fun x => [(rd, if f32IsNaN (xr x ra) then 0 else (f32ToInt (xr x ra) k).1)]) (fun x => !f32IsNaN (xr x ra) && (f32ToInt (xr x ra) k).2.1)
      (fun x => f32IsNaN (xr x ra))) ∧
  (∀ a b, f32IsNaN a = true ∨ f32IsNaN b = true → f32Add a b = 0x7FC00000 ∧ f32Sub a b = 0x7FC00000 ∧ f32Mul a b = 0x7FC00000 ∧ f32Div a b = 0x7FC00000) ∧
  (∀ a, f32IsNaN a = true → f32Sqrt a = 0x7FC00000)

/-- R228, R229, R234, R235, R247: loads and stores of the cyclic program. A load reads the task's bank at the operand address; a store writes it there, and
under the dual store of an exchange in the matching word too, and no other word changes. -/
def Obligations.ShuttleMemory : Prop := ∀ (t rd ra X imm a : Nat) (s : State),
  let d := turned t s.dev
  let x := taskX t d
  Computes (.iNop t 0 0 0 0) 1 (fun _ => []) ∧
  Computes (.iLdi t rd 0 0 imm) 1 (fun _ => [(rd, toInt 16 imm)]) ∧
  (imm < 65536 → Computes (.iLdi t rd 0 1 imm) 1 (fun x => [(rd, (imm * 65536 + xr x rd % 65536 : Nat))]) ∧ Computes (.iLdi t rd 0 2 imm) 1 (fun _ => [(rd, imm)])) ∧
  (Issues t (wordB 0x01 rd ra X imm) s.dev → OperandAt x ra X imm a → covered t a d = true → Gives (.iLd t rd ra X imm) s fun e =>
    Ran t 1 { x with pc := x.pc + 1, regs := x.regs.set rd (trunc 32 (varGet (bankOf t d) a d)) } d e ∧ VarsKept d e) ∧
  (Issues t (wordB 0x02 rd ra X imm) s.dev → OperandAt x ra X imm a → rd % 2 = 0 → a % 2 = 0 → covered t a d = true → covered t (a + 1) d = true →
    Gives (.iLdt t rd ra X imm) s fun e =>
      Ran t 2 { x with pc := x.pc + 1, regs := (x.regs.set rd (trunc 32 (varGet (bankOf t d) a d))).set (rd + 1) (trunc 32 (varGet (bankOf t d) (a + 1) d)) } d e ∧
      VarsKept d e) ∧
  (Issues t (wordB 0x03 rd ra X imm) s.dev → OperandAt x ra X imm a → mayStore t a d = true → Gives (.iSt t rd ra X imm) s fun e =>
    Ran t 1 { x with pc := x.pc + 1, log := logged t [(a, xr x rd)] x d } d e ∧ Stored t [(a, xr x rd)] d e ∧ e.shu.retake = d.shu.retake) ∧
  (Issues t (wordB 0x04 rd ra X imm) s.dev → OperandAt x ra X imm a → rd % 2 = 0 → a % 2 = 0 → mayStore t a d = true → mayStore t (a + 1) d = true → ImgOk s.dev →
    Gives (.iStt t rd ra X imm) s fun e =>
      Ran t 2 { x with pc := x.pc + 1, log := logged t [(a, xr x rd), (a + 1, xr x (rd + 1))] x d } d e ∧
      Stored t [(a, xr x rd), (a + 1, xr x (rd + 1))] d e ∧ e.shu.retake = d.shu.retake)

/-- R223, R225, R226, R235, R236: branches, calls, posts and the end of a scan. A taken branch costs 2 cycles; CALL pushes the return index on a stack of 16;
POST queues an item; END ends execution, and the scan's outputs take effect on the output edge, 5 cycles and one per output word later. -/
def Obligations.ShuttleBranches : Prop := ∀ (t c ra off imm kind p : Nat) (ps : List Nat) (s : State),
  let d := turned t s.dev
  let x := taskX t d
  let holds := (c = 0 ∧ ra = 0) ∨ (c = 1 ∧ xs x ra = 0) ∨ (c = 2 ∧ xs x ra ≠ 0) ∨ (c = 3 ∧ xs x ra < 0) ∨ (c = 4 ∧ 0 ≤ xs x ra)
  (Issues t (wordC 0x30 c ra off) s.dev → (x.pc : Int) + toInt 18 off = p → p < 65536 → holds → Gives (.iBr t c ra off) s fun e =>
    Ran t 2 { x with pc := p } d e ∧ VarsKept d e) ∧
  (Issues t (wordC 0x30 c ra off) s.dev → (x.pc : Int) + toInt 18 off = p → p < 65536 → 1 ≤ c → c ≤ 4 → ¬ holds → Gives (.iBr t c ra off) s fun e =>
    Ran t 1 { x with pc := x.pc + 1 } d e ∧ VarsKept d e) ∧
  (Issues t (wordC 0x31 0 0 off) s.dev → (x.pc : Int) + toInt 18 off = p → p < 65536 → x.stack.length < 16 → Gives (.iCall t 0 0 off) s fun e =>
    Ran t 2 { x with pc := p, stack := (x.pc + 1) :: x.stack } d e ∧ VarsKept d e) ∧
  (Issues t (wordB 0x32 0 0 0 0) s.dev → x.stack = p :: ps → Gives (.iRet t 0 0 0 0) s fun e => Ran t 2 { x with pc := p, stack := ps } d e ∧ VarsKept d e) ∧
  (Issues t (wordB 0x34 kind ra 0 imm) s.dev →
    (kind = 0 ∧ xr x ra < 64 ∧ ∀ i, i < 8 → covered t (imm + i) d = true) ∨ (kind = 1 ∧ xr x ra < 8 ∧ ∀ i, i < 30 → covered t (imm + i) d = true) ∨
      (kind = 2 ∧ xr x ra < 32 ∧ ∀ i, i < 4 → covered t (imm + i) d = true) → Gives (.iPost t kind ra 0 imm) s fun e =>
        Ran t 2 { x with pc := x.pc + 1, posts := x.posts ++ [(kind, xr x ra, imm)] } d e ∧ VarsKept d e) ∧
  (∀ r, Issues t (wordB 0x33 0 0 0 0) s.dev → taskRec t d = some r →
    let d1 := spend (taskEngine t s.dev) (5 + outWords t r d) d
    let d2 := spend (taskEngine t s.dev) ((x.outAt - loomAt (shuEngX (taskEngine t s.dev) d1).at_ d1 + 15) / 16) d1
    let outAt := (shuEngX (taskEngine t s.dev) d2).at_
    (watchPassed t (loomAt outAt d2) d2 = false → exec (.iEnd t 0 0 0 0) s = .next { s with dev := scanEnd t r (loomAt outAt d2) (moveTo outAt d2) }) ∧
    (watchPassed t (loomAt outAt d2) d2 = true → Gives (.iEnd t 0 0 0 0) s fun e =>
      get SHU_TASK_STATE_STATE t e = 4 ∧ get SHU_TASK_STATE_FAULT t e = 1 ∧ get SHU_TASK_PC_CAUSE t e = 5 ∧ (taskX t e).live = false))

/-- R241: timers. A call advances ET by the travel of the instance's measure, stores the instance, and returns Q in `rd`; PT and M_LAST take the values of
the call. TON, TOF and TP follow R241's table. -/
def Obligations.ShuttleTimers : Prop :=
  (∀ (k : TimerKind) (t rd ra rb inst : Nat) (s : State),
    let i := match k with
      | .ton => Instr.iTon t rd ra rb inst
      | .tof => .iTof t rd ra rb inst
      | .tp => .iTp t rd ra rb inst
    let d := turned t s.dev
    let x := taskX t d
    let m := toInt 64 (ofInt 64 (x.image.get 0 (varGet (bankOf t d) (4 * inst + 5) d % 16)))
    let new := timerCall k (timerAt t (4 * inst) d) (xr x ra != 0) (xp x rb) (timerTravel t (4 * inst) d)
    (∃ w, shuWord i = some (t, w) ∧ Issues t w s.dev) → inst < 2 ^ 13 → rb % 2 = 0 → mayStoreAll t (4 * inst) 8 d = true → ImgOk s.dev → Gives i s fun e =>
      timerAt t (4 * inst) e = new ∧ timeAt t (4 * inst) e = xp x rb ∧ timeAt t (4 * inst + 6) e = m ∧
      Ran t 10 { x with pc := x.pc + 1, regs := x.regs.set rd (b2n new.q), log := (taskX t e).log } d e ∧
      Stored t (timerWords (4 * inst) (xp x rb) new (varGet (bankOf t d) (4 * inst + 4) d) m) d e) ∧
  (∀ (w : TimerW) (pt dl : Int),
    timerCall .ton w false pt dl = ⟨0, false, false, false, true⟩ ∧
    (w.run = false → timerCall .ton w true pt dl = ⟨0, decide (pt ≤ 0), true, true, true⟩) ∧
    (w.run = true → timerCall .ton w true pt dl =
      ⟨min (w.et + dl) (max pt 0), decide (pt ≤ min (w.et + dl) (max pt 0)), true, true, true⟩) ∧
    timerCall .tof w true pt dl = ⟨0, true, true, false, true⟩ ∧
    (w.primed = true → w.prev = true → timerCall .tof w false pt dl = ⟨0, decide (0 < pt) && w.q, false, decide (0 < pt), true⟩) ∧
    (w.primed = true → w.prev = false → w.run = false → timerCall .tof w false pt dl = ⟨w.et, w.q, false, false, true⟩) ∧
    (w.primed = true → w.prev = false → w.run = true → 0 ≤ w.et → 0 ≤ dl →
      timerCall .tof w false pt dl = ⟨min (w.et + dl) (max pt 0), decide (w.et + dl < pt) && w.q, false, decide (w.et + dl < pt), true⟩) ∧
    (w.primed = true → w.prev = false → w.run = false → timerCall .tp w true pt dl = ⟨0, decide (0 < pt), true, decide (0 < pt), true⟩) ∧
    (∀ inn, w.run = true → 0 ≤ w.et → 0 ≤ dl →
      timerCall .tp w inn pt dl = ⟨min (w.et + dl) (max pt 0), decide (w.et + dl < pt) && w.q, inn, decide (w.et + dl < pt), true⟩) ∧
    (w.run = false → timerCall .tp w false pt dl = ⟨0, w.q, false, false, true⟩))

/-- R242, R243: counters and edge detectors. A counter keeps CV in its instance and returns Q, CTUD also QD in the next register; an edge detector
returns the edge of CLK against the previous CLK, and none at its first call. -/
def Obligations.ShuttleCounters : Prop := ∀ (t rd ra rb inst : Nat) (s : State),
  let d := turned t s.dev
  let x := taskX t d
  let w (i : Nat) : Nat := varGet (bankOf t d) (4 * inst + i) d
  let v (i : Nat) (e : Dev) : Nat := varGet (bankOf t d) (4 * inst + i) e
  let r1 := xr x ra ≠ 0 ∧ bit (w 2) 4 = true ∧ bit (w 2) 2 = false
  let r2 := xr x rb ≠ 0 ∧ bit (w 2) 4 = true ∧ bit (w 2) 3 = false
  let cv := toInt 32 (w 1)
  let pv := toInt 32 (w 0)
  let up := min (2 ^ 31 - 1) (cv + 1)
  let down := max (-2 ^ 31) (cv - 1)
  let counted (cyc : Nat) (n : Int) (q : Bool) (regs : List Nat) (e : Dev) : Prop :=
    toInt 32 (v 1 e) = n ∧ bit (v 2 e) 0 = q ∧ bit (v 2 e) 2 = (xr x ra != 0) ∧ bit (v 2 e) 3 = (xr x rb != 0) ∧ bit (v 2 e) 4 = true ∧
    Ran t cyc { x with pc := x.pc + 1, regs := regs, log := (taskX t e).log } d e ∧ Stored t [(4 * inst + 1, v 1 e), (4 * inst + 2, v 2 e)] d e
  inst < 2 ^ 13 → ImgOk s.dev →
  (Issues t (wordF 0x3B rd ra rb inst) s.dev → mayStoreAll t (4 * inst) 4 d = true → Gives (.iCtu t rd ra rb inst) s fun e =>
    ∃ n q, (xr x rb ≠ 0 → n = 0) ∧ (xr x rb = 0 → r1 → n = up) ∧ (xr x rb = 0 → ¬ r1 → n = cv) ∧ (q = true ↔ pv ≤ n) ∧ counted 6 n q (x.regs.set rd (b2n q)) e) ∧
  (Issues t (wordF 0x3C rd ra rb inst) s.dev → mayStoreAll t (4 * inst) 4 d = true → Gives (.iCtd t rd ra rb inst) s fun e =>
    ∃ n q, (xr x rb ≠ 0 → n = pv) ∧ (xr x rb = 0 → r1 → n = down) ∧ (xr x rb = 0 → ¬ r1 → n = cv) ∧ (q = true ↔ n ≤ 0) ∧ counted 6 n q (x.regs.set rd (b2n q)) e) ∧
  (Issues t (wordF 0x3D rd ra rb inst) s.dev → mayStoreAll t (4 * inst) 4 d = true → rd < 15 → Gives (.iCtud t rd ra rb inst) s fun e =>
    ∃ n q, (bit (w 3) 0 = true → n = 0) ∧ (bit (w 3) 0 = false → bit (w 3) 1 = true → n = pv) ∧
      (bit (w 3) 0 = false → bit (w 3) 1 = false → (r1 → ¬ r2 → n = up) ∧ (r2 → ¬ r1 → n = down) ∧ ((r1 ↔ r2) → n = cv)) ∧ (q = true ↔ pv ≤ n) ∧
      (bit (v 2 e) 1 = true ↔ n ≤ 0) ∧ counted 8 n q ((x.regs.set rd (b2n q)).set (rd + 1) (b2n (decide (n ≤ 0)))) e) ∧
  (∀ i op q, ((i = .iRtrig t rd ra 0 inst ∧ op = 0x3E ∧ q = (xr x ra != 0 && !bit (w 0) 0 && bit (w 0) 1)) ∨
      (i = .iFtrig t rd ra 0 inst ∧ op = 0x3F ∧ q = (xr x ra == 0 && bit (w 0) 0 && bit (w 0) 1))) →
    Issues t (wordF op rd ra 0 inst) s.dev → mayStore t (4 * inst) d = true → Gives i s fun e =>
      bit (v 0 e) 0 = (xr x ra != 0) ∧ bit (v 0 e) 1 = true ∧ Ran t 3 { x with pc := x.pc + 1, regs := x.regs.set rd (b2n q), log := (taskX t e).log } d e ∧
      Stored t [(4 * inst, v 0 e)] d e)

/-- R226, R228, R234, R236, R238: execution errors. An unlisted opcode, a nonzero unused field or a branch target outside the bank is CAUSE 1, an address error CAUSE 2,
a stack error CAUSE 3, an odd register or address of a 64-bit operand CAUSE 4, a watchdog expiry CAUSE 5; the task stops with CAUSE and index kept. -/
def Obligations.ShuttleErrors : Prop :=
  (∀ i, unusedFields i → StopsOn i 1) ∧
  (∀ t c ra off, StopsOn (.iBr t c ra off) 1 fun x _ => (x.pc : Int) + toInt 18 off < 0 ∨ 65536 ≤ (x.pc : Int) + toInt 18 off) ∧
  (∀ t off, StopsOn (.iCall t 0 0 off) 1 fun x _ => (x.pc : Int) + toInt 18 off < 0 ∨ 65536 ≤ (x.pc : Int) + toInt 18 off) ∧
  (∀ t rd ra X imm, StopsOn (.iLd t rd ra X imm) 2 (fun x d => ∃ a, OperandAt x ra X imm a ∧ covered t a d = false) ∧
    StopsOn (.iSt t rd ra X imm) 2 (fun x d => ∃ a, OperandAt x ra X imm a ∧ mayStore t a d = false) ∧
    StopsOn (.iLdt t rd ra X imm) 2 (fun x d => ∃ a, OperandAt x ra X imm a ∧ rd % 2 = 0 ∧ a % 2 = 0 ∧ (covered t a d = false ∨ covered t (a + 1) d = false)) ∧
    StopsOn (.iStt t rd ra X imm) 2 (fun x d => ∃ a, OperandAt x ra X imm a ∧ rd % 2 = 0 ∧ a % 2 = 0 ∧ (mayStore t a d = false ∨ mayStore t (a + 1) d = false)) ∧
    StopsOn (.iLdt t rd ra X imm) 4 (fun x _ => ∃ a, OperandAt x ra X imm a ∧ (rd % 2 = 1 ∨ a % 2 = 1)) ∧
    StopsOn (.iStt t rd ra X imm) 4 (fun x _ => ∃ a, OperandAt x ra X imm a ∧ (rd % 2 = 1 ∨ a % 2 = 1)) ∧
    StopsOn (.iPost t rd ra 0 imm) 2 (fun x d => 2 < rd ∨ (rd = 0 ∧ 64 ≤ xr x ra) ∨ (rd = 1 ∧ 8 ≤ xr x ra) ∨ (rd = 2 ∧ 32 ≤ xr x ra) ∨
      ∃ i, i < (if rd = 0 then 8 else if rd = 1 then 30 else 4) ∧ covered t (imm + i) d = false)) ∧
  (∀ t rd ra rb inst, inst < 2 ^ 13 →
    (∀ i, i = .iTon t rd ra rb inst ∨ i = .iTof t rd ra rb inst ∨ i = .iTp t rd ra rb inst →
      StopsOn i 4 (fun _ _ => rb % 2 = 1) ∧ StopsOn i 2 (fun _ d => rb % 2 = 0 ∧ mayStoreAll t (4 * inst) 8 d = false)) ∧
    (∀ i, i = .iCtu t rd ra rb inst ∨ i = .iCtd t rd ra rb inst ∨ (i = .iCtud t rd ra rb inst ∧ rd < 15) →
      StopsOn i 2 (fun _ d => mayStoreAll t (4 * inst) 4 d = false)) ∧
    (∀ i, i = .iRtrig t rd ra 0 inst ∨ i = .iFtrig t rd ra 0 inst → StopsOn i 2 (fun _ d => mayStore t (4 * inst) d = false))) ∧
  (∀ t off, StopsOn (.iCall t 0 0 off) 3 (fun x _ => 0 ≤ (x.pc : Int) + toInt 18 off ∧ (x.pc : Int) + toInt 18 off < 65536 ∧ 16 ≤ x.stack.length)) ∧
  (∀ t, StopsOn (.iRet t 0 0 0 0) 3 (fun x _ => x.stack = [])) ∧
  (∀ t rd ra rb, (rd % 2 = 1 ∨ ra % 2 = 1 → StopsOn (.iMovt t rd ra 0 0) 4) ∧ (ra % 2 = 1 ∨ rb % 2 = 1 → ∀ sub, sub ≤ 5 → StopsOn (.iCmpt t rd ra rb sub) 4) ∧
    (rd % 2 = 1 ∨ ra % 2 = 1 ∨ rb % 2 = 1 → StopsOn (.iAddt t rd ra rb 0) 4 ∧ StopsOn (.iSubt t rd ra rb 0) 4) ∧
    (rd % 2 = 1 → StopsOn (.iItot t rd ra 0 0) 4) ∧ (ra % 2 = 1 → StopsOn (.iTtoi t rd ra 0 0) 4)) ∧
  (∀ t word s, t < 8 → taskEngine t s.dev < 2 → (taskRec t s.dev).isSome = true → scanRuns t s.dev = true →
    (codeAt t (taskX t s.dev).pc s.dev = none ∨ (codeAt t (taskX t s.dev).pc s.dev = some word ∧ listedOp (word / 2 ^ 26) = false)) →
    watchReached t (loomAt (shuEngX (taskEngine t s.dev) (turned t s.dev)).at_ (turned t s.dev)) (turned t s.dev) = false → Gives (.illegalOpcode t word) s fun e =>
      get SHU_TASK_STATE_STATE t e = 4 ∧ get SHU_TASK_STATE_FAULT t e = 1 ∧ get SHU_TASK_PC_CAUSE t e = 1 ∧
      get SHU_TASK_PC_INDEX t e = (taskX t s.dev).pc % 65536 ∧ (taskX t e).live = false) ∧
  (∀ dt t s, t < 8 → taskEngine t s.dev < 2 → (taskRec t s.dev).isSome = true → (taskX t s.dev).live = true → (taskX t s.dev).broken = false →
    s.dev.unit.halted = false → watchReached t (now (later dt s)) (later dt s) = true → Gives (.watchdogExpiry dt t) s fun e =>
      get SHU_TASK_STATE_STATE t e = 4 ∧ get SHU_TASK_STATE_FAULT t e = 1 ∧ get SHU_TASK_PC_CAUSE t e = 5 ∧
      get SHU_TASK_PC_INDEX t e = (taskX t s.dev).pc % 65536 ∧ (taskX t e).live = false)

/-- R64, R65, R75: samples of a measure of source 5 or 6. The sample is the count at the last edge accepted, with its stamp; a stamp seen before only shows that the
source is present; from the third sample on the rate is the slope of the parabola through three samples, and the measure is in RUN, or in SLOW below RATE_MIN;
before that, and after LOST, it is in START with no error bound. Without a sample for LOST_TIMEOUT it is LOST, and no prediction of its picks is left. -/
def Obligations.MeasureSamples : Prop :=
  (∀ dt m s r t c, m < 16 → ImgOk s.dev → measRec m s.dev = some r → (s.dev.meas.get {} m).due2 ≤ 5 * edge (later dt s) →
    ((r.u P0302_SOURCE = 6 ∧ get FBK_FB_FLAGS_FAULTY (r.u P0302_SOURCE_INDEX) s.dev = 0 ∧ t = fbStamp (r.u P0302_SOURCE_INDEX) s.dev ∧
      c = fbCount (r.u P0302_SOURCE_INDEX) s.dev) ∨ (r.u P0302_SOURCE = 5 ∧ axisMeas (r.u P0302_SOURCE_INDEX) s.dev = some (t, c))) →
    let st := get REEL_MEAS_STATUS_STATE m s.dev
    let smp := (s.dev.meas.get {} m).smp
    let p := measFinal r (measCount r c)
    (∀ a b rest, st = 1 ∨ st = 2 ∨ st = 3 → smp = a :: b :: rest → a.t ≠ t → Gives (.measureSamplePeriod dt m) s fun e =>
      let v := rateOfSlope (parabolaRate t a.t b.t p a.p b.p)
      get REEL_MEAS_SAMPLE_STAMP m e = t % 2 ^ 64 ∧ get REEL_MEAS_SAMPLE_POS m e = ofInt 64 p ∧ getS REEL_MEAS_RATE_RATE m e = toInt 64 (ofInt 64 v) ∧
      get REEL_MEAS_STATUS_STATE m e = (if v.natAbs < r.u P0302_RATE_MIN then 3 else 2) ∧ (r.u P0302_RATE_MAX < v.natAbs → get REEL_MEAS_STATUS_RATE_RANGE m e = 1) ∧
      (e.meas.get {} m).smp = (⟨t, p, v⟩ :: smp).take 4 ∧ (e.meas.get {} m).lastEdge = edge e) ∧
    ((st = 4 ∨ (st = 1 ∧ smp.length < 2 ∧ (smp.head?.map (·.t)) ≠ some t)) → Gives (.measureSamplePeriod dt m) s fun e =>
      get REEL_MEAS_SAMPLE_STAMP m e = t % 2 ^ 64 ∧ get REEL_MEAS_SAMPLE_POS m e = ofInt 64 p ∧ get REEL_MEAS_STATUS_STATE m e = 1 ∧
      get REEL_MEAS_EBOUND_NS m e = 0xFFFFFFFF ∧ (e.meas.get {} m).smp = (⟨t, p, 0⟩ :: if st = 4 then [] else smp).take 4 ∧
      KeepsBut [REEL_MEAS_SAMPLE.addr m, REEL_MEAS_STATUS.addr m, REEL_MEAS_EBOUND.addr m] { later dt s with meas := e.meas } e) ∧
    (st = 1 ∨ st = 2 ∨ st = 3 → (smp.head?.map (·.t)) = some t → Gives (.measureSamplePeriod dt m) s fun e =>
      (e.meas.get {} m).lastEdge = edge e ∧ (e.meas.get {} m).smp = smp ∧ KeepsBut [] { later dt s with meas := e.meas } e)) ∧
  (∀ dt m s r, m < 16 → ImgOk s.dev → measRec m s.dev = some r → isTime m s.dev = false → 400 * r.u P0302_LOST_TIMEOUT ≤ since (s.dev.meas.get {} m).lastEdge (later dt s) →
    (get REEL_MEAS_STATUS_STATE m s.dev = 1 ∨ get REEL_MEAS_STATUS_STATE m s.dev = 2 ∨ get REEL_MEAS_STATUS_STATE m s.dev = 3) →
    Gives (.measureLostTimeout dt m) s fun e => get REEL_MEAS_STATUS_STATE m e = 4 ∧ get REEL_MEAS_STATUS_LOST m e = 1 ∧
      get REEL_MEAS_STATUS_LOST_COUNT m e = min 65535 (get REEL_MEAS_STATUS_LOST_COUNT m s.dev + 1) ∧
      ∀ p, p < 1024 → pickUsed p s.dev = true → pickMeas p s.dev = m → get REEL_PICK_STATUS_STATE p e ≠ 3 ∧ (e.pick.get {} p).predAt = none)

/-- R67 to R70, R73: firings of picks. A due pick with no due pick of a lower index is counted with its stamp, disarmed or armed anew, and its action and its wakes follow on the same edge, in a unit that is
active or unpaired; a pick that is not due, or that a due one of a lower index precedes, does nothing. A moved target that lies behind moves on by whole INTERVALs, and what is passed over is SKIPPED. -/
def Obligations.PickFirings : Prop :=
  (∀ dt p sd s, p < 1024 → blocksOn s.dev = true → running (later dt s) = true → shadows (later dt s) = false → pickDue p (later dt s) = true →
    dueBelow p (later dt s) = false → (s.dev.pick.get {} p).owed ≠ edge (later dt s) + 1 →
    let t := now (later dt s)
    exec (.pickFire dt p sd) s = .next { s with dev := afterFiring p t (pickAct p t sd (hookWakes p (syncPick p (rearm p true
      (countFiring p t ((s.dev.pick.get {} p).due == 2) (xchgBegin t (later dt s))))))) }) ∧
  (∀ dt p sd s, dueBelow p (later dt s) = true → exec (.pickFire dt p sd) s = .next { s with dev := later dt s }) ∧
  (∀ dt p sd s, pickDue p (later dt s) = false → (s.dev.pick.get {} p).owed ≠ edge (later dt s) + 1 →
    exec (.pickFire dt p sd) s = .next { s with dev := later dt s }) ∧
  (∀ p t late d, p < 1024 → let e := countFiring p t late d
    get REEL_PICK_STATUS_FIRES p e = (get REEL_PICK_STATUS_FIRES p d + 1) % 65536 ∧ get REEL_COUNTS_FIRES 0 e = (get REEL_COUNTS_FIRES 0 d + 1) % 2 ^ 32 ∧
    get REEL_PICK_TARGET_LAST p e = t % 2 ^ 64 ∧ get REEL_PICK_TARGET_TARGET p e = get REEL_PICK_TARGET_TARGET p d ∧
    (late = true → get REEL_PICK_STATUS_LATE p e = 1)) ∧
  (∀ p skips d, p < 1024 → get REEL_PICK_CFG_INTERVAL p d = 0 → get REEL_PICK_CFG_ANGLE_ONLY p d = 0 →
    get REEL_PICK_STATUS_STATE p (rearm p skips d) = 1 ∧ get REEL_PICK_TARGET_TARGET p (rearm p skips d) = get REEL_PICK_TARGET_TARGET p d) ∧
  (∀ p d, p < 1024 → isTime (pickMeas p d) d = true → get REEL_PICK_CFG_ANGLE_ONLY p d = 0 → get REEL_PICK_CFG_DIR p d = 1 → 0 < get REEL_PICK_CFG_INTERVAL p d →
    let n : Int := 16 * get REEL_PICK_CFG_INTERVAL p d
    let x : Int := get REEL_PICK_TARGET_TARGET p d
    let pos := measRaw (pickMeas p d) (now d) d
    ∃ k : Nat, get REEL_PICK_TARGET_TARGET p (rearm p true d) = ofInt 64 (x + (k + 1) * n) ∧ pos ≤ x + (k + 1) * n ∧ (k ≠ 0 → x + k * n ≤ pos) ∧
      get REEL_PICK_STATUS_STATE p (rearm p true d) = 2 ∧ (k ≠ 0 → get REEL_PICK_STATUS_SKIPPED p (rearm p true d) = 1))

/-- R56: a transition at a general I/O ball shows in GPIO_LEVEL and its strand's register; it is stamped unless it follows the last stamped one by less than 5 ns. No other ball's
notes change but those of the unit's own outputs. -/
def Obligations.GpioEdges : Prop :=
  ∀ dt pin level frac s, pin < 32 → ImgOk s.dev → s.dev.unit.phase ≠ .reset → s.dev.unit.phase ≠ .monitorReset → (s.dev.pins.get {} pin).level ≠ level →
    Gives (.gpioEdge dt pin level frac) s fun e =>
      bit (get SYS_GPIO_LEVEL_LEVEL 0 e) pin = level ∧ (∀ k, k < 32 → k ≠ pin → gpioFlags k s.dev = none → bit (get SYS_GPIO_LEVEL_LEVEL 0 e) k = bit (get SYS_GPIO_LEVEL_LEVEL 0 s.dev) k) ∧
      (e.pins.get {} pin).level = level ∧ (e.pins.get {} pin).edge = edge (later dt s) ∧ (∀ k, k ≠ pin → gpioFlags k s.dev = none → e.pins.get {} k = s.dev.pins.get {} k) ∧
      ((s.dev.pins.get {} pin).ever = true → nowPlus (min frac 15) (later dt s) < (s.dev.pins.get {} pin).inst + 32 →
        (e.pins.get {} pin).stamp = (s.dev.pins.get {} pin).stamp) ∧
      ((s.dev.pins.get {} pin).ever = false ∨ (s.dev.pins.get {} pin).inst + 32 ≤ nowPlus (min frac 15) (later dt s) →
        (e.pins.get {} pin).stamp = edgeStamp (72 + pin) (min frac 15) (later dt s))

/-- R88 to R91, R93, R96: dispatch, waits and budgets of threads. A core switches to a more urgent thread in its bobbin slot, and the thread it ran is READY again at the head of its
level, or HELD with an exhausted share; a thread whose slice or MAX_RUN has run leaves its core; a commit counts the activation and its core time, applies what the activation holds, and ends in the wait that it
names, or READY again where a wake is pending. -/
def Obligations.CreelThreads : Prop :=
  (∀ dt c s t, c < 4 → t < 256 → t ≠ 2 → s.dev.unit.phase = .run → (coreX c s.dev).slot = t + 1 → (coreX c s.dev).run ≠ t + 1 →
    slotLevel c s.dev < runLevel c s.dev → (∀ b, b ≠ c → (coreX b s.dev).slot ≠ t + 1) → t ∉ (s.dev.creel.levels.map (·.2)).flatten →
    Gives (.threadDispatch dt c) s fun e => thrState t e = 5 ∧ get CREEL_THREAD_STATUS_CORE t e = c ∧ (coreX c e).run = t + 1 ∧
      get CREEL_CORE_LAT_SWITCHES c e = (get CREEL_CORE_LAT_SWITCHES c s.dev + 1) % 65536 ∧
      ∀ p, p < 256 → (coreX c s.dev).run = p + 1 → thrState p e = 3 ∨ thrState p e = 4 ∨ (s.dev.creel.exhausted = true ∧ isRole2 p s.dev = true ∧ thrState p e = 6)) ∧
  (∀ dt c s t, c < 4 → t < 256 → c ∈ coresOn s.dev → (coreX c s.dev).run = t + 1 → thrField P0402_SLICE 0 t s.dev ≠ 0 →
    400 * thrField P0402_SLICE 0 t s.dev ≤ edge (later dt s) - ((s.dev.creel.threads.get {} t).runs - 1) → Gives (.sliceExpiry dt c) s fun e =>
      (thrState t e = 3 ∨ thrState t e = 4 ∨ (s.dev.creel.exhausted = true ∧ isRole2 t s.dev = true ∧ thrState t e = 6)) ∧ (coreX c e).run = 0) ∧
  (∀ dt c s t, c < 4 → t < 256 → c ∈ coresOn s.dev → s.dev.unit.phase = .run → overrunning c (later dt s) = some t → Gives (.maxRunExpiry dt c) s fun e =>
    get CREEL_THREAD_STATUS_OVERRUN t e = 1 ∧ (coreX c e).run = 0) ∧
  (∀ dt c w s t, c < 4 → t < 256 → t ≠ 2 → c ∈ coresOn s.dev → s.dev.unit.phase = .run → (coreX c s.dev).run = t + 1 → (∀ b, b ≠ c → (coreX b s.dev).run ≠ t + 1) →
    (∀ b, (coreX b s.dev).slot ≠ t + 1) → t ∉ (s.dev.creel.levels.map (·.2)).flatten → pastLimit t (later dt s) = false → Gives (.threadWaitCommit dt c [] w) s fun e =>
      let y := s.dev.creel.threads.get {} t
      let n := y.used + (edge e - (y.runs - 1))
      get CREEL_THREAD_COUNT_ACTIVATIONS t e = (get CREEL_THREAD_COUNT_ACTIVATIONS t s.dev + 1) % 2 ^ CREEL_THREAD_COUNT_ACTIVATIONS.width ∧
      get CREEL_THREAD_TIME_LAST_NS t e = min (2 ^ 32 - 1) (nsOf n) ∧ (coreX c e).run = 0 ∧
      (get CREEL_THREAD_STATUS_PENDING t s.dev ≠ 0 →
        get CREEL_THREAD_STATUS_PENDING t e = get CREEL_THREAD_STATUS_PENDING t s.dev - 1 ∧ (thrState t e = 3 ∨ thrState t e = 4 ∨ thrState t e = 6)) ∧
      (get CREEL_THREAD_STATUS_PENDING t s.dev = 0 → w = .wake → thrState t e = 1) ∧
      (∀ k n, get CREEL_THREAD_STATUS_PENDING t s.dev = 0 → w = .delay k n → 0 < n → n < 2 ^ 32 → k = 0 ∨ (k = 1 ∧ get CREEL_STATUS_TICK1_EN 0 s.dev = 1) →
        thrState t e = 2 ∧ (e.creel.threads.get {} t).until_ = tickCount k s.dev + n) ∧
      (∀ k n, get CREEL_THREAD_STATUS_PENDING t s.dev = 0 → w = .delay k n → n = 0 ∨ 2 ^ 32 ≤ n ∨ 1 < k ∨ (k = 1 ∧ get CREEL_STATUS_TICK1_EN 0 s.dev = 0) → thrState t e = 1)) ∧
  (∀ p arm x d, p < 1024 → pickUsed p d = true → mayRetarget p d = true → ∀ t b, let e := commitEffect t b (.retarget p arm x) d
    (arm = false → get REEL_PICK_TARGET_TARGET p e = x % 2 ^ 64 ∧ get REEL_PICK_STATUS_STATE p e = 1) ∧
    (arm = true → isTime (pickMeas p d) d = true → get REEL_PICK_CFG_INTERVAL p d = 0 → get REEL_PICK_TARGET_TARGET p e = x % 2 ^ 64 ∧ get REEL_PICK_STATUS_STATE p e = 2)) ∧
  (∀ u d, u < 256 → isStandby d = false → thrState u d ≠ 1 → thrState u d ≠ 2 →
    (get CREEL_THREAD_STATUS_PENDING u d < 15 → get CREEL_THREAD_STATUS_PENDING u (wake u d) = get CREEL_THREAD_STATUS_PENDING u d + 1) ∧
    (get CREEL_THREAD_STATUS_PENDING u d = 15 → get CREEL_THREAD_STATUS_WAKE_OVF u (wake u d) = 1))

/-- R94, R95, R97, R98: ticks, delays, the service share, and a core that fails. A tick counts once for each command; a delay that is due makes its thread READY; an exhausted share
is counted once in a window, and the next window makes held threads READY and shows what the last one used; a failing core is replaced by the reserve, or leaves service. -/
def Obligations.CreelTicksAndShare : Prop :=
  (∀ dt s, s.dev.unit.phase = .run → s.dev.creel.tick0 < tick0Now (later dt s) → Gives (.tick0Advance dt) s fun e =>
    get CREEL_TICK0_COUNT 0 e = (get CREEL_TICK0_COUNT 0 s.dev + 1) % 2 ^ 64 ∧ e.creel.tick0 = s.dev.creel.tick0 + 1) ∧
  (∀ dt t s, t < 256 → thrState t s.dev = 2 → (s.dev.creel.threads.get {} t).until_ ≤ tickCount (s.dev.creel.threads.get {} t).tick s.dev →
    Gives (.delayExpiry dt t) s fun e => thrState t e = 3 ∨ thrState t e = 4 ∨ thrState t e = 6) ∧
  (∀ dt s, s.dev.unit.phase = .run → s.dev.creel.exhausted = false → shareLimit s.dev ≤ shareUsed (later dt s) → Gives (.serviceShareExhausted dt) s fun e =>
    e.creel.exhausted = true ∧ get CREEL_HELD_HELD_COUNT 0 e = min (2 ^ 32 - 1) (get CREEL_HELD_HELD_COUNT 0 s.dev + 1)) ∧
  (∀ dt s, s.dev.unit.phase = .run → s.dev.creel.window < now (later dt s) / 64000000 → (∀ k, k < 16 → (s.dev.eth.sess.get {} k).held = none) →
    Gives (.shareWindowEnd dt) s fun e => e.creel.exhausted = false ∧ e.creel.share = 0 ∧ e.creel.window = now e / 64000000 ∧
      get CREEL_STATUS_SHARE_USED 0 e = min 255 ((shareUsed (later dt s) * 200 + shareLimit s.dev) / (2 * shareLimit s.dev)) ∧
      ∀ t, t < 256 → t ∈ role2Threads s.dev → thrState t s.dev = 6 → thrState t e = 3 ∨ thrState t e = 4) ∧
  (∀ dt s, s.dev.unit.phase = .run → s.dev.creel.window < now (later dt s) / 64000000 →
    exec (.shareWindowEnd dt) s = .next ((List.range 16).foldl runSlot { s with dev := shareWindowEndAt (later dt s) })) ∧
  (∀ dt c s q, c ∈ coresOn s.dev → s.dev.unit.phase = .run → get RSV_STATUS_CORE_SPARE 0 s.dev = 1 → s.dev.pool.migs.any (·.1 == 0) = false →
    q ≤ 4 → bit (get RSV_RETIRED_CORE 0 s.dev) q = false → (∀ k, k < 4 → get CREEL_CORE_STATE_PHYS k s.dev ≠ q) → Gives (.coreLockstepMismatch dt c) s fun e =>
      get RSV_STATUS_CORE_SPARE 0 e = 0 ∧ get CREEL_CORE_STATE_PHYS c e ≠ get CREEL_CORE_STATE_PHYS c s.dev ∧
      (get CREEL_CORE_STATE_PHYS c s.dev < 5 → bit (get RSV_RETIRED_CORE 0 e) (get CREEL_CORE_STATE_PHYS c s.dev) = true) ∧
      get RSV_STATUS_DOFFS 0 e = min 65535 (get RSV_STATUS_DOFFS 0 s.dev + 1) ∧ get CREEL_STATUS_CORES 0 e = get CREEL_STATUS_CORES 0 s.dev) ∧
  (∀ dt c s, c ∈ coresOn s.dev → s.dev.unit.phase = .run → get RSV_STATUS_CORE_SPARE 0 s.dev = 0 → s.dev.pool.migs.any (·.1 == 0) = false →
    Gives (.coreLockstepMismatch dt c) s fun e => get RSV_FLAGS_POOL_EMPTY 0 e = 1 ∧ coresOn e = (coresOn s.dev).filter (· != c) ∧ (coreX c e).run = 0)

/-- R466 to R471: the reserve pool. A planned migration changes the map at its barrier, once its groups or tasks have passed it; a rotated resource that passes its test is the
reserve again; an idle one that fails leaves the pool; a resource in service that fails is doffed as planned; a Shuttle engine that fails is replaced at once, and its scan begins again.
R469, R470: aging and SRAM errors. A margin is shown with its worst resource, and a low one sets AGE_LOW; correctable errors are counted over 24 h, and at the limit a spare row
is filled; a filled row is mapped; an uncorrectable error in a word of the port-A users stops the unit, and in another region costs only what the word held. -/
def Obligations.Reserves : Prop :=
  ((∀ dt s kind m, kind = 1 ∨ kind = 2 → s.dev.pool.migs = [(kind, m)] → m.left = [] → m.barrier ≤ now (later dt s) → s.dev.pool.waiting = [] →
    m.logical < kindCount kind → m.target < kindCount kind + 1 → Gives (.migrationBarrier dt) s fun e =>
      physOf kind m.logical e = m.target ∧ e.pool.migs = [] ∧ get RSV_STATUS_DOFFS 0 e = min 65535 (get RSV_STATUS_DOFFS 0 s.dev + 1) ∧
      get RSV_STATUS_MIGRATING 0 e = 0) ∧
  (∀ dt kind p s, s.dev.unit.phase = .run → kind ≤ 2 → p ≤ kindCount kind → bit (get (retiredFld kind) 0 s.dev) p = false →
    (s.dev.pool.aged.contains (kind * 16 + p) = false → Gives (.bistSlice dt kind p true) s fun e => e = later dt s) ∧
    (s.dev.pool.aged.contains (kind * 16 + p) = true → s.dev.pool.waiting = [] → Gives (.bistSlice dt kind p true) s fun e =>
      get (spareFld kind) 0 e = 1 ∧ e.pool.aged.contains (kind * 16 + p) = false) ∧
    (logicalOf kind p s.dev = none → Gives (.bistSlice dt kind p false) s fun e => get RSV_FLAGS_BIST_FAIL 0 e = 1 ∧ bit (get (retiredFld kind) 0 e) p = true ∧
      (get (spareFld kind) 0 s.dev = 1 → get (spareFld kind) 0 e = 0 ∧ get RSV_FLAGS_POOL_EMPTY 0 e = 1)) ∧
    (∀ k q, kind ≠ 0 → logicalOf kind p s.dev = some k → isOut kind k s.dev = false → get (spareFld kind) 0 s.dev = 1 → s.dev.pool.migs.any (·.1 == kind) = false →
      freePhys kind s.dev = some q → Gives (.bistSlice dt kind p false) s fun e => get RSV_FLAGS_BIST_FAIL 0 e = 1 ∧ get (spareFld kind) 0 e = 0 ∧
        e.pool.migs.find? (fun m => m.1 == kind) = some (kind, ⟨k, q, now e + 640000, if kind = 1 then groupsOn k s.dev else tasksOn k s.dev, false⟩) ∧
        get RSV_LAST_STAMP 0 e = (now e + 640000) % 2 ^ 64)) ∧
  (∀ dt n s t q, n < 2 → s.dev.unit.phase = .run → isStandby s.dev = false → nextTask n s.dev = some t → (shuEngX n s.dev).out = false → get RSV_STATUS_SHU_SPARE 0 s.dev = 1 →
    s.dev.pool.migs.any (·.1 == 2) = false → q ≤ 2 → bit (get RSV_RETIRED_SHU 0 s.dev) q = false → (∀ k, k < 2 → get SHU_ENG_STATUS_PHYS k s.dev ≠ q) →
    Gives (.shuttleResidueFailure dt n) s fun e => get RSV_FLAGS_RESIDUE 0 e = 1 ∧ get RSV_STATUS_SHU_SPARE 0 e = 0 ∧ (taskX t e).rerun = true ∧
      get SHU_ENG_STATUS_PHYS n e ≠ get SHU_ENG_STATUS_PHYS n s.dev)) ∧
  ((∀ dt dom margin worst slower s, dom < 6 → slower ≤ rsvField P1301_AGE_DELTA 30 s.dev → Gives (.ageCheck dt dom margin worst slower) s fun e =>
    get RSV_AGE_MARGIN dom e = margin % 65536 ∧ get RSV_AGE_WORST dom e = worst % 256 ∧
    (margin < rsvField P1301_AGE_WARN 50 s.dev → get RSV_FLAGS_AGE_LOW 0 e = 1) ∧ KeepsButFault [RSV_AGE.addr dom, RSV_FLAGS.addr 0] (later dt s) e) ∧
  (∀ dt ram row s, ram < 128 →
    let l := ((s.dev.pool.ecc.get [] (ram * 65536 + row)).filter fun t => decide (now (later dt s) < t + day16)) ++ [now (later dt s)]
    (l.length < rsvField P1301_ECC_ROW_LIMIT 2 s.dev → Gives (.sramEccCorrectable dt ram row) s fun e =>
      e.pool.ecc.get [] (ram * 65536 + row) = l ∧ KeepsBut [] { later dt s with pool := e.pool } e) ∧
    (rsvField P1301_ECC_ROW_LIMIT 2 s.dev ≤ l.length → (ram, row) ∉ s.dev.pool.copies → rowsFree ram s.dev ≠ 0 → Gives (.sramEccCorrectable dt ram row) s fun e =>
      e.pool.copies = s.dev.pool.copies ++ [(ram, row)] ∧ rowsFree ram e = rowsFree ram s.dev - 1 ∧ get RSV_STATUS_ROWS_MIN 0 e ≤ rowsFree ram e ∧
      KeepsBut [RSV_STATUS.addr 0] { later dt s with pool := e.pool } e) ∧
    (rsvField P1301_ECC_ROW_LIMIT 2 s.dev ≤ l.length → (ram, row) ∉ s.dev.pool.copies → rowsFree ram s.dev = 0 →
      exec (.sramEccCorrectable dt ram row) s = .next { s with dev := raise 0x130A ram { later dt s with pool := { s.dev.pool with ecc := s.dev.pool.ecc.put (ram * 65536 + row) l } } })) ∧
  (∀ dt s ram row rest, s.dev.pool.copies = (ram, row) :: rest → Gives (.sramRowCopyComplete dt) s fun e =>
    e.pool.copies = rest ∧ get RSV_FLAGS_ROW_REPAIRED 0 e = 1 ∧ KeepsButFault [RSV_FLAGS.addr 0] { later dt s with pool := e.pool } e) ∧
  (∀ dt ram s, exec (.sramEccUncorrectable dt ram 11) s = .next { s with dev := raise 0x0405 0 (later dt s) }) ∧
  (∀ dt ram region s, fatalRegion region = true → exec (.sramEccUncorrectable dt ram region) s = .next { s with dev := raise 0x1308 ram (later dt s) }) ∧
  (∀ dt ram region s, fatalRegion region = false → region < 11 → Gives (.sramEccUncorrectable dt ram region) s fun e =>
    e = raise 0x130B ram (discardWord region (later dt s)) ∧ e.unit = s.dev.unit))

/-- R111, R112, R116, R126, R128, R131, R405: ply engines. A finished ply is evaluated by its law and its engine takes the next one; a result of an old epoch is
discarded and counted; a launch that is done publishes its four strands, its state
words and CONSEC_MISS 0 on its publication edge; one that is not done is a miss, which leaves the strands, and at MISS_LIMIT the ply stops with STOP_OUT. An engine that fails its
self-test, after 2 µs of idle time, is doffed. A trace copy ends as a capture or is refused. -/
def Obligations.PlyEngines : Prop :=
  (∀ dt n mask s g r i, (s.dev.engs.get {} n).group = g + 1 → grpRec g s.dev = some r → isTwin r = false → nextEntry r (s.dev.grps.get {} g).pos s.dev = some i →
    exec (.plyEvalComplete dt n true ⟨mask, (s.dev.grps.get {} g).epoch⟩) s = .next { s with dev := engsKick (engPick n (evalEntry r (r.u P0502_ENTRY i) mask
      (let x := s.dev.grps.get {} g
       { later dt s with grps := s.dev.grps.put g { x with
          pos := i + 1, flipMain := Tab.set 0 i mask x.flipMain, finMain := x.finMain.put i (edge (later dt s)) } }))) }) ∧
  (∀ dt n ok mask epoch s g r, n < 8 → (s.dev.engs.get {} n).group = g + 1 → grpRec g s.dev = some r → isTwin r = false →
    epoch ≠ (s.dev.grps.get {} g).epoch → epoch ≠ ((s.dev.grps.get {} g).epoch + 1) % 65536 → Gives (.plyEvalComplete dt n ok ⟨mask, epoch⟩) s fun e =>
      get PLY_ENG_COUNT_DISCARDED n e = satU PLY_ENG_COUNT_DISCARDED.width (get PLY_ENG_COUNT_DISCARDED n s.dev + 1) ∧
        KeepsBut [PLY_ENG_COUNT.addr n] (later dt s) e) ∧
  (∀ dt n ok mask s g r i, (s.dev.engs.get {} n).group = g + 1 → grpRec g s.dev = some r → isTwin r = true → (s.dev.grps.get {} g).single = 0 → asTwin n g r s.dev = false →
    nextEntry r (s.dev.grps.get {} g).pos s.dev = some i → exec (.plyEvalComplete dt n ok ⟨mask, (s.dev.grps.get {} g).epoch⟩) s = .next { s with dev := engsKick (engPick n (settleTwin g
      (let x := s.dev.grps.get {} g
       { later dt s with grps := s.dev.grps.put g { x with
          pos := i + 1, flipMain := Tab.set 0 i mask x.flipMain, finMain := x.finMain.put i (edge (later dt s)), okMain := x.okMain && ok } }))) }) ∧
  (∀ dt p s r, p < 1024 → ImgOk s.dev → plyRec p s.dev = some r → running s.dev = true → plyDue p r (later dt s) = true →
    (∀ q, grpRec (groupOfPly p s.dev) s.dev = some q → isTwin q = false ∧ grpEngine (groupOfPly p s.dev) q s.dev < 8) →
    let l := (s.dev.plies.get {} p).launch
    (l.done = true → l.hold = false → Gives (.plyPublish dt p) s fun e =>
      strand 0x05 p e = ofInt 64 l.u ∧ strand 0x05 (1024 + p) e = ofInt 64 l.y ∧ strand 0x05 (2048 + p) e = ofInt 64 l.r ∧
      strand 0x05 (3072 + p) e = ofInt 64 (if r.u P0501_CLASS = 2 ∧ r.u P0501_MODE = 1 then 0 else l.e) ∧ get PLY_STATE_CONSEC_MISS p e = 0 ∧
      (e.plies.get {} p).launch.live = false ∧ (e.plies.get {} p).w = l.next) ∧
    (l.done = false → (s.dev.grps.get {} (groupOfPly p s.dev)).held = false → replaying s.dev = false → Gives (.plyPublish dt p) s fun e =>
      get PLY_COUNTS_MISS_COUNT p e = satU PLY_COUNTS_MISS_COUNT.width (get PLY_COUNTS_MISS_COUNT p s.dev + 1) ∧ get PLY_FLAGS_MISS p e = 1 ∧
      (e.plies.get {} p).launch.live = false ∧
      (r.u P0501_MISS_LIMIT = 0 → ∀ k, k < 4 → strand 0x05 (1024 * k + p) e = strand 0x05 (1024 * k + p) s.dev) ∧
      (r.u P0501_MISS_LIMIT ≠ 0 → get PLY_STATE_STATE p s.dev = 1 → r.u P0501_MISS_LIMIT ≤ satU PLY_STATE_CONSEC_MISS.width (get PLY_STATE_CONSEC_MISS p s.dev + 1) →
        get PLY_STATE_STATE p e = 2 ∧ get PLY_STATE_STOPPED p e = 1 ∧ strand 0x05 p e = ofInt 64 (r.s P0501_STOP_OUT)))) ∧
  (∀ dt n s, (s.dev.engs.get {} n).test = true → (s.dev.engs.get {} n).group = 0 →
    max (s.dev.engs.get {} n).since (s.dev.engs.get {} n).testEdge + 800 ≤ edge (later dt s) →
    (Gives (.engineSelfTest dt n true) s fun e => (e.engs.get {} n).test = false ∧ KeepsBut [] { later dt s with engs := e.engs } e) ∧
    exec (.engineSelfTest dt n false) s = .next { s with dev := engsKick (doffPly n { later dt s with engs := s.dev.engs.put n { s.dev.engs.get {} n with test := false } }) }) ∧
  (∀ dt b s r, b < 8 → trcRec b s.dev = some r → (s.dev.trcs.get {} b).copying = true → Gives (.traceCopyComplete dt b) s fun e =>
    (e.trcs.get {} b).copying = false ∧
    (orD (recOf 0x0F01 s.dev) P0F01_SNAP_MIB 0 * 1048576 < (captureBytes b r s.dev).length ∨ storeReady s.dev = false → get REC_STATUS_SNAP_REFUSED 0 e = 1) ∧
    (get PLY_TRC_STATUS_STATE b s.dev ≠ 5 → (captureBytes b r s.dev).length ≤ orD (recOf 0x0F01 s.dev) P0F01_SNAP_MIB 0 * 1048576 → storeReady s.dev = true →
      get PLY_TRC_STATUS_SAVED b e = 1 ∧ e.recd.snaps.getLast? = some (s.dev.recd.nextSnap, captureBytes b r s.dev) ∧ e.recd.nextSnap = s.dev.recd.nextSnap + 1))

/-- R166: after BRAKE_TIME the axis enters the state that waited for the brake: ENABLED, with the ENABLE command done, or the stopped state with its plies stopped, DISABLED or FAULT. -/
def Obligations.BrakeTime : Prop :=
  ∀ dt a s r x next, a < 64 → ImgOk s.dev → axisRec a s.dev = some r → (s.dev.axes.get {} a).brake = some (x, next) → x ≤ edge (later dt s) →
    Gives (.brakeTimeElapsed dt a) s fun e => (e.axes.get {} a).brake = none ∧
      (next = 2 → get MOT_AX_STATE_STATE a s.dev = 1 → get MOT_AX_STATE_STATE a e = 2 ∧ bit (get MOT_ENABLED_AXES 0 e) a = true) ∧
      (next = 2 → get MOT_AX_STATE_STATE a s.dev ≠ 1 → KeepsBut [] { later dt s with axes := e.axes } e) ∧
      (next = 0 ∨ next = 9 → get MOT_AX_STATE_STATE a e = (if get MOT_AX_STATE_FAULT_PENDING a s.dev = 1 then 9 else next) ∧ bit (get MOT_ENABLED_AXES 0 e) a = false ∧
        (r.u P0601_KIND = 1 → get DRV_AX_STATUS_DRIVE a e = 0))

/-- R329, R399, R407, R412: the recorder. A packet whose time has come closes into its port's queue, and the next SEQ follows; with the queue full the stream overflows and stops. The
event buffer's records go to the EVENT skein when the oldest has waited its time. -/
def Obligations.Recorder : Prop :=
  (∀ dt n s r i, n < 16 → ImgOk s.dev → strDue n (later dt s) = true → strEntry n s.dev = some (r, i) →
    let x := s.dev.streams.get {} n
    (get ETH_STREAM_STATUS_QUEUED n s.dev < r.u P0C03_QUEUE i → Gives (.streamPacketClose dt n) s fun e =>
      (e.streams.get {} n).body = [] ∧ (e.streams.get {} n).entries = 0 ∧ (e.streams.get {} n).seq = x.seq + 1 ∧ (e.streams.get {} n).first = false ∧
      get REC_STR_STATUS_STATE n e = get REC_STR_STATUS_STATE n s.dev ∧ (∀ k, k ≠ n → e.streams.get {} k = s.dev.streams.get {} k)) ∧
    (r.u P0C03_QUEUE i ≤ get ETH_STREAM_STATUS_QUEUED n s.dev → Gives (.streamPacketClose dt n) s fun e =>
      (e.streams.get {} n).body = [] ∧ get REC_STR_STATUS_STATE n e = 2 ∧ get REC_STR_STATUS_OVERFLOW n e = 1 ∧
      get ETH_STREAM_STATUS_DROPPED n e = satU ETH_STREAM_STATUS_DROPPED.width (get ETH_STREAM_STATUS_DROPPED n s.dev + 1))) ∧
  (∀ dt n s, strDue n (later dt s) = false → Gives (.streamPacketClose dt n) s fun e => e = later dt s) ∧
  (∀ dt s, s.dev.recd.buf ≠ [] → orD0 (recOf 0x1004 s.dev) P1004_EVENT_FLUSH_MS 1000 * 400000 ≤ since s.dev.recd.oldest (later dt s) → storeReady s.dev = true →
    s.dev.recd.frozen = false → Gives (.eventFlushTimer dt) s fun e => e.recd.buf = [] ∧ e.recd.log = s.dev.recd.log ++ s.dev.recd.buf ∧
      get REC_EVENT_BUF_UNWRITTEN 0 e = 0 ∧ get REC_EVENT_BUF_WRITES 0 e = (get REC_EVENT_BUF_WRITES 0 s.dev + 1) % 2 ^ REC_EVENT_BUF_WRITES.width ∧
      get STORE_SK_HEAD_BYTES 1 e = (get STORE_SK_HEAD_BYTES 1 s.dev + (s.dev.recd.buf.length + 511) / 512 * 16384) % 2 ^ STORE_SK_HEAD_BYTES.width ∧
      e.store.due = s.dev.store.due ++ (eventPages s.dev.recd.buf).map (fun p => ⟨2, p.1, p.2⟩) ∧
      KeepsBut [STORE_SK_HEAD.addr 1, STORE_SK_TAIL.addr 1, REC_EVENT_SEQ.addr 0, REC_EVENT_COUNT.addr 0, REC_EVENT_BUF.addr 0]
        { later dt s with recd := e.recd, store := { s.dev.store with due := e.store.due } } e) ∧
  (∀ dt s, s.dev.recd.buf = [] ∨ since s.dev.recd.oldest (later dt s) < orD0 (recOf 0x1004 s.dev) P1004_EVENT_FLUSH_MS 1000 * 400000 →
    Gives (.eventFlushTimer dt) s fun e => e = later dt s)

/-- R261, R265 to R267, R270: hanks. SELECT and START act only in IDLE, RESUME only in HOLDING. A refused request shows RESULT 3 with its cause, sets REFUSED and leaves the hank alone.
SELECT keeps its recipe; START leads to STARTING with its tag and nothing staged; RESUME waits in HOLDING. A boundary leads to its step, in RUNNING, or in HOLDING for the hold step,
with its stamp shown and the sets NEXT and BRANCH discarded. A standby takes no boundary of its own. -/
def Obligations.HankSequencer : Prop :=
  (∀ h t q k d, reqDecision h t q d = some k → (q.code = 1 ∧ hankState h d = 0 ∧ k.kind = 6 ∧ k.recipe = q.recipe) ∨
    (q.code = 2 ∧ hankState h d = 0 ∧ k.kind = 7 ∧ k.step = q.step ∧ k.tag = q.tag) ∨ (q.code = 5 ∧ hankState h d = 3 ∧ k.kind = 8)) ∧
  (∀ host h t q d, h < 32 → boxAt host h d = some q → reqDecision h t q d = none → q.seq < 65536 →
    let e := (judgeReq host h t d).2
    (judgeReq host h t d).1 = false ∧ get HANK_H_REQ_SEQ h e = q.seq ∧ get HANK_H_REQ_RESULT h e = 3 ∧ get HANK_H_REQ_SOURCE h e = b2n host ∧
    get HANK_H_REQ_CAUSE h e = 4 ∧ get HANK_H_FLAGS_REFUSED h e = 1 ∧ boxAt host h e = none ∧ (hankX h e).step = (hankX h d).step ∧
    (hankX h e).recipe = (hankX h d).recipe ∧ (hankX h e).next = (hankX h d).next ∧
    ∀ a, a ≠ HANK_H_REQ.addr h → a ≠ HANK_H_FLAGS.addr h → a ∉ raiseAddrs → ∀ z, e.live.get z a = d.live.get z a) ∧
  (∀ h k t d, h < 32 → k.kind = 6 → k.recipe < 256 → let e := hankApply h k t d
    get HANK_H_SELECT_SELECTED h e = k.recipe ∧ get HANK_H_SELECT_VALID h e = 1 ∧ KeepsBut [HANK_H_SELECT.addr h] d e) ∧
  (∀ h k t d, h < 32 → k.kind = 7 → k.recipe < 256 → k.tag < 2 ^ 32 → let e := hankApply h k t d
    hankState h e = 1 ∧ get HANK_H_TAG_TAG h e = k.tag ∧ get HANK_H_STATE_RECIPE h e = k.recipe ∧ get HANK_H_STATE_STAGED_NEXT h e = 0 ∧
    get HANK_H_STATE_STAGED_BRANCH h e = 0 ∧ get HANK_H_STATE_STAGED_HOLD h e = 0 ∧ (hankX h e).aim = k.step ∧ (hankX h e).loops = []) ∧
  (∀ h k t d, h < 32 → k.kind = 8 → let e := hankApply h k t d
    hankState h e = hankState h d ∧ get HANK_H_STATE_RESUME_PENDING h e = 1 ∧ (hankX h e).aim = k.step ∧ get HANK_H_STATE_STAGED_NEXT h e = 0) ∧
  (∀ h k t d, h < 32 → (hankRec h d).isSome = true → (hankRecipe h d).isSome = true → k.kind = 1 ∨ k.kind = 2 → k.step < 1024 → t < 2 ^ 64 → let e := hankApply h k t d
    hankState h e = k.kind + 1 ∧ get HANK_H_STATE_STEP h e = k.step ∧ get HANK_H_BOUNDARY_STAMP h e = t ∧ (hankX h e).step = some k.step ∧
    (hankX h e).next = none ∧ (hankX h e).branch = none ∧ get HANK_H_STATE_STAGED_NEXT h e = 0 ∧ get HANK_H_STATE_STAGED_BRANCH h e = 0 ∧
    (k.kind = 2 → get HANK_H_FLAGS_HELD h e = 1 ∧ get HANK_H_HOLD_CAUSE h e = k.cause % 65536)) ∧
  (∀ h pick t d, isActive d = false → hankStep h pick t d = d)

/-- R146 to R149, R166: axis commands. SEQ 0 is no command. One written over one that waits shows the latter with RESULT 4 and sets OVERWRITTEN. A command is accepted only in the
states of its code and with its fields in range; ENABLE leads to state 1, DISABLE to 8, STOP and GEAR_OUT to 7; a refused one shows RESULT 3 and its code, sets REFUSED and leaves
the state, the profile and the running command. -/
def Obligations.AxisCommands : Prop :=
  (∀ a hank c d, c.seq = 0 → postAxis a hank c d = d) ∧
  (∀ a hank c old d, a < 64 → c.seq ≠ 0 → (axisRec a d).isSome = true → old.seq < 65536 →
    (if hank then (d.axes.get {} a).boxH else (d.axes.get {} a).boxS) = some old → let e := postAxis a hank c d
    get (if hank then MOT_AX_CMD_H_SEQ else MOT_AX_CMD_S_SEQ) a e = old.seq ∧ get (if hank then MOT_AX_CMD_H_RESULT else MOT_AX_CMD_S_RESULT) a e = 4 ∧
    get MOT_AX_FLAGS_OVERWRITTEN a e = 1 ∧ (if hank then (e.axes.get {} a).boxH else (e.axes.get {} a).boxS) = some c ∧
    (e.axes.get {} a).plan = (d.axes.get {} a).plan ∧ get MOT_AX_STATE_STATE a e = get MOT_AX_STATE_STATE a d) ∧
  (∀ a r c d, judge a r c d = 0 → acceptsIn c.code (get MOT_AX_STATE_STATE a d) = true ∧ badFields r c = false) ∧
  (∀ a r t hank c d, a < 64 → c.seq < 65536 → judge a r c d ≠ 0 → let e := takeCmd a r t hank c d
    get (if hank then MOT_AX_CMD_H_SEQ else MOT_AX_CMD_S_SEQ) a e = c.seq ∧ get (if hank then MOT_AX_CMD_H_RESULT else MOT_AX_CMD_S_RESULT) a e = 3 ∧
    get (if hank then MOT_AX_CMD_H_CAUSE else MOT_AX_CMD_S_CAUSE) a e = judge a r c d % 256 ∧ get MOT_AX_FLAGS_REFUSED a e = 1 ∧
    get MOT_AX_STATE_STATE a e = get MOT_AX_STATE_STATE a d ∧ (e.axes.get {} a).plan = (d.axes.get {} a).plan ∧ (e.axes.get {} a).code = (d.axes.get {} a).code) ∧
  (∀ a r t hank c d, a < 64 → judge a r c d = 0 → c.code = 1 ∨ c.code = 2 ∨ c.code = 6 ∨ c.code = 9 →
    get MOT_AX_STATE_STATE a (takeCmd a r t hank c d) = if c.code = 1 then 1 else if c.code = 2 then 8 else 7)

/-- R150 to R154: profiles. A planned move ends at its target, at rest; its speed never exceeds the larger of the speed it began with and its top speed, and its acceleration never
the larger of its two rates. A stop begins where the axis is, never goes faster, and ends at the stopping point. -/
def Obligations.AxisProfiles : Prop :=
  (∀ (t t' : Nat) p v0 x m, 0 < m.v → 0 ≤ m.vs → 0 ≤ m.ve → 0 < m.a → 0 < m.b → let pl := movePlan t p v0 x m
    (pl.tEnd ≤ t' → planAt pl t' = (x, 0, 0)) ∧
    (t ≤ t' → |(planExact pl t').2.1| ≤ max |(v0 : Rat)| m.v ∧ |(planExact pl t').2.2| ≤ max m.a m.b)) ∧
  (∀ (t t' : Nat) p v b, v ≠ 0 → 0 < b → let pl := stopPlan t p v b
    (planExact pl t).1 = p ∧ (planExact pl t).2.1 = v ∧ (pl.tEnd ≤ t' → planAt pl t' = (ratHalfUp (stopPoint p v b), 0, 0)) ∧
    (t ≤ t' → |(planExact pl t').2.1| ≤ |(v : Rat)| ∧ |(planExact pl t').2.2| ≤ b))

/-- R370, R371, R375 to R379, R384: a page on the array is eight sectors of 2048 data bytes, 8 bytes of its label and 180 parity bytes; the label holds its fields under a
CRC-32C. Completions of the array's operations. A read counts its corrected bits, its recovery or its loss; a program that fails retires its block and one that
succeeds outside the directory counts its bytes; an erase counts for its block; a slow operation counts for its die, and the third in a row retires the die; a retired die leaves service and a spare takes its place.
R369, R375, R377, R382, R384, R385: the store's life. Probing finds the record's dies or the store has FAILED; a valid directory, or the format of a blank array, makes it READY; the directory saves
OP_MS; a scrub pass is counted; a calibration goes to every die. -/
def Obligations.SkeinStore : Prop :=
  ((∀ dt p o s, storeReady s.dev = true → current p 0 s.dev = some o →
    (∀ n, Gives (.nandReadComplete dt p (.good n)) s fun e => get STORE_ECC_MAX_BITS 0 e = max (get STORE_ECC_MAX_BITS 0 s.dev) (satU STORE_ECC_MAX_BITS.width n) ∧
      get STORE_ECC_RETRIES 0 e = get STORE_ECC_RETRIES 0 s.dev) ∧
    (∀ n, Gives (.nandReadComplete dt p (.retried n)) s fun e => get STORE_ECC_MAX_BITS 0 e = max (get STORE_ECC_MAX_BITS 0 s.dev) (satU STORE_ECC_MAX_BITS.width n) ∧
      get STORE_ECC_RETRIES 0 e = satU STORE_ECC_RETRIES.width (get STORE_ECC_RETRIES 0 s.dev + 1)) ∧
    (Gives (.nandReadComplete dt p .lost) s fun e => get STORE_ECC_LOST 0 e = satU STORE_ECC_LOST.width (get STORE_ECC_LOST 0 s.dev + 1) ∧ get STORE_FLAGS_LOST 0 e = 1) ∧
    (Gives (.nandReadComplete dt p .recovered) s fun e => get STORE_FLAGS_RECOVERED 0 e = 1 ∨ get STORE_FLAGS_LOST 0 e = 1)) ∧
  (∀ l data, (pageImage l data).length = 17888 ∧ (labelBytes l).length = 64 ∧
    ((List.range 8).flatMap fun i => ((pageImage l data).drop (2236 * i + 2048)).take 8) = labelBytes l ∧
    (∀ i k, i < 8 → k < 2048 → (pageImage l data)[2236 * i + k]? = some (data.getD (2048 * i + k) 0)) ∧
    leVal (((labelBytes l).drop 4).take 4) = l.blockSeq % 2 ^ 32 ∧ leVal (((labelBytes l).drop 8).take 8) = l.logical % 2 ^ 64 ∧
    leVal (((labelBytes l).drop 16).take 8) = l.stamp % 2 ^ 64 ∧ leVal (((labelBytes l).drop 24).take 4) = l.cycle % 2 ^ 32 ∧
    (labelBytes l).drop 60 = beBytes 4 (crc32c ((labelBytes l).take 60))) ∧
  (∀ dt p o s, current p 1 s.dev = some o → p.die = o.die →
    (Gives (.nandProgramComplete dt p true) s fun e => e.store.progBytes = s.dev.store.progBytes + if o.skein = 15 then 0 else 16384) ∧
    ((blkX (o.die * 65536 + o.block) s.dev).st ≠ 3 → Gives (.nandProgramComplete dt p false) s fun e =>
      (blkX (o.die * 65536 + o.block) e).st = 3 ∧ get STORE_FLAGS_BLOCK_RETIRED 0 e = 1 ∧ e.store.progBytes = s.dev.store.progBytes)) ∧
  (∀ dt p o s, current p 2 s.dev = some o → p.die = o.die →
    (Gives (.nandEraseComplete dt p true) s fun e =>
      (blkX (o.die * 65536 + o.block) e).erases = (blkX (o.die * 65536 + o.block) s.dev).erases + 1 ∧ (dieX o.die e).eraseFails = 0) ∧
    ((blkX (o.die * 65536 + o.block) s.dev).st ≠ 3 → Gives (.nandEraseComplete dt p false) s fun e => (blkX (o.die * 65536 + o.block) e).st = 3 ∧ get STORE_FLAGS_BLOCK_RETIRED 0 e = 1)) ∧
  (∀ dt n s, (dieX n s.dev).resetting = true → Gives (.nandResetComplete dt n) s fun e => (dieX n e).resetting = false) ∧
  (∀ dt n s, (dieX n s.dev).cur.isSome = true → (dieX n s.dev).slow = false → 4000000 < since (dieX n s.dev).began (later dt s) → Gives (.nandBusyTimeout dt n) s fun e =>
    (dieX n e).slow = true ∧ (dieX n e).strikes = (dieX n s.dev).strikes + 1 ∧
    (2 ≤ (dieX n s.dev).strikes → get STORE_DIE_STATUS_ROLE n s.dev = 1 → e.store.retiring = n + 1 ∨ n ∈ e.store.retire)) ∧
  (∀ dt n s, n < 32 → s.dev.store.retiring = n + 1 → get STORE_DIE_STATUS_ROLE n s.dev = 1 → Gives (.dieRetirementComplete dt n) s fun e =>
    get STORE_DIE_STATUS_ROLE n e = 3 ∧ get STORE_FLAGS_DIE_RETIRED 0 e = 1 ∧
    (∀ k, (List.range 32).find? (fun k => get STORE_DIE_STATUS_ROLE k s.dev == 2) = some k → get STORE_DIE_STATUS_ROLE k e = 1) ∧
    ((List.range 32).find? (fun k => get STORE_DIE_STATUS_ROLE k s.dev == 2) = none → get STORE_STATUS_DEGRADED 0 e = 1))) ∧
  ((∀ dt res s r, ImgOk s.dev → arrRec s.dev = some r → get STORE_STATUS_STATE 0 s.dev = 1 →
    ((∀ p ∈ arrayDies r, bit res.present p.1 = true) → Gives (.storeProbeComplete dt res) s fun e =>
      get STORE_STATUS_STATE 0 e = 2 ∧ e.store.nBlocks = res.blocks ∧ e.store.nPages = res.pages ∧
      ∀ p ∈ arrayDies r, get STORE_DIE_STATUS_ROLE p.1 e = (s.dev.store.roles.get (if p.2 then 2 else 1) p.1) % 4) ∧
    ((∃ p ∈ arrayDies r, s.dev.store.roles.get (if p.2 then 2 else 1) p.1 ≠ 3 ∧ bit res.present p.1 = false) → Gives (.storeProbeComplete dt res) s fun e =>
      get STORE_STATUS_STATE 0 e = 6 ∧ e.recd.numbering = true)) ∧
  (∀ dt res s r, arrRec s.dev = some r → get STORE_STATUS_STATE 0 s.dev = 2 →
    (res.directory = true → s.dev.store.formatted = true → Gives (.storeMountComplete dt res) s fun e =>
      get STORE_STATUS_STATE 0 e = 3 ∧ e.store.cycles = s.dev.store.cycles + 1 ∧ e.recd.powerCycle = (s.dev.store.cycles + 1) % 2 ^ 24 ∧ e.recd.numbering = true) ∧
    (res.directory = false → res.blank = true → r.b P0F01_FLAGS 0 = true → Gives (.storeMountComplete dt res) s fun e =>
      get STORE_STATUS_STATE 0 e = 3 ∧ get STORE_STATUS_FORMATTED 0 e = 1 ∧ e.store.formatted = true ∧ e.store.cycles = 1) ∧
    (res.directory = false → res.blank = false ∨ r.b P0F01_FLAGS 0 = false → Gives (.storeMountComplete dt res) s fun e => get STORE_STATUS_STATE 0 e = 6)) ∧
  (∀ dt p ok s, get STORE_STATUS_STATE 0 s.dev = 1 →
    (ok = false → (∃ r, arrRec s.dev = some r ∧ (arrayDies r).any (·.1 == p.die) = true) → Gives (.nandFeaturesComplete dt p ok) s fun e => get STORE_STATUS_STATE 0 e = 6) ∧
    (ok = true → Gives (.nandFeaturesComplete dt p ok) s fun e => get STORE_STATUS_STATE 0 e = 1)) ∧
  (∀ dt s i, i = .directoryJournal dt ∨ i = .directoryCheckpoint dt →
    (storeReady s.dev = true → dueAgain (s.dev.store.last.get 0 1) 40000000 (later dt s) = true → dueAgain (s.dev.store.last.get 0 2) 1440000000000 (later dt s) = true →
      Gives i s fun e => e.store.saved = opMs e ∧ opMs e = opMs (later dt s)) ∧ (storeReady s.dev = false → Gives i s fun e => e = later dt s)) ∧
  (∀ dt aged s r, storeReady s.dev = true → arrRec s.dev = some r → dueAgain (s.dev.store.last.get 0 4) (r.u P0F01_SCRUB_HOURS * 1440000000000) (later dt s) = true →
    Gives (.scrubPass dt aged) s fun e =>
    get STORE_MAINT_SCRUB_PASSES 0 e = satU STORE_MAINT_SCRUB_PASSES.width (get STORE_MAINT_SCRUB_PASSES 0 s.dev + 1)) ∧
  (∀ dt s, storeReady s.dev = true → zqDue (later dt s) = true → Gives (.zqCalibration dt) s fun e =>
    e.out = s.dev.out ++ ((List.range 32).filter fun n => get STORE_DIE_STATUS_ROLE n s.dev == 1 || get STORE_DIE_STATUS_ROLE n s.dev == 2).map (fun n => ⟨.nand, n, [0xF9]⟩) ∧
    e = { later dt s with out := e.out, store := { s.dev.store with last := s.dev.store.last.put 3 (now (later dt s) + 1) } }))

/-- R449, R453, R457, R489: the pair link. An acknowledgement ends a frame's wait; a frame without one for 3 µs is sent once more; 10 µs without a valid frame set LINK_DOWN; a frame in order is
acknowledged and taken: an item waits for its replay in the order of stamps, one more than 10 µs late ends SHADOW, and state parts gather for the join. -/
def Obligations.PairLinkFrames : Prop :=
  (∀ dt seq s, isMember s.dev = true → blocksOn s.dev = true → Gives (.pairAckRx dt seq) s fun e =>
    e.pairx.unacked = s.dev.pairx.unacked.filter (fun u => u.seq != seq) ∧ e.pairx.linkEdge = edge e + 1 ∧ KeepsButFault [] { later dt s with pairx := e.pairx } e) ∧
  (∀ dt seq s u, s.dev.pairx.unacked.find? (fun u => u.seq == seq) = some u → 1200 ≤ since u.edge (later dt s) →
    (u.resent = false → Gives (.pairLinkRetransmit dt seq) s fun e => e.out.getLast? = some ⟨.pair, 0, linkFrame u.seq u.kind u.body⟩ ∧
      e.pairx.unacked.find? (fun u => u.seq == seq) = some { u with resent := true, edge := edge e } ∧
      get PAIR_LINK_RETRIES 0 e = min 65535 (get PAIR_LINK_RETRIES 0 s.dev + 1) ∧ KeepsBut [PAIR_LINK.addr 0] { later dt s with out := e.out, pairx := e.pairx } e) ∧
    (u.resent = true → Gives (.pairLinkRetransmit dt seq) s fun e =>
      e.pairx.unacked = s.dev.pairx.unacked.filter (fun u => u.seq != seq) ∧ KeepsBut [] { later dt s with pairx := e.pairx } e)) ∧
  (∀ dt s, isMember s.dev = true → blocksOn s.dev = true → 4000 ≤ since (s.dev.pairx.linkEdge - 1) (later dt s) → Gives (.pairLinkDown dt) s fun e =>
    get PAIR_FLAGS_LINK_DOWN 0 e = 1 ∧ e.pairx.upEdge = 0 ∧ KeepsButFault [PAIR_FLAGS.addr 0] { later dt s with pairx := e.pairx } e) ∧
  (∀ dt seq s i, isMember s.dev = true → blocksOn s.dev = true → seq < 2 ^ 32 → s.dev.pairx.rxNext = some seq → s.dev.pairx.gaps = [] → pairState s.dev = 5 → 1 ≤ i.item → i.item ≤ 11 →
    (now (later dt s) ≤ i.stamp + 64000 → Gives (.pairItemsRx dt seq [i]) s fun e =>
      e.out.getLast? = some ⟨.pair, 0, linkFrame s.dev.pairx.txSeq 4 (leBytes 4 seq)⟩ ∧ e.pairx.rxNext = some ((seq + 1) % 2 ^ 32) ∧ pairState e = 5 ∧
      e.pairx.replay = (s.dev.pairx.replay.filter fun j => decide (j.stamp ≤ i.stamp)) ++ [i] ++ s.dev.pairx.replay.filter fun j => decide (i.stamp < j.stamp)) ∧
    (i.stamp + 64000 < now (later dt s) → Gives (.pairItemsRx dt seq [i]) s fun e => get PAIR_FLAGS_ITEM_LATE 0 e = 1 ∧ pairState e = 3 ∧ e.pairx.replay = [])) ∧
  (∀ dt seq s part, isMember s.dev = true → blocksOn s.dev = true → seq < 2 ^ 32 → s.dev.pairx.rxNext = some seq → s.dev.pairx.gaps = [] → pairState s.dev = 3 →
    (part.last = false → Gives (.pairStateRx dt seq part) s fun e => e.pairx.snap = s.dev.pairx.snap ++ part.bytes ∧ e.pairx.snapOn = true ∧ pairState e = 3) ∧
    (part.last = true → Gives (.pairStateRx dt seq part) s fun e => e.pairx.snap = [] ∧ e.pairx.snapOn = false ∧ pairState e = 4)) ∧
  (∀ dt seq off bs s, isMember s.dev = true → blocksOn s.dev = true → seq < 2 ^ 32 → s.dev.pairx.rxNext = some seq → s.dev.pairx.gaps = [] → pairState s.dev = 6 →
    Gives (.pairImageRx dt seq off bs) s fun e => e.pairx.rxNext = some ((seq + 1) % 2 ^ 32) ∧ e.xchg = s.dev.xchg ∧ e.flash = s.dev.flash) ∧
  (∀ dt seq off bs s, isMember s.dev = true → blocksOn s.dev = true → s.dev.pairx.rxNext = some seq → s.dev.pairx.gaps = [] → seq < 2 ^ 32 → pairState s.dev = 5 →
    get FUSE_XCHG_STATE 0 s.dev = 1 → 0 < off → off = s.dev.xchg.got → bs.any (255 < ·) = false → off + bs.length ≤ 0x800000 →
    Gives (.pairImageRx dt seq off bs) s fun e => e.xchg = (xchgWrite off bs (later dt s)).xchg ∧ e.flash = (xchgWrite off bs (later dt s)).flash)

/-- R448, R455 to R462: roles of a pair. Negotiation ends with the partner's standby, with the preferred member ACTIVE in a new epoch, or WAITING; a join that fails is tried again after 1 s; a
standby with an accepted TAKEOVER becomes ACTIVE at the cycle boundary; an ACTIVE member that hears a higher epoch, or sees its peer active, is deposed; the pins of a stopped unit go to SAFE at HOLD_LIMIT. -/
def Obligations.PairRoles : Prop :=
  (∀ dt s, s.dev.unit.phase = .starting → pairState s.dev = 1 → max 8000000 (4 * (orD (schedRec s.dev) P0B02_CYCLE 0 * 2 / 5)) ≤ since s.dev.pairx.negEdge (later dt s) →
    (s.dev.pairx.partnerActive = true → exec (.negotiationEnd dt) s = .next { s with dev := startJoining (later dt s) }) ∧
    (s.dev.pairx.partnerActive = false → get PAIR_STATUS_PREFERRED 0 s.dev = 1 → exec (.negotiationEnd dt) s =
      .next { s with dev := startActive (if s.dev.pairx.heard = 0 then 1 else succEpoch s.dev.pairx.heard) (later dt s) }) ∧
    (s.dev.pairx.partnerActive = false → get PAIR_STATUS_PREFERRED 0 s.dev = 0 → Gives (.negotiationEnd dt) s fun e =>
      pairState e = 2 ∧ get PAIR_STATUS_EPOCH 0 e = 0 ∧ isActiveFault 0x120B 0 e = true)) ∧
  (∀ dt s, pairState s.dev = 3 ∨ pairState s.dev = 4 → s.dev.pairx.failEdge = 0 → 4000000000 ≤ since s.dev.pairx.joinEdge (later dt s) ∨ 196608 < s.dev.pairx.held →
    Gives (.joinTimeout dt) s fun e => get PAIR_FLAGS_JOIN_FAIL 0 e = 1 ∧ e.pairx.failEdge = edge e + 1 ∧ e.pairx.replay = [] ∧
      pairState e = (if s.dev.pairx.partnerActive then 3 else 2)) ∧
  (∀ dt s, s.dev.pairx.failEdge ≠ 0 → 400000000 ≤ since (s.dev.pairx.failEdge - 1) (later dt s) → pairState s.dev = 3 → s.dev.pairx.partnerActive = true →
    Gives (.joinRetry dt) s fun e => e.pairx.failEdge = 0 ∧ e.pairx.joinEdge = edge e ∧
      e.out.getLast? = some ⟨.pair, 0, linkFrame s.dev.pairx.txSeq 5 (1 :: leBytes 4 ((s.dev.img.map fun m => hdrU m.hdr PHDR_SEQUENCE).getD 0))⟩) ∧
  (∀ dt s n, ImgOk s.dev → s.dev.pairx.pend = some n → n < 65536 → pairState s.dev = 5 → cycleBoundary (later dt s) = true → Gives (.takeoverBoundary dt) s fun e =>
    pairState e = 6 ∧ get PAIR_STATUS_EPOCH 0 e = n ∧ get PAIR_STATUS_ACTIVE_OUT 0 e = 1 ∧ get PAIR_TAKEOVER_STAMP 0 e = now e % 2 ^ 64 ∧
    get FUSE_LDR_STATE_START_KIND 0 e = 3 ∧ get PAIR_FLAGS_TOOK_OVER 0 e = 1 ∧ e.pairx.pend = none ∧ e.pairx.replay = []) ∧
  (∀ dt s, Gives (.peerActiveFall dt) s fun e => get PAIR_STATUS_PEER_ACTIVE 0 e = 1 ∧
    (get PAIR_STATUS_ACTIVE_OUT 0 s.dev = 1 → isMember s.dev = true → pairState e = 8 ∧ get PAIR_STATUS_ACTIVE_OUT 0 e = 0 ∧ get PAIR_STATUS_EPOCH 0 e = 0 ∧
      (pairState s.dev ≠ 7 → get PAIR_FLAGS_DEPOSED 0 e = 1)) ∧
    (get PAIR_STATUS_ACTIVE_OUT 0 s.dev = 1 → isMember s.dev = false →
      KeepsBut [PAIR_STATUS.addr 0] (later dt s) e ∧ get PAIR_STATUS_ACTIVE_OUT 0 e = 0 ∧ pairState e = pairState s.dev) ∧
    (get PAIR_STATUS_ACTIVE_OUT 0 s.dev = 0 → KeepsBut [PAIR_STATUS.addr 0] (later dt s) e)) ∧
  (∀ dt seq s n, isMember s.dev = true → blocksOn s.dev = true → seq < 2 ^ 32 → s.dev.pairx.rxNext = some seq → s.dev.pairx.gaps = [] → pairState s.dev = 6 → n < 65536 →
    (epochHigher n (get PAIR_STATUS_EPOCH 0 s.dev) = true → Gives (.pairRoleControlRx dt seq (.roleReport 6 n)) s fun e =>
      pairState e = 8 ∧ get PAIR_STATUS_ACTIVE_OUT 0 e = 0 ∧ get PAIR_STATUS_EPOCH 0 e = 0 ∧ get PAIR_FLAGS_DEPOSED 0 e = 1) ∧
    (∀ m, s.dev.img = some m → Gives (.pairRoleControlRx dt seq (.joinRequest (hdrU m.hdr PHDR_SEQUENCE))) s fun e =>
      pairState e = 6 ∧ e.pairx.joinReq = true ∧ e.pairx.partnerState = 3)) ∧
  (∀ dt s i, pairState s.dev = 4 ∨ pairState s.dev = 5 → running s.dev = true → nextItem (later dt s) = some i →
    exec (.mirrorItemReplay dt) s = .next { s with dev := replayItem i (pairMod (fun x => { x with replay := x.replay.erase i }) (later dt s)) }) ∧
  (∀ dt s, nextItem (later dt s) = none → Gives (.mirrorItemReplay dt) s fun e => e = later dt s) ∧
  (∀ dt s, ImgOk s.dev → s.dev.unit.stopped = true → s.dev.unit.holdDone = false → holdLimit s.dev ≤ since s.dev.unit.stopEdge (later dt s) → pairState s.dev = 7 ∨ pairState s.dev = 9 →
    Gives (.holdLimitExpiry dt) s fun e => e.unit.holdDone = true ∧
      ∀ r ∈ recsOf 0x0704 s.dev, get DRV_AX_STATUS_SAFE (r.u P0704_AXIS) s.dev = 0 → get DRV_AX_PINS_COMMANDED (r.u P0704_AXIS) e = 0)
end

