-- ==== Sys2Proof/Laws/Bits.lean ====
section
/-! SUPPORT. Bit fields and sparse tables: what a field reads after a field was written, and what a table reads after an entry was
written. -/

namespace Sys2Proof

theorem bits_lt (n lo w : Nat) : bits n lo w < 2 ^ w := Nat.mod_lt _ (Nat.two_pow_pos w)

/-- A bit field by its bits. -/
theorem bits_testBit (n lo w k : Nat) : (bits n lo w).testBit k = (decide (k < w) && n.testBit (lo + k)) := by
  unfold bits
  rw [Nat.testBit_mod_two_pow, Nat.testBit_div_two_pow, Nat.add_comm]

theorem setBits_eq (n lo w v : Nat) :
    setBits n lo w v = (n / 2 ^ (lo + w)) * 2 ^ (lo + w) + ((v % 2 ^ w) * 2 ^ lo + n % 2 ^ lo) := by
  unfold setBits bits
  have h1 := Nat.div_add_mod n (2 ^ lo)
  have h2 := Nat.div_add_mod (n / 2 ^ lo) (2 ^ w)
  rw [Nat.div_div_eq_div_mul, ← pow_add] at h2
  have h3 : n = (n / 2 ^ (lo + w)) * 2 ^ (lo + w) + (n / 2 ^ lo % 2 ^ w * 2 ^ lo + n % 2 ^ lo) := by
    conv_lhs => rw [← h1, ← h2]
    rw [pow_add]; ring
  have h4 : n - n / 2 ^ lo % 2 ^ w * 2 ^ lo = (n / 2 ^ (lo + w)) * 2 ^ (lo + w) + n % 2 ^ lo := by
    conv_lhs => lhs; rw [h3]
    omega
  rw [h4]; omega

/-- A written field by its bits. -/
theorem setBits_testBit (n lo w v k : Nat) :
    (setBits n lo w v).testBit k = if lo ≤ k ∧ k < lo + w then v.testBit (k - lo) else n.testBit k := by
  rw [setBits_eq]
  have hlt : n % 2 ^ lo < 2 ^ lo := Nat.mod_lt _ (Nat.two_pow_pos lo)
  have hv : v % 2 ^ w < 2 ^ w := Nat.mod_lt _ (Nat.two_pow_pos w)
  have hlow : v % 2 ^ w * 2 ^ lo + n % 2 ^ lo < 2 ^ (lo + w) := by
    rw [pow_add]
    calc v % 2 ^ w * 2 ^ lo + n % 2 ^ lo < v % 2 ^ w * 2 ^ lo + 2 ^ lo := by omega
      _ = (v % 2 ^ w + 1) * 2 ^ lo := by ring
      _ ≤ 2 ^ w * 2 ^ lo := Nat.mul_le_mul_right _ hv
      _ = 2 ^ lo * 2 ^ w := by ring
  rw [Nat.mul_comm (n / _), Nat.testBit_two_pow_mul_add _ hlow, Nat.mul_comm (v % _), Nat.testBit_two_pow_mul_add _ hlt]
  rw [Nat.testBit_div_two_pow, Nat.testBit_mod_two_pow, Nat.testBit_mod_two_pow]
  by_cases h1 : k < lo + w
  · by_cases h2 : k < lo
    · rw [if_pos h1, if_pos h2, if_neg (by omega)]; simp [h2]
    · rw [if_pos h1, if_neg h2, if_pos (by omega)]
      have : k - lo < w := by omega
      simp [this]
  · rw [if_neg h1, if_neg (by omega)]
    congr 1; omega

/-- A field reads what was written to it, cut to its width. -/
theorem bits_setBits_same (n lo w v : Nat) : bits (setBits n lo w v) lo w = v % 2 ^ w := by
  apply Nat.eq_of_testBit_eq; intro k
  rw [bits_testBit, setBits_testBit, Nat.testBit_mod_two_pow]
  by_cases h : k < w
  · rw [if_pos (by omega)]; simp [h]
  · simp [h]

/-- A field that shares no bit with the written one reads as before. -/
theorem bits_setBits_other (n lo w v lo' w' : Nat) (h : lo' + w' ≤ lo ∨ lo + w ≤ lo') :
    bits (setBits n lo w v) lo' w' = bits n lo' w' := by
  apply Nat.eq_of_testBit_eq; intro k
  rw [bits_testBit, bits_testBit, setBits_testBit]
  by_cases hk : k < w'
  · rw [if_neg (by omega)]
  · simp [hk]

/-- A value cut to the register's width keeps every field inside it. -/
theorem bits_trunc (W n lo w : Nat) (h : lo + w ≤ W) : bits (trunc W n) lo w = bits n lo w := by
  apply Nat.eq_of_testBit_eq; intro k
  rw [bits_testBit, bits_testBit]
  unfold trunc
  rw [Nat.testBit_mod_two_pow]
  by_cases hk : k < w
  · have : lo + k < W := by omega
    simp [this]
  · simp [hk]

/-! Tables. -/

theorem Tab.get_put_same {α : Type} (z : α) (k : Nat) (a : α) (t : Tab α) : (Tab.put k a t).get z k = a := by
  induction t with
  | nil => simp [Tab.put, Tab.get]
  | cons p t ih =>
    obtain ⟨j, b⟩ := p
    unfold Tab.put
    split
    · simp [Tab.get]
    · split
      · simp [Tab.get]
      · rename_i h; simp [Tab.get, h, ih]

theorem Tab.get_put_other {α : Type} (z : α) (k j : Nat) (a : α) (t : Tab α) (h : j ≠ k) :
    (Tab.put k a t).get z j = t.get z j := by
  induction t with
  | nil => simp [Tab.put, Tab.get, Ne.symm h]
  | cons p t ih =>
    obtain ⟨i, b⟩ := p
    unfold Tab.put
    split
    · simp [Tab.get, Ne.symm h]
    · split
      · rename_i hi; subst hi; simp [Tab.get, Ne.symm h]
      · simp [Tab.get, ih]

theorem Tab.get_del_other {α : Type} (z : α) (k j : Nat) (t : Tab α) (h : j ≠ k) :
    (Tab.del k t).get z j = t.get z j := by
  induction t with
  | nil => rfl
  | cons p t ih =>
    obtain ⟨i, b⟩ := p
    unfold Tab.del
    split
    · rename_i hi; subst hi; simp [Tab.get, Ne.symm h, ih]
    · simp [Tab.get, ih]

theorem Tab.get_of_above {α : Type} (z : α) (k lo : Nat) (t : Tab α) (h : Tab.above lo t = true) (hk : k ≤ lo) :
    t.get z k = z := by
  induction t generalizing lo with
  | nil => rfl
  | cons p t ih =>
    obtain ⟨i, b⟩ := p
    simp only [Tab.above, Bool.and_eq_true, decide_eq_true_eq] at h
    simp only [Tab.get]
    rw [if_neg (by omega)]
    exact ih i h.2 (by omega)

theorem Tab.above_sorted {α : Type} {lo : Nat} {t : Tab α} (h : Tab.above lo t = true) : Tab.sorted t = true := by
  cases t with
  | nil => rfl
  | cons p t => simp only [Tab.above, Bool.and_eq_true] at h; exact h.2

theorem Tab.get_del_same {α : Type} (z : α) (k : Nat) (t : Tab α) : (Tab.del k t).get z k = z := by
  induction t with
  | nil => rfl
  | cons p t ih =>
    obtain ⟨i, b⟩ := p
    unfold Tab.del
    split
    · exact ih
    · rename_i hi; simp only [Tab.get, if_neg hi]; exact ih

theorem Tab.get_set_same {α : Type} [DecidableEq α] (z : α) (k : Nat) (a : α) (t : Tab α) :
    (Tab.set z k a t).get z k = a := by
  unfold Tab.set
  split
  · rename_i e; rw [Tab.get_del_same z k t, e]
  · exact Tab.get_put_same z k a t

theorem Tab.get_set_other {α : Type} [DecidableEq α] (y z : α) (k j : Nat) (a : α) (t : Tab α) (h : j ≠ k) :
    (Tab.set z k a t).get y j = t.get y j := by
  unfold Tab.set
  split
  · exact Tab.get_del_other y k j t h
  · exact Tab.get_put_other y k j a t h

/-! The canonical form. -/

theorem Tab.above_put {α : Type} (lo k : Nat) (a : α) (t : Tab α) (h : Tab.above lo t = true) (hk : lo < k) :
    Tab.above lo (Tab.put k a t) = true := by
  induction t generalizing lo with
  | nil => simp [Tab.put, Tab.above, hk]
  | cons p t ih =>
    obtain ⟨j, b⟩ := p
    simp only [Tab.above, Bool.and_eq_true, decide_eq_true_eq] at h
    unfold Tab.put
    split
    · simp [Tab.above, *]
    · split
      · rename_i e; subst e; simp [Tab.above, *]
      · simp only [Tab.above, Bool.and_eq_true, decide_eq_true_eq]
        exact ⟨h.1, ih j h.2 (by omega)⟩

theorem Tab.sorted_put {α : Type} (k : Nat) (a : α) (t : Tab α) (h : Tab.sorted t = true) : Tab.sorted (Tab.put k a t) = true := by
  cases t with
  | nil => rfl
  | cons p t =>
    obtain ⟨j, b⟩ := p
    simp only [Tab.sorted] at h
    unfold Tab.put
    split
    · simp [Tab.sorted, Tab.above, *]
    · split
      · rename_i e; subst e; simpa [Tab.sorted] using h
      · simp only [Tab.sorted]; exact Tab.above_put j k a t h (by omega)

theorem Tab.above_mono {α : Type} {lo hi : Nat} {t : Tab α} (h : Tab.above hi t = true) (hl : lo ≤ hi) : Tab.above lo t = true := by
  cases t with
  | nil => rfl
  | cons p t =>
    simp only [Tab.above, Bool.and_eq_true, decide_eq_true_eq] at h ⊢
    exact ⟨by omega, h.2⟩

theorem Tab.above_del {α : Type} (lo k : Nat) (t : Tab α) (h : Tab.above lo t = true) : Tab.above lo (Tab.del k t) = true := by
  induction t generalizing lo with
  | nil => rfl
  | cons p t ih =>
    obtain ⟨j, b⟩ := p
    simp only [Tab.above, Bool.and_eq_true, decide_eq_true_eq] at h
    unfold Tab.del
    split
    · exact ih lo (Tab.above_mono h.2 (by omega))
    · simp only [Tab.above, Bool.and_eq_true, decide_eq_true_eq]; exact ⟨h.1, ih j h.2⟩

theorem Tab.sorted_del {α : Type} (k : Nat) (t : Tab α) (h : Tab.sorted t = true) : Tab.sorted (Tab.del k t) = true := by
  cases t with
  | nil => rfl
  | cons p t =>
    obtain ⟨j, b⟩ := p
    simp only [Tab.sorted] at h
    unfold Tab.del
    split
    · exact Tab.above_sorted (Tab.above_del j k t h)
    · simp only [Tab.sorted]; exact Tab.above_del j k t h

theorem Tab.sorted_set {α : Type} [DecidableEq α] (z : α) (k : Nat) (a : α) (t : Tab α) (h : Tab.sorted t = true) :
    Tab.sorted (Tab.set z k a t) = true := by
  unfold Tab.set
  split
  · exact Tab.sorted_del k t h
  · exact Tab.sorted_put k a t h

theorem Tab.mem_put {α : Type} (k : Nat) (a : α) (t : Tab α) (p : Nat × α) (h : p ∈ Tab.put k a t) : p = (k, a) ∨ p ∈ t := by
  induction t with
  | nil => simpa [Tab.put] using h
  | cons q t ih =>
    obtain ⟨j, b⟩ := q
    unfold Tab.put at h
    split at h
    · simpa using h
    · split at h
      · simp only [List.mem_cons] at h ⊢; tauto
      · simp only [List.mem_cons] at h ⊢; tauto

theorem Tab.mem_del {α : Type} (k : Nat) (t : Tab α) (p : Nat × α) (h : p ∈ Tab.del k t) : p ∈ t := by
  induction t with
  | nil => simp [Tab.del] at h
  | cons q t ih =>
    obtain ⟨j, b⟩ := q
    unfold Tab.del at h
    split at h
    · exact List.mem_cons_of_mem _ (ih h)
    · simp only [List.mem_cons] at h ⊢; tauto

end Sys2Proof
end

