-- ==== Sys2Proof/Laws/Regs.lean ====
section
/-! SUPPORT. Registers and strands (R5, R21): what a field reads after a write, and what a write leaves alone. -/

namespace Sys2Proof.Machine

/-- A field lies inside its register. -/
abbrev Fld.inReg (f : Fld) : Prop := f.lo + f.width ≤ f.reg.width

@[simp] theorem noteSet_live (f : Fld) (i v : Nat) (d : Dev) : (noteSet f i v d).live = d.live := by
  unfold noteSet; split <;> rfl

@[simp] theorem noteOld_live (a : Nat) (d : Dev) : (noteOld a d).live = d.live := rfl

theorem rd_wr_same (r : Reg) (i v : Nat) (d : Dev) : rd r i (wr r i v d) = trunc r.width v := by
  simp [rd, wr, Tab.get_set_same]

theorem rd_wr_other (r q : Reg) (i j v : Nat) (d : Dev) (h : r.addr i ≠ q.addr j) : rd r i (wr q j v d) = rd r i d := by
  simp only [rd, wr]; exact Tab.get_set_other _ _ _ _ _ _ h

/-- A written field reads back what was written, cut to its width. -/
theorem get_put_same (f : Fld) (i v : Nat) (d : Dev) (h : f.inReg) : get f i (put f i v d) = v % 2 ^ f.width := by
  unfold get put
  rw [rd_wr_same, bits_trunc _ _ _ _ h, bits_setBits_same]

/-- A flag that was set reads 1. -/
theorem get_put_one (f : Fld) (i : Nat) (d : Dev) (h : f.inReg) (hw : f.width ≠ 0) : get f i (put f i 1 d) = 1 := by
  rw [get_put_same f i 1 d h]
  exact Nat.mod_eq_of_lt (Nat.one_lt_two_pow hw)

/-- A field that was cleared reads 0. -/
theorem get_put_zero (f : Fld) (i : Nat) (d : Dev) (h : f.inReg) : get f i (put f i 0 d) = 0 := by
  rw [get_put_same f i 0 d h]; simp

/-- Another field of the same register reads as before. -/
theorem get_put_field (f g : Fld) (i v : Nat) (d : Dev) (hr : f.reg = g.reg) (hf : f.inReg)
    (h : f.lo + f.width ≤ g.lo ∨ g.lo + g.width ≤ f.lo) : get f i (put g i v d) = get f i d := by
  unfold get put
  rw [hr, rd_wr_same, bits_trunc _ _ _ _ (hr ▸ hf), bits_setBits_other _ _ _ _ _ _ h]

/-- A field of another register reads as before. -/
theorem get_put_other (f g : Fld) (i j v : Nat) (d : Dev) (h : f.reg.addr i ≠ g.reg.addr j) : get f i (put g j v d) = get f i d := by
  unfold get put
  rw [rd_wr_other _ _ _ _ _ _ h]
  simp [rd]

/-- A live cell at another address than the register's stands. -/
theorem live_put_other (g : Fld) (j v z a : Nat) (d : Dev) (h : a ≠ g.reg.addr j) : (put g j v d).live.get z a = d.live.get z a := by
  unfold put wr
  simp only [noteSet_live]
  exact Tab.get_set_other _ _ _ _ _ _ h

theorem live_setStrand_other (b k v z a : Nat) (d : Dev) (h : a ≠ strandAddr b k) : (setStrand b k v d).live.get z a = d.live.get z a := by
  unfold setStrand
  exact Tab.get_set_other _ _ _ _ _ _ h

/-- A written strand reads its 64 bits. -/
theorem strand_setStrand (b k v : Nat) (d : Dev) : strand b k (setStrand b k v d) = trunc 64 v := by
  simp [strand, setStrand, Tab.get_set_same]

theorem get_setStrand (f : Fld) (i b k v : Nat) (d : Dev) (h : f.reg.addr i ≠ strandAddr b k) :
    get f i (setStrand b k v d) = get f i d := by
  unfold get rd
  rw [live_setStrand_other _ _ _ _ _ _ h]

/-- Reading a field looks at the live file alone. -/
theorem get_congr (f : Fld) (i : Nat) (d e : Dev) (h : ∀ z, e.live.get z (f.reg.addr i) = d.live.get z (f.reg.addr i)) :
    get f i e = get f i d := by
  unfold get rd; rw [h]

/-! What writing a register or a strand leaves alone: everything but the live file and its two notes. -/

@[simp] theorem noteSet_rest (f : Fld) (i v : Nat) (d : Dev) : (noteSet f i v d).rest = d.rest := by
  unfold noteSet; split <;> rfl

@[simp] theorem wr_rest (r : Reg) (i v : Nat) (d : Dev) : (wr r i v d).rest = d.rest := rfl

@[simp] theorem put_rest (f : Fld) (i v : Nat) (d : Dev) : (put f i v d).rest = d.rest := by simp [put]

@[simp] theorem setStrand_rest (b k v : Nat) (d : Dev) : (setStrand b k v d).rest = d.rest := rfl

@[simp] theorem putB_rest (f : Fld) (i : Nat) (b : Bool) (d : Dev) : (putB f i b d).rest = d.rest := put_rest ..

@[simp] theorem putS_rest (f : Fld) (i : Nat) (v : Int) (d : Dev) : (putS f i v d).rest = d.rest := put_rest ..

@[simp] theorem bump_rest (f : Fld) (i : Nat) (d : Dev) : (bump f i d).rest = d.rest := put_rest ..

@[simp] theorem bumpSat_rest (f : Fld) (i : Nat) (d : Dev) : (bumpSat f i d).rest = d.rest := put_rest ..

@[simp] theorem addSat_rest (f : Fld) (i n : Nat) (d : Dev) : (addSat f i n d).rest = d.rest := put_rest ..

@[simp] theorem maxUp_rest (f : Fld) (i v : Nat) (d : Dev) : (maxUp f i v d).rest = d.rest := by
  unfold maxUp; split <;> simp

end Sys2Proof.Machine
end

