-- ==== Sys2Proof/Laws/Raise.lean ====
section
/-! SUPPORT. What raising a fault can change (R480 to R485): the register file, the event log, the list of active faults, the unit's life,
the hold requests, an exchange that it aborts with the flash sector of its header, and nothing else. -/

namespace Sys2Proof.Machine

theorem quiet_of_rest {d e : Dev} (h : e.rest = d.rest) : e.quiet = d.quiet := by simp only [Dev.quiet, h]

@[simp] theorem put_quiet (f : Fld) (i v : Nat) (d : Dev) : (put f i v d).quiet = d.quiet := quiet_of_rest (put_rest ..)
@[simp] theorem putB_quiet (f : Fld) (i : Nat) (b : Bool) (d : Dev) : (putB f i b d).quiet = d.quiet := quiet_of_rest (putB_rest ..)
@[simp] theorem bumpSat_quiet (f : Fld) (i : Nat) (d : Dev) : (bumpSat f i d).quiet = d.quiet := quiet_of_rest (bumpSat_rest ..)
@[simp] theorem bump_quiet (f : Fld) (i : Nat) (d : Dev) : (bump f i d).quiet = d.quiet := quiet_of_rest (bump_rest ..)
@[simp] theorem setStrand_quiet (b k v : Nat) (d : Dev) : (setStrand b k v d).quiet = d.quiet := rfl
@[simp] theorem recd_quiet (r : RecX) (d : Dev) : Dev.quiet { d with recd := r } = d.quiet := rfl
@[simp] theorem active_quiet (r : List Active) (d : Dev) : Dev.quiet { d with active := r } = d.quiet := rfl
@[simp] theorem handPages_quiet (k : Nat) (l : List (Nat × List Nat)) (d : Dev) : (handPages k l d).quiet = d.quiet := rfl
@[simp] theorem lostNamed_quiet (r : Tab (List Nat)) (d : Dev) : Dev.quiet { d with lostNamed := r } = d.quiet := rfl
@[simp] theorem unit_quiet (r : UnitX) (d : Dev) : Dev.quiet { d with unit := r } = d.quiet := rfl

theorem forN_quiet (n : Nat) (f : Nat → Dev → Dev) (h : ∀ k d, (f k d).quiet = d.quiet) (d : Dev) : (forN n f d).quiet = d.quiet := by
  induction n generalizing d with
  | zero => rfl
  | succ n ih => simp only [forN, h, ih]

theorem forL_quiet {α : Type} (l : List α) (f : α → Dev → Dev) (h : ∀ a d, (f a d).quiet = d.quiet) (d : Dev) :
    (forL l f d).quiet = d.quiet := by
  unfold forL
  induction l generalizing d with
  | nil => rfl
  | cons a l ih => simp only [List.foldl_cons, ih, h]

@[simp] theorem logRegs_quiet (d : Dev) : (logRegs d).quiet = d.quiet := by simp [logRegs]

theorem logRegs_recd_quiet (r : RecX) (d : Dev) : (logRegs { d with recd := r }).quiet = d.quiet := by rw [logRegs_quiet, recd_quiet]

@[simp] theorem flushEvents_quiet (d : Dev) : (flushEvents d).quiet = d.quiet := by
  unfold flushEvents; split <;> simp

@[simp] theorem enterRec_quiet (e : EvRec) (d : Dev) : (enterRec e d).quiet = d.quiet := by
  unfold enterRec
  generalize 2048 = n
  dsimp only
  split
  · split
    · split <;> exact logRegs_recd_quiet ..
    · split
      · exact logRegs_recd_quiet ..
      · split <;> exact logRegs_recd_quiet ..
  · exact logRegs_recd_quiet ..

@[simp] theorem writeRec_quiet (c s t : Nat) (b : Bool) (d : Dev) : (writeRec c s t b d).quiet = d.quiet := by
  unfold writeRec; dsimp only; simp only [putB_quiet, put_quiet]; split <;> simp

@[simp] theorem refreshFaults_quiet (d : Dev) : (refreshFaults d).quiet = d.quiet := by
  unfold refreshFaults; dsimp only
  rw [forN_quiet _ _ (fun _ _ => put_quiet ..)]; simp

@[simp] theorem countClass_quiet (c : Nat) (d : Dev) : (countClass c d).quiet = d.quiet := by
  unfold countClass; (repeat' split) <;> simp

@[simp] theorem noteDrop_quiet (d : Dev) : (noteDrop d).quiet = d.quiet := by
  unfold noteDrop
  generalize 24000000000 = n
  extract_lets e due r e2 m
  have h2 : e2.quiet = d.quiet := (recd_quiet _ e).trans (put_quiet ..)
  have h3 : m.quiet = d.quiet := (countClass_quiet ..).trans ((writeRec_quiet ..).trans h2)
  split
  · exact put_quiet ..
  · split
    · exact h2
    · exact (refreshFaults_quiet _).trans ((active_quiet _ m).trans h3)

@[simp] theorem record_quiet (c s t : Nat) (b : Bool) (d : Dev) : (record c s t b d).quiet = d.quiet := by
  unfold record; dsimp only; split <;> simp

@[simp] theorem requestHold_quiet (h c : Nat) (d : Dev) : (requestHold h c d).quiet = d.quiet := by
  unfold requestHold; split <;> rfl

@[simp] theorem holdNamed_quiet (c o : Nat) (d : Dev) : (holdNamed c o d).quiet = d.quiet := by
  unfold holdNamed; split
  · rfl
  · extract_lets hs e
    have h : e.quiet = d.quiet := by
      show Dev.quiet (if _ then _ else _) = _
      split <;> rfl
    exact (forL_quiet _ _ (fun _ _ => requestHold_quiet ..) _).trans h

@[simp] theorem showRole_quiet (s : Nat) (d : Dev) : (showRole s d).quiet = d.quiet := by simp [showRole]

@[simp] theorem endStart_quiet (c : Nat) (d : Dev) : (endStart c d).quiet = d.quiet := by
  unfold endStart; dsimp only; split <;> simp

@[simp] theorem xchgEnd_quiet (d : Dev) : (xchgEnd d).quiet = d.quiet := by
  unfold xchgEnd eraseHeader; dsimp only
  have h (e : Dev) : Dev.quiet { e with next := none, xchg := {} } = e.quiet := rfl
  have g (e : Dev) (m) : Dev.quiet { e with flash := m } = e.quiet := rfl
  rw [h]; (repeat' split) <;> simp [g]

@[simp] theorem xchgAbort_quiet (d : Dev) : (xchgAbort d).quiet = d.quiet := by
  unfold xchgAbort; dsimp only; split <;> simp

@[simp] theorem f4React_quiet (c : Nat) (d : Dev) : (f4React c d).quiet = d.quiet := by
  unfold f4React; dsimp only; (repeat' split) <;> simp

@[simp] theorem react_quiet (c o : Nat) (d : Dev) : (react c o d).quiet = d.quiet := by
  unfold react; (repeat' split) <;> simp

/-- Raising a fault changes nothing outside its own state. -/
@[simp] theorem raiseWith_quiet (c o t : Nat) (d : Dev) : (raiseWith c o t d).quiet = d.quiet := by
  unfold raiseWith; dsimp only; (repeat' split) <;> simp

@[simp] theorem raise_quiet (c o : Nat) (d : Dev) (a : Nat) (v : Int) : (raise c o d a v).quiet = d.quiet := raiseWith_quiet ..

@[simp] theorem stick_quiet (f : Fld) (i c o : Nat) (d : Dev) (a : Nat) (v : Int) : (stick f i c o d a v).quiet = d.quiet := by
  unfold stick; split <;> simp

@[simp] theorem clearOne_quiet (a : Active) (d : Dev) : (clearOne a d).quiet = d.quiet := by simp [clearOne]

@[simp] theorem clearFault_quiet (c o : Nat) (d : Dev) : (clearFault c o d).quiet = d.quiet := by
  unfold clearFault; split <;> simp

@[simp] theorem clearWhere_quiet (p : Active → Bool) (d : Dev) : (clearWhere p d).quiet = d.quiet := by
  unfold clearWhere; exact forL_quiet _ _ (fun _ _ => clearOne_quiet ..) _

@[simp] theorem clearField_quiet (f : Fld) (i : Nat) (d : Dev) : (clearField f i d).quiet = d.quiet := by
  simp [clearField, settleFields]


/-! Which live cells raising a fault may change. -/

/-- A cell that raising a fault leaves alone. -/
def Calm (a : Nat) (d e : Dev) : Prop := a ∉ raiseAddrs → ∀ z, e.live.get z a = d.live.get z a

theorem Calm.rfl' {a : Nat} {d : Dev} : Calm a d d := fun _ _ => rfl

theorem Calm.trans {a : Nat} {c d e : Dev} (h : Calm a c d) (g : Calm a d e) : Calm a c e := fun k z => (g k z).trans (h k z)

theorem calm_put {a : Nat} (f : Fld) (i v : Nat) {d e : Dev} (hf : f.reg.addr i ∈ raiseAddrs) (h : Calm a d e) : Calm a d (put f i v e) :=
  fun k z => (live_put_other f i v z a e (fun q => k (q ▸ hf))).trans (h k z)

theorem calm_of_live {a : Nat} {c d e : Dev} (hl : e.live = d.live) (h : Calm a c d) : Calm a c e := fun k z => by rw [hl]; exact h k z

theorem calm_forN {a n : Nat} (f : Nat → Dev → Dev) (h : ∀ k c e, k < n → Calm a c e → Calm a c (f k e)) {c d : Dev} (g : Calm a c d) :
    Calm a c (forN n f d) := by
  induction n generalizing d with
  | zero => exact g
  | succ n ih => exact h n c _ (Nat.lt_succ_self n) (ih (fun k c e hk => h k c e (Nat.lt_succ_of_lt hk)) g)

theorem calm_forL {α : Type} {a : Nat} (l : List α) (f : α → Dev → Dev) (h : ∀ x c e, Calm a c e → Calm a c (f x e)) {c d : Dev}
    (g : Calm a c d) : Calm a c (forL l f d) := by
  unfold forL
  induction l generalizing d with
  | nil => exact g
  | cons x l ih => exact ih (h x c _ g)

theorem calm_logRegs {a : Nat} {c d : Dev} (h : Calm a c d) : Calm a c (logRegs d) := by
  unfold logRegs
  extract_lets all lowest
  exact calm_put _ _ _ (by decide) (calm_put _ _ _ (by decide) (calm_put _ _ _ (by decide) (calm_put _ _ _ (by decide)
    (calm_put _ _ _ (by decide) h))))

theorem calm_flushEvents {a : Nat} {c d : Dev} (h : Calm a c d) : Calm a c (flushEvents d) := by
  unfold flushEvents
  split
  · extract_lets r n k
    exact calm_logRegs (calm_put _ _ _ (by decide) (calm_put _ _ _ (by decide) (calm_put _ _ _ (by decide) h)))
  · exact h

theorem calm_enterRec {a : Nat} (e : EvRec) {c d : Dev} (h : Calm a c d) : Calm a c (enterRec e d) := by
  have g (r : RecX) : Calm a c (logRegs { d with recd := r }) := calm_logRegs h
  unfold enterRec
  generalize 2048 = n
  dsimp only
  split
  · split
    · split <;> exact g _
    · split
      · exact g _
      · split <;> exact g _
  · exact g _

theorem calm_writeRec {a : Nat} (k s t : Nat) (b : Bool) {c d : Dev} (h : Calm a c d) : Calm a c (writeRec k s t b d) := by
  unfold writeRec
  extract_lets e n d1 x d2
  have h1 : Calm a c d1 := calm_enterRec e h
  have h2 : Calm a c d2 := by
    show Calm a c (if _ then _ else _)
    split
    · exact calm_flushEvents h1
    · exact h1
  exact calm_put _ _ _ (by decide) (calm_put _ _ _ (by decide) (calm_put _ _ _ (by decide) (calm_put _ _ _ (by decide) h2)))

theorem faultsAddr {k : Nat} (h : k < 21) : FLT_ACTIVE_FAULTS.reg.addr k ∈ raiseAddrs :=
  List.mem_append_right _ (List.mem_map_of_mem (List.mem_range.mpr h))

theorem calm_refreshFaults {a : Nat} {c d : Dev} (h : Calm a c d) : Calm a c (refreshFaults d) := by
  unfold refreshFaults
  extract_lets worst bitsOf
  exact calm_forN _ (fun k c e hk g => calm_put _ _ _ (faultsAddr hk) g) (calm_put _ _ _ (by decide) (calm_put _ _ _ (by decide) h))

theorem calm_countClass {a : Nat} (k : Nat) {c d : Dev} (h : Calm a c d) : Calm a c (countClass k d) := by
  unfold countClass bumpSat
  (repeat' split) <;> first | exact h | exact calm_put _ _ _ (by decide) h

theorem calm_noteDrop {a : Nat} {c d : Dev} (h : Calm a c d) : Calm a c (noteDrop d) := by
  unfold noteDrop
  generalize 24000000000 = n
  extract_lets e due r e2 m
  have h1 : Calm a c e := calm_put _ _ _ (by decide) h
  have h2 : Calm a c e2 := h1
  have h3 : Calm a c m := calm_countClass 1 (calm_writeRec 0x1002 1 0 false h2)
  split
  · exact h1
  · split
    · exact h2
    · exact calm_refreshFaults (calm_of_live (d := m) rfl h3)

theorem calm_record {a : Nat} (k s t : Nat) (b : Bool) {c d : Dev} (h : Calm a c d) : Calm a c (record k s t b d) := by
  unfold record
  extract_lets n e
  have h1 : Calm a c e := calm_writeRec k s t b h
  split
  · exact calm_noteDrop h1
  · exact h1

theorem calm_requestHold {a : Nat} (k v : Nat) {c d : Dev} (h : Calm a c d) : Calm a c (requestHold k v d) := by
  unfold requestHold; split <;> exact h

theorem calm_holdNamed {a : Nat} (k o : Nat) {c d : Dev} (h : Calm a c d) : Calm a c (holdNamed k o d) := by
  unfold holdNamed; split
  · exact h
  · extract_lets hs e
    have g : Calm a c e := by
      show Calm a c (if _ then _ else _)
      split <;> exact h
    exact calm_forL _ _ (fun _ _ _ g => calm_requestHold _ _ g) g

theorem calm_showRole {a : Nat} (s : Nat) {c d : Dev} (h : Calm a c d) : Calm a c (showRole s d) := by
  unfold showRole
  have g : Calm a c (put PAIR_STATUS_STATE 0 s d) := calm_put _ _ _ (by decide) h
  intro k z
  have hs : strandAddr 0x12 0 ∈ raiseAddrs := by decide
  rw [live_setStrand_other 0x12 0 s z a _ (fun q => k (q ▸ hs))]
  exact g k z

theorem calm_endStart {a : Nat} (k : Nat) {c d : Dev} (h : Calm a c d) : Calm a c (endStart k d) := by
  unfold endStart
  extract_lets n x u d1 d2 det d3
  split
  · have h1 : Calm a c d1 := calm_of_live (d := d) rfl h
    have h2 : Calm a c d2 := calm_put FUSE_LDR_STATE_STEP 0 0xF (by decide) (calm_put FUSE_LDR_STATE_LAST_FAULT 0 0x020A (by decide) h1)
    exact calm_countClass 4 (calm_refreshFaults (calm_of_live (d := d3) rfl (calm_record _ _ _ _ h2)))
  · exact calm_showRole 0 (calm_of_live (d := d) rfl h)

theorem calm_xchgEnd {a : Nat} {c d : Dev} (h : Calm a c d) : Calm a c (xchgEnd d) := by
  unfold xchgEnd eraseHeader
  extract_lets d1 d2 d3
  have h1 : Calm a c d1 := calm_of_live (d := d) rfl h
  have h2 : Calm a c d2 := by
    show Calm a c (if _ then _ else _)
    split
    · exact h1
    · exact calm_put _ _ _ (by decide) (calm_put _ _ _ (by decide) h1)
  have h3 : Calm a c d3 := by
    show Calm a c (if _ then _ else _)
    split
    · exact calm_put _ _ _ (by decide) (calm_put _ _ _ (by decide) h2)
    · exact h2
  exact calm_of_live (d := d3) rfl h3

theorem calm_xchgAbort {a : Nat} {c d : Dev} (h : Calm a c d) : Calm a c (xchgAbort d) := by
  unfold xchgAbort; extract_lets st; split
  · exact calm_xchgEnd h
  · exact h

theorem calm_f4React {a : Nat} (k : Nat) {c d : Dev} (h : Calm a c d) : Calm a c (f4React k d) := by
  unfold f4React
  extract_lets star d1 st e1
  have h1 : Calm a c d1 := calm_xchgAbort h
  split
  · split
    · split
      · exact h
      · exact calm_put _ _ _ (by decide) (calm_showRole _ (calm_of_live (d := d1) rfl h1))
    · split
      · exact h
      · exact calm_showRole _ (calm_of_live (d := d1) rfl h1)
  · exact calm_endStart k h
  · exact h

theorem calm_react {a : Nat} (k o : Nat) {c d : Dev} (h : Calm a c d) : Calm a c (react k o d) := by
  unfold react
  (repeat' split) <;> first | exact h | exact calm_holdNamed _ _ h | exact calm_f4React _ h

/-- Raising a fault writes none but the named registers. -/
theorem calm_raiseWith {a : Nat} (k o t : Nat) {c d : Dev} (h : Calm a c d) : Calm a c (raiseWith k o t d) := by
  unfold raiseWith
  split
  · exact h
  · extract_lets cls d1 d2 d3 d4
    have h1 : Calm a c d1 := by
      show Calm a c (if _ then _ else _)
      split
      · exact calm_put _ _ _ (by decide) h
      · exact h
    have h3 : Calm a c d3 := calm_countClass _ (calm_record _ _ _ _ h1)
    have h4 : Calm a c d4 := by
      show Calm a c (if _ then _ else _)
      split
      · exact h3
      · exact calm_refreshFaults (calm_of_live (d := d3) rfl h3)
    exact calm_react k o h4

theorem live_raise (k o : Nat) (d : Dev) (x : Nat) (v : Int) (a z : Nat) (h : a ∉ raiseAddrs) :
    (raise k o d x v).live.get z a = d.live.get z a := calm_raiseWith k o _ Calm.rfl' h z

/-- A field that raising a fault does not write reads as before. -/
theorem get_raise (f : Fld) (i k o : Nat) (d : Dev) (x : Nat) (v : Int) (h : f.reg.addr i ∉ raiseAddrs) :
    get f i (raise k o d x v) = get f i d := get_congr f i _ _ (fun z => live_raise k o d x v _ z h)

/-- A sticky flag reads 1 after it was set, with or without its fault. -/
theorem get_stick (f : Fld) (i k o : Nat) (d : Dev) (x : Nat) (v : Int) (h : f.reg.addr i ∉ raiseAddrs) (hf : f.inReg) (hw : f.width ≠ 0) :
    get f i (stick f i k o d x v) = 1 := by
  unfold stick; split
  · exact get_put_one _ _ _ hf hw
  · rw [get_raise _ _ _ _ _ _ _ h, get_put_one _ _ _ hf hw]

end Sys2Proof.Machine
end

