-- ==== Sys2Proof/Laws/State.lean ====
section
/-! SUPPORT. One lemma for each field of the device and each named operation on registers, strands, time and faults: what the operation
leaves as it was. -/

namespace Sys2Proof.Machine

/-! From the two frames of Sys2Proof/Safety.lean to single fields. -/

theorem rest_clk {d e : Dev} (h : e.rest = d.rest) : e.clk = d.clk := show e.rest.clk = d.rest.clk from congrArg Dev.clk h
theorem rest_flash {d e : Dev} (h : e.rest = d.rest) : e.flash = d.flash := show e.rest.flash = d.rest.flash from congrArg Dev.flash h
theorem rest_img {d e : Dev} (h : e.rest = d.rest) : e.img = d.img := show e.rest.img = d.rest.img from congrArg Dev.img h
theorem rest_next {d e : Dev} (h : e.rest = d.rest) : e.next = d.next := show e.rest.next = d.rest.next from congrArg Dev.next h
theorem rest_unit {d e : Dev} (h : e.rest = d.rest) : e.unit = d.unit := show e.rest.unit = d.rest.unit from congrArg Dev.unit h
theorem rest_patch {d e : Dev} (h : e.rest = d.rest) : e.patch = d.patch := show e.rest.patch = d.rest.patch from congrArg Dev.patch h
theorem rest_xchg {d e : Dev} (h : e.rest = d.rest) : e.xchg = d.xchg := show e.rest.xchg = d.rest.xchg from congrArg Dev.xchg h
theorem rest_switched {d e : Dev} (h : e.rest = d.rest) : e.switched = d.switched := show e.rest.switched = d.rest.switched from congrArg Dev.switched h
theorem rest_active {d e : Dev} (h : e.rest = d.rest) : e.active = d.active := show e.rest.active = d.rest.active from congrArg Dev.active h
theorem rest_recd {d e : Dev} (h : e.rest = d.rest) : e.recd = d.recd := show e.rest.recd = d.rest.recd from congrArg Dev.recd h
theorem rest_streams {d e : Dev} (h : e.rest = d.rest) : e.streams = d.streams := show e.rest.streams = d.rest.streams from congrArg Dev.streams h
theorem rest_meas {d e : Dev} (h : e.rest = d.rest) : e.meas = d.meas := show e.rest.meas = d.rest.meas from congrArg Dev.meas h
theorem rest_pick {d e : Dev} (h : e.rest = d.rest) : e.pick = d.pick := show e.rest.pick = d.rest.pick from congrArg Dev.pick h
theorem rest_gpioOut {d e : Dev} (h : e.rest = d.rest) : e.gpioOut = d.gpioOut := show e.rest.gpioOut = d.rest.gpioOut from congrArg Dev.gpioOut h
theorem rest_auxOut {d e : Dev} (h : e.rest = d.rest) : e.auxOut = d.auxOut := show e.rest.auxOut = d.rest.auxOut from congrArg Dev.auxOut h
theorem rest_out {d e : Dev} (h : e.rest = d.rest) : e.out = d.out := show e.rest.out = d.rest.out from congrArg Dev.out h
theorem rest_free {d e : Dev} (h : e.rest = d.rest) : e.free = d.free := show e.rest.free = d.rest.free from congrArg Dev.free h
theorem rest_holdReq {d e : Dev} (h : e.rest = d.rest) : e.holdReq = d.holdReq := show e.rest.holdReq = d.rest.holdReq from congrArg Dev.holdReq h
theorem rest_holdAt {d e : Dev} (h : e.rest = d.rest) : e.holdAt = d.holdAt := show e.rest.holdAt = d.rest.holdAt from congrArg Dev.holdAt h
theorem rest_lostNamed {d e : Dev} (h : e.rest = d.rest) : e.lostNamed = d.lostNamed := show e.rest.lostNamed = d.rest.lostNamed from congrArg Dev.lostNamed h
theorem rest_pins {d e : Dev} (h : e.rest = d.rest) : e.pins = d.pins := show e.rest.pins = d.rest.pins from congrArg Dev.pins h
theorem rest_stale {d e : Dev} (h : e.rest = d.rest) : e.stale = d.stale := show e.rest.stale = d.rest.stale from congrArg Dev.stale h
theorem rest_creel {d e : Dev} (h : e.rest = d.rest) : e.creel = d.creel := show e.rest.creel = d.rest.creel from congrArg Dev.creel h
theorem rest_plies {d e : Dev} (h : e.rest = d.rest) : e.plies = d.plies := show e.rest.plies = d.rest.plies from congrArg Dev.plies h
theorem rest_grps {d e : Dev} (h : e.rest = d.rest) : e.grps = d.grps := show e.rest.grps = d.rest.grps from congrArg Dev.grps h
theorem rest_engs {d e : Dev} (h : e.rest = d.rest) : e.engs = d.engs := show e.rest.engs = d.rest.engs from congrArg Dev.engs h
theorem rest_trcs {d e : Dev} (h : e.rest = d.rest) : e.trcs = d.trcs := show e.rest.trcs = d.rest.trcs from congrArg Dev.trcs h
theorem rest_axes {d e : Dev} (h : e.rest = d.rest) : e.axes = d.axes := show e.rest.axes = d.rest.axes from congrArg Dev.axes h
theorem rest_mgrps {d e : Dev} (h : e.rest = d.rest) : e.mgrps = d.mgrps := show e.rest.mgrps = d.rest.mgrps from congrArg Dev.mgrps h
theorem rest_groups {d e : Dev} (h : e.rest = d.rest) : e.groups = d.groups := show e.rest.groups = d.rest.groups from congrArg Dev.groups h
theorem rest_drives {d e : Dev} (h : e.rest = d.rest) : e.drives = d.drives := show e.rest.drives = d.rest.drives from congrArg Dev.drives h
theorem rest_sds {d e : Dev} (h : e.rest = d.rest) : e.sds = d.sds := show e.rest.sds = d.rest.sds from congrArg Dev.sds h
theorem rest_riseAt {d e : Dev} (h : e.rest = d.rest) : e.riseAt = d.riseAt := show e.rest.riseAt = d.rest.riseAt from congrArg Dev.riseAt h
theorem rest_lines {d e : Dev} (h : e.rest = d.rest) : e.lines = d.lines := show e.rest.lines = d.rest.lines from congrArg Dev.lines h
theorem rest_fbs {d e : Dev} (h : e.rest = d.rest) : e.fbs = d.fbs := show e.rest.fbs = d.rest.fbs from congrArg Dev.fbs h
theorem rest_shu {d e : Dev} (h : e.rest = d.rest) : e.shu = d.shu := show e.rest.shu = d.rest.shu from congrArg Dev.shu h
theorem rest_hanks {d e : Dev} (h : e.rest = d.rest) : e.hanks = d.hanks := show e.rest.hanks = d.rest.hanks from congrArg Dev.hanks h
theorem rest_hankSeq {d e : Dev} (h : e.rest = d.rest) : e.hankSeq = d.hankSeq := show e.rest.hankSeq = d.rest.hankSeq from congrArg Dev.hankSeq h
theorem rest_weft {d e : Dev} (h : e.rest = d.rest) : e.weft = d.weft := show e.rest.weft = d.rest.weft from congrArg Dev.weft h
theorem rest_txPrev {d e : Dev} (h : e.rest = d.rest) : e.txPrev = d.txPrev := show e.rest.txPrev = d.rest.txPrev from congrArg Dev.txPrev h
theorem rest_eth {d e : Dev} (h : e.rest = d.rest) : e.eth = d.eth := show e.rest.eth = d.rest.eth from congrArg Dev.eth h
theorem rest_ptp {d e : Dev} (h : e.rest = d.rest) : e.ptp = d.ptp := show e.rest.ptp = d.rest.ptp from congrArg Dev.ptp h
theorem rest_cans {d e : Dev} (h : e.rest = d.rest) : e.cans = d.cans := show e.rest.cans = d.rest.cans from congrArg Dev.cans h
theorem rest_loops {d e : Dev} (h : e.rest = d.rest) : e.loops = d.loops := show e.rest.loops = d.rest.loops from congrArg Dev.loops h
theorem rest_store {d e : Dev} (h : e.rest = d.rest) : e.store = d.store := show e.rest.store = d.rest.store from congrArg Dev.store h
theorem rest_safe {d e : Dev} (h : e.rest = d.rest) : e.safe = d.safe := show e.rest.safe = d.rest.safe from congrArg Dev.safe h
theorem rest_pool {d e : Dev} (h : e.rest = d.rest) : e.pool = d.pool := show e.rest.pool = d.rest.pool from congrArg Dev.pool h
theorem rest_pairx {d e : Dev} (h : e.rest = d.rest) : e.pairx = d.pairx := show e.rest.pairx = d.rest.pairx from congrArg Dev.pairx h
theorem rest_txw {d e : Dev} (h : e.rest = d.rest) : e.txw = d.txw := show e.rest.txw = d.rest.txw from congrArg Dev.txw h
theorem rest_txLate {d e : Dev} (h : e.rest = d.rest) : e.txLate = d.txLate := show e.rest.txLate = d.rest.txLate from congrArg Dev.txLate h
theorem rest_txNew {d e : Dev} (h : e.rest = d.rest) : e.txNew = d.txNew := show e.rest.txNew = d.rest.txNew from congrArg Dev.txNew h

theorem quiet_clk {d e : Dev} (h : e.quiet = d.quiet) : e.clk = d.clk := show e.quiet.clk = d.quiet.clk from congrArg Dev.clk h
theorem quiet_img {d e : Dev} (h : e.quiet = d.quiet) : e.img = d.img := show e.quiet.img = d.quiet.img from congrArg Dev.img h
theorem quiet_patch {d e : Dev} (h : e.quiet = d.quiet) : e.patch = d.patch := show e.quiet.patch = d.quiet.patch from congrArg Dev.patch h
theorem quiet_switched {d e : Dev} (h : e.quiet = d.quiet) : e.switched = d.switched := show e.quiet.switched = d.quiet.switched from congrArg Dev.switched h
theorem quiet_streams {d e : Dev} (h : e.quiet = d.quiet) : e.streams = d.streams := show e.quiet.streams = d.quiet.streams from congrArg Dev.streams h
theorem quiet_meas {d e : Dev} (h : e.quiet = d.quiet) : e.meas = d.meas := show e.quiet.meas = d.quiet.meas from congrArg Dev.meas h
theorem quiet_pick {d e : Dev} (h : e.quiet = d.quiet) : e.pick = d.pick := show e.quiet.pick = d.quiet.pick from congrArg Dev.pick h
theorem quiet_gpioOut {d e : Dev} (h : e.quiet = d.quiet) : e.gpioOut = d.gpioOut := show e.quiet.gpioOut = d.quiet.gpioOut from congrArg Dev.gpioOut h
theorem quiet_auxOut {d e : Dev} (h : e.quiet = d.quiet) : e.auxOut = d.auxOut := show e.quiet.auxOut = d.quiet.auxOut from congrArg Dev.auxOut h
theorem quiet_out {d e : Dev} (h : e.quiet = d.quiet) : e.out = d.out := show e.quiet.out = d.quiet.out from congrArg Dev.out h
theorem quiet_free {d e : Dev} (h : e.quiet = d.quiet) : e.free = d.free := show e.quiet.free = d.quiet.free from congrArg Dev.free h
theorem quiet_pins {d e : Dev} (h : e.quiet = d.quiet) : e.pins = d.pins := show e.quiet.pins = d.quiet.pins from congrArg Dev.pins h
theorem quiet_stale {d e : Dev} (h : e.quiet = d.quiet) : e.stale = d.stale := show e.quiet.stale = d.quiet.stale from congrArg Dev.stale h
theorem quiet_creel {d e : Dev} (h : e.quiet = d.quiet) : e.creel = d.creel := show e.quiet.creel = d.quiet.creel from congrArg Dev.creel h
theorem quiet_plies {d e : Dev} (h : e.quiet = d.quiet) : e.plies = d.plies := show e.quiet.plies = d.quiet.plies from congrArg Dev.plies h
theorem quiet_grps {d e : Dev} (h : e.quiet = d.quiet) : e.grps = d.grps := show e.quiet.grps = d.quiet.grps from congrArg Dev.grps h
theorem quiet_engs {d e : Dev} (h : e.quiet = d.quiet) : e.engs = d.engs := show e.quiet.engs = d.quiet.engs from congrArg Dev.engs h
theorem quiet_trcs {d e : Dev} (h : e.quiet = d.quiet) : e.trcs = d.trcs := show e.quiet.trcs = d.quiet.trcs from congrArg Dev.trcs h
theorem quiet_axes {d e : Dev} (h : e.quiet = d.quiet) : e.axes = d.axes := show e.quiet.axes = d.quiet.axes from congrArg Dev.axes h
theorem quiet_mgrps {d e : Dev} (h : e.quiet = d.quiet) : e.mgrps = d.mgrps := show e.quiet.mgrps = d.quiet.mgrps from congrArg Dev.mgrps h
theorem quiet_groups {d e : Dev} (h : e.quiet = d.quiet) : e.groups = d.groups := show e.quiet.groups = d.quiet.groups from congrArg Dev.groups h
theorem quiet_drives {d e : Dev} (h : e.quiet = d.quiet) : e.drives = d.drives := show e.quiet.drives = d.quiet.drives from congrArg Dev.drives h
theorem quiet_sds {d e : Dev} (h : e.quiet = d.quiet) : e.sds = d.sds := show e.quiet.sds = d.quiet.sds from congrArg Dev.sds h
theorem quiet_riseAt {d e : Dev} (h : e.quiet = d.quiet) : e.riseAt = d.riseAt := show e.quiet.riseAt = d.quiet.riseAt from congrArg Dev.riseAt h
theorem quiet_lines {d e : Dev} (h : e.quiet = d.quiet) : e.lines = d.lines := show e.quiet.lines = d.quiet.lines from congrArg Dev.lines h
theorem quiet_fbs {d e : Dev} (h : e.quiet = d.quiet) : e.fbs = d.fbs := show e.quiet.fbs = d.quiet.fbs from congrArg Dev.fbs h
theorem quiet_shu {d e : Dev} (h : e.quiet = d.quiet) : e.shu = d.shu := show e.quiet.shu = d.quiet.shu from congrArg Dev.shu h
theorem quiet_hanks {d e : Dev} (h : e.quiet = d.quiet) : e.hanks = d.hanks := show e.quiet.hanks = d.quiet.hanks from congrArg Dev.hanks h
theorem quiet_hankSeq {d e : Dev} (h : e.quiet = d.quiet) : e.hankSeq = d.hankSeq := show e.quiet.hankSeq = d.quiet.hankSeq from congrArg Dev.hankSeq h
theorem quiet_weft {d e : Dev} (h : e.quiet = d.quiet) : e.weft = d.weft := show e.quiet.weft = d.quiet.weft from congrArg Dev.weft h
theorem quiet_txPrev {d e : Dev} (h : e.quiet = d.quiet) : e.txPrev = d.txPrev := show e.quiet.txPrev = d.quiet.txPrev from congrArg Dev.txPrev h
theorem quiet_eth {d e : Dev} (h : e.quiet = d.quiet) : e.eth = d.eth := show e.quiet.eth = d.quiet.eth from congrArg Dev.eth h
theorem quiet_ptp {d e : Dev} (h : e.quiet = d.quiet) : e.ptp = d.ptp := show e.quiet.ptp = d.quiet.ptp from congrArg Dev.ptp h
theorem quiet_cans {d e : Dev} (h : e.quiet = d.quiet) : e.cans = d.cans := show e.quiet.cans = d.quiet.cans from congrArg Dev.cans h
theorem quiet_loops {d e : Dev} (h : e.quiet = d.quiet) : e.loops = d.loops := show e.quiet.loops = d.quiet.loops from congrArg Dev.loops h
theorem quiet_safe {d e : Dev} (h : e.quiet = d.quiet) : e.safe = d.safe := show e.quiet.safe = d.quiet.safe from congrArg Dev.safe h
theorem quiet_pool {d e : Dev} (h : e.quiet = d.quiet) : e.pool = d.pool := show e.quiet.pool = d.quiet.pool from congrArg Dev.pool h
theorem quiet_pairx {d e : Dev} (h : e.quiet = d.quiet) : e.pairx = d.pairx := show e.quiet.pairx = d.quiet.pairx from congrArg Dev.pairx h
theorem quiet_txw {d e : Dev} (h : e.quiet = d.quiet) : e.txw = d.txw := show e.quiet.txw = d.quiet.txw from congrArg Dev.txw h
theorem quiet_txLate {d e : Dev} (h : e.quiet = d.quiet) : e.txLate = d.txLate := show e.quiet.txLate = d.quiet.txLate from congrArg Dev.txLate h
theorem quiet_txNew {d e : Dev} (h : e.quiet = d.quiet) : e.txNew = d.txNew := show e.quiet.txNew = d.quiet.txNew from congrArg Dev.txNew h

/-! `wr` -/

@[simp] theorem wr_clk (r : Reg) (i v : Nat) (d : Dev) : (wr r i v d).clk = d.clk := rest_clk (wr_rest ..)
@[simp] theorem wr_flash (r : Reg) (i v : Nat) (d : Dev) : (wr r i v d).flash = d.flash := rest_flash (wr_rest ..)
@[simp] theorem wr_img (r : Reg) (i v : Nat) (d : Dev) : (wr r i v d).img = d.img := rest_img (wr_rest ..)
@[simp] theorem wr_next (r : Reg) (i v : Nat) (d : Dev) : (wr r i v d).next = d.next := rest_next (wr_rest ..)
@[simp] theorem wr_unit (r : Reg) (i v : Nat) (d : Dev) : (wr r i v d).unit = d.unit := rest_unit (wr_rest ..)
@[simp] theorem wr_patch (r : Reg) (i v : Nat) (d : Dev) : (wr r i v d).patch = d.patch := rest_patch (wr_rest ..)
@[simp] theorem wr_xchg (r : Reg) (i v : Nat) (d : Dev) : (wr r i v d).xchg = d.xchg := rest_xchg (wr_rest ..)
@[simp] theorem wr_switched (r : Reg) (i v : Nat) (d : Dev) : (wr r i v d).switched = d.switched := rest_switched (wr_rest ..)
@[simp] theorem wr_active (r : Reg) (i v : Nat) (d : Dev) : (wr r i v d).active = d.active := rest_active (wr_rest ..)
@[simp] theorem wr_recd (r : Reg) (i v : Nat) (d : Dev) : (wr r i v d).recd = d.recd := rest_recd (wr_rest ..)
@[simp] theorem wr_streams (r : Reg) (i v : Nat) (d : Dev) : (wr r i v d).streams = d.streams := rest_streams (wr_rest ..)
@[simp] theorem wr_meas (r : Reg) (i v : Nat) (d : Dev) : (wr r i v d).meas = d.meas := rest_meas (wr_rest ..)
@[simp] theorem wr_pick (r : Reg) (i v : Nat) (d : Dev) : (wr r i v d).pick = d.pick := rest_pick (wr_rest ..)
@[simp] theorem wr_gpioOut (r : Reg) (i v : Nat) (d : Dev) : (wr r i v d).gpioOut = d.gpioOut := rest_gpioOut (wr_rest ..)
@[simp] theorem wr_auxOut (r : Reg) (i v : Nat) (d : Dev) : (wr r i v d).auxOut = d.auxOut := rest_auxOut (wr_rest ..)
@[simp] theorem wr_out (r : Reg) (i v : Nat) (d : Dev) : (wr r i v d).out = d.out := rest_out (wr_rest ..)
@[simp] theorem wr_free (r : Reg) (i v : Nat) (d : Dev) : (wr r i v d).free = d.free := rest_free (wr_rest ..)
@[simp] theorem wr_holdReq (r : Reg) (i v : Nat) (d : Dev) : (wr r i v d).holdReq = d.holdReq := rest_holdReq (wr_rest ..)
@[simp] theorem wr_holdAt (r : Reg) (i v : Nat) (d : Dev) : (wr r i v d).holdAt = d.holdAt := rest_holdAt (wr_rest ..)
@[simp] theorem wr_lostNamed (r : Reg) (i v : Nat) (d : Dev) : (wr r i v d).lostNamed = d.lostNamed := rest_lostNamed (wr_rest ..)
@[simp] theorem wr_pins (r : Reg) (i v : Nat) (d : Dev) : (wr r i v d).pins = d.pins := rest_pins (wr_rest ..)
@[simp] theorem wr_stale (r : Reg) (i v : Nat) (d : Dev) : (wr r i v d).stale = d.stale := rest_stale (wr_rest ..)
@[simp] theorem wr_creel (r : Reg) (i v : Nat) (d : Dev) : (wr r i v d).creel = d.creel := rest_creel (wr_rest ..)
@[simp] theorem wr_plies (r : Reg) (i v : Nat) (d : Dev) : (wr r i v d).plies = d.plies := rest_plies (wr_rest ..)
@[simp] theorem wr_grps (r : Reg) (i v : Nat) (d : Dev) : (wr r i v d).grps = d.grps := rest_grps (wr_rest ..)
@[simp] theorem wr_engs (r : Reg) (i v : Nat) (d : Dev) : (wr r i v d).engs = d.engs := rest_engs (wr_rest ..)
@[simp] theorem wr_trcs (r : Reg) (i v : Nat) (d : Dev) : (wr r i v d).trcs = d.trcs := rest_trcs (wr_rest ..)
@[simp] theorem wr_axes (r : Reg) (i v : Nat) (d : Dev) : (wr r i v d).axes = d.axes := rest_axes (wr_rest ..)
@[simp] theorem wr_mgrps (r : Reg) (i v : Nat) (d : Dev) : (wr r i v d).mgrps = d.mgrps := rest_mgrps (wr_rest ..)
@[simp] theorem wr_groups (r : Reg) (i v : Nat) (d : Dev) : (wr r i v d).groups = d.groups := rest_groups (wr_rest ..)
@[simp] theorem wr_drives (r : Reg) (i v : Nat) (d : Dev) : (wr r i v d).drives = d.drives := rest_drives (wr_rest ..)
@[simp] theorem wr_sds (r : Reg) (i v : Nat) (d : Dev) : (wr r i v d).sds = d.sds := rest_sds (wr_rest ..)
@[simp] theorem wr_riseAt (r : Reg) (i v : Nat) (d : Dev) : (wr r i v d).riseAt = d.riseAt := rest_riseAt (wr_rest ..)
@[simp] theorem wr_lines (r : Reg) (i v : Nat) (d : Dev) : (wr r i v d).lines = d.lines := rest_lines (wr_rest ..)
@[simp] theorem wr_fbs (r : Reg) (i v : Nat) (d : Dev) : (wr r i v d).fbs = d.fbs := rest_fbs (wr_rest ..)
@[simp] theorem wr_shu (r : Reg) (i v : Nat) (d : Dev) : (wr r i v d).shu = d.shu := rest_shu (wr_rest ..)
@[simp] theorem wr_hanks (r : Reg) (i v : Nat) (d : Dev) : (wr r i v d).hanks = d.hanks := rest_hanks (wr_rest ..)
@[simp] theorem wr_hankSeq (r : Reg) (i v : Nat) (d : Dev) : (wr r i v d).hankSeq = d.hankSeq := rest_hankSeq (wr_rest ..)
@[simp] theorem wr_weft (r : Reg) (i v : Nat) (d : Dev) : (wr r i v d).weft = d.weft := rest_weft (wr_rest ..)
@[simp] theorem wr_txPrev (r : Reg) (i v : Nat) (d : Dev) : (wr r i v d).txPrev = d.txPrev := rest_txPrev (wr_rest ..)
@[simp] theorem wr_eth (r : Reg) (i v : Nat) (d : Dev) : (wr r i v d).eth = d.eth := rest_eth (wr_rest ..)
@[simp] theorem wr_ptp (r : Reg) (i v : Nat) (d : Dev) : (wr r i v d).ptp = d.ptp := rest_ptp (wr_rest ..)
@[simp] theorem wr_cans (r : Reg) (i v : Nat) (d : Dev) : (wr r i v d).cans = d.cans := rest_cans (wr_rest ..)
@[simp] theorem wr_loops (r : Reg) (i v : Nat) (d : Dev) : (wr r i v d).loops = d.loops := rest_loops (wr_rest ..)
@[simp] theorem wr_store (r : Reg) (i v : Nat) (d : Dev) : (wr r i v d).store = d.store := rest_store (wr_rest ..)
@[simp] theorem wr_safe (r : Reg) (i v : Nat) (d : Dev) : (wr r i v d).safe = d.safe := rest_safe (wr_rest ..)
@[simp] theorem wr_pool (r : Reg) (i v : Nat) (d : Dev) : (wr r i v d).pool = d.pool := rest_pool (wr_rest ..)
@[simp] theorem wr_pairx (r : Reg) (i v : Nat) (d : Dev) : (wr r i v d).pairx = d.pairx := rest_pairx (wr_rest ..)
@[simp] theorem wr_txw (r : Reg) (i v : Nat) (d : Dev) : (wr r i v d).txw = d.txw := rest_txw (wr_rest ..)
@[simp] theorem wr_txLate (r : Reg) (i v : Nat) (d : Dev) : (wr r i v d).txLate = d.txLate := rest_txLate (wr_rest ..)
@[simp] theorem wr_txNew (r : Reg) (i v : Nat) (d : Dev) : (wr r i v d).txNew = d.txNew := rest_txNew (wr_rest ..)

/-! `put` -/

@[simp] theorem put_clk (f : Fld) (i v : Nat) (d : Dev) : (put f i v d).clk = d.clk := rest_clk (put_rest ..)
@[simp] theorem put_flash (f : Fld) (i v : Nat) (d : Dev) : (put f i v d).flash = d.flash := rest_flash (put_rest ..)
@[simp] theorem put_img (f : Fld) (i v : Nat) (d : Dev) : (put f i v d).img = d.img := rest_img (put_rest ..)
@[simp] theorem put_next (f : Fld) (i v : Nat) (d : Dev) : (put f i v d).next = d.next := rest_next (put_rest ..)
@[simp] theorem put_unit (f : Fld) (i v : Nat) (d : Dev) : (put f i v d).unit = d.unit := rest_unit (put_rest ..)
@[simp] theorem put_patch (f : Fld) (i v : Nat) (d : Dev) : (put f i v d).patch = d.patch := rest_patch (put_rest ..)
@[simp] theorem put_xchg (f : Fld) (i v : Nat) (d : Dev) : (put f i v d).xchg = d.xchg := rest_xchg (put_rest ..)
@[simp] theorem put_switched (f : Fld) (i v : Nat) (d : Dev) : (put f i v d).switched = d.switched := rest_switched (put_rest ..)
@[simp] theorem put_active (f : Fld) (i v : Nat) (d : Dev) : (put f i v d).active = d.active := rest_active (put_rest ..)
@[simp] theorem put_recd (f : Fld) (i v : Nat) (d : Dev) : (put f i v d).recd = d.recd := rest_recd (put_rest ..)
@[simp] theorem put_streams (f : Fld) (i v : Nat) (d : Dev) : (put f i v d).streams = d.streams := rest_streams (put_rest ..)
@[simp] theorem put_meas (f : Fld) (i v : Nat) (d : Dev) : (put f i v d).meas = d.meas := rest_meas (put_rest ..)
@[simp] theorem put_pick (f : Fld) (i v : Nat) (d : Dev) : (put f i v d).pick = d.pick := rest_pick (put_rest ..)
@[simp] theorem put_gpioOut (f : Fld) (i v : Nat) (d : Dev) : (put f i v d).gpioOut = d.gpioOut := rest_gpioOut (put_rest ..)
@[simp] theorem put_auxOut (f : Fld) (i v : Nat) (d : Dev) : (put f i v d).auxOut = d.auxOut := rest_auxOut (put_rest ..)
@[simp] theorem put_out (f : Fld) (i v : Nat) (d : Dev) : (put f i v d).out = d.out := rest_out (put_rest ..)
@[simp] theorem put_free (f : Fld) (i v : Nat) (d : Dev) : (put f i v d).free = d.free := rest_free (put_rest ..)
@[simp] theorem put_holdReq (f : Fld) (i v : Nat) (d : Dev) : (put f i v d).holdReq = d.holdReq := rest_holdReq (put_rest ..)
@[simp] theorem put_holdAt (f : Fld) (i v : Nat) (d : Dev) : (put f i v d).holdAt = d.holdAt := rest_holdAt (put_rest ..)
@[simp] theorem put_lostNamed (f : Fld) (i v : Nat) (d : Dev) : (put f i v d).lostNamed = d.lostNamed := rest_lostNamed (put_rest ..)
@[simp] theorem put_pins (f : Fld) (i v : Nat) (d : Dev) : (put f i v d).pins = d.pins := rest_pins (put_rest ..)
@[simp] theorem put_stale (f : Fld) (i v : Nat) (d : Dev) : (put f i v d).stale = d.stale := rest_stale (put_rest ..)
@[simp] theorem put_creel (f : Fld) (i v : Nat) (d : Dev) : (put f i v d).creel = d.creel := rest_creel (put_rest ..)
@[simp] theorem put_plies (f : Fld) (i v : Nat) (d : Dev) : (put f i v d).plies = d.plies := rest_plies (put_rest ..)
@[simp] theorem put_grps (f : Fld) (i v : Nat) (d : Dev) : (put f i v d).grps = d.grps := rest_grps (put_rest ..)
@[simp] theorem put_engs (f : Fld) (i v : Nat) (d : Dev) : (put f i v d).engs = d.engs := rest_engs (put_rest ..)
@[simp] theorem put_trcs (f : Fld) (i v : Nat) (d : Dev) : (put f i v d).trcs = d.trcs := rest_trcs (put_rest ..)
@[simp] theorem put_axes (f : Fld) (i v : Nat) (d : Dev) : (put f i v d).axes = d.axes := rest_axes (put_rest ..)
@[simp] theorem put_mgrps (f : Fld) (i v : Nat) (d : Dev) : (put f i v d).mgrps = d.mgrps := rest_mgrps (put_rest ..)
@[simp] theorem put_groups (f : Fld) (i v : Nat) (d : Dev) : (put f i v d).groups = d.groups := rest_groups (put_rest ..)
@[simp] theorem put_drives (f : Fld) (i v : Nat) (d : Dev) : (put f i v d).drives = d.drives := rest_drives (put_rest ..)
@[simp] theorem put_sds (f : Fld) (i v : Nat) (d : Dev) : (put f i v d).sds = d.sds := rest_sds (put_rest ..)
@[simp] theorem put_riseAt (f : Fld) (i v : Nat) (d : Dev) : (put f i v d).riseAt = d.riseAt := rest_riseAt (put_rest ..)
@[simp] theorem put_lines (f : Fld) (i v : Nat) (d : Dev) : (put f i v d).lines = d.lines := rest_lines (put_rest ..)
@[simp] theorem put_fbs (f : Fld) (i v : Nat) (d : Dev) : (put f i v d).fbs = d.fbs := rest_fbs (put_rest ..)
@[simp] theorem put_shu (f : Fld) (i v : Nat) (d : Dev) : (put f i v d).shu = d.shu := rest_shu (put_rest ..)
@[simp] theorem put_hanks (f : Fld) (i v : Nat) (d : Dev) : (put f i v d).hanks = d.hanks := rest_hanks (put_rest ..)
@[simp] theorem put_hankSeq (f : Fld) (i v : Nat) (d : Dev) : (put f i v d).hankSeq = d.hankSeq := rest_hankSeq (put_rest ..)
@[simp] theorem put_weft (f : Fld) (i v : Nat) (d : Dev) : (put f i v d).weft = d.weft := rest_weft (put_rest ..)
@[simp] theorem put_txPrev (f : Fld) (i v : Nat) (d : Dev) : (put f i v d).txPrev = d.txPrev := rest_txPrev (put_rest ..)
@[simp] theorem put_eth (f : Fld) (i v : Nat) (d : Dev) : (put f i v d).eth = d.eth := rest_eth (put_rest ..)
@[simp] theorem put_ptp (f : Fld) (i v : Nat) (d : Dev) : (put f i v d).ptp = d.ptp := rest_ptp (put_rest ..)
@[simp] theorem put_cans (f : Fld) (i v : Nat) (d : Dev) : (put f i v d).cans = d.cans := rest_cans (put_rest ..)
@[simp] theorem put_loops (f : Fld) (i v : Nat) (d : Dev) : (put f i v d).loops = d.loops := rest_loops (put_rest ..)
@[simp] theorem put_store (f : Fld) (i v : Nat) (d : Dev) : (put f i v d).store = d.store := rest_store (put_rest ..)
@[simp] theorem put_safe (f : Fld) (i v : Nat) (d : Dev) : (put f i v d).safe = d.safe := rest_safe (put_rest ..)
@[simp] theorem put_pool (f : Fld) (i v : Nat) (d : Dev) : (put f i v d).pool = d.pool := rest_pool (put_rest ..)
@[simp] theorem put_pairx (f : Fld) (i v : Nat) (d : Dev) : (put f i v d).pairx = d.pairx := rest_pairx (put_rest ..)
@[simp] theorem put_txw (f : Fld) (i v : Nat) (d : Dev) : (put f i v d).txw = d.txw := rest_txw (put_rest ..)
@[simp] theorem put_txLate (f : Fld) (i v : Nat) (d : Dev) : (put f i v d).txLate = d.txLate := rest_txLate (put_rest ..)
@[simp] theorem put_txNew (f : Fld) (i v : Nat) (d : Dev) : (put f i v d).txNew = d.txNew := rest_txNew (put_rest ..)

/-! `putB` -/

@[simp] theorem putB_clk (f : Fld) (i : Nat) (b : Bool) (d : Dev) : (putB f i b d).clk = d.clk := rest_clk (putB_rest ..)
@[simp] theorem putB_flash (f : Fld) (i : Nat) (b : Bool) (d : Dev) : (putB f i b d).flash = d.flash := rest_flash (putB_rest ..)
@[simp] theorem putB_img (f : Fld) (i : Nat) (b : Bool) (d : Dev) : (putB f i b d).img = d.img := rest_img (putB_rest ..)
@[simp] theorem putB_next (f : Fld) (i : Nat) (b : Bool) (d : Dev) : (putB f i b d).next = d.next := rest_next (putB_rest ..)
@[simp] theorem putB_unit (f : Fld) (i : Nat) (b : Bool) (d : Dev) : (putB f i b d).unit = d.unit := rest_unit (putB_rest ..)
@[simp] theorem putB_patch (f : Fld) (i : Nat) (b : Bool) (d : Dev) : (putB f i b d).patch = d.patch := rest_patch (putB_rest ..)
@[simp] theorem putB_xchg (f : Fld) (i : Nat) (b : Bool) (d : Dev) : (putB f i b d).xchg = d.xchg := rest_xchg (putB_rest ..)
@[simp] theorem putB_switched (f : Fld) (i : Nat) (b : Bool) (d : Dev) : (putB f i b d).switched = d.switched := rest_switched (putB_rest ..)
@[simp] theorem putB_active (f : Fld) (i : Nat) (b : Bool) (d : Dev) : (putB f i b d).active = d.active := rest_active (putB_rest ..)
@[simp] theorem putB_recd (f : Fld) (i : Nat) (b : Bool) (d : Dev) : (putB f i b d).recd = d.recd := rest_recd (putB_rest ..)
@[simp] theorem putB_streams (f : Fld) (i : Nat) (b : Bool) (d : Dev) : (putB f i b d).streams = d.streams := rest_streams (putB_rest ..)
@[simp] theorem putB_meas (f : Fld) (i : Nat) (b : Bool) (d : Dev) : (putB f i b d).meas = d.meas := rest_meas (putB_rest ..)
@[simp] theorem putB_pick (f : Fld) (i : Nat) (b : Bool) (d : Dev) : (putB f i b d).pick = d.pick := rest_pick (putB_rest ..)
@[simp] theorem putB_gpioOut (f : Fld) (i : Nat) (b : Bool) (d : Dev) : (putB f i b d).gpioOut = d.gpioOut := rest_gpioOut (putB_rest ..)
@[simp] theorem putB_auxOut (f : Fld) (i : Nat) (b : Bool) (d : Dev) : (putB f i b d).auxOut = d.auxOut := rest_auxOut (putB_rest ..)
@[simp] theorem putB_out (f : Fld) (i : Nat) (b : Bool) (d : Dev) : (putB f i b d).out = d.out := rest_out (putB_rest ..)
@[simp] theorem putB_free (f : Fld) (i : Nat) (b : Bool) (d : Dev) : (putB f i b d).free = d.free := rest_free (putB_rest ..)
@[simp] theorem putB_holdReq (f : Fld) (i : Nat) (b : Bool) (d : Dev) : (putB f i b d).holdReq = d.holdReq := rest_holdReq (putB_rest ..)
@[simp] theorem putB_holdAt (f : Fld) (i : Nat) (b : Bool) (d : Dev) : (putB f i b d).holdAt = d.holdAt := rest_holdAt (putB_rest ..)
@[simp] theorem putB_lostNamed (f : Fld) (i : Nat) (b : Bool) (d : Dev) : (putB f i b d).lostNamed = d.lostNamed := rest_lostNamed (putB_rest ..)
@[simp] theorem putB_pins (f : Fld) (i : Nat) (b : Bool) (d : Dev) : (putB f i b d).pins = d.pins := rest_pins (putB_rest ..)
@[simp] theorem putB_stale (f : Fld) (i : Nat) (b : Bool) (d : Dev) : (putB f i b d).stale = d.stale := rest_stale (putB_rest ..)
@[simp] theorem putB_creel (f : Fld) (i : Nat) (b : Bool) (d : Dev) : (putB f i b d).creel = d.creel := rest_creel (putB_rest ..)
@[simp] theorem putB_plies (f : Fld) (i : Nat) (b : Bool) (d : Dev) : (putB f i b d).plies = d.plies := rest_plies (putB_rest ..)
@[simp] theorem putB_grps (f : Fld) (i : Nat) (b : Bool) (d : Dev) : (putB f i b d).grps = d.grps := rest_grps (putB_rest ..)
@[simp] theorem putB_engs (f : Fld) (i : Nat) (b : Bool) (d : Dev) : (putB f i b d).engs = d.engs := rest_engs (putB_rest ..)
@[simp] theorem putB_trcs (f : Fld) (i : Nat) (b : Bool) (d : Dev) : (putB f i b d).trcs = d.trcs := rest_trcs (putB_rest ..)
@[simp] theorem putB_axes (f : Fld) (i : Nat) (b : Bool) (d : Dev) : (putB f i b d).axes = d.axes := rest_axes (putB_rest ..)
@[simp] theorem putB_mgrps (f : Fld) (i : Nat) (b : Bool) (d : Dev) : (putB f i b d).mgrps = d.mgrps := rest_mgrps (putB_rest ..)
@[simp] theorem putB_groups (f : Fld) (i : Nat) (b : Bool) (d : Dev) : (putB f i b d).groups = d.groups := rest_groups (putB_rest ..)
@[simp] theorem putB_drives (f : Fld) (i : Nat) (b : Bool) (d : Dev) : (putB f i b d).drives = d.drives := rest_drives (putB_rest ..)
@[simp] theorem putB_sds (f : Fld) (i : Nat) (b : Bool) (d : Dev) : (putB f i b d).sds = d.sds := rest_sds (putB_rest ..)
@[simp] theorem putB_riseAt (f : Fld) (i : Nat) (b : Bool) (d : Dev) : (putB f i b d).riseAt = d.riseAt := rest_riseAt (putB_rest ..)
@[simp] theorem putB_lines (f : Fld) (i : Nat) (b : Bool) (d : Dev) : (putB f i b d).lines = d.lines := rest_lines (putB_rest ..)
@[simp] theorem putB_fbs (f : Fld) (i : Nat) (b : Bool) (d : Dev) : (putB f i b d).fbs = d.fbs := rest_fbs (putB_rest ..)
@[simp] theorem putB_shu (f : Fld) (i : Nat) (b : Bool) (d : Dev) : (putB f i b d).shu = d.shu := rest_shu (putB_rest ..)
@[simp] theorem putB_hanks (f : Fld) (i : Nat) (b : Bool) (d : Dev) : (putB f i b d).hanks = d.hanks := rest_hanks (putB_rest ..)
@[simp] theorem putB_hankSeq (f : Fld) (i : Nat) (b : Bool) (d : Dev) : (putB f i b d).hankSeq = d.hankSeq := rest_hankSeq (putB_rest ..)
@[simp] theorem putB_weft (f : Fld) (i : Nat) (b : Bool) (d : Dev) : (putB f i b d).weft = d.weft := rest_weft (putB_rest ..)
@[simp] theorem putB_txPrev (f : Fld) (i : Nat) (b : Bool) (d : Dev) : (putB f i b d).txPrev = d.txPrev := rest_txPrev (putB_rest ..)
@[simp] theorem putB_eth (f : Fld) (i : Nat) (b : Bool) (d : Dev) : (putB f i b d).eth = d.eth := rest_eth (putB_rest ..)
@[simp] theorem putB_ptp (f : Fld) (i : Nat) (b : Bool) (d : Dev) : (putB f i b d).ptp = d.ptp := rest_ptp (putB_rest ..)
@[simp] theorem putB_cans (f : Fld) (i : Nat) (b : Bool) (d : Dev) : (putB f i b d).cans = d.cans := rest_cans (putB_rest ..)
@[simp] theorem putB_loops (f : Fld) (i : Nat) (b : Bool) (d : Dev) : (putB f i b d).loops = d.loops := rest_loops (putB_rest ..)
@[simp] theorem putB_store (f : Fld) (i : Nat) (b : Bool) (d : Dev) : (putB f i b d).store = d.store := rest_store (putB_rest ..)
@[simp] theorem putB_safe (f : Fld) (i : Nat) (b : Bool) (d : Dev) : (putB f i b d).safe = d.safe := rest_safe (putB_rest ..)
@[simp] theorem putB_pool (f : Fld) (i : Nat) (b : Bool) (d : Dev) : (putB f i b d).pool = d.pool := rest_pool (putB_rest ..)
@[simp] theorem putB_pairx (f : Fld) (i : Nat) (b : Bool) (d : Dev) : (putB f i b d).pairx = d.pairx := rest_pairx (putB_rest ..)
@[simp] theorem putB_txw (f : Fld) (i : Nat) (b : Bool) (d : Dev) : (putB f i b d).txw = d.txw := rest_txw (putB_rest ..)
@[simp] theorem putB_txLate (f : Fld) (i : Nat) (b : Bool) (d : Dev) : (putB f i b d).txLate = d.txLate := rest_txLate (putB_rest ..)
@[simp] theorem putB_txNew (f : Fld) (i : Nat) (b : Bool) (d : Dev) : (putB f i b d).txNew = d.txNew := rest_txNew (putB_rest ..)

/-! `putS` -/

@[simp] theorem putS_clk (f : Fld) (i : Nat) (v : Int) (d : Dev) : (putS f i v d).clk = d.clk := rest_clk (putS_rest ..)
@[simp] theorem putS_flash (f : Fld) (i : Nat) (v : Int) (d : Dev) : (putS f i v d).flash = d.flash := rest_flash (putS_rest ..)
@[simp] theorem putS_img (f : Fld) (i : Nat) (v : Int) (d : Dev) : (putS f i v d).img = d.img := rest_img (putS_rest ..)
@[simp] theorem putS_next (f : Fld) (i : Nat) (v : Int) (d : Dev) : (putS f i v d).next = d.next := rest_next (putS_rest ..)
@[simp] theorem putS_unit (f : Fld) (i : Nat) (v : Int) (d : Dev) : (putS f i v d).unit = d.unit := rest_unit (putS_rest ..)
@[simp] theorem putS_patch (f : Fld) (i : Nat) (v : Int) (d : Dev) : (putS f i v d).patch = d.patch := rest_patch (putS_rest ..)
@[simp] theorem putS_xchg (f : Fld) (i : Nat) (v : Int) (d : Dev) : (putS f i v d).xchg = d.xchg := rest_xchg (putS_rest ..)
@[simp] theorem putS_switched (f : Fld) (i : Nat) (v : Int) (d : Dev) : (putS f i v d).switched = d.switched := rest_switched (putS_rest ..)
@[simp] theorem putS_active (f : Fld) (i : Nat) (v : Int) (d : Dev) : (putS f i v d).active = d.active := rest_active (putS_rest ..)
@[simp] theorem putS_recd (f : Fld) (i : Nat) (v : Int) (d : Dev) : (putS f i v d).recd = d.recd := rest_recd (putS_rest ..)
@[simp] theorem putS_streams (f : Fld) (i : Nat) (v : Int) (d : Dev) : (putS f i v d).streams = d.streams := rest_streams (putS_rest ..)
@[simp] theorem putS_meas (f : Fld) (i : Nat) (v : Int) (d : Dev) : (putS f i v d).meas = d.meas := rest_meas (putS_rest ..)
@[simp] theorem putS_pick (f : Fld) (i : Nat) (v : Int) (d : Dev) : (putS f i v d).pick = d.pick := rest_pick (putS_rest ..)
@[simp] theorem putS_gpioOut (f : Fld) (i : Nat) (v : Int) (d : Dev) : (putS f i v d).gpioOut = d.gpioOut := rest_gpioOut (putS_rest ..)
@[simp] theorem putS_auxOut (f : Fld) (i : Nat) (v : Int) (d : Dev) : (putS f i v d).auxOut = d.auxOut := rest_auxOut (putS_rest ..)
@[simp] theorem putS_out (f : Fld) (i : Nat) (v : Int) (d : Dev) : (putS f i v d).out = d.out := rest_out (putS_rest ..)
@[simp] theorem putS_free (f : Fld) (i : Nat) (v : Int) (d : Dev) : (putS f i v d).free = d.free := rest_free (putS_rest ..)
@[simp] theorem putS_holdReq (f : Fld) (i : Nat) (v : Int) (d : Dev) : (putS f i v d).holdReq = d.holdReq := rest_holdReq (putS_rest ..)
@[simp] theorem putS_holdAt (f : Fld) (i : Nat) (v : Int) (d : Dev) : (putS f i v d).holdAt = d.holdAt := rest_holdAt (putS_rest ..)
@[simp] theorem putS_lostNamed (f : Fld) (i : Nat) (v : Int) (d : Dev) : (putS f i v d).lostNamed = d.lostNamed := rest_lostNamed (putS_rest ..)
@[simp] theorem putS_pins (f : Fld) (i : Nat) (v : Int) (d : Dev) : (putS f i v d).pins = d.pins := rest_pins (putS_rest ..)
@[simp] theorem putS_stale (f : Fld) (i : Nat) (v : Int) (d : Dev) : (putS f i v d).stale = d.stale := rest_stale (putS_rest ..)
@[simp] theorem putS_creel (f : Fld) (i : Nat) (v : Int) (d : Dev) : (putS f i v d).creel = d.creel := rest_creel (putS_rest ..)
@[simp] theorem putS_plies (f : Fld) (i : Nat) (v : Int) (d : Dev) : (putS f i v d).plies = d.plies := rest_plies (putS_rest ..)
@[simp] theorem putS_grps (f : Fld) (i : Nat) (v : Int) (d : Dev) : (putS f i v d).grps = d.grps := rest_grps (putS_rest ..)
@[simp] theorem putS_engs (f : Fld) (i : Nat) (v : Int) (d : Dev) : (putS f i v d).engs = d.engs := rest_engs (putS_rest ..)
@[simp] theorem putS_trcs (f : Fld) (i : Nat) (v : Int) (d : Dev) : (putS f i v d).trcs = d.trcs := rest_trcs (putS_rest ..)
@[simp] theorem putS_axes (f : Fld) (i : Nat) (v : Int) (d : Dev) : (putS f i v d).axes = d.axes := rest_axes (putS_rest ..)
@[simp] theorem putS_mgrps (f : Fld) (i : Nat) (v : Int) (d : Dev) : (putS f i v d).mgrps = d.mgrps := rest_mgrps (putS_rest ..)
@[simp] theorem putS_groups (f : Fld) (i : Nat) (v : Int) (d : Dev) : (putS f i v d).groups = d.groups := rest_groups (putS_rest ..)
@[simp] theorem putS_drives (f : Fld) (i : Nat) (v : Int) (d : Dev) : (putS f i v d).drives = d.drives := rest_drives (putS_rest ..)
@[simp] theorem putS_sds (f : Fld) (i : Nat) (v : Int) (d : Dev) : (putS f i v d).sds = d.sds := rest_sds (putS_rest ..)
@[simp] theorem putS_riseAt (f : Fld) (i : Nat) (v : Int) (d : Dev) : (putS f i v d).riseAt = d.riseAt := rest_riseAt (putS_rest ..)
@[simp] theorem putS_lines (f : Fld) (i : Nat) (v : Int) (d : Dev) : (putS f i v d).lines = d.lines := rest_lines (putS_rest ..)
@[simp] theorem putS_fbs (f : Fld) (i : Nat) (v : Int) (d : Dev) : (putS f i v d).fbs = d.fbs := rest_fbs (putS_rest ..)
@[simp] theorem putS_shu (f : Fld) (i : Nat) (v : Int) (d : Dev) : (putS f i v d).shu = d.shu := rest_shu (putS_rest ..)
@[simp] theorem putS_hanks (f : Fld) (i : Nat) (v : Int) (d : Dev) : (putS f i v d).hanks = d.hanks := rest_hanks (putS_rest ..)
@[simp] theorem putS_hankSeq (f : Fld) (i : Nat) (v : Int) (d : Dev) : (putS f i v d).hankSeq = d.hankSeq := rest_hankSeq (putS_rest ..)
@[simp] theorem putS_weft (f : Fld) (i : Nat) (v : Int) (d : Dev) : (putS f i v d).weft = d.weft := rest_weft (putS_rest ..)
@[simp] theorem putS_txPrev (f : Fld) (i : Nat) (v : Int) (d : Dev) : (putS f i v d).txPrev = d.txPrev := rest_txPrev (putS_rest ..)
@[simp] theorem putS_eth (f : Fld) (i : Nat) (v : Int) (d : Dev) : (putS f i v d).eth = d.eth := rest_eth (putS_rest ..)
@[simp] theorem putS_ptp (f : Fld) (i : Nat) (v : Int) (d : Dev) : (putS f i v d).ptp = d.ptp := rest_ptp (putS_rest ..)
@[simp] theorem putS_cans (f : Fld) (i : Nat) (v : Int) (d : Dev) : (putS f i v d).cans = d.cans := rest_cans (putS_rest ..)
@[simp] theorem putS_loops (f : Fld) (i : Nat) (v : Int) (d : Dev) : (putS f i v d).loops = d.loops := rest_loops (putS_rest ..)
@[simp] theorem putS_store (f : Fld) (i : Nat) (v : Int) (d : Dev) : (putS f i v d).store = d.store := rest_store (putS_rest ..)
@[simp] theorem putS_safe (f : Fld) (i : Nat) (v : Int) (d : Dev) : (putS f i v d).safe = d.safe := rest_safe (putS_rest ..)
@[simp] theorem putS_pool (f : Fld) (i : Nat) (v : Int) (d : Dev) : (putS f i v d).pool = d.pool := rest_pool (putS_rest ..)
@[simp] theorem putS_pairx (f : Fld) (i : Nat) (v : Int) (d : Dev) : (putS f i v d).pairx = d.pairx := rest_pairx (putS_rest ..)
@[simp] theorem putS_txw (f : Fld) (i : Nat) (v : Int) (d : Dev) : (putS f i v d).txw = d.txw := rest_txw (putS_rest ..)
@[simp] theorem putS_txLate (f : Fld) (i : Nat) (v : Int) (d : Dev) : (putS f i v d).txLate = d.txLate := rest_txLate (putS_rest ..)
@[simp] theorem putS_txNew (f : Fld) (i : Nat) (v : Int) (d : Dev) : (putS f i v d).txNew = d.txNew := rest_txNew (putS_rest ..)

/-! `bump` -/

@[simp] theorem bump_clk (f : Fld) (i : Nat) (d : Dev) : (bump f i d).clk = d.clk := rest_clk (bump_rest ..)
@[simp] theorem bump_flash (f : Fld) (i : Nat) (d : Dev) : (bump f i d).flash = d.flash := rest_flash (bump_rest ..)
@[simp] theorem bump_img (f : Fld) (i : Nat) (d : Dev) : (bump f i d).img = d.img := rest_img (bump_rest ..)
@[simp] theorem bump_next (f : Fld) (i : Nat) (d : Dev) : (bump f i d).next = d.next := rest_next (bump_rest ..)
@[simp] theorem bump_unit (f : Fld) (i : Nat) (d : Dev) : (bump f i d).unit = d.unit := rest_unit (bump_rest ..)
@[simp] theorem bump_patch (f : Fld) (i : Nat) (d : Dev) : (bump f i d).patch = d.patch := rest_patch (bump_rest ..)
@[simp] theorem bump_xchg (f : Fld) (i : Nat) (d : Dev) : (bump f i d).xchg = d.xchg := rest_xchg (bump_rest ..)
@[simp] theorem bump_switched (f : Fld) (i : Nat) (d : Dev) : (bump f i d).switched = d.switched := rest_switched (bump_rest ..)
@[simp] theorem bump_active (f : Fld) (i : Nat) (d : Dev) : (bump f i d).active = d.active := rest_active (bump_rest ..)
@[simp] theorem bump_recd (f : Fld) (i : Nat) (d : Dev) : (bump f i d).recd = d.recd := rest_recd (bump_rest ..)
@[simp] theorem bump_streams (f : Fld) (i : Nat) (d : Dev) : (bump f i d).streams = d.streams := rest_streams (bump_rest ..)
@[simp] theorem bump_meas (f : Fld) (i : Nat) (d : Dev) : (bump f i d).meas = d.meas := rest_meas (bump_rest ..)
@[simp] theorem bump_pick (f : Fld) (i : Nat) (d : Dev) : (bump f i d).pick = d.pick := rest_pick (bump_rest ..)
@[simp] theorem bump_gpioOut (f : Fld) (i : Nat) (d : Dev) : (bump f i d).gpioOut = d.gpioOut := rest_gpioOut (bump_rest ..)
@[simp] theorem bump_auxOut (f : Fld) (i : Nat) (d : Dev) : (bump f i d).auxOut = d.auxOut := rest_auxOut (bump_rest ..)
@[simp] theorem bump_out (f : Fld) (i : Nat) (d : Dev) : (bump f i d).out = d.out := rest_out (bump_rest ..)
@[simp] theorem bump_free (f : Fld) (i : Nat) (d : Dev) : (bump f i d).free = d.free := rest_free (bump_rest ..)
@[simp] theorem bump_holdReq (f : Fld) (i : Nat) (d : Dev) : (bump f i d).holdReq = d.holdReq := rest_holdReq (bump_rest ..)
@[simp] theorem bump_holdAt (f : Fld) (i : Nat) (d : Dev) : (bump f i d).holdAt = d.holdAt := rest_holdAt (bump_rest ..)
@[simp] theorem bump_lostNamed (f : Fld) (i : Nat) (d : Dev) : (bump f i d).lostNamed = d.lostNamed := rest_lostNamed (bump_rest ..)
@[simp] theorem bump_pins (f : Fld) (i : Nat) (d : Dev) : (bump f i d).pins = d.pins := rest_pins (bump_rest ..)
@[simp] theorem bump_stale (f : Fld) (i : Nat) (d : Dev) : (bump f i d).stale = d.stale := rest_stale (bump_rest ..)
@[simp] theorem bump_creel (f : Fld) (i : Nat) (d : Dev) : (bump f i d).creel = d.creel := rest_creel (bump_rest ..)
@[simp] theorem bump_plies (f : Fld) (i : Nat) (d : Dev) : (bump f i d).plies = d.plies := rest_plies (bump_rest ..)
@[simp] theorem bump_grps (f : Fld) (i : Nat) (d : Dev) : (bump f i d).grps = d.grps := rest_grps (bump_rest ..)
@[simp] theorem bump_engs (f : Fld) (i : Nat) (d : Dev) : (bump f i d).engs = d.engs := rest_engs (bump_rest ..)
@[simp] theorem bump_trcs (f : Fld) (i : Nat) (d : Dev) : (bump f i d).trcs = d.trcs := rest_trcs (bump_rest ..)
@[simp] theorem bump_axes (f : Fld) (i : Nat) (d : Dev) : (bump f i d).axes = d.axes := rest_axes (bump_rest ..)
@[simp] theorem bump_mgrps (f : Fld) (i : Nat) (d : Dev) : (bump f i d).mgrps = d.mgrps := rest_mgrps (bump_rest ..)
@[simp] theorem bump_groups (f : Fld) (i : Nat) (d : Dev) : (bump f i d).groups = d.groups := rest_groups (bump_rest ..)
@[simp] theorem bump_drives (f : Fld) (i : Nat) (d : Dev) : (bump f i d).drives = d.drives := rest_drives (bump_rest ..)
@[simp] theorem bump_sds (f : Fld) (i : Nat) (d : Dev) : (bump f i d).sds = d.sds := rest_sds (bump_rest ..)
@[simp] theorem bump_riseAt (f : Fld) (i : Nat) (d : Dev) : (bump f i d).riseAt = d.riseAt := rest_riseAt (bump_rest ..)
@[simp] theorem bump_lines (f : Fld) (i : Nat) (d : Dev) : (bump f i d).lines = d.lines := rest_lines (bump_rest ..)
@[simp] theorem bump_fbs (f : Fld) (i : Nat) (d : Dev) : (bump f i d).fbs = d.fbs := rest_fbs (bump_rest ..)
@[simp] theorem bump_shu (f : Fld) (i : Nat) (d : Dev) : (bump f i d).shu = d.shu := rest_shu (bump_rest ..)
@[simp] theorem bump_hanks (f : Fld) (i : Nat) (d : Dev) : (bump f i d).hanks = d.hanks := rest_hanks (bump_rest ..)
@[simp] theorem bump_hankSeq (f : Fld) (i : Nat) (d : Dev) : (bump f i d).hankSeq = d.hankSeq := rest_hankSeq (bump_rest ..)
@[simp] theorem bump_weft (f : Fld) (i : Nat) (d : Dev) : (bump f i d).weft = d.weft := rest_weft (bump_rest ..)
@[simp] theorem bump_txPrev (f : Fld) (i : Nat) (d : Dev) : (bump f i d).txPrev = d.txPrev := rest_txPrev (bump_rest ..)
@[simp] theorem bump_eth (f : Fld) (i : Nat) (d : Dev) : (bump f i d).eth = d.eth := rest_eth (bump_rest ..)
@[simp] theorem bump_ptp (f : Fld) (i : Nat) (d : Dev) : (bump f i d).ptp = d.ptp := rest_ptp (bump_rest ..)
@[simp] theorem bump_cans (f : Fld) (i : Nat) (d : Dev) : (bump f i d).cans = d.cans := rest_cans (bump_rest ..)
@[simp] theorem bump_loops (f : Fld) (i : Nat) (d : Dev) : (bump f i d).loops = d.loops := rest_loops (bump_rest ..)
@[simp] theorem bump_store (f : Fld) (i : Nat) (d : Dev) : (bump f i d).store = d.store := rest_store (bump_rest ..)
@[simp] theorem bump_safe (f : Fld) (i : Nat) (d : Dev) : (bump f i d).safe = d.safe := rest_safe (bump_rest ..)
@[simp] theorem bump_pool (f : Fld) (i : Nat) (d : Dev) : (bump f i d).pool = d.pool := rest_pool (bump_rest ..)
@[simp] theorem bump_pairx (f : Fld) (i : Nat) (d : Dev) : (bump f i d).pairx = d.pairx := rest_pairx (bump_rest ..)
@[simp] theorem bump_txw (f : Fld) (i : Nat) (d : Dev) : (bump f i d).txw = d.txw := rest_txw (bump_rest ..)
@[simp] theorem bump_txLate (f : Fld) (i : Nat) (d : Dev) : (bump f i d).txLate = d.txLate := rest_txLate (bump_rest ..)
@[simp] theorem bump_txNew (f : Fld) (i : Nat) (d : Dev) : (bump f i d).txNew = d.txNew := rest_txNew (bump_rest ..)

/-! `bumpSat` -/

@[simp] theorem bumpSat_clk (f : Fld) (i : Nat) (d : Dev) : (bumpSat f i d).clk = d.clk := rest_clk (bumpSat_rest ..)
@[simp] theorem bumpSat_flash (f : Fld) (i : Nat) (d : Dev) : (bumpSat f i d).flash = d.flash := rest_flash (bumpSat_rest ..)
@[simp] theorem bumpSat_img (f : Fld) (i : Nat) (d : Dev) : (bumpSat f i d).img = d.img := rest_img (bumpSat_rest ..)
@[simp] theorem bumpSat_next (f : Fld) (i : Nat) (d : Dev) : (bumpSat f i d).next = d.next := rest_next (bumpSat_rest ..)
@[simp] theorem bumpSat_unit (f : Fld) (i : Nat) (d : Dev) : (bumpSat f i d).unit = d.unit := rest_unit (bumpSat_rest ..)
@[simp] theorem bumpSat_patch (f : Fld) (i : Nat) (d : Dev) : (bumpSat f i d).patch = d.patch := rest_patch (bumpSat_rest ..)
@[simp] theorem bumpSat_xchg (f : Fld) (i : Nat) (d : Dev) : (bumpSat f i d).xchg = d.xchg := rest_xchg (bumpSat_rest ..)
@[simp] theorem bumpSat_switched (f : Fld) (i : Nat) (d : Dev) : (bumpSat f i d).switched = d.switched := rest_switched (bumpSat_rest ..)
@[simp] theorem bumpSat_active (f : Fld) (i : Nat) (d : Dev) : (bumpSat f i d).active = d.active := rest_active (bumpSat_rest ..)
@[simp] theorem bumpSat_recd (f : Fld) (i : Nat) (d : Dev) : (bumpSat f i d).recd = d.recd := rest_recd (bumpSat_rest ..)
@[simp] theorem bumpSat_streams (f : Fld) (i : Nat) (d : Dev) : (bumpSat f i d).streams = d.streams := rest_streams (bumpSat_rest ..)
@[simp] theorem bumpSat_meas (f : Fld) (i : Nat) (d : Dev) : (bumpSat f i d).meas = d.meas := rest_meas (bumpSat_rest ..)
@[simp] theorem bumpSat_pick (f : Fld) (i : Nat) (d : Dev) : (bumpSat f i d).pick = d.pick := rest_pick (bumpSat_rest ..)
@[simp] theorem bumpSat_gpioOut (f : Fld) (i : Nat) (d : Dev) : (bumpSat f i d).gpioOut = d.gpioOut := rest_gpioOut (bumpSat_rest ..)
@[simp] theorem bumpSat_auxOut (f : Fld) (i : Nat) (d : Dev) : (bumpSat f i d).auxOut = d.auxOut := rest_auxOut (bumpSat_rest ..)
@[simp] theorem bumpSat_out (f : Fld) (i : Nat) (d : Dev) : (bumpSat f i d).out = d.out := rest_out (bumpSat_rest ..)
@[simp] theorem bumpSat_free (f : Fld) (i : Nat) (d : Dev) : (bumpSat f i d).free = d.free := rest_free (bumpSat_rest ..)
@[simp] theorem bumpSat_holdReq (f : Fld) (i : Nat) (d : Dev) : (bumpSat f i d).holdReq = d.holdReq := rest_holdReq (bumpSat_rest ..)
@[simp] theorem bumpSat_holdAt (f : Fld) (i : Nat) (d : Dev) : (bumpSat f i d).holdAt = d.holdAt := rest_holdAt (bumpSat_rest ..)
@[simp] theorem bumpSat_lostNamed (f : Fld) (i : Nat) (d : Dev) : (bumpSat f i d).lostNamed = d.lostNamed := rest_lostNamed (bumpSat_rest ..)
@[simp] theorem bumpSat_pins (f : Fld) (i : Nat) (d : Dev) : (bumpSat f i d).pins = d.pins := rest_pins (bumpSat_rest ..)
@[simp] theorem bumpSat_stale (f : Fld) (i : Nat) (d : Dev) : (bumpSat f i d).stale = d.stale := rest_stale (bumpSat_rest ..)
@[simp] theorem bumpSat_creel (f : Fld) (i : Nat) (d : Dev) : (bumpSat f i d).creel = d.creel := rest_creel (bumpSat_rest ..)
@[simp] theorem bumpSat_plies (f : Fld) (i : Nat) (d : Dev) : (bumpSat f i d).plies = d.plies := rest_plies (bumpSat_rest ..)
@[simp] theorem bumpSat_grps (f : Fld) (i : Nat) (d : Dev) : (bumpSat f i d).grps = d.grps := rest_grps (bumpSat_rest ..)
@[simp] theorem bumpSat_engs (f : Fld) (i : Nat) (d : Dev) : (bumpSat f i d).engs = d.engs := rest_engs (bumpSat_rest ..)
@[simp] theorem bumpSat_trcs (f : Fld) (i : Nat) (d : Dev) : (bumpSat f i d).trcs = d.trcs := rest_trcs (bumpSat_rest ..)
@[simp] theorem bumpSat_axes (f : Fld) (i : Nat) (d : Dev) : (bumpSat f i d).axes = d.axes := rest_axes (bumpSat_rest ..)
@[simp] theorem bumpSat_mgrps (f : Fld) (i : Nat) (d : Dev) : (bumpSat f i d).mgrps = d.mgrps := rest_mgrps (bumpSat_rest ..)
@[simp] theorem bumpSat_groups (f : Fld) (i : Nat) (d : Dev) : (bumpSat f i d).groups = d.groups := rest_groups (bumpSat_rest ..)
@[simp] theorem bumpSat_drives (f : Fld) (i : Nat) (d : Dev) : (bumpSat f i d).drives = d.drives := rest_drives (bumpSat_rest ..)
@[simp] theorem bumpSat_sds (f : Fld) (i : Nat) (d : Dev) : (bumpSat f i d).sds = d.sds := rest_sds (bumpSat_rest ..)
@[simp] theorem bumpSat_riseAt (f : Fld) (i : Nat) (d : Dev) : (bumpSat f i d).riseAt = d.riseAt := rest_riseAt (bumpSat_rest ..)
@[simp] theorem bumpSat_lines (f : Fld) (i : Nat) (d : Dev) : (bumpSat f i d).lines = d.lines := rest_lines (bumpSat_rest ..)
@[simp] theorem bumpSat_fbs (f : Fld) (i : Nat) (d : Dev) : (bumpSat f i d).fbs = d.fbs := rest_fbs (bumpSat_rest ..)
@[simp] theorem bumpSat_shu (f : Fld) (i : Nat) (d : Dev) : (bumpSat f i d).shu = d.shu := rest_shu (bumpSat_rest ..)
@[simp] theorem bumpSat_hanks (f : Fld) (i : Nat) (d : Dev) : (bumpSat f i d).hanks = d.hanks := rest_hanks (bumpSat_rest ..)
@[simp] theorem bumpSat_hankSeq (f : Fld) (i : Nat) (d : Dev) : (bumpSat f i d).hankSeq = d.hankSeq := rest_hankSeq (bumpSat_rest ..)
@[simp] theorem bumpSat_weft (f : Fld) (i : Nat) (d : Dev) : (bumpSat f i d).weft = d.weft := rest_weft (bumpSat_rest ..)
@[simp] theorem bumpSat_txPrev (f : Fld) (i : Nat) (d : Dev) : (bumpSat f i d).txPrev = d.txPrev := rest_txPrev (bumpSat_rest ..)
@[simp] theorem bumpSat_eth (f : Fld) (i : Nat) (d : Dev) : (bumpSat f i d).eth = d.eth := rest_eth (bumpSat_rest ..)
@[simp] theorem bumpSat_ptp (f : Fld) (i : Nat) (d : Dev) : (bumpSat f i d).ptp = d.ptp := rest_ptp (bumpSat_rest ..)
@[simp] theorem bumpSat_cans (f : Fld) (i : Nat) (d : Dev) : (bumpSat f i d).cans = d.cans := rest_cans (bumpSat_rest ..)
@[simp] theorem bumpSat_loops (f : Fld) (i : Nat) (d : Dev) : (bumpSat f i d).loops = d.loops := rest_loops (bumpSat_rest ..)
@[simp] theorem bumpSat_store (f : Fld) (i : Nat) (d : Dev) : (bumpSat f i d).store = d.store := rest_store (bumpSat_rest ..)
@[simp] theorem bumpSat_safe (f : Fld) (i : Nat) (d : Dev) : (bumpSat f i d).safe = d.safe := rest_safe (bumpSat_rest ..)
@[simp] theorem bumpSat_pool (f : Fld) (i : Nat) (d : Dev) : (bumpSat f i d).pool = d.pool := rest_pool (bumpSat_rest ..)
@[simp] theorem bumpSat_pairx (f : Fld) (i : Nat) (d : Dev) : (bumpSat f i d).pairx = d.pairx := rest_pairx (bumpSat_rest ..)
@[simp] theorem bumpSat_txw (f : Fld) (i : Nat) (d : Dev) : (bumpSat f i d).txw = d.txw := rest_txw (bumpSat_rest ..)
@[simp] theorem bumpSat_txLate (f : Fld) (i : Nat) (d : Dev) : (bumpSat f i d).txLate = d.txLate := rest_txLate (bumpSat_rest ..)
@[simp] theorem bumpSat_txNew (f : Fld) (i : Nat) (d : Dev) : (bumpSat f i d).txNew = d.txNew := rest_txNew (bumpSat_rest ..)

/-! `maxUp` -/

@[simp] theorem maxUp_clk (f : Fld) (i v : Nat) (d : Dev) : (maxUp f i v d).clk = d.clk := rest_clk (maxUp_rest ..)
@[simp] theorem maxUp_flash (f : Fld) (i v : Nat) (d : Dev) : (maxUp f i v d).flash = d.flash := rest_flash (maxUp_rest ..)
@[simp] theorem maxUp_img (f : Fld) (i v : Nat) (d : Dev) : (maxUp f i v d).img = d.img := rest_img (maxUp_rest ..)
@[simp] theorem maxUp_next (f : Fld) (i v : Nat) (d : Dev) : (maxUp f i v d).next = d.next := rest_next (maxUp_rest ..)
@[simp] theorem maxUp_unit (f : Fld) (i v : Nat) (d : Dev) : (maxUp f i v d).unit = d.unit := rest_unit (maxUp_rest ..)
@[simp] theorem maxUp_patch (f : Fld) (i v : Nat) (d : Dev) : (maxUp f i v d).patch = d.patch := rest_patch (maxUp_rest ..)
@[simp] theorem maxUp_xchg (f : Fld) (i v : Nat) (d : Dev) : (maxUp f i v d).xchg = d.xchg := rest_xchg (maxUp_rest ..)
@[simp] theorem maxUp_switched (f : Fld) (i v : Nat) (d : Dev) : (maxUp f i v d).switched = d.switched := rest_switched (maxUp_rest ..)
@[simp] theorem maxUp_active (f : Fld) (i v : Nat) (d : Dev) : (maxUp f i v d).active = d.active := rest_active (maxUp_rest ..)
@[simp] theorem maxUp_recd (f : Fld) (i v : Nat) (d : Dev) : (maxUp f i v d).recd = d.recd := rest_recd (maxUp_rest ..)
@[simp] theorem maxUp_streams (f : Fld) (i v : Nat) (d : Dev) : (maxUp f i v d).streams = d.streams := rest_streams (maxUp_rest ..)
@[simp] theorem maxUp_meas (f : Fld) (i v : Nat) (d : Dev) : (maxUp f i v d).meas = d.meas := rest_meas (maxUp_rest ..)
@[simp] theorem maxUp_pick (f : Fld) (i v : Nat) (d : Dev) : (maxUp f i v d).pick = d.pick := rest_pick (maxUp_rest ..)
@[simp] theorem maxUp_gpioOut (f : Fld) (i v : Nat) (d : Dev) : (maxUp f i v d).gpioOut = d.gpioOut := rest_gpioOut (maxUp_rest ..)
@[simp] theorem maxUp_auxOut (f : Fld) (i v : Nat) (d : Dev) : (maxUp f i v d).auxOut = d.auxOut := rest_auxOut (maxUp_rest ..)
@[simp] theorem maxUp_out (f : Fld) (i v : Nat) (d : Dev) : (maxUp f i v d).out = d.out := rest_out (maxUp_rest ..)
@[simp] theorem maxUp_free (f : Fld) (i v : Nat) (d : Dev) : (maxUp f i v d).free = d.free := rest_free (maxUp_rest ..)
@[simp] theorem maxUp_holdReq (f : Fld) (i v : Nat) (d : Dev) : (maxUp f i v d).holdReq = d.holdReq := rest_holdReq (maxUp_rest ..)
@[simp] theorem maxUp_holdAt (f : Fld) (i v : Nat) (d : Dev) : (maxUp f i v d).holdAt = d.holdAt := rest_holdAt (maxUp_rest ..)
@[simp] theorem maxUp_lostNamed (f : Fld) (i v : Nat) (d : Dev) : (maxUp f i v d).lostNamed = d.lostNamed := rest_lostNamed (maxUp_rest ..)
@[simp] theorem maxUp_pins (f : Fld) (i v : Nat) (d : Dev) : (maxUp f i v d).pins = d.pins := rest_pins (maxUp_rest ..)
@[simp] theorem maxUp_stale (f : Fld) (i v : Nat) (d : Dev) : (maxUp f i v d).stale = d.stale := rest_stale (maxUp_rest ..)
@[simp] theorem maxUp_creel (f : Fld) (i v : Nat) (d : Dev) : (maxUp f i v d).creel = d.creel := rest_creel (maxUp_rest ..)
@[simp] theorem maxUp_plies (f : Fld) (i v : Nat) (d : Dev) : (maxUp f i v d).plies = d.plies := rest_plies (maxUp_rest ..)
@[simp] theorem maxUp_grps (f : Fld) (i v : Nat) (d : Dev) : (maxUp f i v d).grps = d.grps := rest_grps (maxUp_rest ..)
@[simp] theorem maxUp_engs (f : Fld) (i v : Nat) (d : Dev) : (maxUp f i v d).engs = d.engs := rest_engs (maxUp_rest ..)
@[simp] theorem maxUp_trcs (f : Fld) (i v : Nat) (d : Dev) : (maxUp f i v d).trcs = d.trcs := rest_trcs (maxUp_rest ..)
@[simp] theorem maxUp_axes (f : Fld) (i v : Nat) (d : Dev) : (maxUp f i v d).axes = d.axes := rest_axes (maxUp_rest ..)
@[simp] theorem maxUp_mgrps (f : Fld) (i v : Nat) (d : Dev) : (maxUp f i v d).mgrps = d.mgrps := rest_mgrps (maxUp_rest ..)
@[simp] theorem maxUp_groups (f : Fld) (i v : Nat) (d : Dev) : (maxUp f i v d).groups = d.groups := rest_groups (maxUp_rest ..)
@[simp] theorem maxUp_drives (f : Fld) (i v : Nat) (d : Dev) : (maxUp f i v d).drives = d.drives := rest_drives (maxUp_rest ..)
@[simp] theorem maxUp_sds (f : Fld) (i v : Nat) (d : Dev) : (maxUp f i v d).sds = d.sds := rest_sds (maxUp_rest ..)
@[simp] theorem maxUp_riseAt (f : Fld) (i v : Nat) (d : Dev) : (maxUp f i v d).riseAt = d.riseAt := rest_riseAt (maxUp_rest ..)
@[simp] theorem maxUp_lines (f : Fld) (i v : Nat) (d : Dev) : (maxUp f i v d).lines = d.lines := rest_lines (maxUp_rest ..)
@[simp] theorem maxUp_fbs (f : Fld) (i v : Nat) (d : Dev) : (maxUp f i v d).fbs = d.fbs := rest_fbs (maxUp_rest ..)
@[simp] theorem maxUp_shu (f : Fld) (i v : Nat) (d : Dev) : (maxUp f i v d).shu = d.shu := rest_shu (maxUp_rest ..)
@[simp] theorem maxUp_hanks (f : Fld) (i v : Nat) (d : Dev) : (maxUp f i v d).hanks = d.hanks := rest_hanks (maxUp_rest ..)
@[simp] theorem maxUp_hankSeq (f : Fld) (i v : Nat) (d : Dev) : (maxUp f i v d).hankSeq = d.hankSeq := rest_hankSeq (maxUp_rest ..)
@[simp] theorem maxUp_weft (f : Fld) (i v : Nat) (d : Dev) : (maxUp f i v d).weft = d.weft := rest_weft (maxUp_rest ..)
@[simp] theorem maxUp_txPrev (f : Fld) (i v : Nat) (d : Dev) : (maxUp f i v d).txPrev = d.txPrev := rest_txPrev (maxUp_rest ..)
@[simp] theorem maxUp_eth (f : Fld) (i v : Nat) (d : Dev) : (maxUp f i v d).eth = d.eth := rest_eth (maxUp_rest ..)
@[simp] theorem maxUp_ptp (f : Fld) (i v : Nat) (d : Dev) : (maxUp f i v d).ptp = d.ptp := rest_ptp (maxUp_rest ..)
@[simp] theorem maxUp_cans (f : Fld) (i v : Nat) (d : Dev) : (maxUp f i v d).cans = d.cans := rest_cans (maxUp_rest ..)
@[simp] theorem maxUp_loops (f : Fld) (i v : Nat) (d : Dev) : (maxUp f i v d).loops = d.loops := rest_loops (maxUp_rest ..)
@[simp] theorem maxUp_store (f : Fld) (i v : Nat) (d : Dev) : (maxUp f i v d).store = d.store := rest_store (maxUp_rest ..)
@[simp] theorem maxUp_safe (f : Fld) (i v : Nat) (d : Dev) : (maxUp f i v d).safe = d.safe := rest_safe (maxUp_rest ..)
@[simp] theorem maxUp_pool (f : Fld) (i v : Nat) (d : Dev) : (maxUp f i v d).pool = d.pool := rest_pool (maxUp_rest ..)
@[simp] theorem maxUp_pairx (f : Fld) (i v : Nat) (d : Dev) : (maxUp f i v d).pairx = d.pairx := rest_pairx (maxUp_rest ..)
@[simp] theorem maxUp_txw (f : Fld) (i v : Nat) (d : Dev) : (maxUp f i v d).txw = d.txw := rest_txw (maxUp_rest ..)
@[simp] theorem maxUp_txLate (f : Fld) (i v : Nat) (d : Dev) : (maxUp f i v d).txLate = d.txLate := rest_txLate (maxUp_rest ..)
@[simp] theorem maxUp_txNew (f : Fld) (i v : Nat) (d : Dev) : (maxUp f i v d).txNew = d.txNew := rest_txNew (maxUp_rest ..)

/-! `setStrand` -/

@[simp] theorem setStrand_clk (b k v : Nat) (d : Dev) : (setStrand b k v d).clk = d.clk := rest_clk (setStrand_rest ..)
@[simp] theorem setStrand_flash (b k v : Nat) (d : Dev) : (setStrand b k v d).flash = d.flash := rest_flash (setStrand_rest ..)
@[simp] theorem setStrand_img (b k v : Nat) (d : Dev) : (setStrand b k v d).img = d.img := rest_img (setStrand_rest ..)
@[simp] theorem setStrand_next (b k v : Nat) (d : Dev) : (setStrand b k v d).next = d.next := rest_next (setStrand_rest ..)
@[simp] theorem setStrand_unit (b k v : Nat) (d : Dev) : (setStrand b k v d).unit = d.unit := rest_unit (setStrand_rest ..)
@[simp] theorem setStrand_patch (b k v : Nat) (d : Dev) : (setStrand b k v d).patch = d.patch := rest_patch (setStrand_rest ..)
@[simp] theorem setStrand_xchg (b k v : Nat) (d : Dev) : (setStrand b k v d).xchg = d.xchg := rest_xchg (setStrand_rest ..)
@[simp] theorem setStrand_switched (b k v : Nat) (d : Dev) : (setStrand b k v d).switched = d.switched := rest_switched (setStrand_rest ..)
@[simp] theorem setStrand_active (b k v : Nat) (d : Dev) : (setStrand b k v d).active = d.active := rest_active (setStrand_rest ..)
@[simp] theorem setStrand_recd (b k v : Nat) (d : Dev) : (setStrand b k v d).recd = d.recd := rest_recd (setStrand_rest ..)
@[simp] theorem setStrand_streams (b k v : Nat) (d : Dev) : (setStrand b k v d).streams = d.streams := rest_streams (setStrand_rest ..)
@[simp] theorem setStrand_meas (b k v : Nat) (d : Dev) : (setStrand b k v d).meas = d.meas := rest_meas (setStrand_rest ..)
@[simp] theorem setStrand_pick (b k v : Nat) (d : Dev) : (setStrand b k v d).pick = d.pick := rest_pick (setStrand_rest ..)
@[simp] theorem setStrand_gpioOut (b k v : Nat) (d : Dev) : (setStrand b k v d).gpioOut = d.gpioOut := rest_gpioOut (setStrand_rest ..)
@[simp] theorem setStrand_auxOut (b k v : Nat) (d : Dev) : (setStrand b k v d).auxOut = d.auxOut := rest_auxOut (setStrand_rest ..)
@[simp] theorem setStrand_out (b k v : Nat) (d : Dev) : (setStrand b k v d).out = d.out := rest_out (setStrand_rest ..)
@[simp] theorem setStrand_free (b k v : Nat) (d : Dev) : (setStrand b k v d).free = d.free := rest_free (setStrand_rest ..)
@[simp] theorem setStrand_holdReq (b k v : Nat) (d : Dev) : (setStrand b k v d).holdReq = d.holdReq := rest_holdReq (setStrand_rest ..)
@[simp] theorem setStrand_holdAt (b k v : Nat) (d : Dev) : (setStrand b k v d).holdAt = d.holdAt := rest_holdAt (setStrand_rest ..)
@[simp] theorem setStrand_lostNamed (b k v : Nat) (d : Dev) : (setStrand b k v d).lostNamed = d.lostNamed := rest_lostNamed (setStrand_rest ..)
@[simp] theorem setStrand_pins (b k v : Nat) (d : Dev) : (setStrand b k v d).pins = d.pins := rest_pins (setStrand_rest ..)
@[simp] theorem setStrand_stale (b k v : Nat) (d : Dev) : (setStrand b k v d).stale = d.stale := rest_stale (setStrand_rest ..)
@[simp] theorem setStrand_creel (b k v : Nat) (d : Dev) : (setStrand b k v d).creel = d.creel := rest_creel (setStrand_rest ..)
@[simp] theorem setStrand_plies (b k v : Nat) (d : Dev) : (setStrand b k v d).plies = d.plies := rest_plies (setStrand_rest ..)
@[simp] theorem setStrand_grps (b k v : Nat) (d : Dev) : (setStrand b k v d).grps = d.grps := rest_grps (setStrand_rest ..)
@[simp] theorem setStrand_engs (b k v : Nat) (d : Dev) : (setStrand b k v d).engs = d.engs := rest_engs (setStrand_rest ..)
@[simp] theorem setStrand_trcs (b k v : Nat) (d : Dev) : (setStrand b k v d).trcs = d.trcs := rest_trcs (setStrand_rest ..)
@[simp] theorem setStrand_axes (b k v : Nat) (d : Dev) : (setStrand b k v d).axes = d.axes := rest_axes (setStrand_rest ..)
@[simp] theorem setStrand_mgrps (b k v : Nat) (d : Dev) : (setStrand b k v d).mgrps = d.mgrps := rest_mgrps (setStrand_rest ..)
@[simp] theorem setStrand_groups (b k v : Nat) (d : Dev) : (setStrand b k v d).groups = d.groups := rest_groups (setStrand_rest ..)
@[simp] theorem setStrand_drives (b k v : Nat) (d : Dev) : (setStrand b k v d).drives = d.drives := rest_drives (setStrand_rest ..)
@[simp] theorem setStrand_sds (b k v : Nat) (d : Dev) : (setStrand b k v d).sds = d.sds := rest_sds (setStrand_rest ..)
@[simp] theorem setStrand_riseAt (b k v : Nat) (d : Dev) : (setStrand b k v d).riseAt = d.riseAt := rest_riseAt (setStrand_rest ..)
@[simp] theorem setStrand_lines (b k v : Nat) (d : Dev) : (setStrand b k v d).lines = d.lines := rest_lines (setStrand_rest ..)
@[simp] theorem setStrand_fbs (b k v : Nat) (d : Dev) : (setStrand b k v d).fbs = d.fbs := rest_fbs (setStrand_rest ..)
@[simp] theorem setStrand_shu (b k v : Nat) (d : Dev) : (setStrand b k v d).shu = d.shu := rest_shu (setStrand_rest ..)
@[simp] theorem setStrand_hanks (b k v : Nat) (d : Dev) : (setStrand b k v d).hanks = d.hanks := rest_hanks (setStrand_rest ..)
@[simp] theorem setStrand_hankSeq (b k v : Nat) (d : Dev) : (setStrand b k v d).hankSeq = d.hankSeq := rest_hankSeq (setStrand_rest ..)
@[simp] theorem setStrand_weft (b k v : Nat) (d : Dev) : (setStrand b k v d).weft = d.weft := rest_weft (setStrand_rest ..)
@[simp] theorem setStrand_txPrev (b k v : Nat) (d : Dev) : (setStrand b k v d).txPrev = d.txPrev := rest_txPrev (setStrand_rest ..)
@[simp] theorem setStrand_eth (b k v : Nat) (d : Dev) : (setStrand b k v d).eth = d.eth := rest_eth (setStrand_rest ..)
@[simp] theorem setStrand_ptp (b k v : Nat) (d : Dev) : (setStrand b k v d).ptp = d.ptp := rest_ptp (setStrand_rest ..)
@[simp] theorem setStrand_cans (b k v : Nat) (d : Dev) : (setStrand b k v d).cans = d.cans := rest_cans (setStrand_rest ..)
@[simp] theorem setStrand_loops (b k v : Nat) (d : Dev) : (setStrand b k v d).loops = d.loops := rest_loops (setStrand_rest ..)
@[simp] theorem setStrand_store (b k v : Nat) (d : Dev) : (setStrand b k v d).store = d.store := rest_store (setStrand_rest ..)
@[simp] theorem setStrand_safe (b k v : Nat) (d : Dev) : (setStrand b k v d).safe = d.safe := rest_safe (setStrand_rest ..)
@[simp] theorem setStrand_pool (b k v : Nat) (d : Dev) : (setStrand b k v d).pool = d.pool := rest_pool (setStrand_rest ..)
@[simp] theorem setStrand_pairx (b k v : Nat) (d : Dev) : (setStrand b k v d).pairx = d.pairx := rest_pairx (setStrand_rest ..)
@[simp] theorem setStrand_txw (b k v : Nat) (d : Dev) : (setStrand b k v d).txw = d.txw := rest_txw (setStrand_rest ..)
@[simp] theorem setStrand_txLate (b k v : Nat) (d : Dev) : (setStrand b k v d).txLate = d.txLate := rest_txLate (setStrand_rest ..)
@[simp] theorem setStrand_txNew (b k v : Nat) (d : Dev) : (setStrand b k v d).txNew = d.txNew := rest_txNew (setStrand_rest ..)

/-! `raise` -/

@[simp] theorem raise_clk (c o : Nat) (d : Dev) (a : Nat) (v : Int) : (raise c o d a v).clk = d.clk := quiet_clk (raise_quiet ..)
@[simp] theorem raise_img (c o : Nat) (d : Dev) (a : Nat) (v : Int) : (raise c o d a v).img = d.img := quiet_img (raise_quiet ..)
@[simp] theorem raise_patch (c o : Nat) (d : Dev) (a : Nat) (v : Int) : (raise c o d a v).patch = d.patch := quiet_patch (raise_quiet ..)
@[simp] theorem raise_switched (c o : Nat) (d : Dev) (a : Nat) (v : Int) : (raise c o d a v).switched = d.switched := quiet_switched (raise_quiet ..)
@[simp] theorem raise_streams (c o : Nat) (d : Dev) (a : Nat) (v : Int) : (raise c o d a v).streams = d.streams := quiet_streams (raise_quiet ..)
@[simp] theorem raise_meas (c o : Nat) (d : Dev) (a : Nat) (v : Int) : (raise c o d a v).meas = d.meas := quiet_meas (raise_quiet ..)
@[simp] theorem raise_pick (c o : Nat) (d : Dev) (a : Nat) (v : Int) : (raise c o d a v).pick = d.pick := quiet_pick (raise_quiet ..)
@[simp] theorem raise_gpioOut (c o : Nat) (d : Dev) (a : Nat) (v : Int) : (raise c o d a v).gpioOut = d.gpioOut := quiet_gpioOut (raise_quiet ..)
@[simp] theorem raise_auxOut (c o : Nat) (d : Dev) (a : Nat) (v : Int) : (raise c o d a v).auxOut = d.auxOut := quiet_auxOut (raise_quiet ..)
@[simp] theorem raise_out (c o : Nat) (d : Dev) (a : Nat) (v : Int) : (raise c o d a v).out = d.out := quiet_out (raise_quiet ..)
@[simp] theorem raise_free (c o : Nat) (d : Dev) (a : Nat) (v : Int) : (raise c o d a v).free = d.free := quiet_free (raise_quiet ..)
@[simp] theorem raise_pins (c o : Nat) (d : Dev) (a : Nat) (v : Int) : (raise c o d a v).pins = d.pins := quiet_pins (raise_quiet ..)
@[simp] theorem raise_stale (c o : Nat) (d : Dev) (a : Nat) (v : Int) : (raise c o d a v).stale = d.stale := quiet_stale (raise_quiet ..)
@[simp] theorem raise_creel (c o : Nat) (d : Dev) (a : Nat) (v : Int) : (raise c o d a v).creel = d.creel := quiet_creel (raise_quiet ..)
@[simp] theorem raise_plies (c o : Nat) (d : Dev) (a : Nat) (v : Int) : (raise c o d a v).plies = d.plies := quiet_plies (raise_quiet ..)
@[simp] theorem raise_grps (c o : Nat) (d : Dev) (a : Nat) (v : Int) : (raise c o d a v).grps = d.grps := quiet_grps (raise_quiet ..)
@[simp] theorem raise_engs (c o : Nat) (d : Dev) (a : Nat) (v : Int) : (raise c o d a v).engs = d.engs := quiet_engs (raise_quiet ..)
@[simp] theorem raise_trcs (c o : Nat) (d : Dev) (a : Nat) (v : Int) : (raise c o d a v).trcs = d.trcs := quiet_trcs (raise_quiet ..)
@[simp] theorem raise_axes (c o : Nat) (d : Dev) (a : Nat) (v : Int) : (raise c o d a v).axes = d.axes := quiet_axes (raise_quiet ..)
@[simp] theorem raise_mgrps (c o : Nat) (d : Dev) (a : Nat) (v : Int) : (raise c o d a v).mgrps = d.mgrps := quiet_mgrps (raise_quiet ..)
@[simp] theorem raise_groups (c o : Nat) (d : Dev) (a : Nat) (v : Int) : (raise c o d a v).groups = d.groups := quiet_groups (raise_quiet ..)
@[simp] theorem raise_drives (c o : Nat) (d : Dev) (a : Nat) (v : Int) : (raise c o d a v).drives = d.drives := quiet_drives (raise_quiet ..)
@[simp] theorem raise_sds (c o : Nat) (d : Dev) (a : Nat) (v : Int) : (raise c o d a v).sds = d.sds := quiet_sds (raise_quiet ..)
@[simp] theorem raise_riseAt (c o : Nat) (d : Dev) (a : Nat) (v : Int) : (raise c o d a v).riseAt = d.riseAt := quiet_riseAt (raise_quiet ..)
@[simp] theorem raise_lines (c o : Nat) (d : Dev) (a : Nat) (v : Int) : (raise c o d a v).lines = d.lines := quiet_lines (raise_quiet ..)
@[simp] theorem raise_fbs (c o : Nat) (d : Dev) (a : Nat) (v : Int) : (raise c o d a v).fbs = d.fbs := quiet_fbs (raise_quiet ..)
@[simp] theorem raise_shu (c o : Nat) (d : Dev) (a : Nat) (v : Int) : (raise c o d a v).shu = d.shu := quiet_shu (raise_quiet ..)
@[simp] theorem raise_hanks (c o : Nat) (d : Dev) (a : Nat) (v : Int) : (raise c o d a v).hanks = d.hanks := quiet_hanks (raise_quiet ..)
@[simp] theorem raise_hankSeq (c o : Nat) (d : Dev) (a : Nat) (v : Int) : (raise c o d a v).hankSeq = d.hankSeq := quiet_hankSeq (raise_quiet ..)
@[simp] theorem raise_weft (c o : Nat) (d : Dev) (a : Nat) (v : Int) : (raise c o d a v).weft = d.weft := quiet_weft (raise_quiet ..)
@[simp] theorem raise_txPrev (c o : Nat) (d : Dev) (a : Nat) (v : Int) : (raise c o d a v).txPrev = d.txPrev := quiet_txPrev (raise_quiet ..)
@[simp] theorem raise_eth (c o : Nat) (d : Dev) (a : Nat) (v : Int) : (raise c o d a v).eth = d.eth := quiet_eth (raise_quiet ..)
@[simp] theorem raise_ptp (c o : Nat) (d : Dev) (a : Nat) (v : Int) : (raise c o d a v).ptp = d.ptp := quiet_ptp (raise_quiet ..)
@[simp] theorem raise_cans (c o : Nat) (d : Dev) (a : Nat) (v : Int) : (raise c o d a v).cans = d.cans := quiet_cans (raise_quiet ..)
@[simp] theorem raise_loops (c o : Nat) (d : Dev) (a : Nat) (v : Int) : (raise c o d a v).loops = d.loops := quiet_loops (raise_quiet ..)
@[simp] theorem raise_safe (c o : Nat) (d : Dev) (a : Nat) (v : Int) : (raise c o d a v).safe = d.safe := quiet_safe (raise_quiet ..)
@[simp] theorem raise_pool (c o : Nat) (d : Dev) (a : Nat) (v : Int) : (raise c o d a v).pool = d.pool := quiet_pool (raise_quiet ..)
@[simp] theorem raise_pairx (c o : Nat) (d : Dev) (a : Nat) (v : Int) : (raise c o d a v).pairx = d.pairx := quiet_pairx (raise_quiet ..)
@[simp] theorem raise_txw (c o : Nat) (d : Dev) (a : Nat) (v : Int) : (raise c o d a v).txw = d.txw := quiet_txw (raise_quiet ..)
@[simp] theorem raise_txLate (c o : Nat) (d : Dev) (a : Nat) (v : Int) : (raise c o d a v).txLate = d.txLate := quiet_txLate (raise_quiet ..)
@[simp] theorem raise_txNew (c o : Nat) (d : Dev) (a : Nat) (v : Int) : (raise c o d a v).txNew = d.txNew := quiet_txNew (raise_quiet ..)

/-! `stick` -/

@[simp] theorem stick_clk (f : Fld) (i c o : Nat) (d : Dev) (a : Nat) (v : Int) : (stick f i c o d a v).clk = d.clk := quiet_clk (stick_quiet ..)
@[simp] theorem stick_img (f : Fld) (i c o : Nat) (d : Dev) (a : Nat) (v : Int) : (stick f i c o d a v).img = d.img := quiet_img (stick_quiet ..)
@[simp] theorem stick_patch (f : Fld) (i c o : Nat) (d : Dev) (a : Nat) (v : Int) : (stick f i c o d a v).patch = d.patch := quiet_patch (stick_quiet ..)
@[simp] theorem stick_switched (f : Fld) (i c o : Nat) (d : Dev) (a : Nat) (v : Int) : (stick f i c o d a v).switched = d.switched := quiet_switched (stick_quiet ..)
@[simp] theorem stick_streams (f : Fld) (i c o : Nat) (d : Dev) (a : Nat) (v : Int) : (stick f i c o d a v).streams = d.streams := quiet_streams (stick_quiet ..)
@[simp] theorem stick_meas (f : Fld) (i c o : Nat) (d : Dev) (a : Nat) (v : Int) : (stick f i c o d a v).meas = d.meas := quiet_meas (stick_quiet ..)
@[simp] theorem stick_pick (f : Fld) (i c o : Nat) (d : Dev) (a : Nat) (v : Int) : (stick f i c o d a v).pick = d.pick := quiet_pick (stick_quiet ..)
@[simp] theorem stick_gpioOut (f : Fld) (i c o : Nat) (d : Dev) (a : Nat) (v : Int) : (stick f i c o d a v).gpioOut = d.gpioOut := quiet_gpioOut (stick_quiet ..)
@[simp] theorem stick_auxOut (f : Fld) (i c o : Nat) (d : Dev) (a : Nat) (v : Int) : (stick f i c o d a v).auxOut = d.auxOut := quiet_auxOut (stick_quiet ..)
@[simp] theorem stick_out (f : Fld) (i c o : Nat) (d : Dev) (a : Nat) (v : Int) : (stick f i c o d a v).out = d.out := quiet_out (stick_quiet ..)
@[simp] theorem stick_free (f : Fld) (i c o : Nat) (d : Dev) (a : Nat) (v : Int) : (stick f i c o d a v).free = d.free := quiet_free (stick_quiet ..)
@[simp] theorem stick_pins (f : Fld) (i c o : Nat) (d : Dev) (a : Nat) (v : Int) : (stick f i c o d a v).pins = d.pins := quiet_pins (stick_quiet ..)
@[simp] theorem stick_stale (f : Fld) (i c o : Nat) (d : Dev) (a : Nat) (v : Int) : (stick f i c o d a v).stale = d.stale := quiet_stale (stick_quiet ..)
@[simp] theorem stick_creel (f : Fld) (i c o : Nat) (d : Dev) (a : Nat) (v : Int) : (stick f i c o d a v).creel = d.creel := quiet_creel (stick_quiet ..)
@[simp] theorem stick_plies (f : Fld) (i c o : Nat) (d : Dev) (a : Nat) (v : Int) : (stick f i c o d a v).plies = d.plies := quiet_plies (stick_quiet ..)
@[simp] theorem stick_grps (f : Fld) (i c o : Nat) (d : Dev) (a : Nat) (v : Int) : (stick f i c o d a v).grps = d.grps := quiet_grps (stick_quiet ..)
@[simp] theorem stick_engs (f : Fld) (i c o : Nat) (d : Dev) (a : Nat) (v : Int) : (stick f i c o d a v).engs = d.engs := quiet_engs (stick_quiet ..)
@[simp] theorem stick_trcs (f : Fld) (i c o : Nat) (d : Dev) (a : Nat) (v : Int) : (stick f i c o d a v).trcs = d.trcs := quiet_trcs (stick_quiet ..)
@[simp] theorem stick_axes (f : Fld) (i c o : Nat) (d : Dev) (a : Nat) (v : Int) : (stick f i c o d a v).axes = d.axes := quiet_axes (stick_quiet ..)
@[simp] theorem stick_mgrps (f : Fld) (i c o : Nat) (d : Dev) (a : Nat) (v : Int) : (stick f i c o d a v).mgrps = d.mgrps := quiet_mgrps (stick_quiet ..)
@[simp] theorem stick_groups (f : Fld) (i c o : Nat) (d : Dev) (a : Nat) (v : Int) : (stick f i c o d a v).groups = d.groups := quiet_groups (stick_quiet ..)
@[simp] theorem stick_drives (f : Fld) (i c o : Nat) (d : Dev) (a : Nat) (v : Int) : (stick f i c o d a v).drives = d.drives := quiet_drives (stick_quiet ..)
@[simp] theorem stick_sds (f : Fld) (i c o : Nat) (d : Dev) (a : Nat) (v : Int) : (stick f i c o d a v).sds = d.sds := quiet_sds (stick_quiet ..)
@[simp] theorem stick_riseAt (f : Fld) (i c o : Nat) (d : Dev) (a : Nat) (v : Int) : (stick f i c o d a v).riseAt = d.riseAt := quiet_riseAt (stick_quiet ..)
@[simp] theorem stick_lines (f : Fld) (i c o : Nat) (d : Dev) (a : Nat) (v : Int) : (stick f i c o d a v).lines = d.lines := quiet_lines (stick_quiet ..)
@[simp] theorem stick_fbs (f : Fld) (i c o : Nat) (d : Dev) (a : Nat) (v : Int) : (stick f i c o d a v).fbs = d.fbs := quiet_fbs (stick_quiet ..)
@[simp] theorem stick_shu (f : Fld) (i c o : Nat) (d : Dev) (a : Nat) (v : Int) : (stick f i c o d a v).shu = d.shu := quiet_shu (stick_quiet ..)
@[simp] theorem stick_hanks (f : Fld) (i c o : Nat) (d : Dev) (a : Nat) (v : Int) : (stick f i c o d a v).hanks = d.hanks := quiet_hanks (stick_quiet ..)
@[simp] theorem stick_hankSeq (f : Fld) (i c o : Nat) (d : Dev) (a : Nat) (v : Int) : (stick f i c o d a v).hankSeq = d.hankSeq := quiet_hankSeq (stick_quiet ..)
@[simp] theorem stick_weft (f : Fld) (i c o : Nat) (d : Dev) (a : Nat) (v : Int) : (stick f i c o d a v).weft = d.weft := quiet_weft (stick_quiet ..)
@[simp] theorem stick_txPrev (f : Fld) (i c o : Nat) (d : Dev) (a : Nat) (v : Int) : (stick f i c o d a v).txPrev = d.txPrev := quiet_txPrev (stick_quiet ..)
@[simp] theorem stick_eth (f : Fld) (i c o : Nat) (d : Dev) (a : Nat) (v : Int) : (stick f i c o d a v).eth = d.eth := quiet_eth (stick_quiet ..)
@[simp] theorem stick_ptp (f : Fld) (i c o : Nat) (d : Dev) (a : Nat) (v : Int) : (stick f i c o d a v).ptp = d.ptp := quiet_ptp (stick_quiet ..)
@[simp] theorem stick_cans (f : Fld) (i c o : Nat) (d : Dev) (a : Nat) (v : Int) : (stick f i c o d a v).cans = d.cans := quiet_cans (stick_quiet ..)
@[simp] theorem stick_loops (f : Fld) (i c o : Nat) (d : Dev) (a : Nat) (v : Int) : (stick f i c o d a v).loops = d.loops := quiet_loops (stick_quiet ..)
@[simp] theorem stick_safe (f : Fld) (i c o : Nat) (d : Dev) (a : Nat) (v : Int) : (stick f i c o d a v).safe = d.safe := quiet_safe (stick_quiet ..)
@[simp] theorem stick_pool (f : Fld) (i c o : Nat) (d : Dev) (a : Nat) (v : Int) : (stick f i c o d a v).pool = d.pool := quiet_pool (stick_quiet ..)
@[simp] theorem stick_pairx (f : Fld) (i c o : Nat) (d : Dev) (a : Nat) (v : Int) : (stick f i c o d a v).pairx = d.pairx := quiet_pairx (stick_quiet ..)
@[simp] theorem stick_txw (f : Fld) (i c o : Nat) (d : Dev) (a : Nat) (v : Int) : (stick f i c o d a v).txw = d.txw := quiet_txw (stick_quiet ..)
@[simp] theorem stick_txLate (f : Fld) (i c o : Nat) (d : Dev) (a : Nat) (v : Int) : (stick f i c o d a v).txLate = d.txLate := quiet_txLate (stick_quiet ..)
@[simp] theorem stick_txNew (f : Fld) (i c o : Nat) (d : Dev) (a : Nat) (v : Int) : (stick f i c o d a v).txNew = d.txNew := quiet_txNew (stick_quiet ..)

/-! `clearFault` -/

@[simp] theorem clearFault_clk (c o : Nat) (d : Dev) : (clearFault c o d).clk = d.clk := quiet_clk (clearFault_quiet ..)
@[simp] theorem clearFault_img (c o : Nat) (d : Dev) : (clearFault c o d).img = d.img := quiet_img (clearFault_quiet ..)
@[simp] theorem clearFault_patch (c o : Nat) (d : Dev) : (clearFault c o d).patch = d.patch := quiet_patch (clearFault_quiet ..)
@[simp] theorem clearFault_switched (c o : Nat) (d : Dev) : (clearFault c o d).switched = d.switched := quiet_switched (clearFault_quiet ..)
@[simp] theorem clearFault_streams (c o : Nat) (d : Dev) : (clearFault c o d).streams = d.streams := quiet_streams (clearFault_quiet ..)
@[simp] theorem clearFault_meas (c o : Nat) (d : Dev) : (clearFault c o d).meas = d.meas := quiet_meas (clearFault_quiet ..)
@[simp] theorem clearFault_pick (c o : Nat) (d : Dev) : (clearFault c o d).pick = d.pick := quiet_pick (clearFault_quiet ..)
@[simp] theorem clearFault_gpioOut (c o : Nat) (d : Dev) : (clearFault c o d).gpioOut = d.gpioOut := quiet_gpioOut (clearFault_quiet ..)
@[simp] theorem clearFault_auxOut (c o : Nat) (d : Dev) : (clearFault c o d).auxOut = d.auxOut := quiet_auxOut (clearFault_quiet ..)
@[simp] theorem clearFault_out (c o : Nat) (d : Dev) : (clearFault c o d).out = d.out := quiet_out (clearFault_quiet ..)
@[simp] theorem clearFault_free (c o : Nat) (d : Dev) : (clearFault c o d).free = d.free := quiet_free (clearFault_quiet ..)
@[simp] theorem clearFault_pins (c o : Nat) (d : Dev) : (clearFault c o d).pins = d.pins := quiet_pins (clearFault_quiet ..)
@[simp] theorem clearFault_stale (c o : Nat) (d : Dev) : (clearFault c o d).stale = d.stale := quiet_stale (clearFault_quiet ..)
@[simp] theorem clearFault_creel (c o : Nat) (d : Dev) : (clearFault c o d).creel = d.creel := quiet_creel (clearFault_quiet ..)
@[simp] theorem clearFault_plies (c o : Nat) (d : Dev) : (clearFault c o d).plies = d.plies := quiet_plies (clearFault_quiet ..)
@[simp] theorem clearFault_grps (c o : Nat) (d : Dev) : (clearFault c o d).grps = d.grps := quiet_grps (clearFault_quiet ..)
@[simp] theorem clearFault_engs (c o : Nat) (d : Dev) : (clearFault c o d).engs = d.engs := quiet_engs (clearFault_quiet ..)
@[simp] theorem clearFault_trcs (c o : Nat) (d : Dev) : (clearFault c o d).trcs = d.trcs := quiet_trcs (clearFault_quiet ..)
@[simp] theorem clearFault_axes (c o : Nat) (d : Dev) : (clearFault c o d).axes = d.axes := quiet_axes (clearFault_quiet ..)
@[simp] theorem clearFault_mgrps (c o : Nat) (d : Dev) : (clearFault c o d).mgrps = d.mgrps := quiet_mgrps (clearFault_quiet ..)
@[simp] theorem clearFault_groups (c o : Nat) (d : Dev) : (clearFault c o d).groups = d.groups := quiet_groups (clearFault_quiet ..)
@[simp] theorem clearFault_drives (c o : Nat) (d : Dev) : (clearFault c o d).drives = d.drives := quiet_drives (clearFault_quiet ..)
@[simp] theorem clearFault_sds (c o : Nat) (d : Dev) : (clearFault c o d).sds = d.sds := quiet_sds (clearFault_quiet ..)
@[simp] theorem clearFault_riseAt (c o : Nat) (d : Dev) : (clearFault c o d).riseAt = d.riseAt := quiet_riseAt (clearFault_quiet ..)
@[simp] theorem clearFault_lines (c o : Nat) (d : Dev) : (clearFault c o d).lines = d.lines := quiet_lines (clearFault_quiet ..)
@[simp] theorem clearFault_fbs (c o : Nat) (d : Dev) : (clearFault c o d).fbs = d.fbs := quiet_fbs (clearFault_quiet ..)
@[simp] theorem clearFault_shu (c o : Nat) (d : Dev) : (clearFault c o d).shu = d.shu := quiet_shu (clearFault_quiet ..)
@[simp] theorem clearFault_hanks (c o : Nat) (d : Dev) : (clearFault c o d).hanks = d.hanks := quiet_hanks (clearFault_quiet ..)
@[simp] theorem clearFault_hankSeq (c o : Nat) (d : Dev) : (clearFault c o d).hankSeq = d.hankSeq := quiet_hankSeq (clearFault_quiet ..)
@[simp] theorem clearFault_weft (c o : Nat) (d : Dev) : (clearFault c o d).weft = d.weft := quiet_weft (clearFault_quiet ..)
@[simp] theorem clearFault_txPrev (c o : Nat) (d : Dev) : (clearFault c o d).txPrev = d.txPrev := quiet_txPrev (clearFault_quiet ..)
@[simp] theorem clearFault_eth (c o : Nat) (d : Dev) : (clearFault c o d).eth = d.eth := quiet_eth (clearFault_quiet ..)
@[simp] theorem clearFault_ptp (c o : Nat) (d : Dev) : (clearFault c o d).ptp = d.ptp := quiet_ptp (clearFault_quiet ..)
@[simp] theorem clearFault_cans (c o : Nat) (d : Dev) : (clearFault c o d).cans = d.cans := quiet_cans (clearFault_quiet ..)
@[simp] theorem clearFault_loops (c o : Nat) (d : Dev) : (clearFault c o d).loops = d.loops := quiet_loops (clearFault_quiet ..)
@[simp] theorem clearFault_safe (c o : Nat) (d : Dev) : (clearFault c o d).safe = d.safe := quiet_safe (clearFault_quiet ..)
@[simp] theorem clearFault_pool (c o : Nat) (d : Dev) : (clearFault c o d).pool = d.pool := quiet_pool (clearFault_quiet ..)
@[simp] theorem clearFault_pairx (c o : Nat) (d : Dev) : (clearFault c o d).pairx = d.pairx := quiet_pairx (clearFault_quiet ..)
@[simp] theorem clearFault_txw (c o : Nat) (d : Dev) : (clearFault c o d).txw = d.txw := quiet_txw (clearFault_quiet ..)
@[simp] theorem clearFault_txLate (c o : Nat) (d : Dev) : (clearFault c o d).txLate = d.txLate := quiet_txLate (clearFault_quiet ..)
@[simp] theorem clearFault_txNew (c o : Nat) (d : Dev) : (clearFault c o d).txNew = d.txNew := quiet_txNew (clearFault_quiet ..)

/-! `send` and `advance` -/

@[simp] theorem send_live (k : OutKind) (o : Nat) (bs : List Nat) (d : Dev) : (send k o bs d).live = d.live := rfl
@[simp] theorem send_clk (k : OutKind) (o : Nat) (bs : List Nat) (d : Dev) : (send k o bs d).clk = d.clk := rfl
@[simp] theorem send_flash (k : OutKind) (o : Nat) (bs : List Nat) (d : Dev) : (send k o bs d).flash = d.flash := rfl
@[simp] theorem send_img (k : OutKind) (o : Nat) (bs : List Nat) (d : Dev) : (send k o bs d).img = d.img := rfl
@[simp] theorem send_next (k : OutKind) (o : Nat) (bs : List Nat) (d : Dev) : (send k o bs d).next = d.next := rfl
@[simp] theorem send_unit (k : OutKind) (o : Nat) (bs : List Nat) (d : Dev) : (send k o bs d).unit = d.unit := rfl
@[simp] theorem send_patch (k : OutKind) (o : Nat) (bs : List Nat) (d : Dev) : (send k o bs d).patch = d.patch := rfl
@[simp] theorem send_xchg (k : OutKind) (o : Nat) (bs : List Nat) (d : Dev) : (send k o bs d).xchg = d.xchg := rfl
@[simp] theorem send_switched (k : OutKind) (o : Nat) (bs : List Nat) (d : Dev) : (send k o bs d).switched = d.switched := rfl
@[simp] theorem send_active (k : OutKind) (o : Nat) (bs : List Nat) (d : Dev) : (send k o bs d).active = d.active := rfl
@[simp] theorem send_recd (k : OutKind) (o : Nat) (bs : List Nat) (d : Dev) : (send k o bs d).recd = d.recd := rfl
@[simp] theorem send_streams (k : OutKind) (o : Nat) (bs : List Nat) (d : Dev) : (send k o bs d).streams = d.streams := rfl
@[simp] theorem send_meas (k : OutKind) (o : Nat) (bs : List Nat) (d : Dev) : (send k o bs d).meas = d.meas := rfl
@[simp] theorem send_pick (k : OutKind) (o : Nat) (bs : List Nat) (d : Dev) : (send k o bs d).pick = d.pick := rfl
@[simp] theorem send_gpioOut (k : OutKind) (o : Nat) (bs : List Nat) (d : Dev) : (send k o bs d).gpioOut = d.gpioOut := rfl
@[simp] theorem send_auxOut (k : OutKind) (o : Nat) (bs : List Nat) (d : Dev) : (send k o bs d).auxOut = d.auxOut := rfl
@[simp] theorem send_free (k : OutKind) (o : Nat) (bs : List Nat) (d : Dev) : (send k o bs d).free = d.free := rfl
@[simp] theorem send_holdReq (k : OutKind) (o : Nat) (bs : List Nat) (d : Dev) : (send k o bs d).holdReq = d.holdReq := rfl
@[simp] theorem send_holdAt (k : OutKind) (o : Nat) (bs : List Nat) (d : Dev) : (send k o bs d).holdAt = d.holdAt := rfl
@[simp] theorem send_lostNamed (k : OutKind) (o : Nat) (bs : List Nat) (d : Dev) : (send k o bs d).lostNamed = d.lostNamed := rfl
@[simp] theorem send_oldEdge (k : OutKind) (o : Nat) (bs : List Nat) (d : Dev) : (send k o bs d).oldEdge = d.oldEdge := rfl
@[simp] theorem send_olds (k : OutKind) (o : Nat) (bs : List Nat) (d : Dev) : (send k o bs d).olds = d.olds := rfl
@[simp] theorem send_w1cEdge (k : OutKind) (o : Nat) (bs : List Nat) (d : Dev) : (send k o bs d).w1cEdge = d.w1cEdge := rfl
@[simp] theorem send_w1cSet (k : OutKind) (o : Nat) (bs : List Nat) (d : Dev) : (send k o bs d).w1cSet = d.w1cSet := rfl
@[simp] theorem send_pins (k : OutKind) (o : Nat) (bs : List Nat) (d : Dev) : (send k o bs d).pins = d.pins := rfl
@[simp] theorem send_stale (k : OutKind) (o : Nat) (bs : List Nat) (d : Dev) : (send k o bs d).stale = d.stale := rfl
@[simp] theorem send_creel (k : OutKind) (o : Nat) (bs : List Nat) (d : Dev) : (send k o bs d).creel = d.creel := rfl
@[simp] theorem send_plies (k : OutKind) (o : Nat) (bs : List Nat) (d : Dev) : (send k o bs d).plies = d.plies := rfl
@[simp] theorem send_grps (k : OutKind) (o : Nat) (bs : List Nat) (d : Dev) : (send k o bs d).grps = d.grps := rfl
@[simp] theorem send_engs (k : OutKind) (o : Nat) (bs : List Nat) (d : Dev) : (send k o bs d).engs = d.engs := rfl
@[simp] theorem send_trcs (k : OutKind) (o : Nat) (bs : List Nat) (d : Dev) : (send k o bs d).trcs = d.trcs := rfl
@[simp] theorem send_axes (k : OutKind) (o : Nat) (bs : List Nat) (d : Dev) : (send k o bs d).axes = d.axes := rfl
@[simp] theorem send_mgrps (k : OutKind) (o : Nat) (bs : List Nat) (d : Dev) : (send k o bs d).mgrps = d.mgrps := rfl
@[simp] theorem send_groups (k : OutKind) (o : Nat) (bs : List Nat) (d : Dev) : (send k o bs d).groups = d.groups := rfl
@[simp] theorem send_drives (k : OutKind) (o : Nat) (bs : List Nat) (d : Dev) : (send k o bs d).drives = d.drives := rfl
@[simp] theorem send_sds (k : OutKind) (o : Nat) (bs : List Nat) (d : Dev) : (send k o bs d).sds = d.sds := rfl
@[simp] theorem send_riseAt (k : OutKind) (o : Nat) (bs : List Nat) (d : Dev) : (send k o bs d).riseAt = d.riseAt := rfl
@[simp] theorem send_lines (k : OutKind) (o : Nat) (bs : List Nat) (d : Dev) : (send k o bs d).lines = d.lines := rfl
@[simp] theorem send_fbs (k : OutKind) (o : Nat) (bs : List Nat) (d : Dev) : (send k o bs d).fbs = d.fbs := rfl
@[simp] theorem send_shu (k : OutKind) (o : Nat) (bs : List Nat) (d : Dev) : (send k o bs d).shu = d.shu := rfl
@[simp] theorem send_hanks (k : OutKind) (o : Nat) (bs : List Nat) (d : Dev) : (send k o bs d).hanks = d.hanks := rfl
@[simp] theorem send_hankSeq (k : OutKind) (o : Nat) (bs : List Nat) (d : Dev) : (send k o bs d).hankSeq = d.hankSeq := rfl
@[simp] theorem send_weft (k : OutKind) (o : Nat) (bs : List Nat) (d : Dev) : (send k o bs d).weft = d.weft := rfl
@[simp] theorem send_txPrev (k : OutKind) (o : Nat) (bs : List Nat) (d : Dev) : (send k o bs d).txPrev = d.txPrev := rfl
@[simp] theorem send_eth (k : OutKind) (o : Nat) (bs : List Nat) (d : Dev) : (send k o bs d).eth = d.eth := rfl
@[simp] theorem send_ptp (k : OutKind) (o : Nat) (bs : List Nat) (d : Dev) : (send k o bs d).ptp = d.ptp := rfl
@[simp] theorem send_cans (k : OutKind) (o : Nat) (bs : List Nat) (d : Dev) : (send k o bs d).cans = d.cans := rfl
@[simp] theorem send_loops (k : OutKind) (o : Nat) (bs : List Nat) (d : Dev) : (send k o bs d).loops = d.loops := rfl
@[simp] theorem send_store (k : OutKind) (o : Nat) (bs : List Nat) (d : Dev) : (send k o bs d).store = d.store := rfl
@[simp] theorem send_safe (k : OutKind) (o : Nat) (bs : List Nat) (d : Dev) : (send k o bs d).safe = d.safe := rfl
@[simp] theorem send_pool (k : OutKind) (o : Nat) (bs : List Nat) (d : Dev) : (send k o bs d).pool = d.pool := rfl
@[simp] theorem send_pairx (k : OutKind) (o : Nat) (bs : List Nat) (d : Dev) : (send k o bs d).pairx = d.pairx := rfl
@[simp] theorem send_txw (k : OutKind) (o : Nat) (bs : List Nat) (d : Dev) : (send k o bs d).txw = d.txw := rfl
@[simp] theorem send_txLate (k : OutKind) (o : Nat) (bs : List Nat) (d : Dev) : (send k o bs d).txLate = d.txLate := rfl
@[simp] theorem send_txNew (k : OutKind) (o : Nat) (bs : List Nat) (d : Dev) : (send k o bs d).txNew = d.txNew := rfl
@[simp] theorem advance_live (n : Nat) (d : Dev) : (advance n d).live = d.live := rfl
@[simp] theorem advance_flash (n : Nat) (d : Dev) : (advance n d).flash = d.flash := rfl
@[simp] theorem advance_img (n : Nat) (d : Dev) : (advance n d).img = d.img := rfl
@[simp] theorem advance_next (n : Nat) (d : Dev) : (advance n d).next = d.next := rfl
@[simp] theorem advance_unit (n : Nat) (d : Dev) : (advance n d).unit = d.unit := rfl
@[simp] theorem advance_patch (n : Nat) (d : Dev) : (advance n d).patch = d.patch := rfl
@[simp] theorem advance_xchg (n : Nat) (d : Dev) : (advance n d).xchg = d.xchg := rfl
@[simp] theorem advance_switched (n : Nat) (d : Dev) : (advance n d).switched = d.switched := rfl
@[simp] theorem advance_active (n : Nat) (d : Dev) : (advance n d).active = d.active := rfl
@[simp] theorem advance_recd (n : Nat) (d : Dev) : (advance n d).recd = d.recd := rfl
@[simp] theorem advance_streams (n : Nat) (d : Dev) : (advance n d).streams = d.streams := rfl
@[simp] theorem advance_meas (n : Nat) (d : Dev) : (advance n d).meas = d.meas := rfl
@[simp] theorem advance_pick (n : Nat) (d : Dev) : (advance n d).pick = d.pick := rfl
@[simp] theorem advance_gpioOut (n : Nat) (d : Dev) : (advance n d).gpioOut = d.gpioOut := rfl
@[simp] theorem advance_auxOut (n : Nat) (d : Dev) : (advance n d).auxOut = d.auxOut := rfl
@[simp] theorem advance_out (n : Nat) (d : Dev) : (advance n d).out = d.out := rfl
@[simp] theorem advance_free (n : Nat) (d : Dev) : (advance n d).free = d.free := rfl
@[simp] theorem advance_holdReq (n : Nat) (d : Dev) : (advance n d).holdReq = d.holdReq := rfl
@[simp] theorem advance_holdAt (n : Nat) (d : Dev) : (advance n d).holdAt = d.holdAt := rfl
@[simp] theorem advance_lostNamed (n : Nat) (d : Dev) : (advance n d).lostNamed = d.lostNamed := rfl
@[simp] theorem advance_oldEdge (n : Nat) (d : Dev) : (advance n d).oldEdge = d.oldEdge := rfl
@[simp] theorem advance_olds (n : Nat) (d : Dev) : (advance n d).olds = d.olds := rfl
@[simp] theorem advance_w1cEdge (n : Nat) (d : Dev) : (advance n d).w1cEdge = d.w1cEdge := rfl
@[simp] theorem advance_w1cSet (n : Nat) (d : Dev) : (advance n d).w1cSet = d.w1cSet := rfl
@[simp] theorem advance_pins (n : Nat) (d : Dev) : (advance n d).pins = d.pins := rfl
@[simp] theorem advance_stale (n : Nat) (d : Dev) : (advance n d).stale = d.stale := rfl
@[simp] theorem advance_creel (n : Nat) (d : Dev) : (advance n d).creel = d.creel := rfl
@[simp] theorem advance_plies (n : Nat) (d : Dev) : (advance n d).plies = d.plies := rfl
@[simp] theorem advance_grps (n : Nat) (d : Dev) : (advance n d).grps = d.grps := rfl
@[simp] theorem advance_engs (n : Nat) (d : Dev) : (advance n d).engs = d.engs := rfl
@[simp] theorem advance_trcs (n : Nat) (d : Dev) : (advance n d).trcs = d.trcs := rfl
@[simp] theorem advance_axes (n : Nat) (d : Dev) : (advance n d).axes = d.axes := rfl
@[simp] theorem advance_mgrps (n : Nat) (d : Dev) : (advance n d).mgrps = d.mgrps := rfl
@[simp] theorem advance_groups (n : Nat) (d : Dev) : (advance n d).groups = d.groups := rfl
@[simp] theorem advance_drives (n : Nat) (d : Dev) : (advance n d).drives = d.drives := rfl
@[simp] theorem advance_sds (n : Nat) (d : Dev) : (advance n d).sds = d.sds := rfl
@[simp] theorem advance_riseAt (n : Nat) (d : Dev) : (advance n d).riseAt = d.riseAt := rfl
@[simp] theorem advance_lines (n : Nat) (d : Dev) : (advance n d).lines = d.lines := rfl
@[simp] theorem advance_fbs (n : Nat) (d : Dev) : (advance n d).fbs = d.fbs := rfl
@[simp] theorem advance_shu (n : Nat) (d : Dev) : (advance n d).shu = d.shu := rfl
@[simp] theorem advance_hanks (n : Nat) (d : Dev) : (advance n d).hanks = d.hanks := rfl
@[simp] theorem advance_hankSeq (n : Nat) (d : Dev) : (advance n d).hankSeq = d.hankSeq := rfl
@[simp] theorem advance_weft (n : Nat) (d : Dev) : (advance n d).weft = d.weft := rfl
@[simp] theorem advance_txPrev (n : Nat) (d : Dev) : (advance n d).txPrev = d.txPrev := rfl
@[simp] theorem advance_eth (n : Nat) (d : Dev) : (advance n d).eth = d.eth := rfl
@[simp] theorem advance_ptp (n : Nat) (d : Dev) : (advance n d).ptp = d.ptp := rfl
@[simp] theorem advance_cans (n : Nat) (d : Dev) : (advance n d).cans = d.cans := rfl
@[simp] theorem advance_loops (n : Nat) (d : Dev) : (advance n d).loops = d.loops := rfl
@[simp] theorem advance_store (n : Nat) (d : Dev) : (advance n d).store = d.store := rfl
@[simp] theorem advance_safe (n : Nat) (d : Dev) : (advance n d).safe = d.safe := rfl
@[simp] theorem advance_pool (n : Nat) (d : Dev) : (advance n d).pool = d.pool := rfl
@[simp] theorem advance_pairx (n : Nat) (d : Dev) : (advance n d).pairx = d.pairx := rfl
@[simp] theorem advance_txw (n : Nat) (d : Dev) : (advance n d).txw = d.txw := rfl
@[simp] theorem advance_txLate (n : Nat) (d : Dev) : (advance n d).txLate = d.txLate := rfl
@[simp] theorem advance_txNew (n : Nat) (d : Dev) : (advance n d).txNew = d.txNew := rfl

@[simp] theorem send_out (k : OutKind) (o : Nat) (bs : List Nat) (d : Dev) : (send k o bs d).out = d.out ++ [⟨k, o, bs⟩] := rfl

/-- Time alone changes no register. -/
@[simp] theorem get_advance (f : Fld) (i n : Nat) (d : Dev) : get f i (advance n d) = get f i d := rfl

@[simp] theorem get_send (f : Fld) (i : Nat) (k : OutKind) (o : Nat) (bs : List Nat) (d : Dev) : get f i (send k o bs d) = get f i d := rfl

end Sys2Proof.Machine
end

