-- ==== Sys2Proof/Laws/Strands.lean ====
section
/-! SUPPORT. What updating strands can change besides them (R189, R195): the Drive block and its groups' staging, and what mirroring
an item can change (R449): the pair link and what was sent. -/

namespace Sys2Proof.Machine

theorem leVal_lt (bs : List Nat) : leVal bs < 256 ^ bs.length := by
  induction bs with
  | nil => simp [leVal]
  | cons b bs ih =>
    have h := Nat.mod_lt b (show 0 < 256 by decide)
    simp only [leVal, List.length_cons, pow_succ]; omega

/-- A one-byte field of a record is below 256. -/
theorem recU_lt (r : Rec) (f : PF) (i : Nat) (h : f.size = 1) : r.u f i < 256 := by
  unfold Rec.u
  refine lt_of_lt_of_le (leVal_lt _) ?_
  rw [show (256 : Nat) = 256 ^ 1 by rfl]
  refine Nat.pow_le_pow_right (by decide) ?_
  simp only [Rec.bytes, List.length_take, h]; omega

/-- The device without its live file, its PWM groups and the auxiliary outputs' commands. -/
def Dev.still (d : Dev) : Dev := { d.rest with groups := [], auxOut := 0 }

theorem still_of_rest {d e : Dev} (h : e.rest = d.rest) : e.still = d.still := by simp only [Dev.still, h]

/-- What updating strands keeps, live cells apart: everything but the PWM groups and the auxiliary outputs; and of the live cells those outside the Drive block. -/
def Steady (a : Nat) (d e : Dev) : Prop := e.still = d.still ∧ (a / 65536 ≠ 7 → ∀ z, e.live.get z a = d.live.get z a)

theorem Steady.rfl' {a : Nat} {d : Dev} : Steady a d d := ⟨rfl, fun _ _ => rfl⟩

theorem steady_put {a : Nat} (f : Fld) (i v : Nat) {c d : Dev} (hf : f.reg.addr i / 65536 = 7) (h : Steady a c d) : Steady a c (put f i v d) :=
  ⟨(still_of_rest (put_rest ..)).trans h.1, fun k z => (live_put_other f i v z a d (fun q => k (q ▸ hf))).trans (h.2 k z)⟩

theorem steady_setStrand {a : Nat} (i v : Nat) {c d : Dev} (hi : i < 4096) (h : Steady a c d) : Steady a c (setStrand 7 i v d) :=
  ⟨(still_of_rest (setStrand_rest ..)).trans h.1, fun k z =>
    (live_setStrand_other 7 i v z a d (fun q => k (by subst q; unfold strandAddr; omega))).trans (h.2 k z)⟩

theorem steady_groups {a : Nat} (g : Tab GroupX) {c d : Dev} (h : Steady a c d) : Steady a c { d with groups := g } := ⟨h.1, h.2⟩

theorem steady_forL {α : Type} {a : Nat} (l : List α) (f : α → Dev → Dev) (h : ∀ x c d, Steady a c d → Steady a c (f x d)) {c d : Dev}
    (g : Steady a c d) : Steady a c (forL l f d) := by
  unfold forL
  induction l generalizing d with
  | nil => exact g
  | cons x l ih => exact ih (h x c _ g)

theorem steady_auxSet {a : Nat} (j : Nat) (b : Bool) {c d : Dev} (hj : j < 256) (h : Steady a c d) : Steady a c (auxSet j b d) := by
  unfold auxSet
  extract_lets d' e
  have h' : Steady a c d' := ⟨h.1, h.2⟩
  split
  · exact h'
  · have h1 : Steady a c e := steady_put _ _ _ (by simp only [Reg.addr, DRV_AUX_STATUS_LEVEL, DRV_AUX_STATUS]; omega) h'
    split
    · exact h1
    · exact steady_setStrand _ _ (by omega) h1

theorem steady_keepPrior {a : Nat} (g k v : Nat) (b : Bool) {c d : Dev} (h : Steady a c d) : Steady a c (keepPrior g k v b d) := steady_groups _ h

theorem steady_stageCompare {a : Nat} (g k v : Nat) {c d : Dev} (hg : g < 256) (h : Steady a c d) : Steady a c (stageCompare g k v d) :=
  steady_put _ _ _ (by simp only [Reg.addr, DRV_GRP_STATUS_DSTAGED, DRV_GRP_STATUS]; omega) (steady_groups _ (steady_keepPrior _ _ _ _ h))

theorem steady_stagePeriod {a : Nat} (g p : Nat) {c d : Dev} (hg : g < 256) (h : Steady a c d) : Steady a c (stagePeriod g p d) :=
  steady_put _ _ _ (by simp only [Reg.addr, DRV_GRP_STATUS_PSTAGED, DRV_GRP_STATUS]; omega)
    (steady_put _ _ _ (by simp only [Reg.addr, DRV_GRP_PERIOD_STAGED, DRV_GRP_PERIOD]; omega)
      (steady_groups _ (steady_keepPrior _ _ _ _ h)))

theorem steady_stageFixed {a : Nat} (g : Nat) {c d : Dev} (hg : g < 256) (h : Steady a c d) : Steady a c (stageFixed g d) := by
  unfold stageFixed
  split
  · split
    · exact steady_stagePeriod _ _ hg h
    · exact h
  · exact h

theorem steady_auxFollow {a : Nat} (ids : List Nat) (r : Rec) {c d : Dev} (h : Steady a c d) : Steady a c (auxFollow ids r d) := by
  have hg : r.u P0705_GROUP < 256 := recU_lt _ _ _ rfl
  have hj : r.u P0705_OUTPUT < 256 := recU_lt _ _ _ rfl
  unfold auxFollow
  extract_lets j
  split
  · exact h
  · split
    · exact steady_stageFixed _ hg (steady_stageCompare _ _ _ hg h)
    · split
      · exact steady_auxSet _ _ hj h
      · exact h

theorem steady_periodFollow {a : Nat} (ids : List Nat) (r : Rec) {c d : Dev} (h : Steady a c d) : Steady a c (periodFollow ids r d) := by
  have hg : r.u P0703_GROUP < 256 := recU_lt _ _ _ rfl
  unfold periodFollow
  extract_lets id v k
  split
  · exact h
  · have h1 := steady_stagePeriod (a := a) (r.u P0703_GROUP) k.toNat hg h
    unfold onlyIf
    split
    · exact steady_put _ _ _ (by simp only [Reg.addr, DRV_GRP_STATUS_PERIOD_CLAMP, DRV_GRP_STATUS]; omega) h1
    · exact h1

theorem steady_touched {a : Nat} (ids : List Nat) {c d : Dev} (h : Steady a c d) : Steady a c (touched ids d) :=
  steady_forL _ _ (fun r _ _ g => steady_auxFollow ids r g) (steady_forL _ _ (fun r _ _ g => steady_periodFollow ids r g) h)

theorem forL_setStrandId_rest (vs : List (Nat × Nat)) (d : Dev) : (forL vs (fun p d => setStrandId p.1 p.2 d) d).rest = d.rest := by
  unfold forL
  induction vs generalizing d with
  | nil => rfl
  | cons p vs ih => simp only [List.foldl_cons]; rw [ih]; rfl

theorem forL_setStrandId_live (vs : List (Nat × Nat)) (d : Dev) (a z : Nat)
    (h : ∀ p ∈ vs, a ≠ strandAddr (bits p.1 12 8) (bits p.1 0 12)) :
    (forL vs (fun p d => setStrandId p.1 p.2 d) d).live.get z a = d.live.get z a := by
  unfold forL
  induction vs generalizing d with
  | nil => rfl
  | cons p vs ih =>
    simp only [List.foldl_cons]
    rw [ih _ (fun q hq => h q (List.mem_cons_of_mem _ hq))]
    exact live_setStrand_other _ _ _ _ _ _ (h p (List.mem_cons_self ..))

/-- Updating strands changes the live file and the PWM groups alone. -/
theorem putStrands_still (vs : List (Nat × Nat)) (d : Dev) : (putStrands vs d).still = d.still :=
  (steady_touched (a := 0) _ Steady.rfl').1.trans (still_of_rest (forL_setStrandId_rest ..))

/-- Outside the strands given and the Drive block every live cell stands. -/
theorem live_putStrands (vs : List (Nat × Nat)) (d : Dev) (a z : Nat) (h7 : a / 65536 ≠ 7)
    (h : ∀ p ∈ vs, a ≠ strandAddr (bits p.1 12 8) (bits p.1 0 12)) : (putStrands vs d).live.get z a = d.live.get z a :=
  ((steady_touched (a := a) _ Steady.rfl').2 h7 z).trans (forL_setStrandId_live _ _ _ _ h)

/-- A strand lies in the upper half of its block. -/
theorem strandAddr_high (b k : Nat) (hk : k < 4096) : 0x8000 ≤ strandAddr b k % 65536 := by unfold strandAddr; omega

/-- A register below the strands of its block, outside the Drive block, reads as before strands were updated. -/
theorem get_putStrands (f : Fld) (i : Nat) (vs : List (Nat × Nat)) (d : Dev) (h7 : f.reg.addr i / 65536 ≠ 7) (hlo : f.reg.addr i % 65536 < 0x8000) :
    get f i (putStrands vs d) = get f i d :=
  get_congr f i _ _ (fun z => live_putStrands vs d _ z h7 (fun p _ q => by
    have := strandAddr_high (bits p.1 12 8) (bits p.1 0 12) (bits_lt _ _ _)
    rw [← q] at this; omega))

/-! Mirroring. -/

/-- The device without the pair link and what was sent. -/
def Dev.unlinked (d : Dev) : Dev := { d with pairx := {}, out := [] }

theorem linkSend_unlinked (k : Nat) (b : List Nat) (d : Dev) : (linkSend k b d).unlinked = d.unlinked := rfl

theorem linkChunks_unlinked (n k : Nat) (b : List Nat) (d : Dev) : (linkChunks n k b d).unlinked = d.unlinked := by
  induction n generalizing b d with
  | zero => rfl
  | succ n ih =>
    unfold linkChunks
    split
    · rfl
    · rw [ih]; rfl

theorem mirror_unlinked (i x t : Nat) (b : List Nat) (d : Dev) : (mirror i x t b d).unlinked = d.unlinked := by
  unfold mirror
  split
  · rfl
  · extract_lets pad c y
    exact (linkChunks_unlinked _ _ _ _).trans rfl

end Sys2Proof.Machine
end

