-- ==== Sys2Proof/Laws/Fields.lean ====
section
/-! SUPPORT. As Sys2Proof/Laws/State.lean, for updating strands and for mirroring. -/

namespace Sys2Proof.Machine

/-! `putStrands` -/

@[simp] theorem putStrands_clk (vs : List (Nat × Nat)) (d : Dev) : (putStrands vs d).clk = d.clk :=
  show (putStrands vs d).still.clk = d.still.clk from congrArg Dev.clk (putStrands_still vs d)
@[simp] theorem putStrands_flash (vs : List (Nat × Nat)) (d : Dev) : (putStrands vs d).flash = d.flash :=
  show (putStrands vs d).still.flash = d.still.flash from congrArg Dev.flash (putStrands_still vs d)
@[simp] theorem putStrands_img (vs : List (Nat × Nat)) (d : Dev) : (putStrands vs d).img = d.img :=
  show (putStrands vs d).still.img = d.still.img from congrArg Dev.img (putStrands_still vs d)
@[simp] theorem putStrands_next (vs : List (Nat × Nat)) (d : Dev) : (putStrands vs d).next = d.next :=
  show (putStrands vs d).still.next = d.still.next from congrArg Dev.next (putStrands_still vs d)
@[simp] theorem putStrands_unit (vs : List (Nat × Nat)) (d : Dev) : (putStrands vs d).unit = d.unit :=
  show (putStrands vs d).still.unit = d.still.unit from congrArg Dev.unit (putStrands_still vs d)
@[simp] theorem putStrands_patch (vs : List (Nat × Nat)) (d : Dev) : (putStrands vs d).patch = d.patch :=
  show (putStrands vs d).still.patch = d.still.patch from congrArg Dev.patch (putStrands_still vs d)
@[simp] theorem putStrands_xchg (vs : List (Nat × Nat)) (d : Dev) : (putStrands vs d).xchg = d.xchg :=
  show (putStrands vs d).still.xchg = d.still.xchg from congrArg Dev.xchg (putStrands_still vs d)
@[simp] theorem putStrands_switched (vs : List (Nat × Nat)) (d : Dev) : (putStrands vs d).switched = d.switched :=
  show (putStrands vs d).still.switched = d.still.switched from congrArg Dev.switched (putStrands_still vs d)
@[simp] theorem putStrands_active (vs : List (Nat × Nat)) (d : Dev) : (putStrands vs d).active = d.active :=
  show (putStrands vs d).still.active = d.still.active from congrArg Dev.active (putStrands_still vs d)
@[simp] theorem putStrands_recd (vs : List (Nat × Nat)) (d : Dev) : (putStrands vs d).recd = d.recd :=
  show (putStrands vs d).still.recd = d.still.recd from congrArg Dev.recd (putStrands_still vs d)
@[simp] theorem putStrands_streams (vs : List (Nat × Nat)) (d : Dev) : (putStrands vs d).streams = d.streams :=
  show (putStrands vs d).still.streams = d.still.streams from congrArg Dev.streams (putStrands_still vs d)
@[simp] theorem putStrands_meas (vs : List (Nat × Nat)) (d : Dev) : (putStrands vs d).meas = d.meas :=
  show (putStrands vs d).still.meas = d.still.meas from congrArg Dev.meas (putStrands_still vs d)
@[simp] theorem putStrands_pick (vs : List (Nat × Nat)) (d : Dev) : (putStrands vs d).pick = d.pick :=
  show (putStrands vs d).still.pick = d.still.pick from congrArg Dev.pick (putStrands_still vs d)
@[simp] theorem putStrands_gpioOut (vs : List (Nat × Nat)) (d : Dev) : (putStrands vs d).gpioOut = d.gpioOut :=
  show (putStrands vs d).still.gpioOut = d.still.gpioOut from congrArg Dev.gpioOut (putStrands_still vs d)
@[simp] theorem putStrands_out (vs : List (Nat × Nat)) (d : Dev) : (putStrands vs d).out = d.out :=
  show (putStrands vs d).still.out = d.still.out from congrArg Dev.out (putStrands_still vs d)
@[simp] theorem putStrands_free (vs : List (Nat × Nat)) (d : Dev) : (putStrands vs d).free = d.free :=
  show (putStrands vs d).still.free = d.still.free from congrArg Dev.free (putStrands_still vs d)
@[simp] theorem putStrands_holdReq (vs : List (Nat × Nat)) (d : Dev) : (putStrands vs d).holdReq = d.holdReq :=
  show (putStrands vs d).still.holdReq = d.still.holdReq from congrArg Dev.holdReq (putStrands_still vs d)
@[simp] theorem putStrands_holdAt (vs : List (Nat × Nat)) (d : Dev) : (putStrands vs d).holdAt = d.holdAt :=
  show (putStrands vs d).still.holdAt = d.still.holdAt from congrArg Dev.holdAt (putStrands_still vs d)
@[simp] theorem putStrands_lostNamed (vs : List (Nat × Nat)) (d : Dev) : (putStrands vs d).lostNamed = d.lostNamed :=
  show (putStrands vs d).still.lostNamed = d.still.lostNamed from congrArg Dev.lostNamed (putStrands_still vs d)
@[simp] theorem putStrands_pins (vs : List (Nat × Nat)) (d : Dev) : (putStrands vs d).pins = d.pins :=
  show (putStrands vs d).still.pins = d.still.pins from congrArg Dev.pins (putStrands_still vs d)
@[simp] theorem putStrands_stale (vs : List (Nat × Nat)) (d : Dev) : (putStrands vs d).stale = d.stale :=
  show (putStrands vs d).still.stale = d.still.stale from congrArg Dev.stale (putStrands_still vs d)
@[simp] theorem putStrands_creel (vs : List (Nat × Nat)) (d : Dev) : (putStrands vs d).creel = d.creel :=
  show (putStrands vs d).still.creel = d.still.creel from congrArg Dev.creel (putStrands_still vs d)
@[simp] theorem putStrands_plies (vs : List (Nat × Nat)) (d : Dev) : (putStrands vs d).plies = d.plies :=
  show (putStrands vs d).still.plies = d.still.plies from congrArg Dev.plies (putStrands_still vs d)
@[simp] theorem putStrands_grps (vs : List (Nat × Nat)) (d : Dev) : (putStrands vs d).grps = d.grps :=
  show (putStrands vs d).still.grps = d.still.grps from congrArg Dev.grps (putStrands_still vs d)
@[simp] theorem putStrands_engs (vs : List (Nat × Nat)) (d : Dev) : (putStrands vs d).engs = d.engs :=
  show (putStrands vs d).still.engs = d.still.engs from congrArg Dev.engs (putStrands_still vs d)
@[simp] theorem putStrands_trcs (vs : List (Nat × Nat)) (d : Dev) : (putStrands vs d).trcs = d.trcs :=
  show (putStrands vs d).still.trcs = d.still.trcs from congrArg Dev.trcs (putStrands_still vs d)
@[simp] theorem putStrands_axes (vs : List (Nat × Nat)) (d : Dev) : (putStrands vs d).axes = d.axes :=
  show (putStrands vs d).still.axes = d.still.axes from congrArg Dev.axes (putStrands_still vs d)
@[simp] theorem putStrands_mgrps (vs : List (Nat × Nat)) (d : Dev) : (putStrands vs d).mgrps = d.mgrps :=
  show (putStrands vs d).still.mgrps = d.still.mgrps from congrArg Dev.mgrps (putStrands_still vs d)
@[simp] theorem putStrands_drives (vs : List (Nat × Nat)) (d : Dev) : (putStrands vs d).drives = d.drives :=
  show (putStrands vs d).still.drives = d.still.drives from congrArg Dev.drives (putStrands_still vs d)
@[simp] theorem putStrands_sds (vs : List (Nat × Nat)) (d : Dev) : (putStrands vs d).sds = d.sds :=
  show (putStrands vs d).still.sds = d.still.sds from congrArg Dev.sds (putStrands_still vs d)
@[simp] theorem putStrands_riseAt (vs : List (Nat × Nat)) (d : Dev) : (putStrands vs d).riseAt = d.riseAt :=
  show (putStrands vs d).still.riseAt = d.still.riseAt from congrArg Dev.riseAt (putStrands_still vs d)
@[simp] theorem putStrands_lines (vs : List (Nat × Nat)) (d : Dev) : (putStrands vs d).lines = d.lines :=
  show (putStrands vs d).still.lines = d.still.lines from congrArg Dev.lines (putStrands_still vs d)
@[simp] theorem putStrands_fbs (vs : List (Nat × Nat)) (d : Dev) : (putStrands vs d).fbs = d.fbs :=
  show (putStrands vs d).still.fbs = d.still.fbs from congrArg Dev.fbs (putStrands_still vs d)
@[simp] theorem putStrands_shu (vs : List (Nat × Nat)) (d : Dev) : (putStrands vs d).shu = d.shu :=
  show (putStrands vs d).still.shu = d.still.shu from congrArg Dev.shu (putStrands_still vs d)
@[simp] theorem putStrands_hanks (vs : List (Nat × Nat)) (d : Dev) : (putStrands vs d).hanks = d.hanks :=
  show (putStrands vs d).still.hanks = d.still.hanks from congrArg Dev.hanks (putStrands_still vs d)
@[simp] theorem putStrands_hankSeq (vs : List (Nat × Nat)) (d : Dev) : (putStrands vs d).hankSeq = d.hankSeq :=
  show (putStrands vs d).still.hankSeq = d.still.hankSeq from congrArg Dev.hankSeq (putStrands_still vs d)
@[simp] theorem putStrands_weft (vs : List (Nat × Nat)) (d : Dev) : (putStrands vs d).weft = d.weft :=
  show (putStrands vs d).still.weft = d.still.weft from congrArg Dev.weft (putStrands_still vs d)
@[simp] theorem putStrands_txPrev (vs : List (Nat × Nat)) (d : Dev) : (putStrands vs d).txPrev = d.txPrev :=
  show (putStrands vs d).still.txPrev = d.still.txPrev from congrArg Dev.txPrev (putStrands_still vs d)
@[simp] theorem putStrands_eth (vs : List (Nat × Nat)) (d : Dev) : (putStrands vs d).eth = d.eth :=
  show (putStrands vs d).still.eth = d.still.eth from congrArg Dev.eth (putStrands_still vs d)
@[simp] theorem putStrands_ptp (vs : List (Nat × Nat)) (d : Dev) : (putStrands vs d).ptp = d.ptp :=
  show (putStrands vs d).still.ptp = d.still.ptp from congrArg Dev.ptp (putStrands_still vs d)
@[simp] theorem putStrands_cans (vs : List (Nat × Nat)) (d : Dev) : (putStrands vs d).cans = d.cans :=
  show (putStrands vs d).still.cans = d.still.cans from congrArg Dev.cans (putStrands_still vs d)
@[simp] theorem putStrands_loops (vs : List (Nat × Nat)) (d : Dev) : (putStrands vs d).loops = d.loops :=
  show (putStrands vs d).still.loops = d.still.loops from congrArg Dev.loops (putStrands_still vs d)
@[simp] theorem putStrands_store (vs : List (Nat × Nat)) (d : Dev) : (putStrands vs d).store = d.store :=
  show (putStrands vs d).still.store = d.still.store from congrArg Dev.store (putStrands_still vs d)
@[simp] theorem putStrands_safe (vs : List (Nat × Nat)) (d : Dev) : (putStrands vs d).safe = d.safe :=
  show (putStrands vs d).still.safe = d.still.safe from congrArg Dev.safe (putStrands_still vs d)
@[simp] theorem putStrands_pool (vs : List (Nat × Nat)) (d : Dev) : (putStrands vs d).pool = d.pool :=
  show (putStrands vs d).still.pool = d.still.pool from congrArg Dev.pool (putStrands_still vs d)
@[simp] theorem putStrands_pairx (vs : List (Nat × Nat)) (d : Dev) : (putStrands vs d).pairx = d.pairx :=
  show (putStrands vs d).still.pairx = d.still.pairx from congrArg Dev.pairx (putStrands_still vs d)
@[simp] theorem putStrands_txw (vs : List (Nat × Nat)) (d : Dev) : (putStrands vs d).txw = d.txw :=
  show (putStrands vs d).still.txw = d.still.txw from congrArg Dev.txw (putStrands_still vs d)
@[simp] theorem putStrands_txLate (vs : List (Nat × Nat)) (d : Dev) : (putStrands vs d).txLate = d.txLate :=
  show (putStrands vs d).still.txLate = d.still.txLate from congrArg Dev.txLate (putStrands_still vs d)
@[simp] theorem putStrands_txNew (vs : List (Nat × Nat)) (d : Dev) : (putStrands vs d).txNew = d.txNew :=
  show (putStrands vs d).still.txNew = d.still.txNew from congrArg Dev.txNew (putStrands_still vs d)

/-! `putStrandsS` -/

@[simp] theorem putStrandsS_clk (vs : List (Nat × Int)) (d : Dev) : (putStrandsS vs d).clk = d.clk :=
  show (putStrandsS vs d).still.clk = d.still.clk from congrArg Dev.clk (putStrands_still _ d)
@[simp] theorem putStrandsS_flash (vs : List (Nat × Int)) (d : Dev) : (putStrandsS vs d).flash = d.flash :=
  show (putStrandsS vs d).still.flash = d.still.flash from congrArg Dev.flash (putStrands_still _ d)
@[simp] theorem putStrandsS_img (vs : List (Nat × Int)) (d : Dev) : (putStrandsS vs d).img = d.img :=
  show (putStrandsS vs d).still.img = d.still.img from congrArg Dev.img (putStrands_still _ d)
@[simp] theorem putStrandsS_next (vs : List (Nat × Int)) (d : Dev) : (putStrandsS vs d).next = d.next :=
  show (putStrandsS vs d).still.next = d.still.next from congrArg Dev.next (putStrands_still _ d)
@[simp] theorem putStrandsS_unit (vs : List (Nat × Int)) (d : Dev) : (putStrandsS vs d).unit = d.unit :=
  show (putStrandsS vs d).still.unit = d.still.unit from congrArg Dev.unit (putStrands_still _ d)
@[simp] theorem putStrandsS_patch (vs : List (Nat × Int)) (d : Dev) : (putStrandsS vs d).patch = d.patch :=
  show (putStrandsS vs d).still.patch = d.still.patch from congrArg Dev.patch (putStrands_still _ d)
@[simp] theorem putStrandsS_xchg (vs : List (Nat × Int)) (d : Dev) : (putStrandsS vs d).xchg = d.xchg :=
  show (putStrandsS vs d).still.xchg = d.still.xchg from congrArg Dev.xchg (putStrands_still _ d)
@[simp] theorem putStrandsS_switched (vs : List (Nat × Int)) (d : Dev) : (putStrandsS vs d).switched = d.switched :=
  show (putStrandsS vs d).still.switched = d.still.switched from congrArg Dev.switched (putStrands_still _ d)
@[simp] theorem putStrandsS_active (vs : List (Nat × Int)) (d : Dev) : (putStrandsS vs d).active = d.active :=
  show (putStrandsS vs d).still.active = d.still.active from congrArg Dev.active (putStrands_still _ d)
@[simp] theorem putStrandsS_recd (vs : List (Nat × Int)) (d : Dev) : (putStrandsS vs d).recd = d.recd :=
  show (putStrandsS vs d).still.recd = d.still.recd from congrArg Dev.recd (putStrands_still _ d)
@[simp] theorem putStrandsS_streams (vs : List (Nat × Int)) (d : Dev) : (putStrandsS vs d).streams = d.streams :=
  show (putStrandsS vs d).still.streams = d.still.streams from congrArg Dev.streams (putStrands_still _ d)
@[simp] theorem putStrandsS_meas (vs : List (Nat × Int)) (d : Dev) : (putStrandsS vs d).meas = d.meas :=
  show (putStrandsS vs d).still.meas = d.still.meas from congrArg Dev.meas (putStrands_still _ d)
@[simp] theorem putStrandsS_pick (vs : List (Nat × Int)) (d : Dev) : (putStrandsS vs d).pick = d.pick :=
  show (putStrandsS vs d).still.pick = d.still.pick from congrArg Dev.pick (putStrands_still _ d)
@[simp] theorem putStrandsS_gpioOut (vs : List (Nat × Int)) (d : Dev) : (putStrandsS vs d).gpioOut = d.gpioOut :=
  show (putStrandsS vs d).still.gpioOut = d.still.gpioOut from congrArg Dev.gpioOut (putStrands_still _ d)
@[simp] theorem putStrandsS_out (vs : List (Nat × Int)) (d : Dev) : (putStrandsS vs d).out = d.out :=
  show (putStrandsS vs d).still.out = d.still.out from congrArg Dev.out (putStrands_still _ d)
@[simp] theorem putStrandsS_free (vs : List (Nat × Int)) (d : Dev) : (putStrandsS vs d).free = d.free :=
  show (putStrandsS vs d).still.free = d.still.free from congrArg Dev.free (putStrands_still _ d)
@[simp] theorem putStrandsS_holdReq (vs : List (Nat × Int)) (d : Dev) : (putStrandsS vs d).holdReq = d.holdReq :=
  show (putStrandsS vs d).still.holdReq = d.still.holdReq from congrArg Dev.holdReq (putStrands_still _ d)
@[simp] theorem putStrandsS_holdAt (vs : List (Nat × Int)) (d : Dev) : (putStrandsS vs d).holdAt = d.holdAt :=
  show (putStrandsS vs d).still.holdAt = d.still.holdAt from congrArg Dev.holdAt (putStrands_still _ d)
@[simp] theorem putStrandsS_lostNamed (vs : List (Nat × Int)) (d : Dev) : (putStrandsS vs d).lostNamed = d.lostNamed :=
  show (putStrandsS vs d).still.lostNamed = d.still.lostNamed from congrArg Dev.lostNamed (putStrands_still _ d)
@[simp] theorem putStrandsS_pins (vs : List (Nat × Int)) (d : Dev) : (putStrandsS vs d).pins = d.pins :=
  show (putStrandsS vs d).still.pins = d.still.pins from congrArg Dev.pins (putStrands_still _ d)
@[simp] theorem putStrandsS_stale (vs : List (Nat × Int)) (d : Dev) : (putStrandsS vs d).stale = d.stale :=
  show (putStrandsS vs d).still.stale = d.still.stale from congrArg Dev.stale (putStrands_still _ d)
@[simp] theorem putStrandsS_creel (vs : List (Nat × Int)) (d : Dev) : (putStrandsS vs d).creel = d.creel :=
  show (putStrandsS vs d).still.creel = d.still.creel from congrArg Dev.creel (putStrands_still _ d)
@[simp] theorem putStrandsS_plies (vs : List (Nat × Int)) (d : Dev) : (putStrandsS vs d).plies = d.plies :=
  show (putStrandsS vs d).still.plies = d.still.plies from congrArg Dev.plies (putStrands_still _ d)
@[simp] theorem putStrandsS_grps (vs : List (Nat × Int)) (d : Dev) : (putStrandsS vs d).grps = d.grps :=
  show (putStrandsS vs d).still.grps = d.still.grps from congrArg Dev.grps (putStrands_still _ d)
@[simp] theorem putStrandsS_engs (vs : List (Nat × Int)) (d : Dev) : (putStrandsS vs d).engs = d.engs :=
  show (putStrandsS vs d).still.engs = d.still.engs from congrArg Dev.engs (putStrands_still _ d)
@[simp] theorem putStrandsS_trcs (vs : List (Nat × Int)) (d : Dev) : (putStrandsS vs d).trcs = d.trcs :=
  show (putStrandsS vs d).still.trcs = d.still.trcs from congrArg Dev.trcs (putStrands_still _ d)
@[simp] theorem putStrandsS_axes (vs : List (Nat × Int)) (d : Dev) : (putStrandsS vs d).axes = d.axes :=
  show (putStrandsS vs d).still.axes = d.still.axes from congrArg Dev.axes (putStrands_still _ d)
@[simp] theorem putStrandsS_mgrps (vs : List (Nat × Int)) (d : Dev) : (putStrandsS vs d).mgrps = d.mgrps :=
  show (putStrandsS vs d).still.mgrps = d.still.mgrps from congrArg Dev.mgrps (putStrands_still _ d)
@[simp] theorem putStrandsS_drives (vs : List (Nat × Int)) (d : Dev) : (putStrandsS vs d).drives = d.drives :=
  show (putStrandsS vs d).still.drives = d.still.drives from congrArg Dev.drives (putStrands_still _ d)
@[simp] theorem putStrandsS_sds (vs : List (Nat × Int)) (d : Dev) : (putStrandsS vs d).sds = d.sds :=
  show (putStrandsS vs d).still.sds = d.still.sds from congrArg Dev.sds (putStrands_still _ d)
@[simp] theorem putStrandsS_riseAt (vs : List (Nat × Int)) (d : Dev) : (putStrandsS vs d).riseAt = d.riseAt :=
  show (putStrandsS vs d).still.riseAt = d.still.riseAt from congrArg Dev.riseAt (putStrands_still _ d)
@[simp] theorem putStrandsS_lines (vs : List (Nat × Int)) (d : Dev) : (putStrandsS vs d).lines = d.lines :=
  show (putStrandsS vs d).still.lines = d.still.lines from congrArg Dev.lines (putStrands_still _ d)
@[simp] theorem putStrandsS_fbs (vs : List (Nat × Int)) (d : Dev) : (putStrandsS vs d).fbs = d.fbs :=
  show (putStrandsS vs d).still.fbs = d.still.fbs from congrArg Dev.fbs (putStrands_still _ d)
@[simp] theorem putStrandsS_shu (vs : List (Nat × Int)) (d : Dev) : (putStrandsS vs d).shu = d.shu :=
  show (putStrandsS vs d).still.shu = d.still.shu from congrArg Dev.shu (putStrands_still _ d)
@[simp] theorem putStrandsS_hanks (vs : List (Nat × Int)) (d : Dev) : (putStrandsS vs d).hanks = d.hanks :=
  show (putStrandsS vs d).still.hanks = d.still.hanks from congrArg Dev.hanks (putStrands_still _ d)
@[simp] theorem putStrandsS_hankSeq (vs : List (Nat × Int)) (d : Dev) : (putStrandsS vs d).hankSeq = d.hankSeq :=
  show (putStrandsS vs d).still.hankSeq = d.still.hankSeq from congrArg Dev.hankSeq (putStrands_still _ d)
@[simp] theorem putStrandsS_weft (vs : List (Nat × Int)) (d : Dev) : (putStrandsS vs d).weft = d.weft :=
  show (putStrandsS vs d).still.weft = d.still.weft from congrArg Dev.weft (putStrands_still _ d)
@[simp] theorem putStrandsS_txPrev (vs : List (Nat × Int)) (d : Dev) : (putStrandsS vs d).txPrev = d.txPrev :=
  show (putStrandsS vs d).still.txPrev = d.still.txPrev from congrArg Dev.txPrev (putStrands_still _ d)
@[simp] theorem putStrandsS_eth (vs : List (Nat × Int)) (d : Dev) : (putStrandsS vs d).eth = d.eth :=
  show (putStrandsS vs d).still.eth = d.still.eth from congrArg Dev.eth (putStrands_still _ d)
@[simp] theorem putStrandsS_ptp (vs : List (Nat × Int)) (d : Dev) : (putStrandsS vs d).ptp = d.ptp :=
  show (putStrandsS vs d).still.ptp = d.still.ptp from congrArg Dev.ptp (putStrands_still _ d)
@[simp] theorem putStrandsS_cans (vs : List (Nat × Int)) (d : Dev) : (putStrandsS vs d).cans = d.cans :=
  show (putStrandsS vs d).still.cans = d.still.cans from congrArg Dev.cans (putStrands_still _ d)
@[simp] theorem putStrandsS_loops (vs : List (Nat × Int)) (d : Dev) : (putStrandsS vs d).loops = d.loops :=
  show (putStrandsS vs d).still.loops = d.still.loops from congrArg Dev.loops (putStrands_still _ d)
@[simp] theorem putStrandsS_store (vs : List (Nat × Int)) (d : Dev) : (putStrandsS vs d).store = d.store :=
  show (putStrandsS vs d).still.store = d.still.store from congrArg Dev.store (putStrands_still _ d)
@[simp] theorem putStrandsS_safe (vs : List (Nat × Int)) (d : Dev) : (putStrandsS vs d).safe = d.safe :=
  show (putStrandsS vs d).still.safe = d.still.safe from congrArg Dev.safe (putStrands_still _ d)
@[simp] theorem putStrandsS_pool (vs : List (Nat × Int)) (d : Dev) : (putStrandsS vs d).pool = d.pool :=
  show (putStrandsS vs d).still.pool = d.still.pool from congrArg Dev.pool (putStrands_still _ d)
@[simp] theorem putStrandsS_pairx (vs : List (Nat × Int)) (d : Dev) : (putStrandsS vs d).pairx = d.pairx :=
  show (putStrandsS vs d).still.pairx = d.still.pairx from congrArg Dev.pairx (putStrands_still _ d)
@[simp] theorem putStrandsS_txw (vs : List (Nat × Int)) (d : Dev) : (putStrandsS vs d).txw = d.txw :=
  show (putStrandsS vs d).still.txw = d.still.txw from congrArg Dev.txw (putStrands_still _ d)
@[simp] theorem putStrandsS_txLate (vs : List (Nat × Int)) (d : Dev) : (putStrandsS vs d).txLate = d.txLate :=
  show (putStrandsS vs d).still.txLate = d.still.txLate from congrArg Dev.txLate (putStrands_still _ d)
@[simp] theorem putStrandsS_txNew (vs : List (Nat × Int)) (d : Dev) : (putStrandsS vs d).txNew = d.txNew :=
  show (putStrandsS vs d).still.txNew = d.still.txNew from congrArg Dev.txNew (putStrands_still _ d)

/-! `mirror` -/

@[simp] theorem mirror_live (i x t : Nat) (b : List Nat) (d : Dev) : (mirror i x t b d).live = d.live :=
  show (mirror i x t b d).unlinked.live = d.unlinked.live from congrArg Dev.live (mirror_unlinked i x t b d)
@[simp] theorem mirror_clk (i x t : Nat) (b : List Nat) (d : Dev) : (mirror i x t b d).clk = d.clk :=
  show (mirror i x t b d).unlinked.clk = d.unlinked.clk from congrArg Dev.clk (mirror_unlinked i x t b d)
@[simp] theorem mirror_flash (i x t : Nat) (b : List Nat) (d : Dev) : (mirror i x t b d).flash = d.flash :=
  show (mirror i x t b d).unlinked.flash = d.unlinked.flash from congrArg Dev.flash (mirror_unlinked i x t b d)
@[simp] theorem mirror_img (i x t : Nat) (b : List Nat) (d : Dev) : (mirror i x t b d).img = d.img :=
  show (mirror i x t b d).unlinked.img = d.unlinked.img from congrArg Dev.img (mirror_unlinked i x t b d)
@[simp] theorem mirror_next (i x t : Nat) (b : List Nat) (d : Dev) : (mirror i x t b d).next = d.next :=
  show (mirror i x t b d).unlinked.next = d.unlinked.next from congrArg Dev.next (mirror_unlinked i x t b d)
@[simp] theorem mirror_unit (i x t : Nat) (b : List Nat) (d : Dev) : (mirror i x t b d).unit = d.unit :=
  show (mirror i x t b d).unlinked.unit = d.unlinked.unit from congrArg Dev.unit (mirror_unlinked i x t b d)
@[simp] theorem mirror_patch (i x t : Nat) (b : List Nat) (d : Dev) : (mirror i x t b d).patch = d.patch :=
  show (mirror i x t b d).unlinked.patch = d.unlinked.patch from congrArg Dev.patch (mirror_unlinked i x t b d)
@[simp] theorem mirror_xchg (i x t : Nat) (b : List Nat) (d : Dev) : (mirror i x t b d).xchg = d.xchg :=
  show (mirror i x t b d).unlinked.xchg = d.unlinked.xchg from congrArg Dev.xchg (mirror_unlinked i x t b d)
@[simp] theorem mirror_switched (i x t : Nat) (b : List Nat) (d : Dev) : (mirror i x t b d).switched = d.switched :=
  show (mirror i x t b d).unlinked.switched = d.unlinked.switched from congrArg Dev.switched (mirror_unlinked i x t b d)
@[simp] theorem mirror_active (i x t : Nat) (b : List Nat) (d : Dev) : (mirror i x t b d).active = d.active :=
  show (mirror i x t b d).unlinked.active = d.unlinked.active from congrArg Dev.active (mirror_unlinked i x t b d)
@[simp] theorem mirror_recd (i x t : Nat) (b : List Nat) (d : Dev) : (mirror i x t b d).recd = d.recd :=
  show (mirror i x t b d).unlinked.recd = d.unlinked.recd from congrArg Dev.recd (mirror_unlinked i x t b d)
@[simp] theorem mirror_streams (i x t : Nat) (b : List Nat) (d : Dev) : (mirror i x t b d).streams = d.streams :=
  show (mirror i x t b d).unlinked.streams = d.unlinked.streams from congrArg Dev.streams (mirror_unlinked i x t b d)
@[simp] theorem mirror_meas (i x t : Nat) (b : List Nat) (d : Dev) : (mirror i x t b d).meas = d.meas :=
  show (mirror i x t b d).unlinked.meas = d.unlinked.meas from congrArg Dev.meas (mirror_unlinked i x t b d)
@[simp] theorem mirror_pick (i x t : Nat) (b : List Nat) (d : Dev) : (mirror i x t b d).pick = d.pick :=
  show (mirror i x t b d).unlinked.pick = d.unlinked.pick from congrArg Dev.pick (mirror_unlinked i x t b d)
@[simp] theorem mirror_gpioOut (i x t : Nat) (b : List Nat) (d : Dev) : (mirror i x t b d).gpioOut = d.gpioOut :=
  show (mirror i x t b d).unlinked.gpioOut = d.unlinked.gpioOut from congrArg Dev.gpioOut (mirror_unlinked i x t b d)
@[simp] theorem mirror_auxOut (i x t : Nat) (b : List Nat) (d : Dev) : (mirror i x t b d).auxOut = d.auxOut :=
  show (mirror i x t b d).unlinked.auxOut = d.unlinked.auxOut from congrArg Dev.auxOut (mirror_unlinked i x t b d)
@[simp] theorem mirror_free (i x t : Nat) (b : List Nat) (d : Dev) : (mirror i x t b d).free = d.free :=
  show (mirror i x t b d).unlinked.free = d.unlinked.free from congrArg Dev.free (mirror_unlinked i x t b d)
@[simp] theorem mirror_holdReq (i x t : Nat) (b : List Nat) (d : Dev) : (mirror i x t b d).holdReq = d.holdReq :=
  show (mirror i x t b d).unlinked.holdReq = d.unlinked.holdReq from congrArg Dev.holdReq (mirror_unlinked i x t b d)
@[simp] theorem mirror_holdAt (i x t : Nat) (b : List Nat) (d : Dev) : (mirror i x t b d).holdAt = d.holdAt :=
  show (mirror i x t b d).unlinked.holdAt = d.unlinked.holdAt from congrArg Dev.holdAt (mirror_unlinked i x t b d)
@[simp] theorem mirror_lostNamed (i x t : Nat) (b : List Nat) (d : Dev) : (mirror i x t b d).lostNamed = d.lostNamed :=
  show (mirror i x t b d).unlinked.lostNamed = d.unlinked.lostNamed from congrArg Dev.lostNamed (mirror_unlinked i x t b d)
@[simp] theorem mirror_oldEdge (i x t : Nat) (b : List Nat) (d : Dev) : (mirror i x t b d).oldEdge = d.oldEdge :=
  show (mirror i x t b d).unlinked.oldEdge = d.unlinked.oldEdge from congrArg Dev.oldEdge (mirror_unlinked i x t b d)
@[simp] theorem mirror_olds (i x t : Nat) (b : List Nat) (d : Dev) : (mirror i x t b d).olds = d.olds :=
  show (mirror i x t b d).unlinked.olds = d.unlinked.olds from congrArg Dev.olds (mirror_unlinked i x t b d)
@[simp] theorem mirror_w1cEdge (i x t : Nat) (b : List Nat) (d : Dev) : (mirror i x t b d).w1cEdge = d.w1cEdge :=
  show (mirror i x t b d).unlinked.w1cEdge = d.unlinked.w1cEdge from congrArg Dev.w1cEdge (mirror_unlinked i x t b d)
@[simp] theorem mirror_w1cSet (i x t : Nat) (b : List Nat) (d : Dev) : (mirror i x t b d).w1cSet = d.w1cSet :=
  show (mirror i x t b d).unlinked.w1cSet = d.unlinked.w1cSet from congrArg Dev.w1cSet (mirror_unlinked i x t b d)
@[simp] theorem mirror_pins (i x t : Nat) (b : List Nat) (d : Dev) : (mirror i x t b d).pins = d.pins :=
  show (mirror i x t b d).unlinked.pins = d.unlinked.pins from congrArg Dev.pins (mirror_unlinked i x t b d)
@[simp] theorem mirror_stale (i x t : Nat) (b : List Nat) (d : Dev) : (mirror i x t b d).stale = d.stale :=
  show (mirror i x t b d).unlinked.stale = d.unlinked.stale from congrArg Dev.stale (mirror_unlinked i x t b d)
@[simp] theorem mirror_creel (i x t : Nat) (b : List Nat) (d : Dev) : (mirror i x t b d).creel = d.creel :=
  show (mirror i x t b d).unlinked.creel = d.unlinked.creel from congrArg Dev.creel (mirror_unlinked i x t b d)
@[simp] theorem mirror_plies (i x t : Nat) (b : List Nat) (d : Dev) : (mirror i x t b d).plies = d.plies :=
  show (mirror i x t b d).unlinked.plies = d.unlinked.plies from congrArg Dev.plies (mirror_unlinked i x t b d)
@[simp] theorem mirror_grps (i x t : Nat) (b : List Nat) (d : Dev) : (mirror i x t b d).grps = d.grps :=
  show (mirror i x t b d).unlinked.grps = d.unlinked.grps from congrArg Dev.grps (mirror_unlinked i x t b d)
@[simp] theorem mirror_engs (i x t : Nat) (b : List Nat) (d : Dev) : (mirror i x t b d).engs = d.engs :=
  show (mirror i x t b d).unlinked.engs = d.unlinked.engs from congrArg Dev.engs (mirror_unlinked i x t b d)
@[simp] theorem mirror_trcs (i x t : Nat) (b : List Nat) (d : Dev) : (mirror i x t b d).trcs = d.trcs :=
  show (mirror i x t b d).unlinked.trcs = d.unlinked.trcs from congrArg Dev.trcs (mirror_unlinked i x t b d)
@[simp] theorem mirror_axes (i x t : Nat) (b : List Nat) (d : Dev) : (mirror i x t b d).axes = d.axes :=
  show (mirror i x t b d).unlinked.axes = d.unlinked.axes from congrArg Dev.axes (mirror_unlinked i x t b d)
@[simp] theorem mirror_mgrps (i x t : Nat) (b : List Nat) (d : Dev) : (mirror i x t b d).mgrps = d.mgrps :=
  show (mirror i x t b d).unlinked.mgrps = d.unlinked.mgrps from congrArg Dev.mgrps (mirror_unlinked i x t b d)
@[simp] theorem mirror_groups (i x t : Nat) (b : List Nat) (d : Dev) : (mirror i x t b d).groups = d.groups :=
  show (mirror i x t b d).unlinked.groups = d.unlinked.groups from congrArg Dev.groups (mirror_unlinked i x t b d)
@[simp] theorem mirror_drives (i x t : Nat) (b : List Nat) (d : Dev) : (mirror i x t b d).drives = d.drives :=
  show (mirror i x t b d).unlinked.drives = d.unlinked.drives from congrArg Dev.drives (mirror_unlinked i x t b d)
@[simp] theorem mirror_sds (i x t : Nat) (b : List Nat) (d : Dev) : (mirror i x t b d).sds = d.sds :=
  show (mirror i x t b d).unlinked.sds = d.unlinked.sds from congrArg Dev.sds (mirror_unlinked i x t b d)
@[simp] theorem mirror_riseAt (i x t : Nat) (b : List Nat) (d : Dev) : (mirror i x t b d).riseAt = d.riseAt :=
  show (mirror i x t b d).unlinked.riseAt = d.unlinked.riseAt from congrArg Dev.riseAt (mirror_unlinked i x t b d)
@[simp] theorem mirror_lines (i x t : Nat) (b : List Nat) (d : Dev) : (mirror i x t b d).lines = d.lines :=
  show (mirror i x t b d).unlinked.lines = d.unlinked.lines from congrArg Dev.lines (mirror_unlinked i x t b d)
@[simp] theorem mirror_fbs (i x t : Nat) (b : List Nat) (d : Dev) : (mirror i x t b d).fbs = d.fbs :=
  show (mirror i x t b d).unlinked.fbs = d.unlinked.fbs from congrArg Dev.fbs (mirror_unlinked i x t b d)
@[simp] theorem mirror_shu (i x t : Nat) (b : List Nat) (d : Dev) : (mirror i x t b d).shu = d.shu :=
  show (mirror i x t b d).unlinked.shu = d.unlinked.shu from congrArg Dev.shu (mirror_unlinked i x t b d)
@[simp] theorem mirror_hanks (i x t : Nat) (b : List Nat) (d : Dev) : (mirror i x t b d).hanks = d.hanks :=
  show (mirror i x t b d).unlinked.hanks = d.unlinked.hanks from congrArg Dev.hanks (mirror_unlinked i x t b d)
@[simp] theorem mirror_hankSeq (i x t : Nat) (b : List Nat) (d : Dev) : (mirror i x t b d).hankSeq = d.hankSeq :=
  show (mirror i x t b d).unlinked.hankSeq = d.unlinked.hankSeq from congrArg Dev.hankSeq (mirror_unlinked i x t b d)
@[simp] theorem mirror_weft (i x t : Nat) (b : List Nat) (d : Dev) : (mirror i x t b d).weft = d.weft :=
  show (mirror i x t b d).unlinked.weft = d.unlinked.weft from congrArg Dev.weft (mirror_unlinked i x t b d)
@[simp] theorem mirror_txPrev (i x t : Nat) (b : List Nat) (d : Dev) : (mirror i x t b d).txPrev = d.txPrev :=
  show (mirror i x t b d).unlinked.txPrev = d.unlinked.txPrev from congrArg Dev.txPrev (mirror_unlinked i x t b d)
@[simp] theorem mirror_eth (i x t : Nat) (b : List Nat) (d : Dev) : (mirror i x t b d).eth = d.eth :=
  show (mirror i x t b d).unlinked.eth = d.unlinked.eth from congrArg Dev.eth (mirror_unlinked i x t b d)
@[simp] theorem mirror_ptp (i x t : Nat) (b : List Nat) (d : Dev) : (mirror i x t b d).ptp = d.ptp :=
  show (mirror i x t b d).unlinked.ptp = d.unlinked.ptp from congrArg Dev.ptp (mirror_unlinked i x t b d)
@[simp] theorem mirror_cans (i x t : Nat) (b : List Nat) (d : Dev) : (mirror i x t b d).cans = d.cans :=
  show (mirror i x t b d).unlinked.cans = d.unlinked.cans from congrArg Dev.cans (mirror_unlinked i x t b d)
@[simp] theorem mirror_loops (i x t : Nat) (b : List Nat) (d : Dev) : (mirror i x t b d).loops = d.loops :=
  show (mirror i x t b d).unlinked.loops = d.unlinked.loops from congrArg Dev.loops (mirror_unlinked i x t b d)
@[simp] theorem mirror_store (i x t : Nat) (b : List Nat) (d : Dev) : (mirror i x t b d).store = d.store :=
  show (mirror i x t b d).unlinked.store = d.unlinked.store from congrArg Dev.store (mirror_unlinked i x t b d)
@[simp] theorem mirror_safe (i x t : Nat) (b : List Nat) (d : Dev) : (mirror i x t b d).safe = d.safe :=
  show (mirror i x t b d).unlinked.safe = d.unlinked.safe from congrArg Dev.safe (mirror_unlinked i x t b d)
@[simp] theorem mirror_pool (i x t : Nat) (b : List Nat) (d : Dev) : (mirror i x t b d).pool = d.pool :=
  show (mirror i x t b d).unlinked.pool = d.unlinked.pool from congrArg Dev.pool (mirror_unlinked i x t b d)
@[simp] theorem mirror_txw (i x t : Nat) (b : List Nat) (d : Dev) : (mirror i x t b d).txw = d.txw :=
  show (mirror i x t b d).unlinked.txw = d.unlinked.txw from congrArg Dev.txw (mirror_unlinked i x t b d)
@[simp] theorem mirror_txLate (i x t : Nat) (b : List Nat) (d : Dev) : (mirror i x t b d).txLate = d.txLate :=
  show (mirror i x t b d).unlinked.txLate = d.unlinked.txLate from congrArg Dev.txLate (mirror_unlinked i x t b d)
@[simp] theorem mirror_txNew (i x t : Nat) (b : List Nat) (d : Dev) : (mirror i x t b d).txNew = d.txNew :=
  show (mirror i x t b d).unlinked.txNew = d.unlinked.txNew from congrArg Dev.txNew (mirror_unlinked i x t b d)

@[simp] theorem get_mirror (f : Fld) (k i x t : Nat) (b : List Nat) (d : Dev) : get f k (mirror i x t b d) = get f k d :=
  get_congr f k _ _ (fun z => by rw [mirror_live])

end Sys2Proof.Machine
end

