-- ==== Sys2Proof/Laws/Flash.lean ====
section
/-! SUPPORT. What the operations on the flash keep: its canonical form, and every byte but the ones that they write. -/

namespace Sys2Proof.Machine

theorem Memory.wf_sorted {mem : List Host.Cell} (h : Memory.wf mem = true) : Tab.sorted mem = true := by
  simp only [Memory.wf, Bool.and_eq_true] at h
  exact h.1

theorem Memory.wf_listed {mem : List Host.Cell} (h : Memory.wf mem = true) (c : Host.Cell) (hc : c ∈ mem) : c.2 ≠ 255 := by
  simp only [Memory.wf, Bool.and_eq_true, List.all_eq_true] at h
  simpa using h.2 c hc

theorem Memory.wf_of {mem : List Host.Cell} (hs : Tab.sorted mem = true) (hl : ∀ c ∈ mem, c.2 ≠ 255) : Memory.wf mem = true := by
  simp only [Memory.wf, Bool.and_eq_true, List.all_eq_true]
  exact ⟨hs, fun c hc => by simpa using hl c hc⟩

/-- A byte written keeps the canonical form. -/
theorem flashSet_wf (a v : Nat) {mem : List Host.Cell} (h : Memory.wf mem = true) : Memory.wf (flashSet a v mem) = true := by
  refine Memory.wf_of (Tab.sorted_set _ a _ mem (Memory.wf_sorted h)) fun c hc => ?_
  unfold flashSet Tab.set at hc
  split at hc
  · exact Memory.wf_listed h c (Tab.mem_del a mem c hc)
  · rcases Tab.mem_put a _ mem c hc with rfl | hc
    · assumption
    · exact Memory.wf_listed h c hc

/-- Bytes written keep the canonical form. -/
theorem flashPut_wf (bs : List Nat) : ∀ (a : Nat) {mem : List Host.Cell}, Memory.wf mem = true → Memory.wf (flashPut a bs mem) = true := by
  induction bs with
  | nil => exact fun _ _ h => h
  | cons b bs ih => exact fun a _ h => ih (a + 1) (flashSet_wf a b h)

/-- Every other byte is as before. -/
theorem flashGet_flashSet_other (a v b : Nat) (mem : List Host.Cell) (h : b ≠ a) : flashGet (flashSet a v mem) b = flashGet mem b := by
  unfold flashGet flashSet
  rw [Tab.get_set_other _ _ a b _ mem h]

/-- A byte written reads back. -/
theorem flashGet_flashSet_same (a v : Nat) (mem : List Host.Cell) : flashGet (flashSet a v mem) a = v % 256 := by
  unfold flashGet flashSet
  rw [Tab.get_set_same, BitVec.toNat_ofNat]

/-- The keys of a part of a table lie above what the keys of the whole lie above. -/
theorem Tab.above_filter {α : Type} (p : Nat × α → Bool) : ∀ (t : Tab α) (lo : Nat), Tab.above lo t = true → Tab.above lo (t.filter p) = true := by
  intro t
  induction t with
  | nil => exact fun _ h => h
  | cons x t ih =>
    intro lo h
    simp only [Tab.above, Bool.and_eq_true, decide_eq_true_eq] at h
    by_cases hp : p x = true
    · rw [List.filter_cons_of_pos hp]
      simp only [Tab.above, Bool.and_eq_true, decide_eq_true_eq]
      exact ⟨h.1, ih x.1 h.2⟩
    · rw [List.filter_cons_of_neg hp]
      exact Tab.above_mono (ih x.1 h.2) (Nat.le_of_lt h.1)

theorem Tab.sorted_filter {α : Type} (p : Nat × α → Bool) (t : Tab α) (h : Tab.sorted t = true) : Tab.sorted (t.filter p) = true := by
  cases t with
  | nil => rfl
  | cons x t =>
    by_cases hp : p x = true
    · rw [List.filter_cons_of_pos hp]
      exact Tab.above_filter p t x.1 h
    · rw [List.filter_cons_of_neg hp]
      exact Tab.above_sorted (Tab.above_filter p t x.1 h)

/-- An erase keeps the canonical form. -/
theorem flashErase_wf (lo hi : Nat) {mem : List Host.Cell} (h : Memory.wf mem = true) : Memory.wf (flashErase lo hi mem) = true :=
  Memory.wf_of (Tab.sorted_filter _ mem (Memory.wf_sorted h)) fun c hc => Memory.wf_listed h c (List.mem_of_mem_filter hc)

end Sys2Proof.Machine
end

