-- ==== Sys2Proof/Tests/Slice0.lean ====
section
/-! SUPPORT. The model's own tests: what the well-formedness check refuses, a witness for every clause of a statement that has
hypotheses, and a few commands checked by hand. Images of the witnesses are made of records written field by field. -/

namespace Sys2Proof.Tests

open Sys2Proof Sys2Proof.Machine

set_option Elab.async false

/-! Small states. -/

/-- A record of `n` payload bytes with fields (field, entry, value); a field's size is written whole. -/
def tRec (idx typ n : Nat) (fs : List (PF × Nat × Nat)) : Rec :=
  ⟨idx, typ, [], fs.foldl (fun b f =>
    b.take (f.1.off + f.1.stride * f.2.1) ++ leBytes f.1.size f.2.2 ++ b.drop (f.1.off + f.1.stride * f.2.1 + f.1.size)) (zeros n)⟩

/-- The device at reset with registers written. -/
def wPut (ps : List (Fld × Nat × Nat)) (d : Dev) : Dev := ps.foldl (fun d p => put p.1 p.2.1 p.2.2 d) d

/-- A state with this device, everything else as at reset. -/
def wSt (d : Dev) : State := { State.reset with dev := d }

/-- The device in a phase of its life. -/
def wPhase (p : Phase) (d : Dev) : Dev := { d with unit := { d.unit with phase := p } }

/-- The device with an image of these records. -/
def wImg (rs : List Rec) (d : Dev) : Dev := { d with img := some ⟨zeros 256, rs⟩ }

/-- Reset, and a unit in RUN. -/
def w0 : Dev := State.reset.dev
def wRun : Dev := wPhase .run w0

/-- A unit in RUN with records. -/
def wRunR (rs : List Rec) : Dev := wImg rs wRun

/-- A valid image in small: time and feedback measures, picks, four plies in two groups, a servo axis with its local drive, interfaces,
network, a stream and an array. -/
def wValid : List Rec := [
  tRec 0 0x0302 48 [(P0302_KIND, 0, 1), (P0302_SOURCE, 0, 1)],
  tRec 1 0x0302 48 [(P0302_MEASURE, 0, 1), (P0302_KIND, 0, 3), (P0302_SOURCE, 0, 6), (P0302_SAMPLE_PERIOD, 0, 1000),
    (P0302_RATE_MAX, 0, 4294967296), (P0302_LOST_TIMEOUT, 0, 10)],
  tRec 2 0x0303 100 [(P0303_COUNT, 0, 3), (P0303_FLAGS, 0, 1), (P0303_ACTION, 0, 9), (P0303_INTERVAL, 0, 12500),
    (P0303_PICK, 1, 1), (P0303_FLAGS, 1, 1), (P0303_ACTION, 1, 1), (P0303_PICK, 2, 2), (P0303_FLAGS, 2, 1), (P0303_ACTION, 2, 2),
    (P0303_INTERVAL, 2, 2000)],
  tRec 3 0x0501 108 [(P0501_CLASS, 0, 1), (P0501_SIZE, 0, 2), (P0501_SP_SOURCE, 0, 5), (P0501_FB_STRAND, 0, 0x06040),
    (P0501_OUT_MAX, 0, 100), (P0501_DEADLINE, 0, 1000)],
  tRec 4 0x0501 108 [(P0501_PLY, 0, 1), (P0501_CLASS, 0, 1), (P0501_SIZE, 0, 2), (P0501_SP_SOURCE, 0, 5), (P0501_FLAGS, 0, 1),
    (P0501_FF_STRAND, 0, 0x061C0), (P0501_OUT_MAX, 0, 100), (P0501_DEADLINE, 0, 1000)],
  tRec 5 0x0501 108 [(P0501_PLY, 0, 2), (P0501_CLASS, 0, 1), (P0501_SIZE, 0, 2), (P0501_FB_STRAND, 0, 0x07040),
    (P0501_OUT_MAX, 0, 100), (P0501_DEADLINE, 0, 1000)],
  tRec 6 0x0501 108 [(P0501_PLY, 0, 3), (P0501_CLASS, 0, 1), (P0501_SIZE, 0, 2), (P0501_SP_SOURCE, 0, 4), (P0501_FB_STRAND, 0, 0x07050),
    (P0501_SP_STRAND, 0, 0x05001), (P0501_OUT_MAX, 0, 100), (P0501_DEADLINE, 0, 1000)],
  tRec 7 0x0502 20 [(P0502_TWIN_ENGINE, 0, 0xFF), (P0502_COUNT, 0, 2), (P0502_MIN_PERIOD, 0, 31250), (P0502_NOMINAL_PERIOD, 0, 31250),
    (P0502_ENTRY, 1, 1)],
  tRec 8 0x0502 18 [(P0502_GROUP, 0, 1), (P0502_ENGINE, 0, 1), (P0502_TWIN_ENGINE, 0, 2), (P0502_TRIGGER, 0, 1), (P0502_COUNT, 0, 1),
    (P0502_MIN_PERIOD, 0, 31250), (P0502_NOMINAL_PERIOD, 0, 31250), (P0502_ENTRY, 0, 0x8000)],
  tRec 9 0x0601 192 [(P0601_KIND, 0, 1), (P0601_FILTER_PLY, 0, 0xFFFF), (P0601_VEL_PLY, 0, 1), (P0601_VFB_PLY, 0, 0xFFFF),
    (P0601_LIM_POS_PIN, 0, 0xFF), (P0601_LIM_NEG_PIN, 0, 0xFF), (P0601_HOME_PIN, 0, 0xFF), (P0601_BRAKE_OUT, 0, 0xFF),
    (P0601_VEL_FS, 0, 1), (P0601_ACC_FS, 0, 1), (P0601_V_MAX, 0, 1), (P0601_ACC, 0, 1), (P0601_DEC, 0, 1), (P0601_STOP_DEC, 0, 1),
    (P0601_VLIM_HI, 0, 100), (P0601_FE_LIMIT, 0, 1), (P0601_INPOS_WINDOW, 0, 1)],
  tRec 10 0x0701 4 [(P0701_DIV, 0, 16)],
  tRec 11 0x0702 20 [(P0702_OSR_LOG2, 0, 4), (P0702_OC_LIMIT, 0, 1), (P0702_OC_OSR_LOG2, 0, 3), (P0702_OC_COUNT, 0, 1)],
  tRec 12 0x0702 20 [(P0702_CHANNEL, 0, 1), (P0702_OSR_LOG2, 0, 4)],
  tRec 13 0x0703 16 [(P0703_PRESCALE, 0, 1), (P0703_SYNC_PICK, 0, 2), (P0703_PERIOD, 0, 1000)],
  tRec 14 0x0704 32 [(P0704_SD_B, 0, 1), (P0704_SD_C, 0, 0xFF), (P0704_RB_SETTLE, 0, 4), (P0704_RB_FILTER, 0, 1), (P0704_D_PLY, 0, 2),
    (P0704_Q_PLY, 0, 3)],
  tRec 15 0x0801 56 [(P0801_MODE, 0, 1), (P0801_FILTER_N, 0, 1), (P0801_LINES, 0, 1), (P0801_ERR_LIMIT, 0, 1), (P0801_ALARM_PIN, 0, 0xFF),
    (P0801_SPEED_HI, 0, 1), (P0801_WINDOW, 0, 1000), (P0801_ZERO_TIME, 0, 100)],
  tRec 16 0x0801 56 [(P0801_IFACE, 0, 1), (P0801_MODE, 0, 3), (P0801_FILTER_N, 0, 1), (P0801_ERR_LIMIT, 0, 1), (P0801_ALARM_PIN, 0, 0xFF),
    (P0801_SSI_BITS, 0, 8), (P0801_SSI_HALF, 0, 20), (P0801_MONO_US, 0, 1)],
  tRec 17 0x0C01 48 [(P0C01_PORT_EN, 0, 1), (P0C01_ACCESS_COUNT, 0, 1), (P0C01_PREFIX, 0, 24), (⟨20, 2, 0⟩, 0, 1518), (P0C01_ACC_LEVEL, 0, 3)],
  tRec 18 0x0C03 12 [(⟨0, 2, 0⟩, 0, 1), (P0C03_QUEUE, 0, 2), (P0C03_FLUSH_US, 0, 1)],
  tRec 19 0x0F01 68 [(P0F01_CHANNELS, 0, 3), (P0F01_DIES, 0, 1), (P0F01_SPARE, 0, 1), (P0F01_MT_S, 0, 400), (P0F01_REFRESH_BITS, 0, 24),
    (P0F01_LIFE_WARN, 0, 1), (P0F01_PE_RATED, 0, 1000), (P0F01_EVENT_MIB, 0, 16), (P0F01_RD_LIMIT, 0, 10000), (P0F01_WL_DELTA, 0, 50),
    (P0F01_SCRUB_HOURS, 0, 24), (P0F01_RETENTION_DAYS, 0, 30)],
  tRec 20 0x1001 12 [(P1001_KIND, 0, 1), (P1001_COUNT, 0, 1), (P1001_ENTRY, 0, 0x06000)],
  tRec 21 0x1003 32 [(P1003_SET_COUNT, 0, 1), (P1003_SETS, 0, 0xFFFFFFFFFFFFFF00), (P1003_DECIM, 0, 1)]]

/-- A unit in RUN with the valid image. -/
def wV : Dev := wRunR wValid

/-- An image of valid records is as the invariant asks. -/
theorem tOk (d : Dev) (h : d.img = some ⟨zeros 256, wValid⟩ ∨ d.img = none) (hn : d.next = none) : ImgOk d := by
  have hv : ∀ r ∈ wValid, checkRec ⟨zeros 256, wValid⟩ r = true := by decide +kernel
  intro m hm r hr
  rcases hm with hm | hm
  · rcases h with h | h
    · rw [h] at hm; cases hm; exact hv r hr
    · rw [h] at hm; cases hm
  · rw [hn] at hm; cases hm

/-- A session of level 3 in slot 0, number 7; its host's next SEQ is 1. -/
def wSvc (d : Dev) : Dev :=
  wPut [(ETH_SVC_SESSION_ACTIVE, 0, 1), (ETH_SVC_SESSION_SESSION, 0, 7), (ETH_SVC_SESSION_LEVEL, 0, 3)] d

/-- Records that witnesses need, with the fields that they need. -/
def tHdr (fs : List (PF × Nat × Nat)) : List Nat :=
  (tRec 0 0 256 ([(⟨176, 32, 0⟩, 0, beVal (sha256 [] |> beBytes 32 |>.reverse))] ++ fs)).pay
def wThr : Rec := tRec 0 0x0402 36 [(⟨0, 2, 0⟩, 0, 2), (P0402_THREAD, 0, 8), (P0402_ROLE, 0, 2), (P0402_SLICE, 0, 50),
  (P0402_MAX_RUN, 0, 10), (P0402_THREAD, 1, 9), (P0402_ROLE, 1, 1), (P0402_SLICE, 1, 50), (P0402_MAX_RUN, 1, 10)]
def wNet : Rec := tRec 1 0x0C01 48 [(P0C01_PORT_EN, 0, 7), (P0C01_ACCESS_COUNT, 0, 1), (P0C01_ACC_LEVEL, 0, 3)]
def wTrc : Rec := tRec 2 0x0503 32 [(P0503_NODES, 0, 1)]
def wVar : Rec := tRec 3 0x0903 28 [(⟨0, 2, 0⟩, 0, 1), (P0903_VAR_ID, 0, 5), (P0903_TYPE, 0, 1), (P0903_FLAGS, 0, 2)]
def wHank : Rec := tRec 4 0x0A01 96 [(P0A01_TIME_PICK, 0, 4), (P0A01_BEAT_PICK, 0, 5)]
def wTask : Rec := tRec 5 0x0902 20 [(P0902_WATCHDOG, 0, 1000)]
def wCanR : Rec := tRec 6 0x0D01 16 []
def wCanF : Rec := tRec 7 0x0D02 16 [(⟨1, 1, 0⟩, 0, 1), (P0D02_TIMEOUT, 0, 1)]
def wCanTx : Rec := tRec 8 0x0D03 12 []
def wCanM : Rec := tRec 9 0x0D04 16 []
def wCan : Dev :=
  { wRunR [wCanR, wCanF, wCanTx, wCanM] with cans := [(0, { bufs := [(0, { loads := [(0, [0])] })] })] }
def wLoopIn : Rec := tRec 10 0x0E01 28 []
def wLoopOut : Rec := tRec 11 0x0E01 28 [(P0E01_PORT, 0, 1), (P0E01_MODE, 0, 2), (P0E01_FLAGS, 0, 1)]
def wPoll : Rec := tRec 12 0x0E02 52 [(⟨0, 1, 0⟩, 0, 1), (⟨1, 1, 0⟩, 0, 1), (⟨3, 1, 0⟩, 0, 1), (⟨4, 2, 0⟩, 0, 1), (P0E02_ADDRESS, 0, 0x80)]
def wLoop : Dev := wRunR [wLoopIn, wLoopOut, wPoll]

/-- A Weft of one node with one sync slot, a PTP clock, and a safety function of one input, term, timer and output. -/
def wNode : Rec := tRec 13 0x0B01 16 [(P0B01_FLAGS, 0, 7), (P0B01_LISTEN_CYCLES, 0, 4)]
def wSched : Rec := tRec 14 0x0B02 32 [(P0B02_CYCLE, 0, 1000), (P0B02_SELVAGE, 0, 60000), (P0B02_SLOTS, 0, 1), (P0B02_FLAGS, 0, 1)]
def wWeft (st : Nat) : Dev := wPut [(WEFT_STATUS_STATE, 0, st)] (wRunR [wNode, wSched])
def wWeftX (x : WeftX) (st : Nat) : Dev := { wWeft st with weft := x }
def wPtpR (profile : Nat) : Rec := tRec 15 0x0C02 12 [(P0C02_PROFILE, 0, profile)]
def wPtp (profile st : Nat) (x : PtpX) : Dev :=
  { wPut [(ETH_STATUS_PORT_EN, 0, 7), (ETH_PTP_STATUS_PORT_STATE, 0, st)] (wRunR [wPtpR profile]) with ptp := x }
def wEth : Dev := wPut [(ETH_STATUS_PORT_EN, 0, 7), (ETH_PORT_STATUS_LINK, 0, 1)] (wRunR [wNet])
def wSafeR : Rec := tRec 16 0x1101 72 [(P1101_INPUTS, 0, 1), (P1101_TERMS, 0, 1), (P1101_TIMERS, 0, 1), (P1101_OUTPUTS, 0, 1),
  (⟨35, 1, 0⟩, 0, 1), (⟨57, 1, 0⟩, 0, 2), (⟨60, 1, 0⟩, 0, 1)]
def wSafe (st : Nat) (x : SafetyX) : Dev := { wPut [(SAFE_STATUS_STATE, 0, st)] (wRunR [wSafeR]) with safe := x }

/-- Records of the valid image by name. -/
def wSd0 : Rec := wValid.getD 11 wThr
def wPwm : Rec := wValid.getD 13 wThr
def wFb0 : Rec := wValid.getD 15 wThr
def wSsi : Rec := wValid.getD 16 wThr

/-- A unit in RUN that measures time and a source, with picks. -/
def wReel : Dev := wPut [(REEL_MEAS_STATUS_SOURCE, 0, 1), (REEL_MEAS_STATUS_SOURCE, 1, 6)] wRun
def wPick : Dev := wPut [(REEL_PICK_STATUS_STATE, 0, 2), (REEL_PICK_CFG_INTERVAL, 0, 100), (REEL_PICK_CFG_DIR, 0, 1)] wReel
def wThrd (x : CreelX) : Dev :=
  { wPut [(CREEL_STATUS_CORES, 0, 15), (CREEL_CORE_STATE_PHYS, 1, 1), (CREEL_CORE_STATE_PHYS, 2, 2), (CREEL_CORE_STATE_PHYS, 3, 3)]
      (wRunR [wThr]) with creel := x }
def wPairR : Rec := tRec 17 0x1201 16 [(P1201_ROLE, 0, 1)]
def wPairM (st : Nat) (x : PairX) : Dev := { wPut [(PAIR_STATUS_STATE, 0, st)] (wRunR [wPairR]) with pairx := x }
def wRecipe : Rec := tRec 18 0x0A02 72 [(P0A02_STEPS, 0, 1), (P0A02_HOLD_STEP, 0, 0xFFFF)]
def wHankD (st : Nat) (x : HankX) : Dev := { wPut [(HANK_H_STATE_STATE, 0, st), (PAIR_STATUS_STATE, 0, 9)] (wRunR [wHank, wRecipe]) with hanks := [(0, x)] }
def wArr : Rec := wValid.getD 19 wThr
def wStore (st : Nat) (x : StoreX) : Dev := { wPut [(STORE_STATUS_STATE, 0, st)] wV with store := x }
def wTaskX (x : TaskX) : Dev := { wPut [(SHU_TASK_STATE_STATE, 0, 1), (SHU_ENG_STATUS_PHYS, 1, 1)] (wRunR [wTask]) with shu := { tasks := [(0, x)] } }
def wMeas1 : Rec := wValid.getD 1 wThr
def wPicks : Rec := tRec 19 0x0303 36 [(P0303_COUNT, 0, 1), (P0303_FLAGS, 0, 32)]
def wGrp0 : Rec := wValid.getD 7 wThr
def wGrp1 : Rec := wValid.getD 8 wThr
def wPly0 : Rec := wValid.getD 3 wThr
def wAxis0 : Rec := wValid.getD 9 wThr
def wDrv : Rec := wValid.getD 14 wThr
def wTrans : Rec := wValid.getD 18 wThr

/-- A table of one entry reads as that entry and else as nothing. -/
theorem tCore (x : CoreX) (b : Nat) (h : b ≠ 0) : Tab.get ({} : CoreX) [(0, x)] b = {} := by
  simp [Tab.get, Ne.symm h]
theorem tCore0 (x : CoreX) : Tab.get ({} : CoreX) [(0, x)] 0 = x := rfl

/-! A smallest image: the records that no image may lack behind a header, unsigned. -/

/-- A record with no claims as the flash holds it. -/
def tEnc (r : Rec) : List Nat :=
  let body := [0, 0, 0, 0] ++ r.pay
  leBytes 2 r.typ ++ leBytes 4 body.length ++ body ++ leBytes 4 (crc32c body) ++ zeros ((2 - body.length % 4) % 4)
def wSmall : List Rec := [
  tRec 0 0x0302 48 [(P0302_KIND, 0, 1), (P0302_SOURCE, 0, 1)],
  tRec 1 0x0401 12 [],
  tRec 2 0x0402 20 [(⟨0, 2, 0⟩, 0, 1), (P0402_THREAD, 0, 8), (P0402_ROLE, 0, 2), (P0402_PRIORITY, 0, 17), (P0402_AFFINITY, 0, 1)],
  tRec 3 0x0901 12 [(P0901_COUNT, 0, 1)],
  tRec 4 0x0B01 12 [(P0B01_NODE_ID, 0, 1), (P0B01_FLAGS, 0, 3), (P0B01_LISTEN_CYCLES, 0, 2), (P0B01_LOSS_CYCLES, 0, 1),
    (P0B01_SYNC_LIMIT, 0, 100), (P0B01_INTEG_CYCLES, 0, 2), (P0B01_REINT_CYCLES, 0, 100)],
  tRec 5 0x0B02 40 [(P0B02_CYCLE, 0, 1000000), (P0B02_SELVAGE, 0, 400), (P0B02_SLOTS, 0, 1), (P0B02_NODES, 0, 1), (P0B02_OWNER, 0, 1),
    (P0B02_FLAGS, 0, 1), (P0B02_PARTNER, 0, 0xFF), (P0B02_LENGTH, 0, 10000), (⟨32, 1, 0⟩, 0, 1)],
  tRec 6 0x0C01 48 [(P0C01_PORT_EN, 0, 1), (P0C01_ACCESS_COUNT, 0, 1), (P0C01_PREFIX, 0, 24), (⟨20, 2, 0⟩, 0, 1518), (P0C01_ACC_LEVEL, 0, 3)],
  tRec 7 0x1101 64 [(P1101_VERSION, 0, 1), (P1101_INPUTS, 0, 1), (P1101_TERMS, 0, 1), (P1101_OUTPUTS, 0, 1), (P1101_TP_PERIOD, 0, 1000),
    (P1101_TP_WIDTH, 0, 20), (P1101_TP_RECOVER, 0, 10), (P1101_OP_PERIOD, 0, 1000), (P1101_OP_WIDTH, 0, 200), (P1101_RB_TIME, 0, 100),
    (⟨33, 1, 0⟩, 0, 1), (⟨34, 2, 0⟩, 0, 0xFFFF), (⟨36, 2, 0⟩, 0, 2), (⟨38, 2, 0⟩, 0, 4), (⟨40, 4, 0⟩, 0, 1), (⟨52, 4, 0⟩, 0, 1)]]
def wBody : List Nat := wSmall.flatMap tEnc
/-- The header with a number and its checksum. -/
def wHead (seq : Nat) : List Nat :=
  let h := (tRec 0 0 252 [(PHDR_MAGIC, 0, 0x4E53434F), (PHDR_HDR_VERSION, 0, 1), (PHDR_HDR_SIZE, 0, 256), (PHDR_PART, 0, 0x6A148160),
    (PHDR_SEQUENCE, 0, seq), (PHDR_IMAGE_LENGTH, 0, 256 + wBody.length), (PHDR_RECORD_COUNT, 0, 8), (PHDR_KEY_SLOT, 0, 0xFF)]).pay
  let h := h.take 176 ++ beBytes 32 (sha256 wBody) ++ h.drop 208
  h ++ leBytes 4 (crc32c h)
/-- Bytes laid out from an address as cells. -/
def tCells (a : Nat) (bs : List Nat) : List Host.Cell :=
  ((List.range bs.length).zip bs).filterMap fun p => if p.2 = 255 then none else some (a + p.1, BitVec.ofNat 8 p.2)
def wFlash : List Host.Cell := tCells 0 (wHead 0 ++ wBody)
def wLoaded : Loaded := ⟨⟨wHead 0, wSmall⟩, true, true⟩
/-- The loader takes it. -/
theorem tLoad : loadCopy 0 {} wFlash 0 false = .ok wLoaded := by decide +kernel

/-! For every statement, what meets the hypotheses of each of its clauses. -/

theorem test_w_ResetState : ∃ (r : Reg) (i : Nat), r ∈ allRegs ∧ i < r.count :=
  ⟨allRegs.headD ⟨0, 0, 0, 0, 0, 0, 0, 0⟩, 0, by decide +kernel, by decide +kernel⟩
theorem test_w_StepRunsFront : ∃ (c : Instr) (rest : List Instr) (s : State), s.pending = c :: rest :=
  ⟨.clockStop 0, [], { wSt w0 with pending := [.clockStop 0] }, rfl⟩
theorem test_w_EveryCommandAnswers : ∃ (s : State), s.pending = [] :=
  ⟨wSt w0, by decide +kernel⟩
theorem test_w_FusesOnlyBlow : ∃ (s : State) (t : State), FusesInv s ∧
    step s = .next t :=
  ⟨wSt w0, { wSt w0 with dev := (advance 1 w0) }, by unfold FusesInv; decide +kernel, rfl⟩
theorem test_w_ImagesStayChecked :
    (∃ (fuses : Nat) (id : Ident) (mem : List Host.Cell) (base : Nat) (changed : Bool) (l : Loaded), loadCopy fuses id mem base changed = .ok l) ∧
    (∃ (s : State) (t : State), ImgOk s.dev ∧
    step s = .next t) :=
  ⟨⟨0, {}, wFlash, 0, false, wLoaded, tLoad⟩,
   ⟨wSt wV, { wSt wV with dev := advance 1 wV }, tOk _ (.inl rfl) rfl, rfl⟩⟩
theorem test_w_FlashForm :
    (∃ (mem : List Host.Cell), Memory.wf mem = true) ∧
    (∃ (mem : List Host.Cell), Memory.wf mem = true) ∧
    (∃ (mem : List Host.Cell), Memory.wf mem = true) ∧
    (∃ (mem : List Host.Cell), Memory.wf mem = true) :=
  ⟨⟨[(4, 0)], by decide +kernel⟩,
   ⟨[(4, 0)], by decide +kernel⟩,
   ⟨[(4, 0)], by decide +kernel⟩,
   ⟨[(4, 0)], by decide +kernel⟩⟩
theorem test_w_FaultReactions :
    (∃ (code : Nat) (obj : Nat) (d : Dev), isActiveFault code obj d = true) ∧
    (∃ (code : Nat) (obj : Nat) (detail : Nat) (d : Dev), isActiveFault code obj d = false ∧
    faultClass code ≤ 1 ∧
    code < 65536 ∧
    code / 256 ≠ 2 ∧
    ((raiseWith code obj detail d).recd.dropped = d.recd.dropped)) ∧
    (∃ (code : Nat) (obj : Nat) (detail : Nat) (d : Dev), isActiveFault code obj d = false ∧
    faultClass code ≤ 1 ∧
    code < 65536 ∧
    code / 256 ≠ 2 ∧
    ((raiseWith code obj detail d).recd.dropped = d.recd.dropped) ∧
    faultClass code = 1 ∧
    faultKind code ≠ .momentary) ∧
    (∃ (code : Nat) (obj : Nat) (detail : Nat) (d : Dev), isActiveFault code obj d = false ∧
    faultClass code ≤ 1 ∧
    code < 65536 ∧
    code / 256 ≠ 2 ∧
    ((raiseWith code obj detail d).recd.dropped = d.recd.dropped) ∧
    (∀ x ∈ d.recd.buf, x.stamp ≠ now d) ∧
    d.unit.phase = .run ∧
    faultClass code = 0) ∧
    (∃ (code : Nat) (obj : Nat) (detail : Nat) (d : Dev), isActiveFault code obj d = false ∧
    faultClass code ≤ 1 ∧
    code < 65536 ∧
    code / 256 ≠ 2 ∧
    ((raiseWith code obj detail d).recd.dropped = d.recd.dropped) ∧
    (∀ x ∈ d.recd.buf, x.stamp ≠ now d) ∧
    d.unit.phase = .run ∧
    faultClass code = 1) ∧
    (∃ (code : Nat) (obj : Nat) (d : Dev), isActiveFault code obj d = false ∧
    (faultClass code = 4 ∨ faultClass code = 5) ∧
    d.unit.phase = .run ∧
    (pairState d = 6 ∨ pairState d = 9) ∧
    d.unit.stopped = false) ∧
    (∃ (code : Nat) (obj : Nat) (d : Dev), isActiveFault code obj d = false ∧
    (faultClass code = 4 ∨ faultClass code = 5) ∧
    d.unit.phase = .run ∧
    pairState d ≠ 6 ∧
    pairState d ≠ 7 ∧
    pairState d ≠ 8 ∧
    pairState d ≠ 9) :=
  ⟨⟨0x0101, 0, { wRun with active := [⟨0x0101, 0, 0⟩] }, by decide +kernel⟩,
   ⟨0x0603, 0, 0, wRun, by decide +kernel, by decide +kernel, by decide +kernel, by decide +kernel, by decide +kernel⟩,
   ⟨0x0103, 0, 0, wRun, by decide +kernel, by decide +kernel, by decide +kernel, by decide +kernel, by decide +kernel, by decide +kernel, by decide +kernel⟩,
   ⟨0x0100, 0, 0, wRun, by decide +kernel, by decide +kernel, by decide +kernel, by decide +kernel, by decide +kernel, by decide +kernel, by decide +kernel, by decide +kernel⟩,
   ⟨0x0103, 0, 0, wRun, by decide +kernel, by decide +kernel, by decide +kernel, by decide +kernel, by decide +kernel, by decide +kernel, by decide +kernel, by decide +kernel⟩,
   ⟨0x1305, 0, wPut [(PAIR_STATUS_STATE, 0, 9)] wRun, by decide +kernel, by decide +kernel, by decide +kernel, by decide +kernel, by decide +kernel⟩,
   ⟨0x1305, 0, wRun, by decide +kernel, by decide +kernel, by decide +kernel, by decide +kernel, by decide +kernel, by decide +kernel, by decide +kernel⟩⟩
theorem test_w_LoaderRejections :
    (∃ (n : Nat), n ≤ 64) ∧
    (∃ (h : List Nat) (body : List Nat), sha256 body = beVal ((h.drop 176).take 32)) ∧
    (∃ (h : List Nat) (body : List Nat), sha256 body = beVal ((h.drop 176).take 32) ∧
    hdrU h PHDR_KEY_SLOT ≠ 0 ∧ hdrU h PHDR_KEY_SLOT ≠ 1 ∧ hdrU h PHDR_KEY_SLOT ≠ 0xFF) ∧
    (∃ (fuses : Nat) (h : List Nat) (body : List Nat), sha256 body = beVal ((h.drop 176).take 32) ∧
    authOk fuses h = true ∧
    hdrU h PHDR_SEQUENCE / 2 ^ 24 < arbCount fuses) ∧
    (∃ (fuses : Nat) (h : List Nat) (body : List Nat), sha256 body = beVal ((h.drop 176).take 32) ∧
    authOk fuses h = true ∧
    arbCount fuses ≤ hdrU h PHDR_SEQUENCE / 2 ^ 24 ∧
    hdrU h PHDR_SEQUENCE / 2 ^ 24 ≤ 64 ∧
    hdrU h PHDR_PART / 16 ≠ ID_PART.reset / 16) ∧
    (∃ (fuses : Nat) (id : Ident) (mem : List Host.Cell) (base : Nat) (changed : Bool) (l : Loaded), loadCopy fuses id mem base changed = .ok l) :=
  ⟨⟨64, by decide +kernel⟩,
   ⟨tHdr [], [], by decide +kernel⟩,
   ⟨tHdr [(PHDR_KEY_SLOT, 0, 2)], [], by decide +kernel, by decide +kernel⟩,
   ⟨2 ^ 512, tHdr [(PHDR_KEY_SLOT, 0, 0xFF)], [], by decide +kernel, by decide +kernel, by decide +kernel⟩,
   ⟨2 ^ 512, tHdr [(PHDR_KEY_SLOT, 0, 0xFF), (PHDR_SEQUENCE, 0, 2 ^ 24)], [], by decide +kernel, by decide +kernel, by decide +kernel, by decide +kernel, by decide +kernel⟩,
   ⟨0, {}, wFlash, 0, false, wLoaded, tLoad⟩⟩
theorem test_w_Starts :
    (∃ (p : StartPins), p.testEn = true) ∧
    (∃ (p : StartPins), p.testEn = false ∧
    p.pfailLow = true) ∧
    (∃ (fuses : Nat) (p : StartPins), p.fusePgm = true ∧
    ((bits fuses 576 2 ≠ 3 ∨ bits fuses 0 256 = 0 ∨ bits fuses 256 256 = 0))) ∧
    (∃ (fuses : Nat) (id : Ident) (p : StartPins) (d : Dev), p.bistFail = false ∧
    ((chooseCopy fuses id p.reread (put FUSE_LDR_STATE_STEP 0 3 (startRepair p d))).2 = none)) ∧
    (∃ (fuses : Nat) (id : Ident) (p : StartPins) (d : Dev) (c : Nat) (l : Loaded), p.bistFail = false ∧
    ((chooseCopy fuses id p.reread (put FUSE_LDR_STATE_STEP 0 3 (startRepair p d))).2 = some (c, l))) ∧
    (∃ (s : State), s.dev.unit.phase = .reset) ∧
    (∃ (s : State), s.dev.unit.phase = .monitorReset) ∧
    (∃ (dt : Nat) (s : State), get REC_STATUS_PFAIL 0 s.dev = 1 ∧
    get STORE_STATUS_STATE 0 s.dev = 5 ∧
    dueAgain s.dev.store.flushEdge 4000000 (later dt s) = true) ∧
    (∃ (s : State), s.dev.unit.phase = .step1 ∧
    s.dev.unit.pfailLow = true) ∧
    (∃ (dt : Nat) (s : State), s.dev.unit.phase = .ended ∧
    s.dev.unit.noRestart = false ∧
    faultClass s.dev.unit.lastF4 ≠ 5 ∧
    40000000 ≤ since s.dev.unit.stopEdge (later dt s)) ∧
    (∃ (dt : Nat) (s : State), pairState s.dev = 8 ∧
    s.dev.unit.phase = .run ∧
    s.dev.unit.noRestart = false ∧
    faultClass s.dev.unit.lastF4 ≠ 5 ∧
    40000000 ≤ since s.dev.pairx.deposedEdge (later dt s)) ∧
    (∃ (dt : Nat) (h : SvcHdr) (p : StartPins) (s : State) (k : Nat) (i : Instr), Accepts k h 3 4 (later dt s) ∧
    productionLocked s.dev = false ∧
    ((s.dev.unit.stopped = false ∨ s.dev.unit.lastF4 = 0 ∨ s.dev.unit.noRestart = false)) ∧
    (i = .restartCold dt h p ∨ i = .restartWarm dt h p)) ∧
    (∃ (dt : Nat) (h : SvcHdr) (p : StartPins) (s : State) (k : Nat) (i : Instr), Accepts k h 3 4 (later dt s) ∧
    productionLocked s.dev = false ∧
    ((s.dev.unit.stopped = false ∨ s.dev.unit.lastF4 = 0 ∨ s.dev.unit.noRestart = false)) ∧
    (i = .restartCold dt h p ∨ i = .restartWarm dt h p) ∧
    i = .restartWarm dt h p) ∧
    (∃ (dt : Nat) (p : StartPins) (s : State) (o : Img), s.dev.unit.phase = .loadFail ∧
    get FUSE_XCHG_STATE 0 s.dev = 2 ∧
    s.dev.xchg.headerDone = false ∧
    xchgCheck s.fuses s.ident (later dt s) = .ok o ∧
    p.testEn = true) :=
  ⟨⟨({ testEn := true } : StartPins), by decide +kernel⟩,
   ⟨({ pfailLow := true } : StartPins), by decide +kernel, by decide +kernel⟩,
   ⟨0, ({ fusePgm := true } : StartPins), by decide +kernel, by decide +kernel⟩,
   ⟨0, {}, ({} : StartPins), w0, by decide +kernel, by decide +kernel⟩,
   ⟨0, {}, {}, { w0 with flash := wFlash }, 0, wLoaded, by decide +kernel, by decide +kernel⟩,
   ⟨wSt w0, by decide +kernel⟩,
   ⟨wSt (wPhase .monitorReset w0), by decide +kernel⟩,
   ⟨0, wSt (wPut [(REC_STATUS_PFAIL, 0, 1), (STORE_STATUS_STATE, 0, 5)] wRun), by decide +kernel, by decide +kernel, by decide +kernel⟩,
   ⟨wSt { w0 with unit := { w0.unit with phase := .step1, pfailLow := true } }, by decide +kernel, by decide +kernel⟩,
   ⟨40000000, wSt (wPhase .ended w0), by decide +kernel, by decide +kernel, by decide +kernel, by decide +kernel⟩,
   ⟨40000000, wSt (wPut [(PAIR_STATUS_STATE, 0, 8)] wRun), by decide +kernel, by decide +kernel, by decide +kernel, by decide +kernel, by decide +kernel⟩,
   ⟨0, ({ session := 7, seq := 1 } : SvcHdr), {}, wSt (wSvc wRun), 0, .restartCold 0 ({ session := 7, seq := 1 } : SvcHdr) {}, by unfold Accepts; decide +kernel, by decide +kernel, by decide +kernel, .inl rfl⟩,
   ⟨0, ({ session := 7, seq := 1 } : SvcHdr), {}, wSt (wSvc wRun), 0, .restartWarm 0 ({ session := 7, seq := 1 } : SvcHdr) {}, by unfold Accepts; decide +kernel, by decide +kernel, by decide +kernel, .inr rfl, rfl⟩,
   ⟨0, ({ testEn := true } : StartPins), wSt { wImg wSmall (wPut [(FUSE_XCHG_STATE, 0, 2)] (wPhase .loadFail w0)) with flash := tCells 0x100 wBody, xchg := { header := wHead 1 }, img := none }, ⟨wHead 1, wSmall⟩, by decide +kernel, by decide +kernel, by decide +kernel, by decide +kernel, by decide +kernel⟩⟩
theorem test_w_PowerLoss :
    (∃ (s : State), s.dev.unit.phase ≠ .reset ∧
    s.dev.unit.phase ≠ .monitorReset ∧
    s.dev.unit.pfailLow = false) ∧
    (∃ (s : State), s.dev.unit.phase ≠ .reset ∧
    s.dev.unit.phase ≠ .monitorReset ∧
    s.dev.unit.pfailLow = false ∧
    blocksOn s.dev = true ∧
    get STORE_STATUS_STATE 0 s.dev = 3) ∧
    (∃ (dt : Nat) (s : State), get REC_STATUS_PFAIL 0 s.dev = 1 ∧
    s.dev.recd.frozen = false ∧
    8000 ≤ since s.dev.unit.pfailEdge (later dt s)) ∧
    (∃ (s : State), get REC_STATUS_PFAIL 0 s.dev = 1 ∧
    s.dev.recd.frozen = true ∧
    s.dev.recd.retainCopy = [] ∧
    retainStill s.dev = true) ∧
    (∃ (dt : Nat) (s : State), s.dev.unit.orderly = 1 ∧
    s.dev.unit.stopped = false ∧
    (((∀ r ∈ recsOf 0x0A01 s.dev, hankState (r.u P0A01_HANK) s.dev = 0 ∨ hankState (r.u P0A01_HANK) s.dev = 3) ∨ 400000000 ≤ since s.dev.unit.stopEdge (later dt s))) ∧
    retainTasks s.dev = []) :=
  ⟨⟨wSt wRun, by decide +kernel, by decide +kernel, by decide +kernel⟩,
   ⟨wSt (wPut [(STORE_STATUS_STATE, 0, 3)] wRun), by decide +kernel, by decide +kernel, by decide +kernel, by decide +kernel, by decide +kernel⟩,
   ⟨8000, wSt (wPut [(REC_STATUS_PFAIL, 0, 1)] wRun), by decide +kernel, by decide +kernel, by decide +kernel⟩,
   ⟨wSt (wPut [(REC_STATUS_PFAIL, 0, 1)] { wRun with recd := { wRun.recd with frozen := true } }), by decide +kernel, by decide +kernel, by decide +kernel, by decide +kernel⟩,
   ⟨0, wSt { wRun with unit := { wRun.unit with orderly := 1 } }, by decide +kernel, by decide +kernel, by decide +kernel, by decide +kernel⟩⟩
theorem test_w_MonitorsAndHalt :
    (∃ (s : State), s.dev.unit.phase ≠ .reset ∧
    s.dev.unit.phase ≠ .monitorReset) ∧
    (∃ (rail : Nat) (s : State), s.dev.unit.phase ≠ .reset ∧
    s.dev.unit.phase ≠ .monitorReset ∧
    rail < 8) ∧
    (∃ (tj : ℤ) (s : State), s.dev.unit.phase ≠ .reset ∧
    s.dev.unit.phase ≠ .monitorReset ∧
    -32768 ≤ tj ∧
    tj ≤ 32767) ∧
    (∃ (s : State), bits s.fuses 576 2 < 2 ∧
    s.dev.unit.halted = false ∧
    blocksOn s.dev = true) ∧
    (∃ (s : State), 2 ≤ bits s.fuses 576 2) ∧
    (∃ (s : State), s.dev.unit.halted = true) ∧
    (∃ (i : Nat), i < 542) ∧
    (∃ (r : Nat) (c : Nat) (i : Nat), ((ballAt r c).bind claimIndexOf = some i)) :=
  ⟨⟨wSt wRun, by decide +kernel, by decide +kernel⟩,
   ⟨7, wSt wRun, by decide +kernel, by decide +kernel, by decide +kernel⟩,
   ⟨32767, wSt wRun, by decide +kernel, by decide +kernel, by decide +kernel, by decide +kernel⟩,
   ⟨wSt wV, by decide +kernel, by decide +kernel, by decide +kernel⟩,
   ⟨{ wSt wRun with fuses := 2 ^ 577 }, by decide +kernel⟩,
   ⟨wSt { wRun with unit := { wRun.unit with halted := true } }, by decide +kernel⟩,
   ⟨541, by decide +kernel⟩,
   ⟨34, 11, 95, by decide +kernel⟩⟩
theorem test_w_RegisterWrites :
    (∃ (a : Nat), regAt a = none) ∧
    (∃ (a : Nat) (r : Reg) (i : Nat), regAt a = some (r, i) ∧
    r.rw = 0 ∧
    r.w1c = 0) ∧
    (∃ (dt : Nat) (a : Nat) (v : Nat) (s : State) (r : Reg) (i : Nat), s.dev.unit.phase ≠ .reset ∧
    s.dev.unit.phase ≠ .monitorReset ∧
    a % 4 = 0 ∧
    regAt a = some (r, i) ∧
    r.rw = 0 ∧
    r.base ≠ PLY_STATE.base ∧
    r.base ≠ SHU_TASK_STATE.base ∧
    r.base ≠ FBK_FB_FLAGS.base ∧
    r.addr i ∉ raiseAddrs ∧
    s.dev.w1cEdge ≠ edge (later dt s) + 1 ∧
    trunc 32 v * 2 ^ (8 * (a - r.addr i)) &&& r.w1c ≠ 0 ∧
    rd r i s.dev < 2 ^ r.width) :=
  ⟨⟨0x8000, by decide +kernel⟩,
   ⟨0, ID_PART, 0, by decide +kernel, by decide +kernel, by decide +kernel⟩,
   ⟨0, HANK_H_FLAGS.addr 31, 0x20, wSt wRun, HANK_H_FLAGS, 31, by decide +kernel, by decide +kernel, by decide +kernel, by decide +kernel, by decide +kernel, by decide +kernel, by decide +kernel, by decide +kernel, by decide +kernel, by decide +kernel, by decide +kernel, by decide +kernel⟩⟩
theorem test_w_SetBeatsClear :
    (∃ (h : SvcHdr) (a : Nat) (m : Nat) (f : Fld) (i : Nat) (v : Nat) (k : Nat) (s : State) (d : Dev), f.reg ∈ allRegs ∧
    f.lo + f.width ≤ f.reg.width ∧
    bits f.reg.w1c f.lo f.width = 2 ^ f.width - 1 ∧
    v % 2 ^ f.width ≠ 0 ∧
    regAt a = some (f.reg, i) ∧
    s.dev = put f i v d ∧
    Accepts k h 2 1 (later 0 s) ∧
    a % 4 = 0 ∧
    a / 65536 ≠ 0x11 ∧
    m < 2 ^ 32 ∧
    m * 2 ^ (8 * (a - f.reg.addr i)) &&& f.reg.w1c ≠ 0) ∧
    (∃ (a : Nat) (f : Fld) (i : Nat) (v : Nat) (s : State) (d : Dev), f.reg ∈ allRegs ∧
    f.lo + f.width ≤ f.reg.width ∧
    bits f.reg.w1c f.lo f.width = 2 ^ f.width - 1 ∧
    v % 2 ^ f.width ≠ 0 ∧
    regAt a = some (f.reg, i) ∧
    f.reg.rw = 0 ∧
    s.dev = put f i v d) :=
  ⟨⟨({ session := 7, seq := 1 } : SvcHdr), HANK_H_FLAGS.addr 0, 1, HANK_H_FLAGS_LATE_STAGE, 0, 1, 0, wSt (put HANK_H_FLAGS_LATE_STAGE 0 1 (wSvc wRun)), wSvc wRun, by decide +kernel, by decide +kernel, by decide +kernel, by decide +kernel, by decide +kernel, rfl, by unfold Accepts; decide +kernel, by decide +kernel, by decide +kernel, by decide +kernel, by decide +kernel⟩,
   ⟨HANK_H_FLAGS.addr 0, HANK_H_FLAGS_LATE_STAGE, 0, 1, wSt (put HANK_H_FLAGS_LATE_STAGE 0 1 wRun), wRun, by decide +kernel, by decide +kernel, by decide +kernel, by decide +kernel, by decide +kernel, by decide +kernel, rfl⟩⟩
theorem test_w_ServiceSessions :
    (∃ (h : SvcHdr) (level : Nat) (keep : Nat) (s : State) (t : Nat) (k : Nat), svcUp s.dev = true ∧
    openAgain h s.dev = none ∧
    1 ≤ level ∧
    level ≤ 3 ∧
    1 ≤ keep ∧
    keep ≤ 60 ∧
    admitted h.addr level s.dev = true ∧
    freeThread s.dev = some t ∧
    ((List.range 16).find? (fun k => !flag ETH_SVC_SESSION_ACTIVE k s.dev) = some k)) ∧
    (∃ (h : SvcHdr) (level : Nat) (keep : Nat) (s : State), svcUp s.dev = true ∧
    openAgain h s.dev = none ∧
    ((level = 0 ∨ 3 < level ∨ keep = 0 ∨ 60 < keep))) ∧
    (∃ (dt : Nat) (h : SvcHdr) (s : State) (k : Nat), Accepts k h 1 0 (later dt s)) ∧
    (∃ (dt : Nat) (k : Nat) (s : State), k < 16 ∧
    get ETH_SVC_SESSION_ACTIVE k s.dev = 1 ∧
    ((s.dev.eth.sess.get {} k).keep * 400000000 ≤ since (s.dev.eth.sess.get {} k).edge (later dt s))) ∧
    (∃ (dt : Nat) (s : State) (i : Instr), ((i = .exchangeTransferTimeout dt ∧ get FUSE_XCHG_STATE 0 s.dev = 1 ∧ 4000000000 ≤ since s.dev.xchg.lastEdge (later dt s)) ∨ (i = .exchangeStageTimeout dt ∧ get FUSE_XCHG_STATE 0 s.dev = 2 ∧ s.dev.xchg.headerDone = true ∧ 12000000000 ≤ since s.dev.xchg.headerEdge (later dt s)))) ∧
    (∃ (dt : Nat) (s : State) (i : Instr), ((i = .exchangeTransferTimeout dt ∧ get FUSE_XCHG_STATE 0 s.dev = 1 ∧ 4000000000 ≤ since s.dev.xchg.lastEdge (later dt s)) ∨ (i = .exchangeStageTimeout dt ∧ get FUSE_XCHG_STATE 0 s.dev = 2 ∧ s.dev.xchg.headerDone = true ∧ 12000000000 ≤ since s.dev.xchg.headerEdge (later dt s))) ∧
    i = .exchangeStageTimeout dt) :=
  ⟨⟨({} : SvcHdr), 3, 60, wSt (wRunR [wThr, wNet]), 8, 0, by decide +kernel, by decide +kernel, by decide +kernel, by decide +kernel, by decide +kernel, by decide +kernel, by decide +kernel, by decide +kernel, by decide +kernel⟩,
   ⟨({} : SvcHdr), 0, 60, wSt wRun, by decide +kernel, by decide +kernel, by decide +kernel⟩,
   ⟨0, ({ session := 7, seq := 1 } : SvcHdr), wSt (wSvc wRun), 0, by unfold Accepts; decide +kernel⟩,
   ⟨0, 15, wSt (wPut [(ETH_SVC_SESSION_ACTIVE, 15, 1)] wRun), by decide +kernel, by decide +kernel, by decide +kernel⟩,
   ⟨4000000000, wSt (wPut [(FUSE_XCHG_STATE, 0, 1)] wRun), .exchangeTransferTimeout 4000000000, .inl ⟨rfl, by decide +kernel, by decide +kernel⟩⟩,
   ⟨12000000000, wSt (wPut [(FUSE_XCHG_STATE, 0, 2)] { wRun with xchg := { headerDone := true } }), .exchangeStageTimeout 12000000000, .inr ⟨rfl, by decide +kernel, by decide +kernel, by decide +kernel⟩, rfl⟩⟩
theorem test_w_ServiceOrder :
    (∃ (i : Instr) (r : Request), request i = some r) ∧
    (∃ (i : Instr) (r : Request) (s : State), request i = some r ∧
    svcUp s.dev = false) ∧
    (∃ (i : Instr) (r : Request) (s : State), request i = some r ∧
    svcUp s.dev = true ∧
    slotOf r.hdr.session s.dev = none) ∧
    (∃ (i : Instr) (r : Request) (s : State), request i = some r ∧
    svcUp s.dev = true ∧
    slotOf r.hdr.session s.dev = some 0 ∧
    get ETH_SVC_HOST_ADDR 0 s.dev = r.hdr.addr ∧
    get ETH_SVC_HOST_UDP_PORT 0 s.dev = r.hdr.port ∧
    ((s.dev.eth.sess.get {} 0).held = none) ∧
    r.hdr.seq = (s.dev.eth.sess.get {} 0).last) ∧
    (∃ (i : Instr) (r : Request) (s : State), request i = some r ∧
    svcUp s.dev = true ∧
    slotOf r.hdr.session s.dev = some 0 ∧
    get ETH_SVC_HOST_ADDR 0 s.dev = r.hdr.addr ∧
    get ETH_SVC_HOST_UDP_PORT 0 s.dev = r.hdr.port ∧
    ((s.dev.eth.sess.get {} 0).held = none) ∧
    r.hdr.seq ≠ (s.dev.eth.sess.get {} 0).last ∧
    r.hdr.seq ≠ ((s.dev.eth.sess.get {} 0).last + 1) % 4294967296) ∧
    (∃ (i : Instr) (r : Request) (s : State), request i = some r ∧
    svcUp s.dev = true ∧
    slotOf r.hdr.session s.dev = some 0 ∧
    get ETH_SVC_HOST_ADDR 0 s.dev = r.hdr.addr ∧
    get ETH_SVC_HOST_UDP_PORT 0 s.dev = r.hdr.port ∧
    ((s.dev.eth.sess.get {} 0).held = none) ∧
    r.hdr.seq = ((s.dev.eth.sess.get {} 0).last + 1) % 4294967296 ∧
    thrState (get ETH_SVC_SESSION_THREAD 0 s.dev) s.dev = 6) ∧
    (∃ (i : Instr) (r : Request) (s : State), request i = some r ∧
    svcUp s.dev = true ∧
    slotOf r.hdr.session s.dev = some 0 ∧
    get ETH_SVC_HOST_ADDR 0 s.dev = r.hdr.addr ∧
    get ETH_SVC_HOST_UDP_PORT 0 s.dev = r.hdr.port ∧
    ((s.dev.eth.sess.get {} 0).held = none) ∧
    r.hdr.seq = ((s.dev.eth.sess.get {} 0).last + 1) % 4294967296 ∧
    thrState (get ETH_SVC_SESSION_THREAD 0 s.dev) s.dev ≠ 6 ∧
    get ETH_SVC_SESSION_LEVEL 0 s.dev < r.level) ∧
    (∃ (i : Instr) (r : Request) (s : State), request i = some r ∧
    svcUp s.dev = true ∧
    slotOf r.hdr.session s.dev = some 0 ∧
    get ETH_SVC_HOST_ADDR 0 s.dev = r.hdr.addr ∧
    get ETH_SVC_HOST_UDP_PORT 0 s.dev = r.hdr.port ∧
    ((s.dev.eth.sess.get {} 0).held = none) ∧
    r.hdr.seq = ((s.dev.eth.sess.get {} 0).last + 1) % 4294967296 ∧
    thrState (get ETH_SVC_SESSION_THREAD 0 s.dev) s.dev ≠ 6 ∧
    r.level ≤ get ETH_SVC_SESSION_LEVEL 0 s.dev ∧
    svcAllows r.kind s.dev = false) ∧
    (∃ (i : Instr) (r : Request) (s : State), request i = some r ∧
    Accepts 0 r.hdr r.level r.kind (later r.dt s)) :=
  ⟨⟨.serviceKeepalive 0 { session := 7, seq := 1 }, ⟨0, { session := 7, seq := 1 }, 0x0003, 1, 0, okNone⟩, rfl⟩,
   ⟨.serviceKeepalive 0 { session := 7, seq := 1 }, ⟨0, { session := 7, seq := 1 }, 0x0003, 1, 0, okNone⟩, wSt w0, rfl, by decide +kernel⟩,
   ⟨.serviceKeepalive 0 { session := 7, seq := 1 }, ⟨0, { session := 7, seq := 1 }, 0x0003, 1, 0, okNone⟩, wSt wRun, rfl, by decide +kernel, by decide +kernel⟩,
   ⟨.serviceKeepalive 0 { session := 7, seq := 1 }, ⟨0, { session := 7, seq := 1 }, 0x0003, 1, 0, okNone⟩, wSt { wSvc wRun with eth := { sess := [(0, { last := 1 })] } }, rfl, by decide +kernel, by decide +kernel, by decide +kernel, by decide +kernel, by decide +kernel, by decide +kernel⟩,
   ⟨.serviceKeepalive 0 { session := 7, seq := 1 }, ⟨0, { session := 7, seq := 1 }, 0x0003, 1, 0, okNone⟩, wSt { wSvc wRun with eth := { sess := [(0, { last := 5 })] } }, rfl, by decide +kernel, by decide +kernel, by decide +kernel, by decide +kernel, by decide +kernel, by decide +kernel, by decide +kernel⟩,
   ⟨.serviceKeepalive 0 { session := 7, seq := 1 }, ⟨0, { session := 7, seq := 1 }, 0x0003, 1, 0, okNone⟩, wSt (wPut [(ETH_SVC_SESSION_THREAD, 0, 8), (CREEL_THREAD_STATUS_STATE, 8, 6)] (wSvc wRun)), rfl, by decide +kernel, by decide +kernel, by decide +kernel, by decide +kernel, by decide +kernel, by decide +kernel, by decide +kernel⟩,
   ⟨.serviceKeepalive 0 { session := 7, seq := 1 }, ⟨0, { session := 7, seq := 1 }, 0x0003, 1, 0, okNone⟩, wSt (wPut [(ETH_SVC_SESSION_LEVEL, 0, 0)] (wSvc wRun)), rfl, by decide +kernel, by decide +kernel, by decide +kernel, by decide +kernel, by decide +kernel, by decide +kernel, by decide +kernel, by decide +kernel⟩,
   ⟨.writeHvar 0 { session := 7, seq := 1 } 0 0, (request (.writeHvar 0 { session := 7, seq := 1 } 0 0)).getD ⟨0, { session := 7, seq := 1 }, 0x0003, 1, 0, okNone⟩, wSt (wPhase .programming (wSvc wRun)), rfl, by decide +kernel, by decide +kernel, by decide +kernel, by decide +kernel, by decide +kernel, by decide +kernel, by decide +kernel, by decide +kernel, by decide +kernel⟩,
   ⟨.serviceKeepalive 0 { session := 7, seq := 1 }, ⟨0, { session := 7, seq := 1 }, 0x0003, 1, 0, okNone⟩, wSt (wSvc wRun), rfl, by unfold Accepts; decide +kernel⟩⟩
theorem test_w_ServiceReads :
    (∃ (dt : Nat) (h : SvcHdr) (s : State) (k : Nat), Accepts k h 1 0 (later dt s)) ∧
    (∃ (dt : Nat) (h : SvcHdr) (addr : Nat) (len : Nat) (s : State) (k : Nat), Accepts k h 1 0 (later dt s) ∧
    addr < 2 ^ 32 ∧
    addr % 4 = 0 ∧
    len % 4 = 0 ∧
    0 < len ∧
    len ≤ 1024) ∧
    (∃ (dt : Nat) (h : SvcHdr) (ids : List Nat) (s : State) (k : Nat), Accepts k h 1 0 (later dt s) ∧
    ids ≠ [] ∧
    ids.length ≤ 128 ∧
    ((∀ id ∈ ids, strandOk id = true))) ∧
    (∃ (dt : Nat) (h : SvcHdr) (mx : Nat) (sev : Nat) (s : State) (k : Nat), Accepts k h 1 0 (later dt s) ∧
    1 ≤ mx ∧
    mx ≤ 44 ∧
    sev ≤ 5) ∧
    (∃ (dt : Nat) (h : SvcHdr) (c : Nat) (off : Nat) (len : Nat) (s : State) (k : Nat) (n : Nat) (bs : List Nat), Accepts k h 1 5 (later dt s) ∧
    len % 4 = 0 ∧
    0 < len ∧
    len ≤ 1024 ∧
    off < 2 ^ 32 ∧
    c ≠ 0xFFFFFFFF ∧
    ((if c = 0 then s.dev.recd.snaps.getLast? else s.dev.recd.snaps.find? fun p => p.1 == c) = some (n, bs)) ∧
    off + len ≤ bs.length) ∧
    (∃ (dt : Nat) (h : SvcHdr) (b : Nat) (first : Nat) (s : State) (k : Nat) (r : Rec), Accepts k h 1 5 (later dt s) ∧
    trcRec b s.dev = some r ∧
    first < (s.dev.trcs.get {} b).rows.length) ∧
    (∃ (dt : Nat) (h : SvcHdr) (s : State) (k : Nat), Accepts k h 0 0 (later dt s)) :=
  ⟨⟨0, ({ session := 7, seq := 1 } : SvcHdr), wSt (wSvc wRun), 0, by unfold Accepts; decide +kernel⟩,
   ⟨0, ({ session := 7, seq := 1 } : SvcHdr), 0, 1024, wSt (wSvc wRun), 0, by unfold Accepts; decide +kernel, by decide +kernel, by decide +kernel, by decide +kernel, by decide +kernel, by decide +kernel⟩,
   ⟨0, ({ session := 7, seq := 1 } : SvcHdr), [0], wSt (wSvc wRun), 0, by unfold Accepts; decide +kernel, by decide +kernel, by decide +kernel, by decide +kernel⟩,
   ⟨0, ({ session := 7, seq := 1 } : SvcHdr), 44, 5, wSt (wSvc wRun), 0, by unfold Accepts; decide +kernel, by decide +kernel, by decide +kernel, by decide +kernel⟩,
   ⟨0, ({ session := 7, seq := 1 } : SvcHdr), 0, 0, 1024, wSt (wSvc { wRun with recd := { wRun.recd with snaps := [(1, zeros 1024)] } }), 0, 1, zeros 1024, by unfold Accepts; decide +kernel, by decide +kernel, by decide +kernel, by decide +kernel, by decide +kernel, by decide +kernel, by decide +kernel, by decide +kernel⟩,
   ⟨0, ({ session := 7, seq := 1 } : SvcHdr), 0, 0, wSt (wSvc { wRunR [wTrc] with trcs := [(0, { rows := [[0, 0]] })] }), 0, wTrc, by unfold Accepts; decide +kernel, by decide +kernel, by decide +kernel⟩,
   ⟨0, ({ session := 7, seq := 1 } : SvcHdr), wSt (wSvc wRun), 0, by unfold Accepts; decide +kernel⟩⟩
theorem test_w_ServiceActions :
    (∃ (dt : Nat) (h : SvcHdr) (v : Nat) (x : Nat) (s : State) (k : Nat) (q : VarDef), Accepts k h 2 1 (later dt s) ∧
    x < 2 ^ 64 ∧
    isActive s.dev = true ∧
    hostVar v s.dev = some q) ∧
    (∃ (dt : Nat) (h : SvcHdr) (n : Nat) (q : HankReq) (s : State) (k : Nat), Accepts k h 2 1 (later dt s) ∧
    q.seq < 2 ^ 16 ∧
    q.recipe < 2 ^ 16 ∧
    q.step < 2 ^ 16 ∧
    q.tag < 2 ^ 32 ∧
    isActive s.dev = true ∧
    q.seq ≠ 0 ∧
    1 ≤ q.code ∧
    q.code ≤ 3 ∧
    ((recAt 0x0A01 P0A01_HANK n s.dev).isSome = true) ∧
    ((q.code = 2 → hankState n s.dev = 0))) ∧
    (∃ (dt : Nat) (h : SvcHdr) (a : Nat) (m : Nat) (s : State) (k : Nat) (r : Reg) (i : Nat), Accepts k h 2 1 (later dt s) ∧
    m < 2 ^ 32 ∧
    a / 65536 ≠ 0x11 ∧
    regAt a = some (r, i) ∧
    a % 4 = 0 ∧
    m * 2 ^ (8 * (a - r.addr i)) &&& r.w1c ≠ 0 ∧
    r.base ≠ PLY_STATE.base ∧
    r.base ≠ SHU_TASK_STATE.base ∧
    r.base ≠ FBK_FB_FLAGS.base ∧
    r.addr i ∉ raiseAddrs ∧
    s.dev.w1cEdge ≠ edge (later dt s) + 1 ∧
    rd r i s.dev < 2 ^ r.width) ∧
    (∃ (dt : Nat) (h : SvcHdr) (p : Nat) (s : State) (k : Nat), Accepts k h 2 1 (later dt s) ∧
    p < 1024 ∧
    s.dev.w1cEdge ≠ edge (later dt s) + 1) ∧
    (∃ (dt : Nat) (h : SvcHdr) (p : Nat) (s : State) (k : Nat), Accepts k h 2 1 (later dt s) ∧
    p < 1024 ∧
    s.dev.w1cEdge ≠ edge (later dt s) + 1 ∧
    get PLY_STATE_STATE p s.dev = 2) ∧
    (∃ (dt : Nat) (h : SvcHdr) (t : Nat) (s : State) (k : Nat), Accepts k h 2 1 (later dt s) ∧
    t < 8 ∧
    s.dev.w1cEdge ≠ edge (later dt s) + 1) ∧
    (∃ (dt : Nat) (h : SvcHdr) (n : Nat) (s : State) (k : Nat), Accepts k h 2 1 (later dt s) ∧
    n < 24 ∧
    s.dev.w1cEdge ≠ edge (later dt s) + 1 ∧
    get FBK_FB_FLAGS_FAULTY n s.dev = 1 ∧
    fbCondNow n s.dev = false ∧
    ((s.dev.fbs.get {} n).condEdge = 0)) :=
  ⟨⟨0, ({ session := 7, seq := 1 } : SvcHdr), 5, 0, wSt (wPut [(PAIR_STATUS_STATE, 0, 9)] (wSvc (wRunR [wVar]))), 0, ⟨5, 1, 2, 0, 0, 0, 0⟩, by unfold Accepts; decide +kernel, by decide +kernel, by decide +kernel, by decide +kernel⟩,
   ⟨0, ({ session := 7, seq := 1 } : SvcHdr), 0, { seq := 1, code := 2 }, wSt (wPut [(PAIR_STATUS_STATE, 0, 9)] (wSvc (wRunR [wHank]))), 0, by unfold Accepts; decide +kernel, by decide +kernel, by decide +kernel, by decide +kernel, by decide +kernel, by decide +kernel, by decide +kernel, by decide +kernel, by decide +kernel, by decide +kernel, by decide +kernel⟩,
   ⟨1, ({ session := 7, seq := 1 } : SvcHdr), HANK_H_FLAGS.addr 31, 0x20, wSt (wSvc wRun), 0, HANK_H_FLAGS, 31, by unfold Accepts; decide +kernel, by decide +kernel, by decide +kernel, by decide +kernel, by decide +kernel, by decide +kernel, by decide +kernel, by decide +kernel, by decide +kernel, by decide +kernel, by decide +kernel, by decide +kernel⟩,
   ⟨1, ({ session := 7, seq := 1 } : SvcHdr), 1023, wSt (wSvc wRun), 0, by unfold Accepts; decide +kernel, by decide +kernel, by decide +kernel⟩,
   ⟨1, ({ session := 7, seq := 1 } : SvcHdr), 1023, wSt (wSvc (put PLY_STATE_STATE 1023 2 wRun)), 0, by unfold Accepts; decide +kernel, by decide +kernel, by decide +kernel, by decide +kernel⟩,
   ⟨1, ({ session := 7, seq := 1 } : SvcHdr), 7, wSt (wSvc wRun), 0, by unfold Accepts; decide +kernel, by decide +kernel, by decide +kernel⟩,
   ⟨10, ({ session := 7, seq := 1 } : SvcHdr), 23, wSt (wSvc (put FBK_FB_FLAGS_FAULTY 23 1 wRun)), 0, by unfold Accepts; decide +kernel, by decide +kernel, by decide +kernel, by decide +kernel, by decide +kernel, by decide +kernel⟩⟩
theorem test_w_StreamsAndTraces :
    (∃ (dt : Nat) (h : SvcHdr) (n : Nat) (addr : Nat) (s : State) (k : Nat), Accepts k h 2 1 (later dt s) ∧
    addr < 2 ^ 32 ∧
    streamDefined n s.dev = true) ∧
    (∃ (dt : Nat) (h : SvcHdr) (n : Nat) (s : State) (k : Nat), Accepts k h 2 1 (later dt s) ∧
    streamDefined n s.dev = true) ∧
    (∃ (dt : Nat) (h : SvcHdr) (b : Nat) (s : State) (k : Nat) (r : Rec), Accepts k h 2 1 (later dt s) ∧
    b < 8 ∧
    trcRec b s.dev = some r ∧
    ((get PLY_TRC_STATUS_STATE b s.dev = 0 ∨ get PLY_TRC_STATUS_STATE b s.dev = 4 ∧ (s.dev.trcs.get {} b).copying = false))) ∧
    (∃ (dt : Nat) (h : SvcHdr) (b : Nat) (s : State) (k : Nat) (r : Rec), Accepts k h 2 1 (later dt s) ∧
    b < 8 ∧
    trcRec b s.dev = some r ∧
    get PLY_TRC_STATUS_STATE b s.dev = 4 ∧
    ((s.dev.trcs.get {} b).copying = true)) ∧
    (∃ (dt : Nat) (h : SvcHdr) (b : Nat) (s : State) (k : Nat) (r : Rec), Accepts k h 2 1 (later dt s) ∧
    trcRec b s.dev = some r ∧
    1 ≤ get PLY_TRC_STATUS_STATE b s.dev ∧
    get PLY_TRC_STATUS_STATE b s.dev ≤ 3) ∧
    (∃ (dt : Nat) (h : SvcHdr) (b : Nat) (s : State) (k : Nat) (r : Rec), Accepts k h 2 1 (later dt s) ∧
    b < 8 ∧
    trcRec b s.dev = some r ∧
    4 ≤ get PLY_TRC_STATUS_STATE b s.dev ∧
    get PLY_TRC_STATUS_STATE b s.dev ≤ 5) :=
  ⟨⟨0, ({ session := 7, seq := 1 } : SvcHdr), 0, 1, wSt (wSvc wV), 0, by unfold Accepts; decide +kernel, by decide +kernel, by decide +kernel⟩,
   ⟨0, ({ session := 7, seq := 1 } : SvcHdr), 0, wSt (wSvc wV), 0, by unfold Accepts; decide +kernel, by decide +kernel⟩,
   ⟨0, ({ session := 7, seq := 1 } : SvcHdr), 0, wSt (wSvc (wRunR [wTrc])), 0, wTrc, by unfold Accepts; decide +kernel, by decide +kernel, by decide +kernel, by decide +kernel⟩,
   ⟨0, ({ session := 7, seq := 1 } : SvcHdr), 0, wSt (wSvc (wPut [(PLY_TRC_STATUS_STATE, 0, 4)] { wRunR [wTrc] with trcs := [(0, { copying := true })] })), 0, wTrc, by unfold Accepts; decide +kernel, by decide +kernel, by decide +kernel, by decide +kernel, by decide +kernel⟩,
   ⟨0, ({ session := 7, seq := 1 } : SvcHdr), 0, wSt (wSvc (wPut [(PLY_TRC_STATUS_STATE, 0, 3)] (wRunR [wTrc]))), 0, wTrc, by unfold Accepts; decide +kernel, by decide +kernel, by decide +kernel, by decide +kernel⟩,
   ⟨0, ({ session := 7, seq := 1 } : SvcHdr), 0, wSt (wSvc (wPut [(PLY_TRC_STATUS_STATE, 0, 4)] (wRunR [wTrc]))), 0, wTrc, by unfold Accepts; decide +kernel, by decide +kernel, by decide +kernel, by decide +kernel, by decide +kernel⟩⟩
theorem test_w_ShuttleControl :
    (∃ (dt : Nat) (h : SvcHdr) (tasks : Nat) (s : State) (k : Nat) (t : Nat), Accepts k h 3 1 (later dt s) ∧
    tasks < 256 ∧
    productionLocked s.dev = false ∧
    ((∀ t, t < 8 → bit tasks t = true → (taskRec t s.dev).isSome = true)) ∧
    t < 8 ∧
    bit tasks t = true ∧
    get SHU_TASK_STATE_STATE t s.dev = 1) ∧
    (∃ (dt : Nat) (h : SvcHdr) (tasks : Nat) (bk : List Nat) (s : State) (k : Nat) (t : Nat), Accepts k h 3 1 (later dt s) ∧
    tasks < 256 ∧
    productionLocked s.dev = false ∧
    ((∀ t, t < 8 → bit tasks t = true → (taskRec t s.dev).isSome = true)) ∧
    bk ≠ [] ∧
    bk.length ≤ 4 ∧
    ((∀ x ∈ bk, x < 65536)) ∧
    t < 8 ∧
    bit tasks t = true) ∧
    (∃ (dt : Nat) (h : SvcHdr) (tasks : Nat) (s : State) (k : Nat) (t : Nat), Accepts k h 3 1 (later dt s) ∧
    tasks < 256 ∧
    productionLocked s.dev = false ∧
    ((∀ t, t < 8 → bit tasks t = true → (taskRec t s.dev).isSome = true)) ∧
    t < 8 ∧
    bit tasks t = true) ∧
    (∃ (dt : Nat) (h : SvcHdr) (tasks : Nat) (s : State) (k : Nat) (t : Nat), Accepts k h 3 1 (later dt s) ∧
    tasks < 256 ∧
    productionLocked s.dev = false ∧
    ((∀ t, t < 8 → bit tasks t = true → (taskRec t s.dev).isSome = true)) ∧
    t < 8 ∧
    bit tasks t = true) ∧
    (∃ (dt : Nat) (h : SvcHdr) (tasks : Nat) (s : State) (k : Nat) (t : Nat), Accepts k h 3 1 (later dt s) ∧
    tasks < 256 ∧
    productionLocked s.dev = false ∧
    ((∀ t, t < 8 → bit tasks t = true → (taskRec t s.dev).isSome = true)) ∧
    t < 8 ∧
    bit tasks t = true ∧
    (get SHU_TASK_STATE_STATE t s.dev = 2 ∨ get SHU_TASK_STATE_STATE t s.dev = 3)) :=
  ⟨⟨0, ({ session := 7, seq := 1 } : SvcHdr), 1, wSt (wSvc (wPut [(SHU_TASK_STATE_STATE, 0, 1)] (wRunR [wTask]))), 0, 0, by unfold Accepts; decide +kernel, by decide +kernel, by decide +kernel, by decide +kernel, by decide +kernel, by decide +kernel, by decide +kernel⟩,
   ⟨0, ({ session := 7, seq := 1 } : SvcHdr), 1, [65535], wSt (wSvc (wPut [(SHU_TASK_STATE_STATE, 0, 1)] (wRunR [wTask]))), 0, 0, by unfold Accepts; decide +kernel, by decide +kernel, by decide +kernel, by decide +kernel, by decide +kernel, by decide +kernel, by decide +kernel, by decide +kernel, by decide +kernel⟩,
   ⟨0, ({ session := 7, seq := 1 } : SvcHdr), 1, wSt (wSvc (wPut [(SHU_TASK_STATE_STATE, 0, 1)] (wRunR [wTask]))), 0, 0, by unfold Accepts; decide +kernel, by decide +kernel, by decide +kernel, by decide +kernel, by decide +kernel, by decide +kernel⟩,
   ⟨0, ({ session := 7, seq := 1 } : SvcHdr), 1, wSt (wSvc (wPut [(SHU_TASK_STATE_STATE, 0, 1)] (wRunR [wTask]))), 0, 0, by unfold Accepts; decide +kernel, by decide +kernel, by decide +kernel, by decide +kernel, by decide +kernel, by decide +kernel⟩,
   ⟨0, ({ session := 7, seq := 1 } : SvcHdr), 1, wSt (wSvc (wPut [(SHU_TASK_STATE_STATE, 0, 3)] (wRunR [wTask]))), 0, 0, by unfold Accepts; decide +kernel, by decide +kernel, by decide +kernel, by decide +kernel, by decide +kernel, by decide +kernel, by decide +kernel⟩⟩
theorem test_w_FuseWrite : ∃ (dt : Nat) (h : SvcHdr) (field : Nat) (v : Nat) (s : State) (k : Nat) (lo : Nat) (w : Nat), Accepts k h 3 3 (later dt s) ∧
    fuseRange field = some (lo, w) ∧
    v < 2 ^ w :=
  ⟨0, ({ session := 7, seq := 1 } : SvcHdr), 2, 2 ^ 64 - 1, wSt (wSvc (wPhase .programming w0)), 0, 512, 64, by unfold Accepts; decide +kernel, by decide +kernel, by decide +kernel⟩
theorem test_w_ServiceRestarts :
    (∃ (dt : Nat) (h : SvcHdr) (s : State) (k : Nat), Accepts k h 3 4 (later dt s) ∧
    productionLocked s.dev = false ∧
    ((s.dev.unit.stopped = false ∨ s.dev.unit.lastF4 = 0 ∨ s.dev.unit.noRestart = false))) ∧
    (∃ (dt : Nat) (h : SvcHdr) (s : State) (k : Nat), Accepts k h 3 4 (later dt s) ∧
    productionLocked s.dev = false ∧
    ((s.dev.unit.stopped = false ∨ s.dev.unit.lastF4 = 0 ∨ s.dev.unit.noRestart = false))) ∧
    (∃ (dt : Nat) (h : SvcHdr) (s : State) (k : Nat), Accepts k h 3 4 (later dt s) ∧
    productionLocked s.dev = false ∧
    s.dev.unit.stopped = false ∧
    s.dev.unit.orderly = 0) ∧
    (∃ (dt : Nat) (s : State), s.dev.unit.orderly = 1 ∧
    s.dev.unit.stopped = false ∧
    (((∀ r ∈ recsOf 0x0A01 s.dev, hankState (r.u P0A01_HANK) s.dev = 0 ∨ hankState (r.u P0A01_HANK) s.dev = 3) ∨ 400000000 ≤ since s.dev.unit.stopEdge (later dt s)))) ∧
    (∃ (dt : Nat) (s : State), s.dev.unit.orderly = 1 ∧
    s.dev.unit.stopped = false ∧
    (((∀ r ∈ recsOf 0x0A01 s.dev, hankState (r.u P0A01_HANK) s.dev = 0 ∨ hankState (r.u P0A01_HANK) s.dev = 3) ∨ 400000000 ≤ since s.dev.unit.stopEdge (later dt s))) ∧
    (¬ ∀ t ∈ retainTasks s.dev, get SHU_TASK_STATE_STATE t s.dev ≠ 1)) ∧
    (∃ (s : State), s.dev.unit.orderly = 3 ∧
    s.dev.unit.stopped = false ∧
    s.dev.unit.owing = []) ∧
    (∃ (s : State), s.dev.unit.orderly = 3 ∧
    s.dev.unit.stopped = false ∧
    s.dev.unit.owing = [] ∧
    storeReady s.dev = true) ∧
    (∃ (dt : Nat) (s : State), s.dev.unit.orderly = 1 ∧
    ((∃ r ∈ recsOf 0x0A01 s.dev, hankState (r.u P0A01_HANK) s.dev ≠ 0 ∧ hankState (r.u P0A01_HANK) s.dev ≠ 3)) ∧
    since s.dev.unit.stopEdge (later dt s) < 400000000) :=
  ⟨⟨0, ({ session := 7, seq := 1 } : SvcHdr), wSt (wSvc wRun), 0, by unfold Accepts; decide +kernel, by decide +kernel, by decide +kernel⟩,
   ⟨0, ({ session := 7, seq := 1 } : SvcHdr), wSt (wSvc wRun), 0, by unfold Accepts; decide +kernel, by decide +kernel, by decide +kernel⟩,
   ⟨0, ({ session := 7, seq := 1 } : SvcHdr), wSt (wSvc wRun), 0, by unfold Accepts; decide +kernel, by decide +kernel, by decide +kernel, by decide +kernel⟩,
   ⟨0, wSt { wRun with unit := { wRun.unit with orderly := 1 } }, by decide +kernel, by decide +kernel, by decide +kernel⟩,
   ⟨0, wSt (wPut [(SHU_TASK_STATE_STATE, 0, 1)] { wRunR [wTask, tRec 3 0x0903 28 [(⟨0, 2, 0⟩, 0, 1), (P0903_VAR_ID, 0, 5), (P0903_TYPE, 0, 1), (P0903_FLAGS, 0, 1)]] with unit := { wRun.unit with orderly := 1 } }), by decide +kernel, by decide +kernel, by decide +kernel, by decide +kernel⟩,
   ⟨wSt { wRun with unit := { wRun.unit with orderly := 3 } }, by decide +kernel, by decide +kernel, by decide +kernel⟩,
   ⟨wSt { wStore 3 {} with unit := { wRun.unit with orderly := 3 } }, by decide +kernel, by decide +kernel, by decide +kernel, by decide +kernel⟩,
   ⟨0, wSt { wHankD 2 {} with unit := { wRun.unit with orderly := 1 } }, by decide +kernel, by decide +kernel, by decide +kernel⟩⟩
theorem test_w_ExchangeCommands :
    (∃ (dt : Nat) (h : SvcHdr) (bs : List Nat) (s : State) (k : Nat), Accepts k h 3 2 (later dt s) ∧
    bs ≠ [] ∧
    bs.length ≤ 1024 ∧
    bs.length % 4 = 0 ∧
    ((∀ b ∈ bs, b ≤ 255)) ∧
    mayExchange s.dev = true ∧
    get FUSE_XCHG_STATE 0 s.dev = 0 ∧
    (¬ (isMember s.dev = true ∧ (s.dev.pairx.partnerState = 3 ∨ s.dev.pairx.partnerState = 4)))) ∧
    (∃ (dt : Nat) (h : SvcHdr) (off : Nat) (bs : List Nat) (s : State) (k : Nat), Accepts k h 3 2 (later dt s) ∧
    bs ≠ [] ∧
    bs.length ≤ 1024 ∧
    bs.length % 4 = 0 ∧
    ((∀ b ∈ bs, b ≤ 255)) ∧
    mayExchange s.dev = true ∧
    0 < off ∧
    get FUSE_XCHG_STATE 0 s.dev = 1 ∧
    off = s.dev.xchg.got ∧
    off + bs.length ≤ 0x800000) ∧
    (∃ (dt : Nat) (h : SvcHdr) (sc : Stamp) (s : State) (k : Nat), Accepts k h 3 2 (later dt s) ∧
    sc < 2 ^ 64 ∧
    mayExchange s.dev = true ∧
    get FUSE_XCHG_STATE 0 s.dev = 3 ∧
    now (later dt s) + 6400000 ≤ sc ∧
    sc ≤ now (later dt s) + 64000000000) ∧
    (∃ (dt : Nat) (h : SvcHdr) (s : State) (k : Nat), Accepts k h 3 2 (later dt s) ∧
    mayExchange s.dev = true ∧
    ((get FUSE_XCHG_STATE 0 s.dev = 1 ∨ get FUSE_XCHG_STATE 0 s.dev = 3))) ∧
    (∃ (dt : Nat) (h : SvcHdr) (off : Nat) (bs : List Nat) (sc : Nat) (s : State) (k : Nat) (i : Instr), ((i = .imageTransfer dt h off bs ∧ bs ≠ [] ∧ bs.length ≤ 1024 ∧ bs.length % 4 = 0 ∧ (∀ b ∈ bs, b ≤ 255) ∧ off < 2 ^ 32) ∨ (i = .imageCommit dt h sc ∧ sc < 2 ^ 64) ∨ i = .imageAbort dt h) ∧
    Accepts k h 3 2 (later dt s) ∧
    mayExchange s.dev = false) ∧
    (∃ (dt : Nat) (h : SvcHdr) (off : Nat) (bs : List Nat) (sc : Nat) (s : State) (k : Nat) (i : Instr), ((i = .imageTransfer dt h off bs ∧ bs ≠ [] ∧ bs.length ≤ 1024 ∧ bs.length % 4 = 0 ∧ (∀ b ∈ bs, b ≤ 255) ∧ off < 2 ^ 32) ∨ (i = .imageCommit dt h sc ∧ sc < 2 ^ 64) ∨ i = .imageAbort dt h) ∧
    Accepts k h 3 2 (later dt s) ∧
    mayExchange s.dev = false ∧
    i = .imageTransfer dt h off bs) :=
  ⟨⟨0, ({ session := 7, seq := 1 } : SvcHdr), zeros 1024, wSt (wSvc (wPut [(PAIR_STATUS_STATE, 0, 9)] wRun)), 0, by unfold Accepts; decide +kernel, by decide +kernel, by decide +kernel, by decide +kernel, by decide +kernel, by decide +kernel, by decide +kernel, by decide +kernel⟩,
   ⟨0, ({ session := 7, seq := 1 } : SvcHdr), 4, zeros 1024, wSt (wSvc (wPut [(FUSE_XCHG_STATE, 0, 1)] { wPut [(PAIR_STATUS_STATE, 0, 9)] wRun with xchg := { got := 4 } })), 0, by unfold Accepts; decide +kernel, by decide +kernel, by decide +kernel, by decide +kernel, by decide +kernel, by decide +kernel, by decide +kernel, by decide +kernel, by decide +kernel, by decide +kernel⟩,
   ⟨0, ({ session := 7, seq := 1 } : SvcHdr), 6400000, wSt (wSvc (wPut [(FUSE_XCHG_STATE, 0, 3), (PAIR_STATUS_STATE, 0, 9)] wRun)), 0, by unfold Accepts; decide +kernel, by decide +kernel, by decide +kernel, by decide +kernel, by decide +kernel, by decide +kernel⟩,
   ⟨0, ({ session := 7, seq := 1 } : SvcHdr), wSt (wSvc (wPut [(FUSE_XCHG_STATE, 0, 1)] (wPut [(PAIR_STATUS_STATE, 0, 9)] wRun))), 0, by unfold Accepts; decide +kernel, by decide +kernel, by decide +kernel⟩,
   ⟨0, ({ session := 7, seq := 1 } : SvcHdr), 4, [0, 0, 0, 0], 0, wSt (wSvc (wPairM 8 {})), 0, .imageAbort 0 ({ session := 7, seq := 1 } : SvcHdr), .inr (.inr rfl), by unfold Accepts; decide +kernel, by decide +kernel⟩,
   ⟨0, ({ session := 7, seq := 1 } : SvcHdr), 4, [0, 0, 0, 0], 0, wSt (wSvc (wPairM 8 {})), 0, .imageTransfer 0 ({ session := 7, seq := 1 } : SvcHdr) 4 [0, 0, 0, 0], .inl ⟨rfl, by decide +kernel, by decide +kernel, by decide +kernel, by decide +kernel, by decide +kernel⟩, by unfold Accepts; decide +kernel, by decide +kernel, rfl⟩⟩
theorem test_w_ExchangeEvents :
    (∃ (dt : Nat) (s : State), get FUSE_XCHG_STATE 0 s.dev = 1 ∧
    4000000000 ≤ since s.dev.xchg.lastEdge (later dt s)) ∧
    (∃ (dt : Nat) (s : State) (o : Img), get FUSE_XCHG_STATE 0 s.dev = 2 ∧
    s.dev.xchg.headerDone = false ∧
    xchgCheck s.fuses s.ident (later dt s) = .ok o ∧
    s.dev.unit.phase = .run ∧
    s.dev.xchg.fromPair = false ∧
    pairState s.dev ≠ 5) ∧
    (∃ (dt : Nat) (s : State) (o : Img), get FUSE_XCHG_STATE 0 s.dev = 2 ∧
    s.dev.xchg.headerDone = false ∧
    xchgCheck s.fuses s.ident (later dt s) = .ok o ∧
    s.dev.unit.phase = .run ∧
    s.dev.xchg.fromPair = false ∧
    pairState s.dev = 5) ∧
    (∃ (dt : Nat) (s : State) (o : Img), get FUSE_XCHG_STATE 0 s.dev = 2 ∧
    s.dev.xchg.headerDone = false ∧
    xchgCheck s.fuses s.ident (later dt s) = .ok o ∧
    (s.dev.unit.phase = .loadFail ∨ s.dev.xchg.fromPair = true)) ∧
    (∃ (dt : Nat) (s : State) (r : Reject), get FUSE_XCHG_STATE 0 s.dev = 2 ∧
    s.dev.xchg.headerDone = false ∧
    xchgCheck s.fuses s.ident (later dt s) = .error (some r) ∧
    s.dev.xchg.fromPair = false) ∧
    (∃ (dt : Nat) (s : State), get FUSE_XCHG_STATE 0 s.dev = 2 ∧
    s.dev.xchg.headerDone = false ∧
    xchgCheck s.fuses s.ident (later dt s) = .error none ∧
    s.dev.xchg.fromPair = false) ∧
    (∃ (dt : Nat) (s : State), get FUSE_XCHG_STATE 0 s.dev = 2 ∧
    s.dev.xchg.headerDone = true ∧
    12000000000 ≤ since s.dev.xchg.headerEdge (later dt s)) :=
  ⟨⟨4000000000, wSt (wPut [(FUSE_XCHG_STATE, 0, 1)] wRun), by decide +kernel, by decide +kernel⟩,
   ⟨0, wSt { wImg wSmall (wPut [(FUSE_XCHG_STATE, 0, 2)] wRun) with flash := tCells 0x800100 wBody, xchg := { header := wHead 1 }, img := some ⟨wHead 0, wSmall⟩ }, ⟨wHead 1, wSmall⟩, by decide +kernel, by decide +kernel, by decide +kernel, by decide +kernel, by decide +kernel, by decide +kernel⟩,
   ⟨0, wSt { wImg wSmall (wPut [(FUSE_XCHG_STATE, 0, 2)] (wPut [(PAIR_STATUS_STATE, 0, 5)] wRun)) with flash := tCells 0x800100 wBody, xchg := { header := wHead 1 }, img := some ⟨wHead 0, wSmall⟩ }, ⟨wHead 1, wSmall⟩, by decide +kernel, by decide +kernel, by decide +kernel, by decide +kernel, by decide +kernel, by decide +kernel⟩,
   ⟨0, wSt { wImg wSmall (wPut [(FUSE_XCHG_STATE, 0, 2)] (wPhase .loadFail w0)) with flash := tCells 0x100 wBody, xchg := { header := wHead 1 }, img := none }, ⟨wHead 1, wSmall⟩, by decide +kernel, by decide +kernel, by decide +kernel, by decide +kernel⟩,
   ⟨0, wSt (wPut [(FUSE_XCHG_STATE, 0, 2)] wRun), { code := 0x0201 }, by decide +kernel, by decide +kernel, by decide +kernel, by decide +kernel⟩,
   ⟨0, wSt { wImg wSmall (wPut [(FUSE_XCHG_STATE, 0, 2)] wRun) with flash := tCells 0x800100 wBody, xchg := { header := wHead 1 }, img := none }, by decide +kernel, by decide +kernel, by decide +kernel, by decide +kernel⟩,
   ⟨12000000000, wSt (wPut [(FUSE_XCHG_STATE, 0, 2)] { wRun with xchg := { headerDone := true } }), by decide +kernel, by decide +kernel, by decide +kernel⟩⟩
theorem test_w_CanBus :
    (∃ (c : Nat) (s : State), c < 4 ∧
    canState c s.dev = 1) ∧
    (∃ (dt : Nat) (c : Nat) (s : State) (r : Rec), c < 4 ∧
    canRec c s.dev = some r ∧
    canState c s.dev = 4 ∧
    r.u P0D01_BUSOFF_HOLD * 400000 ≤ since (canX c s.dev).offEdge (later dt s)) ∧
    (∃ (dt : Nat) (c : Nat) (s : State), c < 4 ∧
    canState c s.dev = 5 ∧
    recoveryEdges c s.dev ≤ since (canX c s.dev).offEdge (later dt s)) ∧
    (∃ (c : Nat) (s : State), c < 4 ∧
    ((canRec c s.dev).isSome = true) ∧
    canOnBus c s.dev = true) ∧
    (∃ (dt : Nat) (c : Nat) (b : Nat) (began : Nat) (s : State) (r : Rec), c < 4 ∧
    txRec c b s.dev = some r ∧
    canOnBus c s.dev = true ∧
    offered c b (edge (later dt s) - began) s.dev = true) ∧
    (∃ (c : Nat) (s : State) (r : Rec), c < 4 ∧
    canRec c s.dev = some r ∧
    canOnBus c s.dev = true ∧
    filterRec c s.dev = none) ∧
    (∃ (c : Nat) (f : CanFrame) (s : State) (r : Rec) (q : Rec) (i : Nat), c < 4 ∧
    canRec c s.dev = some r ∧
    canState c s.dev = 2 ∧
    ((canX c s.dev).tec < 128) ∧
    ((canX c s.dev).rec_ < 128) ∧
    f.rtr = false ∧
    filterRec c s.dev = some q ∧
    matchPair q f = some i ∧
    bit (q.u P0D02_FLAGS i) 1 = false ∧
    bit (q.u P0D02_FLAGS i) 2 = false ∧
    isStandby s.dev = false ∧
    ((canX c s.dev).q0.length < 64)) ∧
    (∃ (dt : Nat) (c : Nat) (s : State) (q : CanRx) (t : List CanRx) (r : Rec), c < 4 ∧
    ((canX c s.dev).q0 = q :: t) ∧
    mapRec c s.dev = some r ∧
    q.valid + 2 * us16 ≤ now (later dt s)) ∧
    (∃ (dt : Nat) (c : Nat) (pair : Nat) (s : State) (r : Rec) (i : Nat), c < 4 ∧
    filterRec c s.dev = some r ∧
    ((List.range (r.uAt 1 1)).find? (fun i => r.u P0D02_PAIR i == pair) = some i) ∧
    r.u P0D02_TIMEOUT i ≠ 0 ∧
    r.u P0D02_TIMEOUT i * 400000 ≤ since ((canX c s.dev).lastAt.get 0 pair) (later dt s) ∧
    isActiveFault 0x0D04 (c * 64 + pair) s.dev = false) ∧
    (∃ (dt : Nat) (c : Nat) (b : Nat) (began : Nat) (tdc : Nat) (s : State) (r : Rec) (n : Nat) (data : List Nat), c < 4 ∧
    txRec c b s.dev = some r ∧
    loadAt (edge (later dt s) - began) ((canX c s.dev).bufs.get {} b) = some (n, data) ∧
    canOnBus c s.dev = true ∧
    offered c b (edge (later dt s) - began) s.dev = true ∧
    tdcOut c tdc r s.dev = false) :=
  ⟨⟨3, wSt (wPut [(CAN_C_STATE_STATE, 3, 1)] wRun), by decide +kernel, by decide +kernel⟩,
   ⟨0, 0, wSt (wPut [(CAN_C_STATE_STATE, 0, 4)] wCan), wCanR, by decide +kernel, by decide +kernel, by decide +kernel, by decide +kernel⟩,
   ⟨0, 3, wSt (wPut [(CAN_C_STATE_STATE, 3, 5)] wRun), by decide +kernel, by decide +kernel, by decide +kernel⟩,
   ⟨0, wSt (wPut [(CAN_C_STATE_STATE, 0, 2)] wCan), by decide +kernel, by decide +kernel, by decide +kernel⟩,
   ⟨0, 0, 0, 0, wSt (wPut [(CAN_C_STATE_STATE, 0, 2)] wCan), wCanTx, by decide +kernel, by decide +kernel, by decide +kernel, by decide +kernel⟩,
   ⟨0, wSt (wPut [(CAN_C_STATE_STATE, 0, 2)] (wRunR [wCanR])), wCanR, by decide +kernel, by decide +kernel, by decide +kernel, by decide +kernel⟩,
   ⟨0, ({} : CanFrame), wSt (wPut [(CAN_C_STATE_STATE, 0, 2)] wCan), wCanR, wCanF, 0, by decide +kernel, by decide +kernel, by decide +kernel, by decide +kernel, by decide +kernel, by decide +kernel, by decide +kernel, by decide +kernel, by decide +kernel, by decide +kernel, by decide +kernel, by decide +kernel⟩,
   ⟨800, 0, wSt (wPut [(CAN_C_STATE_STATE, 0, 2)] { wCan with cans := [(0, { q0 := [{ sof := 0 }] })] }), {}, [], wCanM, by decide +kernel, by decide +kernel, by decide +kernel, by decide +kernel⟩,
   ⟨400000, 0, 0, wSt (wPut [(CAN_C_STATE_STATE, 0, 2)] wCan), wCanF, 0, by decide +kernel, by decide +kernel, by decide +kernel, by decide +kernel, by decide +kernel, by decide +kernel⟩,
   ⟨0, 0, 0, 0, 0, wSt (wPut [(CAN_C_STATE_STATE, 0, 2)] wCan), wCanTx, 0, [0], by decide +kernel, by decide +kernel, by decide +kernel, by decide +kernel, by decide +kernel, by decide +kernel⟩⟩
theorem test_w_LoopPortEvents :
    (∃ (dt : Nat) (n : Nat) (s : State) (r : Rec), n < 8 ∧
    loopRec n s.dev = some r ∧
    r.u P0E01_MODE ≠ 2 ∧
    ((loopX n s.dev).conv = [] ∨ (loopX n s.dev).convEdge + (if r.u P0E01_MODE = 3 then 4000 else 40000) ≤ edge (later dt s))) ∧
    (∃ (n : Nat) (s : State) (r : Rec), n < 8 ∧
    loopRec n s.dev = some r ∧
    r.u P0E01_MODE = 2) ∧
    (∃ (dt : Nat) (n : Nat) (s : State), n < 8 ∧
    get LPP_P_STATE_STATUS n s.dev = 3 ∧
    4000000 ≤ since (loopX n s.dev).limEdge (later dt s)) :=
  ⟨⟨0, 0, wSt wLoop, wLoopIn, by decide +kernel, by decide +kernel, by decide +kernel, by decide +kernel⟩,
   ⟨1, wSt wLoop, wLoopOut, by decide +kernel, by decide +kernel, by decide +kernel⟩,
   ⟨4000000, 7, wSt (wPut [(LPP_P_STATE_STATUS, 7, 3)] wRun), by decide +kernel, by decide +kernel, by decide +kernel⟩⟩
theorem test_w_HartTransaction :
    (∃ (dt : Nat) (n : Nat) (i : Nat) (s : State) (r : Rec), n < 8 ∧
    pollRec n s.dev = some r ∧
    i < r.uAt 1 1 ∧
    pollDue n r i (later dt s) = true ∧
    ((loopX n s.dev).phase = 0) ∧
    isStandby s.dev = false) ∧
    (∃ (n : Nat) (s : State), ((loopX n s.dev).phase = 1)) ∧
    (∃ (n : Nat) (bs : List Nat) (s : State) (r : Rec), pollRec n s.dev = some r ∧
    ((loopX n s.dev).phase = 2) ∧
    hartForeign bs = false ∧
    hartGood r (loopX n s.dev).entry bs = true) ∧
    (∃ (dt : Nat) (n : Nat) (s : State) (r : Rec), pollRec n s.dev = some r ∧
    ((loopX n s.dev).phase = 2) ∧
    r.uAt 4 2 * 400000 ≤ since (loopX n s.dev).edge (later dt s) ∧
    ((loopX n s.dev).fails < r.uAt 3 1)) ∧
    (∃ (dt : Nat) (n : Nat) (s : State) (r : Rec), n < 8 ∧
    pollRec n s.dev = some r ∧
    ((loopX n s.dev).phase = 2) ∧
    r.uAt 4 2 * 400000 ≤ since (loopX n s.dev).edge (later dt s) ∧
    r.uAt 3 1 ≤ (loopX n s.dev).fails) ∧
    (∃ (dt : Nat) (n : Nat) (s : State) (r : Rec), pollRec n s.dev = some r ∧
    r.uAt 1 1 ≠ 0 ∧
    ((loopX n s.dev).phase = 3) ∧
    ((loopX n s.dev).again = true) ∧
    isStandby s.dev = false ∧
    29333334 ≤ since (loopX n s.dev).edge (later dt s)) ∧
    (∃ (dt : Nat) (n : Nat) (s : State) (r : Rec) (t : Nat) (i : Nat) (body : List Nat) (rest : List (Nat × Nat × List Nat)), n < 8 ∧
    pollRec n s.dev = some r ∧
    ((loopX n s.dev).resp = (t, i, body) :: rest) ∧
    t + 100 * us16 ≤ now (later dt s)) :=
  ⟨⟨0, 1, 0, wSt wLoop, wPoll, by decide +kernel, by decide +kernel, by decide +kernel, by decide +kernel, by decide +kernel, by decide +kernel⟩,
   ⟨1, wSt { wLoop with loops := [(1, { phase := 1 })] }, by decide +kernel⟩,
   ⟨1, [0x86, 0x80, 0, 0, 0, 0, 0, 2, 0, 0, 0x04], wSt { wLoop with loops := [(1, { phase := 2 })] }, wPoll, by decide +kernel, by decide +kernel, by decide +kernel, by decide +kernel⟩,
   ⟨400000, 1, wSt { wLoop with loops := [(1, { phase := 2 })] }, wPoll, by decide +kernel, by decide +kernel, by decide +kernel, by decide +kernel⟩,
   ⟨400000, 1, wSt { wLoop with loops := [(1, { phase := 2, fails := 1 })] }, wPoll, by decide +kernel, by decide +kernel, by decide +kernel, by decide +kernel, by decide +kernel⟩,
   ⟨29333334, 1, wSt { wLoop with loops := [(1, { phase := 3, again := true })] }, wPoll, by decide +kernel, by decide +kernel, by decide +kernel, by decide +kernel, by decide +kernel, by decide +kernel⟩,
   ⟨40001, 1, wSt { wLoop with loops := [(1, { resp := [(0, 0, [])] })] }, wPoll, 0, 0, [], [], by decide +kernel, by decide +kernel, by decide +kernel, by decide +kernel⟩⟩
theorem test_w_HeddleStates :
    (∃ (dt : Nat) (sl : Nat) (s : State), heddle s.dev = 0 ∧
    slotOwn sl s.dev = true ∧
    coldAllowed (later dt s) = true ∧
    slotSync sl s.dev = true) ∧
    (∃ (dt : Nat) (sl : Nat) (s : State), heddle s.dev = 1 ∧
    slotOwn sl s.dev = true ∧
    markFits sl (later dt s) = true) ∧
    (∃ (dt : Nat) (sl : Nat) (s : State), heddle s.dev = 1 ∧
    slotOwn sl s.dev = true ∧
    markFits sl (later dt s) = false) ∧
    (∃ (dt : Nat) (s : State) (sl : Nat) (m : Nat), heddle s.dev = 1 ∧
    s.dev.weft.mark = some (sl, m) ∧
    0 < (markError m (nextMark sl s.dev).2 (later dt s)).1 ∧
    ((markError m (nextMark sl s.dev).2 (later dt s)).2 < 10000 * (markError m (nextMark sl s.dev).2 (later dt s)).1.natAbs)) ∧
    (∃ (dt : Nat) (s : State) (sl : Nat) (lo : Nat) (hi : Nat), s.dev.weft.span = some (sl, lo, hi) ∧
    hi ≤ edge (later dt s)) ∧
    (∃ (s : State), heddle s.dev ≠ 2) ∧
    (∃ (dt : Nat) (s : State), heddle s.dev = 2 ∧
    s.dev.weft.gdclkAt + 400000 ≤ edge (later dt s)) :=
  ⟨⟨0, 0, wSt (wWeft 0), by decide +kernel, by decide +kernel, by decide +kernel, by decide +kernel⟩,
   ⟨400, 0, wSt (wPut [(WEFT_STATUS_HEDDLE, 0, 1)] (wWeftX { mark := some (0, 0) } 0)), by decide +kernel, by decide +kernel, by decide +kernel⟩,
   ⟨500, 0, wSt (wPut [(WEFT_STATUS_HEDDLE, 0, 1)] (wWeftX { mark := some (0, 0) } 0)), by decide +kernel, by decide +kernel, by decide +kernel⟩,
   ⟨440, wSt (wPut [(WEFT_STATUS_HEDDLE, 0, 1)] (wWeftX { mark := some (0, 0) } 0)), 0, 0, by decide +kernel, by decide +kernel, by decide +kernel, by decide +kernel⟩,
   ⟨0, wSt (wWeftX { span := some (0, 0, 0) } 0), 0, 0, 0, by decide +kernel, by decide +kernel⟩,
   ⟨wSt (wWeft 1), by decide +kernel⟩,
   ⟨400000, wSt (wPut [(WEFT_STATUS_HEDDLE, 0, 2)] (wWeft 1)), by decide +kernel, by decide +kernel⟩⟩
theorem test_w_WeftFrames :
    (∃ (ch : Nat) (f : WeftFrame) (s : State), chanOn ch s.dev = true ∧
    weftState s.dev = 4 ∧
    f.slot < weftSlots s.dev ∧
    f.good = false ∧
    f.cause = 3) ∧
    (∃ (dt : Nat) (ch : Nat) (f : WeftFrame) (s : State), chanOn ch s.dev = true ∧
    weftState s.dev = 4 ∧
    f.slot < weftSlots s.dev ∧
    f.good = true ∧
    ((nearestCycle ch f.slot f.sof (later dt s)).2.natAbs ≤ 64 * selvage s.dev) ∧
    headerOk f.slot f s.dev = true ∧
    f.cycle % 65536 = (nearestCycle ch f.slot f.sof (later dt s)).1 % 65536) ∧
    (∃ (dt : Nat) (sl : Nat) (s : State), s.dev.weft.timed = true ∧
    slotOwn sl s.dev = true ∧
    ((s.dev.weft.asm.get {} (2 * sl + s.dev.weft.n % 2)).cycle1 ≠ s.dev.weft.n + 1) ∧
    startOf s.dev.weft.n s.dev + ns16 (slotU P0B02_OFFSET sl s.dev) - us16 ≤ (now (later dt s) : Int) ∧
    ((now (later dt s) : Int) ≤ actionPoint sl s.dev.weft.n s.dev)) ∧
    (∃ (dt : Nat) (sl : Nat) (s : State), s.dev.weft.timed = true ∧
    slotOwn sl s.dev = true ∧
    ((s.dev.weft.asm.get {} (2 * sl + s.dev.weft.n % 2)).cycle1 = s.dev.weft.n + 1) ∧
    ((s.dev.weft.asm.get {} (2 * sl + s.dev.weft.n % 2)).sends = true) ∧
    ((s.dev.weft.asm.get {} (2 * sl + s.dev.weft.n % 2)).sent = false) ∧
    ((s.dev.weft.asm.get {} (2 * sl + s.dev.weft.n % 2)).unready = false) ∧
    actionPoint sl s.dev.weft.n s.dev ≤ (now (later dt s) : Int) ∧
    shedOpen sl (later dt s) = true) ∧
    (∃ (bs : List Nat) (bs' : List Nat), ((∀ b ∈ bs, b < 256)) ∧
    ((∀ b ∈ bs', b < 256)) ∧
    frameLine bs = frameLine bs') ∧
    (∃ (plus : Bool) (bs : List Nat) (g : Nat), g ∈ codeGroups plus bs) :=
  ⟨⟨0, { good := false, cause := 3 }, wSt (wWeft 4), by decide +kernel, by decide +kernel, by decide +kernel, by decide +kernel, by decide +kernel⟩,
   ⟨0, 0, { slot := 0, flags := 1, sof := 385280 }, wSt (wWeft 4), by decide +kernel, by decide +kernel, by decide +kernel, by decide +kernel, by decide +kernel, by decide +kernel, by decide +kernel⟩,
   ⟨0, 0, wSt (wWeftX { timed := true } 0), by decide +kernel, by decide +kernel, by decide +kernel, by decide +kernel, by decide +kernel⟩,
   ⟨30000, 0, wSt (wWeftX { timed := true, asm := [(0, { cycle1 := 1, sends := true })], span := some (0, 0, 10 ^ 9) } 0), by decide +kernel, by decide +kernel, by decide +kernel, by decide +kernel, by decide +kernel, by decide +kernel, by decide +kernel, by decide +kernel⟩,
   ⟨[255, 0], [255, 0], by decide +kernel, by decide +kernel, by decide +kernel⟩,
   ⟨true, [0], (codeGroup true 0).1, by decide +kernel⟩⟩
theorem test_w_WeftCycle :
    (∃ (dt : Nat) (sl : Nat) (s : State) (c : Nat), s.dev.weft.timed = true ∧
    sl < weftSlots s.dev ∧
    ((s.dev.weft.n : Int) + ((now (later dt s) : Int) - s.dev.weft.start - ns16 (slotU P0B02_OFFSET sl s.dev + slotU P0B02_LENGTH sl s.dev + orD (schedRec s.dev) P0B02_RX_LAG 0)) / weftCycle16 s.dev = (c : Nat)) ∧
    ((s.dev.weft.got.get {} sl).next ≤ c)) ∧
    (∃ (dt : Nat) (s : State), s.dev.weft.timed = true ∧
    weftState s.dev ≠ 0 ∧
    s.dev.weft.start + weftCycle16 s.dev ≤ now (later dt s) ∧
    s.dev.unit.phase = .run ∧
    recsOf 0x0B04 s.dev = [] ∧
    s.dev.pairx.joinReq = false) ∧
    (∃ (dt : Nat) (s : State), weftState s.dev = 1 ∧
    s.dev.weft.dead = false ∧
    s.dev.weft.listenUntil ≤ edge (later dt s) ∧
    ((bit (orD (nodeRec s.dev) P0B01_FLAGS 0) 0 = false ∨ s.dev.unit.stopped = true))) ∧
    (∃ (dt : Nat) (s : State) (sl : Nat), weftState s.dev = 1 ∧
    s.dev.weft.dead = false ∧
    s.dev.weft.listenUntil ≤ edge (later dt s) ∧
    bit (orD (nodeRec s.dev) P0B01_FLAGS 0) 0 = true ∧
    s.dev.unit.stopped = false ∧
    syncSlotOf (ownNode s.dev) s.dev = some sl) ∧
    (∃ (dt : Nat) (s : State), weftState s.dev = 2 ∧
    s.dev.weft.echoBy ≠ 0 ∧
    s.dev.weft.echoBy - 1 ≤ edge (later dt s)) ∧
    (∃ (dt : Nat) (s : State), weftState s.dev = 5 ∧
    s.dev.weft.lostAt + weftCycle16 s.dev ≤ now (later dt s)) ∧
    (∃ (dt : Nat) (s : State), s.dev.weft.reint = true ∧
    s.dev.weft.dead = false ∧
    s.dev.weft.lostAt + orD (nodeRec s.dev) P0B01_REINT_CYCLES 0 * weftCycle16 s.dev ≤ now (later dt s)) :=
  ⟨⟨1, 0, wSt (wWeftX { timed := true } 0), 0, by decide +kernel, by decide +kernel, by decide +kernel, by decide +kernel⟩,
   ⟨400, wSt (wWeftX { timed := true } 4), by decide +kernel, by decide +kernel, by decide +kernel, by decide +kernel, by decide +kernel, by decide +kernel⟩,
   ⟨0, wSt { wWeft 1 with unit := { wRun.unit with stopped := true } }, by decide +kernel, by decide +kernel, by decide +kernel, by decide +kernel⟩,
   ⟨0, wSt (wWeft 1), 0, by decide +kernel, by decide +kernel, by decide +kernel, by decide +kernel, by decide +kernel, by decide +kernel⟩,
   ⟨0, wSt (wWeftX { echoBy := 1 } 2), by decide +kernel, by decide +kernel, by decide +kernel⟩,
   ⟨400, wSt (wWeftX { lostAt := 0 } 5), by decide +kernel, by decide +kernel⟩,
   ⟨0, wSt (wWeftX { reint := true } 1), by decide +kernel, by decide +kernel, by decide +kernel⟩⟩
theorem test_w_EthernetTraffic :
    (∃ (p : Nat) (s : State), p < 3 ∧
    portOn p s.dev = true) ∧
    (∃ (p : Nat) (s : State), p < 3 ∧
    portOn p s.dev = true ∧
    flag ETH_PORT_STATUS_LINK p s.dev = true) ∧
    (∃ (dt : Nat) (mac : Nat) (s : State) (k : Nat) (q : Nat) (ed : Nat), s.dev.eth.table.find? (·.1 == mac) = some (k, q, ed) ∧
    120000000000 ≤ since ed (later dt s)) ∧
    (∃ (p : Nat) (f : EthFrame) (s : State), p < 3 ∧
    portOn p s.dev = true ∧
    flag ETH_PORT_STATUS_LINK p s.dev = true ∧
    f.bad = true) ∧
    (∃ (p : Nat) (f : EthFrame) (s : State), p < 3 ∧
    portOn p s.dev = true ∧
    flag ETH_PORT_STATUS_LINK p s.dev = true ∧
    f.bad = false) ∧
    (∃ (p : Nat) (s : State) (t : EthTx), p < 3 ∧
    portOn p s.dev = true ∧
    flag ETH_PORT_STATUS_LINK p s.dev = true ∧
    ((s.dev.eth.queues.get [] p).find? (fun x => x.q == (s.dev.eth.queues.get [] p).foldl (fun m t => max m t.q) 0) = some t) ∧
    t.stream = 0 ∧
    t.ptp = 0) ∧
    (∃ (p : Nat) (f : EthFrame) (s : State), p < 3 ∧
    portOn p s.dev = true ∧
    f.etherType = 0x0806 ∧
    f.bytes.take 8 = [0, 1, 8, 0, 6, 4, 0, 1] ∧
    beVal ((f.bytes.drop 24).take 4) = ownIp s.dev) ∧
    (∃ (p : Nat) (f : EthFrame) (s : State), p < 3 ∧
    portOn p s.dev = true ∧
    isEcho f s.dev = true) :=
  ⟨⟨0, wSt wEth, by decide +kernel, by decide +kernel⟩,
   ⟨0, wSt wEth, by decide +kernel, by decide +kernel, by decide +kernel⟩,
   ⟨120000000000, 7, wSt { wEth with eth := { table := [(7, 0, 0)] } }, 7, 0, 0, by decide +kernel, by decide +kernel⟩,
   ⟨0, { bad := true }, wSt wEth, by decide +kernel, by decide +kernel, by decide +kernel, by decide +kernel⟩,
   ⟨0, {}, wSt wEth, by decide +kernel, by decide +kernel, by decide +kernel, by decide +kernel⟩,
   ⟨0, wSt { wEth with eth := { queues := [(0, [{ q := 1 }])] } }, { q := 1 }, by decide +kernel, by decide +kernel, by decide +kernel, by decide +kernel, by decide +kernel, by decide +kernel⟩,
   ⟨0, { etherType := 0x0806, bytes := [0, 1, 8, 0, 6, 4, 0, 1] ++ zeros 20 }, wSt wEth, by decide +kernel, by decide +kernel, by decide +kernel, by decide +kernel, by decide +kernel⟩,
   ⟨0, { etherType := 0x0800, bytes := [5, 0, 0, 0, 0, 0, 0, 0, 0, 1] ++ zeros 10 ++ [8] }, wSt wEth, by decide +kernel, by decide +kernel, by decide +kernel⟩⟩
theorem test_w_PtpTime :
    (∃ (p : Nat) (m : PtpMsg) (s : State) (r : Rec), onPtpPort p m s.dev = some r) ∧
    (∃ (p : Nat) (m : PtpMsg) (s : State) (r : Rec), onPtpPort p m s.dev = some r ∧
    fromParent m s.dev = true ∧
    m.twoStep = true) ∧
    (∃ (p : Nat) (m : PtpMsg) (s : State) (r : Rec) (q : Nat) (t : Nat) (c : ℤ), onPtpPort p m s.dev = some r ∧
    fromParent m s.dev = true ∧
    s.dev.ptp.pend = some (q, t, c) ∧
    q = m.seq) ∧
    (∃ (p : Nat) (m : PtpMsg) (s : State) (r : Rec), p < 3 ∧
    onPtpPort p m s.dev = some r ∧
    ptpState s.dev = 6 ∧
    isP2P r = false) ∧
    (∃ (p : Nat) (m : PtpMsg) (s : State) (r : Rec) (d21 : ℚ), onPtpPort p m s.dev = some r ∧
    s.dev.ptp.d21 = some d21 ∧
    fromParent m s.dev = true ∧
    isP2P r = false ∧
    m.reqIdentity = clockId s.dev ∧
    m.reqPort = p + 1 ∧
    m.seq = s.dev.ptp.dreq.1 ∧
    s.dev.ptp.dreq.2 ≠ 0) ∧
    (∃ (p : Nat) (m : PtpMsg) (s : State) (r : Rec), p < 3 ∧
    peerPort p s.dev = some r ∧
    m.domain = r.u P0C02_DOMAIN) ∧
    (∃ (p : Nat) (m : PtpMsg) (s : State) (r : Rec), peerPort p s.dev = some r ∧
    m.domain = r.u P0C02_DOMAIN ∧
    m.reqIdentity = clockId s.dev ∧
    m.reqPort = p + 1 ∧
    m.seq = (s.dev.ptp.peers.get {} p).seq ∧
    ((s.dev.ptp.peers.get {} p).t1 ≠ 0) ∧
    m.twoStep = true) ∧
    (∃ (p : Nat) (m : PtpMsg) (s : State) (r : Rec), peerPort p s.dev = some r ∧
    ((s.dev.ptp.peers.get {} p).wait = true) ∧
    m.seq = (s.dev.ptp.peers.get {} p).seq ∧
    m.reqIdentity = clockId s.dev ∧
    m.reqPort = p + 1) ∧
    (∃ (s : State) (r : Rec), ptpRec s.dev = some r) ∧
    (∃ (dt : Nat) (s : State) (r : Rec), ptpRec s.dev = some r ∧
    ((4 * syncT r * 400000000).floor.toNat ≤ since s.dev.ptp.syncEdge (later dt s))) ∧
    (∃ (dt : Nat) (s : State) (r : Rec), ptpRec s.dev = some r ∧
    r.u P0C02_PTP_PORT < 3 ∧
    ptpState s.dev = 6 ∧
    flag REEL_TIME_STATUS_EPOCH_VALID 0 s.dev = true ∧
    dueAgain (s.dev.ptp.sent.get 0 0) (txEdges 0 r) (later dt s) = true) :=
  ⟨⟨0, { identity := 1 }, wSt (wPtp 1 9 {  }), wPtpR 1, by decide +kernel⟩,
   ⟨0, { identity := 1, twoStep := true }, wSt (wPtp 1 9 { parent := some (1, 0) }), wPtpR 1, by decide +kernel, by decide +kernel, by decide +kernel⟩,
   ⟨0, { identity := 1 }, wSt (wPtp 1 9 { parent := some (1, 0), pend := some (0, 0, 0) }), wPtpR 1, 0, 0, 0, by decide +kernel, by decide +kernel, by decide +kernel, by decide +kernel⟩,
   ⟨0, { identity := 1 }, wSt (wPtp 1 6 {  }), wPtpR 1, by decide +kernel, by decide +kernel, by decide +kernel, by decide +kernel⟩,
   ⟨0, { identity := 1, reqIdentity := clockId (wPtp 1 9 {}), reqPort := 1 }, wSt (wPtp 1 9 { parent := some (1, 0), d21 := some 5, dreq := (0, 1) }), wPtpR 1, 5, by decide +kernel, by decide +kernel, by decide +kernel, by decide +kernel, by decide +kernel, by decide +kernel, by decide +kernel, by decide +kernel⟩,
   ⟨0, { identity := 1 }, wSt (wPtp 2 6 {  }), wPtpR 2, by decide +kernel, by decide +kernel, by decide +kernel⟩,
   ⟨0, { identity := 1, reqIdentity := clockId (wPtp 1 9 {}), reqPort := 1, twoStep := true }, wSt (wPtp 2 6 { peers := [(0, { t1 := 1 })] }), wPtpR 2, by decide +kernel, by decide +kernel, by decide +kernel, by decide +kernel, by decide +kernel, by decide +kernel, by decide +kernel⟩,
   ⟨0, { identity := 1, reqIdentity := clockId (wPtp 1 9 {}), reqPort := 1 }, wSt (wPtp 2 6 { peers := [(0, { wait := true })] }), wPtpR 2, by decide +kernel, by decide +kernel, by decide +kernel, by decide +kernel, by decide +kernel⟩,
   ⟨wSt (wPtp 1 6 {  }), wPtpR 1, by decide +kernel⟩,
   ⟨1600000000, wSt (wPtp 1 9 {  }), wPtpR 1, by decide +kernel, by decide +kernel⟩,
   ⟨0, wSt (wPut [(REEL_TIME_STATUS_EPOCH_VALID, 0, 1)] (wPtp 1 6 {})), wPtpR 1, by decide +kernel, by decide +kernel, by decide +kernel, by decide +kernel, by decide +kernel⟩⟩
theorem test_w_LockOuts :
    (∃ (dt : Nat) (i : Nat) (proc : Bool) (s : State) (r : Rec) (o : Nat), get SAFE_STATUS_STATE 0 s.dev = 2 ∧
    i < 24 ∧
    safeRec s.dev = some r ∧
    safeInOff i r = some o ∧
    ((inState proc i s.dev = 2 ∨ inState proc i s.dev = 3)) ∧
    safeTime proc (1000 * r.uAt (o + 6) 2) ≤ since (if proc then (safeIn i s.dev).discP else (safeIn i s.dev).discH) (later dt s)) ∧
    (∃ (dt : Nat) (k : Nat) (s : State) (r : Rec), get SAFE_STATUS_STATE 0 s.dev = 2 ∧
    k < 4 ∧
    safeRec s.dev = some r ∧
    ((∀ i ∈ safeInputs r, i < 24)) ∧
    ((s.dev.safe.tps.get {} k).low = true) ∧
    safeTime false (r.u P1101_TP_WIDTH) ≤ since (s.dev.safe.tps.get {} k).start (later dt s)) ∧
    (∃ (dt : Nat) (s : State), get SAFE_STATUS_STATE 0 s.dev = 2 ∧
    procLate (later dt s) = true) ∧
    (∃ (dt : Nat) (n : Nat) (s : State) (r : Rec) (o : Nat), get SAFE_STATUS_STATE 0 s.dev = 2 ∧
    n < 8 ∧
    safeOutEntry n s.dev = some (r, o) ∧
    ((s.dev.safe.outs.get {} n).diff ≠ 0) ∧
    safeTime false (crossTime r (n, o)) < since ((s.dev.safe.outs.get {} n).diff - 1) (later dt s)) ∧
    (∃ (dt : Nat) (n : Nat) (s : State) (r : Rec), get SAFE_STATUS_STATE 0 s.dev = 2 ∧
    n < 8 ∧
    safeRec s.dev = some r ∧
    ((s.dev.safe.outs.get {} n).settled = false) ∧
    safeTime false (r.u P1101_RB_TIME) ≤ since (s.dev.safe.outs.get {} n).chg (later dt s) ∧
    flag SAFE_OUT_READBACK n s.dev ≠ outOn n s.dev) ∧
    (∃ (n : Nat) (level : Bool) (s : State), get SAFE_STATUS_STATE 0 s.dev = 2 ∧
    n < 8 ∧
    ((s.dev.safe.outs.get {} n).settled = true) ∧
    ((s.dev.safe.outs.get {} n).pulse = 0) ∧
    level ≠ outOn n s.dev) ∧
    (∃ (dt : Nat) (n : Nat) (low : Bool) (high : Bool) (s : State), get SAFE_STATUS_STATE 0 s.dev = 2 ∧
    n < 8 ∧
    ((s.dev.safe.outs.get {} n).pulse ≠ 0) ∧
    ((low && high) = false) ∧
    safeTime false ((safeRec s.dev).elim 0 fun r => r.u P1101_OP_WIDTH) ≤ since (s.dev.safe.outs.get {} n).pulseAt (later dt s)) ∧
    (∃ (s : State), get SAFE_STATUS_STATE 0 s.dev = 2) ∧
    (∃ (internal : Bool) (s : State), get SAFE_STATUS_STATE 0 s.dev = 2 ∧
    internal = false) ∧
    (∃ (dt : Nat) (s : State) (r : Rec), get SAFE_STATUS_STATE 0 s.dev = 2 ∧
    safeRec s.dev = some r ∧
    get SAFE_STATUS_DOMAIN_OK 0 s.dev = 1 ∧
    dueAgain s.dev.safe.matAt (safeTime false 1) (later dt s) = true) ∧
    (∃ (dt : Nat) (both : Bool) (s : State) (r : Rec), safeRec s.dev = some r ∧
    s.dev.safe.press ≠ 0 ∧
    get SAFE_STATUS_STATE 0 s.dev = 3 ∧
    false ∉ pressConditions r both (later dt s) ∧
    s.dev.unit.stopped = false ∧
    s.dev.unit.phase = .run) ∧
    (∃ (dt : Nat) (both : Bool) (s : State) (r : Rec), safeRec s.dev = some r ∧
    s.dev.safe.press ≠ 0 ∧
    get SAFE_STATUS_STATE 0 s.dev = 3 ∧
    false ∉ pressConditions r both (later dt s) ∧
    s.dev.unit.phase = .ended) ∧
    (∃ (dt : Nat) (both : Bool) (s : State) (r : Rec), safeRec s.dev = some r ∧
    s.dev.safe.press ≠ 0 ∧
    get SAFE_STATUS_STATE 0 s.dev = 3 ∧
    false ∈ pressConditions r both (later dt s)) :=
  ⟨⟨0, 0, false, wSt (wPut [(SAFE_IN_STATE_H, 0, 2)] (wSafe 2 {  })), wSafeR, 32, by decide +kernel, by decide +kernel, by decide +kernel, by decide +kernel, by decide +kernel, by decide +kernel⟩,
   ⟨0, 0, wSt (wSafe 2 { tps := [(0, { low := true })] }), wSafeR, by decide +kernel, by decide +kernel, by decide +kernel, by decide +kernel, by decide +kernel, by decide +kernel⟩,
   ⟨588000, wSt (wSafe 2 {  }), by decide +kernel, by decide +kernel⟩,
   ⟨1960001, 0, wSt (wSafe 2 { outs := [(0, { diff := 1 })] }), wSafeR, 56, by decide +kernel, by decide +kernel, by decide +kernel, by decide +kernel, by decide +kernel⟩,
   ⟨0, 0, wSt (wPut [(SAFE_OUT_READBACK, 0, 1)] (wSafe 2 {  })), wSafeR, by decide +kernel, by decide +kernel, by decide +kernel, by decide +kernel, by decide +kernel, by decide +kernel⟩,
   ⟨0, true, wSt (wSafe 2 { outs := [(0, { settled := true })] }), by decide +kernel, by decide +kernel, by decide +kernel, by decide +kernel, by decide +kernel⟩,
   ⟨0, 0, true, false, wSt (wSafe 2 { outs := [(0, { pulse := 1 })] }), by decide +kernel, by decide +kernel, by decide +kernel, by decide +kernel, by decide +kernel⟩,
   ⟨wSt (wSafe 2 {  }), by decide +kernel⟩,
   ⟨false, wSt (wSafe 2 {  }), by decide +kernel, by decide +kernel⟩,
   ⟨0, wSt (wPut [(SAFE_STATUS_DOMAIN_OK, 0, 1)] (wSafe 2 {  })), wSafeR, by decide +kernel, by decide +kernel, by decide +kernel, by decide +kernel⟩,
   ⟨104000001, true, wSt (wSafe 3 { press := 2, lastCommit := 104000000 }), wSafeR, by decide +kernel, by decide +kernel, by decide +kernel, by decide +kernel, by decide +kernel, by decide +kernel⟩,
   ⟨104000001, true, wSt (wPhase .ended (wSafe 3 { press := 2, lastCommit := 104000000 })), wSafeR, by decide +kernel, by decide +kernel, by decide +kernel, by decide +kernel, by decide +kernel⟩,
   ⟨104000001, false, wSt (wSafe 3 { press := 2, lastCommit := 104000000 }), wSafeR, by decide +kernel, by decide +kernel, by decide +kernel, by decide +kernel⟩⟩
theorem test_w_SafetyInputStates :
    (∃ (i : Nat) (c : Nat) (level : Bool) (s : State), ((safeChan i c s.dev).level ≠ level)) ∧
    (∃ (dt : Nat) (i : Nat) (c : Nat) (proc : Bool) (s : State) (r : Rec) (o : Nat), i < 24 ∧
    safeRec s.dev = some r ∧
    safeInOff i r = some o ∧
    safeOn s.dev = true ∧
    ((safeChan i c s.dev).level ≠ accepted proc i c s.dev) ∧
    blanked i c r s.dev = false ∧
    safeTime proc (10 * r.uAt (o + 4) 2) ≤ since (safeChan i c s.dev).stable (later dt s)) ∧
    (∃ (dt : Nat) (k : Nat) (s : State), k < 4 ∧
    safeOn s.dev = true ∧
    get SAFE_TP_DRIVEN k s.dev = 1 ∧
    tpDue k (later dt s) = true) ∧
    (∃ (dt : Nat) (k : Nat) (levels : List TpLevel) (s : State) (r : Rec), k < 4 ∧
    safeRec s.dev = some r ∧
    ((s.dev.safe.tps.get {} k).low = true) ∧
    safeTime false (r.u P1101_TP_WIDTH) ≤ since (s.dev.safe.tps.get {} k).start (later dt s) ∧
    ((∀ p ∈ fedBy k r, fedLevel p.1 p.2 levels s.dev = false))) ∧
    (∃ (dt : Nat) (k : Nat) (levels : List TpLevel) (s : State) (r : Rec), k < 4 ∧
    safeRec s.dev = some r ∧
    ((s.dev.safe.tps.get {} k).blank = true) ∧
    ((s.dev.safe.tps.get {} k).low = false) ∧
    safeTime false (r.u P1101_TP_WIDTH + r.u P1101_TP_RECOVER) ≤ since (s.dev.safe.tps.get {} k).start (later dt s) ∧
    ((∀ p ∈ fedBy k r, ∃ l ∈ levels, l.input = p.1 ∧ l.channel = p.2)) ∧
    ((∀ l ∈ levels, l.level = true))) ∧
    (∃ (i : Nat), i < 24) :=
  ⟨⟨0, 0, true, wSt (wSafe 2 {  }), by decide +kernel⟩,
   ⟨0, 0, 0, false, wSt (wSafe 2 { ins := [(0, { a := { level := true } })] }), wSafeR, 32, by decide +kernel, by decide +kernel, by decide +kernel, by decide +kernel, by decide +kernel, by decide +kernel, by decide +kernel⟩,
   ⟨0, 0, wSt (wPut [(SAFE_TP_DRIVEN, 0, 1)] (wSafe 2 {  })), by decide +kernel, by decide +kernel, by decide +kernel, by decide +kernel⟩,
   ⟨0, 0, [⟨0, 0, false⟩], wSt (wSafe 2 { tps := [(0, { low := true })] }), wSafeR, by decide +kernel, by decide +kernel, by decide +kernel, by decide +kernel, by decide +kernel⟩,
   ⟨0, 0, [⟨0, 0, true⟩], wSt (wSafe 2 { tps := [(0, { blank := true })] }), wSafeR, by decide +kernel, by decide +kernel, by decide +kernel, by decide +kernel, by decide +kernel, by decide +kernel, by decide +kernel⟩,
   ⟨0, by decide +kernel⟩⟩
theorem test_w_SafetyOutputStates :
    (∃ (proc : Bool) (r : Rec) (p : Nat × Nat) (d : Dev), ((let x := (outStep proc r p d).safe.outs.get {} p.1; (if proc then x.cmdP else x.cmdH) = true))) ∧
    (∃ (dt : Nat) (s : State) (r : Rec), safeRec s.dev = some r ∧
    safeOn s.dev = true ∧
    get SAFE_STATUS_DOMAIN_OK 0 s.dev = 1 ∧
    dueAgain s.dev.safe.matAt (safeTime false 1) (later dt s) = true) ∧
    (∃ (dt : Nat) (k : Nat) (s : State) (r : Rec) (p : Nat × Nat), safeRec s.dev = some r ∧
    ((safeTimers r).find? (·.1 == k) = some p) ∧
    safeOn s.dev = true ∧
    safeTime false (1000 * r.uAt (p.2 + 4) 4) ≤ since (s.dev.safe.tims.get {} k).sinceH (later dt s) ∧
    ((s.dev.safe.tims.get {} k).termH ≠ (r.uAt (p.2 + 1) 1 == 1))) ∧
    (∃ (dt : Nat) (s : State) (r : Rec) (p : Nat × Nat), safeRec s.dev = some r ∧
    safeOn s.dev = true ∧
    p ∈ safeOutputs r ∧
    ((∀ q ∈ safeOutputs r, q.1 < 8)) ∧
    (((safeOutputs r).map (·.1)).Nodup) ∧
    dueAgain s.dev.safe.reqAt (safeTime false 10) (later dt s) = true) ∧
    (∃ (dt : Nat) (n : Nat) (s : State), n < 8 ∧
    safeOn s.dev = true ∧
    safeTime false 100 ≤ since (s.dev.safe.outs.get {} n).reqAt (later dt s)) ∧
    (∃ (dt : Nat) (n : Nat) (s : State), n < 8 ∧
    procLate (later dt s) = true) ∧
    (∃ (dt : Nat) (n : Nat) (s : State) (r : Rec), safeRec s.dev = some r ∧
    safeOn s.dev = true ∧
    ((s.dev.safe.outs.get {} n).settled = false) ∧
    safeTime false (r.u P1101_RB_TIME) ≤ since (s.dev.safe.outs.get {} n).chg (later dt s) ∧
    flag SAFE_OUT_READBACK n s.dev = outOn n s.dev) ∧
    (∃ (n : Nat) (level : Bool) (s : State), n < 8 ∧
    level = outOn n s.dev) ∧
    (∃ (dt : Nat) (n : Nat) (s : State) (r : Rec) (o : Nat), n < 8 ∧
    safeOutEntry n s.dev = some (r, o) ∧
    bit (r.uAt (o + 1) 1) 1 = true ∧
    outOn n s.dev = true ∧
    pulseDue n r (later dt s) = true) ∧
    (∃ (dt : Nat) (n : Nat) (s : State), n < 8 ∧
    1 ≤ (s.dev.safe.outs.get {} n).pulse ∧
    ((s.dev.safe.outs.get {} n).pulse ≤ 2) ∧
    safeTime false ((safeRec s.dev).elim 0 fun r => r.u P1101_OP_WIDTH) ≤ since (s.dev.safe.outs.get {} n).pulseAt (later dt s)) :=
  ⟨⟨true, wSafeR, (0, 56), wSafe 2 {}, by decide +kernel⟩,
   ⟨0, wSt (wPut [(SAFE_STATUS_DOMAIN_OK, 0, 1)] (wSafe 2 {  })), wSafeR, by decide +kernel, by decide +kernel, by decide +kernel, by decide +kernel⟩,
   ⟨0, 0, wSt (wSafe 2 { tims := [(0, { termH := true })] }), wSafeR, (0, 48), by decide +kernel, by decide +kernel, by decide +kernel, by decide +kernel, by decide +kernel⟩,
   ⟨0, wSt (wSafe 2 {  }), wSafeR, (0, 56), by decide +kernel, by decide +kernel, by decide +kernel, by decide +kernel, by decide +kernel, by decide +kernel⟩,
   ⟨39200, 0, wSt (wSafe 2 {  }), by decide +kernel, by decide +kernel, by decide +kernel⟩,
   ⟨588000, 0, wSt (wSafe 2 {  }), by decide +kernel, by decide +kernel⟩,
   ⟨0, 0, wSt (wSafe 2 {  }), wSafeR, by decide +kernel, by decide +kernel, by decide +kernel, by decide +kernel, by decide +kernel⟩,
   ⟨0, false, wSt (wSafe 2 {  }), by decide +kernel, by decide +kernel⟩,
   ⟨0, 0, wSt (wSafe 2 { outs := [(0, { cmdH := true, cmdP := true })] }), wSafeR, 56, by decide +kernel, by decide +kernel, by decide +kernel, by decide +kernel, by decide +kernel⟩,
   ⟨0, 0, wSt (wSafe 2 { outs := [(0, { pulse := 1 })] }), by decide +kernel, by decide +kernel, by decide +kernel, by decide +kernel⟩⟩
theorem test_w_DriveSamples :
    (∃ (dt : Nat) (n : Nat) (pair : Nat) (s : State) (r : Rec) (d : Dev), n < 16 ∧
    ImgOk s.dev ∧
    driveRec n s.dev = some r ∧
    pair / 3 = n ∧
    d = settlePins n (later dt s) ∧
    min (settled n (2 * (pair % 3)) r d) (settled n (2 * (pair % 3) + 1) r d) + r.u P0704_RB_FILTER ≤ edge d) ∧
    (∃ (dt : Nat) (n : Nat) (pair : Nat) (s : State) (r : Rec) (d : Dev), n < 16 ∧
    ImgOk s.dev ∧
    driveRec n s.dev = some r ∧
    pair / 3 = n ∧
    d = settlePins n (later dt s) ∧
    min (settled n (2 * (pair % 3)) r d) (settled n (2 * (pair % 3) + 1) r d) + r.u P0704_RB_FILTER ≤ edge d ∧
    s.dev.unit.phase = .run ∧
    ((axisRec n s.dev).isSome = true) ∧
    axisEnabled n s.dev = true) ∧
    (∃ (dt : Nat) (n : Nat) (pair : Nat) (s : State) (r : Rec) (d : Dev), n < 16 ∧
    ImgOk s.dev ∧
    driveRec n s.dev = some r ∧
    pair / 3 = n ∧
    d = settlePins n (later dt s) ∧
    max (settled n (2 * (pair % 3)) r d) (settled n (2 * (pair % 3) + 1) r d) + 4 < edge d) ∧
    (∃ (c : Nat) (bs : List Bool) (s : State) (r : Rec) (v : ℤ), c < 48 ∧
    ImgOk s.dev ∧
    sdRec c s.dev = some r ∧
    ocTrips r bs = some v) ∧
    (∃ (c : Nat) (s : State), c < 48 ∧
    ImgOk s.dev ∧
    ((sdRec c s.dev).isSome = true) ∧
    ((s.dev.sds.get {} c).stuckNow = false)) ∧
    (∃ (c : Nat) (s : State), c < 48 ∧
    ((s.dev.sds.get {} c).stuckNow = true)) ∧
    (∃ (dt : Nat) (c : Nat) (s : State), c < 48 ∧
    ((sdRec c s.dev).isSome = true) ∧
    get DRV_SD_STATUS_STALE c s.dev = 1 ∧
    ((s.dev.sds.get {} c).stuckNow = false) ∧
    ((s.dev.sds.get {} c).validEdge ≤ edge (later dt s))) :=
  ⟨⟨4000, 0, 0, wSt wV, wDrv, settlePins 0 (later 4000 (wSt wV)), by decide +kernel, tOk _ (.inl rfl) rfl, by decide +kernel, by decide +kernel, rfl, by decide +kernel⟩,
   ⟨4000, 0, 0, wSt (put MOT_AX_STATE_STATE 0 2 wV), wDrv, settlePins 0 (later 4000 (wSt (put MOT_AX_STATE_STATE 0 2 wV))), by decide +kernel, tOk _ (.inl rfl) rfl, by decide +kernel, by decide +kernel, rfl, by decide +kernel, by decide +kernel, by decide +kernel, by decide +kernel⟩,
   ⟨4000, 0, 0, wSt wV, wDrv, settlePins 0 (later 4000 (wSt wV)), by decide +kernel, tOk _ (.inl rfl) rfl, by decide +kernel, by decide +kernel, rfl, by decide +kernel⟩,
   ⟨0, List.replicate 15 true, wSt wV, wSd0, 2147483647, by decide +kernel, tOk _ (.inl rfl) rfl, by decide +kernel, by decide +kernel⟩,
   ⟨0, wSt wV, by decide +kernel, tOk _ (.inl rfl) rfl, by decide +kernel, by decide +kernel⟩,
   ⟨0, wSt { wV with sds := [(0, { stuckNow := true })] }, by decide +kernel, by decide +kernel⟩,
   ⟨0, 0, wSt (wPut [(DRV_SD_STATUS_STALE, 0, 1)] wV), by decide +kernel, by decide +kernel, by decide +kernel, by decide +kernel, by decide +kernel⟩⟩
theorem test_w_PwmPins :
    (∃ (dt : Nat) (g : Nat) (s : State) (r : Rec), g < 8 ∧
    ImgOk s.dev ∧
    pwmRec g s.dev = some r ∧
    atReload g r (later dt s) = true ∧
    get DRV_GRP_STATUS_LOAD_ALL g s.dev = 1 ∧
    ((s.dev.groups.get {} g).loadEdge ≠ edge (later dt s)) ∧
    ((s.dev.groups.get {} g).again ≠ edge (later dt s) + 1) ∧
    stagedItems g (later dt s) ≠ [] ∧
    ((get DRV_GRP_STATUS_PAIRED g s.dev = 1 → (stagedPeriod g (later dt s)).isSome = true))) ∧
    (∃ (dt : Nat) (g : Nat) (s : State) (r : Rec), g < 8 ∧
    ImgOk s.dev ∧
    pwmRec g s.dev = some r ∧
    atReload g r (later dt s) = true ∧
    get DRV_GRP_STATUS_LOAD_ALL g s.dev = 1 ∧
    ((s.dev.groups.get {} g).loadEdge ≠ edge (later dt s)) ∧
    ((s.dev.groups.get {} g).again ≠ edge (later dt s) + 1) ∧
    stagedItems g (later dt s) ≠ [] ∧
    get DRV_GRP_STATUS_PAIRED g s.dev = 1 ∧
    stagedPeriod g (later dt s) = none) ∧
    (∃ (dt : Nat) (g : Nat) (s : State) (r : Rec), g < 8 ∧
    ImgOk s.dev ∧
    pwmRec g s.dev = some r ∧
    atReload g r (later dt s) = true ∧
    get DRV_GRP_STATUS_LOAD_ALL g s.dev = 1 ∧
    ((s.dev.groups.get {} g).loadEdge = edge (later dt s))) ∧
    (∃ (dt : Nat) (pin : Nat) (s : State) (d : Dev), pin < 96 ∧
    d = settlePins (pin / 6) (later dt s) ∧
    d.riseAt.get 0 pin ≠ 0 ∧
    d.riseAt.get 0 pin ≤ edge d + 1) ∧
    (∃ (n : Nat) (d : Dev) (k : Nat), get DRV_AX_STATUS_DRIVE n d = 2 ∧
    d.unit.holdDone = false ∧
    k < 3) :=
  ⟨⟨4000, 0, wSt (wPut [(DRV_GRP_STATUS_RUNNING, 0, 1), (DRV_GRP_PERIOD_PERIOD, 0, 1000), (DRV_GRP_STATUS_LOAD_ALL, 0, 1)] { wV with groups := [(0, { staged := [(0, 5)] })] }), wPwm, by decide +kernel, tOk _ (.inl rfl) rfl, by decide +kernel, by decide +kernel, by decide +kernel, by decide +kernel, by decide +kernel, by decide +kernel, by decide +kernel⟩,
   ⟨4000, 0, wSt (wPut [(DRV_GRP_STATUS_RUNNING, 0, 1), (DRV_GRP_PERIOD_PERIOD, 0, 1000), (DRV_GRP_STATUS_LOAD_ALL, 0, 1), (DRV_GRP_STATUS_PAIRED, 0, 1)] { wV with groups := [(0, { staged := [(0, 5)] })] }), wPwm, by decide +kernel, tOk _ (.inl rfl) rfl, by decide +kernel, by decide +kernel, by decide +kernel, by decide +kernel, by decide +kernel, by decide +kernel, by decide +kernel, by decide +kernel⟩,
   ⟨4000, 0, wSt (wPut [(DRV_GRP_STATUS_RUNNING, 0, 1), (DRV_GRP_PERIOD_PERIOD, 0, 1000), (DRV_GRP_STATUS_LOAD_ALL, 0, 1)] { wV with groups := [(0, { loadEdge := 4000 })] }), wPwm, by decide +kernel, tOk _ (.inl rfl) rfl, by decide +kernel, by decide +kernel, by decide +kernel, by decide +kernel⟩,
   ⟨0, 0, wSt { wV with riseAt := [(0, 1)] }, settlePins 0 (later 0 (wSt { wV with riseAt := [(0, 1)] })), by decide +kernel, rfl, by decide +kernel, by decide +kernel⟩,
   ⟨0, wPut [(DRV_AX_STATUS_DRIVE, 0, 2)] wV, 0, by decide +kernel, by decide +kernel, by decide +kernel⟩⟩
theorem test_w_Feedback :
    (∃ (line : Nat) (level : Bool) (s : State) (r : Rec), line < 72 ∧
    fbRec (line / 3) s.dev = some r ∧
    s.dev.unit.phase = .run ∧
    line % 3 ∈ fbInputs r ∧
    ((s.dev.lines.get {} line).raw ≠ level)) ∧
    (∃ (line : Nat) (level : Bool) (s : State), line < 72 ∧
    inRun s.dev = false ∧
    ((s.dev.lines.get {} line).raw ≠ level)) ∧
    (∃ (dt : Nat) (line : Nat) (s : State) (r : Rec) (k : Nat), line < 72 ∧
    ImgOk s.dev ∧
    fbRec (line / 3) s.dev = some r ∧
    s.dev.unit.phase = .run ∧
    lineDue (line / 3) (line % 3) r (later dt s) = true ∧
    k ∈ fbInputs r ∧
    lineDue (line / 3) k r (later dt s) = true) ∧
    (∃ (dt : Nat) (n : Nat) (s : State) (r : Rec), n < 24 ∧
    fbRec n s.dev = some r ∧
    r.u P0801_MODE ≠ 3 ∧
    fbStamp n s.dev + r.u P0801_ZERO_TIME * us16 ≤ now (later dt s)) ∧
    (∃ (dt : Nat) (n : Nat) (s : State) (r : Rec), n < 24 ∧
    fbRec n s.dev = some r ∧
    r.u P0801_MODE ≠ 3 ∧
    4000000 ≤ since (s.dev.fbs.get {} n).errEdge (later dt s)) ∧
    (∃ (dt : Nat) (n : Nat) (s : State), n < 24 ∧
    ImgOk s.dev ∧
    get FBK_FB_STATUS_ALARM n s.dev = 1 ∧
    40000 ≤ since (s.dev.fbs.get {} n).alarmEdge (later dt s)) ∧
    (∃ (n : Nat) (r : Rec) (old : Nat) (new : Nat), n < 24 ∧
    r.b P0801_FLAGS 1 = false ∧
    ((bit old 0 != bit new 0) ≠ (bit old 1 != bit new 1))) ∧
    (∃ (dt : Nat) (n : Nat) (bs : List Bool) (s : State) (r : Rec) (v : Nat) (c : ℤ), n < 24 ∧
    ImgOk s.dev ∧
    fbRec n s.dev = some r ∧
    r.u P0801_MODE = 3 ∧
    ((s.dev.fbs.get {} n).busy = true) ∧
    ssiEdges r ≤ since (s.dev.fbs.get {} n).readEdge (later dt s) ∧
    ssiValue n r bs (later dt s) = some (v, c)) ∧
    (∃ (dt : Nat) (n : Nat) (bs : List Bool) (s : State) (r : Rec), n < 24 ∧
    ImgOk s.dev ∧
    fbRec n s.dev = some r ∧
    r.u P0801_MODE = 3 ∧
    ((s.dev.fbs.get {} n).busy = true) ∧
    ssiEdges r ≤ since (s.dev.fbs.get {} n).readEdge (later dt s) ∧
    ssiValue n r bs (later dt s) = none) :=
  ⟨⟨0, true, wSt wV, wFb0, by decide +kernel, by decide +kernel, by decide +kernel, by decide +kernel, by decide +kernel⟩,
   ⟨0, true, wSt w0, by decide +kernel, by decide +kernel, by decide +kernel⟩,
   ⟨1, 0, wSt { wV with lines := [(0, { raw := true })] }, wFb0, 0, by decide +kernel, tOk _ (.inl rfl) rfl, by decide +kernel, by decide +kernel, by decide +kernel, by decide +kernel, by decide +kernel⟩,
   ⟨40000, 0, wSt wV, wFb0, by decide +kernel, by decide +kernel, by decide +kernel, by decide +kernel⟩,
   ⟨4000000, 0, wSt wV, wFb0, by decide +kernel, by decide +kernel, by decide +kernel, by decide +kernel⟩,
   ⟨40000, 0, wSt (wPut [(FBK_FB_STATUS_ALARM, 0, 1)] wV), by decide +kernel, tOk _ (.inl rfl) rfl, by decide +kernel, by decide +kernel⟩,
   ⟨0, wFb0, 0, 1, by decide +kernel, by decide +kernel, by decide +kernel⟩,
   ⟨100000, 1, [false, false, false, false, false, false, false, false], wSt { wV with fbs := [(1, { busy := true })] }, wSsi, 0, 0, by decide +kernel, tOk _ (.inl rfl) rfl, by decide +kernel, by decide +kernel, by decide +kernel, by decide +kernel, by decide +kernel⟩,
   ⟨100000, 1, [], wSt { wV with fbs := [(1, { busy := true })] }, wSsi, by decide +kernel, tOk _ (.inl rfl) rfl, by decide +kernel, by decide +kernel, by decide +kernel, by decide +kernel, by decide +kernel⟩⟩
theorem test_w_ShuttleErrors :
    (∃ (i : Instr), unusedFields i) ∧
    (∃ (inst : Nat), inst < 2 ^ 13) ∧
    (∃ (t : Nat) (word : Nat) (s : State), t < 8 ∧
    taskEngine t s.dev < 2 ∧
    ((taskRec t s.dev).isSome = true) ∧
    scanRuns t s.dev = true ∧
    ((codeAt t (taskX t s.dev).pc s.dev = none ∨ (codeAt t (taskX t s.dev).pc s.dev = some word ∧ listedOp (word / 2 ^ 26) = false))) ∧
    watchReached t (loomAt (shuEngX (taskEngine t s.dev) (turned t s.dev)).at_ (turned t s.dev)) (turned t s.dev) = false) ∧
    (∃ (dt : Nat) (t : Nat) (s : State), t < 8 ∧
    taskEngine t s.dev < 2 ∧
    ((taskRec t s.dev).isSome = true) ∧
    ((taskX t s.dev).live = true) ∧
    ((taskX t s.dev).broken = false) ∧
    s.dev.unit.halted = false ∧
    watchReached t (now (later dt s)) (later dt s) = true) :=
  ⟨⟨.iMov 0 1 2 3 0, by simp [unusedFields]⟩,
   ⟨5, by decide +kernel⟩,
   ⟨0, 0, wSt (wTaskX { live := true }), by decide +kernel, by decide +kernel, by decide +kernel, by decide +kernel, .inl (by decide +kernel), by decide +kernel⟩,
   ⟨400000, 0, wSt (wTaskX { live := true }), by decide +kernel, by decide +kernel, by decide +kernel, by decide +kernel, by decide +kernel, by decide +kernel, by decide +kernel⟩⟩
theorem test_w_MeasureSamples :
    (∃ (dt : Nat) (m : Nat) (s : State) (r : Rec) (t : Nat) (c : ℤ), m < 16 ∧
    ImgOk s.dev ∧
    measRec m s.dev = some r ∧
    ((s.dev.meas.get {} m).due2 ≤ 5 * edge (later dt s)) ∧
    (((r.u P0302_SOURCE = 6 ∧ get FBK_FB_FLAGS_FAULTY (r.u P0302_SOURCE_INDEX) s.dev = 0 ∧ t = fbStamp (r.u P0302_SOURCE_INDEX) s.dev ∧ c = fbCount (r.u P0302_SOURCE_INDEX) s.dev) ∨ (r.u P0302_SOURCE = 5 ∧ axisMeas (r.u P0302_SOURCE_INDEX) s.dev = some (t, c))))) ∧
    (∃ (dt : Nat) (m : Nat) (s : State) (r : Rec) (t : Nat) (c : ℤ), m < 16 ∧
    ImgOk s.dev ∧
    measRec m s.dev = some r ∧
    ((s.dev.meas.get {} m).due2 ≤ 5 * edge (later dt s)) ∧
    (((r.u P0302_SOURCE = 6 ∧ get FBK_FB_FLAGS_FAULTY (r.u P0302_SOURCE_INDEX) s.dev = 0 ∧ t = fbStamp (r.u P0302_SOURCE_INDEX) s.dev ∧ c = fbCount (r.u P0302_SOURCE_INDEX) s.dev) ∨ (r.u P0302_SOURCE = 5 ∧ axisMeas (r.u P0302_SOURCE_INDEX) s.dev = some (t, c)))) ∧
    get REEL_MEAS_STATUS_STATE m s.dev = 2 ∧
    ((s.dev.meas.get {} m).smp = [{ t := 5 }, { t := 3 }]) ∧
    5 ≠ t) ∧
    (∃ (dt : Nat) (m : Nat) (s : State) (r : Rec) (t : Nat) (c : ℤ), m < 16 ∧
    ImgOk s.dev ∧
    measRec m s.dev = some r ∧
    ((s.dev.meas.get {} m).due2 ≤ 5 * edge (later dt s)) ∧
    (((r.u P0302_SOURCE = 6 ∧ get FBK_FB_FLAGS_FAULTY (r.u P0302_SOURCE_INDEX) s.dev = 0 ∧ t = fbStamp (r.u P0302_SOURCE_INDEX) s.dev ∧ c = fbCount (r.u P0302_SOURCE_INDEX) s.dev) ∨ (r.u P0302_SOURCE = 5 ∧ axisMeas (r.u P0302_SOURCE_INDEX) s.dev = some (t, c)))) ∧
    get REEL_MEAS_STATUS_STATE m s.dev = 4) ∧
    (∃ (dt : Nat) (m : Nat) (s : State) (r : Rec) (t : Nat) (c : ℤ), m < 16 ∧
    ImgOk s.dev ∧
    measRec m s.dev = some r ∧
    ((s.dev.meas.get {} m).due2 ≤ 5 * edge (later dt s)) ∧
    (((r.u P0302_SOURCE = 6 ∧ get FBK_FB_FLAGS_FAULTY (r.u P0302_SOURCE_INDEX) s.dev = 0 ∧ t = fbStamp (r.u P0302_SOURCE_INDEX) s.dev ∧ c = fbCount (r.u P0302_SOURCE_INDEX) s.dev) ∨ (r.u P0302_SOURCE = 5 ∧ axisMeas (r.u P0302_SOURCE_INDEX) s.dev = some (t, c)))) ∧
    get REEL_MEAS_STATUS_STATE m s.dev = 1 ∧
    ((s.dev.meas.get {} m).smp.length < 2) ∧
    (((s.dev.meas.get {} m).smp.head?.map (·.t)) ≠ some t)) ∧
    (∃ (dt : Nat) (m : Nat) (s : State) (r : Rec) (t : Nat) (c : ℤ), m < 16 ∧
    ImgOk s.dev ∧
    measRec m s.dev = some r ∧
    ((s.dev.meas.get {} m).due2 ≤ 5 * edge (later dt s)) ∧
    (((r.u P0302_SOURCE = 6 ∧ get FBK_FB_FLAGS_FAULTY (r.u P0302_SOURCE_INDEX) s.dev = 0 ∧ t = fbStamp (r.u P0302_SOURCE_INDEX) s.dev ∧ c = fbCount (r.u P0302_SOURCE_INDEX) s.dev) ∨ (r.u P0302_SOURCE = 5 ∧ axisMeas (r.u P0302_SOURCE_INDEX) s.dev = some (t, c)))) ∧
    get REEL_MEAS_STATUS_STATE m s.dev = 3 ∧
    (((s.dev.meas.get {} m).smp.head?.map (·.t)) = some t)) ∧
    (∃ (dt : Nat) (m : Nat) (s : State) (r : Rec), m < 16 ∧
    ImgOk s.dev ∧
    measRec m s.dev = some r ∧
    isTime m s.dev = false ∧
    400 * r.u P0302_LOST_TIMEOUT ≤ since (s.dev.meas.get {} m).lastEdge (later dt s) ∧
    ((get REEL_MEAS_STATUS_STATE m s.dev = 1 ∨ get REEL_MEAS_STATUS_STATE m s.dev = 2 ∨ get REEL_MEAS_STATUS_STATE m s.dev = 3))) :=
  ⟨⟨0, 1, wSt wV, wMeas1, fbStamp 0 wV, fbCount 0 wV, by decide +kernel, tOk _ (.inl rfl) rfl, by decide +kernel, by decide +kernel, by decide +kernel⟩,
   ⟨0, 1, wSt { wPut [(REEL_MEAS_STATUS_STATE, 1, 2)] wV with meas := [(1, { smp := [{ t := 5 }, { t := 3 }] })] }, wMeas1, fbStamp 0 wV, fbCount 0 wV, by decide +kernel, tOk _ (.inl rfl) rfl, by decide +kernel, by decide +kernel, by decide +kernel, by decide +kernel, by decide +kernel, by decide +kernel⟩,
   ⟨0, 1, wSt { wPut [(REEL_MEAS_STATUS_STATE, 1, 4)] wV with meas := [(1, {  })] }, wMeas1, fbStamp 0 wV, fbCount 0 wV, by decide +kernel, tOk _ (.inl rfl) rfl, by decide +kernel, by decide +kernel, by decide +kernel, by decide +kernel⟩,
   ⟨0, 1, wSt { wPut [(REEL_MEAS_STATUS_STATE, 1, 1)] wV with meas := [(1, {  })] }, wMeas1, fbStamp 0 wV, fbCount 0 wV, by decide +kernel, tOk _ (.inl rfl) rfl, by decide +kernel, by decide +kernel, by decide +kernel, by decide +kernel, by decide +kernel, by decide +kernel⟩,
   ⟨0, 1, wSt { wPut [(REEL_MEAS_STATUS_STATE, 1, 3)] wV with meas := [(1, { smp := [{ t := fbStamp 0 wV }] })] }, wMeas1, fbStamp 0 wV, fbCount 0 wV, by decide +kernel, tOk _ (.inl rfl) rfl, by decide +kernel, by decide +kernel, by decide +kernel, by decide +kernel, by decide +kernel⟩,
   ⟨4000, 1, wSt (wPut [(REEL_MEAS_STATUS_STATE, 1, 2), (REEL_MEAS_STATUS_SOURCE, 1, 6)] wV), wMeas1, by decide +kernel, tOk _ (.inl rfl) rfl, by decide +kernel, by decide +kernel, by decide +kernel, by decide +kernel⟩⟩
theorem test_w_PickFirings :
    (∃ (dt : Nat) (p : Nat) (s : State), p < 1024 ∧
    blocksOn s.dev = true ∧
    running (later dt s) = true ∧
    shadows (later dt s) = false ∧
    pickDue p (later dt s) = true ∧
    dueBelow p (later dt s) = false ∧
    ((s.dev.pick.get {} p).owed ≠ edge (later dt s) + 1)) ∧
    (∃ (dt : Nat) (p : Nat) (s : State), dueBelow p (later dt s) = true) ∧
    (∃ (dt : Nat) (p : Nat) (s : State), pickDue p (later dt s) = false ∧
    ((s.dev.pick.get {} p).owed ≠ edge (later dt s) + 1)) ∧
    (∃ (p : Nat), p < 1024) ∧
    (∃ (p : Nat) (d : Dev), p < 1024 ∧
    get REEL_PICK_CFG_INTERVAL p d = 0 ∧
    get REEL_PICK_CFG_ANGLE_ONLY p d = 0) ∧
    (∃ (p : Nat) (d : Dev), p < 1024 ∧
    isTime (pickMeas p d) d = true ∧
    get REEL_PICK_CFG_ANGLE_ONLY p d = 0 ∧
    get REEL_PICK_CFG_DIR p d = 1 ∧
    0 < get REEL_PICK_CFG_INTERVAL p d) :=
  ⟨⟨1, 0, wSt wPick, by decide +kernel, by decide +kernel, by decide +kernel, by decide +kernel, by decide +kernel, by decide +kernel, by decide +kernel⟩,
   ⟨1, 1, wSt { wPick with pick := [(0, {})] }, by decide +kernel⟩,
   ⟨0, 0, wSt wRun, by decide +kernel, by decide +kernel⟩,
   ⟨1023, by decide +kernel⟩,
   ⟨0, wRun, by decide +kernel, by decide +kernel, by decide +kernel⟩,
   ⟨0, wPick, by decide +kernel, by decide +kernel, by decide +kernel, by decide +kernel, by decide +kernel⟩⟩
theorem test_w_GpioEdges :
    (∃ (pin : Nat) (level : Bool) (s : State), pin < 32 ∧
    ImgOk s.dev ∧
    s.dev.unit.phase ≠ .reset ∧
    s.dev.unit.phase ≠ .monitorReset ∧
    ((s.dev.pins.get {} pin).level ≠ level)) ∧
    (∃ (dt : Nat) (pin : Nat) (level : Bool) (frac : Nat) (s : State), pin < 32 ∧
    ImgOk s.dev ∧
    s.dev.unit.phase ≠ .reset ∧
    s.dev.unit.phase ≠ .monitorReset ∧
    ((s.dev.pins.get {} pin).level ≠ level) ∧
    ((s.dev.pins.get {} pin).ever = true) ∧
    nowPlus (min frac 15) (later dt s) < (s.dev.pins.get {} pin).inst + 32) ∧
    (∃ (dt : Nat) (pin : Nat) (level : Bool) (frac : Nat) (s : State), pin < 32 ∧
    ImgOk s.dev ∧
    s.dev.unit.phase ≠ .reset ∧
    s.dev.unit.phase ≠ .monitorReset ∧
    ((s.dev.pins.get {} pin).level ≠ level) ∧
    ((s.dev.pins.get {} pin).ever = true) ∧
    ((s.dev.pins.get {} pin).inst + 32 ≤ nowPlus (min frac 15) (later dt s))) ∧
    (∃ (pin : Nat) (level : Bool) (s : State) (k : Nat), pin < 32 ∧
    ImgOk s.dev ∧
    s.dev.unit.phase ≠ .reset ∧
    s.dev.unit.phase ≠ .monitorReset ∧
    ((s.dev.pins.get {} pin).level ≠ level) ∧
    k ≠ pin ∧
    gpioFlags k s.dev = none) :=
  ⟨⟨31, true, wSt wV, by decide +kernel, tOk _ (.inl rfl) rfl, by decide +kernel, by decide +kernel, by decide +kernel⟩,
   ⟨0, 31, true, 0, wSt { wV with pins := [(31, { ever := true })] }, by decide +kernel, tOk _ (.inl rfl) rfl, by decide +kernel, by decide +kernel, by decide +kernel, by decide +kernel, by decide +kernel⟩,
   ⟨2, 31, true, 0, wSt { wV with pins := [(31, { ever := true })] }, by decide +kernel, tOk _ (.inl rfl) rfl, by decide +kernel, by decide +kernel, by decide +kernel, by decide +kernel, by decide +kernel⟩,
   ⟨31, true, wSt wV, 7, by decide +kernel, tOk _ (.inl rfl) rfl, by decide +kernel, by decide +kernel, by decide +kernel, by decide +kernel, by decide +kernel⟩⟩
theorem test_w_CreelThreads :
    (∃ (c : Nat) (s : State) (t : Nat), c < 4 ∧
    t < 256 ∧
    t ≠ 2 ∧
    s.dev.unit.phase = .run ∧
    ((coreX c s.dev).slot = t + 1) ∧
    ((coreX c s.dev).run ≠ t + 1) ∧
    slotLevel c s.dev < runLevel c s.dev ∧
    ((∀ b, b ≠ c → (coreX b s.dev).slot ≠ t + 1)) ∧
    t ∉ (s.dev.creel.levels.map (·.2)).flatten) ∧
    (∃ (dt : Nat) (c : Nat) (s : State) (t : Nat), c < 4 ∧
    t < 256 ∧
    c ∈ coresOn s.dev ∧
    ((coreX c s.dev).run = t + 1) ∧
    thrField P0402_SLICE 0 t s.dev ≠ 0 ∧
    400 * thrField P0402_SLICE 0 t s.dev ≤ edge (later dt s) - ((s.dev.creel.threads.get {} t).runs - 1)) ∧
    (∃ (dt : Nat) (c : Nat) (s : State) (t : Nat), c < 4 ∧
    t < 256 ∧
    c ∈ coresOn s.dev ∧
    s.dev.unit.phase = .run ∧
    overrunning c (later dt s) = some t) ∧
    (∃ (dt : Nat) (c : Nat) (s : State) (t : Nat), c < 4 ∧
    t < 256 ∧
    t ≠ 2 ∧
    c ∈ coresOn s.dev ∧
    s.dev.unit.phase = .run ∧
    ((coreX c s.dev).run = t + 1) ∧
    ((∀ b, b ≠ c → (coreX b s.dev).run ≠ t + 1)) ∧
    ((∀ b, (coreX b s.dev).slot ≠ t + 1)) ∧
    t ∉ (s.dev.creel.levels.map (·.2)).flatten ∧
    pastLimit t (later dt s) = false) ∧
    (∃ (dt : Nat) (c : Nat) (w : Wait) (s : State) (t : Nat), c < 4 ∧
    t < 256 ∧
    t ≠ 2 ∧
    c ∈ coresOn s.dev ∧
    s.dev.unit.phase = .run ∧
    ((coreX c s.dev).run = t + 1) ∧
    ((∀ b, b ≠ c → (coreX b s.dev).run ≠ t + 1)) ∧
    ((∀ b, (coreX b s.dev).slot ≠ t + 1)) ∧
    t ∉ (s.dev.creel.levels.map (·.2)).flatten ∧
    pastLimit t (later dt s) = false ∧
    get CREEL_THREAD_STATUS_PENDING t s.dev = 0 ∧
    w = .delay 0 5) ∧
    (∃ (dt : Nat) (c : Nat) (w : Wait) (s : State) (t : Nat), c < 4 ∧
    t < 256 ∧
    t ≠ 2 ∧
    c ∈ coresOn s.dev ∧
    s.dev.unit.phase = .run ∧
    ((coreX c s.dev).run = t + 1) ∧
    ((∀ b, b ≠ c → (coreX b s.dev).run ≠ t + 1)) ∧
    ((∀ b, (coreX b s.dev).slot ≠ t + 1)) ∧
    t ∉ (s.dev.creel.levels.map (·.2)).flatten ∧
    pastLimit t (later dt s) = false ∧
    get CREEL_THREAD_STATUS_PENDING t s.dev = 0 ∧
    w = .delay 1 5 ∧
    get CREEL_STATUS_TICK1_EN 0 s.dev = 0) ∧
    (∃ (p : Nat) (d : Dev), p < 1024 ∧
    pickUsed p d = true ∧
    mayRetarget p d = true) ∧
    (∃ (p : Nat) (arm : Bool) (d : Dev), p < 1024 ∧
    pickUsed p d = true ∧
    mayRetarget p d = true ∧
    arm = true ∧
    isTime (pickMeas p d) d = true ∧
    get REEL_PICK_CFG_INTERVAL p d = 0) ∧
    (∃ (u : Nat) (d : Dev), u < 256 ∧
    isStandby d = false ∧
    thrState u d ≠ 1 ∧
    thrState u d ≠ 2) ∧
    (∃ (u : Nat) (d : Dev), u < 256 ∧
    isStandby d = false ∧
    thrState u d ≠ 1 ∧
    thrState u d ≠ 2 ∧
    get CREEL_THREAD_STATUS_PENDING u d = 15) :=
  ⟨⟨0, wSt (wThrd { cores := [(0, { slot := 9 })] }), 8, by decide +kernel, by decide +kernel, by decide +kernel, by decide +kernel, by decide +kernel, by decide +kernel, by decide +kernel, fun b h => by simp [coreX, wSt, wThrd, tCore _ b h], by decide +kernel⟩,
   ⟨20000, 0, wSt (wThrd { cores := [(0, { run := 9 })], threads := [(8, { runs := 1 })] }), 8, by decide +kernel, by decide +kernel, by decide +kernel, by decide +kernel, by decide +kernel, by decide +kernel⟩,
   ⟨4001, 0, wSt (wThrd { cores := [(0, { run := 9 })], threads := [(8, { runs := 1 })] }), 8, by decide +kernel, by decide +kernel, by decide +kernel, by decide +kernel, by decide +kernel⟩,
   ⟨0, 0, wSt (wThrd { cores := [(0, { run := 9 })], threads := [(8, { runs := 1 })] }), 8, by decide +kernel, by decide +kernel, by decide +kernel, by decide +kernel, by decide +kernel, by decide +kernel, fun b h => by simp [coreX, wSt, wThrd, tCore _ b h], fun b => by by_cases h : b = 0 <;> simp [coreX, wSt, wThrd, tCore0, tCore _ b, h], by decide +kernel, by decide +kernel⟩,
   ⟨0, 0, .delay 0 5, wSt (wThrd { cores := [(0, { run := 9 })], threads := [(8, { runs := 1 })] }), 8, by decide +kernel, by decide +kernel, by decide +kernel, by decide +kernel, by decide +kernel, by decide +kernel, fun b h => by simp [coreX, wSt, wThrd, tCore _ b h], fun b => by by_cases h : b = 0 <;> simp [coreX, wSt, wThrd, tCore0, tCore _ b, h], by decide +kernel, by decide +kernel, by decide +kernel, by decide +kernel⟩,
   ⟨0, 0, .delay 1 5, wSt (wThrd { cores := [(0, { run := 9 })], threads := [(8, { runs := 1 })] }), 8, by decide +kernel, by decide +kernel, by decide +kernel, by decide +kernel, by decide +kernel, by decide +kernel, fun b h => by simp [coreX, wSt, wThrd, tCore _ b h], fun b => by by_cases h : b = 0 <;> simp [coreX, wSt, wThrd, tCore0, tCore _ b, h], by decide +kernel, by decide +kernel, by decide +kernel, by decide +kernel, by decide +kernel⟩,
   ⟨0, wPut [(REEL_PICK_STATUS_STATE, 0, 2)] (wRunR [wPicks]), by decide +kernel, by decide +kernel, by decide +kernel⟩,
   ⟨0, true, wPut [(REEL_PICK_STATUS_STATE, 0, 2), (REEL_MEAS_STATUS_SOURCE, 0, 1)] (wRunR [wPicks]), by decide +kernel, by decide +kernel, by decide +kernel, by decide +kernel, by decide +kernel, by decide +kernel⟩,
   ⟨255, wRun, by decide +kernel, by decide +kernel, by decide +kernel, by decide +kernel⟩,
   ⟨255, wPut [(CREEL_THREAD_STATUS_PENDING, 255, 15)] wRun, by decide +kernel, by decide +kernel, by decide +kernel, by decide +kernel, by decide +kernel⟩⟩
theorem test_w_CreelTicksAndShare :
    (∃ (dt : Nat) (s : State), s.dev.unit.phase = .run ∧
    s.dev.creel.tick0 < tick0Now (later dt s)) ∧
    (∃ (t : Nat) (s : State), t < 256 ∧
    thrState t s.dev = 2 ∧
    ((s.dev.creel.threads.get {} t).until_ ≤ tickCount (s.dev.creel.threads.get {} t).tick s.dev)) ∧
    (∃ (dt : Nat) (s : State), s.dev.unit.phase = .run ∧
    s.dev.creel.exhausted = false ∧
    shareLimit s.dev ≤ shareUsed (later dt s)) ∧
    (∃ (dt : Nat) (s : State), s.dev.unit.phase = .run ∧
    s.dev.creel.window < now (later dt s) / 64000000 ∧
    ((∀ k, k < 16 → (s.dev.eth.sess.get {} k).held = none))) ∧
    (∃ (dt : Nat) (s : State), s.dev.unit.phase = .run ∧
    s.dev.creel.window < now (later dt s) / 64000000 ∧
    ((∀ k, k < 16 → (s.dev.eth.sess.get {} k).held = none)) ∧
    8 ∈ role2Threads s.dev ∧
    thrState 8 s.dev = 6) ∧
    (∃ (dt : Nat) (s : State), s.dev.unit.phase = .run ∧
    s.dev.creel.window < now (later dt s) / 64000000) ∧
    (∃ (c : Nat) (s : State) (q : Nat), c ∈ coresOn s.dev ∧
    s.dev.unit.phase = .run ∧
    get RSV_STATUS_CORE_SPARE 0 s.dev = 1 ∧
    s.dev.pool.migs.any (·.1 == 0) = false ∧
    q ≤ 4 ∧
    bit (get RSV_RETIRED_CORE 0 s.dev) q = false ∧
    ((∀ k, k < 4 → get CREEL_CORE_STATE_PHYS k s.dev ≠ q))) ∧
    (∃ (c : Nat) (s : State), c ∈ coresOn s.dev ∧
    s.dev.unit.phase = .run ∧
    get RSV_STATUS_CORE_SPARE 0 s.dev = 0 ∧
    s.dev.pool.migs.any (·.1 == 0) = false) :=
  ⟨⟨400, wSt wReel, by decide +kernel, by decide +kernel⟩,
   ⟨255, wSt (wPut [(CREEL_THREAD_STATUS_STATE, 255, 2)] wRun), by decide +kernel, by decide +kernel, by decide +kernel⟩,
   ⟨0, wSt (wThrd { share := 4000000 }), by decide +kernel, by decide +kernel, by decide +kernel⟩,
   ⟨4000000, wSt wRun, by decide +kernel, by decide +kernel, by decide +kernel⟩,
   ⟨4000000, wSt (put CREEL_THREAD_STATUS_STATE 8 6 (wThrd {})), by decide +kernel, by decide +kernel, by decide +kernel, by decide +kernel, by decide +kernel⟩,
   ⟨4000000, wSt wRun, by decide +kernel, by decide +kernel⟩,
   ⟨0, wSt (wPut [(RSV_STATUS_CORE_SPARE, 0, 1)] (wThrd {})), 4, by decide +kernel, by decide +kernel, by decide +kernel, by decide +kernel, by decide +kernel, by decide +kernel, by decide +kernel⟩,
   ⟨3, wSt (wPut [(RSV_STATUS_CORE_SPARE, 0, 0)] (wThrd {})), by decide +kernel, by decide +kernel, by decide +kernel, by decide +kernel⟩⟩
theorem test_w_Reserves :
    (∃ (dt : Nat) (s : State) (kind : Nat) (m : Mig), (kind = 1 ∨ kind = 2) ∧
    s.dev.pool.migs = [(kind, m)] ∧
    m.left = [] ∧
    m.barrier ≤ now (later dt s) ∧
    s.dev.pool.waiting = [] ∧
    m.logical < kindCount kind ∧
    m.target < kindCount kind + 1) ∧
    (∃ (kind : Nat) (p : Nat) (s : State), s.dev.unit.phase = .run ∧
    kind ≤ 2 ∧
    p ≤ kindCount kind ∧
    bit (get (retiredFld kind) 0 s.dev) p = false) ∧
    (∃ (kind : Nat) (p : Nat) (s : State), s.dev.unit.phase = .run ∧
    kind ≤ 2 ∧
    p ≤ kindCount kind ∧
    bit (get (retiredFld kind) 0 s.dev) p = false ∧
    s.dev.pool.aged.contains (kind * 16 + p) = true ∧
    s.dev.pool.waiting = []) ∧
    (∃ (kind : Nat) (p : Nat) (s : State), s.dev.unit.phase = .run ∧
    kind ≤ 2 ∧
    p ≤ kindCount kind ∧
    bit (get (retiredFld kind) 0 s.dev) p = false ∧
    logicalOf kind p s.dev = none) ∧
    (∃ (kind : Nat) (p : Nat) (s : State) (k : Nat) (q : Nat), s.dev.unit.phase = .run ∧
    kind ≤ 2 ∧
    p ≤ kindCount kind ∧
    bit (get (retiredFld kind) 0 s.dev) p = false ∧
    kind ≠ 0 ∧
    logicalOf kind p s.dev = some k ∧
    isOut kind k s.dev = false ∧
    get (spareFld kind) 0 s.dev = 1 ∧
    s.dev.pool.migs.any (·.1 == kind) = false ∧
    freePhys kind s.dev = some q) ∧
    (∃ (n : Nat) (s : State) (t : Nat) (q : Nat), n < 2 ∧
    s.dev.unit.phase = .run ∧
    isStandby s.dev = false ∧
    nextTask n s.dev = some t ∧
    ((shuEngX n s.dev).out = false) ∧
    get RSV_STATUS_SHU_SPARE 0 s.dev = 1 ∧
    s.dev.pool.migs.any (·.1 == 2) = false ∧
    q ≤ 2 ∧
    bit (get RSV_RETIRED_SHU 0 s.dev) q = false ∧
    ((∀ k, k < 2 → get SHU_ENG_STATUS_PHYS k s.dev ≠ q))) ∧
    (∃ (dom : Nat) (slower : Nat) (s : State), dom < 6 ∧
    slower ≤ rsvField P1301_AGE_DELTA 30 s.dev) ∧
    (∃ (ram : Nat), ram < 128) ∧
    (∃ (dt : Nat) (ram : Nat) (row : Nat) (s : State), ram < 128 ∧
    rsvField P1301_ECC_ROW_LIMIT 2 s.dev ≤ (((s.dev.pool.ecc.get [] (ram * 65536 + row)).filter fun t => decide (now (later dt s) < t + day16)) ++ [now (later dt s)]).length ∧
    ((ram, row) ∉ s.dev.pool.copies) ∧
    rowsFree ram s.dev ≠ 0) ∧
    (∃ (dt : Nat) (ram : Nat) (row : Nat) (s : State), ram < 128 ∧
    rsvField P1301_ECC_ROW_LIMIT 2 s.dev ≤ (((s.dev.pool.ecc.get [] (ram * 65536 + row)).filter fun t => decide (now (later dt s) < t + day16)) ++ [now (later dt s)]).length ∧
    ((ram, row) ∉ s.dev.pool.copies) ∧
    rowsFree ram s.dev = 0) ∧
    (∃ (s : State) (ram : Nat) (row : Nat) (rest : List (Nat × Nat)), s.dev.pool.copies = (ram, row) :: rest) ∧
    (∃ (region : Nat), fatalRegion region = true) ∧
    (∃ (region : Nat), fatalRegion region = false ∧
    region < 11) :=
  ⟨⟨0, wSt { wRun with pool := { migs := [(1, ⟨0, 8, 0, [], false⟩)] } }, 1, ⟨0, 8, 0, [], false⟩, by decide +kernel, by decide +kernel, by decide +kernel, by decide +kernel, by decide +kernel, by decide +kernel, by decide +kernel⟩,
   ⟨2, 2, wSt wRun, by decide +kernel, by decide +kernel, by decide +kernel, by decide +kernel⟩,
   ⟨1, 8, wSt { wRun with pool := { aged := [24] } }, by decide +kernel, by decide +kernel, by decide +kernel, by decide +kernel, by decide +kernel, by decide +kernel⟩,
   ⟨2, 2, wSt wRun, by decide +kernel, by decide +kernel, by decide +kernel, by decide +kernel, by decide +kernel⟩,
   ⟨2, 1, wSt (wPut [(RSV_STATUS_SHU_SPARE, 0, 1)] (wTaskX {})), 1, 2, by decide +kernel, by decide +kernel, by decide +kernel, by decide +kernel, by decide +kernel, by decide +kernel, by decide +kernel, by decide +kernel, by decide +kernel, by decide +kernel⟩,
   ⟨0, wSt (wPut [(RSV_STATUS_SHU_SPARE, 0, 1)] (wTaskX { live := true })), 0, 2, by decide +kernel, by decide +kernel, by decide +kernel, by decide +kernel, by decide +kernel, by decide +kernel, by decide +kernel, by decide +kernel, by decide +kernel, by decide +kernel⟩,
   ⟨5, 30, wSt wRun, by decide +kernel, by decide +kernel⟩,
   ⟨127, by decide +kernel⟩,
   ⟨0, 127, 3, wSt { wRun with pool := { ecc := [(127 * 65536 + 3, [0])] } }, by decide +kernel, by decide +kernel, by decide +kernel, by decide +kernel⟩,
   ⟨0, 127, 3, wSt { wRun with pool := { ecc := [(127 * 65536 + 3, [0])], rowsUsed := [(127, 20)] } }, by decide +kernel, by decide +kernel, by decide +kernel, by decide +kernel⟩,
   ⟨wSt { wRun with pool := { copies := [(1, 2)] } }, 1, 2, [], by decide +kernel⟩,
   ⟨10, by decide +kernel⟩,
   ⟨9, by decide +kernel, by decide +kernel⟩⟩
theorem test_w_PlyEngines :
    (∃ (n : Nat) (s : State) (g : Nat) (r : Rec) (i : Nat), ((s.dev.engs.get {} n).group = g + 1) ∧
    grpRec g s.dev = some r ∧
    isTwin r = false ∧
    nextEntry r (s.dev.grps.get {} g).pos s.dev = some i) ∧
    (∃ (n : Nat) (epoch : Nat) (s : State) (g : Nat) (r : Rec), n < 8 ∧
    ((s.dev.engs.get {} n).group = g + 1) ∧
    grpRec g s.dev = some r ∧
    isTwin r = false ∧
    epoch ≠ (s.dev.grps.get {} g).epoch ∧
    epoch ≠ ((s.dev.grps.get {} g).epoch + 1) % 65536) ∧
    (∃ (n : Nat) (s : State) (g : Nat) (r : Rec) (i : Nat), ((s.dev.engs.get {} n).group = g + 1) ∧
    grpRec g s.dev = some r ∧
    isTwin r = true ∧
    ((s.dev.grps.get {} g).single = 0) ∧
    asTwin n g r s.dev = false ∧
    nextEntry r (s.dev.grps.get {} g).pos s.dev = some i) ∧
    (∃ (dt : Nat) (p : Nat) (s : State) (r : Rec), p < 1024 ∧
    ImgOk s.dev ∧
    plyRec p s.dev = some r ∧
    running s.dev = true ∧
    plyDue p r (later dt s) = true ∧
    ((∀ q, grpRec (groupOfPly p s.dev) s.dev = some q → isTwin q = false ∧ grpEngine (groupOfPly p s.dev) q s.dev < 8))) ∧
    (∃ (dt : Nat) (p : Nat) (s : State) (r : Rec), p < 1024 ∧
    ImgOk s.dev ∧
    plyRec p s.dev = some r ∧
    running s.dev = true ∧
    plyDue p r (later dt s) = true ∧
    ((∀ q, grpRec (groupOfPly p s.dev) s.dev = some q → isTwin q = false ∧ grpEngine (groupOfPly p s.dev) q s.dev < 8)) ∧
    ((s.dev.plies.get {} p).launch.done = true) ∧
    ((s.dev.plies.get {} p).launch.hold = false)) ∧
    (∃ (dt : Nat) (p : Nat) (s : State) (r : Rec), p < 1024 ∧
    ImgOk s.dev ∧
    plyRec p s.dev = some r ∧
    running s.dev = true ∧
    plyDue p r (later dt s) = true ∧
    ((∀ q, grpRec (groupOfPly p s.dev) s.dev = some q → isTwin q = false ∧ grpEngine (groupOfPly p s.dev) q s.dev < 8)) ∧
    ((s.dev.plies.get {} p).launch.done = false) ∧
    ((s.dev.grps.get {} (groupOfPly p s.dev)).held = false) ∧
    replaying s.dev = false ∧
    r.u P0501_MISS_LIMIT = 0) ∧
    (∃ (dt : Nat) (n : Nat) (s : State), ((s.dev.engs.get {} n).test = true) ∧
    ((s.dev.engs.get {} n).group = 0) ∧
    max (s.dev.engs.get {} n).since (s.dev.engs.get {} n).testEdge + 800 ≤ edge (later dt s)) ∧
    (∃ (b : Nat) (s : State) (r : Rec), b < 8 ∧
    trcRec b s.dev = some r ∧
    ((s.dev.trcs.get {} b).copying = true)) ∧
    (∃ (b : Nat) (s : State) (r : Rec), b < 8 ∧
    trcRec b s.dev = some r ∧
    ((s.dev.trcs.get {} b).copying = true) ∧
    get PLY_TRC_STATUS_STATE b s.dev ≠ 5 ∧
    ((captureBytes b r s.dev).length ≤ orD (recOf 0x0F01 s.dev) P0F01_SNAP_MIB 0 * 1048576) ∧
    storeReady s.dev = true) :=
  ⟨⟨0, wSt { wV with engs := [(0, { group := 1 })], plies := [(0, { launch := { live := true } })] }, 0, wGrp0, 0, by decide +kernel, by decide +kernel, by decide +kernel, by decide +kernel⟩,
   ⟨0, 7, wSt { wV with engs := [(0, { group := 1 })] }, 0, wGrp0, by decide +kernel, by decide +kernel, by decide +kernel, by decide +kernel, by decide +kernel, by decide +kernel⟩,
   ⟨1, wSt { wV with engs := [(1, { group := 2 })], plies := [(2, { launch := { live := true } }), (3, { launch := { live := true } })] }, 1, wGrp1, 0, by decide +kernel, by decide +kernel, by decide +kernel, by decide +kernel, by decide +kernel, by decide +kernel⟩,
   ⟨400, 0, wSt { wV with plies := [(0, { launch := { live := true } })] }, wPly0, by decide +kernel, tOk _ (.inl rfl) rfl, by decide +kernel, by decide +kernel, by decide +kernel, fun q h => ⟨by revert q; decide +kernel, by revert q; decide +kernel⟩⟩,
   ⟨400, 0, wSt { wV with plies := [(0, { launch := { live := true, done := true } })] }, wPly0, by decide +kernel, tOk _ (.inl rfl) rfl, by decide +kernel, by decide +kernel, by decide +kernel, fun q h => ⟨by revert q; decide +kernel, by revert q; decide +kernel⟩, by decide +kernel, by decide +kernel⟩,
   ⟨400, 0, wSt { wV with plies := [(0, { launch := { live := true } })] }, wPly0, by decide +kernel, tOk _ (.inl rfl) rfl, by decide +kernel, by decide +kernel, by decide +kernel, fun q h => ⟨by revert q; decide +kernel, by revert q; decide +kernel⟩, by decide +kernel, by decide +kernel, by decide +kernel, by decide +kernel⟩,
   ⟨800, 7, wSt { wRun with engs := [(7, { test := true })] }, by decide +kernel, by decide +kernel, by decide +kernel⟩,
   ⟨0, wSt { wRunR [wTrc] with trcs := [(0, { copying := true })] }, wTrc, by decide +kernel, by decide +kernel, by decide +kernel⟩,
   ⟨0, wSt (put STORE_STATUS_STATE 0 3 { wRunR [wTrc, tRec 9 0x0F01 68 [(P0F01_SNAP_MIB, 0, 64)]] with trcs := [(0, { copying := true })] }), wTrc, by decide +kernel, by decide +kernel, by decide +kernel, by decide +kernel, by decide +kernel, by decide +kernel⟩⟩
theorem test_w_BrakeTime :
    (∃ (dt : Nat) (a : Nat) (s : State) (r : Rec) (x : Nat) (next : Nat), a < 64 ∧
    ImgOk s.dev ∧
    axisRec a s.dev = some r ∧
    ((s.dev.axes.get {} a).brake = some (x, next)) ∧
    x ≤ edge (later dt s)) ∧
    (∃ (dt : Nat) (a : Nat) (s : State) (r : Rec) (x : Nat) (next : Nat), a < 64 ∧
    ImgOk s.dev ∧
    axisRec a s.dev = some r ∧
    ((s.dev.axes.get {} a).brake = some (x, next)) ∧
    x ≤ edge (later dt s) ∧
    next = 2 ∧
    get MOT_AX_STATE_STATE a s.dev = 1) ∧
    (∃ (dt : Nat) (a : Nat) (s : State) (r : Rec) (x : Nat) (next : Nat), a < 64 ∧
    ImgOk s.dev ∧
    axisRec a s.dev = some r ∧
    ((s.dev.axes.get {} a).brake = some (x, next)) ∧
    x ≤ edge (later dt s) ∧
    next = 2 ∧
    get MOT_AX_STATE_STATE a s.dev ≠ 1) ∧
    (∃ (dt : Nat) (a : Nat) (s : State) (r : Rec) (x : Nat) (next : Nat), a < 64 ∧
    ImgOk s.dev ∧
    axisRec a s.dev = some r ∧
    ((s.dev.axes.get {} a).brake = some (x, next)) ∧
    x ≤ edge (later dt s) ∧
    (next = 0 ∨ next = 9) ∧
    r.u P0601_KIND = 1) :=
  ⟨⟨0, 0, wSt { wV with axes := [(0, { brake := some (0, 2) })] }, wAxis0, 0, 2, by decide +kernel, tOk _ (.inl rfl) rfl, by decide +kernel, by decide +kernel, by decide +kernel⟩,
   ⟨0, 0, wSt (put MOT_AX_STATE_STATE 0 1 { wV with axes := [(0, { brake := some (0, 2) })] }), wAxis0, 0, 2, by decide +kernel, tOk _ (.inl rfl) rfl, by decide +kernel, by decide +kernel, by decide +kernel, by decide +kernel, by decide +kernel⟩,
   ⟨0, 0, wSt (put MOT_AX_STATE_STATE 0 8 { wV with axes := [(0, { brake := some (0, 2) })] }), wAxis0, 0, 2, by decide +kernel, tOk _ (.inl rfl) rfl, by decide +kernel, by decide +kernel, by decide +kernel, by decide +kernel, by decide +kernel⟩,
   ⟨0, 0, wSt (put MOT_AX_STATE_STATE 0 8 { wV with axes := [(0, { brake := some (0, 9) })] }), wAxis0, 0, 9, by decide +kernel, tOk _ (.inl rfl) rfl, by decide +kernel, by decide +kernel, by decide +kernel, by decide +kernel, by decide +kernel⟩⟩
theorem test_w_Recorder :
    (∃ (dt : Nat) (n : Nat) (s : State) (r : Rec) (i : Nat), n < 16 ∧
    ImgOk s.dev ∧
    strDue n (later dt s) = true ∧
    strEntry n s.dev = some (r, i)) ∧
    (∃ (dt : Nat) (n : Nat) (s : State) (r : Rec) (i : Nat), n < 16 ∧
    ImgOk s.dev ∧
    strDue n (later dt s) = true ∧
    strEntry n s.dev = some (r, i) ∧
    get ETH_STREAM_STATUS_QUEUED n s.dev < r.u P0C03_QUEUE i) ∧
    (∃ (dt : Nat) (n : Nat) (s : State) (r : Rec) (i : Nat), n < 16 ∧
    ImgOk s.dev ∧
    strDue n (later dt s) = true ∧
    strEntry n s.dev = some (r, i) ∧
    r.u P0C03_QUEUE i ≤ get ETH_STREAM_STATUS_QUEUED n s.dev) ∧
    (∃ (dt : Nat) (n : Nat) (s : State), strDue n (later dt s) = false) ∧
    (∃ (dt : Nat) (s : State), s.dev.recd.buf ≠ [] ∧
    orD0 (recOf 0x1004 s.dev) P1004_EVENT_FLUSH_MS 1000 * 400000 ≤ since s.dev.recd.oldest (later dt s) ∧
    storeReady s.dev = true ∧
    s.dev.recd.frozen = false) ∧
    (∃ (dt : Nat) (s : State), (s.dev.recd.buf = [] ∨ since s.dev.recd.oldest (later dt s) < orD0 (recOf 0x1004 s.dev) P1004_EVENT_FLUSH_MS 1000 * 400000)) :=
  ⟨⟨400, 0, wSt { wV with streams := [(0, { body := [1] })] }, wTrans, 0, by decide +kernel, tOk _ (.inl rfl) rfl, by decide +kernel, by decide +kernel⟩,
   ⟨400, 0, wSt { wV with streams := [(0, { body := [1] })] }, wTrans, 0, by decide +kernel, tOk _ (.inl rfl) rfl, by decide +kernel, by decide +kernel, by decide +kernel⟩,
   ⟨400, 0, wSt (put ETH_STREAM_STATUS_QUEUED 0 2 { wV with streams := [(0, { body := [1] })] }), wTrans, 0, by decide +kernel, tOk _ (.inl rfl) rfl, by decide +kernel, by decide +kernel, by decide +kernel⟩,
   ⟨0, 0, wSt wV, by decide +kernel⟩,
   ⟨400000000, wSt { wStore 3 {} with recd := { buf := [⟨0, 0, 0, 0, 0, 0, false, false, 0⟩] } }, by decide +kernel, by decide +kernel, by decide +kernel, by decide +kernel⟩,
   ⟨0, wSt wRun, by decide +kernel⟩⟩
theorem test_w_HankSequencer :
    (∃ (h : Nat) (t : Nat) (q : HankReq) (k : HankDec) (d : Dev), reqDecision h t q d = some k) ∧
    (∃ (host : Bool) (h : Nat) (t : Nat) (q : HankReq) (d : Dev), h < 32 ∧
    boxAt host h d = some q ∧
    reqDecision h t q d = none ∧
    q.seq < 65536) ∧
    (∃ (h : Nat) (k : HankDec), h < 32 ∧
    k.kind = 6 ∧
    k.recipe < 256) ∧
    (∃ (h : Nat) (k : HankDec), h < 32 ∧
    k.kind = 7 ∧
    k.recipe < 256 ∧
    k.tag < 2 ^ 32) ∧
    (∃ (h : Nat) (k : HankDec), h < 32 ∧
    k.kind = 8) ∧
    (∃ (h : Nat) (k : HankDec) (t : Nat) (d : Dev), h < 32 ∧
    ((hankRec h d).isSome = true) ∧
    ((hankRecipe h d).isSome = true) ∧
    (k.kind = 1 ∨ k.kind = 2) ∧
    k.step < 1024 ∧
    t < 2 ^ 64) ∧
    (∃ (d : Dev), isActive d = false) :=
  ⟨⟨0, 0, { code := 1, recipe := 3 }, { kind := 6, recipe := 3 }, wHankD 0 {}, by decide +kernel⟩,
   ⟨false, 0, 0, { seq := 1, code := 9 }, wHankD 0 { boxS := some (0, { seq := 1, code := 9 }) }, by decide +kernel, by decide +kernel, by decide +kernel, by decide +kernel⟩,
   ⟨31, { kind := 6, recipe := 0, step := 0, tag := 5 }, by decide +kernel, by decide +kernel, by decide +kernel⟩,
   ⟨31, { kind := 7, recipe := 0, step := 0, tag := 5 }, by decide +kernel, by decide +kernel, by decide +kernel, by decide +kernel⟩,
   ⟨31, { kind := 8, recipe := 0, step := 0, tag := 5 }, by decide +kernel, by decide +kernel⟩,
   ⟨0, { kind := 1, recipe := 0, step := 0, tag := 5 }, 0, wHankD 1 { recipe := some 0 }, by decide +kernel, by decide +kernel, by decide +kernel, by decide +kernel, by decide +kernel, by decide +kernel⟩,
   ⟨w0, by decide +kernel⟩⟩
theorem test_w_AxisCommands :
    (∃ (c : MCmd), c.seq = 0) ∧
    (∃ (a : Nat) (hank : Bool) (c : MCmd) (old : MCmd) (d : Dev), a < 64 ∧
    c.seq ≠ 0 ∧
    ((axisRec a d).isSome = true) ∧
    old.seq < 65536 ∧
    ((if hank then (d.axes.get {} a).boxH else (d.axes.get {} a).boxS) = some old)) ∧
    (∃ (a : Nat) (r : Rec) (c : MCmd) (d : Dev), judge a r c d = 0) ∧
    (∃ (a : Nat) (r : Rec) (c : MCmd) (d : Dev), a < 64 ∧
    c.seq < 65536 ∧
    judge a r c d ≠ 0) ∧
    (∃ (a : Nat) (r : Rec) (c : MCmd) (d : Dev), a < 64 ∧
    judge a r c d = 0 ∧
    (c.code = 1 ∨ c.code = 2 ∨ c.code = 6 ∨ c.code = 9)) :=
  ⟨⟨{}, by decide +kernel⟩,
   ⟨0, true, { seq := 2 }, { seq := 1 }, { wV with axes := [(0, { boxH := some { seq := 1 } })] }, by decide +kernel, by decide +kernel, by decide +kernel, by decide +kernel, by decide +kernel⟩,
   ⟨0, wAxis0, { code := 1 }, wV, by decide +kernel⟩,
   ⟨0, wAxis0, { code := 2 }, wV, by decide +kernel, by decide +kernel, by decide +kernel⟩,
   ⟨0, wAxis0, { code := 1 }, wV, by decide +kernel, by decide +kernel, by decide +kernel⟩⟩
theorem test_w_AxisProfiles :
    (∃ (m : MoveLim), 0 < m.v ∧
    0 ≤ m.vs ∧
    0 ≤ m.ve ∧
    0 < m.a ∧
    0 < m.b) ∧
    (∃ (v : ℤ) (b : ℚ), v ≠ 0 ∧
    0 < b) :=
  ⟨⟨⟨1, 0, 0, 1, 1⟩, by decide +kernel, by decide +kernel, by decide +kernel, by decide +kernel, by decide +kernel⟩,
   ⟨1, 1, by decide +kernel, by decide +kernel⟩⟩
theorem test_w_SkeinStore :
    (∃ (p : NandOp) (o : StoreOp) (s : State), storeReady s.dev = true ∧
    current p 0 s.dev = some o) ∧
    (∃ (p : NandOp) (o : StoreOp) (s : State), current p 1 s.dev = some o ∧
    p.die = o.die) ∧
    (∃ (p : NandOp) (o : StoreOp) (s : State), current p 1 s.dev = some o ∧
    p.die = o.die ∧
    ((blkX (o.die * 65536 + o.block) s.dev).st ≠ 3)) ∧
    (∃ (p : NandOp) (o : StoreOp) (s : State), current p 2 s.dev = some o ∧
    p.die = o.die) ∧
    (∃ (p : NandOp) (o : StoreOp) (s : State), current p 2 s.dev = some o ∧
    p.die = o.die ∧
    ((blkX (o.die * 65536 + o.block) s.dev).st ≠ 3)) ∧
    (∃ (n : Nat) (s : State), ((dieX n s.dev).resetting = true)) ∧
    (∃ (dt : Nat) (n : Nat) (s : State), ((dieX n s.dev).cur.isSome = true) ∧
    ((dieX n s.dev).slow = false) ∧
    4000000 < since (dieX n s.dev).began (later dt s)) ∧
    (∃ (dt : Nat) (n : Nat) (s : State), ((dieX n s.dev).cur.isSome = true) ∧
    ((dieX n s.dev).slow = false) ∧
    4000000 < since (dieX n s.dev).began (later dt s) ∧
    2 ≤ (dieX n s.dev).strikes ∧
    get STORE_DIE_STATUS_ROLE n s.dev = 1) ∧
    (∃ (n : Nat) (s : State), n < 32 ∧
    s.dev.store.retiring = n + 1 ∧
    get STORE_DIE_STATUS_ROLE n s.dev = 1) ∧
    (∃ (n : Nat) (s : State), n < 32 ∧
    s.dev.store.retiring = n + 1 ∧
    get STORE_DIE_STATUS_ROLE n s.dev = 1 ∧
    ((List.range 32).find? (fun k => get STORE_DIE_STATUS_ROLE k s.dev == 2) = some 4)) ∧
    (∃ (n : Nat) (s : State), n < 32 ∧
    s.dev.store.retiring = n + 1 ∧
    get STORE_DIE_STATUS_ROLE n s.dev = 1 ∧
    ((List.range 32).find? (fun k => get STORE_DIE_STATUS_ROLE k s.dev == 2) = none)) ∧
    (∃ (s : State) (r : Rec), ImgOk s.dev ∧
    arrRec s.dev = some r ∧
    get STORE_STATUS_STATE 0 s.dev = 1) ∧
    (∃ (res : ProbeResult) (s : State) (r : Rec), ImgOk s.dev ∧
    arrRec s.dev = some r ∧
    get STORE_STATUS_STATE 0 s.dev = 1 ∧
    (∀ p ∈ arrayDies r, bit res.present p.1 = true)) ∧
    (∃ (res : ProbeResult) (s : State) (r : Rec), ImgOk s.dev ∧
    arrRec s.dev = some r ∧
    get STORE_STATUS_STATE 0 s.dev = 1 ∧
    (∃ p ∈ arrayDies r, s.dev.store.roles.get (if p.2 then 2 else 1) p.1 ≠ 3 ∧ bit res.present p.1 = false)) ∧
    (∃ (s : State) (r : Rec), arrRec s.dev = some r ∧
    get STORE_STATUS_STATE 0 s.dev = 2) ∧
    (∃ (res : MountResult) (s : State) (r : Rec), arrRec s.dev = some r ∧
    get STORE_STATUS_STATE 0 s.dev = 2 ∧
    res.directory = true ∧
    s.dev.store.formatted = true) ∧
    (∃ (res : MountResult) (s : State) (r : Rec), arrRec s.dev = some r ∧
    get STORE_STATUS_STATE 0 s.dev = 2 ∧
    res.directory = false ∧
    (res.blank = false ∨ r.b P0F01_FLAGS 0 = false)) ∧
    (∃ (res : MountResult) (s : State) (r : Rec), arrRec s.dev = some r ∧
    get STORE_STATUS_STATE 0 s.dev = 2 ∧
    res.directory = false ∧
    res.blank = true ∧
    r.b P0F01_FLAGS 0 = true) ∧
    (∃ (s : State), get STORE_STATUS_STATE 0 s.dev = 1) ∧
    (∃ (p : NandOp) (ok : Bool) (s : State), get STORE_STATUS_STATE 0 s.dev = 1 ∧
    ok = false ∧
    (∃ r, arrRec s.dev = some r ∧ (arrayDies r).any (·.1 == p.die) = true)) ∧
    (∃ (dt : Nat) (i : Instr), (i = .directoryJournal dt ∨ i = .directoryCheckpoint dt)) ∧
    (∃ (dt : Nat) (s : State) (i : Instr), (i = .directoryJournal dt ∨ i = .directoryCheckpoint dt) ∧
    storeReady s.dev = true ∧
    dueAgain (s.dev.store.last.get 0 1) 40000000 (later dt s) = true ∧
    dueAgain (s.dev.store.last.get 0 2) 1440000000000 (later dt s) = true) ∧
    (∃ (dt : Nat) (s : State) (i : Instr), (i = .directoryJournal dt ∨ i = .directoryCheckpoint dt) ∧
    storeReady s.dev = false) ∧
    (∃ (dt : Nat) (s : State) (r : Rec), storeReady s.dev = true ∧
    arrRec s.dev = some r ∧
    dueAgain (s.dev.store.last.get 0 4) (r.u P0F01_SCRUB_HOURS * 1440000000000) (later dt s) = true) ∧
    (∃ (dt : Nat) (s : State), storeReady s.dev = true ∧
    zqDue (later dt s) = true) :=
  ⟨⟨{}, plainOp 0 0 0 0 0 0 0 0 0, wSt (wStore 3 { dies := [(0, { cur := some (plainOp 0 0 0 0 0 0 0 0 0) })] }), by decide +kernel, by decide +kernel⟩,
   ⟨{}, plainOp 0 1 0 0 0 0 0 0 0, wSt (wStore 3 { dies := [(0, { cur := some (plainOp 0 1 0 0 0 0 0 0 0) })] }), by decide +kernel, by decide +kernel⟩,
   ⟨{}, plainOp 0 1 0 0 0 0 0 0 0, wSt (wStore 3 { dies := [(0, { cur := some (plainOp 0 1 0 0 0 0 0 0 0) })] }), by decide +kernel, by decide +kernel, by decide +kernel⟩,
   ⟨{}, plainOp 0 2 0 0 0 0 0 0 0, wSt (wStore 3 { dies := [(0, { cur := some (plainOp 0 2 0 0 0 0 0 0 0) })] }), by decide +kernel, by decide +kernel⟩,
   ⟨{}, plainOp 0 2 0 0 0 0 0 0 0, wSt (wStore 3 { dies := [(0, { cur := some (plainOp 0 2 0 0 0 0 0 0 0) })] }), by decide +kernel, by decide +kernel, by decide +kernel⟩,
   ⟨0, wSt (wStore 3 { dies := [(0, { resetting := true })] }), by decide +kernel⟩,
   ⟨4000001, 0, wSt (wStore 3 { dies := [(0, { cur := some (plainOp 0 2 0 0 0 0 0 0 0) })] }), by decide +kernel, by decide +kernel, by decide +kernel⟩,
   ⟨4000001, 0, wSt (put STORE_DIE_STATUS_ROLE 0 1 (wStore 3 { dies := [(0, { cur := some (plainOp 0 2 0 0 0 0 0 0 0), strikes := 2 })] })), by decide +kernel, by decide +kernel, by decide +kernel, by decide +kernel, by decide +kernel⟩,
   ⟨31, wSt (wPut [(STORE_DIE_STATUS_ROLE, 31, 1)] (wStore 3 { retiring := 32 })), by decide +kernel, by decide +kernel, by decide +kernel⟩,
   ⟨31, wSt (wPut [(STORE_DIE_STATUS_ROLE, 31, 1), (STORE_DIE_STATUS_ROLE, 4, 2)] (wStore 3 { retiring := 32 })), by decide +kernel, by decide +kernel, by decide +kernel, by decide +kernel⟩,
   ⟨31, wSt (wPut [(STORE_DIE_STATUS_ROLE, 31, 1)] (wStore 3 { retiring := 32 })), by decide +kernel, by decide +kernel, by decide +kernel, by decide +kernel⟩,
   ⟨wSt (wStore 1 {}), wArr, tOk _ (.inl rfl) rfl, by decide +kernel, by decide +kernel⟩,
   ⟨{ present := 2 ^ 32 - 1 }, wSt (wStore 1 {}), wArr, tOk _ (.inl rfl) rfl, by decide +kernel, by decide +kernel, by decide +kernel⟩,
   ⟨{}, wSt (wStore 1 {}), wArr, tOk _ (.inl rfl) rfl, by decide +kernel, by decide +kernel, by decide +kernel⟩,
   ⟨wSt (wStore 2 {}), wArr, by decide +kernel, by decide +kernel⟩,
   ⟨{}, wSt (wStore 2 { formatted := true }), wArr, by decide +kernel, by decide +kernel, by decide +kernel, by decide +kernel⟩,
   ⟨{ directory := false }, wSt (wStore 2 {}), wArr, by decide +kernel, by decide +kernel, by decide +kernel, by decide +kernel⟩,
   ⟨{ directory := false, blank := true }, wSt (put STORE_STATUS_STATE 0 2 (wRunR [tRec 0 0x0F01 68 [(P0F01_FLAGS, 0, 1)]])), tRec 0 0x0F01 68 [(P0F01_FLAGS, 0, 1)], by decide +kernel, by decide +kernel, by decide +kernel, by decide +kernel, by decide +kernel⟩,
   ⟨wSt (wStore 1 {}), by decide +kernel⟩,
   ⟨{}, false, wSt (wStore 1 {}), by decide +kernel, by decide +kernel, ⟨wArr, by decide +kernel, by decide +kernel⟩⟩,
   ⟨0, .directoryJournal 0, by decide +kernel⟩,
   ⟨0, wSt (wStore 3 {}), .directoryCheckpoint 0, by decide +kernel, by decide +kernel, by decide +kernel, by decide +kernel⟩,
   ⟨0, wSt (wStore 1 {}), .directoryJournal 0, by decide +kernel, by decide +kernel⟩,
   ⟨0, wSt (wStore 3 {}), wArr, by decide +kernel, by decide +kernel, by decide +kernel⟩,
   ⟨0, wSt (wStore 3 {}), by decide +kernel, by decide +kernel⟩⟩
theorem test_w_PairLinkFrames :
    (∃ (s : State), isMember s.dev = true ∧
    blocksOn s.dev = true) ∧
    (∃ (dt : Nat) (seq : Nat) (s : State) (u : LinkTx), s.dev.pairx.unacked.find? (fun u => u.seq == seq) = some u ∧
    1200 ≤ since u.edge (later dt s)) ∧
    (∃ (dt : Nat) (seq : Nat) (s : State) (u : LinkTx), s.dev.pairx.unacked.find? (fun u => u.seq == seq) = some u ∧
    1200 ≤ since u.edge (later dt s) ∧
    u.resent = true) ∧
    (∃ (dt : Nat) (s : State), isMember s.dev = true ∧
    blocksOn s.dev = true ∧
    4000 ≤ since (s.dev.pairx.linkEdge - 1) (later dt s)) ∧
    (∃ (seq : Nat) (s : State) (i : PairItem), isMember s.dev = true ∧
    blocksOn s.dev = true ∧
    seq < 2 ^ 32 ∧
    s.dev.pairx.rxNext = some seq ∧
    s.dev.pairx.gaps = [] ∧
    pairState s.dev = 5 ∧
    1 ≤ i.item ∧
    i.item ≤ 11) ∧
    (∃ (dt : Nat) (seq : Nat) (s : State) (i : PairItem), isMember s.dev = true ∧
    blocksOn s.dev = true ∧
    seq < 2 ^ 32 ∧
    s.dev.pairx.rxNext = some seq ∧
    s.dev.pairx.gaps = [] ∧
    pairState s.dev = 5 ∧
    1 ≤ i.item ∧
    i.item ≤ 11 ∧
    now (later dt s) ≤ i.stamp + 64000) ∧
    (∃ (dt : Nat) (seq : Nat) (s : State) (i : PairItem), isMember s.dev = true ∧
    blocksOn s.dev = true ∧
    seq < 2 ^ 32 ∧
    s.dev.pairx.rxNext = some seq ∧
    s.dev.pairx.gaps = [] ∧
    pairState s.dev = 5 ∧
    1 ≤ i.item ∧
    i.item ≤ 11 ∧
    i.stamp + 64000 < now (later dt s)) ∧
    (∃ (seq : Nat) (s : State), isMember s.dev = true ∧
    blocksOn s.dev = true ∧
    seq < 2 ^ 32 ∧
    s.dev.pairx.rxNext = some seq ∧
    s.dev.pairx.gaps = [] ∧
    pairState s.dev = 3) ∧
    (∃ (seq : Nat) (s : State) (part : SnapPart), isMember s.dev = true ∧
    blocksOn s.dev = true ∧
    seq < 2 ^ 32 ∧
    s.dev.pairx.rxNext = some seq ∧
    s.dev.pairx.gaps = [] ∧
    pairState s.dev = 3 ∧
    part.last = true) ∧
    (∃ (seq : Nat) (s : State), isMember s.dev = true ∧
    blocksOn s.dev = true ∧
    seq < 2 ^ 32 ∧
    s.dev.pairx.rxNext = some seq ∧
    s.dev.pairx.gaps = [] ∧
    pairState s.dev = 6) ∧
    (∃ (seq : Nat) (off : Nat) (bs : List Nat) (s : State), isMember s.dev = true ∧
    blocksOn s.dev = true ∧
    s.dev.pairx.rxNext = some seq ∧
    s.dev.pairx.gaps = [] ∧
    seq < 2 ^ 32 ∧
    pairState s.dev = 5 ∧
    get FUSE_XCHG_STATE 0 s.dev = 1 ∧
    0 < off ∧
    off = s.dev.xchg.got ∧
    bs.any (255 < ·) = false ∧
    off + bs.length ≤ 0x800000) :=
  ⟨⟨wSt (wPairM 9 {  }), by decide +kernel, by decide +kernel⟩,
   ⟨1200, 0, wSt (wPairM 9 { unacked := [⟨0, 1, [], 0, false⟩] }), ⟨0, 1, [], 0, false⟩, by decide +kernel, by decide +kernel⟩,
   ⟨1200, 0, wSt (wPairM 9 { unacked := [⟨0, 1, [], 0, true⟩] }), ⟨0, 1, [], 0, true⟩, by decide +kernel, by decide +kernel, by decide +kernel⟩,
   ⟨4000, wSt (wPairM 9 {  }), by decide +kernel, by decide +kernel, by decide +kernel⟩,
   ⟨0, wSt (wPairM 5 { rxNext := some 0 }), { item := 11 }, by decide +kernel, by decide +kernel, by decide +kernel, by decide +kernel, by decide +kernel, by decide +kernel, by decide +kernel, by decide +kernel⟩,
   ⟨0, 0, wSt (wPairM 5 { rxNext := some 0 }), { item := 1 }, by decide +kernel, by decide +kernel, by decide +kernel, by decide +kernel, by decide +kernel, by decide +kernel, by decide +kernel, by decide +kernel, by decide +kernel⟩,
   ⟨4001, 0, wSt (wPairM 5 { rxNext := some 0 }), { item := 1 }, by decide +kernel, by decide +kernel, by decide +kernel, by decide +kernel, by decide +kernel, by decide +kernel, by decide +kernel, by decide +kernel, by decide +kernel⟩,
   ⟨0, wSt (wPairM 3 { rxNext := some 0 }), by decide +kernel, by decide +kernel, by decide +kernel, by decide +kernel, by decide +kernel, by decide +kernel⟩,
   ⟨0, wSt (wPairM 3 { rxNext := some 0 }), { last := true }, by decide +kernel, by decide +kernel, by decide +kernel, by decide +kernel, by decide +kernel, by decide +kernel, by decide +kernel⟩,
   ⟨0, wSt (wPairM 6 { rxNext := some 0 }), by decide +kernel, by decide +kernel, by decide +kernel, by decide +kernel, by decide +kernel, by decide +kernel⟩,
   ⟨0, 4, [0], wSt (wPut [(FUSE_XCHG_STATE, 0, 1)] { wPairM 5 { rxNext := some 0 } with xchg := { got := 4 } }), by decide +kernel, by decide +kernel, by decide +kernel, by decide +kernel, by decide +kernel, by decide +kernel, by decide +kernel, by decide +kernel, by decide +kernel, by decide +kernel, by decide +kernel⟩⟩
theorem test_w_PairRoles :
    (∃ (dt : Nat) (s : State), s.dev.unit.phase = .starting ∧
    pairState s.dev = 1 ∧
    max 8000000 (4 * (orD (schedRec s.dev) P0B02_CYCLE 0 * 2 / 5)) ≤ since s.dev.pairx.negEdge (later dt s)) ∧
    (∃ (dt : Nat) (s : State), s.dev.unit.phase = .starting ∧
    pairState s.dev = 1 ∧
    max 8000000 (4 * (orD (schedRec s.dev) P0B02_CYCLE 0 * 2 / 5)) ≤ since s.dev.pairx.negEdge (later dt s) ∧
    s.dev.pairx.partnerActive = true) ∧
    (∃ (dt : Nat) (s : State), s.dev.unit.phase = .starting ∧
    pairState s.dev = 1 ∧
    max 8000000 (4 * (orD (schedRec s.dev) P0B02_CYCLE 0 * 2 / 5)) ≤ since s.dev.pairx.negEdge (later dt s) ∧
    s.dev.pairx.partnerActive = false ∧
    get PAIR_STATUS_PREFERRED 0 s.dev = 1) ∧
    (∃ (dt : Nat) (s : State), s.dev.unit.phase = .starting ∧
    pairState s.dev = 1 ∧
    max 8000000 (4 * (orD (schedRec s.dev) P0B02_CYCLE 0 * 2 / 5)) ≤ since s.dev.pairx.negEdge (later dt s) ∧
    s.dev.pairx.partnerActive = false ∧
    get PAIR_STATUS_PREFERRED 0 s.dev = 0) ∧
    (∃ (dt : Nat) (s : State), (pairState s.dev = 3 ∨ pairState s.dev = 4) ∧
    s.dev.pairx.failEdge = 0 ∧
    (4000000000 ≤ since s.dev.pairx.joinEdge (later dt s) ∨ 196608 < s.dev.pairx.held)) ∧
    (∃ (dt : Nat) (s : State), s.dev.pairx.failEdge ≠ 0 ∧
    400000000 ≤ since (s.dev.pairx.failEdge - 1) (later dt s) ∧
    pairState s.dev = 3 ∧
    s.dev.pairx.partnerActive = true) ∧
    (∃ (dt : Nat) (s : State) (n : Nat), ImgOk s.dev ∧
    s.dev.pairx.pend = some n ∧
    n < 65536 ∧
    pairState s.dev = 5 ∧
    cycleBoundary (later dt s) = true) ∧
    (∃ (s : State), get PAIR_STATUS_ACTIVE_OUT 0 s.dev = 1 ∧
    isMember s.dev = true) ∧
    (∃ (s : State), get PAIR_STATUS_ACTIVE_OUT 0 s.dev = 1 ∧
    isMember s.dev = false) ∧
    (∃ (seq : Nat) (s : State) (n : Nat), isMember s.dev = true ∧
    blocksOn s.dev = true ∧
    seq < 2 ^ 32 ∧
    s.dev.pairx.rxNext = some seq ∧
    s.dev.pairx.gaps = [] ∧
    pairState s.dev = 6 ∧
    n < 65536) ∧
    (∃ (seq : Nat) (s : State) (n : Nat), isMember s.dev = true ∧
    blocksOn s.dev = true ∧
    seq < 2 ^ 32 ∧
    s.dev.pairx.rxNext = some seq ∧
    s.dev.pairx.gaps = [] ∧
    pairState s.dev = 6 ∧
    n < 65536 ∧
    epochHigher n (get PAIR_STATUS_EPOCH 0 s.dev) = true) ∧
    (∃ (dt : Nat) (s : State) (i : PairItem), (pairState s.dev = 4 ∨ pairState s.dev = 5) ∧
    running s.dev = true ∧
    nextItem (later dt s) = some i) ∧
    (∃ (dt : Nat) (s : State), nextItem (later dt s) = none) ∧
    (∃ (dt : Nat) (s : State), ImgOk s.dev ∧
    s.dev.unit.stopped = true ∧
    s.dev.unit.holdDone = false ∧
    holdLimit s.dev ≤ since s.dev.unit.stopEdge (later dt s) ∧
    (pairState s.dev = 7 ∨ pairState s.dev = 9)) ∧
    (∃ (dt : Nat) (s : State), ImgOk s.dev ∧
    s.dev.unit.stopped = true ∧
    s.dev.unit.holdDone = false ∧
    holdLimit s.dev ≤ since s.dev.unit.stopEdge (later dt s) ∧
    (pairState s.dev = 7 ∨ pairState s.dev = 9) ∧
    (∃ r ∈ recsOf 0x0704 s.dev, get DRV_AX_STATUS_SAFE (r.u P0704_AXIS) s.dev = 0)) :=
  ⟨⟨8000000, wSt (wPhase .starting (wPairM 1 {})), by decide +kernel, by decide +kernel, by decide +kernel⟩,
   ⟨8000000, wSt (wPut [] (wPhase .starting (wPairM 1 { partnerActive := true }))), by decide +kernel, by decide +kernel, by decide +kernel, by decide +kernel⟩,
   ⟨8000000, wSt (wPut [(PAIR_STATUS_PREFERRED, 0, 1)] (wPhase .starting (wPairM 1 {  }))), by decide +kernel, by decide +kernel, by decide +kernel, by decide +kernel, by decide +kernel⟩,
   ⟨8000000, wSt (wPut [(PAIR_STATUS_PREFERRED, 0, 0)] (wPhase .starting (wPairM 1 {  }))), by decide +kernel, by decide +kernel, by decide +kernel, by decide +kernel, by decide +kernel⟩,
   ⟨4000000000, wSt (wPairM 4 {  }), by decide +kernel, by decide +kernel, by decide +kernel⟩,
   ⟨400000000, wSt (wPairM 3 { failEdge := 1, partnerActive := true }), by decide +kernel, by decide +kernel, by decide +kernel, by decide +kernel⟩,
   ⟨0, wSt { wPut [(PAIR_STATUS_STATE, 0, 5)] wV with pairx := { pend := some 65535 } }, 65535, tOk _ (.inl rfl) rfl, by decide +kernel, by decide +kernel, by decide +kernel, by decide +kernel⟩,
   ⟨wSt (put PAIR_STATUS_ACTIVE_OUT 0 1 (wPairM 6 {})), by decide +kernel, by decide +kernel⟩,
   ⟨wSt (put PAIR_STATUS_ACTIVE_OUT 0 1 wRun), by decide +kernel, by decide +kernel⟩,
   ⟨0, wSt (wPairM 6 { rxNext := some 0 }), 1, by decide +kernel, by decide +kernel, by decide +kernel, by decide +kernel, by decide +kernel, by decide +kernel, by decide +kernel⟩,
   ⟨0, wSt (put PAIR_STATUS_EPOCH 0 65535 (wPairM 6 { rxNext := some 0 })), 0, by decide +kernel, by decide +kernel, by decide +kernel, by decide +kernel, by decide +kernel, by decide +kernel, by decide +kernel, by decide +kernel⟩,
   ⟨0, wSt (wPairM 4 { replay := [{}] }), {}, by decide +kernel, by decide +kernel, by decide +kernel⟩,
   ⟨0, wSt (wPairM 5 {  }), by decide +kernel⟩,
   ⟨400000, wSt { wPut [(PAIR_STATUS_STATE, 0, 9)] wV with unit := { wRun.unit with stopped := true } }, tOk _ (.inl rfl) rfl, by decide +kernel, by decide +kernel, by decide +kernel, by decide +kernel⟩,
   ⟨400000, wSt { wPut [(PAIR_STATUS_STATE, 0, 9)] wV with unit := { wRun.unit with stopped := true } }, tOk _ (.inl rfl) rfl, by decide +kernel, by decide +kernel, by decide +kernel, by decide +kernel, by decide +kernel⟩⟩

/-! The Shuttle: a valid image with a task whose next word is `w`, and 30 words of its variables. -/
def wVars : Rec := tRec 4 0x0903 364 ((⟨0, 2, 0⟩, 0, 15) :: (List.range 15).flatMap fun k =>
  [(P0903_VAR_ID, k, k + 1), (P0903_TYPE, k, 5), (P0903_ADDRESS, k, 2 * k)])
def wProg (w : Nat) : List Rec := [
  tRec 0 0x0302 48 [(P0302_KIND, 0, 1), (P0302_SOURCE, 0, 1)],
  tRec 1 0x0303 36 [(P0303_COUNT, 0, 1), (P0303_FLAGS, 0, 1), (P0303_ACTION, 0, 6), (P0303_INTERVAL, 0, 12500)],
  tRec 2 0x0901 12 [(P0901_COUNT, 0, 1), (P0901_CODE, 0, w)],
  tRec 3 0x0902 20 [(P0902_WATCHDOG, 0, 1000)], wVars]
def wShu (w : Nat) : Dev :=
  { wPut [(SHU_TASK_STATE_STATE, 0, 1)] (wRunR (wProg w)) with shu := { tasks := [(0, { live := true, regs := zeros 16 })] } }
def wShuI (i : Instr) : Dev := wShu ((((shuWord i).getD (0, none)).2).getD 0)
def tIssued (i : Instr) : Prop := ∃ w, shuWord i = some (0, w) ∧ Issues 0 w (wShuI i)
/-- Every instruction of the cyclic program as task 0, with operands that it takes. -/
def wInstrsA : List Instr :=
  [.iNop 0 0 0 0 0, .iLd 0 2 0 0 4, .iLdt 0 2 0 0 4, .iSt 0 2 0 0 4, .iStt 0 2 0 0 4, .iLdi 0 2 0 1 65535, .iMov 0 2 4 0 0,
   .iMovt 0 2 4 0 0, .iAdd 0 2 4 6 0, .iSub 0 2 4 6 0, .iMul 0 2 4 6 0, .iDiv 0 2 4 6 0, .iMod 0 2 4 6 0, .iAddi 0 2 4 0 65535,
   .iNeg 0 2 4 0 0, .iAbs 0 2 4 0 0, .iAnd 0 2 4 6 0, .iOr 0 2 4 6 0, .iXor 0 2 4 6 0, .iNot 0 2 4 0 0, .iShl 0 2 4 6 0,
   .iShr 0 2 4 6 0, .iBnot 0 2 4 0 0, .iTobool 0 2 4 0 0, .iCmp 0 2 4 6 5, .iCmpt 0 2 4 6 5, .iCmpf 0 2 4 6 6, .iSel 0 2 4 6 0]
def wInstrsB : List Instr :=
  [.iMin 0 2 4 6 1, .iMax 0 2 4 6 1, .iLimit 0 2 4 6 1, .iSat16 0 2 4 0 0, .iFadd 0 2 4 6 0, .iFsub 0 2 4 6 0, .iFmul 0 2 4 6 0,
   .iFdiv 0 2 4 6 0, .iFsqrt 0 2 4 0 0, .iFneg 0 2 4 0 1, .iItof 0 2 4 0 0, .iFtoi 0 2 4 0 0, .iQtof 0 2 4 0 0, .iFtoq 0 2 4 0 0,
   .iAddt 0 2 4 6 0, .iSubt 0 2 4 6 0, .iItot 0 2 4 0 0, .iTtoi 0 2 4 0 0, .iBr 0 1 2 4, .iCall 0 0 0 4, .iRet 0 0 0 0 0,
   .iEnd 0 0 0 0 0, .iPost 0 1 2 0 0, .iTon 0 2 4 6 0, .iTof 0 2 4 6 0, .iTp 0 2 4 6 0, .iCtu 0 2 4 6 0, .iCtd 0 2 4 6 0,
   .iCtud 0 14 4 6 0, .iRtrig 0 2 4 0 0, .iFtrig 0 2 4 0 0]
def wInstrs : List Instr := wInstrsA ++ wInstrsB
/-- Words that stop their task: unused fields, odd pairs, addresses that no record covers. -/
def wStops : List Instr :=
  [.iMov 0 1 2 3 0, .iMovt 0 1 2 0 0, .iCmpt 0 1 3 2 0, .iAddt 0 1 2 2 0, .iSubt 0 2 2 1 0, .iItot 0 1 2 0 0, .iTtoi 0 1 3 0 0,
   .iLd 0 2 0 0 30, .iLdt 0 2 0 0 30, .iSt 0 2 0 0 30, .iStt 0 2 0 0 30, .iLdt 0 2 0 0 1, .iTon 0 2 4 5 0, .iTof 0 2 4 6 8, .iCtu 0 2 4 6 8,
   .iFtrig 0 2 4 0 8, .iPost 0 0 2 0 30, .iPost 0 3 2 0 0, .iBr 0 0 0 262143, .iCall 0 0 0 262143, .iRet 0 0 0 0 0]

/-- `Issues` as a Boolean. -/
def tIssuesB (t : Nat) (w : Option Nat) (d : Dev) : Bool :=
  decide (t < 8) && decide (taskEngine t d < 2) && (taskRec t d).isSome && scanRuns t d && w.isSome && codeAt t (taskX t d).pc d == w &&
    !watchReached t (loomAt (shuEngX (taskEngine t d) (turned t d)).at_ (turned t d)) (turned t d) && get SHU_TASK_STATE_BKPT_EN t d == 0
theorem tIssues (t : Nat) (w : Option Nat) (d : Dev) (h : tIssuesB t w d = true) : Issues t w d := by
  simp only [tIssuesB, Bool.and_eq_true, beq_iff_eq, decide_eq_true_eq, Bool.not_eq_true'] at h
  obtain ⟨⟨⟨⟨⟨⟨⟨h1, h2⟩, h3⟩, h4⟩, h5⟩, h6⟩, h7⟩, h8⟩ := h
  exact ⟨h1, h2, h3, h4, h5, h6, h7, h8⟩
theorem tIssue (d : Dev) (p : Option (Nat × Option Nat))
    (h : (match p with
      | some (t, w) => t == 0 && tIssuesB 0 w d
      | none => false) = true) : ∃ w, p = some (0, w) ∧ Issues 0 w d := by
  cases p with
  | none => cases h
  | some q =>
    obtain ⟨t, w⟩ := q
    simp only [Bool.and_eq_true, beq_iff_eq] at h
    exact ⟨w, by rw [h.1], tIssues 0 w d h.2⟩

theorem test_w_shuttle_issues : ∀ i ∈ wInstrs, tIssued i := by
  intro i hi
  refine tIssue (wShuI i) (shuWord i) ?_
  revert i
  decide +kernel

theorem test_w_shuttle_stops : ∀ i ∈ wStops, tIssued i := by
  intro i hi
  refine tIssue (wShuI i) (shuWord i) ?_
  revert i
  decide +kernel

theorem wShu_img (w : Nat) : (wShu w).img = some ⟨zeros 256, wProg w⟩ := rfl
theorem wShu_next (w : Nat) : (wShu w).next = none := rfl

theorem test_w_shuttle_image : ∀ i ∈ [Instr.iStt 0 2 0 0 4, .iTon 0 2 4 6 0, .iCtud 0 14 4 6 0], ImgOk (wShuI i) := by
  have hv : ∀ i ∈ [Instr.iStt 0 2 0 0 4, .iTon 0 2 4 6 0, .iCtud 0 14 4 6 0],
      ∀ r ∈ wProg ((((shuWord i).getD (0, none)).2).getD 0), checkRec ⟨zeros 256, wProg ((((shuWord i).getD (0, none)).2).getD 0)⟩ r = true := by
    decide +kernel
  intro i hi m hm r hr
  rcases hm with hm | hm
  · have : m = ⟨zeros 256, wProg ((((shuWord i).getD (0, none)).2).getD 0)⟩ := Option.some.inj (hm.symm.trans (wShu_img _))
    subst this
    exact hv i hi r hr
  · exact absurd (hm.symm.trans (wShu_next _)) (by simp)

theorem test_w_shuttle_words : (∀ a, a < 30 → covered 0 a (turned 0 (wShu 0)) = true ∧ mayStore 0 a (turned 0 (wShu 0)) = true) ∧
    covered 0 30 (turned 0 (wShu 0)) = false ∧ mayStore 0 30 (turned 0 (wShu 0)) = false ∧
    mayStoreAll 0 0 8 (turned 0 (wShu 0)) = true ∧ mayStoreAll 0 32 8 (turned 0 (wShu 0)) = false ∧
    mayStoreAll 0 32 4 (turned 0 (wShu 0)) = false := by decide +kernel

theorem test_w_shuttle_operands : OperandAt (taskX 0 (turned 0 (wShu 0))) 0 0 4 4 ∧ OperandAt (taskX 0 (turned 0 (wShu 0))) 0 1 4 4 ∧
    OperandAt (taskX 0 (turned 0 (wShu 0))) 0 1 30 30 ∧ (∀ i, i < 30 → covered 0 (0 + i) (turned 0 (wShu 0)) = true) ∧
    xr (taskX 0 (turned 0 (wShu 0))) 2 < 8 := by unfold OperandAt; decide +kernel

/-- CALL with a full stack of calls. -/
def wFull : Dev :=
  { wShuI (.iCall 0 0 0 4) with shu := { tasks := [(0, { live := true, begun := true, regs := zeros 16, stack := zeros 16 })], engs := [(0, { cur := 1 })] } }

theorem test_w_shuttle_call : (∃ w, shuWord (.iCall 0 0 0 4) = some (0, w) ∧ Issues 0 w wFull) ∧ (taskX 0 (turned 0 wFull)).stack.length = 16 :=
  ⟨⟨some 0xC4000004, by decide +kernel, tIssues _ _ _ (by decide +kernel)⟩, by decide +kernel⟩

/-! A few commands by hand. -/

/-- A field of the device after a command; none where it stops. -/
def tGet {α : Type} (i : Instr) (d : Dev) (f : Dev → α) : Option α :=
  match exec i (wSt d) with
  | .next t => some (f t.dev)
  | _ => none

/-- Published check values: CRC-32C of "123456789" (RFC 3720), SHA-256 of "abc" (FIPS 180-4). -/
theorem test_crc32c : crc32c [0x31, 0x32, 0x33, 0x34, 0x35, 0x36, 0x37, 0x38, 0x39] = 0xE3069283 := by decide +kernel
theorem test_sha256 : sha256 [0x61, 0x62, 0x63] = 0xba7816bf8f01cfea414140de5dae2223b00361a396177a9cb410ff61f20015ad := by decide +kernel

/-- R43: no copy of an erased flash is taken, and a copy that passes is. -/
theorem test_choose_none : (chooseCopy 0 {} 0 w0).2 = none := by decide +kernel
theorem test_choose_copy : ((chooseCopy 0 {} 0 { w0 with flash := wFlash }).2).map (·.1) = some 0 := by decide +kernel
/-- R33: fuses that forbid an unsigned image. -/
theorem test_start_signed_only : (match loadCopy (2 ^ 578) {} wFlash 0 false with
    | .error e => e.code
    | .ok _ => 0) = 0x0204 := by decide +kernel

/-- The Shuttle with two registers set, before one instruction. -/
def wAlu (i : Instr) (a b : Nat) : Dev :=
  { wShuI i with shu := { tasks := [(0, { live := true, begun := true, regs := (((zeros 16).set 2 7).set 4 a).set 6 b })], engs := [(0, { cur := 1 })] } }
/-- R2 and ISAT after it. -/
def tAlu (i : Instr) (a b : Nat) : Option (Nat × Nat) :=
  tGet i (wAlu i a b) fun d => (xr (taskX 0 d) 2, get SHU_TASK_STATE_ISAT 0 d)

/-- R235, R236: ADD saturates with ISAT; SUB at the other end; a quotient by zero is 0; shift counts count modulo 32. -/
theorem test_add_saturates : tAlu (.iAdd 0 2 4 6 0) 0x7FFFFFFF 1 = some (0x7FFFFFFF, 1) := by decide +kernel
theorem test_sub_saturates : tAlu (.iSub 0 2 4 6 0) 0x80000000 1 = some (0x80000000, 1) := by decide +kernel
theorem test_add_plain : tAlu (.iAdd 0 2 4 6 0) 0xFFFFFFFF 3 = some (2, 0) := by decide +kernel
theorem test_div_trunc : tAlu (.iDiv 0 2 4 6 0) 0xFFFFFFF9 2 = some (0xFFFFFFFD, 0) := by decide +kernel
theorem test_mod_sign : tAlu (.iMod 0 2 4 6 0) 0xFFFFFFF9 2 = some (0xFFFFFFFF, 0) := by decide +kernel
theorem test_div_zero : tAlu (.iDiv 0 2 4 6 0) 5 0 = some (0, 0) := by decide +kernel
theorem test_shl_count : tAlu (.iShl 0 2 4 6 0) 3 33 = some (6, 0) := by decide +kernel
theorem test_shr_sign : tAlu (.iShr 0 2 4 6 0) 0x80000000 31 = some (0xFFFFFFFF, 0) := by decide +kernel
theorem test_sel_old : tAlu (.iSel 0 2 4 6 0) 11 12 = some (12, 0) := by decide +kernel
theorem test_fadd : tAlu (.iFadd 0 2 4 6 0) 0x3F800000 0x3F800000 = some (0x40000000, 0) := by decide +kernel
theorem test_fdiv_zero : tAlu (.iFdiv 0 2 4 6 0) 0x3F800000 0 = some (0x7F800000, 0) := by decide +kernel
theorem test_fsqrt : tAlu (.iFsqrt 0 2 4 0 0) 0x40800000 0 = some (0x40000000, 0) := by decide +kernel
theorem test_cmp_lt : tAlu (.iCmp 0 2 4 6 2) 0xFFFFFFFF 1 = some (1, 0) := by decide +kernel

/-- R501: a clock stop drops the unit into reset; R5: a write of a read-only register does nothing. -/
theorem test_clock_stop : tGet (.clockStop 4) wRun (fun d => (d.unit.phase, d.clk.edges)) = some (.monitorReset, 4) := by decide +kernel
theorem test_write_read_only : tGet (.registerWrite 0 (ID_PART.addr 0) 0xFFFFFFFF) wRun (fun d => rd ID_PART 0 d) = some (rd ID_PART 0 wRun) := by
  decide +kernel
/-- A step on an empty queue lets one edge pass. -/
theorem test_idle : (match step (wSt wRun) with
    | .next t => t.dev.clk.edges
    | _ => 0) = 1 := by decide +kernel

/-! What the check refuses, and at the edge of each range what it takes. -/

/-- A number is taken below its bound and refused at it. -/
def tEdge (f : Nat → Instr) (n : Nat) : Bool := (f (n - 1)).wf && !(f n).wf

theorem test_wf_numbers_0 : ([
  (fun rail => .supplyFault 0 rail, 9),
  (fun level => .serviceOpen 0 {} level 0, 2 ^ 8),
  (fun keepalive => .serviceOpen 0 {} 0 keepalive, 2 ^ 32),
  (fun slot => .sessionKeepaliveExpiry 0 slot, 16),
  (fun addr => .serviceRead 0 {} addr 0, 2 ^ 32),
  (fun len => .serviceRead 0 {} 0 len, 2 ^ 16),
  (fun varId => .writeHvar 0 {} varId 0, 2 ^ 32),
  (fun value => .writeHvar 0 {} 0 value, 2 ^ 64),
  (fun addr => .clearW1c 0 {} addr 0, 2 ^ 32),
  (fun mask => .clearW1c 0 {} 0 mask, 2 ^ 32),
  (fun ply => .plyStoppedClear 0 {} ply, 2 ^ 16),
  (fun task => .taskFaultClear 0 {} task, 2 ^ 16),
  (fun iface => .fbFaultyClear 0 {} iface, 2 ^ 16),
  (fun hank => .hankRequest 0 {} hank {}, 2 ^ 8),
  (fun stream => .streamArm 0 {} stream 0 0, 2 ^ 8),
  (fun addr => .streamArm 0 {} 0 addr 0, 2 ^ 32),
  (fun port => .streamArm 0 {} 0 0 port, 2 ^ 16),
  (fun stream => .streamDisarm 0 {} stream, 2 ^ 8),
  (fun buffer => .traceArm 0 {} buffer, 2 ^ 8),
  (fun buffer => .traceTrigger 0 {} buffer, 2 ^ 8),
  (fun buffer => .traceRead 0 {} buffer 0 0, 2 ^ 8),
  (fun first => .traceRead 0 {} 0 first 0, 2 ^ 32),
  (fun rows => .traceRead 0 {} 0 0 rows, 2 ^ 16),
  (fun tasks => .shuttleHold 0 {} tasks [], 2 ^ 8),
  (fun tasks => .shuttleSingleScan 0 {} tasks, 2 ^ 8),
  (fun tasks => .shuttleResume 0 {} tasks, 2 ^ 8),
  (fun offset => .imageTransfer 0 {} offset [], 2 ^ 32),
  (fun sc => .imageCommit 0 {} sc, 2 ^ 64),
  (fun first => .eventRead 0 {} first 0 0 0, 2 ^ 64),
  (fun limit => .eventRead 0 {} 0 limit 0 0, 2 ^ 64),
  (fun max => .eventRead 0 {} 0 0 max 0, 2 ^ 16),
  (fun sevMin => .eventRead 0 {} 0 0 0 sevMin, 2 ^ 8),
  (fun capture => .snapRead 0 {} capture 0 0, 2 ^ 32),
  (fun offset => .snapRead 0 {} 0 offset 0, 2 ^ 32),
  (fun len => .snapRead 0 {} 0 0 len, 2 ^ 16),
  (fun field => .fuseWrite 0 {} field 0, 2 ^ 8),
  (fun value => .fuseWrite 0 {} 0 value, 2 ^ 256),
  (fun opcode => .serviceUnknownOpcode 0 {} opcode, 2 ^ 16),
  (fun pick => .pickFire 0 pick [], 1024),
  (fun measure => .measureSamplePeriod 0 measure, 16)] : List ((Nat → Instr) × Nat)).all (fun p => tEdge p.1 p.2) = true := by decide +kernel

theorem test_wf_numbers_1 : ([
  (fun measure => .measureLostTimeout 0 measure, 16),
  (fun core => .threadDispatch 0 core, 4),
  (fun core => .threadWaitCommit 0 core [] .wake, 4),
  (fun thread => .delayExpiry 0 thread, 256),
  (fun core => .sliceExpiry 0 core, 4),
  (fun core => .maxRunExpiry 0 core, 4),
  (fun core => .coreLockstepMismatch 0 core, 4),
  (fun engine => .plyEvalComplete 0 engine true {}, 8),
  (fun flip => .plyEvalComplete 0 0 true ⟨flip, 0⟩, 2 ^ 1312),
  (fun epoch => .plyEvalComplete 0 0 true ⟨0, epoch⟩, 2 ^ 16),
  (fun ply => .plyPublish 0 ply, 1024),
  (fun buffer => .traceCopyComplete 0 buffer, 16),
  (fun engine => .engineSelfTest 0 engine true, 8),
  (fun axis => .brakeTimeElapsed 0 axis, 64),
  (fun channel => .overcurrentTrip 0 channel [], 48),
  (fun channel => .sdStuck 0 channel, 48),
  (fun channel => .sdChannelValid 0 channel, 48),
  (fun group => .pwmReload 0 group, 8),
  (fun group => .pwmCompareMatch 0 group, 8),
  (fun pin => .deadTimeExpiry 0 pin, 96),
  (fun axis => .readbackError 0 axis 0, 16),
  (fun pair => .readbackError 0 0 pair, 48),
  (fun axis => .shootThrough 0 axis 0, 16),
  (fun pair => .shootThrough 0 0 pair, 48),
  (fun line => .fbLineEdge 0 line true 0, 72),
  (fun frac => .fbLineEdge 0 0 true frac, 16),
  (fun line => .fbLevelAccept 0 line, 72),
  (fun iface => .fbZeroTime 0 iface, 24),
  (fun iface => .fbErrRunReset 0 iface, 24),
  (fun iface => .fbAlarmTimeout 0 iface, 24),
  (fun iface => .ssiReadComplete 0 iface [], 24),
  (fun pin => .gpioEdge 0 pin true 0, 32),
  (fun frac => .gpioEdge 0 0 true frac, 16),
  (fun task => .watchdogExpiry 0 task, 8),
  (fun task => .iBr task 0 0 0, 8),
  (fun cond => .iBr 0 cond 0 0, 16),
  (fun ra => .iBr 0 0 ra 0, 16),
  (fun offset => .iBr 0 0 0 offset, 2 ^ 18),
  (fun task => .iCall task 0 0 0, 8),
  (fun cond => .iCall 0 cond 0 0, 16),
  (fun ra => .iCall 0 0 ra 0, 16)] : List ((Nat → Instr) × Nat)).all (fun p => tEdge p.1 p.2) = true := by decide +kernel

theorem test_wf_numbers_2 : ([
  (fun offset => .iCall 0 0 0 offset, 2 ^ 18),
  (fun task => .illegalOpcode task 0, 8),
  (fun word => .illegalOpcode 0 word, 2 ^ 32),
  (fun channel => .weftFrameRx 0 channel {}, 2),
  (fun slot => .weftFrameTx 0 slot, 64),
  (fun slot => .weftAssemblyClose 0 slot, 64),
  (fun slot => .weftDelivery 0 slot, 64),
  (fun slot => .heddleMark 0 slot true, 64),
  (fun port => .ethFrameRx 0 port {}, 3),
  (fun port => .ethFrameTx 0 port, 3),
  (fun port => .arpRequest 0 port {}, 3),
  (fun port => .icmpEchoRequest 0 port {}, 3),
  (fun port => .ptpSync 0 port {}, 3),
  (fun port => .ptpFollowUp 0 port {}, 3),
  (fun port => .ptpDelayReq 0 port {}, 3),
  (fun port => .ptpDelayResp 0 port {}, 3),
  (fun port => .ptpPdelayReq 0 port {}, 3),
  (fun port => .ptpPdelayResp 0 port {}, 3),
  (fun port => .ptpPdelayRespFollowUp 0 port {}, 3),
  (fun port => .ptpAnnounce 0 port {}, 3),
  (fun port => .ptpMgmtSignaling 0 port {}, 3),
  (fun kind => .ptpTxInterval 0 kind, 4),
  (fun port => .ethLinkChange 0 port true, 3),
  (fun stream => .streamPacketClose 0 stream, 16),
  (fun ctrl => .canFrameRx 0 ctrl {}, 4),
  (fun ctrl => .canDelivery 0 ctrl, 4),
  (fun ctrl => .canPairTimeout 0 ctrl 0, 4),
  (fun pair => .canPairTimeout 0 0 pair, 64),
  (fun ctrl => .canTxComplete 0 ctrl 0 0 0, 4),
  (fun buffer => .canTxComplete 0 0 buffer 0 0, 16),
  (fun ctrl => .canTxError 0 ctrl 0 0 0 0, 4),
  (fun buffer => .canTxError 0 0 buffer 0 0 0, 16),
  (fun kind => .canTxError 0 0 0 kind 0 0, 3),
  (fun ctrl => .canBusError 0 ctrl 0, 4),
  (fun kind => .canBusError 0 0 kind, 2),
  (fun ctrl => .canIntegrationDone 0 ctrl, 4),
  (fun ctrl => .canBusoffHoldExpiry 0 ctrl, 4),
  (fun ctrl => .canRecoveryDone 0 ctrl, 4),
  (fun port => .lpConversion 0 port 0, 8),
  (fun port => .lpHeadroomSet 0 port, 8)] : List ((Nat → Instr) × Nat)).all (fun p => tEdge p.1 p.2) = true := by decide +kernel

theorem test_wf_numbers_3 : ([
  (fun port => .lpHeadroomClear 0 port, 8),
  (fun port => .hartPollDue 0 port 0, 8),
  (fun entry => .hartPollDue 0 0 entry, 16),
  (fun port => .hartRequestSent 0 port, 8),
  (fun port => .hartResponseRx 0 port [] true, 8),
  (fun port => .hartResponseTimeout 0 port, 8),
  (fun port => .hartSilenceEnd 0 port, 8),
  (fun port => .hartDelivery 0 port, 8),
  (fun die => .nandResetComplete 0 die, 32),
  (fun die => .nandBusyTimeout 0 die, 32),
  (fun die => .dieRetirementComplete 0 die, 32),
  (fun input => .safetyInputEdge 0 input 0 true, 24),
  (fun channel => .safetyInputEdge 0 0 channel true, 2),
  (fun input => .safetyInputAccept 0 input 0 true, 24),
  (fun channel => .safetyInputAccept 0 0 channel true, 2),
  (fun input => .discTimeExpiry 0 input true, 24),
  (fun timer => .safetyTimerExpiry 0 timer, 16),
  (fun pulse => .testPulseStart 0 pulse, 4),
  (fun pulse => .testPulseEnd 0 pulse [] true, 4),
  (fun pulse => .tpBlankingEnd 0 pulse [], 4),
  (fun output => .crossCompareTimeout 0 output, 8),
  (fun output => .requestTimeout 0 output, 8),
  (fun output => .readbackSettle 0 output, 8),
  (fun output => .srbEdge 0 output true, 8),
  (fun output => .offPulseStart 0 output, 8),
  (fun output => .offPulseEnd 0 output true true, 8),
  (fun seq => .pairItemsRx 0 seq [], 2 ^ 32),
  (fun seq => .pairStateRx 0 seq {}, 2 ^ 32),
  (fun seq => .pairImageRx 0 seq 0 [], 2 ^ 32),
  (fun offset => .pairImageRx 0 0 offset [], 2 ^ 32),
  (fun seq => .pairAckRx 0 seq, 2 ^ 32),
  (fun seq => .pairRoleControlRx 0 seq .staged, 2 ^ 32),
  (fun seq => .pairLinkRetransmit 0 seq, 2 ^ 32),
  (fun ram => .sramEccCorrectable 0 ram 0, 2 ^ 32),
  (fun row => .sramEccCorrectable 0 0 row, 2 ^ 32),
  (fun ram => .sramEccUncorrectable 0 ram 0, 2 ^ 32),
  (fun region => .sramEccUncorrectable 0 0 region, 12),
  (fun kind => .bistSlice 0 kind 0 true, 3),
  (fun index => .bistSlice 0 0 index true, 9),
  (fun domain => .ageCheck 0 domain 0 0 0, 8)] : List ((Nat → Instr) × Nat)).all (fun p => tEdge p.1 p.2) = true := by decide +kernel

theorem test_wf_numbers_4 : ([
  (fun margin => .ageCheck 0 0 margin 0 0, 2 ^ 16),
  (fun worst => .ageCheck 0 0 0 worst 0, 2 ^ 16),
  (fun slower => .ageCheck 0 0 0 0 slower, 2 ^ 16),
  (fun engine => .shuttleResidueFailure 0 engine, 8),
  (fun addr => .registerWrite 0 addr 0, 2 ^ 32),
  (fun value => .registerWrite 0 0 value, 2 ^ 64),
  (fun channel => .sdInputToggle 0 channel, 48),
  (fun mac => .addressTableAgeOut 0 mac, 2 ^ 48)] : List ((Nat → Instr) × Nat)).all (fun p => tEdge p.1 p.2) = true := by decide +kernel

theorem test_wf_refuses_0 : ([
  .pwrGoodRise 0 { gpio := 2 ^ 32 },
  .pfailRestart 0 { gpio := 2 ^ 32 },
  .pfailStep1WaitEnd 0 { gpio := 2 ^ 32 },
  .monitorRestart 0 { gpio := 2 ^ 32 },
  .tjThreshold 0 (2 ^ 15),
  .tjThreshold 0 (-2 ^ 15 - 1),
  .serviceOpen 0 { addr := 2 ^ 32 } 0 0,
  .serviceClose 0 { addr := 2 ^ 32 },
  .serviceKeepalive 0 { addr := 2 ^ 32 },
  .serviceRead 0 { addr := 2 ^ 32 } 0 0,
  .readStrands 0 { addr := 2 ^ 32 } [],
  .readStrands 0 {} [2 ^ 32],
  .readStrands 0 {} (List.replicate 256 0),
  .writeHvar 0 { addr := 2 ^ 32 } 0 0,
  .clearW1c 0 { addr := 2 ^ 32 } 0 0,
  .plyStoppedClear 0 { addr := 2 ^ 32 } 0,
  .taskFaultClear 0 { addr := 2 ^ 32 } 0,
  .fbFaultyClear 0 { addr := 2 ^ 32 } 0,
  .hankRequest 0 { addr := 2 ^ 32 } 0 {},
  .hankRequest 0 {} 0 { seq := 2 ^ 16 },
  .streamArm 0 { addr := 2 ^ 32 } 0 0 0,
  .streamDisarm 0 { addr := 2 ^ 32 } 0,
  .traceArm 0 { addr := 2 ^ 32 } 0,
  .traceTrigger 0 { addr := 2 ^ 32 } 0,
  .traceRead 0 { addr := 2 ^ 32 } 0 0 0,
  .shuttleHold 0 { addr := 2 ^ 32 } 0 [],
  .shuttleHold 0 {} 0 [2 ^ 16],
  .shuttleHold 0 {} 0 (List.replicate 256 0),
  .shuttleSingleScan 0 { addr := 2 ^ 32 } 0,
  .shuttleResume 0 { addr := 2 ^ 32 } 0,
  .imageTransfer 0 { addr := 2 ^ 32 } 0 [],
  .imageTransfer 0 {} 0 [256],
  .imageCommit 0 { addr := 2 ^ 32 } 0,
  .imageAbort 0 { addr := 2 ^ 32 },
  .restartCold 0 { addr := 2 ^ 32 } {},
  .restartCold 0 {} { gpio := 2 ^ 32 },
  .restartWarm 0 { addr := 2 ^ 32 } {},
  .restartWarm 0 {} { gpio := 2 ^ 32 },
  .orderlyStop 0 { addr := 2 ^ 32 },
  .eventRead 0 { addr := 2 ^ 32 } 0 0 0 0,
  .snapRead 0 { addr := 2 ^ 32 } 0 0 0,
  .fuseWrite 0 { addr := 2 ^ 32 } 0 0,
  .serviceUnknownOpcode 0 { addr := 2 ^ 32 } 0,
  .exchangeReadbackDone 0 { gpio := 2 ^ 32 },
  .pickFire 0 0 [(48, [])]] : List Instr).any Instr.wf = false := by decide +kernel

theorem test_wf_refuses_1 : ([
  .threadWaitCommit 0 0 [.signal 256] .wake,
  .threadWaitCommit 0 0 [] (.delay 2 0),
  .weftFrameRx 0 0 { typ := 4 },
  .ethFrameRx 0 0 { dst := 2 ^ 48 },
  .arpRequest 0 0 { dst := 2 ^ 48 },
  .icmpEchoRequest 0 0 { dst := 2 ^ 48 },
  .ptpSync 0 0 { seq := 2 ^ 16 },
  .ptpFollowUp 0 0 { seq := 2 ^ 16 },
  .ptpDelayReq 0 0 { seq := 2 ^ 16 },
  .ptpDelayResp 0 0 { seq := 2 ^ 16 },
  .ptpPdelayReq 0 0 { seq := 2 ^ 16 },
  .ptpPdelayResp 0 0 { seq := 2 ^ 16 },
  .ptpPdelayRespFollowUp 0 0 { seq := 2 ^ 16 },
  .ptpAnnounce 0 0 { seq := 2 ^ 16 },
  .ptpMgmtSignaling 0 0 { seq := 2 ^ 16 },
  .canFrameRx 0 0 { dlc := 16 },
  .lpConversion 0 0 (2 ^ 31),
  .lpConversion 0 0 (-2 ^ 31 - 1),
  .hartResponseRx 0 0 [256] true,
  .storeProbeComplete 0 { present := 2 ^ 32 },
  .storeMountComplete 0 { marked := [2 ^ 21] },
  .nandReadComplete 0 { die := 32 } .lost,
  .nandProgramComplete 0 { die := 32 } true,
  .nandEraseComplete 0 { die := 32 } true,
  .nandFeaturesComplete 0 { die := 32 } true,
  .testPulseEnd 0 0 [⟨24, 0, true⟩] true,
  .tpBlankingEnd 0 0 [⟨24, 0, true⟩],
  .sresetPressEnd 0 true { gpio := 2 ^ 32 },
  .pairItemsRx 0 0 [{ stamp := 2 ^ 64 }],
  .pairStateRx 0 0 { bytes := [256] },
  .pairImageRx 0 0 0 [256],
  .pairRoleControlRx 0 0 (.joinRequest (2 ^ 32)),
  .deposedRestart 0 { gpio := 2 ^ 32 },
  .f4Restart 0 { gpio := 2 ^ 32 }] : List Instr).any Instr.wf = false := by decide +kernel

theorem test_wf_words : ([.iNop, .iLd, .iLdt, .iSt, .iStt, .iLdi, .iAddi, .iRet, .iEnd, .iPost] : List (Nat → Nat → Nat → Nat → Nat → Instr)).all (fun f =>
    tEdge (fun n => f n 0 0 0 0) 8 && tEdge (fun n => f 0 n 0 0 0) 16 && tEdge (fun n => f 0 0 n 0 0) 16 && tEdge (fun n => f 0 0 0 n 0) 4 &&
    tEdge (fun n => f 0 0 0 0 n) 65536) = true := by decide +kernel

theorem test_wf_registers : ([.iMov, .iMovt, .iAdd, .iSub, .iMul, .iDiv, .iMod, .iNeg, .iAbs, .iAnd, .iOr, .iXor, .iNot, .iShl, .iShr, .iBnot, .iTobool, .iCmp, .iCmpt, .iCmpf,
  .iSel, .iMin, .iMax, .iLimit, .iSat16, .iFadd, .iFsub, .iFmul, .iFdiv, .iFsqrt, .iFneg, .iItof, .iFtoi, .iQtof, .iFtoq, .iAddt, .iSubt, .iItot,
  .iTtoi, .iTon, .iTof, .iTp, .iCtu, .iCtd, .iCtud, .iRtrig, .iFtrig] : List (Nat → Nat → Nat → Nat → Nat → Instr)).all (fun f =>
    tEdge (fun n => f n 0 0 0 0) 8 && tEdge (fun n => f 0 n 0 0 0) 16 && tEdge (fun n => f 0 0 n 0 0) 16 && tEdge (fun n => f 0 0 0 n 0) 16 &&
    tEdge (fun n => f 0 0 0 0 n) 16384) = true := by decide +kernel

theorem test_wf_parts : [
  ({ lines := 2 ^ 72 } : StartPins).wf,
  ({ port := 2 ^ 16 } : SvcHdr).wf,
  ({ session := 2 ^ 16 } : SvcHdr).wf,
  ({ seq := 2 ^ 32 } : SvcHdr).wf,
  ({ code := 256 } : HankReq).wf,
  ({ recipe := 2 ^ 16 } : HankReq).wf,
  ({ step := 2 ^ 16 } : HankReq).wf,
  ({ tag := 2 ^ 32 } : HankReq).wf,
  (Effect.retarget 1024 true 0).wf,
  (Effect.retarget 0 true (2 ^ 64)).wf,
  (Effect.doff 3 0).wf,
  (Effect.doff 0 9).wf,
  (Wait.delay 0 (2 ^ 32)).wf,
  ({ source := 64 } : WeftFrame).wf,
  ({ slot := 2 ^ 16 } : WeftFrame).wf,
  ({ flags := 4 } : WeftFrame).wf,
  ({ epoch := 2 ^ 16 } : WeftFrame).wf,
  ({ cycle := 2 ^ 16 } : WeftFrame).wf,
  ({ stamp := 2 ^ 64 } : WeftFrame).wf,
  ({ words := [2 ^ 32] } : WeftFrame).wf,
  ({ words := List.replicate 61 0 } : WeftFrame).wf,
  ({ src := 2 ^ 48 } : EthFrame).wf,
  ({ tag := 65537 } : EthFrame).wf,
  ({ etherType := 2 ^ 16 } : EthFrame).wf,
  ({ bytes := [256] } : EthFrame).wf,
  ({ identity := 2 ^ 64 } : PtpMsg).wf,
  ({ portNum := 2 ^ 16 } : PtpMsg).wf,
  ({ correction := 2 ^ 63 } : PtpMsg).wf,
  ({ domain := 256 } : PtpMsg).wf,
  ({ interval := 128 } : PtpMsg).wf,
  ({ reqIdentity := 2 ^ 64 } : PtpMsg).wf,
  ({ reqPort := 2 ^ 16 } : PtpMsg).wf,
  ({ data := [256] } : PtpMsg).wf,
  ({ ident := 2 ^ 11 } : CanFrame).wf,
  ({ ident := 2 ^ 29, ext := true } : CanFrame).wf,
  ({ data := [256] } : CanFrame).wf,
  ({ data := List.replicate 65 0 } : CanFrame).wf,
  ({ rtr := true } : CanFrame).wf,
  ({ blocks := 2 ^ 16 } : ProbeResult).wf,
  ({ pages := 2 ^ 16 } : ProbeResult).wf,
  ({ block := 2 ^ 16 } : NandOp).wf,
  ({ page := 2 ^ 16 } : NandOp).wf,
  ({ skein := 8 } : NandOp).wf,
  ({ channel := 2 } : TpLevel).wf,
  ({ item := 256 } : PairItem).wf,
  ({ index := 2 ^ 16 } : PairItem).wf,
  ({ body := [256] } : PairItem).wf,
  (RoleMsg.roleReport 256 0).wf,
  (RoleMsg.roleReport 0 (2 ^ 32)).wf,
  (RoleMsg.failed (2 ^ 16)).wf].any id = false := by decide +kernel

end Sys2Proof.Tests
end

namespace Sys2Proof.Machine

/-! Proofs for the family 00_scope.md: what reset leaves (R5), writes to registers (R5, R7), and set against clear (R9). -/

/-! Commands that act on the device alone. -/

/-- A command that acts on the device alone gives what its function makes of the device when the command comes. -/
theorem gives_onDev_iff {i : Instr} {s : State} {dt : Nat} {f : Dev → Dev} {P : Dev → Prop} (h : exec i s = onDev dt f s) :
    Gives i s P ↔ P (f (later dt s)) := by
  constructor
  · rintro ⟨t, ht, -, -, -, hP⟩
    obtain rfl : { s with dev := f (later dt s) } = t := Host.Outcome.next.inj (h.symm.trans ht)
    exact hP
  · exact fun hP => ⟨{ s with dev := f (later dt s) }, h, rfl, rfl, rfl, hP⟩

theorem gives_registerWrite_iff {dt a v : Nat} {s : State} {P : Dev → Prop} :
    Gives (.registerWrite dt a v) s P ↔ P (registerWriteAt a v (later dt s)) :=
  gives_onDev_iff rfl

/-! Reading a register looks at the live file alone. -/

theorem rd_congr (r : Reg) (i : Nat) (d e : Dev) (h : ∀ z, e.live.get z (r.addr i) = d.live.get z (r.addr i)) : rd r i e = rd r i d := by
  unfold rd; rw [h]

theorem live_wr_other (r : Reg) (i v z a : Nat) (d : Dev) (h : a ≠ r.addr i) : (wr r i v d).live.get z a = d.live.get z a := by
  unfold wr
  exact Tab.get_set_other _ _ _ _ _ _ h

/-! What clearing faults leaves alone (R483). -/

theorem calm_clearOne {a : Nat} (x : Active) {c d : Dev} (h : Calm a c d) : Calm a c (clearOne x d) := by
  unfold clearOne
  extract_lets e
  have he : Calm a c e := calm_of_live (d := d) rfl h
  exact calm_refreshFaults (calm_record _ _ _ _ he)

theorem calm_clearWhere {a : Nat} (p : Active → Bool) {c d : Dev} (h : Calm a c d) : Calm a c (clearWhere p d) :=
  calm_forL _ _ (fun x _ _ g => calm_clearOne x g) h

/-- The faults that cleared fields end write none but the registers that raising a fault may write. -/
theorem calm_settleFields {a : Nat} {c d : Dev} (h : Calm a c d) : Calm a c (settleFields d) := calm_clearWhere _ h

theorem rd_settleFields (r : Reg) (i : Nat) (d : Dev) (h : r.addr i ∉ raiseAddrs) : rd r i (settleFields d) = rd r i d :=
  rd_congr r i _ _ (calm_settleFields Calm.rfl' h)

/-- Without an active fault there is nothing to end. -/
theorem settleFields_of_no_active (d : Dev) (h : d.active = []) : settleFields d = d := by
  simp [settleFields, clearWhere, forL, h]

/-! Clearing W1C bits (R9) of a register none of whose bits has a rule of its own, and none of whose bits an event set on this edge. -/

section Clear

variable {r : Reg} {d : Dev} (i mask : Nat) (hply : r.base ≠ PLY_STATE.base) (htask : r.base ≠ SHU_TASK_STATE.base)
  (hfb : r.base ≠ FBK_FB_FLAGS.base) (hset : d.w1cEdge ≠ edge d + 1)

include hply htask hfb hset

/-- The W1C bits of the mask are cleared, and the faults that they kept active end. -/
theorem clearReg_eq_settleFields :
    clearReg r i mask d = settleFields (wr r i (rd r i d - (rd r i d &&& (mask &&& r.w1c))) d) := by
  have hply' : r.base ≠ PLY_STATE_STOPPED.reg.base := hply
  have htask' : r.base ≠ SHU_TASK_STATE_FAULT.reg.base := htask
  have hfb' : r.base ≠ FBK_FB_FLAGS_FAULTY.reg.base := hfb
  simp [clearReg, onlyIf, hply', htask', hfb', hset]

theorem rd_clearReg (hraise : r.addr i ∉ raiseAddrs) (hlt : rd r i d < 2 ^ r.width) :
    rd r i (clearReg r i mask d) = rd r i d - (rd r i d &&& (mask &&& r.w1c)) := by
  rw [clearReg_eq_settleFields i mask hply htask hfb hset, rd_settleFields r i _ hraise, rd_wr_same]
  exact Nat.mod_eq_of_lt (Nat.lt_of_le_of_lt (Nat.sub_le _ _) hlt)

/-- Without an active fault the clear ends none, and nothing but the register changes. -/
theorem clearReg_keepsBut (hactive : d.active = []) : KeepsBut [r.addr i] d (clearReg r i mask d) := by
  rw [clearReg_eq_settleFields i mask hply htask hfb hset, settleFields_of_no_active _ ((wr_active ..).trans hactive)]
  exact ⟨wr_rest .., fun a ha z => live_wr_other r i _ z a d (List.ne_of_not_mem_cons ha)⟩

end Clear

/-! REGISTER_WRITE (R5, R7). -/

theorem registerWriteAt_of_no_register {a : Nat} (v : Nat) (d : Dev) (h : regAt a = none) : registerWriteAt a v d = d := by
  simp [registerWriteAt, h]

/-- A register without writable and W1C bits. -/
theorem registerWriteAt_of_read_only {a i : Nat} {r : Reg} (v : Nat) (d : Dev) (h : regAt a = some (r, i)) (hrw : r.rw = 0)
    (hw1c : r.w1c = 0) : registerWriteAt a v d = d := by
  unfold registerWriteAt
  split
  · rfl
  next q j hq =>
    split at hq
    · cases hq
    · obtain ⟨rfl, rfl⟩ : r = q ∧ i = j := by simpa [h] using hq
      simp [hrw, hw1c]

/-- A register without writable bits, on a unit that is not in reset: a write that names W1C bits clears them. -/
theorem registerWriteAt_of_w1c {a i : Nat} {r : Reg} (v : Nat) (d : Dev) (hreset : d.unit.phase ≠ .reset)
    (hmon : d.unit.phase ≠ .monitorReset) (halign : a % 4 = 0) (h : regAt a = some (r, i)) (hrw : r.rw = 0)
    (hm : trunc 32 v * 2 ^ (8 * (a - r.addr i)) &&& r.w1c ≠ 0) :
    registerWriteAt a v d = clearReg r i (trunc 32 v * 2 ^ (8 * (a - r.addr i)) &&& r.w1c) d := by
  simp [registerWriteAt, hreset, hmon, halign, h, hrw, hm]

/-! What reset leaves (R5, R39). -/

/-- Nothing is listed in the live file after reset: every cell reads its default. -/
theorem live_reset (z a : Nat) : State.reset.dev.live.get z a = z := rfl

theorem fuses_reset : State.reset.fuses = 0 := rfl

theorem fusesInv_reset : FusesInv State.reset := by
  rw [FusesInv, fuses_reset]
  positivity

/-- No image runs or is staged. -/
theorem imgOk_reset : ImgOk State.reset.dev := by
  rintro m (h | h) <;> cases h

/-- Settles O2: the live file and the flash list nothing, so that every register, strand and byte reads its default. -/
theorem resetState : Obligations.ResetState :=
  ⟨rfl, rfl, rfl, rfl, fun _ _ _ _ => live_reset _ _, fun _ _ => live_reset _ _, fun _ => rfl, rfl, fusesInv_reset, imgOk_reset⟩

/-! Writes to registers (R5, R7, R9). -/

/-- Settles O12: no register and a read-only register end the write at once; otherwise the write is the clear of its W1C bits, whose
reactions write no register outside `raiseAddrs`. -/
theorem registerWrites : Obligations.RegisterWrites := by
  refine ⟨fun dt a v s h => ?_, fun dt a v s r i h hrw hw1c => ?_, ?_⟩
  · exact gives_registerWrite_iff.2 (registerWriteAt_of_no_register v _ h)
  · exact gives_registerWrite_iff.2 (registerWriteAt_of_read_only v _ h hrw hw1c)
  · intro dt a v s r i hreset hmon halign h hrw hply htask hfb hraise hset hm hlt
    rw [gives_registerWrite_iff, registerWriteAt_of_w1c v (later dt s) hreset hmon halign h hrw hm]
    refine ⟨?_, clearReg_keepsBut (d := later dt s) i _ hply htask hfb hset⟩
    rw [rd_clearReg (d := later dt s) i _ hply htask hfb hset hraise hlt, Nat.and_assoc, Nat.and_self]
    rfl

/-! A set W1C field against a clear (R9). -/

/-- HIST_LOSS and LOG_DROP of REC_STATUS as one field of two W1C bits. -/
def histLossLogDrop : Fld := ⟨REC_STATUS, 3, 2⟩

/-- A unit in RUN with SNAP_REFUSED set and its fault 0x1007 active, whose event buffer is full of F5 records, so that no record of a
lower class finds room (R400). -/
def fullLogDev : Dev :=
  { live := [(REC_STATUS.addr 0, 2 ^ REC_STATUS_SNAP_REFUSED.lo)], unit := { phase := .run }, active := [⟨0x1007, 0, 0⟩],
    recd := { buf := List.replicate 2048 ⟨0, 0, 0, 0, 0x1101, 5, false, false, 0⟩ } }

/-- HIST_LOSS is set and all of REC_STATUS is cleared on one edge: SNAP_REFUSED goes, the CLEARED record of its fault is dropped, and
that sets LOG_DROP beside HIST_LOSS. -/
theorem histLossLogDrop_after_clear :
    get histLossLogDrop 0 (registerWriteAt (REC_STATUS.addr 0) REC_STATUS.w1c (later 0 { dev := put histLossLogDrop 0 1 fullLogDev })) = 3 := by
  decide +kernel

/-- Refutes O13: a field may span LOG_DROP and a neighbour, and LOG_DROP is set by the clear itself when the CLEARED record of a fault
that ends with it is dropped (R400); the field then reads 3 where 1 was set. -/
theorem not_setBeatsClear : ¬ Obligations.SetBeatsClear := by
  rintro ⟨-, h⟩
  have hone := gives_registerWrite_iff.1 <|
    h (REC_STATUS.addr 0) REC_STATUS.w1c histLossLogDrop 0 1 { dev := put histLossLogDrop 0 1 fullLogDev } fullLogDev
      (by decide +kernel) (by decide) (by decide) (by decide) (by decide +kernel) rfl rfl
  rw [histLossLogDrop_after_clear] at hone
  exact absurd hone (by decide)

end Sys2Proof.Machine

namespace Sys2Proof.Machine

/-! Proofs for the family 02_image_and_startup.md: fuses, flash, images and their loader, starts, stops and image exchange. -/

/-! ## Which functions of the device keep its images

A start and the switch of an exchange aside, no function takes an image in. Each lemma follows the text of the function it names, along
`ImgsKept`, so that a later function's lemma is the chain of those it calls. -/

/-- From `c` to `d` the running image is the same, and the staged one is the same or gone. -/
def ImgsKept (c d : Dev) : Prop := d.img = c.img ∧ (d.next = c.next ∨ d.next = none)

theorem ImgsKept.refl (d : Dev) : ImgsKept d d := ⟨rfl, .inl rfl⟩

section

variable {c d e : Dev}

protected theorem ImgsKept.ite {p : Prop} {_ : Decidable p} (hd : ImgsKept c d) (he : ImgsKept c e) : ImgsKept c (if p then d else e) := by
  split <;> assumption

theorem ImgsKept.of_eq {α : Type} {x : α × Dev} {a : α} (h : ImgsKept c x.2) (hx : x = (a, e)) : ImgsKept c e := by
  subst hx
  exact h

theorem ImgsKept.ite_snd {α : Type} {p : Prop} {_ : Decidable p} {x y : α × Dev} (hx : ImgsKept c x.2) (hy : ImgsKept c y.2) :
    ImgsKept c (if p then x else y).2 := by
  split <;> assumption

theorem ImgsKept.ite_dev {p : Prop} {_ : Decidable p} {x y : SvcRes} (hx : ImgsKept c x.dev) (hy : ImgsKept c y.dev) :
    ImgsKept c (if p then x else y).dev := by
  split <;> assumption

protected theorem ImgsKept.foldl {α : Type} {l : List α} {f : Dev → α → Dev} (h : ImgsKept c d)
    (hf : ∀ {e a}, ImgsKept c e → ImgsKept c (f e a)) : ImgsKept c (l.foldl f d) := by
  induction l generalizing d with
  | nil => exact h
  | cons a l ih => exact ih (hf h)

theorem ImgsKept.forL_mem {α : Type} {l : List α} {f : α → Dev → Dev} (h : ImgsKept c d)
    (hf : ∀ {a e}, a ∈ l → ImgsKept c e → ImgsKept c (f a e)) : ImgsKept c (forL l f d) := by
  unfold Sys2Proof.forL
  induction l generalizing d with
  | nil => exact h
  | cons a l ih => exact ih (hf List.mem_cons_self h) fun ha => hf (List.mem_cons_of_mem _ ha)

theorem ImgsKept.foldl_snd {α β : Type} {l : List α} {f : β × Dev → α → β × Dev} {x : β × Dev} (h : ImgsKept c x.2)
    (hf : ∀ {y a}, ImgsKept c y.2 → ImgsKept c (f y a).2) : ImgsKept c (l.foldl f x).2 := by
  induction l generalizing x with
  | nil => exact h
  | cons a l ih => exact ih (hf h)

protected theorem ImgsKept.forL {α : Type} {l : List α} {f : α → Dev → Dev} (h : ImgsKept c d)
    (hf : ∀ {a e}, ImgsKept c e → ImgsKept c (f a e)) : ImgsKept c (forL l f d) := h.foldl hf

protected theorem ImgsKept.forN {n : Nat} {f : Nat → Dev → Dev} (h : ImgsKept c d)
    (hf : ∀ {k e}, ImgsKept c e → ImgsKept c (f k e)) : ImgsKept c (forN n f d) := by
  induction n with
  | zero => exact h
  | succ n ih => exact hf ih

protected theorem ImgsKept.onlyIf {b : Bool} {f : Dev → Dev} (h : ImgsKept c d)
    (hf : ∀ {e}, ImgsKept c e → ImgsKept c (f e)) : ImgsKept c (onlyIf b f d) := by
  unfold Sys2Proof.onlyIf
  exact (hf h).ite h

/-! Registers and strands. -/

protected theorem ImgsKept.wr {r i v} (h : ImgsKept c d) : ImgsKept c (wr r i v d) := h

protected theorem ImgsKept.noteBits {r i m} (h : ImgsKept c d) : ImgsKept c (noteBits r i m d) := h

protected theorem ImgsKept.noteSet {f i v} (h : ImgsKept c d) : ImgsKept c (noteSet f i v d) := h.ite h.noteBits

protected theorem ImgsKept.setSticky {r i m} (h : ImgsKept c d) : ImgsKept c (setSticky r i m d) := h.ite h.noteBits.wr

protected theorem ImgsKept.put {f i v} (h : ImgsKept c d) : ImgsKept c (put f i v d) := h.noteSet.wr

protected theorem ImgsKept.putB {f i b} (h : ImgsKept c d) : ImgsKept c (putB f i b d) := h.put

protected theorem ImgsKept.putS {f i v} (h : ImgsKept c d) : ImgsKept c (putS f i v d) := h.put

protected theorem ImgsKept.bump {f i} (h : ImgsKept c d) : ImgsKept c (bump f i d) := h.put

protected theorem ImgsKept.bumpSat {f i} (h : ImgsKept c d) : ImgsKept c (bumpSat f i d) := h.put

protected theorem ImgsKept.addSat {f i n} (h : ImgsKept c d) : ImgsKept c (addSat f i n d) := h.put

protected theorem ImgsKept.maxUp {f i v} (h : ImgsKept c d) : ImgsKept c (maxUp f i v d) := h.put.ite h

protected theorem ImgsKept.noteOld {a} (h : ImgsKept c d) : ImgsKept c (noteOld a d) := h

protected theorem ImgsKept.setStrand {blk idx v} (h : ImgsKept c d) : ImgsKept c (setStrand blk idx v d) := h.noteOld (a := strandAddr blk idx)

protected theorem ImgsKept.setStrandS {blk idx v} (h : ImgsKept c d) : ImgsKept c (setStrandS blk idx v d) := h.setStrand

protected theorem ImgsKept.advance {n} (h : ImgsKept c d) : ImgsKept c (advance n d) := h

protected theorem ImgsKept.send {k obj bs} (h : ImgsKept c d) : ImgsKept c (send k obj bs d) := h

protected theorem ImgsKept.fresh {w} (h : ImgsKept c d) : ImgsKept c (fresh w d).2 := h

protected theorem ImgsKept.oneOf {l} (h : ImgsKept c d) : ImgsKept c (oneOf l d).2 := by
  cases l with
  | nil => exact h
  | cons a t => exact h.fresh (w := 64)

/-! Records of events and faults. -/

protected theorem ImgsKept.logRegs (h : ImgsKept c d) : ImgsKept c (logRegs d) := h.put.put.put.put.put

protected theorem ImgsKept.handPages {skein pages} (h : ImgsKept c d) : ImgsKept c (handPages skein pages d) := h

protected theorem ImgsKept.flushEvents (h : ImgsKept c d) : ImgsKept c (flushEvents d) := .ite (.logRegs (.bump (.put (.put (.handPages h))))) h

protected theorem ImgsKept.enterRec {e} (h : ImgsKept c d) : ImgsKept c (enterRec e d) := by
  unfold enterRec
  dsimp only
  split
  · split
    · split <;> exact .logRegs h
    · split
      · exact .logRegs h
      · split <;> exact .logRegs h
  · exact .logRegs h

protected theorem ImgsKept.writeRec {code sev detail cleared} (h : ImgsKept c d) : ImgsKept c (writeRec code sev detail cleared d) :=
  have h1 := h.enterRec
  (h1.flushEvents.ite h1).put.put.put.putB

protected theorem ImgsKept.refreshFaults (h : ImgsKept c d) : ImgsKept c (refreshFaults d) := h.put.put.forN .put

protected theorem ImgsKept.countClass {cls} (h : ImgsKept c d) : ImgsKept c (countClass cls d) :=
  h.ite (h.bumpSat.ite (h.bumpSat.ite (h.bumpSat.ite (h.bumpSat.ite (h.bumpSat.ite h.bumpSat)))))

protected theorem ImgsKept.noteDrop (h : ImgsKept c d) : ImgsKept c (noteDrop d) := by
  unfold noteDrop
  extract_lets d1 due x d2
  have h2 : ImgsKept c d2 := h.put
  exact .ite h.put (.ite h2 (.refreshFaults h2.writeRec.countClass))

protected theorem ImgsKept.record {code sev detail cleared} (h : ImgsKept c d) : ImgsKept c (record code sev detail cleared d) :=
  have h1 := h.writeRec
  h1.noteDrop.ite h1

protected theorem ImgsKept.clearOne {a} (h : ImgsKept c d) : ImgsKept c (clearOne a d) := .refreshFaults (.record h)

protected theorem ImgsKept.clearFault {code obj} (h : ImgsKept c d) : ImgsKept c (clearFault code obj d) := by
  unfold clearFault
  split
  · exact h.clearOne
  · exact h

protected theorem ImgsKept.clearWhere {p} (h : ImgsKept c d) : ImgsKept c (clearWhere p d) := h.forL .clearOne

protected theorem ImgsKept.requestHold {h' cause} (h : ImgsKept c d) : ImgsKept c (requestHold h' cause d) := .ite h h

protected theorem ImgsKept.holdNamed {code obj} (h : ImgsKept c d) : ImgsKept c (holdNamed code obj d) := h.ite (.forL (.ite h h) .requestHold)

protected theorem ImgsKept.showRole {st} (h : ImgsKept c d) : ImgsKept c (showRole st d) := h.put.setStrand

protected theorem ImgsKept.endStart {code} (h : ImgsKept c d) : ImgsKept c (endStart code d) := by
  unfold endStart
  extract_lets n y u d1 d2 det d3
  have h1 : ImgsKept c d1 := h
  have h3 : ImgsKept c d3 := h1.put.put.record
  exact .ite (.countClass (.refreshFaults h3)) (.showRole h)

protected theorem ImgsKept.eraseHeader (h : ImgsKept c d) : ImgsKept c (eraseHeader d) := h

/-- The exchange's end drops the staged image. -/
protected theorem ImgsKept.xchgEnd (h : ImgsKept c d) : ImgsKept c (xchgEnd d) := by
  unfold xchgEnd
  extract_lets d1 d2 d3
  have h2 : ImgsKept c d2 := h.eraseHeader.ite h.eraseHeader.put.put
  have h3 : ImgsKept c d3 := h2.put.put.ite h2
  exact ⟨h3.1, .inr rfl⟩

protected theorem ImgsKept.xchgAbort (h : ImgsKept c d) : ImgsKept c (xchgAbort d) := h.xchgEnd.ite h

protected theorem ImgsKept.f4React {code} (h : ImgsKept c d) : ImgsKept c (f4React code d) := by
  unfold f4React
  dsimp only
  split
  · exact .ite (h.ite (.put (.showRole h.xchgAbort))) (h.ite (.showRole h.xchgAbort))
  · exact h.endStart
  · exact h

protected theorem ImgsKept.safeShow {n} (h : ImgsKept c d) : ImgsKept c (safeShow n d) := h.putB.putB.putB.setStrand

protected theorem ImgsKept.safeCmd {n h' p} (h : ImgsKept c d) : ImgsKept c (safeCmd n h' p d) := .safeShow h

protected theorem ImgsKept.openOutput {n} (h : ImgsKept c d) : ImgsKept c (openOutput n d) := .safeCmd h

protected theorem ImgsKept.lockOut {code index chan sw} (h : ImgsKept c d) : ImgsKept c (lockOut code index chan sw d) :=
  (h.put.setStrand.put.put.put.put.put.bumpSat.put.forN .openOutput).ite h

protected theorem ImgsKept.react {code obj} (h : ImgsKept c d) : ImgsKept c (react code obj d) := by
  unfold react
  split
  · exact h.holdNamed.ite h
  · exact h.f4React
  · exact h.f4React
  · exact h.holdNamed.ite h
  · exact h

protected theorem ImgsKept.raiseWith {code obj detail} (h : ImgsKept c d) : ImgsKept c (raiseWith code obj detail d) := by
  unfold raiseWith
  extract_lets cls d1 d2 d3 d4
  have h3 : ImgsKept c d3 := (h.put.ite h).record.countClass
  clear_value d3
  exact h.ite (.react (h3.ite (.refreshFaults h3)))

protected theorem ImgsKept.raise {code obj aux value} (h : ImgsKept c d) : ImgsKept c (raise code obj d aux value) := h.raiseWith

protected theorem ImgsKept.stick {f i code obj aux value} (h : ImgsKept c d) : ImgsKept c (stick f i code obj d aux value) := h.put.ite h.put.raise

protected theorem ImgsKept.raiseSafety {code index chan sw} (h : ImgsKept c d) : ImgsKept c (raiseSafety code index chan sw d) :=
  .raise (.lockOut h)

protected theorem ImgsKept.settleFields (h : ImgsKept c d) : ImgsKept c (settleFields d) := h.clearWhere

protected theorem ImgsKept.clearField {f i} (h : ImgsKept c d) : ImgsKept c (clearField f i d) := h.put.settleFields

/-! Outputs. -/

protected theorem ImgsKept.markStale {id b} (h : ImgsKept c d) : ImgsKept c (markStale id b d) := h

protected theorem ImgsKept.auxSet {j active} (h : ImgsKept c d) : ImgsKept c (auxSet j active d) := by
  unfold auxSet
  extract_lets d1 d2
  have h1 : ImgsKept c d1 := h
  exact h1.ite (h1.putB.ite h1.putB.setStrand)

protected theorem ImgsKept.txWrite {w v} (h : ImgsKept c d) : ImgsKept c (txWrite w v d) := h

protected theorem ImgsKept.settleTx (h : ImgsKept c d) : ImgsKept c (settleTx d) := .forL h fun h => h

protected theorem ImgsKept.keepPrior {g k v there} (h : ImgsKept c d) : ImgsKept c (keepPrior g k v there d) := h

protected theorem ImgsKept.stageCompare {g k c' } (h : ImgsKept c d) : ImgsKept c (stageCompare g k c' d) := by
  unfold stageCompare
  extract_lets d1 x
  have h1 : ImgsKept c d1 := h.keepPrior
  exact .put h1

protected theorem ImgsKept.stagePeriod {g p} (h : ImgsKept c d) : ImgsKept c (stagePeriod g p d) := by
  unfold stagePeriod
  extract_lets d1 x
  have h1 : ImgsKept c d1 := h.keepPrior
  exact .put (.put h1)

protected theorem ImgsKept.stageFixed {g} (h : ImgsKept c d) : ImgsKept c (stageFixed g d) := by
  unfold stageFixed
  split
  · exact h.stagePeriod.ite h
  · exact h

protected theorem ImgsKept.auxFollow {ids r} (h : ImgsKept c d) : ImgsKept c (auxFollow ids r d) :=
  h.ite (h.stageCompare.stageFixed.ite (h.auxSet.ite h))

protected theorem ImgsKept.periodFollow {ids r} (h : ImgsKept c d) : ImgsKept c (periodFollow ids r d) := h.ite (h.stagePeriod.onlyIf .put)

protected theorem ImgsKept.touched {ids} (h : ImgsKept c d) : ImgsKept c (touched ids d) := (h.forL .periodFollow).forL .auxFollow

protected theorem ImgsKept.setStrandId {id v} (h : ImgsKept c d) : ImgsKept c (setStrandId id v d) := h.setStrand

protected theorem ImgsKept.putStrands {vs} (h : ImgsKept c d) : ImgsKept c (putStrands vs d) := (h.forL .setStrandId).touched

protected theorem ImgsKept.putStrandsS {vs} (h : ImgsKept c d) : ImgsKept c (putStrandsS vs d) := h.putStrands

protected theorem ImgsKept.gpioFollow {pin level} (h : ImgsKept c d) : ImgsKept c (gpioFollow pin level d) := by
  unfold gpioFollow
  dsimp only
  split
  · exact h.ite (.putStrands (.put h))
  · exact h

protected theorem ImgsKept.gpioDrive {pin level} (h : ImgsKept c d) : ImgsKept c (gpioDrive pin level d) := by
  unfold gpioDrive
  extract_lets d1
  have h1 : ImgsKept c d1 := h
  exact h1.ite h1.gpioFollow

protected theorem ImgsKept.gpioUnhalt (h : ImgsKept c d) : ImgsKept c (gpioUnhalt d) := h.forN .gpioFollow

protected theorem ImgsKept.pulse {op active} (h : ImgsKept c d) : ImgsKept c (pulse op active d) := h.auxSet.ite h.gpioDrive

protected theorem ImgsKept.brakeDrive {r engaged} (h : ImgsKept c d) : ImgsKept c (brakeDrive r engaged d) := h.ite (h.auxSet.ite h.gpioDrive)

/-! Measures and the reel's picks. -/

protected theorem ImgsKept.forgetPick {p} (h : ImgsKept c d) : ImgsKept c (forgetPick p d) := h

protected theorem ImgsKept.predictPick {pk} (h : ImgsKept c d) : ImgsKept c (predictPick pk d) := by
  unfold predictPick
  dsimp only
  split
  · exact h
  · split
    · exact h
    · split <;> exact .put h

protected theorem ImgsKept.armPick {p} (h : ImgsKept c d) : ImgsKept c (armPick p d) := by
  unfold armPick
  extract_lets m d1 x d2 step
  have h1 : ImgsKept c d1 := h.put.forgetPick
  have h2 : ImgsKept c d2 := h1
  exact h.ite ((h2.ite h2.put).ite h2.predictPick)

protected theorem ImgsKept.disarmPick {p} (h : ImgsKept c d) : ImgsKept c (disarmPick p d) := h.put.forgetPick.ite h

protected theorem ImgsKept.retargetPick {p target arm} (h : ImgsKept c d) : ImgsKept c (retargetPick p target arm d) :=
  have h1 := h.put
  have h2 := h1.armPick.ite h1.disarmPick
  h.ite (.ite h2 h2)

protected theorem ImgsKept.moveTarget {p target} (h : ImgsKept c d) : ImgsKept c (moveTarget p target d) := h.retargetPick

protected theorem ImgsKept.auxPhaseStop {m r} (h : ImgsKept c d) : ImgsKept c (auxPhaseStop m r d) :=
  (h.auxSet.disarmPick.disarmPick.put.onlyIf .raise).ite h

protected theorem ImgsKept.measLost {m} (h : ImgsKept c d) : ImgsKept c (measLost m d) :=
  .ite (.onlyIf (.raise (h.put.put.bumpSat.forL (fun h => .onlyIf h .put))) (fun h => h.forL .auxPhaseStop)) h

/-! Reactions to faults. -/

protected theorem ImgsKept.setPins {n v} (h : ImgsKept c d) : ImgsKept c (setPins n v d) := .put (.put h)

protected theorem ImgsKept.pinOff {n b} (h : ImgsKept c d) : ImgsKept c (pinOff n b d) := .setPins h

protected theorem ImgsKept.pinOn {e n b} (h : ImgsKept c d) : ImgsKept c (pinOn e n b d) := h.ite (h.setPins.ite h)

protected theorem ImgsKept.pinsNow {n} (h : ImgsKept c d) : ImgsKept c (pinsNow n d) := h

protected theorem ImgsKept.pinsOff {n} (h : ImgsKept c d) : ImgsKept c (pinsOff n d) := h.pinsNow.forL .pinOff

protected theorem ImgsKept.pinsSafe {e n} (h : ImgsKept c d) : ImgsKept c (pinsSafe e n d) :=
  have h1 := h.pinsNow.forL .pinOff
  (h1.forL .pinOn).ite (h1.forL .pinOff)

protected theorem ImgsKept.settlePins {n} (h : ImgsKept c d) : ImgsKept c (settlePins n d) := by
  unfold settlePins
  split
  · exact h.ite (h.pinsSafe.ite h.pinsOff)
  · exact h

protected theorem ImgsKept.pinsLater {n k safe} (h : ImgsKept c d) : ImgsKept c (pinsLater n k safe d) := .settlePins h

protected theorem ImgsKept.pinsWithin2 {n safe} (h : ImgsKept c d) : ImgsKept c (pinsWithin2 n safe d) := h.fresh.pinsLater

protected theorem ImgsKept.driveOff {n} (h : ImgsKept c d) : ImgsKept c (driveOff n d) := h.ite h.put.pinsLater

protected theorem ImgsKept.plyStop {p} (h : ImgsKept c d) : ImgsKept c (plyStop p d) := by
  unfold plyStop
  split
  · exact h.ite (.putStrandsS (.put (.put h)))
  · exact h

protected theorem ImgsKept.plyRelease {p} (h : ImgsKept c d) : ImgsKept c (plyRelease p d) := .ite (.clearField h) h.clearField

protected theorem ImgsKept.setAxisState {a st} (h : ImgsKept c d) : ImgsKept c (setAxisState a st d) := h.put.put

protected theorem ImgsKept.axisBrake {r on} (h : ImgsKept c d) : ImgsKept c (axisBrake r on d) := h.putB.brakeDrive

protected theorem ImgsKept.memberFault {a} (h : ImgsKept c d) : ImgsKept c (memberFault a d) := by
  unfold memberFault
  split
  · exact .ite (.raise (.put h)) h
  · exact h

protected theorem ImgsKept.remoteOff {r} (h : ImgsKept c d) : ImgsKept c (remoteOff r d) := h.txWrite.ite h

protected theorem ImgsKept.axisDriveOff {r} (h : ImgsKept c d) : ImgsKept c (axisDriveOff r d) := h.driveOff.ite h.remoteOff

protected theorem ImgsKept.axisBreak {a} (h : ImgsKept c d) : ImgsKept c (axisBreak a d) := by
  unfold axisBreak
  split
  · exact h.ite (.setAxisState (.put (.put (.put (.axisDriveOff (.forL (.axisBrake h.memberFault) .plyStop))))))
  · exact h

protected theorem ImgsKept.raiseBreak {code a aux value} (h : ImgsKept c d) : ImgsKept c (raiseBreak code a d aux value) :=
  h.raise.onlyIf .axisBreak

protected theorem ImgsKept.axisOfStopped {p} (h : ImgsKept c d) : ImgsKept c (axisOfStopped p d) := by
  unfold axisOfStopped
  split
  · exact h.raiseBreak
  · exact h

protected theorem ImgsKept.plyFault {code p value} (h : ImgsKept c d) : ImgsKept c (plyFault code p d value) := h.plyStop.raise.axisOfStopped.ite h

/-! Position feedback. -/

protected theorem ImgsKept.fbDeclare {n cause value} (h : ImgsKept c d) : ImgsKept c (fbDeclare n cause d value) :=
  h.put.ite (.forL (.forL (.raise (.put h)) .measLost) (fun h => h.put.raiseBreak))

protected theorem ImgsKept.fbSettle {n f} (h : ImgsKept c d) (hf : ∀ {e}, ImgsKept c e → ImgsKept c (f e)) : ImgsKept c (fbSettle n f d) :=
  (hf h).onlyIf fun h => h

protected theorem ImgsKept.fbFaultyClearAt {n} (h : ImgsKept c d) : ImgsKept c (fbFaultyClearAt n d) := .ite (.clearField h) h

protected theorem ImgsKept.fbError {f code n cause failed} (h : ImgsKept c d) : ImgsKept c (fbError f code n cause failed d) :=
  .onlyIf (h.stick.bumpSat.onlyIf .bumpSat) .fbDeclare

protected theorem ImgsKept.fbMethod {n r} (h : ImgsKept c d) : ImgsKept c (fbMethod n r d) := ((h.onlyIf .put).ite (h.onlyIf .put)).putS

protected theorem ImgsKept.fbStep {n r dir t} (h : ImgsKept c d) : ImgsKept c (fbStep n r dir t d) := .putStrandsS (.put (.putS h))

protected theorem ImgsKept.homeIndex {n t} (h : ImgsKept c d) : ImgsKept c (homeIndex n t d) := h.forL fun h => .ite h h

protected theorem ImgsKept.fbIndex {n r t} (h : ImgsKept c d) : ImgsKept c (fbIndex n r t d) := by
  unfold fbIndex
  extract_lets x k d1 d2 d3
  have h3 : ImgsKept c d3 := ImgsKept.homeIndex h.putS.put.putStrandsS
  split
  · exact h3
  · extract_lets dev d4
    have h4 : ImgsKept c d4 := .maxUp (.putS h3)
    exact h3.ite (((h4.fbSettle .put).onlyIf .raise).ite (h4.bumpSat.bumpSat.put.raise.onlyIf .fbDeclare))

protected theorem ImgsKept.quadAccept {n r old new t tz} (h : ImgsKept c d) : ImgsKept c (quadAccept n r old new t tz d) :=
  (h.fbError.ite (h.fbStep.ite h)).onlyIf .fbIndex

protected theorem ImgsKept.hallAccept {n r new t} (h : ImgsKept c d) : ImgsKept c (hallAccept n r new t d) := by
  unfold hallAccept
  dsimp only
  split
  · exact .fbError h
  · exact
      have h1 := h.put
      .ite h1 (h1.fbStep.ite (h1.fbStep.ite (.fbError h1)))

protected theorem ImgsKept.acceptLines {n r} (h : ImgsKept c d) : ImgsKept c (acceptLines n r d) := by
  unfold acceptLines
  dsimp only
  split
  · exact h.put.quadAccept.fbMethod
  · exact h.put.hallAccept.fbMethod
  · exact h.put

protected theorem ImgsKept.fbLineEdgeAt {line level frac} (h : ImgsKept c d) : ImgsKept c (fbLineEdgeAt line level frac d) :=
  h.ite (.onlyIf h .bump)

protected theorem ImgsKept.fbLevelAcceptAt {line} (h : ImgsKept c d) : ImgsKept c (fbLevelAcceptAt line d) := by
  unfold fbLevelAcceptAt
  split
  · exact h
  · exact h.acceptLines.ite h

protected theorem ImgsKept.fbZeroTimeAt {n} (h : ImgsKept c d) : ImgsKept c (fbZeroTimeAt n d) := by
  unfold fbZeroTimeAt
  split
  · exact h
  · exact h.put.put.ite h

protected theorem ImgsKept.fbErrRunResetAt {n} (h : ImgsKept c d) : ImgsKept c (fbErrRunResetAt n d) := by
  unfold fbErrRunResetAt
  split
  · exact h
  · exact (h.fbSettle .put).ite h

protected theorem ImgsKept.fbAlarmTimeoutAt {n} (h : ImgsKept c d) : ImgsKept c (fbAlarmTimeoutAt n d) := h.fbDeclare.ite h

protected theorem ImgsKept.alarmEdge {pin level r} (h : ImgsKept c d) : ImgsKept c (alarmEdge pin level r d) :=
  h.ite (.ite (.raise (.put h)) ((h.fbSettle .put).clearFault))

protected theorem ImgsKept.alarmStart {r} (h : ImgsKept c d) : ImgsKept c (alarmStart r d) := .ite (.put h) h

protected theorem ImgsKept.ssiStart {n r} (h : ImgsKept c d) : ImgsKept c (ssiStart n r d) := h.bumpSat.fbError.ite (h.fbError.ite h)

protected theorem ImgsKept.ssiFinish {n r bs} (h : ImgsKept c d) : ImgsKept c (ssiFinish n r bs d).2 := by
  unfold ssiFinish
  dsimp only
  split
  · exact .fbError h
  · exact .fbSettle (.putStrandsS (.putS (.put (.putS h)))) .put

/-! The mirror of an active unit. -/

protected theorem ImgsKept.linkSend {kind body} (h : ImgsKept c d) : ImgsKept c (linkSend kind body d) := .send h

protected theorem ImgsKept.linkChunks {n kind body} (h : ImgsKept c d) : ImgsKept c (linkChunks n kind body d) := by
  induction n generalizing d body with
  | zero => exact h
  | succ n ih => exact h.linkSend.ite (ih h.linkSend)

protected theorem ImgsKept.mirror {item index stamp body} (h : ImgsKept c d) : ImgsKept c (mirror item index stamp body d) := h.ite (.linkChunks h)

/-! The role in a pair. -/

protected theorem ImgsKept.setPairState {st} (h : ImgsKept c d) : ImgsKept c (setPairState st d) := h.showRole

protected theorem ImgsKept.requestJoin (h : ImgsKept c d) : ImgsKept c (requestJoin d) := .linkSend h

protected theorem ImgsKept.leaveShadow (h : ImgsKept c d) : ImgsKept c (leaveShadow d) := .ite (.requestJoin (.setPairState h)) h

protected theorem ImgsKept.replayDiverge (h : ImgsKept c d) : ImgsKept c (replayDiverge d) := h.stick.leaveShadow.ite h

/-! CAN. -/

protected theorem ImgsKept.canMod {c' f} (h : ImgsKept c d) : ImgsKept c (canMod c' f d) := h

protected theorem ImgsKept.canBufMod {c' b f} (h : ImgsKept c d) : ImgsKept c (canBufMod c' b f d) := h.canMod

protected theorem ImgsKept.setCanState {c' st} (h : ImgsKept c d) : ImgsKept c (setCanState c' st d) := h.put.putStrands

protected theorem ImgsKept.showCounters {c'} (h : ImgsKept c d) : ImgsKept c (showCounters c' d) := h.put.put.putStrands

protected theorem ImgsKept.showBufs {c'} (h : ImgsKept c d) : ImgsKept c (showBufs c' d) := h.put.put

protected theorem ImgsKept.confine {c'} (h : ImgsKept c d) : ImgsKept c (confine c' d) :=
  have h1 := h.showCounters
  (h1.put.raise.ite h1).canMod.put.setCanState.raise.ite (h1.put.setCanState.raise.ite (h1.setCanState.clearFault.ite h1))

protected theorem ImgsKept.liveBytes {a bs} (h : ImgsKept c d) : ImgsKept c (liveBytes a bs d) := by
  fun_induction liveBytes a bs d with
  | case1 a b0 b1 b2 b3 t d ih => exact ih h
  | case2 => exact h

protected theorem ImgsKept.ringPut {c' q} (h : ImgsKept c d) : ImgsKept c (ringPut c' q d) := h.bump.liveBytes

protected theorem ImgsKept.queue0 {c' q} (h : ImgsKept c d) : ImgsKept c (queue0 c' q d) := h.ite (h.bumpSat.stick.ite h.canMod.mirror)

protected theorem ImgsKept.recGood {n} (h : ImgsKept c d) : ImgsKept c (recGood n d) := h.canMod.ite (ImgsKept.canMod (h.fresh (w := 4)))

protected theorem ImgsKept.canFrameRxAt {n f} (h : ImgsKept c d) : ImgsKept c (canFrameRxAt n f d) := by
  unfold canFrameRxAt
  split
  · exact h
  · extract_lets d1 back delay q
    have h1 : ImgsKept c d1 := h.bump.recGood.confine
    refine h.ite ?_
    split
    · exact h1.bumpSat
    · exact h1.bumpSat.ite (h1.ringPut.ite h1.queue0)

protected theorem ImgsKept.canApply {c' q} (h : ImgsKept c d) : ImgsKept c (canApply c' q d) := by
  unfold canApply
  split
  · exact h
  · exact ((h.forL .markStale).putStrands.onlyIf .put).canMod.clearFault

protected theorem ImgsKept.canDeliveryAt {c'} (h : ImgsKept c d) : ImgsKept c (canDeliveryAt c' d) := by
  unfold canDeliveryAt
  split
  · exact h
  · exact h.ite h.canMod.canApply

protected theorem ImgsKept.canPairTimeoutAt {c' pair} (h : ImgsKept c d) : ImgsKept c (canPairTimeoutAt c' pair d) := by
  unfold canPairTimeoutAt
  split
  · exact h
  · exact h.ite ((h.forL .markStale).put.raise)

protected theorem ImgsKept.canLoad {r} (h : ImgsKept c d) : ImgsKept c (canLoad r d) := h.ite ((h.canBufMod.onlyIf .put).showBufs.onlyIf .stick)

protected theorem ImgsKept.canLoadPick {p} (h : ImgsKept c d) : ImgsKept c (canLoadPick p d) := h.forL fun h => h.canLoad.ite h

protected theorem ImgsKept.showTdc {c' tdc r} (h : ImgsKept c d) : ImgsKept c (showTdc c' tdc r d) := h.put.ite h

protected theorem ImgsKept.attemptFails {c' b kind tdc e r} (h : ImgsKept c d) : ImgsKept c (attemptFails c' b kind tdc e r d) :=
  have h1 := ((h.onlyIf .showTdc).onlyIf .put).canBufMod.onlyIf .canMod
  have h2 := h1.bumpSat.put
  ((h2.raise.ite h2).ite h1).showBufs.confine

protected theorem ImgsKept.canTxCompleteAt {c' b began tdc} (h : ImgsKept c d) : ImgsKept c (canTxCompleteAt c' b began tdc d) := by
  unfold canTxCompleteAt
  dsimp only
  split
  · exact h.ite (h.attemptFails.ite h.showTdc.bump.send.canBufMod.canMod.showBufs.clearFault.confine)
  · exact h

protected theorem ImgsKept.canTxErrorAt {c' b kind began tdc} (h : ImgsKept c d) : ImgsKept c (canTxErrorAt c' b kind began tdc d) := by
  unfold canTxErrorAt
  dsimp only
  split
  · exact h.attemptFails.ite h
  · exact h

protected theorem ImgsKept.canBusErrorAt {c' kind} (h : ImgsKept c d) : ImgsKept c (canBusErrorAt c' kind d) := h.ite h.canMod.confine

protected theorem ImgsKept.canBusoffHoldExpiryAt {c'} (h : ImgsKept c d) : ImgsKept c (canBusoffHoldExpiryAt c' d) := by
  unfold canBusoffHoldExpiryAt
  split
  · exact h.setCanState.ite h
  · exact h

protected theorem ImgsKept.canRecoveryDoneAt {c'} (h : ImgsKept c d) : ImgsKept c (canRecoveryDoneAt c' d) :=
  h.canMod.showCounters.setCanState.clearFault.clearFault.ite h

protected theorem ImgsKept.canStart (h : ImgsKept c d) : ImgsKept c (canStart d) := h.forL fun h => h.canMod.put.put.setCanState

/-! Mailboxes. -/

protected theorem ImgsKept.hvarPost {vid value e} (h : ImgsKept c d) : ImgsKept c (hvarPost vid value e d) := by
  unfold hvarPost
  split
  · exact h
  · exact h.stick.ite h

protected theorem ImgsKept.postHank {h' host q e} (h : ImgsKept c d) : ImgsKept c (postHank h' host q e d) := h.ite ((h.stick.ite h))

/-! Safety. -/

protected theorem ImgsKept.safeInMod {i f} (h : ImgsKept c d) : ImgsKept c (safeInMod i f d) := h

protected theorem ImgsKept.safeChanMod {i chan f} (h : ImgsKept c d) : ImgsKept c (safeChanMod i chan f d) := h.safeInMod

protected theorem ImgsKept.setInState {proc i st} (h : ImgsKept c d) : ImgsKept c (setInState proc i st d) :=
  h.put.ite ((h.onlyIf .bumpSat).put.setStrand)

protected theorem ImgsKept.startDisc {proc i} (h : ImgsKept c d) : ImgsKept c (startDisc proc i d) := h.safeInMod

protected theorem ImgsKept.inputMove {proc i self other} (h : ImgsKept c d) : ImgsKept c (inputMove proc i self other d) := by
  unfold inputMove
  split
  · exact (h.setInState.ite h.setInState.startDisc).ite h
  · exact h.setInState.ite (h.setInState.ite h)
  · exact h.ite (h.setInState.startDisc.ite h.setInState)
  · exact h.setInState.ite h
  · exact h

protected theorem ImgsKept.acceptLevel {proc i chan level r} (h : ImgsKept c d) : ImgsKept c (acceptLevel proc i chan level r d) :=
  (h.safeChanMod.ite (h.putB.ite h.putB)).inputMove

protected theorem ImgsKept.safetyInputEdgeAt {i chan level} (h : ImgsKept c d) : ImgsKept c (safetyInputEdgeAt i chan level d) :=
  h.ite h.safeChanMod

protected theorem ImgsKept.safetyInputAcceptAt {i chan proc} (h : ImgsKept c d) : ImgsKept c (safetyInputAcceptAt i chan proc d) := by
  unfold safetyInputAcceptAt
  split
  · exact h
  · split
    · exact h
    · exact h.ite h.acceptLevel

protected theorem ImgsKept.discTimeExpiryAt {i proc} (h : ImgsKept c d) : ImgsKept c (discTimeExpiryAt i proc d) := by
  unfold discTimeExpiryAt
  split
  · exact h
  · split
    · exact h
    · exact h.setInState.put.raiseSafety.ite h

protected theorem ImgsKept.tpMod {k f} (h : ImgsKept c d) : ImgsKept c (tpMod k f d) := h

protected theorem ImgsKept.tpFail {k i chan} (h : ImgsKept c d) : ImgsKept c (tpFail k i chan d) := h.tpMod.put.raiseSafety

protected theorem ImgsKept.testPulseStartAt {k} (h : ImgsKept c d) : ImgsKept c (testPulseStartAt k d) := h.tpMod.put.ite h

protected theorem ImgsKept.testPulseEndAt {k levels ball} (h : ImgsKept c d) : ImgsKept c (testPulseEndAt k levels ball d) := by
  unfold testPulseEndAt
  split
  · exact h
  · exact
      have h1 := h.tpMod
      h.ite (((h1.raiseSafety.ite h1).forL (fun h => h.tpFail.ite h)).put)

protected theorem ImgsKept.tpBlankingEndAt {k levels} (h : ImgsKept c d) : ImgsKept c (tpBlankingEndAt k levels d) := by
  unfold tpBlankingEndAt
  split
  · exact h
  · exact h.ite ((h.forL (fun h1 => have h2 := h1.safeChanMod; h2.tpFail.ite h2)).tpMod.onlyIf .bump)

protected theorem ImgsKept.timStep {proc r p} (h : ImgsKept c d) : ImgsKept c (timStep proc r p d) := h

protected theorem ImgsKept.outStep {proc r p} (h : ImgsKept c d) : ImgsKept c (outStep proc r p d) := by
  unfold outStep
  extract_lets n perm req x was other cmdWas manual w w cmd demand x y d1 d2 d3
  have h1 : ImgsKept c d1 := h
  have h3 : ImgsKept c d3 := (h1.ite h1.putB.setStrand).safeCmd
  exact h3.raise.ite h3

protected theorem ImgsKept.matrixEval {proc r} (h : ImgsKept c d) : ImgsKept c (matrixEval proc r d) := (h.forL .timStep).forL .outStep

protected theorem ImgsKept.safetyMatrixEvalAt {mismatch} (h : ImgsKept c d) : ImgsKept c (safetyMatrixEvalAt mismatch d) := by
  unfold safetyMatrixEvalAt
  split
  · exact h
  · extract_lets x d1
    have h1 : ImgsKept c d1 := h
    exact h.ite ((h1.forL .safeCmd).raiseSafety.ite h1.matrixEval)

protected theorem ImgsKept.safetyTimerExpiryAt {k} (h : ImgsKept c d) : ImgsKept c (safetyTimerExpiryAt k d) := by
  unfold safetyTimerExpiryAt
  split
  · exact h
  · split
    · exact h
    · exact h.ite h

protected theorem ImgsKept.requestCrossingAt (h : ImgsKept c d) : ImgsKept c (requestCrossingAt d) := by
  unfold requestCrossingAt
  split
  · exact h
  · exact h.ite (.forL h (fun h => .putB h))

protected theorem ImgsKept.requestTimeoutAt {n} (h : ImgsKept c d) : ImgsKept c (requestTimeoutAt n d) := h.put.ite h

protected theorem ImgsKept.safetyCommit (h : ImgsKept c d) : ImgsKept c (safetyCommit d) := by
  unfold safetyCommit
  split
  · exact h
  · exact h.ite (.put (.maxUp (.put (.matrixEval h))))

protected theorem ImgsKept.crossCompareTimeoutAt {n} (h : ImgsKept c d) : ImgsKept c (crossCompareTimeoutAt n d) := by
  unfold crossCompareTimeoutAt
  split
  · exact h
  · exact h.raiseSafety.ite h

protected theorem ImgsKept.readbackFail {code n sw} (h : ImgsKept c d) : ImgsKept c (readbackFail code n sw d) := h.put.raiseSafety

protected theorem ImgsKept.readbackSettleAt {n} (h : ImgsKept c d) : ImgsKept c (readbackSettleAt n d) := by
  unfold readbackSettleAt
  split
  · exact h
  · extract_lets x y d1
    have h1 : ImgsKept c d1 := h
    exact h.ite (h1.ite h1.readbackFail)

protected theorem ImgsKept.srbEdgeAt {n level} (h : ImgsKept c d) : ImgsKept c (srbEdgeAt n level d) :=
  have h1 := h.putB.setStrand
  h1.readbackFail.ite h1

protected theorem ImgsKept.offPulseStartAt {n} (h : ImgsKept c d) : ImgsKept c (offPulseStartAt n d) := by
  unfold offPulseStartAt
  split
  · exact h
  · exact .ite (.safeShow h) h

protected theorem ImgsKept.offPulseEndAt {n low high} (h : ImgsKept c d) : ImgsKept c (offPulseEndAt n low high d) := by
  unfold offPulseEndAt
  extract_lets x width y d1 d2
  have h2 : ImgsKept c d2 := .put (.safeShow h)
  exact h.ite (h2.bump.ite h2.readbackFail)

protected theorem ImgsKept.safetyDomainFaultAt {internal} (h : ImgsKept c d) : ImgsKept c (safetyDomainFaultAt internal d) :=
  have h1 := h.forL .safeCmd
  h.put.ite (h1.raiseSafety.ite h1.put.raiseSafety)

protected theorem ImgsKept.safetyReset {r} (h : ImgsKept c d) : ImgsKept c (safetyReset r d) := by
  unfold safetyReset
  extract_lets freeIn d1 d2
  have hf {i e} (h : ImgsKept c e) : ImgsKept c (freeIn i e) :=
    have h1 := h.setInState.ite h
    (h1.setInState.ite h1).put.put
  have h2 : ImgsKept c d2 := (h.forL hf).forL fun h => h.openOutput.put
  exact .raise (.refreshFaults (.put (.bumpSat (.setStrand (.put h2)))))

protected theorem ImgsKept.pressEnd {both} (h : ImgsKept c d) : ImgsKept c (pressEnd both d).2 := by
  unfold pressEnd
  extract_lets fin
  have hf {e} (h : ImgsKept c e) : ImgsKept c (fin e) := .put h
  split
  · exact hf h
  · split
    · exact hf h
    · split
      · exact hf h.bumpSat.raise
      · exact hf h.safetyReset

protected theorem ImgsKept.safetyStart {fused} (h : ImgsKept c d) : ImgsKept c (safetyStart fused d) := by
  unfold safetyStart
  split
  · exact h
  · exact .forL (.forL (.forL (.forL (.onlyIf (.put (.putB (.setStrand (.put h)))) (fun h => h.put.put)) .putB) .putB) .setStrand) .openOutput

protected theorem ImgsKept.safetyRun (h : ImgsKept c d) : ImgsKept c (safetyRun d) := by
  unfold safetyRun
  split
  · exact h
  · extract_lets begin_ d1
    have hb {i p e} (h : ImgsKept c e) : ImgsKept c (begin_ i p e) :=
      have h1 := h.setInState
      have h2 := h1.inputMove.ite h1
      h2.inputMove.ite h2
    have h1 : ImgsKept c d1 := h.forL fun h => hb (hb h)
    exact h1

/-! The reserve pool. -/

protected theorem ImgsKept.setPhys {kind e p} (h : ImgsKept c d) : ImgsKept c (setPhys kind e p d) := by
  unfold setPhys
  split
  · exact h.put
  · exact h.put.bump
  · exact h.put.bump

protected theorem ImgsKept.retire {kind p} (h : ImgsKept c d) : ImgsKept c (retire kind p d) := h.put

protected theorem ImgsKept.showMigrating {kind e b} (h : ImgsKept c d) : ImgsKept c (showMigrating kind e b d) := (h.putB.ite h).putB

protected theorem ImgsKept.takeReserve {kind} (h : ImgsKept c d) : ImgsKept c (takeReserve kind d).2 := by
  unfold takeReserve
  extract_lets x d1
  have h1 : ImgsKept c d1 := by
    unfold d1
    split
    · exact .ite (.showMigrating (.put h)) h
    · exact h
  exact h1.put.ite_snd h1

protected theorem ImgsKept.poolEmpty {phys} (h : ImgsKept c d) : ImgsKept c (poolEmpty phys d) := h.put.raise

protected theorem ImgsKept.unplaced {phys} (h : ImgsKept c d) : ImgsKept c (unplaced phys d) := h.put.raise

protected theorem ImgsKept.showSingle {g b} (h : ImgsKept c d) : ImgsKept c (showSingle g b d) := by
  unfold showSingle
  split
  · exact h
  · exact (h.forL .putB).putB

protected theorem ImgsKept.singleGroups {e} (h : ImgsKept c d) : ImgsKept c (singleGroups e d) := by
  unfold singleGroups
  refine h.forL fun h1 => ?_
  split
  · exact h1
  · exact h1.ite (.showSingle h1)

protected theorem ImgsKept.placeGroup {e g} (h : ImgsKept c d) : ImgsKept c (placeGroup e g d) := by
  unfold placeGroup
  split
  · exact h
  · split
    · exact h
    · split <;> rename_i heq
      · exact h.oneOf.of_eq heq
      · have h1 := h.oneOf.of_eq heq
        exact ⟨h1.1, h1.2⟩

protected theorem ImgsKept.doffPly {e} (h : ImgsKept c d) : ImgsKept c (doffPly e d) := by
  unfold doffPly
  extract_lets x p d1
  have h1 : ImgsKept c (takeReserve 1 d1).2 := h.retire.bumpSat.singleGroups.takeReserve
  refine h.ite ?_
  split <;> rename_i heq
  · extract_lets gs d2
    have h2 : ImgsKept c d2 := (h1.of_eq heq).setPhys
    exact h2.raise.ite h2
  · extract_lets d2 d3
    have h2 := h1.of_eq heq
    have h3 : ImgsKept c d3 := .forL (.poolEmpty (.put h2)) .placeGroup
    exact h3.ite h3.unplaced

protected theorem ImgsKept.startMig {kind e rotate} (h : ImgsKept c d) : ImgsKept c (startMig kind e rotate d) := by
  unfold startMig
  split
  · exact h
  · exact .showMigrating (.put (.put h))

protected theorem ImgsKept.leaveService {kind old rotate} (h : ImgsKept c d) : ImgsKept c (leaveService kind old rotate d) :=
  have h1 := h.bumpSat
  .ite h1 h1.retire

protected theorem ImgsKept.moveCore {c' rotate} (h : ImgsKept c d) : ImgsKept c (moveCore c' rotate d) := by
  unfold moveCore
  split
  · exact h
  · exact h.put.setPhys.leaveService.raise

protected theorem ImgsKept.plannedDoff {kind e rotate} (h : ImgsKept c d) : ImgsKept c (plannedDoff kind e rotate d) :=
  .ite (h.ite h) (h.moveCore.ite h.startMig)

protected theorem ImgsKept.startWaiting {kind} (h : ImgsKept c d) : ImgsKept c (startWaiting kind d) := by
  unfold startWaiting
  split
  · exact h.ite (.plannedDoff h)
  · exact h

protected theorem ImgsKept.migDone {kind} (h : ImgsKept c d) : ImgsKept c (migDone kind d) := by
  unfold migDone
  split
  · exact h
  · exact .raise (.showMigrating (.leaveService (.setPhys h)))

protected theorem ImgsKept.passBarrier {kind k t} (h : ImgsKept c d) : ImgsKept c (passBarrier kind k t d) := by
  unfold passBarrier
  split
  · exact h
  · extract_lets left x d1
    have h1 : ImgsKept c d1 := .showMigrating h
    exact h.ite (h1.migDone.ite h1.showMigrating)

protected theorem ImgsKept.passMoves {g} (h : ImgsKept c d) : ImgsKept c (passMoves g d) := by
  unfold passMoves
  refine h.forL fun h1 => ?_
  split
  · exact h1.ite (.ite (.raise h1) h1)
  · exact h1

/-! Threads. -/

protected theorem ImgsKept.thrMod {t f} (h : ImgsKept c d) : ImgsKept c (thrMod t f d) := h

protected theorem ImgsKept.coreMod {c' f} (h : ImgsKept c d) : ImgsKept c (coreMod c' f d) := h

protected theorem ImgsKept.setThr {t st} (h : ImgsKept c d) : ImgsKept c (setThr t st d) := h.put

protected theorem ImgsKept.setLevel {l ts} (h : ImgsKept c d) : ImgsKept c (setLevel l ts d) := h

protected theorem ImgsKept.unready {t} (h : ImgsKept c d) : ImgsKept c (unready t d) := h.setLevel

protected theorem ImgsKept.enlist {t head} (h : ImgsKept c d) : ImgsKept c (enlist t head d) :=
  have h1 := h.thrMod
  h1.setThr.ite h1.setLevel.setThr

protected theorem ImgsKept.showCore {c'} (h : ImgsKept c d) : ImgsKept c (showCore c' d) := h.put.putB.putB.put.put.putB

protected theorem ImgsKept.clearSlot {c'} (h : ImgsKept c d) : ImgsKept c (clearSlot c' d) := h.coreMod.showCore

protected theorem ImgsKept.loadSlot {c' t} (h : ImgsKept c d) : ImgsKept c (loadSlot c' t d) :=
  have h1 := h.unready.setThr
  (h1.ite h1.enlist).coreMod.showCore

protected theorem ImgsKept.refill {n} (h : ImgsKept c d) : ImgsKept c (refill n d) := by
  induction n generalizing d with
  | zero => exact h
  | succ n ih =>
    unfold refill
    extract_lets ready tryOne
    split
    · exact ih h.loadSlot
    · exact h

protected theorem ImgsKept.placeThread {t} (h : ImgsKept c d) : ImgsKept c (placeThread t d) := by
  unfold placeThread
  extract_lets lvl d1
  have h1 : ImgsKept c d1 := by
    unfold d1
    split
    · exact h.loadSlot.ite h
    · exact h
  exact h1.refill

protected theorem ImgsKept.thrReady {t} (h : ImgsKept c d) : ImgsKept c (thrReady t d) :=
  have h1 := h.enlist
  h1.placeThread.ite h1

protected theorem ImgsKept.wake {t} (h : ImgsKept c d) : ImgsKept c (wake t d) := h.put.ite (h.thrReady.ite (h.stick.ite h.put))

protected theorem ImgsKept.switchOut {c'} (h : ImgsKept c d) : ImgsKept c (switchOut c' d) :=
  have h2 := h.coreMod.put
  h.ite (.showCore (.thrMod (.ite h2 h2)))

protected theorem ImgsKept.switchIn {c' t} (h : ImgsKept c d) : ImgsKept c (switchIn c' t d) := h.thrMod.coreMod.setThr.put.bump.maxUp.showCore

protected theorem ImgsKept.preempt {c'} (h : ImgsKept c d) : ImgsKept c (preempt c' d) := h.ite h.switchOut.enlist

protected theorem ImgsKept.drawSlot {n} (h : ImgsKept c d) : ImgsKept c (drawSlot n d) := by
  unfold drawSlot
  extract_lets others
  refine h.ite ?_
  split
  · exact h
  · exact h.clearSlot.coreMod.showCore

protected theorem ImgsKept.threadDispatchAt {c'} (h : ImgsKept c d) : ImgsKept c (threadDispatchAt c' d) :=
  have h1 := h.clearSlot
  h.ite (((h1.forL (fun h => h.preempt.switchIn)).ite h1.preempt.switchIn).refill)

protected theorem ImgsKept.leaveCores {t} (h : ImgsKept c d) : ImgsKept c (leaveCores t d) := h.forL fun h => h.switchOut.ite h

protected theorem ImgsKept.settleCores (h : ImgsKept c d) : ImgsKept c (settleCores d) := (h.forL (fun h => h.drawSlot.ite h)).refill

protected theorem ImgsKept.noteTime {t} (h : ImgsKept c d) : ImgsKept c (noteTime t d) := h.put.maxUp

protected theorem ImgsKept.abandon {t} (h : ImgsKept c d) : ImgsKept c (abandon t d) := h.leaveCores.noteTime.thrMod.setThr.settleCores

protected theorem ImgsKept.sliceExpiryAt {c'} (h : ImgsKept c d) : ImgsKept c (sliceExpiryAt c' d) := h.ite (h.ite h.leaveCores.enlist.settleCores)

protected theorem ImgsKept.delayDue {t} (h : ImgsKept c d) : ImgsKept c (delayDue t d) := h.thrReady.ite h

protected theorem ImgsKept.expireDelays {k} (h : ImgsKept c d) : ImgsKept c (expireDelays k d) := h.forL .delayDue

protected theorem ImgsKept.edgeWakes (h : ImgsKept c d) : ImgsKept c (edgeWakes d) := h.ite (.expireDelays (.expireDelays (.forL h .wake)))

protected theorem ImgsKept.tick0AdvanceAt (h : ImgsKept c d) : ImgsKept c (tick0AdvanceAt d) := .ite (.edgeWakes (.bump h)) h

protected theorem ImgsKept.tick1Advance {pick} (h : ImgsKept c d) : ImgsKept c (tick1Advance pick d) := h.bump.ite h

protected theorem ImgsKept.shareExhaustedAt (h : ImgsKept c d) : ImgsKept c (shareExhaustedAt d) := by
  refine h.ite (.raise (.bumpSat (.settleCores (.forL (.forL h .preempt) fun h => ?_))))
  exact h.unready.setThr.ite ((h.forL fun h => h.clearSlot.ite h).setThr.ite h)

protected theorem ImgsKept.shareWindowEndAt (h : ImgsKept c d) : ImgsKept c (shareWindowEndAt d) := by
  unfold shareWindowEndAt
  extract_lets w pct d1 x d2
  have h1 : ImgsKept c d1 := by
    refine h.forL fun h => ?_
    split
    · exact h
    · exact h.thrMod
  have h2 : ImgsKept c d2 := h1
  exact h.ite (h2.forL fun h => h.enlist.placeThread.ite h).put

protected theorem ImgsKept.rerunOn {c'} (h : ImgsKept c d) : ImgsKept c (rerunOn c' d) := by
  unfold rerunOn
  split
  · exact h
  · exact (h.leaveCores.noteTime.thrMod.forL (fun h => h.coreMod.showCore)).raise

protected theorem ImgsKept.removeCore {c'} (h : ImgsKept c d) : ImgsKept c (removeCore c' d) :=
  have h2 := (h.ite h.leaveCores).clearSlot.put
  have h3 := h2.ite h2.enlist
  have h4 := h3.ite h3.noteTime.thrMod.enlist.raise
  ((h4.ite h4.placeThread).ite ((h4.ite h4.placeThread).placeThread)).settleCores.raise

protected theorem ImgsKept.doffCore {n} (h : ImgsKept c d) : ImgsKept c (doffCore n d) := by
  unfold doffCore
  extract_lets p d1
  have h1 : ImgsKept c (takeReserve 0 d1).2 := h.retire.bumpSat.takeReserve
  refine h.ite ?_
  split <;> rename_i heq
  · exact (h1.of_eq heq).setPhys.rerunOn.raise
  · exact (h1.of_eq heq).poolEmpty.removeCore

protected theorem ImgsKept.creelImage (h : ImgsKept c d) : ImgsKept c (creelImage d) := by
  unfold creelImage
  extract_lets fixed show1 d1 d2 d3 r
  have hs {t l e} (h : ImgsKept c e) : ImgsKept c (show1 t l e) := h.put.put
  have h1 : ImgsKept c d1 := h
  have h2 : ImgsKept c d2 := h1.forL hs
  have h3 : ImgsKept c d3 := by
    unfold d3
    split
    · exact h2
    · exact h2.forL hs
  exact h3.put.put.put

protected theorem ImgsKept.creelRun (h : ImgsKept c d) : ImgsKept c (creelRun d) := .forL (.put (.put (h.forL .setThr))) .showCore

/-! Drives. -/

protected theorem ImgsKept.sdSample {r bs} (h : ImgsKept c d) : ImgsKept c (sdSample r bs d) := h.ite (h.putStrandsS.onlyIf .stick)

protected theorem ImgsKept.pinTo {n b on} (h : ImgsKept c d) : ImgsKept c (pinTo n b on d) := h.pinOn.ite h.pinOff

protected theorem ImgsKept.drivePins {ph p n} (h : ImgsKept c d) : ImgsKept c (drivePins ph p n d) :=
  have h1 := h.settlePins
  h1.ite (h1.forL (fun h => h.pinTo.pinTo.ite h.pinTo.pinTo))

protected theorem ImgsKept.refreshPins {g} (h : ImgsKept c d) : ImgsKept c (refreshPins g d) := by
  unfold refreshPins
  split
  · exact h
  · exact h.ite (h.drivePins.drivePins.forL .auxSet)

protected theorem ImgsKept.dutyClamp {g} (h : ImgsKept c d) : ImgsKept c (dutyClamp g d) := by
  unfold dutyClamp
  dsimp only
  split
  · exact h.stick
  · exact h

protected theorem ImgsKept.driveSwitch {keys n} (h : ImgsKept c d) : ImgsKept c (driveSwitch keys n d) := h.put.ite h

protected theorem ImgsKept.transfer {g} (h : ImgsKept c d) : ImgsKept c (transfer g d) :=
  .refreshPins (.dutyClamp (.driveSwitch (.driveSwitch (.bump (.putB (.onlyIf (.forL h .setStrandS) (fun h => h.put.setStrand.onlyIf .put)))))))

protected theorem ImgsKept.loadTaken {g} (h : ImgsKept c d) : ImgsKept c (loadTaken g d) := .put (.put h)

protected theorem ImgsKept.reload {g} (h : ImgsKept c d) : ImgsKept c (reload g d) := by
  unfold reload
  extract_lets x p q d1
  have h1 : ImgsKept c d1 := h
  exact h1.refreshPins.ite (h1.put.refreshPins.ite (h1.loadTaken.refreshPins.ite
    (h1.loadTaken.bumpSat.stick.refreshPins.ite h1.loadTaken.transfer)))

protected theorem ImgsKept.loadAll {g} (h : ImgsKept c d) : ImgsKept c (loadAll g d) := .ite h (.onlyIf (.put h) .put)

protected theorem ImgsKept.carrierZero {g carried} (h : ImgsKept c d) : ImgsKept c (carrierZero g carried d) := .refreshPins (.put h)

protected theorem ImgsKept.syncGroup {g r} (h : ImgsKept c d) : ImgsKept c (syncGroup g r d) :=
  h.carrierZero.ite (h.carrierZero.ite (h.carrierZero.ite (h.carrierZero.ite h.bumpSat.stick.carrierZero)))

protected theorem ImgsKept.syncPick {p} (h : ImgsKept c d) : ImgsKept c (syncPick p d) := h.forL .syncGroup

protected theorem ImgsKept.driveEnable {n} (h : ImgsKept c d) : ImgsKept c (driveEnable n d) := h.ite (.pinsSafe (.settlePins (.put h)))

protected theorem ImgsKept.driveTrip {code n aux value} (h : ImgsKept c d) : ImgsKept c (driveTrip code n aux value d) :=
  h.settlePins.put.pinsWithin2.raiseBreak

protected theorem ImgsKept.overcurrentTripAt {c' bs} (h : ImgsKept c d) : ImgsKept c (overcurrentTripAt c' bs d) := by
  unfold overcurrentTripAt
  split
  · exact h
  · split
    · exact h
    · exact h.put.bumpSat.forL fun h => h.put.driveTrip

protected theorem ImgsKept.sdStuckAt {c'} (h : ImgsKept c d) : ImgsKept c (sdStuckAt c' d) :=
  h.ite (.onlyIf (.forL (.put (.put h)) (fun h => .driveTrip (.put h))) .raise)

protected theorem ImgsKept.sdGood {c'} (h : ImgsKept c d) : ImgsKept c (sdGood c' d) := h.put.forL fun h => .ite h h

protected theorem ImgsKept.sdInputToggleAt {c'} (h : ImgsKept c d) : ImgsKept c (sdInputToggleAt c' d) := h.ite (.onlyIf h .sdGood)

protected theorem ImgsKept.sdChannelValidAt {c'} (h : ImgsKept c d) : ImgsKept c (sdChannelValidAt c' d) := h.sdGood.ite h

protected theorem ImgsKept.pwmReloadAt {g} (h : ImgsKept c d) : ImgsKept c (pwmReloadAt g d) := by
  unfold pwmReloadAt
  split
  · exact h.reload.ite h
  · exact h

protected theorem ImgsKept.deadTimeExpiryAt {pin} (h : ImgsKept c d) : ImgsKept c (deadTimeExpiryAt pin d) :=
  have h1 := h.settlePins
  .ite (.setPins h1) h1

protected theorem ImgsKept.readBack {n pair v} (h : ImgsKept c d) : ImgsKept c (readBack n pair v d) := h.put

protected theorem ImgsKept.readbackErrorAt {n pair} (h : ImgsKept c d) : ImgsKept c (readbackErrorAt n pair d) := by
  unfold readbackErrorAt
  dsimp only
  split
  · exact h.settlePins
  · exact h.settlePins.ite h.settlePins.fresh.readBack.put.bumpSat.driveTrip

protected theorem ImgsKept.shootThroughAt {n pair} (h : ImgsKept c d) : ImgsKept c (shootThroughAt n pair d) := by
  unfold shootThroughAt
  dsimp only
  split
  · exact h.settlePins
  · exact h.settlePins.ite h.settlePins.readBack.put.driveTrip

protected theorem ImgsKept.driveHalt (h : ImgsKept c d) : ImgsKept c (driveHalt d) :=
  (h.forL (fun h => h.ite h.put.put.pinsWithin2.raiseBreak)).forL .put

protected theorem ImgsKept.driveUnhalt (h : ImgsKept c d) : ImgsKept c (driveUnhalt d) :=
  (h.forL (fun h1 => have h2 := h1.put; h2.ite h2.auxSet)).forN .refreshPins

protected theorem ImgsKept.phaseAim {r openPick base} (h : ImgsKept c d) : ImgsKept c (phaseAim r openPick base d) :=
  have h1 := h.put
  h1.disarmPick.bump.ite h1.retargetPick

protected theorem ImgsKept.phaseClose {p} (h : ImgsKept c d) : ImgsKept c (phaseClose p d) := h.forL fun h => (h.onlyIf .phaseAim).onlyIf .phaseAim

protected theorem ImgsKept.driveImage (h : ImgsKept c d) : ImgsKept c (driveImage d) :=
  (((h.forL (fun h => h.put.putB.putB)).forL (fun h => h.put.put.putB.putB)).forL .put).forL .put

protected theorem ImgsKept.sdRestart {r bits} (h : ImgsKept c d) : ImgsKept c (sdRestart r bits d) := .put h

protected theorem ImgsKept.driveRun (h : ImgsKept c d) : ImgsKept c (driveRun d) :=
  (((h.forL fun h => h.setStrand.sdRestart).forL fun h => h.put.setStrand.onlyIf .carrierZero).forL fun h => h.put.pinsOff.put).forL
    fun h => h.disarmPick.disarmPick

/-! Plies. -/

protected theorem ImgsKept.evalPly {p g fb mask} (h : ImgsKept c d) : ImgsKept c (evalPly p g fb mask d) := by
  unfold evalPly
  split
  · exact h
  · exact h.ite (.onlyIf (.setSticky h) .putB)

protected theorem ImgsKept.evalDrive {n g mask} (h : ImgsKept c d) : ImgsKept c (evalDrive n g mask d) := by
  unfold evalDrive
  split
  · exact h
  · extract_lets x
    split
    extract_lets d1
    split
    extract_lets cs
    have h1 : ImgsKept c d1 := h.evalPly.evalPly
    exact .onlyIf (ImgsKept.onlyIf h1 .put) .put

protected theorem ImgsKept.evalEntry {g e mask} (h : ImgsKept c d) : ImgsKept c (evalEntry g e mask d) := h.evalPly.ite h.evalDrive

protected theorem ImgsKept.trcFill {b r} (h : ImgsKept c d) : ImgsKept c (trcFill b r d) := .put (.put (.put h))

protected theorem ImgsKept.trcRearm {b r} (h : ImgsKept c d) : ImgsKept c (trcRearm b r d) := h.put.ite h.trcFill

protected theorem ImgsKept.trcArm {b r} (h : ImgsKept c d) : ImgsKept c (trcArm b r d) := by
  unfold trcArm
  dsimp only
  split
  · exact h.put.put.trcFill
  · exact h.put.put.trcRearm
  · exact h

protected theorem ImgsKept.trcLost {b t} (h : ImgsKept c d) : ImgsKept c (trcLost b t d) := (h.onlyIf .put).bumpSat

protected theorem ImgsKept.trcTrigger {b} (h : ImgsKept c d) : ImgsKept c (trcTrigger b d) := by
  unfold trcTrigger
  split
  · exact h
  · exact h.trcLost
  · exact h.trcLost
  · exact h

protected theorem ImgsKept.trcRow {b r t} (h : ImgsKept c d) : ImgsKept c (trcRow b r t d) :=
  have h1 := .ite (h.onlyIf .trcLost) (.ite (.put (.put (.put (.put (.putB h))))) (.onlyIf h .put))
  h.ite (.ite (.onlyIf (.onlyIf (.put (.put h1)) .stick) .trcRearm) h1)

protected theorem ImgsKept.trcRowsOf {g t} (h : ImgsKept c d) : ImgsKept c (trcRowsOf g t d) := h.forL (fun h => h.ite (.ite (.trcRow h) h))

protected theorem ImgsKept.trcSettle {g} (h : ImgsKept c d) : ImgsKept c (trcSettle g d) := by
  unfold trcSettle
  split
  · exact h
  · exact h.ite (.trcRowsOf h)

protected theorem ImgsKept.engBegin {x} (h : ImgsKept c d) : ImgsKept c (engBegin x d).2 := .ite_snd (h.fresh (w := 8)) h

protected theorem ImgsKept.engPick {e} (h : ImgsKept c d) : ImgsKept c (engPick e d) := by
  unfold engPick
  dsimp only
  split
  · exact h.put
  · exact .onlyIf h.put.engBegin .maxUp

protected theorem ImgsKept.unstart {e} (h : ImgsKept c d) : ImgsKept c (unstart e d) := h.ite h

protected theorem ImgsKept.engKick {e} (h : ImgsKept c d) : ImgsKept c (engKick e d) := h.engPick.ite ((h.unstart.ite h).engPick.ite h)

protected theorem ImgsKept.twinDoff {e} (h : ImgsKept c d) : ImgsKept c (twinDoff e d) := h.raise.doffPly

protected theorem ImgsKept.evalUpTo {n r flips} (h : ImgsKept c d) : ImgsKept c (evalUpTo n r flips d) := h.forL fun h => h.evalEntry.ite h

protected theorem ImgsKept.overrideLaunch {g r} (h : ImgsKept c d) : ImgsKept c (overrideLaunch g r d) := h.mirror.replayDiverge

protected theorem ImgsKept.unresolved {g r mism} (h : ImgsKept c d) : ImgsKept c (unresolved g r mism d) := by
  unfold unresolved
  extract_lets x test n d1 d2 d3 ps
  have ht {k e} (h : ImgsKept c e) : ImgsKept c (test k e) := h
  have h1 : ImgsKept c d1 := h
  have h2 : ImgsKept c d2 := h1.forL fun h => h.put.raise
  have h3 : ImgsKept c d3 := (ht (ht h2)).overrideLaunch
  exact h3.ite ((h3.forL .plyStop).raise.forL .axisOfStopped)

protected theorem ImgsKept.verdict {g r} (h : ImgsKept c d) : ImgsKept c (verdict g r d) := by
  unfold verdict
  dsimp only
  split
  · exact .showSingle (.evalUpTo h)
  · exact .twinDoff (.bumpSat (.bumpSat (.evalUpTo h)))
  · exact .twinDoff (.bumpSat (.bumpSat (.evalUpTo h)))
  · exact .twinDoff (.forL (.bumpSat (.bumpSat (.evalUpTo h))) .put)
  · exact .twinDoff (.forL (.bumpSat (.bumpSat (.evalUpTo h))) .put)
  · exact h.bumpSat.bumpSat.unresolved
  · exact h.bumpSat.bumpSat.unresolved

protected theorem ImgsKept.settleTwin {g} (h : ImgsKept c d) : ImgsKept c (settleTwin g d) := by
  unfold settleTwin
  split
  · exact h
  · exact h.ite (h.evalUpTo.ite (h.evalUpTo.ite (h.verdict.ite h)))

protected theorem ImgsKept.engsKick (h : ImgsKept c d) : ImgsKept c (engsKick d) := (h.forL (fun h => h.settleTwin.ite h)).forL .engKick

protected theorem ImgsKept.residueRerun {e g r} (h : ImgsKept c d) : ImgsKept c (residueRerun e g r d) := by
  unfold residueRerun
  extract_lets p d1 x d2 y
  have h1 : ImgsKept c d1 := h.doffPly
  have h2 : ImgsKept c d2 := h1.forL fun h => .ite h h
  exact .ite h1 (.raise (.put h2))

protected theorem ImgsKept.strayResult {e due epoch} (h : ImgsKept c d) : ImgsKept c (strayResult e due epoch d) := h.ite h.bumpSat

protected theorem ImgsKept.plyEvalCompleteAt {e residueOk mask epoch} (h : ImgsKept c d) :
    ImgsKept c (plyEvalCompleteAt e residueOk mask epoch d) := by
  unfold plyEvalCompleteAt
  extract_lets ex g
  refine .ite (h.ite h.strayResult) ?_
  split
  · exact h
  · extract_lets x tw
    refine h.strayResult.ite ?_
    split
    · exact h.engPick
    · refine h.residueRerun.engPick.engsKick.ite (.ite (.engsKick (.engPick (.settleTwin ?_))) (.engsKick (.engPick (.evalEntry ?_)))) <;> exact h

protected theorem ImgsKept.publishDrive {p} (h : ImgsKept c d) : ImgsKept c (publishDrive p d) := by
  unfold publishDrive
  split
  · exact h
  · extract_lets n g x mark
    have hm {e} (h : ImgsKept c e) : ImgsKept c (mark e) := h
    refine h.ite (.onlyIf (.stageFixed (hm (.stageCompare (.stageCompare (.stageCompare (.putStrands ?_)))))) .loadAll)
    exact h

protected theorem ImgsKept.publishAxis {p u} (h : ImgsKept c d) : ImgsKept c (publishAxis p u d) := h.forL fun h => h.txWrite.ite h

protected theorem ImgsKept.publish {p r} (h : ImgsKept c d) : ImgsKept c (publish p r d) :=
  .ite (.publishDrive h) (.publishAxis (.publishDrive (.putStrandsS (.forL (.put h) (fun h => h.put.ite h)))))

protected theorem ImgsKept.plyMiss {p r} (h : ImgsKept c d) : ImgsKept c (plyMiss p r d) := by
  unfold plyMiss
  extract_lets x y d1 d2
  have h2 : ImgsKept c d2 := .stick (.bumpSat (.bumpSat h))
  exact h2.plyFault.ite h2

protected theorem ImgsKept.plyPublishAt {p} (h : ImgsKept c d) : ImgsKept c (plyPublishAt p d) := by
  unfold plyPublishAt
  split
  next => exact h
  next r _ =>
    extract_lets g x gx drop
    have hd : ImgsKept c (drop d) := h
    have h1 : ImgsKept c (plyMiss p r d) := h.plyMiss
    refine h.ite (.trcSettle (.engsKick (.ite h.publish (hd.ite (h.ite ?_)))))
    split
    · exact .ite ((h1.onlyIf .overrideLaunch)) (h1.onlyIf .overrideLaunch)
    · exact h1

protected theorem ImgsKept.engineSelfTestAt {e passed} (h : ImgsKept c d) : ImgsKept c (engineSelfTestAt e passed d) := by
  unfold engineSelfTestAt
  extract_lets x d1
  have h1 : ImgsKept c d1 := h
  exact h.ite (h1.ite h1.doffPly.engsKick)

protected theorem ImgsKept.plyEnter {p r w} (h : ImgsKept c d) : ImgsKept c (plyEnter p r w d) := .put (.put (.put h))

protected theorem ImgsKept.plyRestart {p r} (h : ImgsKept c d) : ImgsKept c (plyRestart p r d) := h.plyEnter

protected theorem ImgsKept.plyReshape {p r} (h : ImgsKept c d) : ImgsKept c (plyReshape p r d) := h.ite (h.plyEnter.setStrandS.ite h)

protected theorem ImgsKept.captureDrive {n t} (h : ImgsKept c d) : ImgsKept c (captureDrive n t d) := by
  unfold captureDrive
  split
  · exact h
  · exact .put h

protected theorem ImgsKept.plyAtLaunch {g p} (h : ImgsKept c d) : ImgsKept c (plyAtLaunch g p d) := by
  unfold plyAtLaunch
  split
  · exact h
  · extract_lets d1 d2 x n d3
    have h1 : ImgsKept c d1 := h.bump.plyReshape
    have h2 : ImgsKept c d2 := h1.plyRestart.ite h1
    have h3 : ImgsKept c d3 := .bumpSat (.put h2)
    exact h2.ite (.ite (h3.plyFault.ite h3) h2)

protected theorem ImgsKept.plyCapture {g t p} (h : ImgsKept c d) : ImgsKept c (plyCapture g t p d) := by
  unfold plyCapture
  split
  · exact h
  · exact h.ite (.onlyIf h .put)

protected theorem ImgsKept.entryCapture {g t e} (h : ImgsKept c d) : ImgsKept c (entryCapture g t e d) :=
  h.ite ((h.onlyIf .captureDrive).forL .plyCapture)

protected theorem ImgsKept.grpSwitch {g t} (h : ImgsKept c d) : ImgsKept c (grpSwitch g t d) := by
  unfold grpSwitch
  extract_lets d1
  have h1 : ImgsKept c d1 := h
  refine h.ite ?_
  split
  · exact h1
  · exact h1.put.putB.put.forL fun h => .putB (.put (.put h))

protected theorem ImgsKept.publishDue {r} (h : ImgsKept c d) : ImgsKept c (publishDue r d) := h.forL .plyPublishAt

protected theorem ImgsKept.acceptLaunch {g t} (h : ImgsKept c d) : ImgsKept c (acceptLaunch g t d) := by
  unfold acceptLaunch
  split
  · exact h
  · exact .trcSettle (.engsKick (.forL (.forL (.passMoves (.passBarrier (.put h.publishDue))) .plyAtLaunch) .entryCapture))

protected theorem ImgsKept.launchGroup {g t} (h : ImgsKept c d) : ImgsKept c (launchGroup g t d) := by
  unfold launchGroup
  dsimp only
  split
  · exact h.grpSwitch
  · exact h.grpSwitch.ite (h.grpSwitch.bumpSat.stick.ite h.grpSwitch.acceptLaunch)

protected theorem ImgsKept.launchSample {sg t} (h : ImgsKept c d) : ImgsKept c (launchSample sg t d) := by
  unfold launchSample
  refine h.forL fun h1 => ?_
  split
  · exact h1.launchGroup.ite h1
  · exact h1

protected theorem ImgsKept.launchPick {g t} (h : ImgsKept c d) : ImgsKept c (launchPick g t d) := by
  unfold launchPick
  split
  · exact h.launchGroup.ite h
  · exact h

protected theorem ImgsKept.plyClearStopped {p} (h : ImgsKept c d) : ImgsKept c (plyClearStopped p d) := h.clearField.ite h.plyRelease

protected theorem ImgsKept.plySet {p target v a j} (h : ImgsKept c d) : ImgsKept c (plySet p target v a j d) := by
  unfold plySet
  split
  · exact h
  · exact h.ite h

protected theorem ImgsKept.plyImage (h : ImgsKept c d) : ImgsKept c (plyImage d) := by
  unfold plyImage
  split
  · exact h
  · exact (h.put.put.forN (fun h => h.put.put)).forL fun h1 => h1.put.putB.put.forL (fun h => h.put.put.putB)

protected theorem ImgsKept.plyRun (h : ImgsKept c d) : ImgsKept c (plyRun d) :=
  (h.forL (fun h => h.ite h.plyEnter.putStrandsS)).forL fun h => h.onlyIf .trcArm

/-! Axes. -/

protected theorem ImgsKept.axMod {a f} (h : ImgsKept c d) : ImgsKept c (axMod a f d) := h

protected theorem ImgsKept.newProfile {a pl} (h : ImgsKept c d) : ImgsKept c (newProfile a pl d) := h.axMod.put.putB.put

protected theorem ImgsKept.showCmd {hank a seq res cause} (h : ImgsKept c d) : ImgsKept c (showCmd hank a seq res cause d) :=
  h.put.put.put.ite h.put.put.put

protected theorem ImgsKept.unshow {hank a} (h : ImgsKept c d) : ImgsKept c (unshow hank a d) := h.axMod

protected theorem ImgsKept.endCmd {a res} (h : ImgsKept c d) : ImgsKept c (endCmd a res d) := (h.ite (h.put.ite h.put)).axMod

protected theorem ImgsKept.cmdDone {a codes} (h : ImgsKept c d) : ImgsKept c (cmdDone a codes d) := h.endCmd.ite h

protected theorem ImgsKept.postAxis {a hank m} (h : ImgsKept c d) : ImgsKept c (postAxis a hank m d) := by
  unfold postAxis
  extract_lets x d1
  have h1 : ImgsKept c d1 := by
    unfold d1
    split
    · exact h
    · exact h.unshow.showCmd.put.raise
  exact h.ite h1.axMod

protected theorem ImgsKept.axisStopFault {a r t} (h : ImgsKept c d) : ImgsKept c (axisStopFault a r t d) :=
  have h1 := h.put
  have h2 := h1.axMod.ite h1
  h.ite (h2.setAxisState.ite (h2.memberFault.setAxisState.ite h2.axMod.newProfile.setAxisState))

protected theorem ImgsKept.raiseStop {code a t value} (h : ImgsKept c d) : ImgsKept c (raiseStop code a t d value) := by
  unfold raiseStop
  split
  · exact h
  · exact h.raise.onlyIf .axisStopFault

protected theorem ImgsKept.homeStart {a r t p v} (h : ImgsKept c d) : ImgsKept c (homeStart a r t p v d) :=
  h.endCmd.ite h.newProfile.put.setAxisState.axMod

protected theorem ImgsKept.gearStart {a c' t p} (h : ImgsKept c d) : ImgsKept c (gearStart a c' t p d) :=
  h.newProfile.axMod.put.put.put.putB.setAxisState.onlyIf .endCmd

protected theorem ImgsKept.axisEnable {a r} (h : ImgsKept c d) : ImgsKept c (axisEnable a r d) :=
  ((h.forL .plyRelease).newProfile.onlyIf .driveEnable).axisBrake.setAxisState.axMod

protected theorem ImgsKept.clearAxisFaults {a} (h : ImgsKept c d) : ImgsKept c (clearAxisFaults a d) := h.clearWhere

protected theorem ImgsKept.homeEnd {a t} (h : ImgsKept c d) : ImgsKept c (homeEnd a t d) := h.axMod

protected theorem ImgsKept.memberQuit {a quick} (h : ImgsKept c d) : ImgsKept c (memberQuit a quick d) := by
  unfold memberQuit
  split
  · exact .ite h h
  · exact h

protected theorem ImgsKept.applyCmd {a r m t spec} (h : ImgsKept c d) : ImgsKept c (applyCmd a r m t spec d) := by
  unfold applyCmd
  split
  extract_lets dec wasHoming dropBrake
  split
  · exact h.axisEnable
  · exact (ImgsKept.memberQuit h.axMod).newProfile.setAxisState.onlyIf fun h => h.put.homeEnd
  · exact h.newProfile.setAxisState.onlyIf fun h => h.put.homeEnd
  · exact h.homeStart
  · exact h.gearStart
  · exact h.newProfile.setAxisState
  · exact h.put.setAxisState.clearAxisFaults.endCmd
  · exact (h.endCmd.ite h.newProfile.setAxisState).ite h.newProfile.putS.setAxisState

protected theorem ImgsKept.takeCmd {a r t hank m} (h : ImgsKept c d) : ImgsKept c (takeCmd a r t hank m d) := by
  have h1 : ImgsKept c (showCmd hank a m.seq 1 0 (unshow hank a d)) := h.unshow.showCmd
  unfold takeCmd
  dsimp only
  split
  · exact h1.showCmd.put.raise
  · exact h1.endCmd.axMod.applyCmd

protected theorem ImgsKept.takeCmds {a r t} (h : ImgsKept c d) : ImgsKept c (takeCmds a r t d) := by
  unfold takeCmds
  dsimp only
  split
  · exact h.axMod
  · exact h.axMod.takeCmd
  · exact h.axMod.takeCmd
  · exact h.axMod.takeCmd.takeCmd.ite h.axMod.takeCmd.takeCmd

protected theorem ImgsKept.actStale {a r} (h : ImgsKept c d) : ImgsKept c (actStale a r d) :=
  have h1 := h.put.axMod
  h1.put.raiseBreak.ite h1

protected theorem ImgsKept.actTake {a t p v} (h : ImgsKept c d) : ImgsKept c (actTake a t p v d) := h.put.axMod.setStrandS.setStrandS

protected theorem ImgsKept.axisSample {a r t} (h : ImgsKept c d) : ImgsKept c (axisSample a r t d) := by
  unfold axisSample
  dsimp only
  split
  · split
    · exact h.actStale
    · split <;> exact h.actTake
  · exact .ite (.actStale h) (.actTake h)

protected theorem ImgsKept.axisPinEdge {pin level stamp r} (h : ImgsKept c d) : ImgsKept c (axisPinEdge pin level stamp r d) := h.axMod

protected theorem ImgsKept.limTrip {a pos te t} (h : ImgsKept c d) : ImgsKept c (limTrip a pos te t d) :=
  h.axMod.put.putS.put.put.homeEnd.raiseStop.ite h.axMod.put.putS.put.raiseStop

protected theorem ImgsKept.limCheck {a r t pos} (h : ImgsKept c d) : ImgsKept c (limCheck a r t pos d) := by
  unfold limCheck
  dsimp only
  split
  · exact h.limTrip
  · exact h.put.ite h

protected theorem ImgsKept.limResume {a r t} (h : ImgsKept c d) : ImgsKept c (limResume a r t d) := h.axMod.ite h

protected theorem ImgsKept.homeFound {a r t te p} (h : ImgsKept c d) : ImgsKept c (homeFound a r t te p d) := h.newProfile.put.axMod

protected theorem ImgsKept.homeHard {a r t} (h : ImgsKept c d) : ImgsKept c (homeHard a r t d) :=
  have h1 := h.axMod
  h.axMod.ite (h1.newProfile.put.axMod.ite h1)

protected theorem ImgsKept.homeApply {a r} (h : ImgsKept c d) : ImgsKept c (homeApply a r d) := by
  unfold homeApply
  dsimp only
  split
  · exact h.putS.put.axMod
  · exact h

protected theorem ImgsKept.homeDone {a t} (h : ImgsKept c d) : ImgsKept c (homeDone a t d) := h.homeEnd.setAxisState.cmdDone

protected theorem ImgsKept.homeStep {a r t p v} (h : ImgsKept c d) : ImgsKept c (homeStep a r t p v d) := by
  unfold homeStep
  dsimp only
  split
  · exact h.ite h.newProfile.axMod
  · exact h.newProfile.axMod.ite h
  · split
    · exact h.homeHard.put.homeEnd.raiseStop.ite h.homeHard
    · split
      · split
        · exact h.homeFound.ite h
        · exact h.put.homeEnd.raiseStop.ite h
      · split
        · exact h.put.homeEnd.raiseStop.ite h
        · exact (h.homeFound.ite h).ite h.newProfile.axMod
  · split
    · exact h.homeFound.ite h
    · exact h.put.homeEnd.raiseStop.ite h
  · exact h.ite (h.newProfile.axMod.ite h.homeDone)
  · exact h.homeDone.ite h
  · exact h

protected theorem ImgsKept.axisEngage {a r next} (h : ImgsKept c d) : ImgsKept c (axisEngage a r next d) := h.axMod.axisBrake

protected theorem ImgsKept.inposCheck {a r t fe} (h : ImgsKept c d) : ImgsKept c (inposCheck a r t fe d) :=
  have h1 := h.axMod
  h.ite (h.axMod.ite (h1.put.cmdDone.ite h1))

protected theorem ImgsKept.axisProgress {a r t p v fe} (h : ImgsKept c d) : ImgsKept c (axisProgress a r t p v fe d) := by
  unfold axisProgress
  extract_lets x d1 ended d2
  have h1 : ImgsKept c d1 := by
    unfold d1
    split
    · exact h.onlyIf .put
    · exact h
  have h2 : ImgsKept c d2 := by
    unfold d2
    split
    · exact h1.setAxisState.cmdDone.ite h1
    · exact h1.homeStep
    · exact (h1.axisEngage.ite h1.setAxisState.cmdDone).ite h1
    · exact h1.axisEngage.ite h1
    · exact h1
  exact h2.inposCheck

protected theorem ImgsKept.gearCheck {a r t p v} (h : ImgsKept c d) : ImgsKept c (gearCheck a r t p v d) := by
  unfold gearCheck
  dsimp only
  split
  · exact h
  · exact ((h.onlyIf (fun h => h.put.raiseStop)).onlyIf (fun h => h.put.raiseStop)).onlyIf (fun h => h.put.raiseStop)

protected theorem ImgsKept.axisProfile {a t} (h : ImgsKept c d) : ImgsKept c (axisProfile a t d).2 := by
  unfold axisProfile
  dsimp only
  split
  · exact (h.put.cmdDone.ite h).axMod
  · exact h.ite_snd h

protected theorem ImgsKept.axisStrands {a r p v acc} (h : ImgsKept c d) : ImgsKept c (axisStrands a r p v acc d) :=
  h.axMod.putStrandsS.onlyIf (fun h => h.settleTx)

protected theorem ImgsKept.axisTake {t r} (h : ImgsKept c d) : ImgsKept c (axisTake t r d) :=
  have h1 := h.homeApply.axisSample
  (h1.axMod.axisEnable.ite h1).takeCmds

protected theorem ImgsKept.axisFinish {t r} (h : ImgsKept c d) : ImgsKept c (axisFinish t r d) := by
  unfold axisFinish
  extract_lets a
  split
  rename_i p v acc d1 heq
  extract_lets fe d2 d3 d4 d5
  have h1 : ImgsKept c d1 := h.axisProfile.of_eq heq
  have h3 : ImgsKept c d3 := h1.setStrandS.setStrandS.axisProgress
  have h4 : ImgsKept c d4 := h3.putS.ite h3
  have h5 : ImgsKept c d5 := h4.put.raiseBreak.ite h4
  exact h5.limCheck.limCheck.limResume.gearCheck.axisStrands

protected theorem ImgsKept.brakeTimeElapsedAt {a} (h : ImgsKept c d) : ImgsKept c (brakeTimeElapsedAt a d) := by
  unfold brakeTimeElapsedAt
  split
  · exact
      have h1 := h.axMod
      h.ite ((h1.setAxisState.cmdDone.ite h1).ite ((h1.forL .plyStop).axisDriveOff.setAxisState.onlyIf .cmdDone))
  · exact h

protected theorem ImgsKept.motImage (h : ImgsKept c d) : ImgsKept c (motImage d) := (h.put.put.forL .put).forL fun h => h.forL .put

protected theorem ImgsKept.motRun (h : ImgsKept c d) : ImgsKept c (motRun d) :=
  h.forL (fun h1 => ((h1.axMod.setAxisState.axisBrake.onlyIf (fun h => h.forL .plyStop)).onlyIf (fun h => h.put.putS)).axisStrands)

/-! Axis groups. -/

protected theorem ImgsKept.mgMod {g f} (h : ImgsKept c d) : ImgsKept c (mgMod g f d) := h

protected theorem ImgsKept.segRefuse {g s} (h : ImgsKept c d) : ImgsKept c (segRefuse g s d) := h.put.put.put.raise

protected theorem ImgsKept.segTripped {g a} (h : ImgsKept c d) : ImgsKept c (segTripped g a d) := h.put.put.raise

protected theorem ImgsKept.groupStop {g t b byStop} (h : ImgsKept c d) : ImgsKept c (groupStop g t b byStop d) := h.mgMod.put.put

protected theorem ImgsKept.takeSeg {g r t s} (h : ImgsKept c d) : ImgsKept c (takeSeg g r t s d) := by
  unfold takeSeg
  extract_lets x idle d1 start q arc bad d2
  have h1 : ImgsKept c d1 := h.put.put.put
  have h2 : ImgsKept c d2 := (h1.mgMod.forL fun h => h.newProfile.axMod.setAxisState).ite h1
  refine (h1.segRefuse.ite h1.groupStop).ite (h1.segRefuse.ite ?_)
  split
  · exact h1.segTripped
  · exact h2.mgMod.put.put.onlyIf .put

protected theorem ImgsKept.takeSegs {t r} (h : ImgsKept c d) : ImgsKept c (takeSegs t r d) := by
  unfold takeSegs
  dsimp only
  split
  · exact h.mgMod
  · exact h.mgMod.takeSeg
  · exact h.mgMod.takeSeg
  · exact h.mgMod.takeSeg.takeSeg.ite h.mgMod.takeSeg.takeSeg

protected theorem ImgsKept.postGroup {g hank s} (h : ImgsKept c d) : ImgsKept c (postGroup g hank s d) := by
  unfold postGroup
  extract_lets x d1
  have h1 : ImgsKept c d1 := by
    unfold d1
    split
    · exact h
    · exact h.put.put.put.raise
  exact h.ite h1.mgMod

protected theorem ImgsKept.groupEnd {g r starved byStop} (h : ImgsKept c d) : ImgsKept c (groupEnd g r starved byStop d) :=
  ((h.forL (fun h => h.ite (h.axMod.onlyIf .setAxisState))).mgMod.put.put.put.onlyIf .put).onlyIf .put

protected theorem ImgsKept.groupPath {t r} (h : ImgsKept c d) : ImgsKept c (groupPath t r d) := by
  unfold groupPath
  extract_lets g why d1 x ended
  have h1 : ImgsKept c d1 := h.ite h.groupStop.mgMod
  refine h.ite ?_
  split
  extract_lets cur here d2 left passed done d3
  have h2 : ImgsKept c d2 := h1.forL .axMod
  have h3 : ImgsKept c d3 := by
    unfold d3
    dsimp only
    split
    · exact (h2.mgMod.put.putS.putS.onlyIf .put).put
    · exact h2.mgMod.put.putS.putS.onlyIf .put
  exact h3.groupEnd.ite h3

protected theorem ImgsKept.servoEval {pick t} (h : ImgsKept c d) : ImgsKept c (servoEval pick t d) :=
  h.ite ((((h.forL .axisTake).forL .takeSegs).forL .groupPath).forL .axisFinish)

/-! Scans of tasks. -/

protected theorem ImgsKept.taskMod {t f} (h : ImgsKept c d) : ImgsKept c (taskMod t f d) := h

protected theorem ImgsKept.shuEngMod {e f} (h : ImgsKept c d) : ImgsKept c (shuEngMod e f d) := h

protected theorem ImgsKept.varSet {bank a v} (h : ImgsKept c d) : ImgsKept c (varSet bank a v d) := h

protected theorem ImgsKept.taskPut {t a v} (h : ImgsKept c d) : ImgsKept c (taskPut t a v d) := by
  unfold taskPut
  dsimp only
  split
  · split
    · exact h.varSet.varSet
    · exact h.varSet
  · exact h.varSet

protected theorem ImgsKept.heldMarkAt {t s} (h : ImgsKept c d) : ImgsKept c (heldMarkAt t s d) := h.taskMod

protected theorem ImgsKept.heldMark {t} (h : ImgsKept c d) : ImgsKept c (heldMark t d) := h.heldMarkAt

protected theorem ImgsKept.heldEnd {t} (h : ImgsKept c d) : ImgsKept c (heldEnd t d) := h.taskMod

protected theorem ImgsKept.emptyBoxes {t} (h : ImgsKept c d) : ImgsKept c (emptyBoxes t d) := .taskMod h

protected theorem ImgsKept.refillBoxes {t} (h : ImgsKept c d) : ImgsKept c (refillBoxes t d) := h.taskMod.forL fun h => h.stick.ite h

protected theorem ImgsKept.showEngine {e} (h : ImgsKept c d) : ImgsKept c (showEngine e d) := h.put

protected theorem ImgsKept.spend {e n} (h : ImgsKept c d) : ImgsKept c (spend e n d) := h.shuEngMod.put

protected theorem ImgsKept.engTake {e t} (h : ImgsKept c d) : ImgsKept c (engTake e t d) :=
  have h2 := h.shuEngMod.spend
  h.ite (h2.ite ((h2.forL .taskPut).taskMod))

protected theorem ImgsKept.enterBreak {e t} (h : ImgsKept c d) : ImgsKept c (enterBreak e t d) :=
  h.engTake.shuEngMod.taskMod.put.put.put.heldMarkAt.raise

protected theorem ImgsKept.breakSettle {e n} (h : ImgsKept c d) : ImgsKept c (breakSettle e n d) := by
  induction n generalizing d with
  | zero => exact h
  | succ n ih =>
    unfold breakSettle
    split
    · exact h
    · exact (ih h.enterBreak).ite h

protected theorem ImgsKept.moveTo {e} (h : ImgsKept c d) : ImgsKept c (moveTo e d) := h.advance

protected theorem ImgsKept.engSettle {e} (h : ImgsKept c d) : ImgsKept c (engSettle e d) := h.showEngine.ite h.breakSettle.showEngine

protected theorem ImgsKept.engSettleRun {e t} (h : ImgsKept c d) : ImgsKept c (engSettleRun e t d) := h.moveTo.engSettle.ite h.engSettle

protected theorem ImgsKept.taskSwitch {t} (h : ImgsKept c d) : ImgsKept c (taskSwitch t d) := .onlyIf (.put h) .put

protected theorem ImgsKept.scanBegin {t s frz words image free} (h : ImgsKept c d) : ImgsKept c (scanBegin t s frz words image free d) := by
  unfold scanBegin
  split
  · exact h
  · exact h.taskMod.engSettle

protected theorem ImgsKept.scanStart {t s free} (h : ImgsKept c d) : ImgsKept c (scanStart t s free d) := by
  unfold scanStart
  split
  · exact h
  · exact (h.heldEnd.emptyBoxes.onlyIf .stick).mirror.scanBegin

protected theorem ImgsKept.scanResume {t s free} (h : ImgsKept c d) : ImgsKept c (scanResume t s free d) := h.heldEnd.taskMod.engSettle

protected theorem ImgsKept.scanPaid {t} (h : ImgsKept c d) : ImgsKept c (scanPaid t d) := h

protected theorem ImgsKept.taskStartWith {go t s} (h : ImgsKept c d) (hgo : ∀ {b e}, ImgsKept c e → ImgsKept c (go b e)) :
    ImgsKept c (taskStartWith go t s d) := by
  unfold taskStartWith
  extract_lets st x heldCount d1
  have h1 : ImgsKept c d1 := h.taskSwitch.ite h
  have h2 : ImgsKept c (heldCount d1) := h1.bumpSat
  clear_value st d1
  refine h.ite (.ite h.bumpSat (h.ite (.ite h.bumpSat ?_)))
  split
  · exact ((h1.scanResume.ite h2).ite h1.bumpSat.stick).ite (hgo h1)
  · exact (hgo h1.put).ite h2
  · exact h1.put.put.scanResume.ite h2
  · exact h1

protected theorem ImgsKept.taskStart {t s} (h : ImgsKept c d) : ImgsKept c (taskStart t s d) := h.taskStartWith .scanStart

protected theorem ImgsKept.outTo {kind dest v} (h : ImgsKept c d) : ImgsKept c (outTo kind dest v d) := h.txWrite.ite h.gpioDrive

protected theorem ImgsKept.postItem {p} (h : ImgsKept c d) : ImgsKept c (postItem p d) := by
  unfold postItem
  split
  · exact h.postAxis
  · exact h.postGroup
  · exact h.postHank

protected theorem ImgsKept.scanOutputs {t r} (h : ImgsKept c d) : ImgsKept c (scanOutputs t r d) :=
  (h.putStrands.forL (fun h => ((h.onlyIf .put).onlyIf .put).outTo)).forL .postItem

protected theorem ImgsKept.scanClose {e t} (h : ImgsKept c d) : ImgsKept c (scanClose e t d) := h.taskMod.shuEngMod

protected theorem ImgsKept.enterHold {t} (h : ImgsKept c d) : ImgsKept c (enterHold t d) := h.put.taskMod.heldMark.raise

protected theorem ImgsKept.scanEnd {t r outAt} (h : ImgsKept c d) : ImgsKept c (scanEnd t r outAt d) :=
  have h3 := (h.ite h.scanOutputs).bump.put.maxUp.put.scanClose.passBarrier.scanPaid.onlyIf .mirror
  have h4 := h3.enterHold.ite (h3.heldMark.ite h3)
  (h4.taskSwitch.ite h4).engSettle

protected theorem ImgsKept.taskStop {t code cause} (h : ImgsKept c d) : ImgsKept c (taskStop t code cause d) := by
  unfold taskStop
  split
  · exact h
  · exact ((h.onlyIf .refillBoxes).scanClose.taskMod.scanPaid.put.put.put.put.heldMark.forL (fun h => h.outTo.ite h)).put.raise.engSettle

protected theorem ImgsKept.watchdogExpiryAt {t} (h : ImgsKept c d) : ImgsKept c (watchdogExpiryAt t d) := (h.moveTo.ite h).taskStop.ite h

protected theorem ImgsKept.taskFaultClearAt {t} (h : ImgsKept c d) : ImgsKept c (taskFaultClearAt t d) := (h.put.ite h).clearField

protected theorem ImgsKept.taskHold {t bk} (h : ImgsKept c d) : ImgsKept c (taskHold t bk d) :=
  ((h.taskMod.ite h.enterHold).ite h).ite h.put.put.put.put.put.engSettle

protected theorem ImgsKept.taskResume {t} (h : ImgsKept c d) : ImgsKept c (taskResume t d) :=
  have h1 := h.put
  h1.put.put.ite (h1.taskMod.put.put.ite h1.taskMod)

protected theorem ImgsKept.taskSingle {t} (h : ImgsKept c d) : ImgsKept c (taskSingle t d) := h.put

protected theorem ImgsKept.shuHalt (h : ImgsKept c d) : ImgsKept c (shuHalt d) := .forL h .heldMark

protected theorem ImgsKept.shuUnhalt (h : ImgsKept c d) : ImgsKept c (shuUnhalt d) :=
  (h.forL (fun h1 => have h2 := h1.heldEnd.ite h1; h2.taskMod.ite h2)).forL fun h => h.shuEngMod.engSettle

protected theorem ImgsKept.layImage {bank m} (h : ImgsKept c d) : ImgsKept c (layImage bank m d) := h.forL fun h => h.forL .varSet

protected theorem ImgsKept.shuImage (h : ImgsKept c d) : ImgsKept c (shuImage d) := by
  unfold shuImage
  split
  · exact h
  · exact .forL (.put (.put (.put (.put (.put (.layImage h)))))) (fun h => h.put.put)

protected theorem ImgsKept.shuRun (h : ImgsKept c d) : ImgsKept c (shuRun d) := (h.forL (fun h => h.taskMod.put)).forL .bump

protected theorem ImgsKept.shuStage (h : ImgsKept c d) : ImgsKept c (shuStage d) := by
  unfold shuStage
  split
  · refine .put ?_
    refine h.layImage.forL fun h2 => ?_
    refine h2.forL fun h3 => ?_
    split
    · exact h3.varSet
    · exact h3
  · exact h

/-! Instructions of the cyclic program. -/

protected theorem ImgsKept.scanError {t cause} (h : ImgsKept c d) : ImgsKept c (scanError t cause d) := h.moveTo.taskStop

/-- An instruction that ends without an error keeps the images. -/
def ActKeeps (c : Dev) : Act → Prop
  | .done _ d _ => ImgsKept c d
  | .err _ => True

protected theorem ImgsKept.issue {t w f} (h : ImgsKept c d) (hf : ∀ {x e}, ImgsKept c e → ActKeeps c (f x e)) :
    ImgsKept c (issue t w f d) := by
  unfold issue
  extract_lets e d1
  have h1 : ImgsKept c d1 := h.engTake
  refine h.ite (h.ite ?_)
  have hact := hf (x := { taskX t d1 with pc := (taskX t d1).pc + 1 }) h1
  split <;> rename_i heq
  · rw [heq] at hact
    exact ImgsKept.engSettleRun (ImgsKept.spend (ImgsKept.taskMod hact))
  · exact h1.scanError

protected theorem ImgsKept.aluFlags {t q} (h : ImgsKept c d) : ImgsKept c (aluFlags t q d) := ((h.onlyIf .put).onlyIf .put).onlyIf .stick

protected theorem ImgsKept.storeAll {t ws x} (h : ImgsKept c d) : ImgsKept c (storeAll t ws x d).2 := by
  unfold storeAll
  induction ws generalizing x d with
  | nil => exact h
  | cons w ws ih => exact ih h.taskPut

protected theorem ImgsKept.endScan {t word legal} (h : ImgsKept c d) : ImgsKept c (endScan t word legal d) := by
  unfold endScan
  extract_lets e d1
  have h1 : ImgsKept c d1 := h.engTake
  refine h.ite (h.ite (h1.scanError.ite ?_))
  split
  · exact h
  · extract_lets d2 d3 outAt stamp lim
    have h3 : ImgsKept c d3 := h1.spend.spend
    exact h3.moveTo.taskStop.ite h3.moveTo.scanEnd

protected theorem ImgsKept.illegalOpcodeAt {t word} (h : ImgsKept c d) : ImgsKept c (illegalOpcodeAt t word d) :=
  h.ite (h.ite (h.ite h.engTake.scanError))

/-! Parts doffed and returned. -/

protected theorem ImgsKept.migrationBarrierAt (h : ImgsKept c d) : ImgsKept c (migrationBarrierAt d) :=
  h.forL fun h => h.ite (h.migDone.startWaiting.ite h.showMigrating)

protected theorem ImgsKept.undoStores {log} (h : ImgsKept c d) : ImgsKept c (undoStores log d) := h.foldl fun h => h

protected theorem ImgsKept.scanAgain {t} (h : ImgsKept c d) : ImgsKept c (scanAgain t d) := h.undoStores.taskMod

protected theorem ImgsKept.doffShu {e} (h : ImgsKept c d) : ImgsKept c (doffShu e d) := by
  unfold doffShu
  extract_lets p d1
  have h1 : ImgsKept c (takeReserve 2 d1).2 := h.retire.bumpSat.takeReserve
  refine h.ite ?_
  split <;> rename_i heq
  · have h2 := h1.of_eq heq
    refine .engSettle (.raise ?_)
    split
    · refine .ite (.replayDiverge ?_) ?_ <;> exact h2.setPhys.shuEngMod.scanAgain.put.raise
    · exact h2.setPhys
  · exact (h1.of_eq heq).shuEngMod.put.poolEmpty.unplaced

protected theorem ImgsKept.failKind {kind e} (h : ImgsKept c d) : ImgsKept c (failKind kind e d) := by
  unfold failKind
  split
  · exact h.doffCore
  · exact h.doffPly.engsKick
  · exact h.doffShu

protected theorem ImgsKept.testDoff {kind e} (h : ImgsKept c d) : ImgsKept c (testDoff kind e d) := h.plannedDoff.ite h.failKind

protected theorem ImgsKept.spareFails {kind p} (h : ImgsKept c d) : ImgsKept c (spareFails kind p d) := by
  unfold spareFails
  extract_lets free x d1
  have h1 : ImgsKept c d1 := .retire h
  exact h1.put.poolEmpty.ite h1

protected theorem ImgsKept.spareReturns {kind p} (h : ImgsKept c d) : ImgsKept c (spareReturns kind p d) := .ite (.startWaiting (.put h)) h

protected theorem ImgsKept.bistSliceAt {kind p passed} (h : ImgsKept c d) : ImgsKept c (bistSliceAt kind p passed d) := by
  unfold bistSliceAt
  extract_lets d1
  have h1 : ImgsKept c d1 := h.put.raise
  refine h.ite (h.spareReturns.ite ?_)
  split
  · exact h1.ite h1.testDoff
  · exact h1.spareFails

protected theorem ImgsKept.ageCheckAt {dom margin worst slower} (h : ImgsKept c d) : ImgsKept c (ageCheckAt dom margin worst slower d) := by
  unfold ageCheckAt
  extract_lets d1 d2
  have h2 : ImgsKept c d2 := h.put.put.put.raise.ite h.put.put
  refine h.ite (h2.ite ?_)
  split
  · exact h2.ite h2.plannedDoff
  · exact h2

protected theorem ImgsKept.showRows (h : ImgsKept c d) : ImgsKept c (showRows d) := h.put

protected theorem ImgsKept.sramEccCorrectableAt {ram row} (h : ImgsKept c d) : ImgsKept c (sramEccCorrectableAt ram row d) := by
  unfold sramEccCorrectableAt
  dsimp only
  split
  · split
    · exact .ite h h
    · exact h
  · exact .ite h (.ite (.raise h) (.showRows h))

protected theorem ImgsKept.sramRowCopyCompleteAt (h : ImgsKept c d) : ImgsKept c (sramRowCopyCompleteAt d) := by
  unfold sramRowCopyCompleteAt
  split
  · exact h
  · exact .raise (.put h)

protected theorem ImgsKept.discardWord {region} (h : ImgsKept c d) : ImgsKept c (discardWord region d) := by
  unfold discardWord
  split
  · split
    · exact h
    · exact h
  · exact h
  · split
    · exact h
    · exact .logRegs h
  · exact h

protected theorem ImgsKept.sramEccUncorrectableAt {ram region} (h : ImgsKept c d) : ImgsKept c (sramEccUncorrectableAt ram region d) :=
  h.raise.ite (h.raise.ite (h.discardWord.raise.ite h))

protected theorem ImgsKept.committedDoff {kind e} (h : ImgsKept c d) : ImgsKept c (committedDoff kind e d) := by
  unfold committedDoff
  split
  · exact .plannedDoff h
  · exact h

/-! Hanks. -/

protected theorem ImgsKept.hankMod {h' f} (h : ImgsKept c d) : ImgsKept c (hankMod h' f d) := h

protected theorem ImgsKept.hankShow {h'} (h : ImgsKept c d) : ImgsKept c (hankShow h' d) := h.putB.putB.putB.put.put.putStrandsS

protected theorem ImgsKept.disarmEnds {h' r} (h : ImgsKept c d) : ImgsKept c (disarmEnds h' r d) := (h.forL .disarmPick).put

protected theorem ImgsKept.armEnds {h' r s t} (h : ImgsKept c d) : ImgsKept c (armEnds h' r s t d) :=
  (h.disarmEnds.onlyIf (fun h => h.retargetPick.put)).onlyIf .retargetPick

protected theorem ImgsKept.stepOutputs {h' r mask value} (h : ImgsKept c d) : ImgsKept c (stepOutputs h' r mask value d) :=
  h.putStrands.forL fun h => h.ite h.gpioDrive

protected theorem ImgsKept.stepCommand {bs} (h : ImgsKept c d) : ImgsKept c (stepCommand bs d) := .postAxis h

protected theorem ImgsKept.stepAssign {h' r s} (h : ImgsKept c d) : ImgsKept c (stepAssign h' r s d) :=
  ((h.forL .plySet).stepOutputs.forL .hvarPost).forL .stepCommand

protected theorem ImgsKept.boundary {h' n t} (h : ImgsKept c d) : ImgsKept c (boundary h' n t d) := by
  unfold boundary
  split
  · exact h.stepAssign.armEnds.hankMod.put.bump
  · exact h

protected theorem ImgsKept.hankIdle {n aborted} (h : ImgsKept c d) : ImgsKept c (hankIdle n aborted d) := by
  unfold hankIdle
  extract_lets x d1
  have h1 : ImgsKept c d1 := by
    unfold d1
    split
    · exact h.disarmEnds
    · exact h
  refine .raise (.bumpSat (.put (.put (.put (.hankMod ?_)))))
  exact h1

protected theorem ImgsKept.markHeld {h' cause asked} (h : ImgsKept c d) : ImgsKept c (markHeld h' cause asked d) := h.put.put.onlyIf .bumpSat

protected theorem ImgsKept.hankNeed {h' need} (h : ImgsKept c d) : ImgsKept c (hankNeed h' need d) := h.hankMod

protected theorem ImgsKept.hankApply {h' k t} (h : ImgsKept c d) : ImgsKept c (hankApply h' k t d) := by
  unfold hankApply
  dsimp only
  split
  · exact (h.ite h.hankMod).boundary.put.put.hankNeed.hankShow.onlyIf .raiseWith
  · exact (h.ite h.hankMod).hankMod.boundary.put.hankNeed.markHeld.hankShow.raise
  · exact h.boundary.markHeld.hankIdle.hankShow
  · exact (h.ite h.hankMod).hankIdle.hankShow
  · exact (h.onlyIf .bumpSat).hankIdle.hankShow
  · exact h.put.put
  · exact h.hankMod.put.put.hankNeed.hankShow
  · exact h.hankMod.put.hankNeed.hankShow
  · exact h.bumpSat
  · exact h

protected theorem ImgsKept.hankDo {h' k t wakes} (h : ImgsKept c d) : ImgsKept c (hankDo h' k t wakes d) := by
  unfold hankDo
  dsimp only
  split
  · exact h.mirror.hankApply.hankMod.wake.ite h.mirror.hankApply.hankMod
  · exact h.mirror.hankApply.hankMod

protected theorem ImgsKept.takeReq {host h' q result} (h : ImgsKept c d) : ImgsKept c (takeReq host h' q result d) := h.hankMod.put.put.putB.put

protected theorem ImgsKept.refuseReq {host h' q} (h : ImgsKept c d) : ImgsKept c (refuseReq host h' q d) := h.takeReq.put.raise

protected theorem ImgsKept.judgeReq {host h' t} (h : ImgsKept c d) : ImgsKept c (judgeReq host h' t d).2 := by
  unfold judgeReq
  split
  · exact h
  · split
    · exact h.refuseReq
    · exact h.takeReq.hankDo

protected theorem ImgsKept.lateStage {h' hold t beat} (h : ImgsKept c d) : ImgsKept c (lateStage h' hold t beat d) := h.put.raise.hankDo

protected theorem ImgsKept.commitSet {h' hold t cause beat g} (h : ImgsKept c d) : ImgsKept c (commitSet h' hold t cause beat g d) :=
  h.hankDo.ite h.hankDo

protected theorem ImgsKept.branchEnd {h' hold t s beat} (h : ImgsKept c d) : ImgsKept c (branchEnd h' hold t s beat d) := by
  unfold branchEnd
  dsimp only
  split
  · exact h.put.raise.commitSet
  · exact h.put.raise.lateStage

protected theorem ImgsKept.normalEnd {h' hold t beat} (h : ImgsKept c d) : ImgsKept c (normalEnd h' hold t beat d) := by
  unfold normalEnd
  split
  · exact h.commitSet
  · exact h.lateStage

protected theorem ImgsKept.endsAct {h' picks t r q beat} (h : ImgsKept c d) : ImgsKept c (endsAct h' picks t r q beat d).2 :=
  h.ite_snd (h.hankMod.put.ite_snd (h.branchEnd.ite_snd h.normalEnd))

protected theorem ImgsKept.holdActs {n cause t q} (h : ImgsKept c d) : ImgsKept c (holdActs n cause t q d) := by
  unfold holdActs
  extract_lets d1 d2
  have h1 : ImgsKept c d1 := by
    unfold d1
    split
    · exact h.takeReq.ite h
    · exact h
  have h2 : ImgsKept c d2 := h1.ite h1
  split <;> exact h2.hankDo

protected theorem ImgsKept.abortActs {h' t b q} (h : ImgsKept c d) : ImgsKept c (abortActs h' t b q d) := by
  unfold abortActs
  dsimp only
  split <;> exact h.takeReq.hankDo

protected theorem ImgsKept.requestsAct {h' t} (h : ImgsKept c d) : ImgsKept c (requestsAct h' t d) := by
  unfold requestsAct
  dsimp only
  split
  · exact h.hankDo
  · exact h.judgeReq.ite h.judgeReq.judgeReq

protected theorem ImgsKept.hankStep {n pick t} (h : ImgsKept c d) : ImgsKept c (hankStep n pick t d) := by
  unfold hankStep
  split
  next => exact h
  next r _ =>
    refine h.ite ?_
    extract_lets picks beat q busy
    split
    · exact h.holdActs
    · exact h.abortActs
    · have hd {x : Bool × Dev} (hx : ImgsKept c x.2) :
          ImgsKept c (match x with | (acted, d) => if acted || !beat then d else requestsAct n t d) := hx.ite hx.requestsAct
      apply hd
      split
      · exact h.endsAct
      · exact h

protected theorem ImgsKept.beatNote {h' pick t} (h : ImgsKept c d) : ImgsKept c (beatNote h' pick t d) := by
  unfold beatNote
  split
  · exact h
  · exact h.hankMod.ite h

protected theorem ImgsKept.stageSet {h' k g} (h : ImgsKept c d) : ImgsKept c (stageSet h' k g d) := h.hankMod.hankShow

protected theorem ImgsKept.stageHank {h' began} (h : ImgsKept c d) : ImgsKept c (stageHank h' began d) := by
  unfold stageHank
  dsimp only
  split
  · exact h
  · exact h.ite (h.hankMod.mirror.forL .stageSet)

protected theorem ImgsKept.hankImage (h : ImgsKept c d) : ImgsKept c (hankImage d) := .put h

protected theorem ImgsKept.hankRun (h : ImgsKept c d) : ImgsKept c (hankRun d) := h.forL fun h => h.stepOutputs.hankShow

/-! Frames to the ports. -/

protected theorem ImgsKept.ethQueue {p t} (h : ImgsKept c d) : ImgsKept c (ethQueue p t d) := by
  unfold ethQueue
  extract_lets l x d1
  have h1 : ImgsKept c d1 := h
  exact h.bumpSat.ite (h1.ite h1.bump)

/-! The store's dies. -/

protected theorem ImgsKept.storeMod {f} (h : ImgsKept c d) : ImgsKept c (storeMod f d) := h

protected theorem ImgsKept.blkMod {k f} (h : ImgsKept c d) : ImgsKept c (blkMod k f d) := h.storeMod

protected theorem ImgsKept.dieMod {n f} (h : ImgsKept c d) : ImgsKept c (dieMod n f d) := h.storeMod

protected theorem ImgsKept.showOps (h : ImgsKept c d) : ImgsKept c (showOps d) := h.put.maxUp

protected theorem ImgsKept.dieNext {n} (h : ImgsKept c d) : ImgsKept c (dieNext n d) := by
  unfold dieNext
  split
  · exact h
  · split
    · exact h
    · exact h.dieMod.putB.send

protected theorem ImgsKept.diesNext (h : ImgsKept c d) : ImgsKept c (diesNext d) := h.forL .dieNext

protected theorem ImgsKept.admitOps {n} (h : ImgsKept c d) : ImgsKept c (admitOps n d) := by
  induction n generalizing d with
  | zero => exact h
  | succ n ih =>
    unfold admitOps
    split
    · exact h
    · exact ih h.storeMod

protected theorem ImgsKept.storeAsk {o} (h : ImgsKept c d) : ImgsKept c (storeAsk o d) := h.storeMod.showOps.dieNext.ite h.storeMod.stick

protected theorem ImgsKept.opEnds {n} (h : ImgsKept c d) : ImgsKept c (opEnds n d) := by
  unfold opEnds
  dsimp only
  split
  · exact h
  · exact h.dieMod.put.storeMod.admitOps.showOps.diesNext

protected theorem ImgsKept.freshBlock {n} (h : ImgsKept c d) : ImgsKept c (freshBlock n d).2 := h.oneOf

protected theorem ImgsKept.pageBlock {skein n} (h : ImgsKept c d) : ImgsKept c (pageBlock skein n d).2 := by
  unfold pageBlock
  split
  · exact h
  · exact h.freshBlock

protected theorem ImgsKept.placePage {skein n} (h : ImgsKept c d) : ImgsKept c (placePage skein n d).2 := by
  unfold placePage
  split <;> rename_i heq
  · exact h.pageBlock.of_eq heq
  · exact ((h.pageBlock.of_eq heq).storeMod.ite (h.pageBlock.of_eq heq)).blkMod

protected theorem ImgsKept.reclaim {n} (h : ImgsKept c d) : ImgsKept c (reclaim n d) := by
  unfold reclaim
  split
  · exact h
  · exact .storeAsk (.put (.blkMod h))

protected theorem ImgsKept.noteWrite {n} (h : ImgsKept c d) : ImgsKept c (noteWrite n d) := h.storeMod

protected theorem ImgsKept.programOn {n j} (h : ImgsKept c d) : ImgsKept c (programOn n j d) := by
  unfold programOn
  split
  · rename_i heq
    exact ((h.placePage.of_eq heq).storeMod.ite (h.placePage.of_eq heq)).storeAsk
  · rename_i heq
    exact h.placePage.of_eq heq

protected theorem ImgsKept.nextDie {skein} (h : ImgsKept c d) : ImgsKept c (nextDie skein d).2 := h.storeMod

protected theorem ImgsKept.makeRoom {n} (h : ImgsKept c d) : ImgsKept c (makeRoom n d) := h.reclaim.ite h

protected theorem ImgsKept.programStriped {parity j} (h : ImgsKept c d) : ImgsKept c (programStriped parity j d) :=
  have h1 := h.nextDie.makeRoom.programOn
  (h1.storeMod.nextDie.makeRoom.programOn.ite h1.storeMod).ite h1

protected theorem ImgsKept.programMirrored {j} (h : ImgsKept c d) : ImgsKept c (programMirrored j d) :=
  h.nextDie.makeRoom.programOn.makeRoom.programOn

protected theorem ImgsKept.histProgram {num page} (h : ImgsKept c d) : ImgsKept c (histProgram num page d) := h.programStriped

protected theorem ImgsKept.histQueue {page} (h : ImgsKept c d) : ImgsKept c (histQueue page d) := .histProgram (.noteWrite (.put h))

protected theorem ImgsKept.releaseBlocks {skein} (h : ImgsKept c d) : ImgsKept c (releaseBlocks skein d) := h.forL fun h => h.blkMod.storeAsk

protected theorem ImgsKept.dropPages {skein old} (h : ImgsKept c d) : ImgsKept c (dropPages skein old d) := h.storeMod.releaseBlocks

protected theorem ImgsKept.ringQueue {p} (h : ImgsKept c d) : ImgsKept c (ringQueue p d) :=
  have h1 := h.storeMod
  have h2 := h1.dropPages.ite (h1.dropPages.ite h1)
  have h3 := h2.ite h2.noteWrite
  h3.programStriped.ite h3.programMirrored

protected theorem ImgsKept.queueDue (h : ImgsKept c d) : ImgsKept c (queueDue d) := (h.storeMod.forL .ringQueue).ite h

protected theorem ImgsKept.directoryWrite {n} (h : ImgsKept c d) : ImgsKept c (directoryWrite n d) := h.handPages

/-! History, streams and traces. -/

protected theorem ImgsKept.skAdvance {s n} (h : ImgsKept c d) : ImgsKept c (skAdvance s n d) := h.put.put

protected theorem ImgsKept.histLose {stamp} (h : ImgsKept c d) : ImgsKept c (histLose stamp d) := .stick (.addSat h)

protected theorem ImgsKept.histPlace {bs stamp} (h : ImgsKept c d) : ImgsKept c (histPlace bs stamp d) := by
  unfold histPlace
  extract_lets r d1
  have h1 : ImgsKept c d1 := .histQueue h
  exact .ite h (.ite h1 h1.histLose)

protected theorem ImgsKept.histAdd {bs stamp} (h : ImgsKept c d) : ImgsKept c (histAdd bs stamp d) :=
  h.histPlace.ite (h.histLose.ite (.histPlace (.histPlace h)))

protected theorem ImgsKept.strMod {n f} (h : ImgsKept c d) : ImgsKept c (strMod n f d) := h

protected theorem ImgsKept.strQueue {n bs} (h : ImgsKept c d) : ImgsKept c (strQueue n bs d) := by
  unfold strQueue
  split
  · exact h
  · exact h.ethQueue

protected theorem ImgsKept.strState {n st} (h : ImgsKept c d) : ImgsKept c (strState n st d) := h.put.putB.put

protected theorem ImgsKept.strOverflow {n more} (h : ImgsKept c d) : ImgsKept c (strOverflow n more d) :=
  h.strMod.strQueue.bumpSat.raise.strState.stick

protected theorem ImgsKept.strClose {n ends more} (h : ImgsKept c d) : ImgsKept c (strClose n ends more d) :=
  h.ite (h.strOverflow.ite h.strMod.strQueue)

protected theorem ImgsKept.strAdd {n t bs} (h : ImgsKept c d) : ImgsKept c (strAdd n t bs d) :=
  have h1 := h.strClose.ite h
  h.ite (h1.ite h1.strMod)

protected theorem ImgsKept.strMark {n t source aux} (h : ImgsKept c d) : ImgsKept c (strMark n t source aux d) := h.ite h.strAdd.bumpSat

protected theorem ImgsKept.strArm {n dest} (h : ImgsKept c d) : ImgsKept c (strArm n dest d) := .strState (.bump h)

protected theorem ImgsKept.strEnd {n} (h : ImgsKept c d) : ImgsKept c (strEnd n d) := h.ite h.strAdd.strClose

protected theorem ImgsKept.streamsOff (h : ImgsKept c d) : ImgsKept c (streamsOff d) := h.forL fun h => h.strState.strMod

protected theorem ImgsKept.strTriggers {r i t} (h : ImgsKept c d) : ImgsKept c (strTriggers r i t d) :=
  have h1 := h.strMod
  have h2 := h1.forL .strMark
  h1.ite ((h2.forL .bumpSat).ite ((h2.strMod.put.put.addSat.onlyIf .raise).forL .trcTrigger))

protected theorem ImgsKept.setToHist {m set t bs} (h : ImgsKept c d) : ImgsKept c (setToHist m set t bs d) := by
  unfold setToHist
  split
  · exact h
  · refine h.forL fun {i e} h => ?_
    have h1 {tab} : ImgsKept c { e with recd := { e.recd with histDecim := tab } } := h
    exact h1.histAdd.ite h1

protected theorem ImgsKept.setToStreams {m set t bs} (h : ImgsKept c d) : ImgsKept c (setToStreams m set t bs d) := by
  refine h.forL fun {r e} h => h.ite (h.forL fun {i f} h => ?_)
  have h1 {tab} : ImgsKept c { f with recd := { f.recd with strDecim := tab } } := h
  exact h1.strAdd.strTriggers.ite h1

protected theorem ImgsKept.setTake {m t q} (h : ImgsKept c d) : ImgsKept c (setTake m t q d) := .setToStreams (.setToHist h)

theorem ImgsKept.of_mem_firingSets {pick t e x} (h : ImgsKept c d) (hx : x ∈ firingSets pick t e) : ImgsKept c (x.2.2 d) := by
  unfold firingSets at hx
  cases hm : recImg t e with
  | none => simp [hm] at hx
  | some m =>
    rw [hm] at hx
    obtain ⟨q, -, rfl⟩ := List.mem_map.1 hx
    exact h.setTake

theorem ImgsKept.of_mem_edgeSets {pin t level e x} (h : ImgsKept c d) (hx : x ∈ edgeSets pin t level e) : ImgsKept c (x.2.2 d) := by
  unfold edgeSets at hx
  cases hm : recImg (now e) e with
  | none => simp [hm] at hx
  | some m =>
    rw [hm] at hx
    obtain ⟨q, -, rfl⟩ := List.mem_map.1 hx
    exact h.setToHist.setToStreams

/-- The sets of an edge are taken one after the other, each by a function that a firing or an edge put into the list. -/
protected theorem ImgsKept.edgeTakes {due} (h : ImgsKept c d) : ImgsKept c (edgeTakes due d) := by
  unfold edgeTakes
  extract_lets r l sorted d1
  have hl {x e} (h : ImgsKept c e) (hx : x ∈ l) : ImgsKept c (x.2.2 e) := by
    rcases List.mem_append.1 hx with hx | hx <;> obtain ⟨p, -, hp⟩ := List.mem_flatMap.1 hx
    · exact h.of_mem_firingSets hp
    · exact h.of_mem_edgeSets hp
  have h1 : ImgsKept c d1 := ImgsKept.forL_mem h fun hx h => hl h (List.mem_mergeSort.1 hx)
  exact h.ite (h1.forL .strMark)

protected theorem ImgsKept.setsTake {pick t} (h : ImgsKept c d) : ImgsKept c (setsTake pick t d) := .ite h h

protected theorem ImgsKept.setsEdge {pin t level} (h : ImgsKept c d) : ImgsKept c (setsEdge pin t level d) := .ite h h

protected theorem ImgsKept.pickMark {op t} (h : ImgsKept c d) : ImgsKept c (pickMark op t d) := .ite h h

protected theorem ImgsKept.eventFlushTimerAt (h : ImgsKept c d) : ImgsKept c (eventFlushTimerAt d) := h.flushEvents.ite h

protected theorem ImgsKept.traceCopyCompleteAt {b} (h : ImgsKept c d) : ImgsKept c (traceCopyCompleteAt b d) := by
  unfold traceCopyCompleteAt
  split
  · exact h
  · extract_lets cap bs y d1 x pages d2
    have h1 : ImgsKept c d1 := h
    have h2 : ImgsKept c d2 := h1.stick.ite (.put (.skAdvance (.handPages h1)))
    exact h.ite (h2.trcFill.ite h2)

protected theorem ImgsKept.holdupCheck {dies} (h : ImgsKept c d) : ImgsKept c (holdupCheck dies d) := h.ite (h.put.onlyIf .stick)

protected theorem ImgsKept.showHistRun (h : ImgsKept c d) : ImgsKept c (showHistRun d) := h.putB

protected theorem ImgsKept.startNumbering (h : ImgsKept c d) : ImgsKept c (startNumbering d) := h.ite (.put (.logRegs h))

protected theorem ImgsKept.recRun (h : ImgsKept c d) : ImgsKept c (recRun d) := .onlyIf (.showHistRun (.streamsOff h)) .startNumbering

/-! The service. -/

protected theorem ImgsKept.svcSend {h' bs} (h : ImgsKept c d) : ImgsKept c (svcSend h' bs d) := h.send

protected theorem ImgsKept.sessMod {k f} (h : ImgsKept c d) : ImgsKept c (sessMod k f d) := h

protected theorem ImgsKept.endSession {k} (h : ImgsKept c d) : ImgsKept c (endSession k d) := .put (.wr (.wr h))

protected theorem ImgsKept.grant {h' level keep k t} (h : ImgsKept c d) : ImgsKept c (grant h' level keep k t d) :=
  .svcSend (.put (.put (.put (.put (.put (.put (.put (.sessMod h))))))))

protected theorem ImgsKept.serviceOpenAt {h' level keep} (h : ImgsKept c d) : ImgsKept c (serviceOpenAt h' level keep d) := by
  unfold serviceOpenAt
  dsimp only
  split
  · exact h
  · split
    · exact h.svcSend
    · split
      · exact h.svcSend
      · split
        · exact h.raise.svcSend
        · split
          · exact h.grant
          · exact h.svcSend

protected theorem ImgsKept.keepaliveExpiryAt {k} (h : ImgsKept c d) : ImgsKept c (keepaliveExpiryAt k d) := h.endSession.raise.ite h

protected theorem ImgsKept.svcRefused {st} (h : ImgsKept c d) : ImgsKept c (svcRefused st d).dev := h

protected theorem ImgsKept.okNone (h : ImgsKept c d) : ImgsKept c (okNone d).dev := h

protected theorem ImgsKept.svcAccepted (h : ImgsKept c d) : ImgsKept c (svcAccepted d).dev := h

protected theorem ImgsKept.svcExec {k h' op level kind f} (h : ImgsKept c d) (hf : ∀ {e}, ImgsKept c e → ImgsKept c (f e).dev) :
    ImgsKept c (svcExec k h' op level kind f d) :=
  (h.svcRefused.ite_dev (h.svcRefused.ite_dev (hf h))).sessMod.svcSend

protected theorem ImgsKept.svcTake {i h' op level kind f} (h : ImgsKept c d) (hf : ∀ {e}, ImgsKept c e → ImgsKept c (f e).dev) :
    ImgsKept c (svcTake i h' op level kind f d) := by
  unfold svcTake
  split
  · exact h
  · split
    · exact h.svcSend
    · exact
        have h1 := h.sessMod
        h.svcSend.ite (h1.svcSend.ite ((h1.ite h1.bumpSat).ite (h1.bumpSat.ite (h1.sessMod.ite (h1.svcExec hf)))))

protected theorem ImgsKept.doRead {addr len} (h : ImgsKept c d) : ImgsKept c (doRead addr len d).dev :=
  h.svcRefused.ite_dev (h.svcRefused.ite_dev h)

protected theorem ImgsKept.doReadStrands {ids} (h : ImgsKept c d) : ImgsKept c (doReadStrands ids d).dev := h.svcRefused.ite_dev h

protected theorem ImgsKept.doEventRead {first limit mx sevMin} (h : ImgsKept c d) : ImgsKept c (doEventRead first limit mx sevMin d).dev :=
  h.svcRefused.ite_dev h

protected theorem ImgsKept.histReads {off len} (h : ImgsKept c d) : ImgsKept c (histReads off len d) := by
  unfold histReads
  dsimp only
  refine h.forL fun h1 => ?_
  split
  · exact h1.storeAsk
  · exact h1

protected theorem ImgsKept.doSnapRead {capture off len} (h : ImgsKept c d) : ImgsKept c (doSnapRead capture off len d).dev := by
  unfold doSnapRead
  split
  · exact h.svcRefused
  · split
    · split
      · exact h.histReads
      · exact h.svcRefused
    · split
      · exact h.svcRefused.ite_dev h
      · exact h.svcRefused

protected theorem ImgsKept.doTraceRead {b first rows} (h : ImgsKept c d) : ImgsKept c (doTraceRead b first rows d).dev := by
  unfold doTraceRead
  split
  · exact h.svcRefused
  · exact h.svcRefused.ite_dev h

protected theorem ImgsKept.hostItem {op index body} (h : ImgsKept c d) : ImgsKept c (hostItem op index body d) := h.mirror

protected theorem ImgsKept.doWriteHvar {vid value} (h : ImgsKept c d) : ImgsKept c (doWriteHvar vid value d).dev :=
  h.svcRefused.ite_dev (h.svcRefused.ite_dev (h.svcRefused.ite_dev h.hostItem.hvarPost.svcAccepted))

protected theorem ImgsKept.clearReg {r i mask} (h : ImgsKept c d) : ImgsKept c (clearReg r i mask d) :=
  ((h.wr.settleFields.onlyIf (fun h => h.hostItem.plyClearStopped)).onlyIf (fun h => h.hostItem.taskFaultClearAt)).onlyIf .fbFaultyClearAt

protected theorem ImgsKept.doClear {addr mask} (h : ImgsKept c d) : ImgsKept c (doClear addr mask d).dev := by
  unfold doClear
  split
  · exact h.svcRefused
  · split
    · exact h.svcRefused
    · split
      · exact h.svcRefused.ite_dev h.clearReg.svcAccepted
      · exact h.svcRefused

protected theorem ImgsKept.doHankRequest {h' q} (h : ImgsKept c d) : ImgsKept c (doHankRequest h' q d).dev :=
  h.svcRefused.ite_dev (h.svcRefused.ite_dev (h.svcRefused.ite_dev (h.svcRefused.ite_dev h.hostItem.postHank.svcAccepted)))

protected theorem ImgsKept.doStreamArm {n addr} (h : ImgsKept c d) : ImgsKept c (doStreamArm n addr d).dev :=
  h.svcRefused.ite_dev (h.svcRefused.ite_dev ((h.strEnd.strArm.ite h.strArm)))

protected theorem ImgsKept.doStreamDisarm {n} (h : ImgsKept c d) : ImgsKept c (doStreamDisarm n d).dev := by
  unfold doStreamDisarm
  split
  · exact h.svcRefused
  · split
    · exact h.okNone
    · exact h.strEnd.strState.okNone
    · exact h.strState.okNone

protected theorem ImgsKept.doTraceArm {b} (h : ImgsKept c d) : ImgsKept c (doTraceArm b d).dev := by
  unfold doTraceArm
  split
  · exact h.trcArm.okNone
  · exact h.svcRefused

protected theorem ImgsKept.doTraceTrigger {b} (h : ImgsKept c d) : ImgsKept c (doTraceTrigger b d).dev := by
  unfold doTraceTrigger
  split
  · exact h.trcTrigger.svcAccepted
  · exact h.svcRefused

protected theorem ImgsKept.shuttleCtrl {action tasks bk} (h : ImgsKept c d) : ImgsKept c (shuttleCtrl action tasks bk d) := by
  unfold shuttleCtrl
  refine h.forL fun h1 => ?_
  split
  · exact h1.taskHold
  · exact h1.taskSingle
  · exact h1.taskResume

protected theorem ImgsKept.doShuttle {action tasks bk} (h : ImgsKept c d) : ImgsKept c (doShuttle action tasks bk d).dev :=
  h.svcRefused.ite_dev (h.svcRefused.ite_dev (h.svcRefused.ite_dev h.hostItem.shuttleCtrl.svcAccepted))

protected theorem ImgsKept.showFuses {fuses pgm} (h : ImgsKept c d) : ImgsKept c (showFuses fuses pgm d) :=
  h.wr.wr.wr.wr.put.put.putB.putB.putB.putB.put

protected theorem ImgsKept.doFuse {fuses field value} (h : ImgsKept c d) : ImgsKept c (doFuse fuses field value d).dev := by
  unfold doFuse
  split
  · exact h.svcRefused
  · exact h.svcRefused.ite_dev h.showFuses

/-! Commits of threads. -/

protected theorem ImgsKept.commitEffect {t began e} (h : ImgsKept c d) : ImgsKept c (commitEffect t began e d) := by
  unfold commitEffect
  split
  · exact h.hostItem.hvarPost.ite h
  · exact h.hostItem.postHank.ite h
  · exact h.mirror
  · exact h.retargetPick.ite h
  · exact h.wake.ite h
  · exact h.committedDoff.ite h
  · split
    · exact h.stageHank
    · exact h

protected theorem ImgsKept.enterWait {t w} (h : ImgsKept c d) : ImgsKept c (enterWait t w d) := by
  unfold enterWait
  dsimp only
  split
  · exact h.put.setThr.thrReady
  · split
    · exact h.setThr
    · exact h.setThr.ite h.thrMod.setThr

protected theorem ImgsKept.overrunSession {t} (h : ImgsKept c d) : ImgsKept c (overrunSession t d) := by
  unfold overrunSession
  split
  · exact h
  · exact h.svcSend.endSession

protected theorem ImgsKept.maxRunExpiryAt {c'} (h : ImgsKept c d) : ImgsKept c (maxRunExpiryAt c' d) := by
  unfold maxRunExpiryAt
  split
  · exact h
  · exact
      have h1 := h.put.abandon
      h.ite (h1.raise.ite (h1.raise.ite h1.overrunSession))

protected theorem ImgsKept.waitCommitAt {c' effects w} (h : ImgsKept c d) : ImgsKept c (waitCommitAt c' effects w d) := by
  unfold waitCommitAt
  split
  · exact h
  · exact
      have h3 := h.leaveCores.noteTime.forL .commitEffect
      h.ite (h.maxRunExpiryAt.ite ((h3.safetyCommit.ite h3).thrMod.bump.enterWait.settleCores))

/-! The loader. -/

protected theorem ImgsKept.rejectRaise {e copy} (h : ImgsKept c d) : ImgsKept c (Reject.raise e copy d) := h.raise.put

protected theorem ImgsKept.tryCopies {fuses id changed cs} (h : ImgsKept c d) : ImgsKept c (tryCopies fuses id changed cs d).1 := by
  induction cs generalizing d with
  | nil => exact h
  | cons a cs ih =>
    unfold tryCopies
    split
    · exact h.put
    · exact ih h.rejectRaise

protected theorem ImgsKept.chooseCopy {fuses id changed} (h : ImgsKept c d) : ImgsKept c (chooseCopy fuses id changed d).1 := by
  unfold chooseCopy
  extract_lets order d1
  have h1 : ImgsKept c d1 := h.forL fun h => h.ite h.raise
  have h2 : ImgsKept c (tryCopies fuses id changed order d1).1 := h1.tryCopies
  clear_value order
  cases order with
  | nil => exact h2
  | cons => exact h2.putB

/-! Samples. -/

protected theorem ImgsKept.judgePick {m pk q p} (h : ImgsKept c d) : ImgsKept c (judgePick m pk q p d) := by
  unfold judgePick
  extract_lets x passed start d1 y beyond late
  have h1 : ImgsKept c d1 := h
  have h2 {t} : ImgsKept c { d1 with pick := t } := h1
  refine h1.ite (h2.put.ite ?_)
  split
  · exact h2.put.ite h1.predictPick
  · exact h1.predictPick.ite h2.put

protected theorem ImgsKept.measState {m r rate} (h : ImgsKept c d) : ImgsKept c (measState m r rate d) := h.put.clearFault.onlyIf .stick

protected theorem ImgsKept.measTake {m r t p} (h : ImgsKept c d) : ImgsKept c (measTake m r t p d) := by
  unfold measTake
  dsimp only
  split
  · exact h
  · split
    · exact h
    · split
      · exact .put (.put (.putS (.put h)))
      · exact .forL (.put (.measState (.putS (.putS (.put h))))) .judgePick

protected theorem ImgsKept.zeroCross {m r rising t} (h : ImgsKept c d) : ImgsKept c (zeroCross m r rising t d) := h.measTake.ite (.measTake h)

protected theorem ImgsKept.measPinEdge {pin level stamp r} (h : ImgsKept c d) : ImgsKept c (measPinEdge pin level stamp r d) := h.zeroCross.ite h

protected theorem ImgsKept.measAdc {id t v r} (h : ImgsKept c d) : ImgsKept c (measAdc id t v r d) := by
  unfold measAdc
  extract_lets m x d1
  have h1 : ImgsKept c d1 := h
  refine h.ite ?_
  split
  · exact h1
  · exact h1.ite h1.zeroCross

protected theorem ImgsKept.measureSamplePeriodAt {m} (h : ImgsKept c d) : ImgsKept c (measureSamplePeriodAt m d) := by
  unfold measureSamplePeriodAt
  split
  · extract_lets x d1 k
    have h1 : ImgsKept c d1 := h
    split
    · exact h1.measTake
    · exact h1
  · exact h

protected theorem ImgsKept.measureLostTimeoutAt {m} (h : ImgsKept c d) : ImgsKept c (measureLostTimeoutAt m d) := by
  unfold measureLostTimeoutAt
  split
  · exact h.measLost.ite h
  · exact h

protected theorem ImgsKept.measDelivery {ids stamp r} (h : ImgsKept c d) : ImgsKept c (measDelivery ids stamp r d) := by
  unfold measDelivery
  split
  · exact h.measTake.ite h
  · exact h

protected theorem ImgsKept.ssiReadCompleteAt {n bs} (h : ImgsKept c d) : ImgsKept c (ssiReadCompleteAt n bs d) := by
  unfold ssiReadCompleteAt
  split
  · exact ((h.ssiFinish.forL (fun h => h.measTake.ite h)).ite h.ssiFinish).ite h
  · exact h

protected theorem ImgsKept.measStart (h : ImgsKept c d) : ImgsKept c (measStart d) := h.forL (fun h => .put (.put (.put h)))

/-! Loop ports and HART. -/

protected theorem ImgsKept.loopMod {n f} (h : ImgsKept c d) : ImgsKept c (loopMod n f d) := h

protected theorem ImgsKept.setLoop {n st} (h : ImgsKept c d) : ImgsKept c (setLoop n st d) := h.put.putStrands

protected theorem ImgsKept.lpConversionAt {n v} (h : ImgsKept c d) : ImgsKept c (lpConversionAt n v d) := by
  unfold lpConversionAt
  split
  · exact h
  · exact h.ite (h.loopMod.forL .measAdc)

protected theorem ImgsKept.loopStatus {n r micro} (h : ImgsKept c d) : ImgsKept c (loopStatus n r micro d) := by
  unfold loopStatus
  extract_lets mark
  have hm {b e} (h : ImgsKept c e) : ImgsKept c (mark b e) := h.markStale.markStale
  exact (hm h.setLoop).ite ((hm h.put.setLoop.raise).ite ((hm h.put.setLoop.raise).ite (hm h.setLoop.clearFault)))

protected theorem ImgsKept.loopTake {n t r} (h : ImgsKept c d) : ImgsKept c (loopTake n t r d) := by
  unfold loopTake
  dsimp only
  split
  · exact h
  · exact
      have h1 := h.putStrandsS
      h1.putStrandsS.loopStatus.ite h1.setLoop

protected theorem ImgsKept.loopCommand {n r} (h : ImgsKept c d) : ImgsKept c (loopCommand n r d) :=
  h.ite ((h.putStrandsS.onlyIf .put).onlyIf .setLoop)

protected theorem ImgsKept.loopSample {group t} (h : ImgsKept c d) : ImgsKept c (loopSample group t d) :=
  h.forL fun h => h.ite (h.loopCommand.ite h.loopTake)

protected theorem ImgsKept.lpHeadroomSetAt {n} (h : ImgsKept c d) : ImgsKept c (lpHeadroomSetAt n d) := h.ite h.loopMod.put.setLoop.stick

protected theorem ImgsKept.hartBegin {n r i} (h : ImgsKept c d) : ImgsKept c (hartBegin n r i d) := h.loopMod.put.send

protected theorem ImgsKept.hartServe {n} (h : ImgsKept c d) : ImgsKept c (hartServe n d) := by
  unfold hartServe
  split
  · exact h
  · extract_lets k x
    refine h.ite (h.loopMod.hartBegin.ite ?_)
    split
    · exact h
    · exact h.loopMod.hartBegin

protected theorem ImgsKept.hartQuiet {n again} (h : ImgsKept c d) : ImgsKept c (hartQuiet n again d) := h.loopMod

protected theorem ImgsKept.hartResponseRxAt {n bs parityOk} (h : ImgsKept c d) : ImgsKept c (hartResponseRxAt n bs parityOk d) := by
  unfold hartResponseRxAt
  split
  · exact h
  · exact h.bumpSat.ite (h.loopMod.hartQuiet.mirror.ite h)

protected theorem ImgsKept.hartResponseTimeoutAt {n} (h : ImgsKept c d) : ImgsKept c (hartResponseTimeoutAt n d) := by
  unfold hartResponseTimeoutAt
  split
  · exact h
  · exact h.ite (h.loopMod.hartQuiet.ite ((h.forL .markStale).bumpSat.put.hartQuiet.onlyIf .raise))

protected theorem ImgsKept.hartApply {n i body} (h : ImgsKept c d) : ImgsKept c (hartApply n i body d) := by
  unfold hartApply
  split
  · exact h
  · exact (h.forL .markStale).putStrands.bump.put.put

protected theorem ImgsKept.hartDeliveryAt {n} (h : ImgsKept c d) : ImgsKept c (hartDeliveryAt n d) := by
  unfold hartDeliveryAt
  split
  · exact h
  · exact h.ite h.loopMod.hartApply

protected theorem ImgsKept.loopStart (h : ImgsKept c d) : ImgsKept c (loopStart d) := h.forL fun h => h.loopMod.setLoop.put.put.putB.putB.put

/-! The Ethernet switch. -/

protected theorem ImgsKept.showLinks (h : ImgsKept c d) : ImgsKept c (showLinks d) := h.putStrands

protected theorem ImgsKept.ethLinkChangeAt {p up} (h : ImgsKept c d) : ImgsKept c (ethLinkChangeAt p up d) :=
  have h1 := h.putB.showLinks
  h.ite (h1.clearFault.ite (h1.put.raise.ite h1))

protected theorem ImgsKept.learn {p mac} (h : ImgsKept c d) : ImgsKept c (learn p mac d) := h.ite h

protected theorem ImgsKept.addressTableAgeOutAt {mac} (h : ImgsKept c d) : ImgsKept c (addressTableAgeOutAt mac d) := by
  unfold addressTableAgeOutAt
  split
  · exact .ite h h
  · exact h

protected theorem ImgsKept.ethFrameRxAt {p f} (h : ImgsKept c d) : ImgsKept c (ethFrameRxAt p f d) := by
  unfold ethFrameRxAt
  extract_lets d1 size inside d2 d3
  have h1 : ImgsKept c d1 := h.bump
  have h3 : ImgsKept c d3 := h1.learn.forL .ethQueue
  refine h.ite (h.bumpSat.ite (h1.ite (h3.ite ((h3.bumpSat.ite h3).ite ?_))))
  split
  · exact h3.ite h3.bumpSat
  · exact h3

protected theorem ImgsKept.arpRequestAt {p f} (h : ImgsKept c d) : ImgsKept c (arpRequestAt p f d) := h.ite h.ethQueue

protected theorem ImgsKept.icmpEchoRequestAt {p f} (h : ImgsKept c d) : ImgsKept c (icmpEchoRequestAt p f d) := h.ite h.ethQueue

/-! PTP. -/

protected theorem ImgsKept.ptpMod {f} (h : ImgsKept c d) : ImgsKept c (ptpMod f d) := h

protected theorem ImgsKept.loseLock (h : ImgsKept c d) : ImgsKept c (loseLock d) :=
  have h1 := h.ptpMod.put
  h.ptpMod.ite (h1.put.raise.ite h1)

protected theorem ImgsKept.setPtpState {st} (h : ImgsKept c d) : ImgsKept c (setPtpState st d) :=
  have h1 := h.put.putStrands
  h1.loseLock.ite h1

protected theorem ImgsKept.ptpSend {p kind stamp peer event msg r} (h : ImgsKept c d) : ImgsKept c (ptpSend p kind stamp peer event msg r d) :=
  h.ethQueue

protected theorem ImgsKept.nextSeq {k} (h : ImgsKept c d) : ImgsKept c (nextSeq k d).2 := h.ptpMod

protected theorem ImgsKept.ownLeaves {p t r} (h : ImgsKept c d) : ImgsKept c (ownLeaves p t r d).2 := by
  unfold ownLeaves
  dsimp only
  split
  · exact h.ptpSend.ite_snd h
  · exact h.ptpSend.ite_snd h
  · exact h.ptpMod
  · exact h.ptpMod
  · exact h

protected theorem ImgsKept.ethFrameTxAt {p} (h : ImgsKept c d) : ImgsKept c (ethFrameTxAt p d) := by
  unfold ethFrameTxAt
  dsimp only
  split
  · exact h
  · split
    · exact h
    · split
      · exact .send (.put (.put (.put (.bump h))))
      · split
        · exact .send (.ownLeaves (.bump h))
        · exact .send (.bump h)

protected theorem ImgsKept.setGm {id} (h : ImgsKept c d) : ImgsKept c (setGm id d) :=
  have h1 := h.put
  h1.put.raise.ite h1

protected theorem ImgsKept.selectMaster {timeout r} (h : ImgsKept c d) : ImgsKept c (selectMaster timeout r d) := by
  unfold selectMaster
  dsimp only
  split
  · exact h.ptpMod.setPtpState.setGm.ite (h.ptpMod.setPtpState.ite h)
  · exact
      have h1 := h.setGm
      h.ptpMod.setPtpState.setGm.ite (h1.ite h1.ptpMod.setPtpState)

protected theorem ImgsKept.ptpAnnounceAt {p m} (h : ImgsKept c d) : ImgsKept c (ptpAnnounceAt p m d) := by
  unfold ptpAnnounceAt
  split
  · exact h
  · exact h.ptpMod.selectMaster

protected theorem ImgsKept.ptpAnnounceTimeoutAt (h : ImgsKept c d) : ImgsKept c (ptpAnnounceTimeoutAt d) := by
  unfold ptpAnnounceTimeoutAt
  split
  · exact h
  · exact h.ptpMod.selectMaster

protected theorem ImgsKept.applyTerm (h : ImgsKept c d) : ImgsKept c (applyTerm d) := h.ptpMod

protected theorem ImgsKept.showEpoch {full} (h : ImgsKept c d) : ImgsKept c (showEpoch full d) := h.ite (h.ptpMod.onlyIf .putS)

protected theorem ImgsKept.lockStep {o} (h : ImgsKept c d) : ImgsKept c (lockStep o d) :=
  have h1 := h.ptpMod
  (h1.loseLock.ite h1).ite (h1.put.put.clearFault.ite h1)

protected theorem ImgsKept.showPath (h : ImgsKept c d) : ImgsKept c (showPath d) := by
  unfold showPath
  split
  · exact h.putStrandsS
  · exact h

protected theorem ImgsKept.servo {full r} (h : ImgsKept c d) : ImgsKept c (servo full r d) :=
  have h1 := h.ptpMod.bump.putS.putStrandsS
  h1.put.putS.ptpMod.applyTerm.raise.ite h1.lockStep.applyTerm.showEpoch

protected theorem ImgsKept.syncDone {r t1 t2 corr} (h : ImgsKept c d) : ImgsKept c (syncDone r t1 t2 corr d) :=
  have h2 := (h.ptpMod.ite h).ptpMod
  have h3 := h2.setPtpState.ite h2
  h3.servo.ite h3

protected theorem ImgsKept.ptpSyncAt {p m} (h : ImgsKept c d) : ImgsKept c (ptpSyncAt p m d) := by
  unfold ptpSyncAt
  split
  · exact h
  · exact h.ite (h.ptpMod.ite h.syncDone)

protected theorem ImgsKept.ptpFollowUpAt {p m} (h : ImgsKept c d) : ImgsKept c (ptpFollowUpAt p m d) := by
  unfold ptpFollowUpAt
  split
  · exact h.ptpMod.syncDone.ite h
  · exact h

protected theorem ImgsKept.ptpSyncTimeoutAt (h : ImgsKept c d) : ImgsKept c (ptpSyncTimeoutAt d) := by
  unfold ptpSyncTimeoutAt
  split
  · exact h
  · exact h.loseLock.ite h

protected theorem ImgsKept.ptpDelayReqAt {p m} (h : ImgsKept c d) : ImgsKept c (ptpDelayReqAt p m d) := by
  unfold ptpDelayReqAt
  split
  · exact h
  · exact h.ite h.ptpSend

protected theorem ImgsKept.ptpDelayRespAt {p m} (h : ImgsKept c d) : ImgsKept c (ptpDelayRespAt p m d) := by
  unfold ptpDelayRespAt
  split
  · exact
      have h1 := h.ptpMod.showPath
      h.ite (h1.setPtpState.ite h1)
  · exact h

protected theorem ImgsKept.ptpPdelayReqAt {p m} (h : ImgsKept c d) : ImgsKept c (ptpPdelayReqAt p m d) := by
  unfold ptpPdelayReqAt
  split
  · exact h
  · exact h.ite h.ptpSend

protected theorem ImgsKept.peerDone {p delay} (h : ImgsKept c d) : ImgsKept c (peerDone p delay d) := h.ptpMod.put.showPath

protected theorem ImgsKept.ptpPdelayRespAt {p m} (h : ImgsKept c d) : ImgsKept c (ptpPdelayRespAt p m d) := by
  unfold ptpPdelayRespAt
  split
  · exact h
  · exact h.ite (h.ptpMod.ite h.peerDone)

protected theorem ImgsKept.ptpPdelayRespFollowUpAt {p m} (h : ImgsKept c d) : ImgsKept c (ptpPdelayRespFollowUpAt p m d) := by
  unfold ptpPdelayRespFollowUpAt
  split
  · exact h
  · exact h.ite h.peerDone

protected theorem ImgsKept.masterStands (h : ImgsKept c d) : ImgsKept c (masterStands d) := h.setPtpState.ite h

protected theorem ImgsKept.ptpRound {kind r f} (h : ImgsKept c d) (hf : ∀ {e}, ImgsKept c e → ImgsKept c (f e)) :
    ImgsKept c (ptpRound kind r f d) :=
  (hf h.ptpMod).ite h

protected theorem ImgsKept.ptpTxIntervalAt {kind} (h : ImgsKept c d) : ImgsKept c (ptpTxIntervalAt kind d) := by
  unfold ptpTxIntervalAt
  split
  · exact h
  · extract_lets d1 p two
    have h1 : ImgsKept c d1 := h.masterStands
    split
    · exact h1.ite (h1.ptpRound fun h => h.nextSeq.ptpSend)
    · exact h1.ite (h1.ptpRound fun h => h.nextSeq.ptpSend)
    · exact h1.ite (h1.ptpRound fun h => h.nextSeq.ptpSend)
    · exact h1.ptpRound fun h => h.forL fun h => h.ite h.nextSeq.ptpSend
    · exact h1

protected theorem ImgsKept.netStart (h : ImgsKept c d) : ImgsKept c (netStart d) := by
  unfold netStart
  extract_lets d1
  have h1 : ImgsKept c d1 := by
    unfold d1
    split <;> exact h.put.put
  split
  · exact h1
  · exact h1.put.putB.setPtpState

/-! Entering RUN. -/

protected theorem ImgsKept.showIdent {id} (h : ImgsKept c d) : ImgsKept c (showIdent id d) := h.put.put.put.put

protected theorem ImgsKept.showTrims {fuses} (h : ImgsKept c d) : ImgsKept c (showTrims fuses d) := h.forL .put

protected theorem ImgsKept.reelImage (h : ImgsKept c d) : ImgsKept c (reelImage d) :=
  ((h.put.forL fun h => h.forL fun h => h.put.put.put.putB.putB.put.put.put.put.put).forL
    fun h => h.put.put.put.put.onlyIf fun h => h.put.put).forL fun h => h.forL .put

protected theorem ImgsKept.weftImage (h : ImgsKept c d) : ImgsKept c (weftImage d) := by
  unfold weftImage
  dsimp only
  split
  · exact (h.put.forL (fun h => h.put.putB.put.putB.put.put)).forL fun h => h.put.putB.putB.put.putB.putB.put
  · exact h.put.forL fun h => h.put.putB.put.putB.put.put

protected theorem ImgsKept.pairImage (h : ImgsKept c d) : ImgsKept c (pairImage d) := h.putB.put.forL .put

protected theorem ImgsKept.otherImage (h : ImgsKept c d) : ImgsKept c (otherImage d) := (h.put.put.put.forL (fun h => h.put.alarmStart)).put.put

protected theorem ImgsKept.applyPatches (h : ImgsKept c d) : ImgsKept c (applyPatches d) := h

protected theorem ImgsKept.loaderImage {copy} (h : ImgsKept c d) : ImgsKept c (loaderImage copy d) := h.applyPatches.put.put.put.put

protected theorem ImgsKept.takeImage {copy} (h : ImgsKept c d) : ImgsKept c (takeImage copy d) :=
  h.loaderImage.reelImage.weftImage.pairImage.otherImage.plyImage.motImage.driveImage.shuImage.creelImage.hankImage

protected theorem ImgsKept.restoreWords {vs ws} (h : ImgsKept c d) : ImgsKept c (restoreWords vs ws d) := by
  induction vs generalizing d ws with
  | nil => exact h
  | cons v vs ih => exact ih (h.forL .varSet)

protected theorem ImgsKept.chooseRestart (h : ImgsKept c d) : ImgsKept c (chooseRestart d) :=
  have h1 := h.put
  have h2 := h1.put.restoreWords.ite h1.put
  (h2.raise.ite h2)

protected theorem ImgsKept.fbZero {n r} (h : ImgsKept c d) : ImgsKept c (fbZero n r d) :=
  .onlyIf (.put (.put (.put h))) (fun h => h.put.put.putStrands)

protected theorem ImgsKept.fbRun (h : ImgsKept c d) : ImgsKept c (fbRun d) := by
  refine ImgsKept.forL h fun {r e} h => ?_
  extract_lets n lv d1
  have h1 : ImgsKept c d1 := h.fbZero.put.put
  refine ImgsKept.ite ?_ h1
  split
  · exact h1.put
  · exact h1

protected theorem ImgsKept.gpioRun (h : ImgsKept c d) : ImgsKept c (gpioRun d) := h.forL fun h1 => h1.forL (fun h => h.gpioDrive.ite h)

protected theorem ImgsKept.setEpoch {e} (h : ImgsKept c d) : ImgsKept c (setEpoch e d) := h.put.setStrand

protected theorem ImgsKept.setActiveOut {b} (h : ImgsKept c d) : ImgsKept c (setActiveOut b d) := h.putB

protected theorem ImgsKept.sinceRun (h : ImgsKept c d) : ImgsKept c (sinceRun d) := h.wr.wr.wr.put.put.forN .put

protected theorem ImgsKept.enterRun {st} (h : ImgsKept c d) : ImgsKept c (enterRun st d) := by
  refine .forL (.safetyRun (.recRun (.hankRun (.creelRun (.shuRun (.driveRun (.motRun (.plyRun (.fbRun (.gpioRun ?_)))))))))) .armPick
  exact .sinceRun (.setActiveOut (.setPairState (.put (.put h))))

/-! The pair's roles. -/

protected theorem ImgsKept.pairMod {f} (h : ImgsKept c d) : ImgsKept c (pairMod f d) := h

protected theorem ImgsKept.hearEpoch {e} (h : ImgsKept c d) : ImgsKept c (hearEpoch e d) := h.pairMod.ite h

protected theorem ImgsKept.sendReport (h : ImgsKept c d) : ImgsKept c (sendReport d) := h.linkSend

protected theorem ImgsKept.roleTo {st} (h : ImgsKept c d) : ImgsKept c (roleTo st d) := (h.setPairState.onlyIf .clearFault).sendReport

protected theorem ImgsKept.startActive {e} (h : ImgsKept c d) : ImgsKept c (startActive e d) :=
  h.clearFault.setEpoch.chooseRestart.enterRun.pairMod.sendReport

protected theorem ImgsKept.startJoining (h : ImgsKept c d) : ImgsKept c (startJoining d) := by
  unfold startJoining
  extract_lets d1 d2 x d3
  have h2 : ImgsKept c d2 := h.clearFault.setEpoch.put
  clear_value d2
  have h3 : ImgsKept c d3 := h2.setPairState.ite (.enterRun h2)
  exact h3.requestJoin.sendReport

protected theorem ImgsKept.startWaiting2 (h : ImgsKept c d) : ImgsKept c (startWaiting2 d) := h.setEpoch.roleTo.raise

protected theorem ImgsKept.partnerIsActive (h : ImgsKept c d) : ImgsKept c (partnerIsActive d) :=
  have h1 := h.pairMod
  h1.startJoining.ite h1

protected theorem ImgsKept.fbUnmirror (h : ImgsKept c d) : ImgsKept c (fbUnmirror d) := h.forL fun h => h

protected theorem ImgsKept.joinFails (h : ImgsKept c d) : ImgsKept c (joinFails d) :=
  have h2 := h.stick.pairMod
  (h2.setPairState.ite h2.fbUnmirror.startWaiting2).ite h

protected theorem ImgsKept.partnerLeaves (h : ImgsKept c d) : ImgsKept c (partnerLeaves d) := h.pairMod.joinFails

protected theorem ImgsKept.depose (h : ImgsKept c d) : ImgsKept c (depose d) := (h.onlyIf .stick).setActiveOut.setEpoch.pairMod.roleTo

protected theorem ImgsKept.takeWord {w} (h : ImgsKept c d) : ImgsKept c (takeWord w d) := by
  unfold takeWord
  dsimp only
  split
  · exact h
  · exact h.ite (h.pairMod.ite (h.startActive.ite (h.depose.ite h.stick)))

protected theorem ImgsKept.fbKeepOffset {n} (h : ImgsKept c d) : ImgsKept c (fbKeepOffset n d) := .onlyIf h (fun h => h.putS.putStrandsS)

protected theorem ImgsKept.holdsKept (h : ImgsKept c d) : ImgsKept c (holdsKept d) := h

protected theorem ImgsKept.takeoverBoundaryAt (h : ImgsKept c d) : ImgsKept c (takeoverBoundaryAt d) := by
  unfold takeoverBoundaryAt
  split
  · exact h
  · exact
      have h1 := (h.setPairState.setEpoch.setActiveOut.pairMod.put.put.forL .fbKeepOffset).forL .sdRestart
      h.ite (h1.forL fun h => h.put.ite h).holdsKept.plyRun.streamsOff.xchgAbort.put.raise.sendReport

protected theorem ImgsKept.partnerBeat {present epoch data} (h : ImgsKept c d) : ImgsKept c (partnerBeat present epoch data d) :=
  have h1 := h.hearEpoch.ite h
  have h2 := (h1.depose.ite h1.partnerIsActive).ite h1
  have h3 := h2.pairMod
  h2.ite (h2.pairMod.clearFault.ite (h3.put.raise.ite h3))

protected theorem ImgsKept.declare_ {w r dest epoch} (h : ImgsKept c d) : ImgsKept c (declare_ w r dest epoch d) := .raise (.put (.bumpSat h))

protected theorem ImgsKept.witnessBeat {w r isA present epoch data} (h : ImgsKept c d) :
    ImgsKept c (witnessBeat w r isA present epoch data d) := by
  unfold witnessBeat
  extract_lets x node y live z u v act misses show_ other waitsA waitsB pref dest
  have hs {x} : ImgsKept c (show_ x d) := h.pairMod.put.put
  exact hs.declare_.ite (hs.declare_.ite hs)

protected theorem ImgsKept.heartbeats {slot present epoch data} (h : ImgsKept c d) : ImgsKept c (heartbeats slot present epoch data d) := by
  unfold heartbeats
  extract_lets d1
  have h1 : ImgsKept c d1 := by
    unfold d1
    split
    · exact h.partnerBeat.ite h
    · exact h
  exact h1.forL fun h => h.witnessBeat.ite (h.witnessBeat.ite h)

protected theorem ImgsKept.witnessSlot {slot status} (h : ImgsKept c d) : ImgsKept c (witnessSlot slot status d) := by
  unfold witnessSlot
  split
  · exact h.ite (h.put.raise.ite (h.clearFault.ite h))
  · exact h

protected theorem ImgsKept.peerActiveFallAt (h : ImgsKept c d) : ImgsKept c (peerActiveFallAt d) :=
  have h1 := h.put
  h1.ite (h1.depose.ite h1.setActiveOut)

protected theorem ImgsKept.holdLimitExpiryAt (h : ImgsKept c d) : ImgsKept c (holdLimitExpiryAt d) := by
  unfold holdLimitExpiryAt
  extract_lets x d1 d2
  have h2 : ImgsKept c d2 := .forL h .pinsSafe
  exact .ite (h2.raise.ite h2) h

protected theorem ImgsKept.joinTimeoutAt (h : ImgsKept c d) : ImgsKept c (joinTimeoutAt d) := h.joinFails.ite h

protected theorem ImgsKept.joinRetryAt (h : ImgsKept c d) : ImgsKept c (joinRetryAt d) :=
  have h1 := h.pairMod
  (h1.requestJoin.ite h1).ite h

protected theorem ImgsKept.negotiationEndAt (h : ImgsKept c d) : ImgsKept c (negotiationEndAt d) :=
  h.ite (h.startJoining.ite (h.startActive.ite h.startWaiting2))

/-! Snapshots for a joining unit. -/

protected theorem ImgsKept.snapTake {l} (h : ImgsKept c d) : ImgsKept c (snapTake l d) := .forL h .armPick

protected theorem ImgsKept.snapSend {n bs} (h : ImgsKept c d) : ImgsKept c (snapSend n bs d) := by
  induction n generalizing d bs with
  | zero => exact h
  | succ n ih => exact h.linkSend.ite (ih h.linkSend)

protected theorem ImgsKept.sendSnapshot (h : ImgsKept c d) : ImgsKept c (sendSnapshot d) := .snapSend h

/-! Weft. -/

protected theorem ImgsKept.weftMod {f} (h : ImgsKept c d) : ImgsKept c (weftMod f d) := h

protected theorem ImgsKept.setWeftState {st} (h : ImgsKept c d) : ImgsKept c (setWeftState st d) := h.put

protected theorem ImgsKept.heddleRestart (h : ImgsKept c d) : ImgsKept c (heddleRestart d) :=
  have h1 := h.weftMod
  h1.ite h1.put

protected theorem ImgsKept.heddleViol (h : ImgsKept c d) : ImgsKept c (heddleViol d) := h.bumpSat.put.raise

protected theorem ImgsKept.weftSend {s c' a} (h : ImgsKept c d) : ImgsKept c (weftSend s c' a d) :=
  have h1 := h.weftMod
  h1.send.ite (h1.heddleViol.ite h1)

protected theorem ImgsKept.showCycle (h : ImgsKept c d) : ImgsKept c (showCycle d) := h.put.put

protected theorem ImgsKept.retime {n start} (h : ImgsKept c d) : ImgsKept c (retime n start d) := h.weftMod.showCycle

protected theorem ImgsKept.stepLoom {step} (h : ImgsKept c d) : ImgsKept c (stepLoom step d) := by
  unfold stepLoom
  extract_lets move sampled x y z d1
  have h1 : ImgsKept c d1 := h
  exact (h1.forL .put).putS.onlyIf .putS

protected theorem ImgsKept.noteStep {step} (h : ImgsKept c d) : ImgsKept c (noteStep step d) := h.raise

protected theorem ImgsKept.weftListen (h : ImgsKept c d) : ImgsKept c (weftListen d) := .put (.setWeftState h)

protected theorem ImgsKept.listenAgain {more} (h : ImgsKept c d) : ImgsKept c (listenAgain more d) := h.weftMod.setWeftState

protected theorem ImgsKept.weftFail {chan s cause} (h : ImgsKept c d) : ImgsKept c (weftFail chan s cause d) :=
  h.bumpSat.onlyIf (fun h => h.bumpSat.put)

protected theorem ImgsKept.chanUp {c'} (h : ImgsKept c d) : ImgsKept c (chanUp c' d) := h.weftMod.put.clearFault

protected theorem ImgsKept.noteRx {chan s c' dev f} (h : ImgsKept c d) : ImgsKept c (noteRx chan s c' dev f d) := h.chanUp.weftMod

protected theorem ImgsKept.integrate {chan s f} (h : ImgsKept c d) : ImgsKept c (integrate chan s f d) :=
  h.fresh.fresh.heddleRestart.stepLoom.put.put.put.retime.weftMod.setWeftState.noteStep.noteRx

protected theorem ImgsKept.discardSetting (h : ImgsKept c d) : ImgsKept c (discardSetting d) := h.stepLoom.put.put.weftMod.listenAgain

protected theorem ImgsKept.reintFail (h : ImgsKept c d) : ImgsKept c (reintFail d) := h.weftMod.setWeftState.put.raise

protected theorem ImgsKept.reintegrate {chan s f} (h : ImgsKept c d) : ImgsKept c (reintegrate chan s f d) :=
  h.chanUp.reintFail.ite h.heddleRestart.retime.setWeftState.noteRx

protected theorem ImgsKept.listenRx {chan f} (h : ImgsKept c d) : ImgsKept c (listenRx chan f d) :=
  h.weftFail.ite (h.ite (h.weftFail.ite (h.reintegrate.ite h.integrate)))

protected theorem ImgsKept.coldRx {chan s f} (h : ImgsKept c d) : ImgsKept c (coldRx chan s f d) :=
  (h.reintegrate.ite h.integrate).ite (h.weftMod.put.put.ite (h.weftMod.ite h))

protected theorem ImgsKept.integRx {s dev} (h : ImgsKept c d) : ImgsKept c (integRx s dev d) := (h.weftMod.ite h.discardSetting).ite h

protected theorem ImgsKept.weftFrameRxAt {chan f} (h : ImgsKept c d) : ImgsKept c (weftFrameRxAt chan f d) :=
  have h1 := h.noteRx
  h.ite (h.listenRx.ite (h.weftFail.ite (h.weftFail.ite (h.weftFail.ite (h.weftFail.ite (h1.coldRx.ite (h1.integRx.ite h1)))))))

protected theorem ImgsKept.weftAssemblyCloseAt {s} (h : ImgsKept c d) : ImgsKept c (weftAssemblyCloseAt s d) := by
  unfold weftAssemblyCloseAt
  extract_lets x due
  refine h.ite ?_
  split
  · exact h
  · extract_lets a d1
    have h1 : ImgsKept c d1 := h.settleTx
    clear_value d1
    exact h1

protected theorem ImgsKept.weftFrameTxAt {s} (h : ImgsKept c d) : ImgsKept c (weftFrameTxAt s d) := by
  unfold weftFrameTxAt
  dsimp only
  split
  · exact h
  · split
    · exact h
    · exact
        have h1 := h.weftMod
        (h1.bumpSat.put.raise.ite h1).weftSend

protected theorem ImgsKept.slotTake {s status ws stamp} (h : ImgsKept c d) : ImgsKept c (slotTake s status ws stamp d) :=
  have h2 := h.put.putStrandsS
  have h3 := (h2.clearFault.forL .measDelivery).ite h2
  h3.bumpSat.raise.ite h3

protected theorem ImgsKept.slotPublish {s} (h : ImgsKept c d) : ImgsKept c (slotPublish s d) := h.ite h.mirror.slotTake

protected theorem ImgsKept.slotReceive {s n} (h : ImgsKept c d) : ImgsKept c (slotReceive s n d).2 := by
  unfold slotReceive
  extract_lets rs ra rb used g valid typ isData stamp got devs ns a echo d1
  show ImgsKept c d1
  unfold d1
  clear_value got valid echo a ns
  exact ((h.weftMod.putB.putB.put.put.onlyIf .putS).putStrandsS.onlyIf fun h => h.put.raise).onlyIf fun h => h.put.raise

protected theorem ImgsKept.weftDeliveryAt {s} (h : ImgsKept c d) : ImgsKept c (weftDeliveryAt s d) := by
  unfold weftDeliveryAt
  extract_lets x at_ n r d1 d2 beat d3 g d4
  have h1 : ImgsKept c d1 := h.slotReceive.slotPublish
  have h2 : ImgsKept c d2 := by
    unfold d2
    split
    · exact h1.slotPublish.ite h1
    · exact h1
  have h4 : ImgsKept c d4 := h2.heartbeats.witnessSlot
  refine h.ite ?_
  split
  · exact (h4.forL .takeWord).ite h4
  · exact h4

protected theorem ImgsKept.steer {rate atLimit} (h : ImgsKept c d) : ImgsKept c (steer rate atLimit d) := .onlyIf (.putS h) .put

protected theorem ImgsKept.syncCorrect (h : ImgsKept c d) : ImgsKept c (syncCorrect d).2 := by
  unfold syncCorrect
  split
  · exact h.weftMod.put.put
  · exact h.weftMod.steer.put.put.putS.maxUp.putS

protected theorem ImgsKept.enterSync (h : ImgsKept c d) : ImgsKept c (enterSync d) := h.weftMod.setWeftState.put.put.put

protected theorem ImgsKept.loseSync {value} (h : ImgsKept c d) : ImgsKept c (loseSync value d) := h.weftMod.setWeftState.bumpSat.put.raise

protected theorem ImgsKept.syncCheck {m} (h : ImgsKept c d) : ImgsKept c (syncCheck m d) :=
  have h1 := h.weftMod
  h1.loseSync.ite h1

protected theorem ImgsKept.integCheck {m} (h : ImgsKept c d) : ImgsKept c (integCheck m d) :=
  have h1 := h.weftMod
  h1.enterSync.ite h1

protected theorem ImgsKept.coldCheck (h : ImgsKept c d) : ImgsKept c (coldCheck d) := h.enterSync.ite (h.weftMod.ite h)

protected theorem ImgsKept.chanCheck {c'} (h : ImgsKept c d) : ImgsKept c (chanCheck c' d) :=
  have h1 := h.weftMod
  h.ite (h1.put.put.raise.ite h1)

protected theorem ImgsKept.armHooks (h : ImgsKept c d) : ImgsKept c (armHooks d) := h.forL fun h => h.put.put.armPick.ite h

protected theorem ImgsKept.cycleEndItem (h : ImgsKept c d) : ImgsKept c (cycleEndItem d) := h.ite (.maxUp (.put h.mirror))

protected theorem ImgsKept.endStep7 (h : ImgsKept c d) : ImgsKept c (endStep7 d) :=
  h.ite (h.put.pairMod.setPairState.sendReport.ite h.chooseRestart.enterRun)

protected theorem ImgsKept.weftCycleEndAt (h : ImgsKept c d) : ImgsKept c (weftCycleEndAt d) :=
  have h1 := h.syncCorrect.ite_snd h.weftMod
  have h2 := (h1.syncCheck.ite (h1.integCheck.ite (h1.coldCheck.ite h1))).forL .chanCheck
  have h3 := h2.cycleEndItem.weftMod.showCycle.armHooks
  h.ite ((h3.sendSnapshot.ite h3).endStep7)

protected theorem ImgsKept.takePtpTime (h : ImgsKept c d) : ImgsKept c (takePtpTime d) := h.stepLoom.put.put.put.noteStep.ite h

protected theorem ImgsKept.coldStart {s} (h : ImgsKept c d) : ImgsKept c (coldStart s d) := h.takePtpTime.retime.weftMod.setWeftState.put.weftSend

protected theorem ImgsKept.listenTimeoutAt (h : ImgsKept c d) : ImgsKept c (listenTimeoutAt d) := by
  unfold listenTimeoutAt
  split
  · exact h
  · split
    · exact h.coldStart
    · exact h.listenAgain

protected theorem ImgsKept.coldstartEchoDeadlineAt (h : ImgsKept c d) : ImgsKept c (coldstartEchoDeadlineAt d) :=
  h.ite h.heddleRestart.weftMod.listenAgain.bumpSat.put.raise

protected theorem ImgsKept.syncLostRelistenAt (h : ImgsKept c d) : ImgsKept c (syncLostRelistenAt d) := h.listenAgain.ite h

protected theorem ImgsKept.reintTimeoutAt (h : ImgsKept c d) : ImgsKept c (reintTimeoutAt d) := h.reintFail.ite h

/-! Heddle. -/

protected theorem ImgsKept.openSpan {s} (h : ImgsKept c d) : ImgsKept c (openSpan s d) := h.weftMod

protected theorem ImgsKept.takeMark {s ok} (h : ImgsKept c d) : ImgsKept c (takeMark s ok d) := h.weftMod

protected theorem ImgsKept.heddleBlock (h : ImgsKept c d) : ImgsKept c (heddleBlock d) := h.weftMod.put.put.raise

protected theorem ImgsKept.heddleMarkAt {s cold} (h : ImgsKept c d) : ImgsKept c (heddleMarkAt s cold d) :=
  h.ite (h.takeMark.openSpan.weftMod.ite ((h.takeMark.openSpan.ite h.heddleBlock.takeMark).ite (h.put.takeMark.openSpan.ite h.takeMark)))

protected theorem ImgsKept.heddleMarkMissingAt (h : ImgsKept c d) : ImgsKept c (heddleMarkMissingAt d) := by
  unfold heddleMarkMissingAt
  split
  · exact h.heddleBlock.ite h
  · exact h

protected theorem ImgsKept.heddleSpanEndAt {running} (h : ImgsKept c d) : ImgsKept c (heddleSpanEndAt running d) := by
  unfold heddleSpanEndAt
  split
  · exact
      have h1 := h.weftMod
      h.ite (h1.heddleViol.ite h1)
  · exact h

protected theorem ImgsKept.gdclkLostAt (h : ImgsKept c d) : ImgsKept c (gdclkLostAt d) := h.weftMod.ite h.weftMod.put.put.raise

protected theorem ImgsKept.gdclkReturnAt (h : ImgsKept c d) : ImgsKept c (gdclkReturnAt d) := h.put.ite h

/-! The store. -/

protected theorem ImgsKept.showDie {n} (h : ImgsKept c d) : ImgsKept c (showDie n d) := h.put.put.put.put.put.onlyIf .put

protected theorem ImgsKept.showArray (h : ImgsKept c d) : ImgsKept c (showArray d) := (h.forL (fun h => h.showDie.ite h)).put.put.put

protected theorem ImgsKept.showSizes {r} (h : ImgsKept c d) : ImgsKept c (showSizes r d) := h.put.put.put.put.putB.putB.put.put

protected theorem ImgsKept.showLife {r} (h : ImgsKept c d) : ImgsKept c (showLife r d) :=
  have h1 := h.put.put.put.put
  h1.stick.ite h1

protected theorem ImgsKept.movePages {m skein} (h : ImgsKept c d) : ImgsKept c (movePages m skein d) := h.forL .storeAsk

protected theorem ImgsKept.moveBlock {src dst wear} (h : ImgsKept c d) : ImgsKept c (moveBlock src dst wear d) := h.blkMod.storeMod.movePages

protected theorem ImgsKept.refreshBlock {k} (h : ImgsKept c d) : ImgsKept c (refreshBlock k d) := by
  unfold refreshBlock
  dsimp only
  split
  · exact h
  · split
    · rename_i heq
      exact (h.freshBlock.of_eq heq).blkMod.moveBlock
    · rename_i heq
      exact h.freshBlock.of_eq heq

protected theorem ImgsKept.levelWear {n} (h : ImgsKept c d) : ImgsKept c (levelWear n d) := by
  unfold levelWear
  dsimp only
  split
  · exact h
  · split
    · exact h.oneOf.oneOf.moveBlock
    · exact h.oneOf.oneOf

protected theorem ImgsKept.moveStep {dst} (h : ImgsKept c d) : ImgsKept c (moveStep dst d) := by
  unfold moveStep
  split
  · exact h
  · exact h.storeMod.ite (h.storeMod.bumpSat.onlyIf (fun h => h.blkMod.storeAsk))

protected theorem ImgsKept.retireDie {n} (h : ImgsKept c d) : ImgsKept c (retireDie n d) := h.ite (h.storeMod.ite h.storeMod)

protected theorem ImgsKept.judgeReserve {n} (h : ImgsKept c d) : ImgsKept c (judgeReserve n d) :=
  have h1 := h.showArray.onlyIf .stick
  h1.retireDie.ite h1

protected theorem ImgsKept.retireBlock {k} (h : ImgsKept c d) : ImgsKept c (retireBlock k d) :=
  h.ite ((h.refreshBlock.ite h).blkMod.dieMod.put.raise.judgeReserve)

protected theorem ImgsKept.dieRetirementCompleteAt {n} (h : ImgsKept c d) : ImgsKept c (dieRetirementCompleteAt n d) := by
  unfold dieRetirementCompleteAt
  extract_lets spare dst remap d1 d2 waiting d3 d4 d5
  have h2 : ImgsKept c d2 := by
    have h1 : ImgsKept c d1 := h.put
    unfold d2
    clear_value spare
    cases spare <;> exact h1.put.storeMod
  have h4 : ImgsKept c d4 := h2.storeMod.dieMod.put.showOps.put.raise.showArray
  have h5 : ImgsKept c d5 := by
    unfold d5
    split
    · exact h4.showSizes
    · exact h4
  exact h.ite h5.holdupCheck

protected theorem ImgsKept.settleHist {n} (h : ImgsKept c d) : ImgsKept c (settleHist n d) := by
  induction n generalizing d with
  | zero => exact h
  | succ n ih =>
    unfold settleHist
    split
    · exact h
    · extract_lets num
      split
      · exact h
      · exact ih h

protected theorem ImgsKept.flushDone (h : ImgsKept c d) : ImgsKept c (flushDone d) := h.storeMod.put.ite h

protected theorem ImgsKept.flushPage {k} (h : ImgsKept c d) : ImgsKept c (flushPage k d) := h.programOn

protected theorem ImgsKept.programmed {o} (h : ImgsKept c d) : ImgsKept c (programmed o d) := by
  unfold programmed
  split
  · exact h.storeMod.settleHist
  · exact h.moveStep
  · exact h.storeMod.flushDone
  · exact h

protected theorem ImgsKept.programAgain {o} (h : ImgsKept c d) : ImgsKept c (programAgain o d) := by
  unfold programAgain
  split
  · split
    · exact h.storeMod.refreshBlock
    · exact h
  · exact h.flushPage
  · exact h.storeMod.programOn

protected theorem ImgsKept.statusRead {n} (h : ImgsKept c d) : ImgsKept c (statusRead n d) := h.send

protected theorem ImgsKept.nandProgramCompleteAt {p ok} (h : ImgsKept c d) : ImgsKept c (nandProgramCompleteAt p ok d) := by
  unfold nandProgramCompleteAt
  split
  · exact h
  · exact
      have h1 := h.statusRead.opEnds
      h1.queueDue.storeMod.programmed.levelWear.ite h1.retireBlock.programAgain

protected theorem ImgsKept.nandEraseCompleteAt {p ok} (h : ImgsKept c d) : ImgsKept c (nandEraseCompleteAt p ok d) := by
  unfold nandEraseCompleteAt
  split
  · exact h
  · exact
      have h1 := h.statusRead.opEnds
      have h2 := h1.dieMod.retireBlock
      h1.blkMod.dieMod.showDie.levelWear.ite (h2.retireDie.ite h2)

protected theorem ImgsKept.sectorLost {die skein} (h : ImgsKept c d) : ImgsKept c (sectorLost die skein d) := by
  unfold sectorLost
  extract_lets t l d1 d2 d3
  have h1 : ImgsKept c d1 := h.dieMod.bumpSat.bumpSat
  have h2 : ImgsKept c d2 := by
    unfold d2
    split
    · exact h1.bumpSat
    · exact h1
  exact h2.stick.retireDie.ite h2.stick

protected theorem ImgsKept.sectorRecovered {die k} (h : ImgsKept c d) : ImgsKept c (sectorRecovered die k d) := h.bumpSat.put.raise.refreshBlock

protected theorem ImgsKept.corrected {k n} (h : ImgsKept c d) : ImgsKept c (corrected k n d) :=
  have h1 := h.maxUp
  h1.refreshBlock.ite h1

protected theorem ImgsKept.countRead {k} (h : ImgsKept c d) : ImgsKept c (countRead k d) :=
  have h1 := h.blkMod
  h1.refreshBlock.ite h1

protected theorem ImgsKept.sectorsOut {n} (h : ImgsKept c d) : ImgsKept c (sectorsOut n d) := h.send

protected theorem ImgsKept.retryReads {p k} (h : ImgsKept c d) : ImgsKept c (retryReads p k d) := by
  unfold retryReads
  split
  · exact h
  · exact h.ite ((h.forL (fun h => h.send.send.send)).send.send)

protected theorem ImgsKept.retryFor {p res} (h : ImgsKept c d) : ImgsKept c (retryFor p res d) := by
  unfold retryFor
  dsimp only
  split
  · exact h
  · split
    · rename_i heq
      exact (h.oneOf.of_eq heq).retryReads
    · rename_i heq
      exact h.oneOf.of_eq heq
  · exact h.retryReads
  · exact h.retryReads

protected theorem ImgsKept.nandReadCompleteAt {p res} (h : ImgsKept c d) : ImgsKept c (nandReadCompleteAt p res d) := by
  unfold nandReadCompleteAt
  extract_lets k b queued d1 d2 d3 d4
  have h1 : ImgsKept c d1 := h.retryFor.sectorsOut
  have h3 : ImgsKept c d3 := (h1.opEnds.ite h1).countRead
  refine h.ite ?_
  split
  · exact h3.corrected
  · exact h3.bumpSat.corrected
  · exact h3.bumpSat.sectorRecovered.ite h3.bumpSat.sectorLost
  · exact h3.bumpSat.sectorLost

protected theorem ImgsKept.storeFail {die} (h : ImgsKept c d) : ImgsKept c (storeFail die d) := h.raise.put.startNumbering

protected theorem ImgsKept.nandFeaturesCompleteAt {p ok} (h : ImgsKept c d) : ImgsKept c (nandFeaturesCompleteAt p ok d) :=
  have h1 := h.opEnds.ite h
  h1.storeFail.ite h1

protected theorem ImgsKept.nandBusyTimeoutAt {n} (h : ImgsKept c d) : ImgsKept c (nandBusyTimeoutAt n d) :=
  have h1 := h.dieMod
  h.ite (h1.retireDie.ite h1)

protected theorem ImgsKept.storeRound {k period f} (h : ImgsKept c d) (hf : ∀ {e}, ImgsKept c e → ImgsKept c (f e)) :
    ImgsKept c (storeRound k period f d) :=
  (hf h.storeMod).ite h

protected theorem ImgsKept.saveDirectory {n} (h : ImgsKept c d) : ImgsKept c (saveDirectory n d) := by
  unfold saveDirectory
  extract_lets d1
  have h1 : ImgsKept c d1 := h.storeMod.directoryWrite.queueDue
  refine h.ite ?_
  split
  · exact h1.showArray.showLife
  · exact h1

protected theorem ImgsKept.directoryCheckpointAt (h : ImgsKept c d) : ImgsKept c (directoryCheckpointAt d) :=
  h.ite h.storeMod.dropPages.saveDirectory

protected theorem ImgsKept.storeProbeCompleteAt {res} (h : ImgsKept c d) : ImgsKept c (storeProbeCompleteAt res d) := by
  unfold storeProbeCompleteAt
  split
  · exact h
  · extract_lets roleOf
    refine h.ite ?_
    split
    · exact h.storeFail
    · exact (h.forL .put).storeMod.put

protected theorem ImgsKept.restripe {base} (h : ImgsKept c d) : ImgsKept c (restripe base d) := h.storeMod

protected theorem ImgsKept.placeFlush (h : ImgsKept c d) : ImgsKept c (placeFlush d) :=
  have h1 := h.restripe
  (h1.forL .histProgram).ite (.forL (.onlyIf h1 .stick) .histQueue)

protected theorem ImgsKept.mounted (h : ImgsKept c d) : ImgsKept c (mounted d) := by
  unfold mounted
  extract_lets r cyc n x d1 d2 d3 d4 d5
  have h1 : ImgsKept c d1 := h
  have h3 : ImgsKept c d3 := h1.put.startNumbering.forL .put
  have h4 : ImgsKept c d4 := by
    unfold d4
    split
    · exact h3.showArray.showSizes
    · exact h3
  exact (h4.put.put.holdupCheck.forL .storeAsk).directoryWrite.queueDue

protected theorem ImgsKept.formatArray {marked} (h : ImgsKept c d) : ImgsKept c (formatArray marked d) := h.storeMod.put

protected theorem ImgsKept.storeMountCompleteAt {res} (h : ImgsKept c d) : ImgsKept c (storeMountCompleteAt res d) := by
  unfold storeMountCompleteAt
  split
  · exact h
  · exact h.ite ((h.ite h.addSat.put.raise).mounted.placeFlush.ite (h.formatArray.mounted.raise.ite h.storeFail))

protected theorem ImgsKept.storeStart (h : ImgsKept c d) : ImgsKept c (storeStart d) := by
  unfold storeStart
  split
  · exact h
  · exact (h.forL (fun h => h.forL .send)).put

protected theorem ImgsKept.abandonPages (h : ImgsKept c d) : ImgsKept c (abandonPages d) := by
  unfold abandonPages
  extract_lets
  exact ⟨h.1, h.2⟩

protected theorem ImgsKept.storeFlush (h : ImgsKept c d) : ImgsKept c (storeFlush d) := by
  unfold storeFlush
  extract_lets part x y d1 reset dsts d2 d3
  have h1 : ImgsKept c d1 := h.ite h
  have hr {n e} (h : ImgsKept c e) : ImgsKept c (reset n e) := by
    unfold reset
    split
    · exact h.dieMod.send.ite h.dieMod
    · exact h
  have h3 : ImgsKept c d3 := h1.abandonPages.forL fun h => (hr h).put
  exact h.ite (h3.storeMod.forL .blkMod).showOps.put

protected theorem ImgsKept.flushPages {lo hi} (h : ImgsKept c d) : ImgsKept c (flushPages lo hi d) := (h.forL .flushPage).ite h

/-! Start and stop. -/

protected theorem ImgsKept.unitMod {f} (h : ImgsKept c d) : ImgsKept c (unitMod f d) := h

protected theorem ImgsKept.safeLevels {old} (h : ImgsKept c d) : ImgsKept c (safeLevels old d) := (h.forN (fun h => h.put.put)).forN .put

protected theorem ImgsKept.startPins {p} (h : ImgsKept c d) : ImgsKept c (startPins p d) := .forL (.put h) .setStrand

protected theorem ImgsKept.startMonitors (h : ImgsKept c d) : ImgsKept c (startMonitors d) := h.fresh.put.put.put.forN (fun h => h.fresh.put.put)

protected theorem ImgsKept.loadFail (h : ImgsKept c d) : ImgsKept c (loadFail d) := h.unitMod.put.raise.startNumbering.netStart

protected theorem ImgsKept.startRepair {p} (h : ImgsKept c d) : ImgsKept c (startRepair p d) := .showRows (.put (.put (.put h)))

protected theorem ImgsKept.pfailNFallAt (h : ImgsKept c d) : ImgsKept c (pfailNFallAt d) :=
  have h1 := h.unitMod.put
  h.ite (h1.storeFlush.put.showHistRun.raise.ite h1)

protected theorem ImgsKept.pfailEventFreezeAt (h : ImgsKept c d) : ImgsKept c (pfailEventFreezeAt d) := .ite (.flushPages (.flushPages h)) h

protected theorem ImgsKept.powerFailRetainCopyAt (h : ImgsKept c d) : ImgsKept c (powerFailRetainCopyAt d) := .ite (.flushPages h) h

protected theorem ImgsKept.monitorStop {code obj} (h : ImgsKept c d) : ImgsKept c (monitorStop code obj d) :=
  (h.unitMod.forN .pinsOff).heddleRestart.setActiveOut

protected theorem ImgsKept.clockStopAt (h : ImgsKept c d) : ImgsKept c (clockStopAt d) := h.ite h.monitorStop

protected theorem ImgsKept.supplyFaultAt {rail} (h : ImgsKept c d) : ImgsKept c (supplyFaultAt rail d) := h.ite h.put.monitorStop

protected theorem ImgsKept.tjThresholdAt {tj} (h : ImgsKept c d) : ImgsKept c (tjThresholdAt tj d) :=
  have h1 := h.putS
  have h2 := h1.putS.ite h1
  h.ite (h2.put.raise.ite (h2.put.clearFault.ite h2))

protected theorem ImgsKept.debugHaltAt {fuses} (h : ImgsKept c d) : ImgsKept c (debugHaltAt fuses d) :=
  h.ite h.unitMod.put.bumpSat.raise.driveHalt.shuHalt

protected theorem ImgsKept.debugHaltEndAt (h : ImgsKept c d) : ImgsKept c (debugHaltEndAt d) := h.unitMod.put.driveUnhalt.gpioUnhalt.shuUnhalt.ite h

protected theorem ImgsKept.writeRetain (h : ImgsKept c d) : ImgsKept c (writeRetain d).2 := by
  unfold writeRetain
  extract_lets set pages r
  exact .ite_snd (.handPages (.skAdvance h)) h

protected theorem ImgsKept.doRestart {warm} (h : ImgsKept c d) : ImgsKept c (doRestart warm d).dev :=
  h.svcRefused.ite_dev (h.svcRefused.ite_dev ((h.writeRetain.ite h).unitMod.okNone))

protected theorem ImgsKept.doOrderlyStop (h : ImgsKept c d) : ImgsKept c (doOrderlyStop d).dev :=
  h.svcRefused.ite_dev ((h.unitMod.forL .requestHold).okNone)

protected theorem ImgsKept.scanWait (h : ImgsKept c d) : ImgsKept c (scanWait d) := h.unitMod

protected theorem ImgsKept.orderlyEnd (h : ImgsKept c d) : ImgsKept c (orderlyEnd d) := by
  unfold orderlyEnd
  extract_lets w d1 d2 d3 d4 d5
  have h2 : ImgsKept c d2 := h.writeRetain.flushEvents.onlyIf fun h => h
  have h3 : ImgsKept c d3 := h2.unitMod
  exact ((h3.showRole.ite h3).put.forL .pinsSafe).raise

protected theorem ImgsKept.orderlyStopHoldWaitEndAt (h : ImgsKept c d) : ImgsKept c (orderlyStopHoldWaitEndAt d) :=
  have h1 := h.onlyIf .scanWait
  h.ite (h1.orderlyEnd.ite h1)

protected theorem ImgsKept.pickWrite {r i addr value} (h : ImgsKept c d) : ImgsKept c (pickWrite r i addr value d) :=
  h.ite (h.moveTarget.ite ((h.disarmPick.ite (h.ite h.retargetPick)).ite h))

protected theorem ImgsKept.registerWriteAt {addr value} (h : ImgsKept c d) : ImgsKept c (registerWriteAt addr value d) := by
  unfold registerWriteAt
  split
  · exact h
  · exact
      have h1 := h.ite h.clearReg
      h1.ite h1.pickWrite

/-! Image exchange. -/

protected theorem ImgsKept.xchgMod {f} (h : ImgsKept c d) : ImgsKept c (xchgMod f d) := h

protected theorem ImgsKept.xchgStart {partner fromPair} (h : ImgsKept c d) : ImgsKept c (xchgStart partner fromPair d) := .put h

protected theorem ImgsKept.xchgWrite {off bs} (h : ImgsKept c d) : ImgsKept c (xchgWrite off bs d) := by
  unfold xchgWrite
  dsimp only
  split
  · exact .ite (.put h) h
  · exact h

protected theorem ImgsKept.forward {off bs} (h : ImgsKept c d) : ImgsKept c (forward off bs d) := h.linkSend

protected theorem ImgsKept.xchgTell (h : ImgsKept c d) : ImgsKept c (xchgTell d) := h.linkSend.ite h

protected theorem ImgsKept.xchgRefuse {code} (h : ImgsKept c d) : ImgsKept c (xchgRefuse code d) := h.xchgTell.xchgEnd.put.raise

protected theorem ImgsKept.doTransfer {off bs} (h : ImgsKept c d) : ImgsKept c (doTransfer off bs d).dev :=
  have h1 := h.xchgStart.ite h
  have h2 := (h1.forward.ite h1).xchgWrite.okNone
  h.svcRefused.ite_dev (h.svcRefused.ite_dev (h.svcRefused.ite_dev (h.svcRefused.ite_dev (h.svcRefused.ite_dev h2))))

protected theorem ImgsKept.exchangeTransferTimeoutAt (h : ImgsKept c d) : ImgsKept c (exchangeTransferTimeoutAt d) := h.xchgTell.xchgEnd.ite h

protected theorem ImgsKept.xchgStaged (h : ImgsKept c d) : ImgsKept c (xchgStaged d) := h.put.shuStage

protected theorem ImgsKept.xchgProceed (h : ImgsKept c d) : ImgsKept c (xchgProceed d) := h.xchgStaged.ite h

protected theorem ImgsKept.xchgFailed {code} (h : ImgsKept c d) : ImgsKept c (xchgFailed code d) :=
  have h1 := h.xchgRefuse
  h1.roleTo.ite (h1.linkSend.ite h1)

protected theorem ImgsKept.exchangeStageTimeoutAt (h : ImgsKept c d) : ImgsKept c (exchangeStageTimeoutAt d) := h.xchgRefuse.ite h

protected theorem ImgsKept.standbyStagedReport (h : ImgsKept c d) : ImgsKept c (standbyStagedReport d) := h.xchgMod.xchgProceed

protected theorem ImgsKept.failedReport {code} (h : ImgsKept c d) : ImgsKept c (failedReport code d) := (h.xchgRefuse.ite h).ite (h.xchgAbort.ite h)

protected theorem ImgsKept.commitAt {sc} (h : ImgsKept c d) : ImgsKept c (commitAt sc d) := h.xchgMod.put.put

protected theorem ImgsKept.doCommit {sc} (h : ImgsKept c d) : ImgsKept c (doCommit sc d).dev :=
  h.svcRefused.ite_dev (h.svcRefused.ite_dev (h.svcRefused.ite_dev h.hostItem.commitAt.okNone))

protected theorem ImgsKept.doAbort (h : ImgsKept c d) : ImgsKept c (doAbort d).dev := h.xchgTell.xchgEnd.okNone.ite_dev h.svcRefused

protected theorem ImgsKept.streamSwitch {m o n} (h : ImgsKept c d) : ImgsKept c (streamSwitch m o n d) :=
  have h1 := h.strEnd
  h.ite (h1.strArm.ite h1.strState)

protected theorem ImgsKept.showOld (h : ImgsKept c d) : ImgsKept c (showOld d) := (h.forL .putB).put

protected theorem ImgsKept.xchgBegin {t} (h : ImgsKept c d) : ImgsKept c (xchgBegin t d) := by
  unfold xchgBegin
  split
  · exact h
  · split
    · exact (h.xchgMod.clearWhere.forL .streamSwitch).showOld
    · exact h

protected theorem ImgsKept.axisSwitch {t a} (h : ImgsKept c d) : ImgsKept c (axisSwitch t a d) := h.ite (.ite h h)

protected theorem ImgsKept.axesSwitch {pick t} (h : ImgsKept c d) : ImgsKept c (axesSwitch pick t d) := h.ite (h.forL (fun h => h.axisSwitch.ite h))

protected theorem ImgsKept.xchgImage {o} (h : ImgsKept c d) : ImgsKept c (xchgImage o d) :=
  ((h.put.put.put.forN .put).put.forL (fun h => h.put.put)).motImage.otherImage

protected theorem ImgsKept.forwardAll {n off bs} (h : ImgsKept c d) : ImgsKept c (forwardAll n off bs d) := by
  induction n generalizing d off bs with
  | zero => exact h
  | succ n ih => exact h.ite (ih h.forward)

protected theorem ImgsKept.forwardImage (h : ImgsKept c d) : ImgsKept c (forwardImage d) := h.forwardAll

protected theorem ImgsKept.takeForwarded {off bs} (h : ImgsKept c d) : ImgsKept c (takeForwarded off bs d) :=
  have h1 := h.xchgStart.ite h
  have h2 := (h.roleTo.ite h).xchgStart.ite h
  h.ite ((h1.xchgWrite.ite h1).ite ((h2.xchgWrite.ite h2).ite h))

/-! Firings of picks. -/

protected theorem ImgsKept.sampleOwn {g t sd} (h : ImgsKept c d) : ImgsKept c (sampleOwn g t sd d) := by
  unfold sampleOwn
  refine .loopSample ?_
  refine .forL ?_ .ssiStart
  refine h.forL fun h1 => ?_
  split
  · exact h1.sdSample
  · exact h1

protected theorem ImgsKept.servoAt {pick t} (h : ImgsKept c d) : ImgsKept c (servoAt pick t d) := h.axesSwitch.servoEval

protected theorem ImgsKept.pinAction {op} (h : ImgsKept c d) : ImgsKept c (pinAction op d) := h.gpioDrive

protected theorem ImgsKept.pinSide {act op p} (h : ImgsKept c d) : ImgsKept c (pinSide act op p d) := by
  unfold pinSide
  split
  · exact h.loadAll
  · exact h.pulse
  · exact h.pulse.phaseClose
  · exact h.pinAction
  · exact h

protected theorem ImgsKept.waitItem {i} (h : ImgsKept c d) : ImgsKept c (waitItem i d) := h.pairMod

protected theorem ImgsKept.hookWakes {p} (h : ImgsKept c d) : ImgsKept c (hookWakes p d) := h.forL fun h => .ite h h

protected theorem ImgsKept.pickAct {p t sd} (h : ImgsKept c d) : ImgsKept c (pickAct p t sd d) := by
  unfold pickAct
  extract_lets act op d1 d2 d3 d4
  have h1 : ImgsKept c d1 := h.sampleOwn.mirror.ite h
  have h2 : ImgsKept c d2 := h1.ite h1.mirror.servoAt
  have h3 : ImgsKept c d3 := h2.mirror.ite h2
  have h4 : ImgsKept c d4 := by
    unfold d4
    clear_value act d3
    split
    · exact h3.launchSample
    · exact h3.wake
    · exact h3.taskStart
    · exact h3.launchPick
    · exact h3.hankStep
    · exact h3.pinSide
  exact (h4.wake.ite h4).canLoadPick

protected theorem ImgsKept.pickShadow {p t} (h : ImgsKept c d) : ImgsKept c (pickShadow p t d) :=
  have h1 := h.waitItem.ite (h.wake.ite (h.beatNote.ite h))
  h1.wake.ite h1

protected theorem ImgsKept.countFiring {p t late} (h : ImgsKept c d) : ImgsKept c (countFiring p t late d) :=
  h.bump.bump.put.onlyIf (fun h => h.bumpSat.stick)

protected theorem ImgsKept.rearm {p skips} (h : ImgsKept c d) : ImgsKept c (rearm p skips d) := by
  unfold rearm
  extract_lets m time x predicted up target n angle pos x d1 fall moved k next d2 d3
  have h1 : ImgsKept c d1 := h
  have h3 : ImgsKept c d3 := h1.put.put.addSat.stick.ite h1.put.put
  exact (h1.put.predictPick.ite h1.put).ite (h3.ite h3.predictPick)

protected theorem ImgsKept.gpioEdgeAt {pin level frac} (h : ImgsKept c d) : ImgsKept c (gpioEdgeAt pin level frac d) := by
  unfold gpioEdgeAt
  extract_lets x inst own y d1 d2
  have h1 : ImgsKept c d1 := .putStrands (.put h)
  have h2 : ImgsKept c d2 := (h1.forL .alarmEdge).forL .axisPinEdge
  exact h.ite (h1.ite ((h2.forL .measPinEdge).setsEdge.edgeTakes.ite h2))

/-! The pair link. -/

protected theorem ImgsKept.linkAck {seq} (h : ImgsKept c d) : ImgsKept c (linkAck seq d) := h.linkSend

protected theorem ImgsKept.linkSeen (h : ImgsKept c d) : ImgsKept c (linkSeen d) :=
  have h1 := h.pairMod
  h1.clearFault.ite h1

protected theorem ImgsKept.itemLate (h : ImgsKept c d) : ImgsKept c (itemLate d) := h.stick.leaveShadow.ite h

protected theorem ImgsKept.linkOrder {seq} (h : ImgsKept c d) : ImgsKept c (linkOrder seq d).2 :=
  have h1 := h.pairMod
  h1.ite h1.pairMod.itemLate

protected theorem ImgsKept.linkTake {seq f} (h : ImgsKept c d) (hf : ∀ {e}, ImgsKept c e → ImgsKept c (f e)) : ImgsKept c (linkTake seq f d) :=
  have h1 := h.linkSeen.linkOrder.linkAck
  h.ite ((hf h1).ite h1)

protected theorem ImgsKept.pairAckRxAt {seq} (h : ImgsKept c d) : ImgsKept c (pairAckRxAt seq d) := h.ite h.linkSeen.pairMod

protected theorem ImgsKept.pairLinkRetransmitAt {seq} (h : ImgsKept c d) : ImgsKept c (pairLinkRetransmitAt seq d) := by
  unfold pairLinkRetransmitAt
  split
  · exact h
  · exact h.ite (h.pairMod.ite h.pairMod.send.bumpSat)

protected theorem ImgsKept.pairLinkDownAt (h : ImgsKept c d) : ImgsKept c (pairLinkDownAt d) := h.pairMod.put.raise.ite h

protected theorem ImgsKept.takeItem {i} (h : ImgsKept c d) : ImgsKept c (takeItem i d) :=
  have h1 := h.maxUp
  have h2 := (h1.pairMod.ite h1).waitItem
  h.ite (h2.itemLate.ite h2)

protected theorem ImgsKept.takeSnap {p} (h : ImgsKept c d) : ImgsKept c (takeSnap p d) := h.ite (h.pairMod.ite h.pairMod.snapTake.roleTo)

protected theorem ImgsKept.joinAsked {sequence} (h : ImgsKept c d) : ImgsKept c (joinAsked sequence d) :=
  have h1 := h.pairMod
  h.ite (h1.pairMod.ite h1.forwardImage)

protected theorem ImgsKept.roleReported {state epoch} (h : ImgsKept c d) : ImgsKept c (roleReported state epoch d) :=
  have h1 := h.pairMod.hearEpoch
  ((h1.depose.ite h1).ite h1.partnerIsActive).ite (h1.partnerLeaves.ite h1)

protected theorem ImgsKept.takeRole {m} (h : ImgsKept c d) : ImgsKept c (takeRole m d) := by
  unfold takeRole
  split
  · exact h.joinAsked
  · exact h.roleReported
  · exact h.standbyStagedReport.ite h
  · exact h.failedReport

protected theorem ImgsKept.mirrorTriple {n stamp b} (h : ImgsKept c d) : ImgsKept c (mirrorTriple n stamp b d) := by
  unfold mirrorTriple
  extract_lets p tk v x ssi own d1 d2
  have h1 : ImgsKept c d1 := h
  have h2 : ImgsKept c d2 := h1.putS.put.putStrandsS.ite h1
  split
  · exact h2.ite h2.stick.leaveShadow
  · exact h2

protected theorem ImgsKept.sampleFiring {g t} (h : ImgsKept c d) : ImgsKept c (sampleFiring g t d) := by
  unfold sampleFiring
  split
  · exact h.countFiring.syncPick
  · exact h

protected theorem ImgsKept.withPins {l f} (h : ImgsKept c d) (hf : ∀ {e}, ImgsKept c e → ImgsKept c (f e)) : ImgsKept c (withPins l f d) :=
  (hf (h.forL .setStrand)).forL .setStrand

protected theorem ImgsKept.replaySamples {g stamp t b} (h : ImgsKept c d) : ImgsKept c (replaySamples g stamp t b d) := by
  unfold replaySamples
  dsimp only
  refine .withPins ?_ (fun h => h.sampleFiring.launchSample)
  refine .forL ?_ .mirrorTriple
  refine (h.forL .putStrandsS).forL fun h1 => ?_
  split
  · exact h1
  · exact h1.loopCommand.ite (h1.putStrandsS.loopStatus.ite h1.putStrandsS.setLoop)

protected theorem ImgsKept.replayServo {p stamp t b} (h : ImgsKept c d) : ImgsKept c (replayServo p stamp t b d) := (h.forL .mirrorTriple).servoAt

protected theorem ImgsKept.replayFiring {p stamp t} (h : ImgsKept c d) : ImgsKept c (replayFiring p stamp t d) :=
  have h1 := h.countFiring.syncPick
  h1.launchPick.ite ((h1.ite (h1.taskStartWith (fun h => h))).ite h1)

protected theorem ImgsKept.replayImage {task t b} (h : ImgsKept c d) : ImgsKept c (replayImage task t b d) := by
  unfold replayImage
  split
  · exact h
  · refine h.taskStartWith fun h1 => ?_
    split
    · exact h1
    · exact h1.heldEnd.emptyBoxes.scanBegin

protected theorem ImgsKept.replayHost {index b} (h : ImgsKept c d) : ImgsKept c (replayHost index b d) := by
  unfold replayHost
  dsimp only
  split
  · exact h.hvarPost
  · split
    · exact h.clearReg
    · exact h
  · exact h.postHank
  · exact h.shuttleCtrl
  · exact h.commitAt.put
  · exact h

protected theorem ImgsKept.takenBox {n k} (h : ImgsKept c d) : ImgsKept c (takenBox n k d) := by
  unfold takenBox
  extract_lets holds code d1 one
  have h1 : ImgsKept c d1 := .ite h h
  split
  · exact h1.takeReq
  · exact h1

protected theorem ImgsKept.replayStaging {h' b} (h : ImgsKept c d) : ImgsKept c (replayStaging h' b d) :=
  (h.hankMod.forL .stageSet).ite h.replayDiverge

protected theorem ImgsKept.boxesPast {n} (h : ImgsKept c d) : ImgsKept c (boxesPast n d) := by
  refine ImgsKept.forL h fun h => ?_
  dsimp only
  split
  · exact h
  · exact h.hankMod

protected theorem ImgsKept.overridePly {p ws} (h : ImgsKept c d) : ImgsKept c (overridePly p ws d).2 := .putStrandsS h

protected theorem ImgsKept.replayOverride {index b} (h : ImgsKept c d) : ImgsKept c (replayOverride index b d) := by
  unfold replayOverride
  refine (h.taskMod.ite h).ite ?_
  split
  · exact h
  · exact ImgsKept.foldl_snd h .overridePly

protected theorem ImgsKept.showLag (h : ImgsKept c d) : ImgsKept c (showLag d) := h.put.setStrand

protected theorem ImgsKept.replayEnd {stamp b} (h : ImgsKept c d) : ImgsKept c (replayEnd stamp b d) :=
  have h1 := h.pairMod.showLag.boxesPast
  (h1.bumpSat.setEpoch.pairMod.roleTo.ite h1).ite (h1.ite h1.replayDiverge)

end

section

variable {c d : Dev}

theorem ActKeeps.ite {p : Prop} {_ : Decidable p} {a b : Act} (ha : ActKeeps c a) (hb : ActKeeps c b) : ActKeeps c (if p then a else b) := by
  split <;> assumption

/-- An error comes before anything is written. -/
theorem ActKeeps.err {k : Nat} : ActKeeps c (.err k) := trivial

theorem ImgsKept.done {x n} (h : ImgsKept c d) : ActKeeps c (.done x d n) := h

protected theorem ImgsKept.aluPut {t rd q cyc x} (h : ImgsKept c d) : ActKeeps c (aluPut t rd q cyc x d) :=
  h.aluFlags

end

/-! Every image of the device is checked (R27, R50). -/

/-- Every record of the image passes the loader's checks. -/
def Checked (m : Img) : Prop := ∀ r ∈ m.recs, checkRec m r = true

theorem ImgOk.kept {c d : Dev} (h : ImgOk c) (hk : ImgsKept c d) : ImgOk d := by
  obtain ⟨hi, hn⟩ := hk
  rintro m (hm | hm)
  · exact h m (.inl (hi ▸ hm))
  · rcases hn with hn | hn
    · exact h m (.inr (hn ▸ hm))
    · simp [hn] at hm

theorem ImgOk.setImg {m : Img} {d : Dev} (h : ImgOk d) (hm : Checked m) : ImgOk { d with img := some m } := by
  rintro k (hk | hk)
  · exact Option.some.inj hk ▸ hm
  · exact h k (.inr hk)

theorem ImgOk.setNext {m : Img} {d : Dev} (h : ImgOk d) (hm : Checked m) : ImgOk { d with next := some m } := by
  rintro k (hk | hk)
  · exact h k (.inl hk)
  · exact Option.some.inj hk ▸ hm

/-- A device with the image `m` alone. -/
theorem imgOk_of_img {m : Img} {d : Dev} (hm : Checked m) (hi : d.img = some m) (hn : d.next = none) : ImgOk d := by
  rintro k (hk | hk)
  · obtain rfl : m = k := Option.some.inj (hi.symm.trans hk)
    exact hm
  · simp [hn] at hk

theorem imgOk_of_none {d : Dev} (hi : d.img = none) (hn : d.next = none) : ImgOk d := by
  rintro k (hk | hk) <;> simp_all

/-! The loader (R27 to R36). -/

theorem firstReject_eq_none_iff {l : List (Option Reject)} : firstReject l = none ↔ ∀ x ∈ l, x = none := by
  induction l with
  | nil => simp [firstReject]
  | cons a l ih => cases a <;> simp [firstReject, ih]

/-- Step 5 passes only bodies whose records it has taken and checked. -/
theorem checked_of_step5 {id : Ident} {h body : List Nat} {changed : Bool} {m : Img} (hm : step5 id h body changed = .ok m) : Checked m := by
  unfold step5 at hm
  extract_lets raw idx framed len countOk opt img ordered recCheck at hm
  split at hm
  · cases hm
  · split at hm
    · cases hm
    · split at hm
      · cases hm
      next hrecs =>
        split at hm
        · cases hm
        · split at hm
          · cases hm
          · obtain rfl : img = m := Except.ok.inj hm
            intro r hr
            obtain ⟨⟨i, q⟩, hp, rfl : q = some r⟩ := List.mem_filterMap.1 hr
            have hnone : recCheck (i, some r) = none := firstReject_eq_none_iff.1 hrecs _ (List.mem_map_of_mem hp)
            simp only [recCheck] at hnone
            split at hnone <;> [cases hnone; skip]
            split at hnone <;> [cases hnone; skip]
            split at hnone <;> [assumption; cases hnone]

theorem checked_of_loadCopy {fuses : Nat} {id : Ident} {mem : List Host.Cell} {base : Nat} {changed : Bool} {l : Loaded}
    (hl : loadCopy fuses id mem base changed = .ok l) : Checked l.img := by
  unfold loadCopy at hl
  extract_lets h body at hl
  split at hl
  · cases hl
  · split at hl
    · cases hl
    next h5 =>
      cases hl
      exact checked_of_step5 h5

theorem checked_of_tryCopies {fuses : Nat} {id : Ident} {changed : Nat} {cs : List Nat} {d : Dev} {c : Nat} {l : Loaded}
    (h : (tryCopies fuses id changed cs d).2 = some (c, l)) : Checked l.img := by
  induction cs generalizing d with
  | nil => cases h
  | cons a cs ih =>
    unfold tryCopies at h
    split at h
    next hl =>
      cases h
      exact checked_of_loadCopy hl
    · exact ih h

theorem chooseCopy_snd (fuses : Nat) (id : Ident) (changed : Nat) (d : Dev) :
    ∃ cs e, (chooseCopy fuses id changed d).2 = (tryCopies fuses id changed cs e).2 := by
  unfold chooseCopy
  extract_lets order d1
  refine ⟨order, d1, ?_⟩
  clear_value order
  cases order <;> rfl

theorem checked_of_chooseCopy {fuses : Nat} {id : Ident} {changed : Nat} {d : Dev} {c : Nat} {l : Loaded}
    (h : (chooseCopy fuses id changed d).2 = some (c, l)) : Checked l.img := by
  obtain ⟨cs, e, he⟩ := chooseCopy_snd fuses id changed d
  exact checked_of_tryCopies (he.symm.trans h)

/-- An exchange's copy passes only after the loader's checks (R50). -/
theorem checked_of_xchgCheck {fuses : Nat} {id : Ident} {d : Dev} {m : Img} (h : xchgCheck fuses id d = .ok m) : Checked m := by
  unfold xchgCheck at h
  extract_lets b at h
  split at h
  · cases h
  · split at h
    · cases h
    next hl =>
      suffices heq : _ = m from heq ▸ checked_of_loadCopy hl
      split at h
      · exact Except.ok.inj h
      · split at h
        · split at h
          · exact Except.ok.inj h
          · cases h
        · cases h

/-! A start (R43, R44). -/

/-- From the device with the image taken, the blocks start without touching it. -/
theorem imgsKept_startBlocks (copy : Nat) (l : Loaded) (d : Dev) : ImgsKept { d with img := some l.img } (startBlocks copy l d) := by
  unfold startBlocks
  extract_lets u d1
  have h1 : ImgsKept { d with img := some l.img } d1 := ⟨rfl, .inl rfl⟩
  exact ((h1.onlyIf .raise).onlyIf .raise).put.takeImage.safetyStart.canStart.loopStart.storeStart.netStart.put.measStart.weftListen

theorem imgOk_startSteps {fuses : Nat} {id : Ident} {p : StartPins} {d : Dev} (h : ImgOk d) : ImgOk (startSteps fuses id p d) := by
  unfold startSteps
  extract_lets d1 d2 r
  have h1 : ImgsKept d d1 := (ImgsKept.refl d).startRepair
  split
  · have h2 : ImgsKept d d2 := h1.unitMod.put.raise
    exact h.kept (h2.startNumbering.netStart.ite h2)
  · have hr : ImgsKept d r.1 := h1.put.chooseCopy
    split
    next c l hcl => exact ((h.kept hr).setImg (checked_of_chooseCopy hcl)).kept (imgsKept_startBlocks c l r.1)
    · exact h.kept hr.loadFail

theorem imgOk_startOn {fuses : Nat} {id : Ident} {p : StartPins} {d : Dev} (h : ImgOk d) : ImgOk (startOn fuses id p d) := by
  unfold startOn
  extract_lets u d1 d2 closed
  have h2 : ImgsKept d d2 := ImgsKept.ite (ImgsKept.refl d).unitMod.put (ImgsKept.refl d).unitMod.put.raise
  split
  · exact h.kept h2.unitMod.showFuses.put.netStart
  · exact imgOk_startSteps (h.kept h2.showFuses)

theorem imgOk_startFrom {cause fuses : Nat} {id : Ident} {p : StartPins} {d : Dev} (h : ImgOk d) : ImgOk (startFrom cause fuses id p d) := by
  unfold startFrom
  extract_lets d1 d2
  have h1 : ImgsKept d d1 := ImgsKept.refl d
  have h2 : ImgsKept d d2 := h1.unitMod.showTrims.showIdent.startPins.startMonitors.putB.put.put
  split
  · exact h.kept h2.unitMod.put
  · split
    · exact h.kept h2.unitMod.put
    · exact imgOk_startOn (h.kept h2)

/-- A reset leaves no image. -/
theorem resetDev_imgs (phase : Phase) (d : Dev) : (resetDev phase d).img = none ∧ (resetDev phase d).next = none := by
  obtain ⟨hi, hn⟩ : ImgsKept _ (resetDev phase d) := (ImgsKept.refl _).safeLevels
  exact ⟨hi, hn.elim id id⟩

theorem imgOk_resetDev (phase : Phase) (d : Dev) : ImgOk (resetDev phase d) :=
  imgOk_of_none (resetDev_imgs phase d).1 (resetDev_imgs phase d).2

theorem imgOk_restartDev (d : Dev) : ImgOk (restartDev d) := (imgOk_resetDev .step1 d).kept ⟨rfl, .inl rfl⟩

theorem imgOk_startUnit {cause fuses : Nat} {id : Ident} {p : StartPins} {d : Dev} : ImgOk (startUnit cause fuses id p d) :=
  imgOk_startFrom (imgOk_resetDev .step1 d)

theorem imgOk_restartUnit {cold : Bool} {fuses : Nat} {id : Ident} {p : StartPins} {d : Dev} : ImgOk (restartUnit cold fuses id p d) :=
  imgOk_startFrom (imgOk_restartDev _)

/-! The other commands that start the unit. -/

section

variable {d : Dev} {p : StartPins} {fuses : Nat} {id : Ident}

theorem imgOk_ite {q : Prop} {_ : Decidable q} {d e : Dev} (hd : ImgOk d) (he : ImgOk e) : ImgOk (if q then d else e) := by
  split <;> assumption

theorem imgOk_pwrGoodRiseAt (h : ImgOk d) : ImgOk (pwrGoodRiseAt p fuses id d) := imgOk_ite imgOk_startUnit h

theorem imgOk_pwrGoodFallAt : ImgOk (pwrGoodFallAt d) := (imgOk_resetDev .reset d).kept (ImgsKept.refl _).unitMod

theorem imgOk_pfailStep1WaitEndAt (h : ImgOk d) : ImgOk (pfailStep1WaitEndAt p fuses id d) :=
  imgOk_ite (imgOk_startOn (h.kept (ImgsKept.refl d).startPins)) h

theorem imgOk_pfailRestartAt (h : ImgOk d) : ImgOk (pfailRestartAt p fuses id d) := imgOk_ite imgOk_startUnit h

theorem imgOk_monitorRestartAt (h : ImgOk d) : ImgOk (monitorRestartAt p fuses id d) := imgOk_ite imgOk_startUnit h

theorem imgOk_f4RestartAt (h : ImgOk d) : ImgOk (f4RestartAt p fuses id d) := imgOk_ite imgOk_restartUnit h

theorem imgOk_deposedRestartAt (h : ImgOk d) : ImgOk (deposedRestartAt p fuses id d) := imgOk_ite imgOk_restartUnit h

theorem imgOk_afterRestart (h : ImgOk d) : ImgOk (afterRestart p fuses id d) := imgOk_ite imgOk_restartUnit h

theorem imgOk_sresetPressEndAt {both : Bool} (h : ImgOk d) : ImgOk (sresetPressEndAt both p fuses id d) :=
  imgOk_ite imgOk_restartUnit (h.kept (ImgsKept.refl d).pressEnd)

/-! An exchange (R50, R51, R53). -/

theorem imgOk_exchangeReadbackDoneAt (h : ImgOk d) : ImgOk (exchangeReadbackDoneAt p fuses id d) := by
  unfold exchangeReadbackDoneAt
  split
  · exact h
  · split
    · exact h.kept (ImgsKept.refl d).put.xchgFailed
    · exact h.kept (ImgsKept.refl d).put.fresh.xchgFailed
    next o ho =>
      extract_lets d1 d2
      have h1 : ImgsKept d d1 := .put (.refl d)
      split
      · exact imgOk_restartUnit
      · have h2 : ImgOk d2 := ((h.kept h1).setNext (checked_of_xchgCheck ho)).kept (ImgsKept.refl _).xchgMod
        exact h2.kept ((ImgsKept.refl d2).xchgStaged.linkSend.ite (ImgsKept.refl d2).xchgProceed)

/-- The staged image becomes the running one (R53). -/
theorem imgOk_xchgTick {t : Nat} (h : ImgOk d) : ImgOk (xchgTick t d) := by
  unfold xchgTick
  split
  · exact h
  · extract_lets d1
    have h1 : ImgOk d1 := h.kept (ImgsKept.refl d).showOld
    clear_value d1
    split
    · exact h1
    next o ho =>
      split
      · exact h1
      · extract_lets d2 d3 v
        have h3 : ImgOk d3 := imgOk_of_img (h1 o (.inr ho)) rfl rfl
        exact h3.kept (ImgsKept.refl d3).xchgImage.put.fresh.record

theorem imgOk_afterFiring {k t : Nat} (h : ImgOk d) : ImgOk (afterFiring k t d) := by
  unfold afterFiring
  extract_lets d1 d2
  have h1 : ImgsKept d d1 := (ImgsKept.refl d).tick1Advance.setsTake
  have h2 : ImgsKept d d2 := h1.pickMark.ite h1
  exact (imgOk_xchgTick (h.kept h2.edgeTakes)).kept (ImgsKept.refl _).edgeWakes

theorem imgOk_pickFireAt {k : Nat} {sd : List (Nat × List Bool)} (h : ImgOk d) : ImgOk (pickFireAt k sd d) := by
  unfold pickFireAt
  extract_lets x owed t late quiet d1 d2 y d3 d4 d5
  have h1 : ImgsKept d d1 := (ImgsKept.refl d).xchgBegin
  have h2 : ImgsKept d d2 := h1.ite h1.countFiring
  have h3 : ImgsKept d d3 := ImgsKept.ite h2 h2.rearm
  have h4 : ImgsKept d d4 := (ImgsKept.hookWakes (h3.ite h3.syncPick)).ite h3
  have h5 : ImgsKept d d5 := h4.ite (h4.pickShadow.ite h4.pickAct)
  exact imgOk_ite h (imgOk_afterFiring (h.kept h5))

/-- A standby's replay begins and ends an exchange as a firing does. -/
theorem imgOk_replayItem {i : PairItem} (h : ImgOk d) : ImgOk (replayItem i d) := by
  unfold replayItem
  extract_lets t b d1 q q' k d2
  have h1 : ImgsKept d d1 := (ImgsKept.refl d).xchgBegin
  suffices h2 : ImgsKept d d2 from imgOk_xchgTick (h.kept h2)
  unfold d2
  split
  · exact h1.replayFiring
  · exact h1.replayServo.ite h1.replaySamples
  · exact h1.replayImage
  · exact h1.slotTake
  · exact h1.canMod
  · exact h1.loopMod
  · exact h1.replayHost
  · exact h1.takenBox.hankApply
  · exact h1.replayStaging
  · exact h1.replayEnd
  · exact h1.replayOverride
  · exact h1.pinSide

theorem imgOk_mirrorItemReplayAt (h : ImgOk d) : ImgOk (mirrorItemReplayAt d) := by
  unfold mirrorItemReplayAt
  split
  · exact h
  · split
    · exact h
    · exact imgOk_replayItem (h.kept (ImgsKept.refl d).pairMod)

end

namespace ImgOk

variable {s t : State} (h : ImgOk s.dev)

include h

/-- When the command comes. -/
protected theorem advance {dt} : ImgOk (advance dt s.dev) := h.kept (ImgsKept.refl _).advance

protected theorem onDevOk {dt f} (ht : onDev dt f s = .next t) (hf : ∀ {d}, ImgOk d → ImgOk (f d)) : ImgOk t.dev := by
  cases ht
  exact hf h.advance

protected theorem onDev {dt f} (ht : onDev dt f s = .next t) (hf : ∀ {c d}, ImgsKept c d → ImgsKept c (f d)) : ImgOk t.dev :=
  h.onDevOk ht fun h => h.kept (hf (.refl _))

protected theorem onUnit {dt f} (ht : onUnit dt f s = .next t) (hf : ∀ {d}, ImgOk d → ImgOk (f s.fuses s.ident d)) : ImgOk t.dev := by
  cases ht
  exact hf h.advance

protected theorem svcCmd {dt i h' op level kind f} (ht : svcCmd dt i h' op level kind f s = .next t)
    (hf : ∀ {c d}, ImgsKept c d → ImgsKept c (f d).dev) : ImgOk t.dev :=
  h.onDev ht fun h => h.svcTake hf

protected theorem isa {k w f} (ht : isa k w f s = .next t) (hf : ∀ {c x d}, ImgsKept c d → ActKeeps c (f x d)) : ImgOk t.dev := by
  cases ht
  exact h.kept ((ImgsKept.refl _).issue hf)

protected theorem regOp {op cyc smax useB even k rd ra rb sub f} (ht : regOp op cyc smax useB even k rd ra rb sub f s = .next t) :
    ImgOk t.dev :=
  h.isa ht fun h => ActKeeps.err.ite (ActKeeps.err.ite h.aluPut)

protected theorem loadOp {op cyc wide k rd ra x imm} (ht : loadOp op cyc wide k rd ra x imm s = .next t) : ImgOk t.dev :=
  h.isa ht fun h => by
    split
    · trivial
    · exact ActKeeps.err.ite (ActKeeps.err.ite h)

protected theorem storeOp {op cyc wide k rd ra x imm} (ht : storeOp op cyc wide k rd ra x imm s = .next t) : ImgOk t.dev :=
  h.isa ht fun h => by
    split
    · trivial
    · exact ActKeeps.err.ite (ActKeeps.err.ite h.storeAll)

protected theorem timerOp {op q k rd ra rb inst} (ht : timerOp op q k rd ra rb inst s = .next t) : ImgOk t.dev :=
  h.isa ht fun {c x d} h => by
    have h1 {r} : ImgsKept c { d with shu := { d.shu with retake := r } } := h
    exact ActKeeps.err.ite (ActKeeps.err.ite (ActKeeps.err.ite h1.storeAll))

protected theorem counterOp {op cyc q k rd ra rb inst} (ht : counterOp op cyc q k rd ra rb inst s = .next t) : ImgOk t.dev :=
  h.isa ht fun h => ActKeeps.err.ite (ActKeeps.err.ite h.storeAll)

protected theorem edgeOp {op rise k rd ra rb inst} (ht : edgeOp op rise k rd ra rb inst s = .next t) : ImgOk t.dev :=
  h.isa ht fun h => ActKeeps.err.ite (ActKeeps.err.ite h.storeAll)

end ImgOk

/-! Every command keeps the images checked (R27, R50). -/

theorem exec_imgOk_of_ne_window {c : Instr} {s t : State} (hc : ∀ dt, c ≠ .shareWindowEnd dt) (h : ImgOk s.dev)
    (ht : exec c s = .next t) : ImgOk t.dev := by
  have hk {dt} : ImgsKept s.dev (advance dt s.dev) := (ImgsKept.refl _).advance
  cases c
  case pwrGoodRise => exact h.onUnit ht imgOk_pwrGoodRiseAt
  case pwrGoodFall => exact h.onDevOk ht fun _ => imgOk_pwrGoodFallAt
  case pfailNFall => exact h.onDev ht .pfailNFallAt
  case pfailEventFreeze => exact h.onDev ht .pfailEventFreezeAt
  case powerFailRetainCopy => exact h.onDev ht .powerFailRetainCopyAt
  case pfailRestart => exact h.onUnit ht imgOk_pfailRestartAt
  case pfailStep1WaitEnd => exact h.onUnit ht imgOk_pfailStep1WaitEndAt
  case clockStop => exact h.onDev ht .clockStopAt
  case supplyFault => exact h.onDev ht .supplyFaultAt
  case monitorRestart => exact h.onUnit ht imgOk_monitorRestartAt
  case tjThreshold => exact h.onDev ht .tjThresholdAt
  case debugHalt =>
    cases ht
    exact h.kept hk.debugHaltAt
  case debugHaltEnd => exact h.onDev ht .debugHaltEndAt
  case serviceOpen => exact h.onDev ht .serviceOpenAt
  case serviceClose =>
    cases ht
    refine h.kept ?_
    dsimp only
    split
    · exact (hk.svcTake .okNone).endSession.ite (hk.svcTake .okNone)
    · exact hk.svcTake .okNone
  case serviceKeepalive => exact h.svcCmd ht .okNone
  case sessionKeepaliveExpiry => exact h.onDev ht .keepaliveExpiryAt
  case serviceRead => exact h.svcCmd ht .doRead
  case readStrands => exact h.svcCmd ht .doReadStrands
  case writeHvar => exact h.svcCmd ht .doWriteHvar
  case clearW1c => exact h.svcCmd ht .doClear
  case plyStoppedClear => exact h.svcCmd ht fun h => h.svcRefused.ite_dev h.doClear
  case taskFaultClear => exact h.svcCmd ht fun h => h.svcRefused.ite_dev h.doClear
  case fbFaultyClear => exact h.svcCmd ht fun h => h.svcRefused.ite_dev h.doClear
  case hankRequest => exact h.svcCmd ht .doHankRequest
  case streamArm => exact h.svcCmd ht .doStreamArm
  case streamDisarm => exact h.svcCmd ht .doStreamDisarm
  case traceArm => exact h.svcCmd ht .doTraceArm
  case traceTrigger => exact h.svcCmd ht .doTraceTrigger
  case traceRead => exact h.svcCmd ht .doTraceRead
  case shuttleHold => exact h.svcCmd ht .doShuttle
  case shuttleSingleScan => exact h.svcCmd ht .doShuttle
  case shuttleResume => exact h.svcCmd ht .doShuttle
  case imageTransfer => exact h.svcCmd ht .doTransfer
  case imageCommit => exact h.svcCmd ht .doCommit
  case imageAbort => exact h.svcCmd ht .doAbort
  case restartCold =>
    cases ht
    exact imgOk_afterRestart (h.kept (hk.svcTake .doRestart))
  case restartWarm =>
    cases ht
    exact imgOk_afterRestart (h.kept (hk.svcTake .doRestart))
  case orderlyStop => exact h.svcCmd ht .doOrderlyStop
  case orderlyStopHoldWaitEnd => exact h.onDev ht .orderlyStopHoldWaitEndAt
  case eventRead => exact h.svcCmd ht .doEventRead
  case snapRead => exact h.svcCmd ht .doSnapRead
  case fuseWrite =>
    cases ht
    exact h.kept (hk.svcTake .doFuse)
  case serviceUnknownOpcode => exact h.svcCmd ht .svcRefused
  case exchangeTransferTimeout => exact h.onDev ht .exchangeTransferTimeoutAt
  case exchangeReadbackDone => exact h.onUnit ht imgOk_exchangeReadbackDoneAt
  case exchangeStageTimeout => exact h.onDev ht .exchangeStageTimeoutAt
  case pickFire => exact h.onDevOk ht imgOk_pickFireAt
  case measureSamplePeriod => exact h.onDev ht .measureSamplePeriodAt
  case measureLostTimeout => exact h.onDev ht .measureLostTimeoutAt
  case threadDispatch => exact h.onDev ht .threadDispatchAt
  case threadWaitCommit => exact h.onDev ht .waitCommitAt
  case tick0Advance => exact h.onDev ht .tick0AdvanceAt
  case delayExpiry => exact h.onDev ht .delayDue
  case sliceExpiry => exact h.onDev ht .sliceExpiryAt
  case maxRunExpiry => exact h.onDev ht .maxRunExpiryAt
  case serviceShareExhausted => exact h.onDev ht .shareExhaustedAt
  case shareWindowEnd => exact absurd rfl (hc _)
  case coreLockstepMismatch =>
    cases ht
    exact h.kept (hk.doffCore.ite hk)
  case plyEvalComplete => exact h.onDev ht .plyEvalCompleteAt
  case plyPublish => exact h.onDev ht .plyPublishAt
  case traceCopyComplete => exact h.onDev ht .traceCopyCompleteAt
  case engineSelfTest => exact h.onDev ht .engineSelfTestAt
  case brakeTimeElapsed => exact h.onDev ht .brakeTimeElapsedAt
  case overcurrentTrip => exact h.onDev ht .overcurrentTripAt
  case sdStuck => exact h.onDev ht .sdStuckAt
  case sdChannelValid => exact h.onDev ht .sdChannelValidAt
  case pwmReload => exact h.onDev ht .pwmReloadAt
  case pwmCompareMatch => exact h.onDev ht .refreshPins
  case deadTimeExpiry => exact h.onDev ht .deadTimeExpiryAt
  case readbackError => exact h.onDev ht .readbackErrorAt
  case shootThrough => exact h.onDev ht .shootThroughAt
  case fbLineEdge => exact h.onDev ht .fbLineEdgeAt
  case fbLevelAccept => exact h.onDev ht .fbLevelAcceptAt
  case fbZeroTime => exact h.onDev ht .fbZeroTimeAt
  case fbErrRunReset => exact h.onDev ht .fbErrRunResetAt
  case fbAlarmTimeout => exact h.onDev ht .fbAlarmTimeoutAt
  case ssiReadComplete => exact h.onDev ht .ssiReadCompleteAt
  case gpioEdge => exact h.onDev ht .gpioEdgeAt
  case watchdogExpiry => exact h.onDev ht .watchdogExpiryAt
  case iNop => exact h.isa ht fun h => ActKeeps.err.ite h
  case iLdi => exact h.isa ht fun h => ActKeeps.err.ite h
  case iAddi => exact h.isa ht fun h => ActKeeps.err.ite h.aluPut
  case iBr =>
    refine h.isa ht fun h => ?_
    split
    · trivial
    · exact ActKeeps.err.ite (ActKeeps.ite h h)
  case iCall =>
    refine h.isa ht fun h => ?_
    split
    · trivial
    · exact ActKeeps.err.ite (ActKeeps.err.ite h)
  case iRet =>
    refine h.isa ht fun h => ActKeeps.err.ite ?_
    split
    · trivial
    · exact h
  case iEnd =>
    cases ht
    exact h.kept (ImgsKept.refl _).endScan
  case iPost => exact h.isa ht fun h => ActKeeps.err.ite (ActKeeps.err.ite h)
  case illegalOpcode =>
    cases ht
    exact h.kept (ImgsKept.refl _).illegalOpcodeAt
  case weftFrameRx => exact h.onDev ht .weftFrameRxAt
  case weftFrameTx => exact h.onDev ht .weftFrameTxAt
  case weftAssemblyClose => exact h.onDev ht .weftAssemblyCloseAt
  case weftDelivery => exact h.onDev ht .weftDeliveryAt
  case weftCycleEnd => exact h.onDev ht .weftCycleEndAt
  case listenTimeout => exact h.onDev ht .listenTimeoutAt
  case coldstartEchoDeadline => exact h.onDev ht .coldstartEchoDeadlineAt
  case syncLostRelisten => exact h.onDev ht .syncLostRelistenAt
  case reintTimeout => exact h.onDev ht .reintTimeoutAt
  case heddleMark => exact h.onDev ht .heddleMarkAt
  case heddleMarkMissing => exact h.onDev ht .heddleMarkMissingAt
  case heddleSpanEnd => exact h.onDev ht .heddleSpanEndAt
  case gdclkLost => exact h.onDev ht .gdclkLostAt
  case gdclkReturn => exact h.onDev ht .gdclkReturnAt
  case ethFrameRx => exact h.onDev ht .ethFrameRxAt
  case ethFrameTx => exact h.onDev ht .ethFrameTxAt
  case arpRequest => exact h.onDev ht .arpRequestAt
  case icmpEchoRequest => exact h.onDev ht .icmpEchoRequestAt
  case ptpSync => exact h.onDev ht .ptpSyncAt
  case ptpFollowUp => exact h.onDev ht .ptpFollowUpAt
  case ptpDelayReq => exact h.onDev ht .ptpDelayReqAt
  case ptpDelayResp => exact h.onDev ht .ptpDelayRespAt
  case ptpPdelayReq => exact h.onDev ht .ptpPdelayReqAt
  case ptpPdelayResp => exact h.onDev ht .ptpPdelayRespAt
  case ptpPdelayRespFollowUp => exact h.onDev ht .ptpPdelayRespFollowUpAt
  case ptpAnnounce => exact h.onDev ht .ptpAnnounceAt
  case ptpMgmtSignaling => exact h.onDev ht id
  case ptpSyncTimeout => exact h.onDev ht .ptpSyncTimeoutAt
  case ptpAnnounceTimeout => exact h.onDev ht .ptpAnnounceTimeoutAt
  case ptpTxInterval => exact h.onDev ht .ptpTxIntervalAt
  case ethRxAged =>
    cases ht
    exact h.kept hk.stick
  case ethLinkChange => exact h.onDev ht .ethLinkChangeAt
  case streamPacketClose =>
    cases ht
    exact h.kept (hk.strClose.ite hk)
  case canFrameRx => exact h.onDev ht .canFrameRxAt
  case canDelivery => exact h.onDev ht .canDeliveryAt
  case canPairTimeout => exact h.onDev ht .canPairTimeoutAt
  case canTxComplete => exact h.onDev ht .canTxCompleteAt
  case canTxError => exact h.onDev ht .canTxErrorAt
  case canBusError => exact h.onDev ht .canBusErrorAt
  case canIntegrationDone =>
    cases ht
    exact h.kept (hk.setCanState.ite hk)
  case canBusoffHoldExpiry => exact h.onDev ht .canBusoffHoldExpiryAt
  case canRecoveryDone => exact h.onDev ht .canRecoveryDoneAt
  case lpConversion => exact h.onDev ht .lpConversionAt
  case lpHeadroomSet => exact h.onDev ht .lpHeadroomSetAt
  case lpHeadroomClear =>
    cases ht
    exact h.kept (hk.put.setLoop.ite hk)
  case hartPollDue =>
    cases ht
    refine h.kept ?_
    dsimp only
    split
    · exact hk.hartServe.ite hk
    · exact hk
  case hartRequestSent =>
    cases ht
    exact h.kept (hk.loopMod.ite hk)
  case hartResponseRx => exact h.onDev ht .hartResponseRxAt
  case hartResponseTimeout => exact h.onDev ht .hartResponseTimeoutAt
  case hartSilenceEnd =>
    cases ht
    exact h.kept (hk.loopMod.hartServe.ite hk)
  case hartDelivery => exact h.onDev ht .hartDeliveryAt
  case storeProbeComplete => exact h.onDev ht .storeProbeCompleteAt
  case storeMountComplete => exact h.onDev ht .storeMountCompleteAt
  case nandReadComplete => exact h.onDev ht .nandReadCompleteAt
  case nandProgramComplete => exact h.onDev ht .nandProgramCompleteAt
  case nandEraseComplete => exact h.onDev ht .nandEraseCompleteAt
  case nandFeaturesComplete => exact h.onDev ht .nandFeaturesCompleteAt
  case nandResetComplete =>
    cases ht
    exact h.kept (hk.dieMod.dieNext.ite hk)
  case nandBusyTimeout => exact h.onDev ht .nandBusyTimeoutAt
  case zqCalibration =>
    cases ht
    exact h.kept ((hk.storeMod.forL .send).ite hk)
  case directoryJournal =>
    cases ht
    exact h.kept (hk.storeRound .saveDirectory)
  case directoryCheckpoint =>
    cases ht
    exact h.kept (hk.storeRound .directoryCheckpointAt)
  case scrubPass =>
    cases ht
    exact h.kept (hk.storeRound fun hk => hk.bumpSat.forL .refreshBlock)
  case dieRetirementComplete => exact h.onDev ht .dieRetirementCompleteAt
  case eventFlushTimer => exact h.onDev ht .eventFlushTimerAt
  case safetyInputEdge => exact h.onDev ht .safetyInputEdgeAt
  case safetyInputAccept => exact h.onDev ht .safetyInputAcceptAt
  case discTimeExpiry => exact h.onDev ht .discTimeExpiryAt
  case safetyMatrixEval => exact h.onDev ht .safetyMatrixEvalAt
  case safetyTimerExpiry => exact h.onDev ht .safetyTimerExpiryAt
  case testPulseStart => exact h.onDev ht .testPulseStartAt
  case testPulseEnd => exact h.onDev ht .testPulseEndAt
  case tpBlankingEnd => exact h.onDev ht .tpBlankingEndAt
  case procCommitTimeout =>
    cases ht
    exact h.kept (hk.put.raiseSafety.ite hk)
  case switchPTimeout =>
    cases ht
    exact h.kept ((hk.forL .safeCmd).ite hk)
  case crossCompareTimeout => exact h.onDev ht .crossCompareTimeoutAt
  case requestCrossing => exact h.onDev ht .requestCrossingAt
  case requestTimeout => exact h.onDev ht .requestTimeoutAt
  case readbackSettle => exact h.onDev ht .readbackSettleAt
  case srbEdge => exact h.onDev ht .srbEdgeAt
  case offPulseStart => exact h.onDev ht .offPulseStartAt
  case offPulseEnd => exact h.onDev ht .offPulseEndAt
  case sresetPressStart dt =>
    cases ht
    exact h.kept (.put (hk (dt := dt)))
  case sresetPressEnd => exact h.onUnit ht imgOk_sresetPressEndAt
  case safetyDomainFault => exact h.onDev ht .safetyDomainFaultAt
  case pairItemsRx =>
    cases ht
    exact h.kept (hk.linkTake fun hk => hk.forL .takeItem)
  case pairStateRx =>
    cases ht
    exact h.kept (hk.linkTake .takeSnap)
  case pairImageRx =>
    cases ht
    exact h.kept (hk.linkTake .takeForwarded)
  case pairAckRx => exact h.onDev ht .pairAckRxAt
  case pairRoleControlRx =>
    cases ht
    exact h.kept (hk.linkTake .takeRole)
  case mirrorItemReplay => exact h.onDevOk ht imgOk_mirrorItemReplayAt
  case pairLinkRetransmit => exact h.onDev ht .pairLinkRetransmitAt
  case pairLinkDown => exact h.onDev ht .pairLinkDownAt
  case peerActiveFall => exact h.onDev ht .peerActiveFallAt
  case negotiationEnd => exact h.onDev ht .negotiationEndAt
  case joinTimeout => exact h.onDev ht .joinTimeoutAt
  case joinRetry => exact h.onDev ht .joinRetryAt
  case takeoverBoundary => exact h.onDev ht .takeoverBoundaryAt
  case holdLimitExpiry => exact h.onDev ht .holdLimitExpiryAt
  case deposedRestart => exact h.onUnit ht imgOk_deposedRestartAt
  case migrationBarrier => exact h.onDev ht .migrationBarrierAt
  case sramEccCorrectable => exact h.onDev ht .sramEccCorrectableAt
  case sramEccUncorrectable => exact h.onDev ht .sramEccUncorrectableAt
  case sramRowCopyComplete => exact h.onDev ht .sramRowCopyCompleteAt
  case bistSlice => exact h.onDev ht .bistSliceAt
  case ageCheck => exact h.onDev ht .ageCheckAt
  case shuttleResidueFailure =>
    cases ht
    exact h.kept (hk.moveTo.doffShu.ite hk)
  case registerWrite => exact h.onDev ht .registerWriteAt
  case sdInputToggle => exact h.onDev ht .sdInputToggleAt
  case f4Restart => exact h.onUnit ht imgOk_f4RestartAt
  case addressTableAgeOut => exact h.onDev ht .addressTableAgeOutAt
  case iLd | iLdt => exact h.loadOp ht
  case iSt | iStt => exact h.storeOp ht
  case iMov | iMovt | iAdd | iSub | iMul | iDiv | iMod | iNeg | iAbs | iAnd | iOr | iXor | iNot | iShl | iShr | iBnot | iTobool | iCmp | iCmpt |
      iCmpf | iSel | iMin | iMax | iLimit | iSat16 | iFadd | iFsub | iFmul | iFdiv | iFsqrt | iFneg | iItof | iFtoi | iQtof | iFtoq | iAddt |
      iSubt | iItot | iTtoi => exact h.regOp ht
  case iTon | iTof | iTp => exact h.timerOp ht
  case iCtu | iCtd | iCtud => exact h.counterOp ht
  case iRtrig | iFtrig => exact h.edgeOp ht

/-! Commands held to the end of a share window (R511). -/

/-- A held command runs as it does from the queue, or is dropped. -/
theorem runHeld_eq_exec (i : Instr) (s : State) :
    runHeld i s = .next s ∨ ∃ c, (∀ dt, c ≠ .shareWindowEnd dt) ∧ runHeld i s = exec c s := by
  cases i
  case imageTransfer _ h offset bytes => exact .inr ⟨.imageTransfer 0 h offset bytes, nofun, rfl⟩
  case imageCommit _ h sc => exact .inr ⟨.imageCommit 0 h sc, nofun, rfl⟩
  case imageAbort _ h => exact .inr ⟨.imageAbort 0 h, nofun, rfl⟩
  case serviceClose _ h => exact .inr ⟨.serviceClose 0 h, nofun, rfl⟩
  case serviceKeepalive _ h => exact .inr ⟨.serviceKeepalive 0 h, nofun, rfl⟩
  case serviceUnknownOpcode _ h opcode => exact .inr ⟨.serviceUnknownOpcode 0 h opcode, nofun, rfl⟩
  case serviceRead _ h addr len => exact .inr ⟨.serviceRead 0 h addr len, nofun, rfl⟩
  case readStrands _ h ids => exact .inr ⟨.readStrands 0 h ids, nofun, rfl⟩
  case eventRead _ h first limit mx sevMin => exact .inr ⟨.eventRead 0 h first limit mx sevMin, nofun, rfl⟩
  case snapRead _ h capture offset len => exact .inr ⟨.snapRead 0 h capture offset len, nofun, rfl⟩
  case traceRead _ h buffer first rows => exact .inr ⟨.traceRead 0 h buffer first rows, nofun, rfl⟩
  case writeHvar _ h varId value => exact .inr ⟨.writeHvar 0 h varId value, nofun, rfl⟩
  case clearW1c _ h addr mask => exact .inr ⟨.clearW1c 0 h addr mask, nofun, rfl⟩
  case plyStoppedClear _ h ply => exact .inr ⟨.plyStoppedClear 0 h ply, nofun, rfl⟩
  case taskFaultClear _ h task => exact .inr ⟨.taskFaultClear 0 h task, nofun, rfl⟩
  case fbFaultyClear _ h iface => exact .inr ⟨.fbFaultyClear 0 h iface, nofun, rfl⟩
  case hankRequest _ h hank req => exact .inr ⟨.hankRequest 0 h hank req, nofun, rfl⟩
  case streamArm _ h stream addr port => exact .inr ⟨.streamArm 0 h stream addr port, nofun, rfl⟩
  case streamDisarm _ h stream => exact .inr ⟨.streamDisarm 0 h stream, nofun, rfl⟩
  case traceArm _ h buffer => exact .inr ⟨.traceArm 0 h buffer, nofun, rfl⟩
  case traceTrigger _ h buffer => exact .inr ⟨.traceTrigger 0 h buffer, nofun, rfl⟩
  case shuttleHold _ h tasks bkpts => exact .inr ⟨.shuttleHold 0 h tasks bkpts, nofun, rfl⟩
  case shuttleSingleScan _ h tasks => exact .inr ⟨.shuttleSingleScan 0 h tasks, nofun, rfl⟩
  case shuttleResume _ h tasks => exact .inr ⟨.shuttleResume 0 h tasks, nofun, rfl⟩
  case fuseWrite _ h field value => exact .inr ⟨.fuseWrite 0 h field value, nofun, rfl⟩
  case restartCold _ h pins => exact .inr ⟨.restartCold 0 h pins, nofun, rfl⟩
  case restartWarm _ h pins => exact .inr ⟨.restartWarm 0 h pins, nofun, rfl⟩
  case orderlyStop _ h => exact .inr ⟨.orderlyStop 0 h, nofun, rfl⟩
  all_goals exact .inl rfl

/-- What every command run from the queue keeps, the commands held to the end of a window keep. -/
theorem runSlot_keeps {P : State → Prop}
    (hk : ∀ {s : State} {f : Dev → Dev}, (∀ {c d}, ImgsKept c d → ImgsKept c (f d)) → P s → P { s with dev := f s.dev })
    (hx : ∀ {c s t}, (∀ dt, c ≠ .shareWindowEnd dt) → P s → exec c s = .next t → P t) {s : State} (k : Nat) (h : P s) : P (runSlot s k) := by
  unfold runSlot
  split
  · exact h
  next i _ =>
    have hs : P { s with dev := sessMod k (fun x => { x with held := none }) s.dev } := hk .sessMod h
    split
    next t ht =>
      rcases runHeld_eq_exec i { s with dev := sessMod k (fun x => { x with held := none }) s.dev } with hr | ⟨c, hc, hr⟩
      · cases hr.symm.trans ht
        exact hs
      · exact hx hc hs (hr.symm.trans ht)
    · exact h

theorem foldl_runSlot_keeps {P : State → Prop} (hP : ∀ {s} k, P s → P (runSlot s k)) {s : State} (l : List Nat) (h : P s) :
    P (l.foldl runSlot s) := by
  induction l generalizing s with
  | nil => exact h
  | cons k l ih => exact ih (hP k h)

/-- Every command keeps the images checked. -/
theorem exec_imgOk {c : Instr} {s t : State} (h : ImgOk s.dev) (ht : exec c s = .next t) : ImgOk t.dev := by
  by_cases hc : ∃ dt, c = .shareWindowEnd dt
  · obtain ⟨dt, rfl⟩ := hc
    have hw : ImgOk (shareWindowEndAt (advance dt s.dev)) := h.kept (ImgsKept.refl _).advance.shareWindowEndAt
    have hslot {s : State} (k : Nat) : ImgOk s.dev → ImgOk (runSlot s k).dev :=
      runSlot_keeps (P := fun s => ImgOk s.dev) (fun hf h => h.kept (hf (.refl _))) exec_imgOk_of_ne_window k
    cases ht
    split
    · exact hw
    · exact foldl_runSlot_keeps (P := fun s => ImgOk s.dev) hslot (List.range 16) hw
  · exact exec_imgOk_of_ne_window (fun dt hdt => hc ⟨dt, hdt⟩) h ht

/-- Settles O5: the loader passes only checked copies, and no function of the device takes an image from elsewhere. -/
theorem imagesStayChecked : Obligations.ImagesStayChecked := by
  refine ⟨fun _ _ _ _ _ _ => checked_of_loadCopy, fun s t h ht => ?_⟩
  unfold step at ht
  split at ht
  · cases ht
    exact h.kept (ImgsKept.refl _).advance
  next rest _ => exact exec_imgOk (s := { s with pending := rest }) h ht

/-! Fuses (R39, R40). -/

/-- From `f` to `g` bits only went from 0 to 1, and only bits of the fields that FUSE_WRITE names. -/
def Blown (f g : Nat) : Prop :=
  ∀ k, (f.testBit k = true → g.testBit k = true) ∧ ((579 ≤ k ∧ k < 640) ∨ 896 ≤ k → g.testBit k = f.testBit k)

theorem Blown.refl (f : Nat) : Blown f f := fun _ => ⟨id, fun _ => rfl⟩

theorem Blown.trans {f g e : Nat} (h : Blown f g) (k : Blown g e) : Blown f e :=
  fun i => ⟨fun hi => (k i).1 ((h i).1 hi), fun hi => ((k i).2 hi).trans ((h i).2 hi)⟩

theorem fuseRange_bounds {field lo w : Nat} (h : fuseRange field = some (lo, w)) : lo + w ≤ 579 ∨ (640 ≤ lo ∧ lo + w ≤ 896) := by
  unfold fuseRange at h
  split at h <;> cases h <;> decide

theorem blown_blow (field value f : Nat) : Blown f (blow field value f) := by
  unfold blow
  split
  next lo w hr =>
    intro k
    have hb := fuseRange_bounds hr
    rw [setBits_testBit]
    split
    next hk =>
      refine ⟨fun hf => ?_, fun ho => by omega⟩
      have hlo : lo + (k - lo) = k := by omega
      have hw : k - lo < w := by omega
      simp [bits_testBit, hlo, hw, hf]
    · exact ⟨id, fun _ => rfl⟩
  · exact .refl f

/-- A command other than FUSE_WRITE and the end of a share window acts on the device alone. -/
theorem exec_next_dev (c : Instr) (s : State) (hf : ∀ dt h field value, c ≠ .fuseWrite dt h field value)
    (hw : ∀ dt, c ≠ .shareWindowEnd dt) : ∃ d, exec c s = .next { s with dev := d } := by
  cases c
  case fuseWrite => exact absurd rfl (hf _ _ _ _)
  case shareWindowEnd => exact absurd rfl (hw _)
  all_goals exact ⟨_, rfl⟩

theorem exec_fuses {c : Instr} {s t : State} (ht : exec c s = .next t) (hf : ∀ dt h field value, c ≠ .fuseWrite dt h field value)
    (hw : ∀ dt, c ≠ .shareWindowEnd dt) : t.fuses = s.fuses := by
  obtain ⟨d, hd⟩ := exec_next_dev c s hf hw
  cases hd.symm.trans ht
  rfl

theorem blown_fuseWrite {dt : Nat} {h : SvcHdr} {field value : Nat} {s t : State} (ht : exec (.fuseWrite dt h field value) s = .next t) :
    Blown s.fuses t.fuses := by
  cases ht
  split
  · exact blown_blow field value s.fuses
  · exact .refl _

theorem blown_of_ne_window {c : Instr} {s t : State} (hc : ∀ dt, c ≠ .shareWindowEnd dt) (ht : exec c s = .next t) :
    Blown s.fuses t.fuses := by
  by_cases hf : ∃ dt h field value, c = .fuseWrite dt h field value
  · obtain ⟨dt, h, field, value, rfl⟩ := hf
    exact blown_fuseWrite ht
  · rw [exec_fuses ht (fun dt h field value hcf => hf ⟨dt, h, field, value, hcf⟩) hc]
    exact .refl _

theorem exec_blown {c : Instr} {s t : State} (ht : exec c s = .next t) : Blown s.fuses t.fuses := by
  by_cases hc : ∃ dt, c = .shareWindowEnd dt
  · obtain ⟨dt, rfl⟩ := hc
    have hslot {u : State} (k : Nat) : Blown s.fuses u.fuses → Blown s.fuses (runSlot u k).fuses :=
      runSlot_keeps (P := fun u => Blown s.fuses u.fuses) (fun _ h => h) (fun hc h hx => h.trans (blown_of_ne_window hc hx)) k
    cases ht
    split
    · exact .refl _
    · exact foldl_runSlot_keeps (P := fun u => Blown s.fuses u.fuses) hslot (List.range 16) (.refl _)
  · exact blown_of_ne_window (fun dt hdt => hc ⟨dt, hdt⟩) ht

theorem step_blown {s t : State} (ht : step s = .next t) : Blown s.fuses t.fuses := by
  unfold step at ht
  split at ht
  · cases ht
    exact .refl _
  next rest _ => exact exec_blown (s := { s with pending := rest }) ht

/-- The bits from 896 on stay clear. -/
theorem Blown.lt_two_pow {f g n : Nat} (h : Blown f g) (hn : 896 ≤ n) (hf : f < 2 ^ n) : g < 2 ^ n := by
  refine Nat.lt_pow_two_of_testBit g fun k hk => ?_
  rw [(h k).2 (.inr (hn.trans hk))]
  exact Nat.testBit_lt_two_pow (lt_of_lt_of_le hf (Nat.pow_le_pow_right (by decide) hk))

/-- Settles O4: a command changes the fuses only by `blow`, which sets bits of one named field. -/
theorem fusesOnlyBlow : Obligations.FusesOnlyBlow := by
  refine ⟨fun s t hs ht => ?_, fun _ _ _ => exec_fuses⟩
  have hb := step_blown ht
  exact ⟨hb.lt_two_pow (by decide) hs, fun k => (hb k).1, fun k => (hb k).2⟩

/-! ## The flash (R23) -/

/-- Bytes written read back, and every other byte is as before. -/
theorem flashGet_flashPut (bs : List Nat) (a b : Nat) (mem : List Host.Cell) :
    flashGet (flashPut a bs mem) b = if a ≤ b ∧ b < a + bs.length then bs.getD (b - a) 0 % 256 else flashGet mem b := by
  induction bs generalizing a mem with
  | nil =>
    simp [flashPut]
  | cons x bs ih =>
    rw [flashPut, ih]
    by_cases hb : b = a
    · subst hb
      simp [flashGet_flashSet_same]
    · rw [flashGet_flashSet_other a x b mem hb]
      by_cases hin : a + 1 ≤ b ∧ b < a + 1 + bs.length
      · have hs : b - a = b - (a + 1) + 1 := by omega
        have hin' : a ≤ b ∧ b < a + (x :: bs).length := by simp; omega
        rw [if_pos hin, if_pos hin', hs, List.getD_cons_succ]
      · have hin' : ¬(a ≤ b ∧ b < a + (x :: bs).length) := by simp; omega
        rw [if_neg hin, if_neg hin']

/-- A table cut down to the keys that `p` names. -/
theorem Tab.get_filter_key {α : Type} (z : α) (p : Nat → Bool) (k : Nat) (t : Tab α) :
    Tab.get z (t.filter fun c => p c.1) k = if p k then t.get z k else z := by
  induction t with
  | nil => simp [Tab.get]
  | cons c t ih =>
    obtain ⟨i, v⟩ := c
    by_cases hi : i = k
    · subst hi
      cases hp : p i
      · simp [hp, ih]
      · simp [hp, Tab.get]
    · cases hp : p i <;> simp [hp, Tab.get, hi, ih]

/-- An erased byte reads 0xFF. -/
theorem flashGet_flashErase (lo hi b : Nat) (mem : List Host.Cell) :
    flashGet (flashErase lo hi mem) b = if lo ≤ b ∧ b < hi then 255 else flashGet mem b := by
  unfold flashGet flashErase
  rw [Tab.get_filter_key 255 (fun k => decide (k < lo ∨ hi ≤ k)) b mem]
  by_cases hb : lo ≤ b ∧ b < hi
  · have hn : ¬(b < lo ∨ hi ≤ b) := by omega
    simp [hb, hn]
  · have hn : b < lo ∨ hi ≤ b := by omega
    simp [hb, hn]

/-! Reading a run of bytes. -/

theorem Tab.lt_of_above {α : Type} {lo : Nat} {t : Tab α} (h : Tab.above lo t = true) {c : Nat × α} (hc : c ∈ t) : lo < c.1 := by
  induction t generalizing lo with
  | nil => cases hc
  | cons x t ih =>
    simp only [Tab.above, Bool.and_eq_true, decide_eq_true_eq] at h
    rcases List.mem_cons.1 hc with rfl | hc
    · exact h.1
    · exact h.1.trans (ih h.2 hc)

/-- The cells of a table from key `a` on. -/
theorem Tab.sorted_dropWhile {α : Type} (a : Nat) {t : Tab α} (h : Tab.sorted t = true) :
    Tab.sorted (t.dropWhile fun c => decide (c.1 < a)) = true := by
  induction t with
  | nil => rfl
  | cons c t ih =>
    rw [List.dropWhile_cons]
    split
    · exact ih (Tab.above_sorted h)
    · exact h

theorem Tab.le_of_mem_dropWhile {α : Type} (a : Nat) {t : Tab α} (h : Tab.sorted t = true) {c : Nat × α}
    (hc : c ∈ t.dropWhile fun c => decide (c.1 < a)) : a ≤ c.1 := by
  induction t with
  | nil => cases hc
  | cons x t ih =>
    rw [List.dropWhile_cons] at hc
    split at hc
    · exact ih (Tab.above_sorted h) hc
    next hx =>
      have hle : a ≤ x.1 := by simpa using hx
      rcases List.mem_cons.1 hc with rfl | hc
      · exact hle
      · exact hle.trans (Tab.lt_of_above h hc).le

theorem Tab.get_dropWhile {α : Type} (z : α) {a k : Nat} (hk : a ≤ k) (t : Tab α) :
    Tab.get z (t.dropWhile fun c => decide (c.1 < a)) k = t.get z k := by
  induction t with
  | nil => rfl
  | cons x t ih =>
    obtain ⟨i, v⟩ := x
    rw [List.dropWhile_cons]
    split
    next hx =>
      have hi : i ≠ k := by simp at hx; omega
      simp [ih, Tab.get, hi]
    · rfl

/-- A walk over sorted cells from `a` on reads the byte at `a` and goes on over the cells behind it. -/
theorem flashWalk_succ (n a : Nat) (t : List Host.Cell) (hs : Tab.sorted t = true) (ha : ∀ c ∈ t, a ≤ c.1) :
    ∃ u, Tab.sorted u = true ∧ (∀ c ∈ u, a + 1 ≤ c.1) ∧ flashWalk (n + 1) a t = flashGet t a :: flashWalk n (a + 1) u ∧
      ∀ b, a + 1 ≤ b → flashGet u b = flashGet t b := by
  cases t with
  | nil => exact ⟨[], rfl, by simp, rfl, fun _ _ => rfl⟩
  | cons c t =>
    obtain ⟨k, v⟩ := c
    have hk : a ≤ k := ha (k, v) List.mem_cons_self
    have hgt : ∀ c ∈ t, k < c.1 := fun c hc => Tab.lt_of_above hs hc
    by_cases hka : k = a
    · subst hka
      refine ⟨t, Tab.above_sorted hs, hgt, by simp [flashWalk, flashGet, Tab.get], fun b hb => ?_⟩
      have hne : k ≠ b := by omega
      simp [flashGet, Tab.get, hne]
    · have hlt : a < k := by omega
      have habove : Tab.above a ((k, v) :: t) = true := by simpa [Tab.above, Tab.sorted, hlt] using hs
      have hget : flashGet ((k, v) :: t) a = 255 := by rw [flashGet, Tab.get_of_above 255 a a _ habove le_rfl]; rfl
      exact ⟨(k, v) :: t, hs, fun c hc => Tab.lt_of_above habove hc, by simp [flashWalk, hka, hget], fun _ _ => rfl⟩

theorem flashWalk_eq_map (n a : Nat) (t : List Host.Cell) (hs : Tab.sorted t = true) (ha : ∀ c ∈ t, a ≤ c.1) :
    flashWalk n a t = (List.range n).map fun k => flashGet t (a + k) := by
  induction n generalizing a t with
  | zero => rfl
  | succ n ih =>
    obtain ⟨u, hu, hau, hw, hget⟩ := flashWalk_succ n a t hs ha
    rw [hw, ih (a + 1) u hu hau, List.range_succ_eq_map, List.map_cons, List.map_map]
    refine congrArg (flashGet t a :: ·) (List.map_congr_left fun k _ => ?_)
    rw [hget (a + 1 + k) (by omega), Function.comp_apply, Nat.add_right_comm, Nat.add_assoc]

theorem flashBytes_eq_map (mem : List Host.Cell) (a n : Nat) (h : Memory.wf mem = true) :
    flashBytes mem a n = (List.range n).map fun k => flashGet mem (a + k) := by
  have hs := Memory.wf_sorted h
  unfold flashBytes
  rw [flashWalk_eq_map n a _ (Tab.sorted_dropWhile a hs) fun c hc => Tab.le_of_mem_dropWhile a hs hc]
  refine List.map_congr_left fun k _ => ?_
  unfold flashGet
  rw [Tab.get_dropWhile 255 (Nat.le_add_right a k) mem]

/-- Settles O6: what an operation leaves at each byte, read off the table of listed bytes. -/
theorem flashForm : Obligations.FlashForm := by
  refine ⟨fun a v mem h => ⟨flashSet_wf a v h, flashGet_flashSet_same a v mem, fun b hb => flashGet_flashSet_other a v b mem hb⟩,
    fun a bs mem h => ⟨flashPut_wf bs a h, fun k hk => ?_, fun b hb => ?_⟩,
    fun lo hi mem h => ⟨flashErase_wf lo hi h, fun b => flashGet_flashErase lo hi b mem⟩,
    fun a n mem h => flashBytes_eq_map mem a n h⟩
  · simp [flashGet_flashPut, hk]
  · have hn : ¬(a ≤ b ∧ b < a + bs.length) := by omega
    rw [flashGet_flashPut, if_neg hn]

/-! ## What step 4 rejects (R33, R35, R36) -/

/-- The thermometer counts the 1 bits below its first 0. -/
theorem thermoCount_eq_iff (m t n : Nat) (hn : n ≤ m) :
    thermoCount m t = n ↔ (∀ k, k < n → t.testBit k = true) ∧ (n < m → t.testBit n = false) := by
  induction m generalizing t n with
  | zero =>
    obtain rfl : n = 0 := Nat.le_zero.1 hn
    simp [thermoCount]
  | succ m ih =>
    have h0 : t.testBit 0 = decide (t % 2 = 1) := Nat.testBit_zero t
    rw [thermoCount]
    cases n with
    | zero => by_cases ht : t % 2 = 1 <;> simp [h0, ht]
    | succ n =>
      have hs (k : Nat) : t.testBit (k + 1) = (t / 2).testBit k := Nat.testBit_succ t k
      by_cases ht : t % 2 = 1
      · have hall : (∀ k, k < n + 1 → t.testBit k = true) ↔ ∀ k, k < n → (t / 2).testBit k = true := by
          refine ⟨fun h k hk => hs k ▸ h (k + 1) (Nat.succ_lt_succ hk), fun h k hk => ?_⟩
          cases k with
          | zero => simp [h0, ht]
          | succ k => exact (hs k).trans (h k (Nat.lt_of_succ_lt_succ hk))
        rw [if_pos ht, hall, hs n, Nat.add_lt_add_iff_right, ← ih (t / 2) n (Nat.le_of_succ_le_succ hn)]
        omega
      · rw [if_neg ht]
        refine ⟨fun h => absurd h (Nat.succ_ne_zero n).symm, fun h => absurd (h.1 0 n.succ_pos) ?_⟩
        simp [h0, ht]

theorem arbCount_eq_iff (fuses n : Nat) (hn : n ≤ 64) :
    arbCount fuses = n ↔ (∀ k, k < n → fuses.testBit (512 + k) = true) ∧ (n < 64 → fuses.testBit (512 + n) = false) := by
  have hb (k : Nat) (hk : k < 64) : (fuseField fuses 512 64).testBit k = fuses.testBit (512 + k) := by
    simp [fuseField, bits_testBit, hk]
  unfold arbCount
  rw [thermoCount_eq_iff 64 _ n hn]
  refine and_congr (forall_congr' fun k => imp_congr_right fun hk => ?_) (imp_congr_right fun h => ?_)
  · rw [hb k (hk.trans_le hn)]
  · rw [hb n h]

/-- The slots that authorise nothing. -/
theorem authOk_eq_false {fuses : Nat} {h : List Nat}
    (hs : (hdrU h PHDR_KEY_SLOT ≠ 0 ∧ hdrU h PHDR_KEY_SLOT ≠ 1 ∧ hdrU h PHDR_KEY_SLOT ≠ 0xFF) ∨ (hdrU h PHDR_KEY_SLOT = 0 ∧ bits fuses 0 256 = 0) ∨
      (hdrU h PHDR_KEY_SLOT = 1 ∧ bits fuses 256 256 = 0) ∨ (hdrU h PHDR_KEY_SLOT = 0 ∧ bits fuses 256 256 ≠ 0)) :
    authOk fuses h = false := by
  unfold authOk
  rcases hs with ⟨h0, h1, hff⟩ | ⟨h0, hk⟩ | ⟨h1, hk⟩ | ⟨h0, hk⟩
  · simp [h0, h1, hff]
  · simp [h0, hk, fuseField]
  · simp [h1, hk, fuseField]
  · simp [h0, hk, fuseField]

theorem rollbackOk_iff {fuses : Nat} {h : List Nat} :
    rollbackOk fuses h = true ↔ arbCount fuses ≤ hdrU h PHDR_SEQUENCE / 2 ^ 24 ∧ hdrU h PHDR_SEQUENCE / 2 ^ 24 ≤ 64 :=
  decide_eq_true_iff

theorem partOk_iff {id : Ident} {h : List Nat} :
    partOk id h = true ↔ hdrU h PHDR_PART / 16 = ID_PART.reset / 16 ∧ (hdrU h PHDR_PART % 16 = 0 ∨ hdrU h PHDR_PART % 16 = ID_PART.reset % 16) ∧
      hdrU h PHDR_MIN_SILICON ≤ id.major * 256 + id.minor ∧ hdrU h PHDR_MIN_BUILD ≤ id.build := by
  have hq : ID_PART.reset / 16 = 0x6A14816 := rfl
  have hr : ID_PART.reset % 16 = 1 := rfl
  rw [hq, hr]
  simp [partOk, and_assoc]

section

variable {fuses : Nat} {id : Ident} {h body : List Nat}

theorem step4_of_not_authOk (hd : sha256 body = beVal ((h.drop 176).take 32)) (ha : authOk fuses h = false) :
    step4 fuses id h body = some { code := 0x0204 } := by
  unfold step4
  rw [if_neg (not_not.2 hd), ha]
  rfl

theorem step4_of_not_rollbackOk (hd : sha256 body = beVal ((h.drop 176).take 32)) (ha : authOk fuses h = true)
    (hr : rollbackOk fuses h = false) : step4 fuses id h body = some { code := 0x0205 } := by
  unfold step4
  rw [if_neg (not_not.2 hd), ha, hr]
  rfl

theorem step4_of_not_partOk (hd : sha256 body = beVal ((h.drop 176).take 32)) (ha : authOk fuses h = true)
    (hr : rollbackOk fuses h = true) (hp : partOk id h = false) : step4 fuses id h body = some { code := 0x0206 } := by
  unfold step4
  rw [if_neg (not_not.2 hd), ha, hr, hp]
  rfl

/-- A level in range is not what step 4 rejects. -/
theorem step4_ne_rollback (ha : authOk fuses h = true) (hr : rollbackOk fuses h = true) :
    step4 fuses id h body ≠ some { code := 0x0205 } := by
  unfold step4
  rw [ha, hr]
  split
  · simp
  · simp only [Bool.not_true, Bool.false_eq_true, if_false]
    split
    · simp
    · split
      · split <;> simp
      · simp

/-- What passes step 4 has passed each of its checks. -/
theorem checks_of_step4 (hn : step4 fuses id h body = none) : rollbackOk fuses h = true ∧ partOk id h = true := by
  unfold step4 at hn
  split at hn <;> [cases hn; skip]
  split at hn <;> [cases hn; skip]
  split at hn <;> [cases hn; skip]
  split at hn <;> [cases hn; skip]
  simp_all

end

theorem step4_of_loadCopy {fuses : Nat} {id : Ident} {mem : List Host.Cell} {base : Nat} {changed : Bool} {l : Loaded}
    (hl : loadCopy fuses id mem base changed = .ok l) :
    step4 fuses id (flashBytes mem base 256) (bodyOf mem base (flashBytes mem base 256)) = none := by
  unfold loadCopy at hl
  extract_lets h body at hl
  split at hl
  · cases hl
  next hn => exact hn

/-- Settles O8: each rejection by the check of step 4 that fails first. -/
theorem loaderRejections : Obligations.LoaderRejections := by
  refine ⟨arbCount_eq_iff, fun fuses id h body hd => ⟨fun hs => step4_of_not_authOk hd (authOk_eq_false hs), fun ha hr => ?_,
    fun ha hlo hhi => ?_⟩, fun fuses id mem base changed l hl => ?_⟩
  · exact step4_of_not_rollbackOk hd ha (Bool.eq_false_iff.2 fun ht => by have := rollbackOk_iff.1 ht; omega)
  · have hr := rollbackOk_iff.2 ⟨hlo, hhi⟩
    refine ⟨step4_ne_rollback ha hr, fun hp => step4_of_not_partOk hd ha hr (Bool.eq_false_iff.2 fun ht => ?_)⟩
    have := partOk_iff.1 ht
    omega
  · obtain ⟨hr, hp⟩ := checks_of_step4 (step4_of_loadCopy hl)
    obtain ⟨hlo, hhi⟩ := rollbackOk_iff.1 hr
    exact ⟨hlo, hhi, partOk_iff.1 hp⟩

/-! ## Requests of the service that a session executes (R325) -/

/-- The result of a request, answered: the response is stored and leaves, and the SEQ counts as processed. -/
def answer (k : Nat) (h : SvcHdr) (op : Nat) (r : SvcRes) : Dev :=
  svcSend h (svcBytes h.session op h.seq r.status r.body)
    (sessMod k (fun x => { x with last := h.seq, reply := svcBytes h.session op h.seq r.status r.body, held := none }) r.dev)

section

variable (k : Nat) (h : SvcHdr) (op : Nat) (r : SvcRes)

@[simp] theorem answer_live : (answer k h op r).live = r.dev.live := rfl
@[simp] theorem answer_clk : (answer k h op r).clk = r.dev.clk := rfl
@[simp] theorem answer_flash : (answer k h op r).flash = r.dev.flash := rfl
@[simp] theorem answer_next : (answer k h op r).next = r.dev.next := rfl
@[simp] theorem answer_unit : (answer k h op r).unit = r.dev.unit := rfl
@[simp] theorem answer_xchg : (answer k h op r).xchg = r.dev.xchg := rfl
@[simp] theorem answer_holdReq : (answer k h op r).holdReq = r.dev.holdReq := rfl
@[simp] theorem get_answer (f : Fld) (i : Nat) : get f i (answer k h op r) = get f i r.dev := rfl

theorem answer_sess_same :
    (answer k h op r).eth.sess.get {} k =
      { r.dev.eth.sess.get {} k with last := h.seq, reply := svcBytes h.session op h.seq r.status r.body, held := none } :=
  Tab.get_put_same ..

theorem answered_answer : Answered k h op r.status r.body (answer k h op r) := by
  unfold Answered
  rw [answer_sess_same]
  exact ⟨by simp [answer, svcSend], rfl, rfl, rfl⟩

end

theorem svcTake_of_accepts {i : Instr} {k : Nat} {h : SvcHdr} {op level kind : Nat} {f : Dev → SvcRes} {d : Dev} (ha : Accepts k h level kind d) :
    svcTake i h op level kind f d = answer k h op (f (arrived k d)) := by
  obtain ⟨hup, hslot, haddr, hport, hheld, hseq, hshare, hlevel, hkind⟩ := ha
  have hx : (arrived k d).eth.sess.get {} k = { d.eth.sess.get {} k with edge := edge d } := Tab.get_put_same ..
  have hnext : h.seq ≠ (d.eth.sess.get {} k).last := by omega
  have hfold : sessMod k (fun x => { x with edge := edge d }) d = arrived k d := rfl
  have hw : ((arrived k d).creel.exhausted && isRole2 (get ETH_SVC_SESSION_THREAD k (arrived k d)) (arrived k d)) = false := hshare
  have hl : ¬get ETH_SVC_SESSION_LEVEL k (arrived k d) < level := Nat.not_lt.2 hlevel
  have hk : svcAllows kind (arrived k d) = true := hkind
  have hexec : svcExec k h op level kind f (arrived k d) = answer k h op (f (arrived k d)) := by simp [svcExec, answer, hl, hk]
  unfold svcTake
  simp only [hslot, hfold, hx]
  rw [if_neg (by simp [hup]), if_neg (by simp [haddr, hport]), if_neg hnext, if_neg (by simp [hheld]), if_neg (by simp [← hseq]),
    if_neg (by simp [hw]), hexec]

/-! ## FUSE_WRITE (R40, R326) -/

theorem doFuse_of_range {fuses field v lo w : Nat} {d : Dev} (hr : fuseRange field = some (lo, w)) (hv : v < 2 ^ w) :
    doFuse fuses field v d =
      { body := beBytes ((w + 7) / 8) (bits (blow field v fuses) lo w), dev := showFuses (blow field v fuses) true d } := by
  simp [doFuse, hr, Nat.not_le.2 hv]

/-- The field as it reads back: its 1 bits and those of the value. -/
theorem bits_blow {fuses field v lo w : Nat} (hr : fuseRange field = some (lo, w)) (hv : v < 2 ^ w) :
    bits (blow field v fuses) lo w = bits fuses lo w ||| v := by
  have ht : trunc w v = v := Nat.mod_eq_of_lt hv
  have hb : blow field v fuses = setBits fuses lo w (bits fuses lo w ||| v) := by simp [blow, hr, ht]
  rw [hb, bits_setBits_same, Nat.mod_eq_of_lt (Nat.or_lt_two_pow (bits_lt fuses lo w) hv)]

/-- The request is executed, so that its SEQ moves on and the stored answer is its own, which is when the fuses are blown. -/
theorem exec_fuseWrite {dt : Nat} {h : SvcHdr} {field v lo w k : Nat} {s : State} (ha : Accepts k h 3 3 (later dt s))
    (hr : fuseRange field = some (lo, w)) (hv : v < 2 ^ w) :
    exec (.fuseWrite dt h field v) s =
      .next { s with dev := answer k h 0xF0 (doFuse s.fuses field v (arrived k (later dt s))), fuses := blow field v s.fuses } := by
  have hs : svcTake (.fuseWrite 0 h field v) h 0xF0 3 3 (doFuse s.fuses field v) (advance dt s.dev) =
    answer k h 0xF0 (doFuse s.fuses field v (arrived k (later dt s))) := svcTake_of_accepts ha
  obtain ⟨-, hslot, -, -, -, hseq, -⟩ := ha
  have hslot' : slotOf h.session s.dev = some k := hslot
  have hseq' : h.seq = ((s.dev.eth.sess.get {} k).last + 1) % 4294967296 := hseq
  have hnext : h.seq ≠ (s.dev.eth.sess.get {} k).last := by omega
  change execFuseWrite dt h field v s = _
  unfold execFuseWrite
  simp only [hs, hslot', Option.map_some, Option.getD_some, answer_sess_same, doFuse_of_range hr hv]
  simp [hnext]

/-- Settles O20: blowing sets the 1 bits of the value in the field, and the answer is the field as it then reads. -/
theorem fuseWrite : Obligations.FuseWrite := by
  intro dt h field v s k lo w ha hr hv
  refine ⟨_, exec_fuseWrite ha hr hv, rfl, rfl, rfl, bits_blow hr hv, ?_⟩
  have hans := answered_answer k h 0xF0 (doFuse s.fuses field v (arrived k (later dt s)))
  rwa [doFuse_of_range hr hv] at hans ⊢

/-- A service command of a session that executes it gives the answer to its result. -/
theorem gives_of_accepts {i j : Instr} {dt k : Nat} {h : SvcHdr} {op level kind : Nat} {f : Dev → SvcRes} {s : State} {P : Dev → Prop}
    (hi : exec i s = svcCmd dt j h op level kind f s) (ha : Accepts k h level kind (later dt s))
    (hP : P (answer k h op (f (arrived k (later dt s))))) : Gives i s P := by
  refine (gives_onDev_iff hi).2 ?_
  rwa [svcTake_of_accepts ha]

section

variable (k : Nat) (d : Dev)

@[simp] theorem arrived_live : (arrived k d).live = d.live := rfl
@[simp] theorem arrived_clk : (arrived k d).clk = d.clk := rfl
@[simp] theorem arrived_flash : (arrived k d).flash = d.flash := rfl
@[simp] theorem arrived_unit : (arrived k d).unit = d.unit := rfl
@[simp] theorem arrived_xchg : (arrived k d).xchg = d.xchg := rfl
@[simp] theorem get_arrived (f : Fld) (i : Nat) : get f i (arrived k d) = get f i d := rfl
@[simp] theorem otherBase_arrived : otherBase (arrived k d) = otherBase d := rfl

end

section

variable (dt : Nat) (s : State)

@[simp] theorem later_live : (later dt s).live = s.dev.live := rfl
@[simp] theorem later_flash : (later dt s).flash = s.dev.flash := rfl
@[simp] theorem later_unit : (later dt s).unit = s.dev.unit := rfl
@[simp] theorem later_xchg : (later dt s).xchg = s.dev.xchg := rfl
@[simp] theorem get_later (f : Fld) (i : Nat) : get f i (later dt s) = get f i s.dev := rfl
@[simp] theorem otherBase_later : otherBase (later dt s) = otherBase s.dev := rfl

end

/-! ## The commands of an image exchange (R45, R51) -/

@[simp] theorem linkSend_live (kind : Nat) (body : List Nat) (d : Dev) : (linkSend kind body d).live = d.live := rfl
@[simp] theorem linkSend_clk (kind : Nat) (body : List Nat) (d : Dev) : (linkSend kind body d).clk = d.clk := rfl
@[simp] theorem linkSend_flash (kind : Nat) (body : List Nat) (d : Dev) : (linkSend kind body d).flash = d.flash := rfl
@[simp] theorem linkSend_img (kind : Nat) (body : List Nat) (d : Dev) : (linkSend kind body d).img = d.img := rfl
@[simp] theorem linkSend_next (kind : Nat) (body : List Nat) (d : Dev) : (linkSend kind body d).next = d.next := rfl
@[simp] theorem linkSend_unit (kind : Nat) (body : List Nat) (d : Dev) : (linkSend kind body d).unit = d.unit := rfl
@[simp] theorem linkSend_xchg (kind : Nat) (body : List Nat) (d : Dev) : (linkSend kind body d).xchg = d.xchg := rfl
@[simp] theorem get_linkSend (f : Fld) (i kind : Nat) (body : List Nat) (d : Dev) : get f i (linkSend kind body d) = get f i d := rfl
@[simp] theorem otherBase_linkSend (kind : Nat) (body : List Nat) (d : Dev) : otherBase (linkSend kind body d) = otherBase d := rfl

/-- Which copy is the other one depends on the unit's phase and on the copy that runs. -/
theorem otherBase_congr {c d : Dev} (hu : d.unit = c.unit) (hc : get FUSE_LDR_STATE_COPY 0 d = get FUSE_LDR_STATE_COPY 0 c) :
    otherBase d = otherBase c := by
  simp only [otherBase, hu, hc]

@[simp] theorem otherBase_put_xchg_state (v : Nat) (d : Dev) : otherBase (put FUSE_XCHG_STATE 0 v d) = otherBase d :=
  otherBase_congr (put_unit ..) (get_put_other _ _ _ _ _ _ (by decide))

/-! The start of an exchange. -/

section

variable (p q : Bool) (d : Dev)

@[simp] theorem xchgStart_clk : (xchgStart p q d).clk = d.clk := by simp [xchgStart]
@[simp] theorem xchgStart_flash : (xchgStart p q d).flash = flashErase (otherBase d) (otherBase d + 0x800000) d.flash := by simp [xchgStart]
@[simp] theorem xchgStart_xchg : (xchgStart p q d).xchg = { partner := p, fromPair := q } := by simp [xchgStart]
@[simp] theorem otherBase_xchgStart : otherBase (xchgStart p q d) = otherBase d := by simp [xchgStart]; rfl
theorem state_xchgStart : get FUSE_XCHG_STATE 0 (xchgStart p q d) = 1 := get_put_same _ _ _ _ (by decide)

end

/-! Bytes of an image written (R51). -/

section

variable (off : Nat) (bs : List Nat) (d : Dev)

@[simp] theorem xchgWrite_flash : (xchgWrite off bs d).flash = flashPut (otherBase d + max off 256) (bs.drop (256 - off)) d.flash := by
  unfold xchgWrite
  extract_lets x y e
  split
  · split <;> simp [e]
  · rfl

@[simp] theorem xchgWrite_xchg : (xchgWrite off bs d).xchg =
    { d.xchg with got := off + bs.length, lastEdge := edge d, header := d.xchg.header ++ bs.take (256 - off) } := by
  unfold xchgWrite
  extract_lets x y e
  split
  · split <;> simp [e, y, x]
  · rfl

theorem state_xchgWrite (hst : get FUSE_XCHG_STATE 0 d = 1) : get FUSE_XCHG_STATE 0 (xchgWrite off bs d) =
    match xchgLength (xchgWrite off bs d).xchg with
    | some n => if n ≤ off + bs.length then 2 else 1
    | none => 1 := by
  rw [xchgWrite_xchg]
  unfold xchgWrite
  extract_lets x y e
  have he : get FUSE_XCHG_STATE 0 e = 1 := hst
  change _ = match xchgLength y with
    | some n => if n ≤ y.got then 2 else 1
    | none => 1
  cases xchgLength y with
  | none => exact he
  | some n =>
    dsimp only
    split
    · exact get_put_same _ _ _ _ (by decide)
    · exact he

end

/-! Transfers. -/

/-- The bytes go on to a partner that takes part in the exchange. -/
def passedOn (off : Nat) (bs : List Nat) (d : Dev) : Dev := if d.xchg.partner then forward off bs d else d

section

variable (off : Nat) (bs : List Nat) (d : Dev)

@[simp] theorem passedOn_clk : (passedOn off bs d).clk = d.clk := by unfold passedOn; split <;> rfl
@[simp] theorem passedOn_flash : (passedOn off bs d).flash = d.flash := by unfold passedOn; split <;> rfl
@[simp] theorem passedOn_xchg : (passedOn off bs d).xchg = d.xchg := by unfold passedOn; split <;> rfl
@[simp] theorem get_passedOn (f : Fld) (i : Nat) : get f i (passedOn off bs d) = get f i d := by unfold passedOn; split <;> rfl
@[simp] theorem otherBase_passedOn : otherBase (passedOn off bs d) = otherBase d := by unfold passedOn; split <;> rfl

end

/-- The first bytes put the exchange in RECEIVING, or in VERIFYING where they are the whole image. -/
theorem state_firstWrite (p : Bool) (bs : List Nat) (d : Dev) :
    get FUSE_XCHG_STATE 0 (xchgWrite 0 bs (passedOn 0 bs (xchgStart p false d))) =
      match xchgLength (xchgWrite 0 bs (passedOn 0 bs (xchgStart p false d))).xchg with
      | some n => if n ≤ bs.length then 2 else 1
      | none => 1 := by
  have hst : get FUSE_XCHG_STATE 0 (passedOn 0 bs (xchgStart p false d)) = 1 := (get_passedOn ..).trans (state_xchgStart ..)
  rw [state_xchgWrite 0 bs _ hst, Nat.zero_add]

/-- The body of a transfer request has its form. -/
theorem transfer_form {off : Nat} {bs : List Nat} (hne : bs ≠ []) (hlen : bs.length ≤ 1024) (h4 : bs.length % 4 = 0) (hb : ∀ b ∈ bs, b ≤ 255)
    (hoff : off < 2 ^ 32) : ¬(bs = [] ∨ 1024 < bs.length ∨ bs.length % 4 ≠ 0 ∨ bs.any (255 < ·) = true ∨ 2 ^ 32 ≤ off) := by
  have hany : ¬bs.any (255 < ·) = true := by simpa using hb
  rintro (h | h | h | h | h)
  · exact hne h
  · omega
  · exact h h4
  · exact hany h
  · omega

section

variable {off : Nat} {bs : List Nat} {d : Dev}
  (hform : ¬(bs = [] ∨ 1024 < bs.length ∨ bs.length % 4 ≠ 0 ∨ bs.any (255 < ·) = true ∨ 2 ^ 32 ≤ off))

include hform

theorem doTransfer_refused (hmay : mayExchange d = false) : doTransfer off bs d = svcRefused 5 d := by
  unfold doTransfer
  rw [if_neg hform, hmay]
  rfl

theorem doTransfer_first (hmay : mayExchange d = true) (h0 : off = 0) (hst : get FUSE_XCHG_STATE 0 d = 0)
    (hj : ¬(isMember d = true ∧ (d.pairx.partnerState = 3 ∨ d.pairx.partnerState = 4))) :
    doTransfer off bs d = okNone (xchgWrite 0 bs (passedOn 0 bs (xchgStart (pairState d == 6 && d.pairx.partnerState == 5) false d))) := by
  unfold doTransfer
  rw [if_neg hform, hmay]
  subst h0
  simp [hst, hj, passedOn]

theorem doTransfer_next (hmay : mayExchange d = true) (h0 : 0 < off) (hst : get FUSE_XCHG_STATE 0 d = 1) (hgot : off = d.xchg.got)
    (hend : off + bs.length ≤ 0x800000) : doTransfer off bs d = okNone (xchgWrite off bs (passedOn off bs d)) := by
  unfold doTransfer
  rw [if_neg hform, hmay]
  have hne : off ≠ 0 := h0.ne'
  simp [hne, hst, ← hgot, hend, passedOn]

end

/-! Commit and abort (R51, R53). -/

theorem doCommit_of_ok {sc : Nat} {d : Dev} (hsc : sc < 2 ^ 64) (hmay : mayExchange d = true) (hst : get FUSE_XCHG_STATE 0 d = 3)
    (hlo : now d + 6400000 ≤ sc) (hhi : sc ≤ now d + 64000000000) :
    doCommit sc d = okNone (commitAt sc (hostItem 0x61 0 (leBytes 8 sc) d)) := by
  unfold doCommit
  rw [if_neg (Nat.not_le.2 hsc), if_neg (by simp [hmay, hst]), if_neg (not_or.2 ⟨Nat.not_lt.2 hlo, Nat.not_lt.2 hhi⟩)]

theorem doCommit_refused {sc : Nat} {d : Dev} (hsc : sc < 2 ^ 64) (hmay : mayExchange d = false) : doCommit sc d = svcRefused 5 d := by
  unfold doCommit
  rw [if_neg (Nat.not_le.2 hsc), if_pos (.inl (by simp [hmay]))]

theorem doAbort_of_ok {d : Dev} (hmay : mayExchange d = true) (hst : get FUSE_XCHG_STATE 0 d = 1 ∨ get FUSE_XCHG_STATE 0 d = 3) :
    doAbort d = okNone (xchgEnd (xchgTell d)) := if_pos ⟨hmay, hst⟩

theorem doAbort_refused {d : Dev} (hmay : mayExchange d = false) : doAbort d = svcRefused 5 d := if_neg (by simp [hmay])

section

variable (sc : Nat) (d : Dev)

@[simp] theorem commitAt_xchg : (commitAt sc d).xchg = { d.xchg with sc := sc } := by simp [commitAt, xchgMod]
theorem state_commitAt : get FUSE_XCHG_STATE 0 (commitAt sc d) = 4 := get_put_same _ _ _ _ (by decide)

theorem s_c_commitAt (hsc : sc < 2 ^ 64) : get FUSE_XCHG_STAMP_S_C 0 (commitAt sc d) = sc := by
  unfold commitAt
  rw [get_put_other _ _ _ _ _ _ (by decide), get_put_same _ _ _ _ (by decide)]
  exact Nat.mod_eq_of_lt hsc

@[simp] theorem hostItem_xchg (op i : Nat) (body : List Nat) : (hostItem op i body d).xchg = d.xchg := mirror_xchg ..

end

/-! The end of an exchange. -/

section

variable (d : Dev)

@[simp] theorem xchgTell_live : (xchgTell d).live = d.live := by unfold xchgTell; split <;> rfl
@[simp] theorem xchgTell_flash : (xchgTell d).flash = d.flash := by unfold xchgTell; split <;> rfl
@[simp] theorem xchgTell_unit : (xchgTell d).unit = d.unit := by unfold xchgTell; split <;> rfl
@[simp] theorem xchgTell_img : (xchgTell d).img = d.img := by unfold xchgTell; split <;> rfl
@[simp] theorem xchgTell_get (f : Fld) (i : Nat) : get f i (xchgTell d) = get f i d := by unfold xchgTell; split <;> rfl
@[simp] theorem otherBase_xchgTell : otherBase (xchgTell d) = otherBase d := by unfold xchgTell; split <;> rfl

@[simp] theorem xchgEnd_next : (xchgEnd d).next = none := rfl
@[simp] theorem xchgEnd_xchg : (xchgEnd d).xchg = {} := rfl

@[simp] theorem xchgEnd_flash : (xchgEnd d).flash = flashErase (otherBase d) (otherBase d + 4096) d.flash := by
  unfold xchgEnd
  extract_lets d1 d2 d3
  have h2 : d2.flash = d1.flash := by unfold d2; split <;> simp
  have h3 : d3.flash = d2.flash := by unfold d3; split <;> simp
  exact h3.trans h2

/-- An exchange that had begun ends in IDLE, marked as aborted. -/
theorem get_xchgEnd (h : get FUSE_XCHG_STATE 0 d ≠ 0) : get FUSE_XCHG_STATE 0 (xchgEnd d) = 0 ∧ get FUSE_XCHG_ABORTED 0 (xchgEnd d) = 1 := by
  unfold xchgEnd
  extract_lets d1 d2 d3
  have h1 : get FUSE_XCHG_STATE 0 d1 ≠ 0 := h
  have h2 : d2 = put FUSE_XCHG_ABORTED 0 1 (put FUSE_XCHG_STATE 0 0 d1) := if_neg h1
  have h3 (f : Fld) (hf : f.reg = FUSE_XCHG) : get f 0 d3 = get f 0 d2 := by
    have ha : f.reg.addr 0 ≠ SHU_XCHG.addr 0 := by rw [hf]; decide
    unfold d3
    split
    · rw [get_put_other _ _ _ _ _ _ ha, get_put_other _ _ _ _ _ _ ha]
    · rfl
  constructor
  · refine (h3 _ rfl).trans ?_
    rw [h2, get_put_field FUSE_XCHG_STATE FUSE_XCHG_ABORTED 0 1 _ rfl (by decide) (by decide), get_put_zero _ _ _ (by decide)]
  · refine (h3 _ rfl).trans ?_
    rw [h2, get_put_one _ _ _ (by decide) (by decide)]

end

/-- A request refused by its result changes nothing but the session. -/
theorem refused_keeps {k st : Nat} {h : SvcHdr} {op : Nat} {d : Dev} :
    ((answer k h op (svcRefused st d)).eth.sess.get {} k).last = h.seq ∧ (answer k h op (svcRefused st d)).flash = d.flash ∧
      (answer k h op (svcRefused st d)).xchg = d.xchg ∧ (answer k h op (svcRefused st d)).live = d.live := by
  obtain ⟨-, hlast, -, -⟩ := answered_answer k h op (svcRefused st d)
  exact ⟨hlast, rfl, rfl, rfl⟩

/-- Settles O22: each command is executed, and its result is what its function makes of the device as the request arrives. -/
theorem exchangeCommands : Obligations.ExchangeCommands := by
  refine ⟨fun dt h bs s k ha hne hlen h4 hb hmay hst hj => ?_, fun dt h off bs s k ha hne hlen h4 hb hmay h0 hst hgot hend => ?_,
    fun dt h sc s k ha hsc hmay hst hlo hhi => ?_, fun dt h s k ha hmay hst => ?_, fun dt h off bs sc s k i hi ha hmay => ?_⟩
  · refine gives_of_accepts rfl ha ?_
    rw [doTransfer_first (d := arrived k (later dt s)) (transfer_form hne hlen h4 hb (by decide)) hmay rfl hst hj]
    refine ⟨answered_answer .., by simp [okNone], by simp [okNone], by simp [okNone, edge], by simp [okNone], ?_⟩
    rw [get_answer, answer_xchg]
    exact state_firstWrite _ bs (arrived k (later dt s))
  · refine gives_of_accepts rfl ha ?_
    rw [doTransfer_next (d := arrived k (later dt s)) (transfer_form hne hlen h4 hb (by omega)) hmay h0 hst hgot hend]
    exact ⟨answered_answer .., by simp [okNone], by simp [okNone], by simp [okNone]⟩
  · refine gives_of_accepts rfl ha ?_
    rw [doCommit_of_ok (d := arrived k (later dt s)) hsc hmay hst hlo hhi]
    exact ⟨answered_answer .., state_commitAt .., s_c_commitAt sc _ hsc, by simp [okNone]⟩
  · refine gives_of_accepts rfl ha ?_
    rw [doAbort_of_ok (d := arrived k (later dt s)) hmay hst]
    obtain ⟨hidle, haborted⟩ := get_xchgEnd (xchgTell (arrived k (later dt s))) (by
      rw [xchgTell_get, get_arrived, get_later]
      omega)
    exact ⟨answered_answer .., hidle, haborted, rfl, rfl, by simp [okNone]⟩
  · rcases hi with ⟨rfl, hne, hlen, h4, hb, hoff⟩ | ⟨rfl, hsc⟩ | rfl
    · refine gives_of_accepts rfl ha ?_
      rw [doTransfer_refused (d := arrived k (later dt s)) (transfer_form hne hlen h4 hb hoff) hmay]
      exact refused_keeps
    · refine gives_of_accepts rfl ha ?_
      rw [doCommit_refused (d := arrived k (later dt s)) hsc hmay]
      exact refused_keeps
    · refine gives_of_accepts rfl ha ?_
      rw [doAbort_refused (d := arrived k (later dt s)) hmay]
      exact refused_keeps

/-! ## What a fault without a reaction leaves alone (R480, R484) -/

/-- The parts of the device that recording, counting and showing a fault leave alone. -/
def Dev.life (d : Dev) := (d.unit, d.clk, d.flash, d.img, d.next, d.xchg, d.out, d.pairx, d.recd.retain, d.recd.retainOk)

/-- The fields that recording, counting and showing a fault write. -/
def notedFields : List (Fld × Nat) :=
  [(FUSE_LDR_STATE_LAST_FAULT, 0), (REC_STATUS_LOG_DROP, 0), (REC_EVENT_SEQ_HIGHEST, 0), (REC_EVENT_SEQ_LOWEST, 0),
    (REC_EVENT_COUNT_OVERWRITTEN, 0), (REC_EVENT_COUNT_DROPPED, 0), (REC_EVENT_BUF_UNWRITTEN, 0), (REC_EVENT_BUF_WRITES, 0),
    (STORE_SK_HEAD_BYTES, 1), (STORE_SK_TAIL_BYTES, 1), (FLT_LAST_SEQ, 0), (FLT_LAST_CODE, 0), (FLT_LAST_CLASS, 0), (FLT_LAST_CLEARED, 0),
    (FLT_COUNTS_F0, 0), (FLT_COUNTS_F1, 0), (FLT_COUNTS_F2, 0), (FLT_COUNTS_F3, 0), (FLT_COUNTS_F4, 0), (FLT_COUNTS_F5, 0),
    (FLT_STATUS_MAX_CLASS, 0), (FLT_STATUS_ACTIVE, 0)] ++ (List.range 21).map fun k => (FLT_ACTIVE_FAULTS, k)

/-- Field `f` of index `i` shares no bit with those. -/
abbrev Spared (f : Fld) (i : Nat) : Prop :=
  f.inReg ∧ ∀ p ∈ notedFields, f.reg.addr i ≠ p.1.reg.addr p.2 ∨ f.reg = p.1.reg ∧ i = p.2 ∧ (f.lo + f.width ≤ p.1.lo ∨ p.1.lo + p.1.width ≤ f.lo)

/-- From `c` to `d` only those fields and what recording needs have changed. -/
def Noted (c d : Dev) : Prop := d.life = c.life ∧ ∀ f i, Spared f i → get f i d = get f i c

namespace Noted

variable {c d : Dev}

theorem refl (d : Dev) : Noted d d := ⟨rfl, fun _ _ _ => rfl⟩

theorem ite {p : Prop} {_ : Decidable p} {e : Dev} (hd : Noted c d) (he : Noted c e) : Noted c (if p then d else e) := by
  split <;> assumption

/-- A field of the list is written. -/
protected theorem put {g : Fld} {j v : Nat} (h : Noted c d) (hg : (g, j) ∈ notedFields) : Noted c (put g j v d) := by
  obtain ⟨hlife, hget⟩ := h
  have hl : (put g j v d).life = d.life := by simp [Dev.life]
  refine ⟨hl.trans hlife, fun f i hf => Eq.trans ?_ (hget f i hf)⟩
  obtain ⟨hreg, hother⟩ := hf
  rcases hother _ hg with ha | ⟨hr, rfl, hbits⟩
  · exact get_put_other f g i j v d ha
  · exact get_put_field f g i v d hr hreg hbits

protected theorem logRegs (h : Noted c d) : Noted c (logRegs d) :=
  ((((h.put (by decide)).put (by decide)).put (by decide)).put (by decide)).put (by decide)

protected theorem flushEvents (h : Noted c d) : Noted c (flushEvents d) := by
  unfold Machine.flushEvents
  extract_lets r n k
  have h1 : Noted c (handPages 2 (eventPages r.buf) { d with recd := { r with log := r.log ++ r.buf, buf := [] } }) := h
  exact (((h1.put (by decide)).put (by decide)).put (by decide)).logRegs.ite h

protected theorem enterRec {e : EvRec} (h : Noted c d) : Noted c (enterRec e d) := by
  have hr (r : RecX) (hset : r.retain = d.recd.retain) (hok : r.retainOk = d.recd.retainOk) :
      Noted c (logRegs { d with recd := r }) := by
    refine Noted.logRegs ⟨Eq.trans ?_ h.1, h.2⟩
    simp only [Dev.life, hset, hok]
  unfold Machine.enterRec
  extract_lets r cap full e' next old r1 lim
  split
  · split
    · split
      · exact hr _ rfl rfl
      · exact hr _ rfl rfl
    · split
      · exact hr _ rfl rfl
      · split
        · exact hr _ rfl rfl
        · exact hr _ rfl rfl
  · exact hr _ rfl rfl

protected theorem writeRec {code sev detail : Nat} {cleared : Bool} (h : Noted c d) : Noted c (writeRec code sev detail cleared d) := by
  unfold Machine.writeRec
  extract_lets e n d1 x d2
  have h2 : Noted c d2 := h.enterRec.flushEvents.ite h.enterRec
  exact (((h2.put (by decide)).put (by decide)).put (by decide)).put (by decide)

protected theorem countClass {cls : Nat} (h : Noted c d) : Noted c (countClass cls d) :=
  h.ite ((h.put (by decide)).ite ((h.put (by decide)).ite ((h.put (by decide)).ite ((h.put (by decide)).ite
    ((h.put (by decide)).ite (h.put (by decide)))))))

protected theorem refreshFaults (h : Noted c d) : Noted c (refreshFaults d) := by
  have hk {n : Nat} (hn : n ≤ 21) {f : Nat → Nat} {e : Dev} (h : Noted c e) : Noted c (forN n (fun b d => put FLT_ACTIVE_FAULTS b (f b) d) e) := by
    induction n with
    | zero => exact h
    | succ n ih =>
      exact (ih (Nat.le_of_succ_le hn)).put (List.mem_append_right _ (List.mem_map_of_mem (List.mem_range.2 hn)))
  exact hk le_rfl ((h.put (by decide)).put (by decide))

protected theorem noteDrop (h : Noted c d) : Noted c (noteDrop d) := by
  unfold Machine.noteDrop
  extract_lets d1 due x d2
  have h1 : Noted c d1 := h.put (by decide)
  have h2 : Noted c d2 := h1
  have h3 : Noted c (countClass 1 (writeRec 0x1002 1 0 false d2)) := h2.writeRec.countClass
  exact h1.ite (h2.ite (Noted.refreshFaults h3))

protected theorem record {code sev detail : Nat} {cleared : Bool} (h : Noted c d) : Noted c (record code sev detail cleared d) :=
  h.writeRec.noteDrop.ite h.writeRec

/-- A fault that causes no reaction. -/
protected theorem raiseWith {code obj detail : Nat} (h : Noted c d) (hreact : ∀ e, e.unit = c.unit → react code obj e = e) :
    Noted c (raiseWith code obj detail d) := by
  unfold Machine.raiseWith
  extract_lets cls d1 d2 d3 d4
  have h1 : Noted c d1 := (h.put (by decide)).ite h
  have h3 : Noted c d3 := h1.record.countClass
  clear_value d3
  have h4 : Noted c d4 := h3.ite (Noted.refreshFaults h3)
  rw [hreact d4 (congrArg Prod.fst h4.1)]
  exact h.ite h4

end Noted

theorem react_of_class_le_one {code : Nat} (hc : faultClass code ≤ 1) (obj : Nat) (d : Dev) : react code obj d = d := by
  unfold react
  split <;> [omega; omega; omega; omega; rfl]

/-- Before step 5 and in LOAD_FAIL no fault has a reaction. -/
theorem react_of_phase {d : Dev} (hr : d.unit.phase ≠ .run) (hs : d.unit.phase ≠ .starting) (code obj : Nat) : react code obj d = d := by
  have hb : (d.unit.phase == .run) = false := by simpa using hr
  have hf : f4React code d = d := by
    unfold f4React
    split
    · contradiction
    · contradiction
    · rfl
  unfold react
  rw [hb, hf]
  split <;> rfl

theorem noted_raise_of_class {code : Nat} (hc : faultClass code ≤ 1) (obj : Nat) (d : Dev) (aux : Nat) (value : Int) :
    Noted d (raise code obj d aux value) :=
  (Noted.refl d).raiseWith fun e _ => react_of_class_le_one hc obj e

theorem noted_raise_of_phase {d : Dev} (hr : d.unit.phase ≠ .run) (hs : d.unit.phase ≠ .starting) (code obj aux : Nat) (value : Int) :
    Noted d (raise code obj d aux value) :=
  (Noted.refl d).raiseWith fun _ he => react_of_phase (he ▸ hr) (he ▸ hs) code obj

/-! ## How the verification of an exchange ends (R50, R51, R45) -/

/-- What each step of a fold over a list keeps, the fold keeps. -/
theorem forL_keeps {α σ : Type} {P : σ → Prop} {l : List α} {f : α → σ → σ} (hf : ∀ a s, P s → P (f a s)) {s : σ} (h : P s) : P (forL l f s) := by
  unfold forL
  induction l generalizing s with
  | nil => exact h
  | cons a l ih => exact ih (hf a s h)

/-- The same life, and every register as before. -/
def SameLife (c d : Dev) : Prop := d.life = c.life ∧ d.live = c.live

/-- A word of a bank is neither. -/
theorem SameLife.varSet {c d : Dev} {bank a v : Nat} (h : SameLife c d) : SameLife c (varSet bank a v d) := h

theorem SameLife.layImage {c d : Dev} {bank : Nat} {m : Img} (h : SameLife c d) : SameLife c (layImage bank m d) :=
  forL_keeps (fun _ _ h => forL_keeps (fun _ _ h => h.varSet) h) h

/-- Staging the cyclic program writes the other bank's words and SHU_XCHG alone. -/
theorem shuStage_keeps (d : Dev) :
    (shuStage d).life = d.life ∧ ∀ f i, f.reg.addr i ≠ SHU_XCHG.addr 0 → get f i (shuStage d) = get f i d := by
  unfold shuStage
  split
  next m o _ _ =>
    extract_lets b d1 copy
    have h1 : SameLife d d1 := SameLife.layImage ⟨rfl, rfl⟩
    have hcopy (v : VarDef) (e : Dev) (h : SameLife d e) : SameLife d (copy v e) := by
      refine forL_keeps (fun i e h => ?_) h
      split
      · exact h.varSet
      · exact h
    obtain ⟨hlife, hlive⟩ := forL_keeps hcopy h1 (l := varDefs m ++ insDefs m)
    refine ⟨Eq.trans (by simp [Dev.life]) hlife, fun f i ha => ?_⟩
    rw [get_put_other f SHU_XCHG_DUAL i 0 1 _ ha]
    exact get_congr f i _ _ fun z => by rw [hlive]
  · exact ⟨rfl, fun _ _ _ => rfl⟩

theorem xchgStaged_keeps (d : Dev) : (xchgStaged d).life = d.life ∧ get FUSE_XCHG_STATE 0 (xchgStaged d) = 3 := by
  obtain ⟨hlife, hget⟩ := shuStage_keeps (put FUSE_XCHG_STATE 0 3 d)
  exact ⟨hlife.trans (by simp [Dev.life]), (hget _ _ (by decide)).trans (get_put_same _ _ _ _ (by decide))⟩

/-- The header page programmed, as the verification passes (R51). -/
def verified (d : Dev) : Dev := put FUSE_LDR_CONFLICTS_COUNT 0 0 { d with flash := flashPut (otherBase d) d.xchg.header d.flash }

/-- The verified image is at hand. -/
def atHand (o : Img) (d : Dev) : Dev :=
  xchgMod (fun x => { x with headerDone := true, headerEdge := edge (verified d) }) { verified d with next := some o }

/-- The image is verified, and its header waits to be programmed. -/
theorem exchangeReadbackDoneAt_of_ok {p : StartPins} {fuses : Nat} {id : Ident} {d : Dev} {o : Img} (hst : get FUSE_XCHG_STATE 0 d = 2)
    (hdone : d.xchg.headerDone = false) (ho : xchgCheck fuses id d = .ok o) :
    exchangeReadbackDoneAt p fuses id d =
      if (verified d).unit.phase == .loadFail || (verified d).xchg.fromPair then restartUnit false fuses id p (verified d)
      else if pairState (atHand o d) = 5 then linkSend 5 [3] (xchgStaged (atHand o d)) else xchgProceed (atHand o d) := by
  unfold exchangeReadbackDoneAt
  rw [if_neg (by simp [hst, hdone]), ho]
  rfl

section

variable (o : Img) (d : Dev)

@[simp] theorem verified_flash : (verified d).flash = flashPut (otherBase d) d.xchg.header d.flash := by simp [verified]
@[simp] theorem verified_unit : (verified d).unit = d.unit := by simp [verified]
@[simp] theorem verified_xchg : (verified d).xchg = d.xchg := by simp [verified]

@[simp] theorem atHand_flash : (atHand o d).flash = flashPut (otherBase d) d.xchg.header d.flash := verified_flash d
@[simp] theorem atHand_next : (atHand o d).next = some o := rfl
@[simp] theorem atHand_img : (atHand o d).img = d.img := by simp [atHand, xchgMod, verified]
@[simp] theorem atHand_out : (atHand o d).out = d.out := by simp [atHand, xchgMod, verified]
@[simp] theorem atHand_pairx : (atHand o d).pairx = d.pairx := by simp [atHand, xchgMod, verified]

@[simp] theorem atHand_xchg : (atHand o d).xchg = { d.xchg with headerDone := true, headerEdge := edge (verified d) } := by
  simp [atHand, xchgMod]

theorem get_atHand (f : Fld) (i : Nat) (hf : f.reg.addr i ≠ FUSE_LDR_CONFLICTS.addr 0) : get f i (atHand o d) = get f i d :=
  get_put_other f FUSE_LDR_CONFLICTS_COUNT i 0 0 _ hf

theorem state_atHand : get FUSE_XCHG_STATE 0 (atHand o d) = get FUSE_XCHG_STATE 0 d := get_atHand _ _ _ _ (by decide)
theorem pairState_atHand : pairState (atHand o d) = pairState d := get_atHand _ _ _ _ (by decide)

end

/-- With the header programmed the image is STAGED, once the standby has staged its own where there is one (R51). -/
theorem xchgProceed_keeps {d : Dev} (hst : get FUSE_XCHG_STATE 0 d = 2) (hdone : d.xchg.headerDone = true) :
    (xchgProceed d).life = d.life ∧
      get FUSE_XCHG_STATE 0 (xchgProceed d) = if d.xchg.partner = false ∨ d.xchg.standbyStaged = true then 3 else 2 := by
  unfold xchgProceed
  extract_lets x
  by_cases hp : d.xchg.partner = false ∨ d.xchg.standbyStaged = true
  · have hgo : get FUSE_XCHG_STATE 0 d = 2 ∧ x.headerDone ∧ (¬x.partner ∨ x.standbyStaged) := ⟨hst, hdone, hp.imp_left fun h => by simp [x, h]⟩
    rw [if_pos hgo, if_pos hp]
    exact xchgStaged_keeps d
  · have hstay : ¬(get FUSE_XCHG_STATE 0 d = 2 ∧ x.headerDone ∧ (¬x.partner ∨ x.standbyStaged)) := by simpa [hst, hdone, x] using hp
    rw [if_neg hstay, if_neg hp]
    exact ⟨rfl, hst⟩

theorem linkSend_out (kind : Nat) (body : List Nat) (d : Dev) :
    (linkSend kind body d).out = d.out ++ [⟨.pair, 0, linkFrame d.pairx.txSeq kind body⟩] := rfl

/-! An exchange that ends (R51). -/

/-- A refused exchange: ended, with its cause shown; its fault has no reaction. -/
theorem xchgRefuse_noted (code : Nat) (d : Dev) : Noted (put FUSE_XCHG_CAUSE 0 code (xchgEnd (xchgTell d))) (xchgRefuse code d) :=
  noted_raise_of_class (by decide) ..

/-- What a refusal leaves of the exchange. -/
structure Refused (code : Nat) (d e : Dev) : Prop where
  next : e.next = none
  xchg : e.xchg = {}
  img : e.img = d.img
  flash : e.flash = flashErase (otherBase d) (otherBase d + 4096) d.flash
  cause : get FUSE_XCHG_CAUSE 0 e = code % 256
  idle : get FUSE_XCHG_STATE 0 e = 0
  aborted : get FUSE_XCHG_ABORTED 0 e = 1

theorem xchgEnd_img (d : Dev) : (xchgEnd d).img = d.img := (ImgsKept.refl d).xchgEnd.1

theorem life_eq_iff {d e : Dev} : e.life = d.life ↔ e.unit = d.unit ∧ e.clk = d.clk ∧ e.flash = d.flash ∧ e.img = d.img ∧ e.next = d.next ∧
    e.xchg = d.xchg ∧ e.out = d.out ∧ e.pairx = d.pairx ∧ e.recd.retain = d.recd.retain ∧ e.recd.retainOk = d.recd.retainOk := by
  simp [Dev.life]

theorem refused_xchgRefuse {d : Dev} (code : Nat) (hst : get FUSE_XCHG_STATE 0 d ≠ 0) : Refused code d (xchgRefuse code d) := by
  obtain ⟨hlife, hget⟩ := xchgRefuse_noted code d
  obtain ⟨-, -, hflash, himg, hnext, hxchg, -⟩ := life_eq_iff.1 hlife
  obtain ⟨hidle, haborted⟩ := get_xchgEnd (xchgTell d) (by rwa [xchgTell_get])
  refine ⟨hnext.trans (by simp), hxchg.trans (by simp), himg.trans ?_, hflash.trans (by simp), ?_, ?_, ?_⟩
  · rw [put_img, xchgEnd_img, xchgTell_img]
  · rw [hget _ _ (by decide), get_put_same _ _ _ _ (by decide)]
    rfl
  · rw [hget _ _ (by decide), get_put_field FUSE_XCHG_STATE FUSE_XCHG_CAUSE _ _ _ rfl (by decide) (by decide), hidle]
  · rw [hget _ _ (by decide), get_put_field FUSE_XCHG_ABORTED FUSE_XCHG_CAUSE _ _ _ rfl (by decide) (by decide), haborted]

/-- Outside a joining unit a failed verification is a refusal; a standby reports it. -/
theorem refused_xchgFailed {d : Dev} (code : Nat) (hst : get FUSE_XCHG_STATE 0 d ≠ 0) (hpair : d.xchg.fromPair = false) :
    Refused code d (xchgFailed code d) := by
  have hr := refused_xchgRefuse code hst
  unfold xchgFailed
  rw [hpair]
  dsimp only
  rw [if_neg Bool.false_ne_true]
  split
  · exact ⟨hr.next, hr.xchg, hr.img, hr.flash, hr.cause, hr.idle, hr.aborted⟩
  · exact hr

theorem exchangeReadbackDoneAt_of_error {p : StartPins} {fuses : Nat} {id : Ident} {d : Dev} {r : Reject} (hst : get FUSE_XCHG_STATE 0 d = 2)
    (hdone : d.xchg.headerDone = false) (hr : xchgCheck fuses id d = .error (some r)) :
    exchangeReadbackDoneAt p fuses id d = xchgFailed r.code (put FUSE_LDR_CONFLICTS_COUNT 0 r.conflicts d) := by
  unfold exchangeReadbackDoneAt
  rw [if_neg (by simp [hst, hdone]), hr]

/-- A new image that the running one cannot pass into is refused with a cause that no rule names. -/
theorem exchangeReadbackDoneAt_of_unexchangeable {p : StartPins} {fuses : Nat} {id : Ident} {d : Dev} (hst : get FUSE_XCHG_STATE 0 d = 2)
    (hdone : d.xchg.headerDone = false) (hr : xchgCheck fuses id d = .error none) :
    exchangeReadbackDoneAt p fuses id d =
      xchgFailed (0x200 + (fresh 8 (put FUSE_LDR_CONFLICTS_COUNT 0 0 d)).1) (fresh 8 (put FUSE_LDR_CONFLICTS_COUNT 0 0 d)).2 := by
  unfold exchangeReadbackDoneAt
  rw [if_neg (by simp [hst, hdone]), hr]

theorem otherBase_put_conflicts (v : Nat) (d : Dev) : otherBase (put FUSE_LDR_CONFLICTS_COUNT 0 v d) = otherBase d :=
  otherBase_congr (put_unit ..) (get_put_other _ _ _ _ _ _ (by decide))

theorem state_put_conflicts (v : Nat) (d : Dev) : get FUSE_XCHG_STATE 0 (put FUSE_LDR_CONFLICTS_COUNT 0 v d) = get FUSE_XCHG_STATE 0 d :=
  get_put_other _ _ _ _ _ _ (by decide)

theorem gives_exchangeReadbackDone_iff {dt : Nat} {p : StartPins} {s : State} {P : Dev → Prop} :
    Gives (.exchangeReadbackDone dt p) s P ↔ P (exchangeReadbackDoneAt p s.fuses s.ident (later dt s)) :=
  gives_onDev_iff rfl

/-- Settles O23: a timeout ends the exchange, a passed verification leaves the image at hand, staged or started, a failed one refuses it. -/
theorem exchangeEvents : Obligations.ExchangeEvents := by
  refine ⟨fun dt s hst htime => ?_, fun dt p s o hst hdone ho hrun hpair h5 => ?_, fun dt p s o hst hdone ho hrun hpair h5 => ?_,
    fun dt p s o hst hdone ho hstart => ?_, fun dt p s r hst hdone hr hpair => ?_, fun dt p s hst hdone hr hpair => ?_,
    fun dt s hst hdone htime => ?_⟩
  · refine (gives_onDev_iff rfl).2 ?_
    have hx : exchangeTransferTimeoutAt (later dt s) = xchgEnd (xchgTell (later dt s)) := if_pos ⟨hst, htime⟩
    rw [hx]
    obtain ⟨hidle, haborted⟩ := get_xchgEnd (xchgTell (later dt s)) (by rw [xchgTell_get, get_later, hst]; decide)
    exact ⟨hidle, haborted, rfl, by simp⟩
  · rw [gives_exchangeReadbackDone_iff, exchangeReadbackDoneAt_of_ok (d := later dt s) hst hdone ho, if_neg (by simp [hrun, hpair]),
      if_neg (by rwa [pairState_atHand])]
    obtain ⟨hlife, hstate⟩ := xchgProceed_keeps (d := atHand o (later dt s)) ((state_atHand o _).trans hst) (by simp)
    obtain ⟨-, -, hflash, himg, hnext, hxchg, -⟩ := life_eq_iff.1 hlife
    exact ⟨hnext, himg.trans (atHand_img o _), hflash.trans (atHand_flash o _), by rw [hxchg, atHand_xchg], by simpa using hstate⟩
  · rw [gives_exchangeReadbackDone_iff, exchangeReadbackDoneAt_of_ok (d := later dt s) hst hdone ho, if_neg (by simp [hrun, hpair]),
      if_pos ((pairState_atHand o (later dt s)).trans h5)]
    obtain ⟨hlife, hstate⟩ := xchgStaged_keeps (atHand o (later dt s))
    obtain ⟨-, -, hflash, himg, hnext, -, hout, hpairx, -⟩ := life_eq_iff.1 hlife
    refine ⟨hnext, himg.trans (atHand_img o _), hflash.trans (atHand_flash o _), hstate, ?_⟩
    rw [linkSend_out, hout, hpairx, atHand_out, atHand_pairx]
    rfl
  · rw [gives_exchangeReadbackDone_iff, exchangeReadbackDoneAt_of_ok (d := later dt s) hst hdone ho, if_pos (by simpa using hstart)]
    exact ⟨_, rfl, verified_flash _, verified_unit _⟩
  · rw [gives_exchangeReadbackDone_iff, exchangeReadbackDoneAt_of_error (d := later dt s) hst hdone hr]
    have hx := refused_xchgFailed (d := put FUSE_LDR_CONFLICTS_COUNT 0 r.conflicts (later dt s)) r.code
      (by rw [state_put_conflicts, get_later, hst]; decide) (by simpa using hpair)
    refine ⟨hx.next, hx.xchg, hx.img.trans (put_img ..), hx.cause, hx.idle, hx.flash.trans ?_⟩
    rw [otherBase_put_conflicts, put_flash]
    rfl
  · rw [gives_exchangeReadbackDone_iff, exchangeReadbackDoneAt_of_unexchangeable (d := later dt s) hst hdone hr]
    have hx := refused_xchgFailed (d := (fresh 8 (put FUSE_LDR_CONFLICTS_COUNT 0 0 (later dt s))).2)
      (0x200 + (fresh 8 (put FUSE_LDR_CONFLICTS_COUNT 0 0 (later dt s))).1)
      (by change get FUSE_XCHG_STATE 0 (put FUSE_LDR_CONFLICTS_COUNT 0 0 (later dt s)) ≠ 0; rw [state_put_conflicts, get_later, hst]; decide)
      (by simpa [fresh] using hpair)
    exact ⟨hx.next, hx.xchg, hx.img.trans (put_img ..), hx.idle⟩
  · refine (gives_onDev_iff rfl).2 ?_
    have hx : exchangeStageTimeoutAt (later dt s) = xchgRefuse 0 (later dt s) := if_pos ⟨hst, hdone, htime⟩
    rw [hx]
    have hr := refused_xchgRefuse (d := later dt s) 0 (by rw [get_later, hst]; decide)
    exact ⟨hr.next, hr.xchg, hr.idle, hr.aborted⟩

/-! ## RESTART and the orderly stop (R47, R49) -/

theorem writeRetain_keeps (d : Dev) :
    (writeRetain d).2.unit = d.unit ∧ (writeRetain d).2.clk = d.clk ∧ (writeRetain d).2.flash = d.flash := by
  unfold writeRetain
  split
  · simp [handPages, skAdvance]
  · exact ⟨rfl, rfl, rfl⟩

/-- Where the store is READY the retained words go to RETAIN; else nothing happens. -/
theorem writeRetain_of_ready {d : Dev} (h : storeReady d = true) : (writeRetain d).1 = true ∧
    (writeRetain d).2.recd.retain = retainSet (now d) d ∧ (writeRetain d).2.recd.retainOk = true := by
  unfold writeRetain
  rw [if_pos h]
  simp [handPages, skAdvance]

theorem writeRetain_of_not_ready {d : Dev} (h : storeReady d = false) : writeRetain d = (false, d) :=
  if_neg (by simp [h])

/-! The end of an orderly stop. -/

/-- The pins of the drives are driven, and neither the unit, the log nor FLT_STATUS.STOPPED changes. -/
def PinsAlone (c d : Dev) : Prop := d.unit = c.unit ∧ d.recd = c.recd ∧ get FLT_STATUS_STOPPED 0 d = get FLT_STATUS_STOPPED 0 c

namespace PinsAlone

variable {c d : Dev} {n : Nat}

protected theorem put {f : Fld} {v : Nat} (h : PinsAlone c d) (hf : f.reg = DRV_AX_PINS) : PinsAlone c (put f n v d) := by
  obtain ⟨hunit, hrecd, hstopped⟩ := h
  refine ⟨by simpa using hunit, by simpa using hrecd, (get_put_other _ _ _ _ _ _ ?_).trans hstopped⟩
  rw [hf]
  simp only [Reg.addr, FLT_STATUS_STOPPED, FLT_STATUS, DRV_AX_PINS]
  omega

protected theorem drives {x : Tab DriveX} (h : PinsAlone c d) : PinsAlone c { d with drives := x } := h

protected theorem setPins {v : Nat} (h : PinsAlone c d) : PinsAlone c (setPins n v d) := by
  unfold Machine.setPins
  extract_lets pol old moved lev x
  exact PinsAlone.put (PinsAlone.put (PinsAlone.drives h) rfl) rfl

protected theorem pinOff {b : Nat} (h : PinsAlone c d) : PinsAlone c (pinOff n b d) :=
  PinsAlone.setPins (d := { d with riseAt := d.riseAt.del (6 * n + b) }) h

protected theorem pinOn {e b : Nat} (h : PinsAlone c d) : PinsAlone c (pinOn e n b d) := by
  unfold Machine.pinOn
  extract_lets pins dead
  split
  · exact h
  · split
    · exact h.setPins
    · exact h

protected theorem pinsSafe {e : Nat} (h : PinsAlone c d) : PinsAlone c (pinsSafe e n d) := by
  unfold Machine.pinsSafe
  extract_lets d1
  have h1 : PinsAlone c d1 := forL_keeps (P := PinsAlone c) (fun _ _ h => h.pinOff) h
  split
  · exact forL_keeps (P := PinsAlone c) (fun _ _ h => h.pinOn) h1
  · exact forL_keeps (P := PinsAlone c) (fun _ _ h => h.pinOff) h1

end PinsAlone

/-- The orderly stop ends with the unit stopped and its retained words kept, whatever the store's state. -/
theorem stoppedInOrder_orderlyEnd (d : Dev) : StoppedInOrder d (orderlyEnd d) := by
  unfold orderlyEnd
  extract_lets w d1 d2 d3 d4 d5
  have h1 : d1.life = w.2.life := (Noted.refl _).flushEvents.1
  obtain ⟨-, hclk1, -, -, -, -, -, -, hret1, hok1⟩ := life_eq_iff.1 h1
  obtain ⟨hclk2, hret2, hok2, hno2⟩ : d2.clk = d1.clk ∧ d2.recd.retain = d1.recd.retain ∧
      (w.1 = true → d2.recd.retainOk = d1.recd.retainOk) ∧ (w.1 = false → d2.recd.retainOk = false) := by
    cases hw : w.1 <;> simp [d2, onlyIf, hw]
  obtain ⟨-, hclk, -⟩ : w.2.unit = d.unit ∧ w.2.clk = d.clk ∧ w.2.flash = d.flash := writeRetain_keeps d
  have hunit3 : d3.unit =
      { d2.unit with orderly := 2, stopped := true, stopEdge := edge d2, lastF4 := 0, noRestart := false, holdDone := true } := rfl
  obtain ⟨hunit4, hrecd4, hst4⟩ : d4.unit = d3.unit ∧ d4.recd = d2.recd ∧ get FLT_STATUS_STOPPED 0 d4 = 1 := by
    refine ⟨?_, ?_, get_put_same _ _ _ _ (by decide)⟩
    · rw [put_unit]
      split
      · simp [showRole]
      · rfl
    · rw [put_recd]
      split
      · simp [showRole, d3, unitMod]
      · rfl
  obtain ⟨hunit5, hrecd5, hst5⟩ : PinsAlone d4 d5 := forL_keeps (P := PinsAlone d4) (fun _ _ h => h.pinsSafe) ⟨rfl, rfl, rfl⟩
  obtain ⟨hlife, hget⟩ := noted_raise_of_class (code := 0x0211) (by decide) 0 d5 0 (if w.1 then 0 else 1)
  obtain ⟨hunit, -, -, -, -, -, -, -, hret, hok⟩ := life_eq_iff.1 hlife
  have hunit' := hunit.trans (hunit5.trans (hunit4.trans hunit3))
  refine ⟨by rw [hunit'], by rw [hunit'], ?_, ?_, fun hready => ?_, fun hready => ?_⟩
  · rw [hunit']
    exact congrArg Clk.edges (hclk2.trans (hclk1.trans hclk))
  · rw [hget _ _ (by decide), hst5, hst4]
  · obtain ⟨hw, hset, hset'⟩ := writeRetain_of_ready hready
    exact ⟨by rw [hret, hrecd5, hrecd4, hret2, hret1, hset], by rw [hok, hrecd5, hrecd4, hok2 hw, hok1, hset']⟩
  · rw [hok, hrecd5, hrecd4, hno2 (congrArg Prod.fst (writeRetain_of_not_ready hready))]

/-! The wait for the hanks. -/

/-- Every hank is held or idle. -/
def HanksAtRest (d : Dev) : Prop := ∀ r ∈ recsOf 0x0A01 d, hankState (r.u P0A01_HANK) d = 0 ∨ hankState (r.u P0A01_HANK) d = 3

theorem holdWaitOver_iff {d : Dev} :
    holdWaitOver d = true ↔ d.unit.orderly = 1 ∧ (HanksAtRest d ∨ 400000000 ≤ since d.unit.stopEdge d) := by
  simp [holdWaitOver, HanksAtRest, Bool.and_eq_true, Bool.or_eq_true]

theorem mem_owing_scanWait {d : Dev} {t : Nat} :
    t ∈ (scanWait d).unit.owing ↔ t ∈ retainTasks d ∧ get SHU_TASK_STATE_STATE t d = 1 := by
  simp [scanWait, unitMod]

/-- A scan wait changes the unit's life alone, so what it leaves to keep is the same. -/
theorem stoppedInOrder_scanWait {d e : Dev} : StoppedInOrder (scanWait d) e ↔ StoppedInOrder d e := Iff.rfl

theorem orderlyStopHoldWaitEndAt_of_over {d : Dev} (hst : d.unit.stopped = false) (hover : holdWaitOver d = true) :
    orderlyStopHoldWaitEndAt d = if (scanWait d).unit.owing = [] then orderlyEnd (scanWait d) else scanWait d := by
  unfold orderlyStopHoldWaitEndAt
  rw [if_neg (by simp [hst]), onlyIf, if_pos hover]
  have h3 : (scanWait d).unit.orderly = 3 := rfl
  simp only [h3, true_and]

theorem orderlyStopHoldWaitEndAt_of_owing {d : Dev} (hst : d.unit.stopped = false) (h3 : d.unit.orderly = 3) (howe : d.unit.owing = []) :
    orderlyStopHoldWaitEndAt d = orderlyEnd d := by
  have hno : holdWaitOver d = false := by simp [holdWaitOver, h3]
  simp [orderlyStopHoldWaitEndAt, hst, onlyIf, hno, h3, howe]

theorem orderlyStopHoldWaitEndAt_of_waiting {d : Dev} (h1 : d.unit.orderly = 1) (hno : holdWaitOver d = false) :
    orderlyStopHoldWaitEndAt d = d := by
  have h3 : ¬(d.unit.orderly = 3 ∧ d.unit.owing = []) := by simp [h1]
  unfold orderlyStopHoldWaitEndAt
  simp only [onlyIf, hno, Bool.false_eq_true, if_false, if_neg h3, ite_self]

/-! The hold requests of an orderly stop. -/

/-- Hold requests are added, and the registers and the unit stay. -/
structure HoldsAdded (c d : Dev) : Prop where
  unit : d.unit = c.unit
  live : d.live = c.live
  kept : ∀ h, c.holdReq.get 0 h ≠ 0 → d.holdReq.get 0 h ≠ 0

theorem HoldsAdded.refl (d : Dev) : HoldsAdded d d := ⟨rfl, rfl, fun _ h => h⟩

theorem HoldsAdded.trans {c d e : Dev} (h : HoldsAdded c d) (g : HoldsAdded d e) : HoldsAdded c e :=
  ⟨g.unit.trans h.unit, g.live.trans h.live, fun i hi => g.kept i (h.kept i hi)⟩

theorem holdsAdded_requestHold {h cause : Nat} (hcause : cause ≠ 0) (d : Dev) : HoldsAdded d (requestHold h cause d) := by
  unfold requestHold
  split
  · refine ⟨rfl, rfl, fun i hi => ?_⟩
    by_cases hh : i = h
    · subst hh
      simpa [Tab.get_set_same] using hcause
    · rwa [Tab.get_set_other _ _ _ _ _ _ hh]
  · exact HoldsAdded.refl d

/-- A hank that is not idle has a hold request after one. -/
theorem holdReq_requestHold {h cause : Nat} (hcause : cause ≠ 0) (d : Dev) (hrun : get HANK_H_STATE_STATE h d ≠ 0) :
    (requestHold h cause d).holdReq.get 0 h ≠ 0 := by
  unfold requestHold
  by_cases hreq : d.holdReq.get 0 h = 0
  · rw [if_pos ⟨hreq, hrun⟩]
    simpa [Tab.get_set_same] using hcause
  · rwa [if_neg (by simp [hreq])]

/-- Requests for a list of hanks reach each of them that is not idle. -/
theorem holdsAdded_forL {α : Type} {g : α → Nat} {cause : Nat} (hcause : cause ≠ 0) (l : List α) (d : Dev) :
    HoldsAdded d (forL l (fun r => requestHold (g r) cause) d) ∧
      ∀ r ∈ l, get HANK_H_STATE_STATE (g r) d ≠ 0 → (forL l (fun r => requestHold (g r) cause) d).holdReq.get 0 (g r) ≠ 0 := by
  unfold forL
  induction l generalizing d with
  | nil => exact ⟨HoldsAdded.refl d, fun _ h => absurd h List.not_mem_nil⟩
  | cons a l ih =>
    have ha := holdsAdded_requestHold (h := g a) hcause d
    obtain ⟨hkeep, hreach⟩ := ih (requestHold (g a) cause d)
    refine ⟨ha.trans hkeep, fun r hr hrun => ?_⟩
    rcases List.mem_cons.1 hr with rfl | hr
    · exact hkeep.kept _ (holdReq_requestHold hcause d hrun)
    · exact hreach r hr (by rwa [get_congr _ _ d _ fun z => by rw [ha.live]])

/-- An accepted orderly stop. -/
theorem doOrderlyStop_of_running {d : Dev} (hlock : productionLocked d = false) (hst : d.unit.stopped = false) (h0 : d.unit.orderly = 0) :
    doOrderlyStop d = okNone (forL (recsOf 0x0A01 d) (fun r => requestHold (r.u P0A01_HANK) 0xFFFFFF)
      (unitMod (fun x => { x with orderly := 1, stopEdge := edge d }) d)) :=
  if_neg (by simp [hlock, hst, h0])

/-! RESTART. -/

/-- An accepted RESTART notes the start to come. -/
theorem doRestart_of_allowed {d : Dev} (warm : Bool) (hlock : productionLocked d = false)
    (hgo : d.unit.stopped = false ∨ d.unit.lastF4 = 0 ∨ d.unit.noRestart = false) :
    doRestart warm d = okNone (unitMod
      (fun x => { x with nextCause := 3, coldRequest := !warm || (d.unit.stopped && d.unit.orderly != 2), warmRequest := warm })
      (if warm && !d.unit.stopped then (writeRetain d).2 else d)) := by
  have hno : ¬(d.unit.stopped ∧ d.unit.lastF4 ≠ 0 ∧ d.unit.noRestart) := by
    rintro ⟨h1, h2, h3⟩
    simp [h1, h2, h3] at hgo
  unfold doRestart
  rw [if_neg (by simp [hlock])]
  exact if_neg hno

/-- The unit that answers a RESTART, as it starts again. -/
def restartAsked (k : Nat) (h : SvcHdr) (warm : Bool) (d : Dev) : Dev :=
  unitMod (fun x => { x with nextCause := 0 }) (answer k h 0x70 (doRestart warm (arrived k d)))

/-- The unit as an accepted RESTART starts it again: warm only where it still ran or had stopped in order. -/
def restarted (k : Nat) (h : SvcHdr) (warm : Bool) (fuses : Nat) (id : Ident) (p : StartPins) (d : Dev) : Dev :=
  restartUnit (!warm || (d.unit.stopped && d.unit.orderly != 2)) fuses id p (restartAsked k h warm d)

theorem answered_restartAsked {k : Nat} {h : SvcHdr} {d : Dev} (warm : Bool) (hlock : productionLocked d = false)
    (hgo : d.unit.stopped = false ∨ d.unit.lastF4 = 0 ∨ d.unit.noRestart = false) : Answered k h 0x70 0 [] (restartAsked k h warm d) := by
  have hans := answered_answer k h 0x70 (doRestart warm (arrived k d))
  have hres : (doRestart warm (arrived k d)).status = 0 ∧ (doRestart warm (arrived k d)).body = [] := by
    rw [doRestart_of_allowed (d := arrived k d) warm hlock hgo]
    exact ⟨rfl, rfl⟩
  rwa [hres.1, hres.2] at hans

/-- A command of the unit answers what its function makes of the device. -/
theorem exec_eq_of_onUnit {i : Instr} {dt : Nat} {f : Nat → Ident → Dev → Dev} {s : State} {e : Dev} (hi : exec i s = onUnit dt f s)
    (he : f s.fuses s.ident (later dt s) = e) : exec i s = .next { s with dev := e } := by
  rw [hi, ← he]
  rfl

theorem gives_of_exec {i : Instr} {s : State} {e : Dev} {P : Dev → Prop} (hi : exec i s = .next { s with dev := e }) (hP : P e) : Gives i s P :=
  ⟨_, hi, rfl, rfl, rfl, hP⟩

/-- An accepted RESTART is answered, then the unit starts again. -/
theorem exec_restart {i j : Instr} {dt k : Nat} {h : SvcHdr} {p : StartPins} {s : State} (warm : Bool)
    (hi : exec i s = onUnit dt (fun fuses id d => afterRestart p fuses id (svcTake j h 0x70 3 4 (doRestart warm) d)) s)
    (ha : Accepts k h 3 4 (later dt s)) (hlock : productionLocked s.dev = false)
    (hgo : s.dev.unit.stopped = false ∨ s.dev.unit.lastF4 = 0 ∨ s.dev.unit.noRestart = false) :
    exec i s = .next { s with dev := restarted k h warm s.fuses s.ident p (later dt s) } := by
  refine exec_eq_of_onUnit hi ?_
  have hdo := doRestart_of_allowed (d := arrived k (later dt s)) warm hlock hgo
  rw [svcTake_of_accepts ha, afterRestart, if_pos (by rw [answer_unit, hdo]; rfl), answer_unit, hdo]
  unfold restarted restartAsked
  rw [hdo]
  rfl

/-- Settles O21: RESTART by its answer and the start after it; the orderly stop by its hold requests, its waits and its end. -/
theorem serviceRestarts : Obligations.ServiceRestarts := by
  refine ⟨fun dt h p s k ha hlock hgo => ?_, fun dt h p s k ha hlock hgo => ?_, fun dt h s k ha hlock hst h0 => ?_,
    fun dt s h1 hst hover => ?_, fun dt s h3 hst howe => ?_, fun dt s h1 hrun htime => ?_⟩
  · exact gives_of_exec (exec_restart false rfl ha hlock hgo) ⟨_, rfl, answered_restartAsked (d := later dt s) false hlock hgo⟩
  · exact gives_of_exec (exec_restart true rfl ha hlock hgo) ⟨_, rfl, answered_restartAsked (d := later dt s) true hlock hgo⟩
  · have hdo := doOrderlyStop_of_running (d := arrived k (later dt s)) hlock hst h0
    obtain ⟨hadded, hreach⟩ := holdsAdded_forL (g := fun r : Rec => r.u P0A01_HANK) (cause := 0xFFFFFF) (by decide) (recsOf 0x0A01 s.dev)
      (unitMod (fun x => { x with orderly := 1, stopEdge := edge (later dt s) }) (arrived k (later dt s)))
    have hans := answered_answer k h 0x70 (doOrderlyStop (arrived k (later dt s)))
    refine gives_of_accepts rfl ha ?_
    rw [hdo] at hans ⊢
    refine ⟨hans, ?_, fun r hr hrun => ?_⟩
    · rw [answer_unit]
      exact hadded.unit
    · rw [answer_holdReq]
      exact hreach r hr hrun
  · rw [gives_onDev_iff (f := orderlyStopHoldWaitEndAt) rfl,
      orderlyStopHoldWaitEndAt_of_over (d := later dt s) hst (holdWaitOver_iff.2 ⟨h1, hover⟩)]
    have howe : (scanWait (later dt s)).unit.owing = [] ↔ ∀ t ∈ retainTasks s.dev, get SHU_TASK_STATE_STATE t s.dev ≠ 1 := by
      rw [List.eq_nil_iff_forall_not_mem]
      simp only [mem_owing_scanWait, not_and]
      rfl
    by_cases hnone : ∀ t ∈ retainTasks s.dev, get SHU_TASK_STATE_STATE t s.dev ≠ 1
    · rw [if_pos hnone, if_pos (howe.2 hnone)]
      exact stoppedInOrder_scanWait.1 (stoppedInOrder_orderlyEnd _)
    · rw [if_neg hnone, if_neg (mt howe.1 hnone)]
      exact ⟨rfl, fun t => mem_owing_scanWait, rfl⟩
  · rw [gives_onDev_iff (f := orderlyStopHoldWaitEndAt) rfl, orderlyStopHoldWaitEndAt_of_owing (d := later dt s) hst h3 howe]
    exact stoppedInOrder_orderlyEnd _
  · have hno : holdWaitOver (later dt s) = false := by
      rw [Bool.eq_false_iff, Ne, holdWaitOver_iff]
      rintro ⟨-, hrest | hlate⟩
      · obtain ⟨r, hr, hbusy, hheld⟩ := hrun
        exact (hrest r hr).elim hbusy hheld
      · exact absurd htime (Nat.not_lt.2 hlate)
    exact (gives_onDev_iff (f := orderlyStopHoldWaitEndAt) rfl).2 (orderlyStopHoldWaitEndAt_of_waiting h1 hno)

/-! ## Starts (R43, R44, R500) -/

theorem forN_keeps {P : Dev → Prop} {n : Nat} {f : Nat → Dev → Dev} (hf : ∀ k d, P d → P (f k d)) {d : Dev} (h : P d) : P (forN n f d) := by
  induction n with
  | zero => exact h
  | succ n ih => exact hf n _ ih

section

variable (g : UnitX → UnitX) (d : Dev)

theorem get_unitMod (f : Fld) (i : Nat) : get f i (unitMod g d) = get f i d := rfl
theorem unitMod_unit : (unitMod g d).unit = g d.unit := rfl
theorem unitMod_clk : (unitMod g d).clk = d.clk := rfl
theorem unitMod_flash : (unitMod g d).flash = d.flash := rfl
theorem unitMod_img : (unitMod g d).img = d.img := rfl

end

theorem life_of_rest {d e : Dev} (h : e.rest = d.rest) : e.life = d.life := show e.rest.life = d.rest.life from congrArg Dev.life h

@[simp] theorem put_life (f : Fld) (i v : Nat) (d : Dev) : (put f i v d).life = d.life := life_of_rest (put_rest ..)
@[simp] theorem putB_life (f : Fld) (i : Nat) (b : Bool) (d : Dev) : (putB f i b d).life = d.life := life_of_rest (putB_rest ..)
@[simp] theorem wr_life (r : Reg) (i v : Nat) (d : Dev) : (wr r i v d).life = d.life := life_of_rest (wr_rest ..)
@[simp] theorem setStrand_life (b k v : Nat) (d : Dev) : (setStrand b k v d).life = d.life := life_of_rest (setStrand_rest ..)

/-! The reset values of a start. -/

/-- The flash and the unit's life as a reset leaves them; the safety receivers' levels are no part of either. -/
theorem resetDev_life (phase : Phase) (d : Dev) : (resetDev phase d).flash = d.flash ∧ (resetDev phase d).unit.phase = phase := by
  have hput (e : Dev) (f : Fld) (i v : Nat) (h : e.flash = d.flash ∧ e.unit.phase = phase) :
      (put f i v e).flash = d.flash ∧ (put f i v e).unit.phase = phase := by simpa using h
  unfold resetDev safeLevels
  refine forN_keeps (P := fun e => e.flash = d.flash ∧ e.unit.phase = phase) (fun _ e h => hput e _ _ _ h) ?_
  exact forN_keeps (P := fun e => e.flash = d.flash ∧ e.unit.phase = phase) (fun _ e h => hput _ _ _ _ (hput e _ _ _ h)) ⟨rfl, rfl⟩

theorem restartDev_flash (d : Dev) : (restartDev d).flash = d.flash := (resetDev_life .step1 d).1
theorem restartDev_img (d : Dev) : (restartDev d).img = none := (resetDev_imgs .step1 d).1

/-! What the parts of a start leave alone. -/

theorem showTrims_life (fuses : Nat) (d : Dev) : (showTrims fuses d).life = d.life :=
  forL_keeps (P := fun e : Dev => e.life = d.life) (fun _ _ h => (put_life ..).trans h) rfl

theorem showIdent_life (id : Ident) (d : Dev) : (showIdent id d).life = d.life := by simp [showIdent]

theorem startPins_life (p : StartPins) (d : Dev) : (startPins p d).life = d.life :=
  forL_keeps (P := fun e : Dev => e.life = d.life) (fun _ _ h => (setStrand_life ..).trans h) (put_life ..)

theorem startMonitors_life (d : Dev) : (startMonitors d).life = d.life := by
  refine forN_keeps (P := fun e : Dev => e.life = d.life) (fun k e h => ?_) ?_
  · exact (put_life ..).trans ((put_life ..).trans h)
  · exact (put_life ..).trans ((put_life ..).trans (put_life ..))

theorem showFuses_life (fuses : Nat) (pgm : Bool) (d : Dev) : (showFuses fuses pgm d).life = d.life := by simp [showFuses]

theorem showFuses_unit (fuses : Nat) (pgm : Bool) (d : Dev) : (showFuses fuses pgm d).unit = d.unit := by
  obtain ⟨hunit, -⟩ := life_eq_iff.1 (showFuses_life fuses pgm d)
  exact hunit

/-! Step 1 of a start. -/

/-- The unit in step 1, before it looks at TEST_EN and PFAIL_N. -/
def poweredUp (cause fuses : Nat) (id : Ident) (p : StartPins) (d : Dev) : Dev :=
  startMonitors (startPins p (showIdent id (showTrims fuses (unitMod (fun x => { x with lockNs := p.lockNs })
      { d with clk := { edges := p.bootEdges, loom := 16 * p.bootEdges } }))))
    |> putB SYS_STATUS_JTAG_EN 0 p.jtagEn |> put SYS_STATUS_RESET_CAUSE 0 cause |> put FUSE_LDR_STATE_STEP 0 1

theorem startFrom_of_testEn (cause fuses : Nat) (id : Ident) {p : StartPins} (d : Dev) (ht : p.testEn = true) :
    startFrom cause fuses id p d = put SYS_STATUS_TEST 0 1 (unitMod (fun x => { x with phase := .test }) (poweredUp cause fuses id p d)) :=
  if_pos ht

theorem startFrom_of_pfailLow (cause fuses : Nat) (id : Ident) {p : StartPins} (d : Dev) (ht : p.testEn = false) (hp : p.pfailLow = true) :
    startFrom cause fuses id p d =
      put SYS_STATUS_PFAIL 0 1 (unitMod (fun x => { x with pfailLow := true, nextCause := cause }) (poweredUp cause fuses id p d)) :=
  (if_neg (by simp [ht])).trans (if_pos hp)

section

variable (cause fuses : Nat) (id : Ident) (p : StartPins) (d : Dev)

theorem poweredUp_life : (poweredUp cause fuses id p d).life =
    (unitMod (fun x => { x with lockNs := p.lockNs }) { d with clk := { edges := p.bootEdges, loom := 16 * p.bootEdges } }).life := by
  simp only [poweredUp, put_life, putB_life, startMonitors_life, startPins_life, showIdent_life, showTrims_life]

theorem poweredUp_keeps : (poweredUp cause fuses id p d).unit = { d.unit with lockNs := p.lockNs } ∧
    (poweredUp cause fuses id p d).clk.edges = p.bootEdges ∧ (poweredUp cause fuses id p d).flash = d.flash ∧
    (poweredUp cause fuses id p d).img = d.img := by
  obtain ⟨hunit, hclk, hflash, himg, -⟩ := life_eq_iff.1 (poweredUp_life cause fuses id p d)
  exact ⟨hunit, congrArg Clk.edges hclk, hflash, himg⟩

theorem cause_poweredUp : get SYS_STATUS_RESET_CAUSE 0 (poweredUp cause fuses id p d) = cause % 8 := by
  unfold poweredUp
  rw [get_put_other SYS_STATUS_RESET_CAUSE FUSE_LDR_STATE_STEP 0 0 1 _ (by decide), get_put_same SYS_STATUS_RESET_CAUSE 0 cause _ (by decide)]
  exact congrArg (cause % ·) (show 2 ^ SYS_STATUS_RESET_CAUSE.width = 8 by decide)

end

/-- A start that ends in step 1. -/
structure Held (cause : Nat) (p : StartPins) (d e : Dev) : Prop where
  cause : get SYS_STATUS_RESET_CAUSE 0 e = cause % 8
  edges : e.clk.edges = p.bootEdges
  img : e.img = d.img
  flash : e.flash = d.flash

section

variable {cause fuses : Nat} {id : Ident} {p : StartPins} {d : Dev}

/-- One more field of SYS_STATUS is written, and the unit's life goes on. -/
theorem held_put {f : Fld} {g : UnitX → UnitX} (hf : f = SYS_STATUS_TEST ∨ f = SYS_STATUS_PFAIL) :
    Held cause p d (put f 0 1 (unitMod g (poweredUp cause fuses id p d))) := by
  obtain ⟨-, hedges, hflash, himg⟩ := poweredUp_keeps cause fuses id p d
  refine ⟨?_, by rw [put_clk, unitMod_clk, hedges], by rw [put_img, unitMod_img, himg], by rw [put_flash, unitMod_flash, hflash]⟩
  rcases hf with rfl | rfl
  · rw [get_put_field SYS_STATUS_RESET_CAUSE SYS_STATUS_TEST 0 1 _ rfl (by decide) (by decide), get_unitMod, cause_poweredUp]
  · rw [get_put_field SYS_STATUS_RESET_CAUSE SYS_STATUS_PFAIL 0 1 _ rfl (by decide) (by decide), get_unitMod, cause_poweredUp]

theorem held_startFrom (hp : p.testEn = true ∨ p.pfailLow = true) : Held cause p d (startFrom cause fuses id p d) := by
  cases ht : p.testEn with
  | true =>
    rw [startFrom_of_testEn cause fuses id d ht]
    exact held_put (.inl rfl)
  | false =>
    rw [startFrom_of_pfailLow cause fuses id d ht (hp.resolve_left (by simp [ht]))]
    exact held_put (.inr rfl)

end

/-! The net after the loader. -/

/-- The unit's life and the loader's step, which the net's start leaves alone where no fault has a reaction. -/
def NetQuiet (c d : Dev) : Prop := d.unit = c.unit ∧ get FUSE_LDR_STATE_STEP 0 d = get FUSE_LDR_STATE_STEP 0 c

namespace NetQuiet

variable {c d : Dev}

theorem refl (d : Dev) : NetQuiet d d := ⟨rfl, rfl⟩

theorem trans {e : Dev} (h : NetQuiet c d) (g : NetQuiet d e) : NetQuiet c e := ⟨g.1.trans h.1, g.2.trans h.2⟩

theorem of_noted (h : Noted c d) : NetQuiet c d := ⟨congrArg Prod.fst h.1, h.2 _ _ (by decide)⟩

protected theorem put {f : Fld} {v : Nat} (h : NetQuiet c d) (hf : FUSE_LDR_STATE_STEP.reg.addr 0 ≠ f.reg.addr 0) : NetQuiet c (put f 0 v d) :=
  h.trans ⟨put_unit .., get_put_other _ _ _ _ _ _ hf⟩

protected theorem startNumbering (h : NetQuiet c d) : NetQuiet c (startNumbering d) := by
  unfold Machine.startNumbering
  extract_lets r top old numbered last
  split
  · exact h
  · have h1 : NetQuiet c { d with recd := { r with numbering := true, buf := numbered, nextSeq := top + 1 + (r.buf.length - old) } } := h
    exact (h1.trans (of_noted (Noted.refl _).logRegs)).put (by decide)

/-- A lost lock raises a fault; it has no reaction before step 5 and in LOAD_FAIL. -/
protected theorem loseLock (h : NetQuiet c d) (hr : c.unit.phase ≠ .run) (hs : c.unit.phase ≠ .starting) : NetQuiet c (loseLock d) := by
  have hmod {e : Dev} {f : PtpX → PtpX} (he : NetQuiet c e) : NetQuiet c (ptpMod f e) := he
  unfold Machine.loseLock
  extract_lets d1
  split
  · exact hmod h
  · have h1 : NetQuiet c d1 := (hmod h).put (by decide)
    split
    · have h2 := h1.put (f := REEL_TIME_STATUS_HOLDOVER) (v := 1) (by decide)
      exact h2.trans (of_noted (noted_raise_of_phase (by rwa [h2.1]) (by rwa [h2.1]) ..))
    · exact h1

protected theorem setPtpState {st : Nat} (h : NetQuiet c d) (hr : c.unit.phase ≠ .run) (hs : c.unit.phase ≠ .starting) :
    NetQuiet c (setPtpState st d) := by
  unfold Machine.setPtpState
  extract_lets was d1
  have h1 : NetQuiet c d1 := (h.put (f := ETH_PTP_STATUS_PORT_STATE) (by decide)).trans
    ⟨by simp [d1], get_putStrands _ _ _ _ (by decide) (by decide)⟩
  split
  · exact h1.loseLock hr hs
  · exact h1

protected theorem netStart (h : NetQuiet c d) (hr : c.unit.phase ≠ .run) (hs : c.unit.phase ≠ .starting) : NetQuiet c (netStart d) := by
  unfold Machine.netStart
  extract_lets d1
  have h1 : NetQuiet c d1 := by
    unfold d1
    split
    · exact (h.put (by decide)).put (by decide)
    · exact (h.put (by decide)).put (by decide)
  split
  · exact h1
  · exact ((h1.put (by decide)).put (f := ETH_PTP_STATUS_TWO_STEP) (by decide)).setPtpState hr hs

end NetQuiet

/-- LOAD_FAIL: the unit waits for an image, in step 0xF. -/
theorem loadFail_keeps (d : Dev) : (loadFail d).unit.phase = .loadFail ∧ get FUSE_LDR_STATE_STEP 0 (loadFail d) = 0xF := by
  unfold loadFail
  extract_lets d1
  have hphase : d1.unit.phase = .loadFail := congrArg UnitX.phase (put_unit ..)
  have hr : d1.unit.phase ≠ .run := by simp [hphase]
  have hs : d1.unit.phase ≠ .starting := by simp [hphase]
  obtain ⟨hunit, hstep⟩ := ((NetQuiet.of_noted (noted_raise_of_phase (d := d1) hr hs 0x020A 0 0 0)).startNumbering).netStart hr hs
  exact ⟨(congrArg UnitX.phase hunit).trans hphase, hstep.trans (get_put_same _ _ _ _ (by decide))⟩

/-- Programming mode: step 0xE, while the part is not closed. -/
theorem startOn_of_programming {fuses : Nat} {id : Ident} {p : StartPins} {d : Dev} (hp : p.fusePgm = true)
    (hopen : bits fuses 576 2 ≠ 3 ∨ bits fuses 0 256 = 0 ∨ bits fuses 256 256 = 0) :
    (startOn fuses id p d).unit.phase = .programming ∧ get FUSE_LDR_STATE_STEP 0 (startOn fuses id p d) = 0xE := by
  unfold startOn
  extract_lets u d1 d2 closed
  have hclosed : (p.fusePgm && !closed) = true := by
    rcases hopen with h | h | h <;> simp [closed, hp, h]
  rw [if_pos hclosed]
  generalize hd3 : put FUSE_LDR_STATE_STEP 0 0xE (showFuses fuses true (unitMod (fun x => { x with phase := .programming }) d2)) = d3
  have hphase : d3.unit.phase = .programming := by
    rw [← hd3, put_unit, showFuses_unit]
    rfl
  have hstep : get FUSE_LDR_STATE_STEP 0 d3 = 0xE := by
    rw [← hd3]
    exact get_put_same _ _ _ _ (by decide)
  obtain ⟨hunit, hget⟩ := (NetQuiet.refl d3).netStart (by simp [hphase]) (by simp [hphase])
  exact ⟨(congrArg UnitX.phase hunit).trans hphase, hget.trans hstep⟩

/-! The loader's choice. -/

theorem startSteps_of_none {fuses : Nat} {id : Ident} {p : StartPins} {d : Dev} (hb : p.bistFail = false)
    (hno : (chooseCopy fuses id p.reread (put FUSE_LDR_STATE_STEP 0 3 (startRepair p d))).2 = none) :
    startSteps fuses id p d = loadFail (chooseCopy fuses id p.reread (put FUSE_LDR_STATE_STEP 0 3 (startRepair p d))).1 := by
  unfold startSteps
  extract_lets d1 d2 r
  rw [if_neg (by simp [hb])]
  split
  next hc => exact absurd (hc.symm.trans hno) (by simp)
  · rfl

theorem startSteps_of_some {fuses : Nat} {id : Ident} {p : StartPins} {d : Dev} {c : Nat} {l : Loaded} (hb : p.bistFail = false)
    (hsome : (chooseCopy fuses id p.reread (put FUSE_LDR_STATE_STEP 0 3 (startRepair p d))).2 = some (c, l)) :
    startSteps fuses id p d = startBlocks c l (chooseCopy fuses id p.reread (put FUSE_LDR_STATE_STEP 0 3 (startRepair p d))).1 := by
  unfold startSteps
  extract_lets d1 d2 r
  rw [if_neg (by simp [hb])]
  split
  next hc =>
    obtain ⟨rfl, rfl⟩ := Prod.mk.inj (Option.some.inj (hc.symm.trans hsome))
    rfl
  next hc => exact absurd (hc.symm.trans hsome) (by simp)

/-! A restart. -/

theorem flushEvents_flash (d : Dev) : (flushEvents d).flash = d.flash := by
  obtain ⟨hlife, -⟩ := (Noted.refl d).flushEvents
  obtain ⟨-, -, hflash, -⟩ := life_eq_iff.1 hlife
  exact hflash

theorem restartAsked_flash {k : Nat} {h : SvcHdr} {warm : Bool} {d : Dev} (hlock : productionLocked d = false)
    (hgo : d.unit.stopped = false ∨ d.unit.lastF4 = 0 ∨ d.unit.noRestart = false) : (restartAsked k h warm d).flash = d.flash := by
  have hres : (restartAsked k h warm d).flash = (doRestart warm (arrived k d)).dev.flash := answer_flash k h 0x70 _
  rw [hres, doRestart_of_allowed (d := arrived k d) warm hlock hgo]
  have hw : (if warm && !(arrived k d).unit.stopped then (writeRetain (arrived k d)).2 else arrived k d).flash = d.flash := by
    split
    · obtain ⟨-, -, hflash⟩ := writeRetain_keeps (arrived k d)
      exact hflash
    · rfl
  exact hw

section

variable {cold : Bool} {fuses : Nat} {id : Ident} {p : StartPins} {d : Dev}

/-- A restart that ends in step 1 shows its cause and keeps the flash. -/
theorem restartUnit_of_held (hp : p.testEn = true ∨ p.pfailLow = true) :
    get SYS_STATUS_RESET_CAUSE 0 (restartUnit cold fuses id p d) = 3 ∧ (restartUnit cold fuses id p d).img = none ∧
      (restartUnit cold fuses id p d).flash = d.flash := by
  have hheld := held_startFrom (cause := 3) (fuses := fuses) (id := id)
    (d := restartDev (flushEvents (unitMod (fun x => { x with coldRequest := cold }) d))) hp
  have hflash := (restartDev_flash _).trans (flushEvents_flash (unitMod (fun x => { x with coldRequest := cold }) d))
  exact ⟨hheld.cause, hheld.img.trans (restartDev_img _), hheld.flash.trans hflash⟩

theorem restartUnit_phase_of_testEn (ht : p.testEn = true) : (restartUnit cold fuses id p d).unit.phase = .test := by
  unfold restartUnit
  rw [startFrom_of_testEn 3 fuses id _ ht, put_unit, unitMod_unit]

end

/-- A unit whose last F4 fault lets it restart. -/
theorem mayRestart_iff {d : Dev} : mayRestart d = true ↔ d.unit.noRestart = false ∧ faultClass d.unit.lastF4 ≠ 5 := by
  simp [mayRestart]

section

variable {cause fuses : Nat} {id : Ident} {p : StartPins} {d : Dev}

/-- With TEST_EN high a start ends in test. -/
theorem startUnit_of_testEn (ht : p.testEn = true) : (startUnit cause fuses id p d).unit.phase = .test ∧
    get SYS_STATUS_TEST 0 (startUnit cause fuses id p d) = 1 ∧ Held cause p (resetDev .step1 d) (startUnit cause fuses id p d) := by
  refine ⟨?_, ?_, held_startFrom (.inl ht)⟩
  · rw [startUnit, startFrom_of_testEn _ _ _ _ ht, put_unit, unitMod_unit]
  · rw [startUnit, startFrom_of_testEn _ _ _ _ ht]
    exact get_put_same _ _ _ _ (by decide)

/-- With PFAIL_N low it stays in step 1. -/
theorem startUnit_of_pfailLow (ht : p.testEn = false) (hp : p.pfailLow = true) : (startUnit cause fuses id p d).unit.phase = .step1 ∧
    get SYS_STATUS_PFAIL 0 (startUnit cause fuses id p d) = 1 ∧ Held cause p (resetDev .step1 d) (startUnit cause fuses id p d) := by
  refine ⟨?_, ?_, held_startFrom (.inr hp)⟩
  · obtain ⟨hunit, -⟩ := poweredUp_keeps cause fuses id p (resetDev .step1 d)
    rw [startUnit, startFrom_of_pfailLow _ _ _ _ ht hp, put_unit, unitMod_unit, hunit]
    exact (resetDev_life .step1 d).2
  · rw [startUnit, startFrom_of_pfailLow _ _ _ _ ht hp]
    exact get_put_same _ _ _ _ (by decide)

end

/-- Settles O9: each start by the branch of its first steps that it takes, each command by its condition. -/
theorem starts : Obligations.Starts := by
  refine ⟨⟨fun cause fuses id p d ht => ?_, fun cause fuses id p d ht hp => ?_, fun fuses id p d hp hopen => startOn_of_programming hp hopen,
    fun fuses id p d hb hno => ?_, fun fuses id p d c l hb hsome => ?_⟩, fun dt p s hph => ?_, fun dt p s hph => ?_,
    fun dt p s h1 h5 hdue => ?_, fun dt p s hph hlow => ?_, fun dt p s hph hno h5 htime => ?_, fun dt p s h8 hph hno h5 htime => ?_,
    fun dt h p s k i ha hlock hgo hi => ?_, fun dt p s o hph hst hdone ho ht => ?_⟩
  · obtain ⟨hphase, hflag, hheld⟩ := startUnit_of_testEn (cause := cause) (fuses := fuses) (id := id) (d := d) ht
    exact ⟨hphase, hflag, hheld.cause, hheld.edges, hheld.img.trans (resetDev_imgs .step1 d).1, hheld.flash.trans (resetDev_life .step1 d).1⟩
  · obtain ⟨hphase, hflag, hheld⟩ := startUnit_of_pfailLow (cause := cause) (fuses := fuses) (id := id) (d := d) ht hp
    exact ⟨hphase, hflag, hheld.img.trans (resetDev_imgs .step1 d).1⟩
  · rw [startSteps_of_none hb hno]
    exact loadFail_keeps _
  · rw [startSteps_of_some hb hsome]
    exact (imgsKept_startBlocks c l _).1
  · exact exec_eq_of_onUnit rfl (if_pos (by simp [hph]))
  · exact exec_eq_of_onUnit rfl (if_pos (by simp [hph]))
  · have hagain : dueAgain (later dt s).store.flushEdge 4000000 (later dt s) = true := hdue
    exact exec_eq_of_onUnit rfl (if_pos (by simp [flag, h1, h5, hagain]))
  · exact exec_eq_of_onUnit rfl (if_pos (by simp [hph, hlow]))
  · have hmay : mayRestart (later dt s) = true := mayRestart_iff.2 ⟨hno, h5⟩
    exact exec_eq_of_onUnit rfl (if_pos (by simp [hph, hmay, htime]))
  · have hmay : mayRestart (later dt s) = true := mayRestart_iff.2 ⟨hno, h5⟩
    have hpair : pairState (later dt s) = 8 := h8
    have hlong : 40000000 ≤ since (later dt s).pairx.deposedEdge (later dt s) := htime
    exact exec_eq_of_onUnit rfl (if_pos (by simp [hpair, hph, hmay, hlong]))
  · obtain ⟨warm, hexec⟩ : ∃ warm, exec i s = .next { s with dev := restarted k h warm s.fuses s.ident p (later dt s) } := by
      rcases hi with rfl | rfl
      · exact ⟨false, exec_restart false rfl ha hlock hgo⟩
      · exact ⟨true, exec_restart true rfl ha hlock hgo⟩
    refine gives_of_exec hexec ⟨_, _, rfl, fun hp => ?_⟩
    obtain ⟨hcause, himg, hflash⟩ := restartUnit_of_held hp
    exact ⟨hcause, himg, hflash.trans (restartAsked_flash (d := later dt s) hlock hgo)⟩
  · rw [gives_exchangeReadbackDone_iff, exchangeReadbackDoneAt_of_ok (d := later dt s) hst hdone ho, if_pos (by simp [hph])]
    obtain ⟨hcause, -, hflash⟩ := restartUnit_of_held (cold := false) (fuses := s.fuses) (id := s.ident) (d := verified (later dt s)) (.inl ht)
    exact ⟨restartUnit_phase_of_testEn ht, hcause, hflash.trans (verified_flash _)⟩

end Sys2Proof.Machine

namespace Sys2Proof.Machine

/-! Proofs for the family 03_reel_measures_picks.md: firings of picks, edges at general I/O balls, samples of measures, and the position feedback that
measures follow. -/

/-! ## Tools -/

/-- What each step of a fold over a list keeps for the members of the list, the fold keeps. -/
theorem forL_keeps_mem {α σ : Type} {P : σ → Prop} {l : List α} {f : α → σ → σ} (hf : ∀ a ∈ l, ∀ s, P s → P (f a s)) {s : σ} (h : P s) :
    P (forL l f s) := by
  unfold forL
  induction l generalizing s with
  | nil => exact h
  | cons a l ih => exact ih (fun b hb => hf b (List.mem_cons_of_mem _ hb)) (hf a List.mem_cons_self s h)

theorem onlyIf_keeps {σ : Type} {P : σ → Prop} {b : Bool} {f : σ → σ} {s : σ} (h : P s) (hf : P s → P (f s)) : P (onlyIf b f s) := by
  unfold onlyIf
  split
  · exact hf h
  · exact h

theorem ite_keeps {σ : Type} {P : σ → Prop} {p : Prop} {_ : Decidable p} {s t : σ} (hs : P s) (ht : P t) : P (if p then s else t) := by
  split <;> assumption

theorem Reg.base_le_addr (r : Reg) (i : Nat) : r.base ≤ r.addr i := Nat.le_add_right _ _

theorem Reg.addr_le {i n : Nat} (r : Reg) (hi : i < n) : r.addr i ≤ r.base + n * r.stride :=
  Nat.add_le_add_left (Nat.mul_le_mul_right _ hi.le) _

theorem raiseAddrs_high : ∀ a ∈ raiseAddrs, 0x20000 ≤ a := by decide

protected theorem Noted.clearOne {a : Active} {c d : Dev} (h : Noted c d) : Noted c (clearOne a d) :=
  Noted.refreshFaults (Noted.record (d := { d with active := _ }) h)

/-! ## What leaves the unit's part and its balls alone

Recording, streams, the drives' pins and the start of an exchange write neither the unit's life nor its part in a pair, neither the balls' notes nor
the cells below block 0x02, where GPIO_LEVEL and the strands of the balls lie. -/

/-- From `c` to `d` the unit's life, its role, the balls' notes and the cells of blocks 0x00 and 0x01 are the same. -/
def Undisturbed (c d : Dev) : Prop :=
  d.unit = c.unit ∧ d.pins = c.pins ∧ pairState d = pairState c ∧ ∀ a, a < 0x20000 → ∀ z, d.live.get z a = c.live.get z a

/-- Register `r`, up to index `n`, lies outside those cells. -/
abbrev Reg.offDuty (r : Reg) (n : Nat) : Prop := 0x20000 ≤ r.base ∧ (r.base + n * r.stride < 0x120000 ∨ 0x120000 < r.base)

namespace Undisturbed

variable {c d : Dev}

theorem refl (d : Dev) : Undisturbed d d := ⟨rfl, rfl, rfl, fun _ _ _ => rfl⟩

protected theorem put {f : Fld} {i v : Nat} (n : Nat) (h : Undisturbed c d) (hi : i < n) (hr : f.reg.offDuty n) : Undisturbed c (put f i v d) := by
  obtain ⟨hunit, hpins, hpair, hlow⟩ := h
  have hbase := f.reg.base_le_addr i
  have htop := f.reg.addr_le hi
  have hne : PAIR_STATUS_STATE.reg.addr 0 ≠ f.reg.addr i := by
    change 0x120000 ≠ _
    omega
  exact ⟨(put_unit ..).trans hunit, (put_pins ..).trans hpins, (get_put_other _ _ _ _ _ _ hne).trans hpair,
    fun a ha z => (live_put_other _ _ _ _ _ _ (by omega)).trans (hlow a ha z)⟩

/-- A register of one index. -/
protected theorem put0 {f : Fld} {v : Nat} (h : Undisturbed c d) (hr : f.reg.offDuty 1) : Undisturbed c (Machine.put f 0 v d) :=
  h.put 1 Nat.one_pos hr

/-- A strand above block 0x01. -/
protected theorem setStrand {b k v : Nat} (h : Undisturbed c d) (hb : 2 ≤ b) (hk : k < 4096) : Undisturbed c (setStrand b k v d) := by
  obtain ⟨hunit, hpins, hpair, hlow⟩ := h
  have hne : PAIR_STATUS_STATE.reg.addr 0 ≠ strandAddr b k := by
    change 0x120000 ≠ _
    unfold strandAddr
    omega
  refine ⟨hunit, hpins, (get_setStrand _ _ _ _ _ _ hne).trans hpair, fun a ha z => (live_setStrand_other _ _ _ _ _ _ ?_).trans (hlow a ha z)⟩
  unfold strandAddr
  omega

theorem noted {e : Dev} (h : Undisturbed c d) (hn : Noted d e) (hq : e.quiet = d.quiet) (hcalm : ∀ a, Calm a d e) : Undisturbed c e := by
  obtain ⟨hunit, hpins, hpair, hlow⟩ := h
  obtain ⟨hlife, hget⟩ := hn
  exact ⟨(congrArg Prod.fst hlife).trans hunit, (quiet_pins hq).trans hpins, (hget PAIR_STATUS_STATE 0 (by decide)).trans hpair,
    fun a ha z => (hcalm a (fun hm => absurd (raiseAddrs_high a hm) (by omega)) z).trans (hlow a ha z)⟩

/-- A fault without a reaction. -/
protected theorem raise {code obj aux : Nat} {value : Int} (h : Undisturbed c d) (hc : faultClass code ≤ 1) :
    Undisturbed c (raise code obj d aux value) :=
  h.noted (noted_raise_of_class hc obj d aux value) (raise_quiet ..) fun _ => calm_raiseWith _ _ _ Calm.rfl'

protected theorem clearOne {a : Active} (h : Undisturbed c d) : Undisturbed c (clearOne a d) :=
  h.noted (Noted.refl d).clearOne (clearOne_quiet ..) fun _ => calm_clearOne a Calm.rfl'

protected theorem ite {p : Prop} {_ : Decidable p} {e : Dev} (hd : Undisturbed c d) (he : Undisturbed c e) : Undisturbed c (if p then d else e) :=
  ite_keeps hd he

protected theorem stick {f : Fld} {i code obj aux : Nat} {value : Int} (n : Nat) (h : Undisturbed c d) (hi : i < n) (hr : f.reg.offDuty n)
    (hc : faultClass code ≤ 1) : Undisturbed c (stick f i code obj d aux value) :=
  .ite (h.put n hi hr) ((h.put n hi hr).raise hc)

/-! Streams (R328, R407, R412). -/

variable {n : Nat}

protected theorem strMod {f : StreamX → StreamX} (h : Undisturbed c d) : Undisturbed c (strMod n f d) := h

protected theorem ethQueue {p : Nat} {t : EthTx} (h : Undisturbed c d) (hp : p < 256) (ht : t.stream ≤ 256) : Undisturbed c (ethQueue p t d) := by
  unfold Machine.ethQueue
  extract_lets l x d1
  have h1 : Undisturbed c d1 := h
  exact .ite (h.put 256 hp (by decide)) (.ite h1 (h1.put 256 (by omega) (by decide)))

protected theorem strQueue {bs : List Nat} (h : Undisturbed c d) (hn : n < 256) : Undisturbed c (strQueue n bs d) := by
  unfold Machine.strQueue
  split
  · exact h
  · exact h.ethQueue (recU_lt _ _ _ rfl) hn

protected theorem strState {st : Nat} (h : Undisturbed c d) (hn : n < 256) : Undisturbed c (strState n st d) :=
  ((h.put 256 hn (by decide)).put 256 hn (by decide)).put0 (by decide)

protected theorem strOverflow {more : Nat} (h : Undisturbed c d) (hn : n < 256) : Undisturbed c (strOverflow n more d) :=
  (((h.strMod.strQueue hn).put 256 hn (by decide)).raise (by decide)).strState hn |>.stick 256 hn (by decide) (by decide)

protected theorem strClose {ends : Bool} {more : Nat} (h : Undisturbed c d) (hn : n < 256) : Undisturbed c (strClose n ends more d) := by
  unfold Machine.strClose
  extract_lets x room pk
  exact h.ite (.ite (h.strOverflow hn) (h.strMod.strQueue hn))

protected theorem strAdd {t : Nat} {bs : List Nat} (h : Undisturbed c d) (hn : n < 256) : Undisturbed c (strAdd n t bs d) := by
  unfold Machine.strAdd
  extract_lets x d1
  have h1 : Undisturbed c d1 := .ite (h.strClose hn) h
  exact h.ite (h1.ite h1.strMod)

protected theorem strMark {t source aux : Nat} (h : Undisturbed c d) (hn : n < 256) : Undisturbed c (strMark n t source aux d) :=
  h.ite ((h.strAdd hn).put 256 hn (by decide))

protected theorem strArm {dest : Nat} (h : Undisturbed c d) (hn : n < 256) : Undisturbed c (strArm n dest d) :=
  .strState (Undisturbed.put 256 h hn (by decide)) hn

protected theorem strEnd (h : Undisturbed c d) (hn : n < 256) : Undisturbed c (strEnd n d) := h.ite ((h.strAdd hn).strClose hn)

/-! The start of an exchange (R52). -/

protected theorem streamSwitch {m o : Img} (h : Undisturbed c d) (hn : n < 256) : Undisturbed c (streamSwitch m o n d) := by
  unfold Machine.streamSwitch
  extract_lets a b same dest d1
  have h1 : Undisturbed c d1 := h.strEnd hn
  exact h.ite (.ite (h1.strArm hn) (h1.strState hn))

protected theorem showOld (h : Undisturbed c d) : Undisturbed c (showOld d) :=
  .put0 (forL_keeps (fun r _ h => h.put 256 (recU_lt r P0A01_HANK 0 rfl) (by decide)) h) (by decide)

protected theorem xchgBegin {t : Nat} (h : Undisturbed c d) : Undisturbed c (xchgBegin t d) := by
  unfold Machine.xchgBegin
  refine h.ite ?_
  split
  · exact .showOld (forL_keeps_mem (fun k hk _ h => h.streamSwitch (by have := List.mem_range.1 hk; omega)) (forL_keeps (fun _ _ h => h.clearOne) h))
  · exact h

/-! Picks (R70, R73). -/

protected theorem predictPick {p : Nat} (h : Undisturbed c d) (hp : p < 1024) : Undisturbed c (predictPick p d) := by
  have hput {x : Tab PickX} {v : Nat} : Undisturbed c (put REEL_PICK_STATUS_STATE p v { d with pick := x }) := Undisturbed.put 1024 h hp (by decide)
  unfold Machine.predictPick
  extract_lets m x
  refine h.ite ?_
  split
  · exact h
  · extract_lets up base
    split
    · exact hput
    · exact hput

protected theorem countFiring {p t : Nat} {late : Bool} (h : Undisturbed c d) (hp : p < 1024) : Undisturbed c (countFiring p t late d) :=
  onlyIf_keeps (((h.put 1024 hp (by decide)).put0 (by decide)).put 1024 hp (by decide)) fun h =>
    (h.put0 (by decide)).stick 1024 hp (by decide) (by decide)

protected theorem rearm {p : Nat} {skips : Bool} (h : Undisturbed c d) (hp : p < 1024) : Undisturbed c (rearm p skips d) := by
  unfold Machine.rearm
  extract_lets m time x predicted up target n angle pos x' d1 fall moved k next d2 d3
  have h1 : Undisturbed c d1 := h
  have hidle {v : Nat} : Undisturbed c (put REEL_PICK_STATUS_STATE p v d1) := h1.put 1024 hp (by decide)
  have h2 : Undisturbed c d2 := hidle.put 1024 hp (by decide)
  have h3 : Undisturbed c d3 := .ite ((Undisturbed.put0 h2 (by decide)).stick 1024 hp (by decide) (by decide)) h2
  exact .ite (.ite (hidle.predictPick hp) hidle) (.ite h3 (h3.predictPick hp))

protected theorem hookWakes {p : Nat} (h : Undisturbed c d) : Undisturbed c (hookWakes p d) := by
  refine forL_keeps (P := Undisturbed c) (fun r e he => ?_) h
  split <;> exact he

/-! The groups that a firing aligns (R186, R187). -/

protected theorem setPins {v : Nat} (h : Undisturbed c d) (hn : n < 512) : Undisturbed c (setPins n v d) :=
  .put 512 (.put 512 h hn (by decide)) hn (by decide)

protected theorem pinOff {b : Nat} (h : Undisturbed c d) (hn : n < 512) : Undisturbed c (pinOff n b d) := .setPins h hn

protected theorem pinOn {e b : Nat} (h : Undisturbed c d) (hn : n < 512) : Undisturbed c (pinOn e n b d) := h.ite (.ite (h.setPins hn) h)

protected theorem pinsOff (h : Undisturbed c d) (hn : n < 512) : Undisturbed c (pinsOff n d) :=
  forL_keeps (P := Undisturbed c) (fun _ _ h => h.pinOff hn) h

protected theorem pinsSafe {e : Nat} (h : Undisturbed c d) (hn : n < 512) : Undisturbed c (pinsSafe e n d) := by
  have h1 : Undisturbed c (forL [0, 2, 4] (Machine.pinOff n) (pinsNow n d)) := forL_keeps (P := Undisturbed c) (fun _ _ h => h.pinOff hn) h
  exact .ite (forL_keeps (fun _ _ h => h.pinOn hn) h1) (forL_keeps (fun _ _ h => h.pinOff hn) h1)

protected theorem settlePins (h : Undisturbed c d) (hn : n < 512) : Undisturbed c (settlePins n d) := by
  unfold Machine.settlePins
  split
  · exact h.ite (.ite (h.pinsSafe hn) (h.pinsOff hn))
  · exact h

protected theorem pinTo {b : Nat} {on : Bool} (h : Undisturbed c d) (hn : n < 512) : Undisturbed c (pinTo n b on d) :=
  .ite (h.pinOn hn) (h.pinOff hn)

protected theorem drivePins {ph p : Nat} (h : Undisturbed c d) (hn : n < 512) : Undisturbed c (drivePins ph p n d) :=
  .ite (h.settlePins hn) <| forL_keeps (fun _ _ h => .ite ((h.pinTo hn).pinTo hn) ((h.pinTo hn).pinTo hn)) (h.settlePins hn)

protected theorem auxSet {j : Nat} {active : Bool} (h : Undisturbed c d) (hj : j < 256) : Undisturbed c (auxSet j active d) := by
  unfold Machine.auxSet
  extract_lets d1 d2
  have h1 : Undisturbed c d1 := h
  have h2 : Undisturbed c d2 := h1.put 256 hj (by decide)
  exact h1.ite (h2.ite (h2.setStrand (by decide) (by omega)))

protected theorem refreshPins {g : Nat} (h : Undisturbed c d) (hg : g < 256) : Undisturbed c (refreshPins g d) := by
  unfold Machine.refreshPins
  split
  · exact h
  · exact h.ite (forL_keeps (fun r _ h => h.auxSet (recU_lt r P0705_OUTPUT 0 rfl)) ((h.drivePins (by omega)).drivePins (by omega)))

protected theorem carrierZero {g : Nat} {carried : Bool} (h : Undisturbed c d) (hg : g < 256) : Undisturbed c (carrierZero g carried d) :=
  .refreshPins (.put 256 h hg (by decide)) hg

protected theorem syncGroup {g : Nat} {r : Rec} (h : Undisturbed c d) (hg : g < 256) : Undisturbed c (syncGroup g r d) := by
  unfold Machine.syncGroup
  extract_lets x p T w e late
  exact .ite (h.carrierZero hg) (.ite (h.carrierZero hg) (.ite (h.carrierZero hg) (.ite (h.carrierZero hg)
    (((h.put 256 hg (by decide)).stick 256 hg (by decide) (by decide)).carrierZero hg))))

protected theorem syncPick {p : Nat} (h : Undisturbed c d) : Undisturbed c (syncPick p d) :=
  forL_keeps (fun r _ h => h.syncGroup (recU_lt r P0703_GROUP 0 rfl)) h

theorem running_eq (h : Undisturbed c d) : running d = running c := by
  unfold running
  rw [h.1]

theorem shadows_eq (h : Undisturbed c d) : shadows d = shadows c := by
  unfold shadows isStandby
  rw [h.2.2.1]

end Undisturbed

/-! ## Firings of picks (R67 to R70, R73) -/

section

variable {p : Nat} {sd : List (Nat × List Bool)} {d : Dev}

theorem pickFireAt_of_dueBelow (h : dueBelow p d = true) : pickFireAt p sd d = d := by
  unfold pickFireAt
  exact if_pos (by simp [h])

theorem pickFireAt_of_not_due (hdue : pickDue p d = false) (howed : (d.pick.get {} p).owed ≠ edge d + 1) : pickFireAt p sd d = d := by
  unfold pickFireAt
  exact if_pos (by simp [hdue, howed])

/-- The firing of a due pick in a unit that runs and shadows no other: nothing before its action ends the run or changes the unit's part. -/
theorem pickFireAt_of_due (hp : p < 1024) (hon : blocksOn d = true) (hrun : running d = true) (hown : shadows d = false)
    (hdue : pickDue p d = true) (hbelow : dueBelow p d = false) (howed : (d.pick.get {} p).owed ≠ edge d + 1) :
    pickFireAt p sd d = afterFiring p (now d) (pickAct p (now d) sd (hookWakes p (syncPick p (rearm p true
      (countFiring p (now d) ((d.pick.get {} p).due == 2) (xchgBegin (now d) d)))))) := by
  have h1 : Undisturbed d (rearm p true (countFiring p (now d) ((d.pick.get {} p).due == 2) (xchgBegin (now d) d))) :=
    ((Undisturbed.refl d).xchgBegin.countFiring hp).rearm hp
  have h2 := h1.syncPick (p := p) |>.hookWakes (p := p)
  have howed' : ((d.pick.get {} p).owed == edge d + 1) = false := by simpa using howed
  have hp' : ¬ 1024 ≤ p := by omega
  unfold pickFireAt
  simp [howed', hp', hon, hdue, hbelow, hown, h1.running_eq, h2.running_eq, h2.shadows_eq, hrun]

end

/-! ## Fields that writes and faults leave alone -/

/-- Registers whose ranges of addresses do not meet. -/
theorem Reg.addr_ne_addr {i n j m : Nat} {r q : Reg} (hi : i ≤ n) (hj : j ≤ m)
    (h : r.base + n * r.stride < q.base ∨ q.base + m * q.stride < r.base) : r.addr i ≠ q.addr j := by
  have hr : i * r.stride ≤ n * r.stride := Nat.mul_le_mul_right _ hi
  have hq : j * q.stride ≤ m * q.stride := Nat.mul_le_mul_right _ hj
  unfold Reg.addr
  omega

/-- Field `g` of index `j` shares no bit with field `f` of index `i`. -/
def Apart (g : Fld) (j : Nat) (f : Fld) (i : Nat) : Prop :=
  g.reg.addr j ≠ f.reg.addr i ∨ g.reg = f.reg ∧ j = i ∧ g.inReg ∧ (g.lo + g.width ≤ f.lo ∨ f.lo + f.width ≤ g.lo)

/-- Another register. -/
theorem Apart.reg {g f : Fld} {j i : Nat} (m n : Nat) (hj : j ≤ m) (hi : i ≤ n)
    (h : g.reg.base + m * g.reg.stride < f.reg.base ∨ f.reg.base + n * f.reg.stride < g.reg.base) : Apart g j f i :=
  .inl (Reg.addr_ne_addr hj hi h)

/-- Other bits of the same register. -/
theorem Apart.bits {g f : Fld} {i : Nat} (h : g.reg = f.reg ∧ g.inReg ∧ (g.lo + g.width ≤ f.lo ∨ f.lo + f.width ≤ g.lo)) : Apart g i f i :=
  .inr ⟨h.1, rfl, h.2⟩

theorem get_put_apart {g f : Fld} {j i v : Nat} {d : Dev} (h : Apart g j f i) : get g j (put f i v d) = get g j d := by
  rcases h with ha | ⟨hr, rfl, hreg, hbits⟩
  · exact get_put_other g f j i v d ha
  · exact get_put_field g f j v d hr hreg hbits

theorem get_stick_apart {g f : Fld} {j i code obj aux : Nat} {value : Int} {d : Dev} (h : Apart g j f i) (hr : g.reg.addr j ∉ raiseAddrs) :
    get g j (stick f i code obj d aux value) = get g j d := by
  unfold stick
  split
  · exact get_put_apart h
  · exact (get_raise _ _ _ _ _ _ _ hr).trans (get_put_apart h)

theorem raiseAddrs_off_reel : ∀ a ∈ raiseAddrs, a < 0x30000 ∨ 0x40000 ≤ a := by decide

/-- Raising a fault writes no register of the Reel. -/
theorem Reg.addr_not_raised {i : Nat} {r : Reg} (n : Nat) (hi : i ≤ n) (h : 0x30000 ≤ r.base ∧ r.base + n * r.stride < 0x40000) :
    r.addr i ∉ raiseAddrs := by
  intro hm
  have hle : i * r.stride ≤ n * r.stride := Nat.mul_le_mul_right _ hi
  have hoff := raiseAddrs_off_reel _ hm
  unfold Reg.addr at hoff
  omega

theorem ofInt_lt (w : Nat) (x : Int) : ofInt w x < 2 ^ w := by
  have := Int.emod_nonneg x (b := ((2 ^ w : Nat) : Int)) (by positivity)
  have := Int.emod_lt_of_pos x (b := ((2 ^ w : Nat) : Int)) (by positivity)
  unfold ofInt
  omega

/-- A written field cut to its width, with the modulus written out. -/
theorem get_put_mod {f : Fld} {i v m : Nat} {d : Dev} (h : f.inReg) (hm : 2 ^ f.width = m) : get f i (put f i v d) = v % m :=
  hm ▸ get_put_same f i v d h

/-! ## Firings counted and picks armed anew (R67, R70, R73) -/

section

variable {p : Nat} {d : Dev}

/-- A late firing sets LATE and counts, and no other field of the Reel changes with that. -/
theorem get_countFiring {f : Fld} {i t : Nat} {late : Bool} (hlate : Apart f i REEL_PICK_STATUS_LATE p) (hcount : Apart f i REEL_COUNTS_LATE 0)
    (hr : f.reg.addr i ∉ raiseAddrs) :
    get f i (countFiring p t late d) = get f i (put REEL_PICK_TARGET_LAST p t (bump REEL_COUNTS_FIRES 0 (bump REEL_PICK_STATUS_FIRES p d))) := by
  unfold countFiring onlyIf
  split
  · exact (get_stick_apart hlate hr).trans (get_put_apart hcount)
  · rfl

theorem countFiring_counts {t : Nat} {late : Bool} (hp : p < 1024) :
    get REEL_PICK_STATUS_FIRES p (countFiring p t late d) = (get REEL_PICK_STATUS_FIRES p d + 1) % 65536 ∧
    get REEL_COUNTS_FIRES 0 (countFiring p t late d) = (get REEL_COUNTS_FIRES 0 d + 1) % 2 ^ 32 ∧
    get REEL_PICK_TARGET_LAST p (countFiring p t late d) = t % 2 ^ 64 ∧
    get REEL_PICK_TARGET_TARGET p (countFiring p t late d) = get REEL_PICK_TARGET_TARGET p d ∧
    (late = true → get REEL_PICK_STATUS_LATE p (countFiring p t late d) = 1) := by
  have hp : p ≤ 1023 := by omega
  have hstatus : REEL_PICK_STATUS.addr p ∉ raiseAddrs := Reg.addr_not_raised 1023 hp (by decide)
  have htarget : REEL_PICK_TARGET.addr p ∉ raiseAddrs := Reg.addr_not_raised 1023 hp (by decide)
  have hsc {f g : Fld} (hf : f.reg = REEL_PICK_STATUS) (hg : g.reg = REEL_COUNTS) : Apart f p g 0 :=
    .reg 1023 0 hp le_rfl (by rw [hf, hg]; decide)
  have hcs {f g : Fld} (hf : f.reg = REEL_COUNTS) (hg : g.reg = REEL_PICK_STATUS) : Apart f 0 g p :=
    .reg 0 1023 le_rfl hp (by rw [hf, hg]; decide)
  have hst {f g : Fld} (hf : f.reg = REEL_PICK_STATUS) (hg : g.reg = REEL_PICK_TARGET) : Apart f p g p :=
    .reg 1023 1023 hp hp (by rw [hf, hg]; decide)
  have hts {f g : Fld} (hf : f.reg = REEL_PICK_TARGET) (hg : g.reg = REEL_PICK_STATUS) : Apart f p g p :=
    .reg 1023 1023 hp hp (by rw [hf, hg]; decide)
  have htc {f g : Fld} (hf : f.reg = REEL_PICK_TARGET) (hg : g.reg = REEL_COUNTS) : Apart f p g 0 :=
    .reg 1023 0 hp le_rfl (by rw [hf, hg]; decide)
  have hct {f g : Fld} (hf : f.reg = REEL_COUNTS) (hg : g.reg = REEL_PICK_TARGET) : Apart f 0 g p :=
    .reg 0 1023 le_rfl hp (by rw [hf, hg]; decide)
  refine ⟨?_, ?_, ?_, ?_, ?_⟩
  · rw [get_countFiring (.bits (by decide)) (hsc rfl rfl) hstatus, get_put_apart (hst rfl rfl), bump, get_put_apart (hsc rfl rfl), bump,
      get_put_mod (by decide) (rfl : 2 ^ _ = 65536)]
  · rw [get_countFiring (hcs rfl rfl) (.bits (by decide)) (by decide), get_put_apart (hct rfl rfl), bump, get_put_mod (by decide) (rfl : 2 ^ _ = 2 ^ 32), bump,
      get_put_apart (hcs rfl rfl)]
  · rw [get_countFiring (hts rfl rfl) (htc rfl rfl) htarget, get_put_mod (by decide) (rfl : 2 ^ _ = 2 ^ 64)]
  · rw [get_countFiring (hts rfl rfl) (htc rfl rfl) htarget, get_put_apart (.bits (by decide)), bump, get_put_apart (htc rfl rfl), bump,
      get_put_apart (hts rfl rfl)]
  · rintro rfl
    unfold countFiring onlyIf
    rw [if_pos rfl]
    exact get_stick _ _ _ _ _ _ _ hstatus (by decide) (by decide)

end

section

variable {p : Nat} {d : Dev}

/-- A pick without an INTERVAL is disarmed by its firing (R70). -/
theorem rearm_of_no_interval {skips : Bool} (hint : get REEL_PICK_CFG_INTERVAL p d = 0) (hangle : get REEL_PICK_CFG_ANGLE_ONLY p d = 0) :
    ∃ x, rearm p skips d = put REEL_PICK_STATUS_STATE p 1 { d with pick := x } := by
  generalize he : rearm p skips d = e
  unfold rearm at he
  extract_lets m time x predicted up target n angle pos x' d1 fall moved k next d2 d3 at he
  have hn : n = 0 := by simp [n, hint]
  have hangle' : angle = false := by simp [angle, flag, hangle]
  refine ⟨d.pick.put p x', ?_⟩
  rw [← he, if_pos hn, hangle']
  rfl

theorem rearm_disarms {skips : Bool} (hp : p < 1024) (hint : get REEL_PICK_CFG_INTERVAL p d = 0) (hangle : get REEL_PICK_CFG_ANGLE_ONLY p d = 0) :
    get REEL_PICK_STATUS_STATE p (rearm p skips d) = 1 ∧ get REEL_PICK_TARGET_TARGET p (rearm p skips d) = get REEL_PICK_TARGET_TARGET p d := by
  have hp : p ≤ 1023 := by omega
  obtain ⟨x, hx⟩ := rearm_of_no_interval (skips := skips) hint hangle
  rw [hx]
  exact ⟨get_put_one _ _ _ (by decide) (by decide), get_put_apart (.reg 1023 1023 hp hp (by decide))⟩

/-- How many whole steps of `n` beyond `m` bring it to or past `pos`. -/
def passedOver (pos m n : Int) : Int := if m < pos then (pos - m) / n + 1 else 0

theorem passedOver_spec {pos x n : Int} (hn : 0 < n) :
    0 ≤ passedOver pos (x + n) n ∧ pos ≤ x + (passedOver pos (x + n) n + 1) * n ∧ (passedOver pos (x + n) n ≠ 0 → x + passedOver pos (x + n) n * n ≤ pos) := by
  unfold passedOver
  split
  next h =>
    have hdiv := Int.mul_ediv_add_emod (pos - (x + n)) n
    have hmod := Int.emod_lt_of_pos (pos - (x + n)) hn
    have hmod' := Int.emod_nonneg (pos - (x + n)) hn.ne'
    have hq : 0 ≤ (pos - (x + n)) / n := Int.ediv_nonneg (by omega) hn.le
    refine ⟨by omega, ?_, fun _ => ?_⟩ <;> linarith
  next h => exact ⟨le_rfl, by linarith, fun h => absurd rfl h⟩

/-- A rising pick on a time measure moves to the first target ahead (R70). -/
theorem rearm_of_interval (htime : isTime (pickMeas p d) d = true) (hangle : get REEL_PICK_CFG_ANGLE_ONLY p d = 0)
    (hdir : get REEL_PICK_CFG_DIR p d = 1) (hint : 0 < get REEL_PICK_CFG_INTERVAL p d) {n x k : Int} (hn : n = 16 * get REEL_PICK_CFG_INTERVAL p d)
    (hx : x = get REEL_PICK_TARGET_TARGET p d) (hk : k = passedOver (measRaw (pickMeas p d) (now d) d) (x + n) n) :
    ∃ y, rearm p true d = onlyIf (k != 0) (fun d => stick REEL_PICK_STATUS_SKIPPED p 0x0305 p (addSat REEL_COUNTS_SKIPS 0 k.toNat d))
      (put REEL_PICK_TARGET_TARGET p (ofInt 64 (x + n + k * n)) (put REEL_PICK_STATUS_STATE p 2 { d with pick := y })) := by
  generalize he : rearm p true d = e
  unfold rearm at he
  extract_lets m time x₀ predicted up target n' angle pos x' d1 fall moved k' next d2 d3 at he
  have htime' : time = true := htime
  have hangle' : angle = false := by simp [angle, flag, hangle]
  have hn' : n' = n := by rw [hn]; simp only [n', htime', if_true]; ring
  have hfall : fall = false := by simp [fall, d1, show get REEL_PICK_CFG_DIR p { d with pick := d.pick.put p x' } = 1 from hdir]
  have htarget : target = x := by simp [target, firedTarget, timeTarget, htime, flag, hangle, hx]
  have hmoved : moved = x + n := by simp [moved, hfall, htarget, hn']
  have hk' : k' = k := by simp [k', hfall, hmoved, hn', hk, passedOver, pos, m]
  have hnext : next = x + n + k * n := by simp [next, hfall, hmoved, hn', hk']
  have hd2 : d2 = put REEL_PICK_TARGET_TARGET p (ofInt 64 (x + n + k * n)) (put REEL_PICK_STATUS_STATE p 2 d1) := by simp [d2, hangle', hnext]
  refine ⟨d.pick.put p x', ?_⟩
  rw [← he, if_neg (by omega), if_pos htime', ← hd2]
  simp only [d3, hk', Bool.true_and, onlyIf]

theorem rearm_moves (hp : p < 1024) (htime : isTime (pickMeas p d) d = true) (hangle : get REEL_PICK_CFG_ANGLE_ONLY p d = 0)
    (hdir : get REEL_PICK_CFG_DIR p d = 1) (hint : 0 < get REEL_PICK_CFG_INTERVAL p d) {n x : Int} (hn : n = 16 * get REEL_PICK_CFG_INTERVAL p d)
    (hx : x = get REEL_PICK_TARGET_TARGET p d) :
    ∃ k : Nat, get REEL_PICK_TARGET_TARGET p (rearm p true d) = ofInt 64 (x + (k + 1) * n) ∧
      measRaw (pickMeas p d) (now d) d ≤ x + (k + 1) * n ∧ (k ≠ 0 → x + k * n ≤ measRaw (pickMeas p d) (now d) d) ∧
      get REEL_PICK_STATUS_STATE p (rearm p true d) = 2 ∧ (k ≠ 0 → get REEL_PICK_STATUS_SKIPPED p (rearm p true d) = 1) := by
  have hp : p ≤ 1023 := by omega
  have hstatus : REEL_PICK_STATUS.addr p ∉ raiseAddrs := Reg.addr_not_raised 1023 hp (by decide)
  have htaddr : REEL_PICK_TARGET.addr p ∉ raiseAddrs := Reg.addr_not_raised 1023 hp (by decide)
  obtain ⟨hk0, hahead, hbehind⟩ := passedOver_spec (pos := measRaw (pickMeas p d) (now d) d) (x := x) (n := n) (by omega)
  obtain ⟨y, hy⟩ := rearm_of_interval htime hangle hdir hint hn hx rfl
  obtain ⟨k, hk⟩ := Int.eq_ofNat_of_zero_le hk0
  rw [hk] at hahead hbehind hy
  have hnext : x + n + (k : Int) * n = x + (k + 1) * n := by ring
  have htarget : ofInt 64 (x + (k + 1) * n) % 2 ^ 64 = ofInt 64 (x + (k + 1) * n) := Nat.mod_eq_of_lt (ofInt_lt 64 _)
  refine ⟨k, ?_, hahead, fun hk => hbehind (by omega), ?_, fun hk => ?_⟩
  · rw [hy, hnext]
    refine onlyIf_keeps (P := fun e => get REEL_PICK_TARGET_TARGET p e = ofInt 64 (x + (k + 1) * n)) ?_ fun h => ?_
    · rw [get_put_same _ _ _ _ (by decide)]
      exact htarget
    exact (get_stick_apart (.reg 1023 1023 hp hp (by decide)) htaddr).trans ((get_put_apart (.reg 1023 0 hp le_rfl (by decide))).trans h)
  · rw [hy]
    refine onlyIf_keeps (P := fun e => get REEL_PICK_STATUS_STATE p e = 2) ?_ fun h => ?_
    · rw [get_put_apart (.reg 1023 1023 hp hp (by decide)), get_put_same _ _ _ _ (by decide)]
      rfl
    exact (get_stick_apart (.bits (by decide)) hstatus).trans ((get_put_apart (.reg 1023 0 hp le_rfl (by decide))).trans h)
  · have hne : ((k : Int) != 0) = true := by simp [hk]
    rw [hy, hne, onlyIf, if_pos rfl]
    exact get_stick _ _ _ _ _ _ _ hstatus (by decide) (by decide)

end

/-- Settles O47: before a due pick fires nothing ends the run or changes the unit's part, and its target moves to the first one ahead. -/
theorem pickFirings : Obligations.PickFirings := by
  unfold Obligations.PickFirings
  refine ⟨?_, ?_, ?_, ?_, ?_, ?_⟩
  · intro dt p sd s hp hon hrun hown hdue hbelow howed
    exact (congrArg (fun d => Host.Outcome.next { s with dev := d }) (pickFireAt_of_due (d := later dt s) hp hon hrun hown hdue hbelow howed))
  · intro dt p sd s hbelow
    exact (congrArg (fun d => Host.Outcome.next { s with dev := d }) (pickFireAt_of_dueBelow hbelow))
  · intro dt p sd s hdue howed
    exact (congrArg (fun d => Host.Outcome.next { s with dev := d }) (pickFireAt_of_not_due hdue howed))
  · exact fun p t late d hp => countFiring_counts hp
  · exact fun p skips d hp hint hangle => rearm_disarms hp hint hangle
  · exact fun p d hp htime hangle hdir hint => rearm_moves hp htime hangle hdir hint rfl rfl

/-! ## What an edge at a ball leaves alone

Alarms, measures, sets and streams follow an edge: none writes the balls' notes or the cells below block 0x02, where GPIO_LEVEL lies. -/

/-- From `c` to `d` the balls' notes and the cells of blocks 0x00 and 0x01 are the same. -/
def PadsKept (c d : Dev) : Prop := d.pins = c.pins ∧ ∀ a, a < 0x20000 → ∀ z, d.live.get z a = c.live.get z a

namespace PadsKept

variable {c d e : Dev}

theorem refl (d : Dev) : PadsKept d d := ⟨rfl, fun _ _ _ => rfl⟩

theorem trans (h : PadsKept c d) (he : PadsKept d e) : PadsKept c e := ⟨he.1.trans h.1, fun a ha z => (he.2 a ha z).trans (h.2 a ha z)⟩

theorem get_eq {f : Fld} {i : Nat} (h : PadsKept c d) (ha : f.reg.addr i < 0x20000) : get f i d = get f i c := get_congr _ _ _ _ (h.2 _ ha)

theorem undisturbed (h : PadsKept c d) (he : Undisturbed d e) : PadsKept c e := h.trans ⟨he.2.1, he.2.2.2⟩

protected theorem ite {p : Prop} {_ : Decidable p} (hd : PadsKept c d) (he : PadsKept c e) : PadsKept c (if p then d else e) := ite_keeps hd he

protected theorem forL {α : Type} {f : α → Dev → Dev} {l : List α} (h : PadsKept c d) (hf : ∀ {a e}, PadsKept c e → PadsKept c (f a e)) :
    PadsKept c (forL l f d) := forL_keeps (fun _ _ h => hf h) h

protected theorem onlyIf {b : Bool} {f : Dev → Dev} (h : PadsKept c d) (hf : ∀ {e}, PadsKept c e → PadsKept c (f e)) : PadsKept c (onlyIf b f d) :=
  onlyIf_keeps h hf

theorem of_eq {α : Type} {x : α × Dev} {a : α} (h : PadsKept c x.2) (hx : x = (a, e)) : PadsKept c e := by
  subst hx
  exact h

/-! Registers and faults. -/

protected theorem put {f : Fld} {i v : Nat} (h : PadsKept c d) (hf : 0x20000 ≤ f.reg.base := by decide) : PadsKept c (put f i v d) :=
  have hbase := f.reg.base_le_addr i
  h.trans ⟨put_pins .., fun _ _ _ => live_put_other _ _ _ _ _ _ (by omega)⟩

protected theorem addSat {f : Fld} {i n : Nat} (h : PadsKept c d) (hf : 0x20000 ≤ f.reg.base := by decide) : PadsKept c (addSat f i n d) := h.put hf

protected theorem bumpSat {f : Fld} {i : Nat} (h : PadsKept c d) (hf : 0x20000 ≤ f.reg.base := by decide) : PadsKept c (bumpSat f i d) := h.put hf

protected theorem putB {f : Fld} {i : Nat} {b : Bool} (h : PadsKept c d) (hf : 0x20000 ≤ f.reg.base := by decide) : PadsKept c (putB f i b d) := h.put hf

protected theorem putS {f : Fld} {i : Nat} {v : Int} (h : PadsKept c d) (hf : 0x20000 ≤ f.reg.base := by decide) : PadsKept c (putS f i v d) := h.put hf

protected theorem maxUp {f : Fld} {i v : Nat} (h : PadsKept c d) (hf : 0x20000 ≤ f.reg.base := by decide) : PadsKept c (maxUp f i v d) := (h.put hf).ite h

protected theorem raise {code obj aux : Nat} {value : Int} (h : PadsKept c d) : PadsKept c (raise code obj d aux value) :=
  h.trans ⟨quiet_pins (raise_quiet ..), fun a ha z => live_raise _ _ _ _ _ a z fun hm => absurd (raiseAddrs_high a hm) (by omega)⟩

protected theorem stick {f : Fld} {i code obj aux : Nat} {value : Int} (h : PadsKept c d) (hf : 0x20000 ≤ f.reg.base := by decide) :
    PadsKept c (stick f i code obj d aux value) := (h.put hf).ite (h.put hf).raise

protected theorem clearFault {code obj : Nat} (h : PadsKept c d) : PadsKept c (clearFault code obj d) := by
  unfold Machine.clearFault
  split
  · exact h.undisturbed (Undisturbed.refl d).clearOne
  · exact h

/-! Position feedback's alarms, and the axes. -/

protected theorem fbSettle {n : Nat} {f : Dev → Dev} (h : PadsKept c (f d)) : PadsKept c (fbSettle n f d) := h.onlyIf fun h => h

protected theorem alarmEdge {pin : Nat} {level : Bool} {r : Rec} (h : PadsKept c d) : PadsKept c (alarmEdge pin level r d) :=
  h.ite (.ite (.raise (.put h)) (h.put.fbSettle.clearFault))

protected theorem axisPinEdge {pin stamp : Nat} {level : Bool} {r : Rec} (h : PadsKept c d) : PadsKept c (axisPinEdge pin level stamp r d) := h

/-! Measures and the predictions of their picks. -/

protected theorem predictPick {p : Nat} (h : PadsKept c d) : PadsKept c (predictPick p d) := by
  have hput {x : Tab PickX} {v : Nat} : PadsKept c (put REEL_PICK_STATUS_STATE p v { d with pick := x }) := .put h
  unfold Machine.predictPick
  extract_lets m x
  refine h.ite ?_
  split
  · exact h
  · extract_lets up base
    split
    · exact hput
    · exact hput

protected theorem judgePick {m pk : Nat} {q p : Int} (h : PadsKept c d) : PadsKept c (judgePick m pk q p d) := by
  have hput {x : Tab PickX} {v : Nat} : PadsKept c (put REEL_PICK_STATUS_STATE pk v { d with pick := x }) := .put h
  unfold Machine.judgePick
  extract_lets x passed start d1 beyond
  have h1 : PadsKept c d1 := h
  refine h1.ite (hput.ite ?_)
  split
  · exact hput.ite h1.predictPick
  · exact h1.predictPick.ite hput

protected theorem measState {m : Nat} {r : Rec} {rate : Int} (h : PadsKept c d) : PadsKept c (measState m r rate d) :=
  h.put.clearFault.onlyIf fun h => h.stick

protected theorem measTake {m t : Nat} {r : Rec} {p : Int} (h : PadsKept c d) : PadsKept c (measTake m r t p d) := by
  unfold Machine.measTake
  extract_lets x st old rate s d1 picks q
  have h1 : PadsKept c d1 := .putS (.put h)
  refine h.ite (.ite h ?_)
  clear_value d1 rate
  split
  · exact h1.put.put
  · exact (h1.putS.measState.put).forL .judgePick

protected theorem measPinEdge {pin stamp : Nat} {level : Bool} {r : Rec} (h : PadsKept c d) : PadsKept c (measPinEdge pin level stamp r d) := by
  unfold Machine.measPinEdge zeroCross
  exact .ite (h.measTake.ite (.measTake h)) h

/-! The store, as HIST pages reach it. -/

protected theorem storeMod {f : StoreX → StoreX} (h : PadsKept c d) : PadsKept c (storeMod f d) := h

protected theorem showOps (h : PadsKept c d) : PadsKept c (showOps d) := h.put.maxUp

protected theorem dieNext {n : Nat} (h : PadsKept c d) : PadsKept c (dieNext n d) := by
  unfold Machine.dieNext
  refine h.ite ?_
  split
  · exact h
  · exact .putB (PadsKept.storeMod h)

protected theorem storeAsk {o : StoreOp} (h : PadsKept c d) : PadsKept c (storeAsk o d) := h.storeMod.showOps.dieNext.ite h.storeMod.stick

protected theorem freshBlock {n : Nat} (h : PadsKept c d) : PadsKept c (freshBlock n d).2 := by
  unfold Machine.freshBlock oneOf
  split <;> exact h

protected theorem pageBlock {skein n : Nat} (h : PadsKept c d) : PadsKept c (pageBlock skein n d).2 := by
  unfold Machine.pageBlock
  split
  · exact h
  · exact h.freshBlock

protected theorem placePage {skein n : Nat} (h : PadsKept c d) : PadsKept c (placePage skein n d).2 := by
  unfold Machine.placePage
  split
  next heq => exact h.pageBlock.of_eq heq
  next heq => exact ((h.pageBlock.of_eq heq).storeMod.ite (h.pageBlock.of_eq heq)).storeMod

protected theorem reclaim {n : Nat} (h : PadsKept c d) : PadsKept c (reclaim n d) := by
  unfold Machine.reclaim
  split
  · exact h
  · exact .storeAsk (.put (.storeMod h))

protected theorem makeRoom {n : Nat} (h : PadsKept c d) : PadsKept c (makeRoom n d) := h.reclaim.ite h

protected theorem programOn {n : Nat} {j : PageJob} (h : PadsKept c d) : PadsKept c (programOn n j d) := by
  unfold Machine.programOn
  split
  next heq => exact ((h.placePage.of_eq heq).storeMod.ite (h.placePage.of_eq heq)).storeAsk
  next heq => exact h.placePage.of_eq heq

protected theorem nextDie {skein : Nat} (h : PadsKept c d) : PadsKept c (nextDie skein d).2 := h.storeMod

protected theorem programStriped {parity : Bool} {j : PageJob} (h : PadsKept c d) : PadsKept c (programStriped parity j d) :=
  have h1 := h.nextDie.makeRoom.programOn
  (h1.storeMod.nextDie.makeRoom.programOn.ite h1.storeMod).ite h1

/-! HIST. -/

protected theorem histQueue {page : List Nat} (h : PadsKept c d) : PadsKept c (histQueue page d) := .programStriped (.storeMod (.put h))

protected theorem histLose {stamp : Nat} (h : PadsKept c d) : PadsKept c (histLose stamp d) := .stick (.addSat h)

protected theorem histPlace {bs : List Nat} {stamp : Nat} (h : PadsKept c d) : PadsKept c (histPlace bs stamp d) := by
  unfold Machine.histPlace
  extract_lets r d1
  have h1 : PadsKept c d1 := .histQueue h
  have h2 : PadsKept c { d1 with recd := { d1.recd with page := bs } } := h1
  exact .ite h (h2.ite h1.histLose)

protected theorem histAdd {bs : List Nat} {stamp : Nat} (h : PadsKept c d) : PadsKept c (histAdd bs stamp d) :=
  h.histPlace.ite (h.histLose.ite (.histPlace (.histPlace h)))

protected theorem setToHist {m : Img} {set t : Nat} {bs : List Nat} (h : PadsKept c d) : PadsKept c (setToHist m set t bs d) := by
  unfold Machine.setToHist
  split
  · exact h
  · refine h.forL fun {i e} h => ?_
    have h1 {tab} : PadsKept c { e with recd := { e.recd with histDecim := tab } } := h
    exact h1.histAdd.ite h1

/-! Streams and their triggers. -/

protected theorem strAdd {n t : Nat} {bs : List Nat} (h : PadsKept c d) (hn : n < 256) : PadsKept c (strAdd n t bs d) :=
  h.undisturbed ((Undisturbed.refl d).strAdd hn)

protected theorem strMark {n t source aux : Nat} (h : PadsKept c d) (hn : n < 256) : PadsKept c (strMark n t source aux d) :=
  h.undisturbed ((Undisturbed.refl d).strMark hn)

protected theorem trcTrigger {b : Nat} (h : PadsKept c d) : PadsKept c (trcTrigger b d) := by
  have hlost : PadsKept c (trcLost b (now d) d) := (h.onlyIf fun h => h.put).bumpSat
  unfold Machine.trcTrigger
  split
  · exact h
  · exact hlost
  · exact hlost
  · exact h

protected theorem strTriggers {r : Rec} {i t : Nat} (h : PadsKept c d) : PadsKept c (strTriggers r i t d) := by
  have hn : r.u P1003_STREAM < 256 := recU_lt r P1003_STREAM 0 rfl
  unfold Machine.strTriggers
  extract_lets n js val x met quiet prev d1 d2 events bufs
  have h1 : PadsKept c d1 := h
  have h2 : PadsKept c d2 := h1.forL fun h => h.strMark hn
  have h3 {f} : PadsKept c (strMod n f d2) := h2
  exact h1.ite ((h2.forL .bumpSat).ite ((h3.put.put.addSat.onlyIf .raise).forL .trcTrigger))

protected theorem setToStreams {m : Img} {set t : Nat} {bs : List Nat} (h : PadsKept c d) : PadsKept c (setToStreams m set t bs d) := by
  refine h.forL fun {r e} h => h.ite (h.forL fun {i f} h => ?_)
  have h1 {tab} : PadsKept c { f with recd := { f.recd with strDecim := tab } } := h
  exact (h1.strAdd (recU_lt r P1003_STREAM 0 rfl)).strTriggers.ite h1

/-! The sets of an edge. -/

protected theorem setTake {m : Img} {t : Nat} {q : Rec} (h : PadsKept c d) : PadsKept c (setTake m t q d) := .setToStreams (.setToHist h)

theorem of_mem_firingSets {pick t : Nat} {e : Dev} {x : Nat × Nat × (Dev → Dev)} (h : PadsKept c d) (hx : x ∈ firingSets pick t e) :
    PadsKept c (x.2.2 d) := by
  unfold firingSets at hx
  cases hm : recImg t e with
  | none => simp [hm] at hx
  | some m =>
    rw [hm] at hx
    obtain ⟨q, -, rfl⟩ := List.mem_map.1 hx
    exact h.setTake

theorem of_mem_edgeSets {pin t : Nat} {level : Bool} {e : Dev} {x : Nat × Nat × (Dev → Dev)} (h : PadsKept c d) (hx : x ∈ edgeSets pin t level e) :
    PadsKept c (x.2.2 d) := by
  unfold edgeSets at hx
  cases hm : recImg (now e) e with
  | none => simp [hm] at hx
  | some m =>
    rw [hm] at hx
    obtain ⟨q, -, rfl⟩ := List.mem_map.1 hx
    exact h.setToHist.setToStreams

protected theorem edgeTakes {due : Dev → Bool} (h : PadsKept c d) : PadsKept c (edgeTakes due d) := by
  unfold Machine.edgeTakes
  extract_lets r l sorted d1
  have hl : ∀ x ∈ sorted, ∀ e, PadsKept c e → PadsKept c (x.2.2 e) := by
    intro x hx e he
    rcases List.mem_append.1 (List.mem_mergeSort.1 hx) with hx | hx <;> obtain ⟨p, -, hp⟩ := List.mem_flatMap.1 hx
    · exact he.of_mem_firingSets hp
    · exact he.of_mem_edgeSets hp
  have h1 : PadsKept c d1 := forL_keeps_mem hl h
  exact h.ite (h1.forL fun {a e} h => h.strMark (by omega))

protected theorem setsEdge {pin t : Nat} {level : Bool} (h : PadsKept c d) : PadsKept c (setsEdge pin t level d) := .ite h h

end PadsKept

/-! ## Transitions at general I/O balls (R56) -/

theorem bit_eq_testBit (n k : Nat) : bit n k = n.testBit k := by
  unfold bit
  rw [Nat.testBit_eq_decide_div_mod_eq, beq_eq_decide]

/-- A bit put into a word. -/
theorem bit_setBit (n k j : Nat) (b : Bool) : bit (setBit n k b) j = if j = k then b else bit n j := by
  have hb : (b2n b).testBit 0 = b := by cases b <;> rfl
  rw [bit_eq_testBit, bit_eq_testBit, setBit, setBits_testBit]
  by_cases h : j = k
  · subst h
    simp [hb]
  · rw [if_neg (by omega), if_neg h]

theorem bit_mod_two_pow {n j w : Nat} (hj : j < w) : bit (n % 2 ^ w) j = bit n j := by
  rw [bit_eq_testBit, bit_eq_testBit, Nat.testBit_mod_two_pow, decide_eq_true hj, Bool.true_and]

/-- A field that holds a set of bits, after one bit was put. -/
theorem bit_get_putBit {f : Fld} {i k j : Nat} {b : Bool} {d : Dev} (hf : f.inReg) (hj : j < f.width) :
    bit (get f i (put f i (setBit (get f i d) k b) d)) j = if j = k then b else bit (get f i d) j := by
  rw [get_put_same _ _ _ _ hf, bit_mod_two_pow hj, bit_setBit]

section

variable {pin frac : Nat} {level : Bool} {d : Dev}

/-- A ball's note after a transition: stamped anew, or with the old stamp when the last stamped transition is less than 5 ns old. -/
def pinNote (pin : Nat) (level : Bool) (frac : Nat) (d : Dev) : PinX :=
  let x := d.pins.get {} pin
  if !x.ever || decide (x.inst + 32 ≤ nowPlus (min frac 15) d) then
    { level := level, inst := nowPlus (min frac 15) d, ever := true, stamp := edgeStamp (72 + pin) (min frac 15) d, edge := edge d }
  else { x with level := level, edge := edge d, owed := false }

/-- The ball's note, its level and its strand. -/
def notePin (pin : Nat) (level : Bool) (frac : Nat) (d : Dev) : Dev :=
  putStrands [(0x01000 + pin, b2n level)]
    (put SYS_GPIO_LEVEL_LEVEL 0 (setBit (get SYS_GPIO_LEVEL_LEVEL 0 d) pin level) { d with pins := d.pins.put pin (pinNote pin level frac d) })

theorem padsKept_gpioEdgeAt (hpin : pin < 32) (hreset : d.unit.phase ≠ .reset) (hmon : d.unit.phase ≠ .monitorReset)
    (hlevel : (d.pins.get {} pin).level ≠ level) : PadsKept (notePin pin level frac d) (gpioEdgeAt pin level frac d) := by
  generalize he : gpioEdgeAt pin level frac d = e
  unfold gpioEdgeAt at he
  extract_lets x inst own y d1 d2 at he
  have h1 : PadsKept (notePin pin level frac d) d1 := .refl d1
  have h2 : PadsKept (notePin pin level frac d) d2 := (h1.forL .alarmEdge).forL .axisPinEdge
  have hgo : ¬ (decide (32 ≤ pin) || d.unit.phase == .reset || d.unit.phase == .monitorReset || (x.level == level && !x.owed)) = true := by
    simp [x, hreset, hmon, hlevel, hpin]
  rw [← he, if_neg hgo]
  exact h1.ite ((h2.forL .measPinEdge).setsEdge.edgeTakes.ite h2)

theorem pins_notePin : (notePin pin level frac d).pins = d.pins.put pin (pinNote pin level frac d) :=
  (putStrands_pins ..).trans (put_pins ..)

theorem bit_level_notePin {k : Nat} (hk : k < 32) :
    bit (get SYS_GPIO_LEVEL_LEVEL 0 (notePin pin level frac d)) k = if k = pin then level else bit (get SYS_GPIO_LEVEL_LEVEL 0 d) k := by
  unfold notePin
  rw [get_putStrands _ _ _ _ (by decide) (by decide)]
  exact bit_get_putBit (d := { d with pins := _ }) (by decide) hk

theorem pinNote_level : (pinNote pin level frac d).level = level := by
  unfold pinNote
  extract_lets x
  split <;> rfl

theorem pinNote_edge : (pinNote pin level frac d).edge = edge d := by
  unfold pinNote
  extract_lets x
  split <;> rfl

theorem pinNote_stamp_of_near (hever : (d.pins.get {} pin).ever = true) (hnear : nowPlus (min frac 15) d < (d.pins.get {} pin).inst + 32) :
    (pinNote pin level frac d).stamp = (d.pins.get {} pin).stamp := by
  unfold pinNote
  extract_lets x
  rw [if_neg (by simp [x, hever, hnear])]

theorem pinNote_stamp_of_own (hown : (d.pins.get {} pin).ever = false ∨ (d.pins.get {} pin).inst + 32 ≤ nowPlus (min frac 15) d) :
    (pinNote pin level frac d).stamp = edgeStamp (72 + pin) (min frac 15) d := by
  unfold pinNote
  extract_lets x
  rw [if_pos (by simpa [x] using hown)]

end

/-- Settles O48: what follows an edge leaves the balls' notes and GPIO_LEVEL alone. -/
theorem gpioEdges : Obligations.GpioEdges := by
  unfold Obligations.GpioEdges
  intro dt pin level frac s hpin _ hreset hmon hlevel
  rw [gives_onDev_iff rfl]
  have h : PadsKept (notePin pin level frac (later dt s)) (gpioEdgeAt pin level frac (later dt s)) := padsKept_gpioEdgeAt hpin hreset hmon hlevel
  have hbit : get SYS_GPIO_LEVEL_LEVEL 0 (gpioEdgeAt pin level frac (later dt s)) = _ := h.get_eq (by decide)
  have hpins := h.1.trans pins_notePin
  have hnote : (gpioEdgeAt pin level frac (later dt s)).pins.get {} pin = pinNote pin level frac (later dt s) := by
    rw [hpins]
    exact Tab.get_put_same ..
  refine ⟨?_, fun k hk hne _ => ?_, ?_, ?_, fun k hne _ => ?_, fun hever hnear => ?_, fun hown => ?_⟩
  · rw [hbit, bit_level_notePin hpin, if_pos rfl]
  · rw [hbit, bit_level_notePin hk, if_neg hne]
    rfl
  · rw [hnote, pinNote_level]
  · rw [hnote, pinNote_edge]
  · rw [hpins]
    exact Tab.get_put_other _ _ _ _ _ hne
  · rw [hnote]
    exact pinNote_stamp_of_near hever hnear
  · rw [hnote]
    exact pinNote_stamp_of_own hown

/-! ## What judging picks leaves alone -/

/-- From `c` to `d` nothing changed but the Reel's notes on picks and PICK_STATUS. -/
def PicksOnly (c d : Dev) : Prop :=
  { d.rest with pick := [] } = { c.rest with pick := [] } ∧ ∀ a, (a < 0x31000 ∨ 0x32000 ≤ a) → ∀ z, d.live.get z a = c.live.get z a

namespace PicksOnly

variable {c d : Dev}

theorem refl (d : Dev) : PicksOnly d d := ⟨rfl, fun _ _ _ => rfl⟩

theorem meas_eq (h : PicksOnly c d) : d.meas = c.meas :=
  have hmeas := congrArg Dev.meas h.1
  hmeas

theorem clk_eq (h : PicksOnly c d) : d.clk = c.clk :=
  have hclk := congrArg Dev.clk h.1
  hclk

theorem get_eq {f : Fld} {i : Nat} (h : PicksOnly c d) (ha : f.reg.addr i < 0x31000 ∨ 0x32000 ≤ f.reg.addr i) : get f i d = get f i c :=
  get_congr _ _ _ _ (h.2 _ ha)

/-- A pick's notes and its state written. -/
protected theorem put {p v : Nat} {x : Tab PickX} (h : PicksOnly c d) (hp : p < 1024) :
    PicksOnly c (put REEL_PICK_STATUS_STATE p v { d with pick := x }) := by
  obtain ⟨hrest, hlow⟩ := h
  refine ⟨?_, fun a ha z => (live_put_other _ _ _ _ _ _ ?_).trans (hlow a ha z)⟩
  · rw [put_rest]
    exact hrest
  · change a ≠ 0x31000 + p * 4
    omega

protected theorem predictPick {p : Nat} (h : PicksOnly c d) (hp : p < 1024) : PicksOnly c (predictPick p d) := by
  unfold Machine.predictPick
  extract_lets m x
  refine ite_keeps h ?_
  split
  · exact h
  · extract_lets up base
    split
    · exact h.put hp
    · exact h.put hp

protected theorem judgePick {m p : Nat} {a b : Int} (h : PicksOnly c d) (hp : p < 1024) : PicksOnly c (judgePick m p a b d) := by
  unfold Machine.judgePick
  extract_lets x passed start d1 beyond
  have h1 : PicksOnly c d1 := h
  refine ite_keeps h1 (ite_keeps (h1.put hp) ?_)
  split
  · exact ite_keeps (h1.put hp) (h1.predictPick hp)
  · exact ite_keeps (h1.predictPick hp) (h1.put hp)

end PicksOnly

/-! ## Samples of measures (R64, R65, R75) -/

/-- A register of the same stride at another base. -/
theorem Apart.base {g f : Fld} {i : Nat} (h : g.reg.stride = f.reg.stride ∧ g.reg.base ≠ f.reg.base) : Apart g i f i := by
  refine .inl ?_
  unfold Reg.addr
  rw [h.1]
  omega

theorem get_clearFault {f : Fld} {i code obj : Nat} {d : Dev} (h : f.reg.addr i ∉ raiseAddrs) : get f i (clearFault code obj d) = get f i d := by
  unfold clearFault
  split
  · exact get_congr _ _ _ _ (calm_clearOne _ Calm.rfl' h)
  · rfl

section

variable {m t : Nat} {r : Rec} {p v : Int} {d : Dev}

/-- The note of a measure with a new sample before the samples `old`. -/
def sampleNote (m t : Nat) (p v : Int) (old : List Sample) (d : Dev) : MeasX :=
  { d.meas.get {} m with smp := (⟨t, p, v⟩ :: old).take 4, lastEdge := edge d, ever := true }

/-- A sample's stamp and position shown, and kept as the newest of the measure's samples `old`. -/
def sampleShown (m t : Nat) (p v : Int) (old : List Sample) (d : Dev) : Dev :=
  putS REEL_MEAS_SAMPLE_POS m p (put REEL_MEAS_SAMPLE_STAMP m t
    { d with meas := d.meas.put m (sampleNote m t p v old d) })

/-- A stamp seen before only shows that the source is present. -/
theorem measTake_of_seen {st : Nat} (hst : get REEL_MEAS_STATUS_STATE m d = st) (h0 : st ≠ 0) (h4 : st ≠ 4)
    (hseen : ((d.meas.get {} m).smp.head?.map (·.t)) = some t) :
    measTake m r t p d = { d with meas := d.meas.put m { d.meas.get {} m with lastEdge := edge d } } := by
  unfold measTake
  extract_lets x st' old rate s d1 picks q
  have hst' : st' = st := hst
  rw [hst', if_neg h0, if_pos ⟨h4, hseen⟩]

/-- The first two samples leave a measure in START, without an error bound. -/
theorem measTake_of_start {st : Nat} {old : List Sample} (hst : get REEL_MEAS_STATUS_STATE m d = st) (h0 : st ≠ 0)
    (hold : old = if st = 4 then [] else (d.meas.get {} m).smp) (hnew : st = 4 ∨ ((d.meas.get {} m).smp.head?.map (·.t)) ≠ some t)
    (hfew : old.length < 2) :
    measTake m r t p d = put REEL_MEAS_EBOUND_NS m 0xFFFFFFFF (put REEL_MEAS_STATUS_STATE m 1 (sampleShown m t p 0 old d)) := by
  generalize he : measTake m r t p d = e
  unfold measTake at he
  extract_lets x st' old' rate s d1 picks q at he
  have hst' : st' = st := hst
  have hold' : old' = old := by rw [hold, ← hst']
  have hrate : rate = none := by
    unfold rate
    rw [hold']
    match old, hfew with
    | [], _ => rfl
    | [_], _ => rfl
  have hd1 : d1 = sampleShown m t p 0 old d := by
    simp only [d1, s, hrate, hold']
    rfl
  clear_value d1 rate
  subst hrate hd1
  rw [← he, hst', if_neg h0, if_neg (by tauto)]

/-- From the third sample on the rate is the slope of the parabola, and the measure's picks are judged. -/
theorem measTake_of_rate {st : Nat} {a b : Sample} {rest : List Sample} (hst : get REEL_MEAS_STATUS_STATE m d = st) (h0 : st ≠ 0) (h4 : st ≠ 4)
    (hold : (d.meas.get {} m).smp = a :: b :: rest) (hnew : a.t ≠ t) (hv : v = rateOfSlope (parabolaRate t a.t b.t p a.p b.p)) :
    PicksOnly (put REEL_MEAS_EBOUND_NS m (errorBound r ((⟨t, p, v⟩ :: a :: b :: rest).take 4))
      (measState m r v (putS REEL_MEAS_RATE_RATE m v (sampleShown m t p v (a :: b :: rest) d)))) (measTake m r t p d) := by
  generalize he : measTake m r t p d = e
  unfold measTake at he
  extract_lets x st' old rate s d1 picks q at he
  have hst' : st' = st := hst
  have hold' : old = a :: b :: rest := by
    unfold old
    rw [hst', if_neg h4]
    exact hold
  have hrate : rate = some v := by
    unfold rate
    rw [hold', hv]
  have hs : s = ⟨t, p, v⟩ := by simp only [s, hrate, Option.getD_some]
  have hd1 : d1 = sampleShown m t p v (a :: b :: rest) d := by
    simp only [d1, hs, hold']
    rfl
  have hseen : ¬ (st ≠ 4 ∧ (x.smp.head?.map (·.t)) = some t) := by simp [x, hold, hnew]
  clear_value d1 rate s old
  subst hrate hd1 hs hold'
  rw [← he, hst', if_neg h0, if_neg hseen]
  exact forL_keeps_mem (fun k hk _ h => h.judgePick (List.mem_range.1 (List.mem_filter.1 hk).1)) (.refl _)

theorem sampleShown_rest {old : List Sample} : (sampleShown m t p v old d).rest =
    { d with meas := d.meas.put m (sampleNote m t p v old d) }.rest := by
  unfold sampleShown
  rw [putS_rest, put_rest]

theorem stamp_sampleShown {old : List Sample} : get REEL_MEAS_SAMPLE_STAMP m (sampleShown m t p v old d) = t % 2 ^ 64 := by
  unfold sampleShown putS
  rw [get_put_apart (.bits (by decide)), get_put_same _ _ _ _ (by decide)]
  rfl

theorem pos_sampleShown {old : List Sample} : get REEL_MEAS_SAMPLE_POS m (sampleShown m t p v old d) = ofInt 64 p := by
  unfold sampleShown putS
  rw [get_put_same _ _ _ _ (by decide)]
  exact Nat.mod_eq_of_lt (ofInt_lt 64 p)

/-! The state of a measure that has a rate. -/

theorem measState_quiet : (measState m r v d).quiet = d.quiet := by
  have hcore : (clearFault 0x0301 m (put REEL_MEAS_STATUS_STATE m (if decide (v.natAbs < r.u P0302_RATE_MIN) then 3 else 2) d)).quiet = d.quiet :=
    (clearFault_quiet ..).trans (put_quiet ..)
  exact onlyIf_keeps (P := fun e : Dev => e.quiet = d.quiet) hcore (stick_quiet ..).trans

/-- A field that shares no bit with STATE and RATE_RANGE. -/
theorem get_measState {f : Fld} {i : Nat} (hstate : Apart f i REEL_MEAS_STATUS_STATE m) (hrange : Apart f i REEL_MEAS_STATUS_RATE_RANGE m)
    (hr : f.reg.addr i ∉ raiseAddrs) : get f i (measState m r v d) = get f i d := by
  have hcore := (get_clearFault (code := 0x0301) (obj := m) hr).trans (get_put_apart (v := if decide (v.natAbs < r.u P0302_RATE_MIN) then 3 else 2) (d := d) hstate)
  exact onlyIf_keeps (P := fun e => get f i e = get f i d) hcore (get_stick_apart hrange hr).trans

theorem state_measState (hm : m < 16) : get REEL_MEAS_STATUS_STATE m (measState m r v d) = if v.natAbs < r.u P0302_RATE_MIN then 3 else 2 := by
  have hr : REEL_MEAS_STATUS.addr m ∉ raiseAddrs := Reg.addr_not_raised 15 (by omega) (by decide)
  have hcore : get REEL_MEAS_STATUS_STATE m (clearFault 0x0301 m
      (put REEL_MEAS_STATUS_STATE m (if decide (v.natAbs < r.u P0302_RATE_MIN) then 3 else 2) d)) = if v.natAbs < r.u P0302_RATE_MIN then 3 else 2 := by
    rw [get_clearFault hr, get_put_same _ _ _ _ (by decide)]
    by_cases h : v.natAbs < r.u P0302_RATE_MIN <;> simp [h] <;> rfl
  exact onlyIf_keeps (P := fun e => get REEL_MEAS_STATUS_STATE m e = _) hcore (get_stick_apart (.bits (by decide)) hr).trans

theorem range_measState (hm : m < 16) (hv : r.u P0302_RATE_MAX < v.natAbs) : get REEL_MEAS_STATUS_RATE_RANGE m (measState m r v d) = 1 := by
  unfold measState onlyIf
  rw [if_pos (by simpa using hv)]
  exact get_stick _ _ _ _ _ _ _ (Reg.addr_not_raised 15 (by omega) (by decide)) (by decide) (by decide)

/-- What a sample with a rate shows. -/
theorem measTake_shows_rate {st : Nat} {a b : Sample} {rest : List Sample} (hm : m < 16) (hst : get REEL_MEAS_STATUS_STATE m d = st) (h0 : st ≠ 0)
    (h4 : st ≠ 4) (hold : (d.meas.get {} m).smp = a :: b :: rest) (hnew : a.t ≠ t) (hv : v = rateOfSlope (parabolaRate t a.t b.t p a.p b.p)) {e : Dev}
    (he : e = measTake m r t p d) :
    get REEL_MEAS_SAMPLE_STAMP m e = t % 2 ^ 64 ∧ get REEL_MEAS_SAMPLE_POS m e = ofInt 64 p ∧ getS REEL_MEAS_RATE_RATE m e = toInt 64 (ofInt 64 v) ∧
      get REEL_MEAS_STATUS_STATE m e = (if v.natAbs < r.u P0302_RATE_MIN then 3 else 2) ∧
      (r.u P0302_RATE_MAX < v.natAbs → get REEL_MEAS_STATUS_RATE_RANGE m e = 1) ∧
      (e.meas.get {} m).smp = (⟨t, p, v⟩ :: a :: b :: rest).take 4 ∧ (e.meas.get {} m).lastEdge = edge e := by
  have hpicks := measTake_of_rate (r := r) hst h0 h4 hold hnew hv
  rw [← he] at hpicks
  have hlow {q : Reg} (hq : q.base + 15 * q.stride < 0x31000) : q.addr m < 0x31000 ∨ 0x32000 ≤ q.addr m :=
    .inl (lt_of_le_of_lt (Nat.add_le_add_left (Nat.mul_le_mul_right _ (by omega)) _) hq)
  have hr {q : Reg} (hq : 0x30000 ≤ q.base ∧ q.base + 15 * q.stride < 0x40000) : q.addr m ∉ raiseAddrs := Reg.addr_not_raised 15 (by omega) hq
  have hquiet := (put_quiet REEL_MEAS_EBOUND_NS m (errorBound r ((⟨t, p, v⟩ :: a :: b :: rest).take 4)) _).trans
    ((measState_quiet (m := m) (r := r) (v := v)).trans (quiet_of_rest (putS_rest REEL_MEAS_RATE_RATE m v (sampleShown m t p v (a :: b :: rest) d))))
  have hmeas := hpicks.meas_eq.trans ((quiet_meas hquiet).trans (rest_meas sampleShown_rest))
  have hclk := hpicks.clk_eq.trans ((quiet_clk hquiet).trans (rest_clk sampleShown_rest))
  refine ⟨?_, ?_, ?_, ?_, fun hmax => ?_, ?_, ?_⟩
  · rw [hpicks.get_eq (hlow (by decide)), get_put_apart (.base (by decide)), get_measState (.base (by decide)) (.base (by decide)) (hr (by decide)),
      putS, get_put_apart (.base (by decide)), stamp_sampleShown]
  · rw [hpicks.get_eq (hlow (by decide)), get_put_apart (.base (by decide)), get_measState (.base (by decide)) (.base (by decide)) (hr (by decide)),
      putS, get_put_apart (.base (by decide)), pos_sampleShown]
  · rw [getS, hpicks.get_eq (hlow (by decide)), get_put_apart (.base (by decide)),
      get_measState (.base (by decide)) (.base (by decide)) (hr (by decide)), putS, get_put_same _ _ _ _ (by decide)]
    exact congrArg (toInt 64) (Nat.mod_eq_of_lt (ofInt_lt 64 v))
  · rw [hpicks.get_eq (hlow (by decide)), get_put_apart (.base (by decide)), state_measState hm]
  · rw [hpicks.get_eq (hlow (by decide)), get_put_apart (.base (by decide)), range_measState hm hmax]
  · rw [hmeas, Tab.get_put_same]
    rfl
  · rw [hmeas, Tab.get_put_same]
    exact congrArg Clk.edges hclk.symm

end

section

variable {m t : Nat} {r : Rec} {p v : Int} {d : Dev}

theorem live_sampleShown {old : List Sample} {a z : Nat} (ha : a ≠ REEL_MEAS_SAMPLE.addr m) :
    (sampleShown m t p v old d).live.get z a = d.live.get z a :=
  (live_put_other REEL_MEAS_SAMPLE_POS m _ z a _ ha).trans (live_put_other REEL_MEAS_SAMPLE_STAMP m _ z a _ ha)

/-- What one of the first two samples shows. -/
theorem measTake_shows_start {st : Nat} {old : List Sample} (hst : get REEL_MEAS_STATUS_STATE m d = st) (h0 : st ≠ 0)
    (hold : old = if st = 4 then [] else (d.meas.get {} m).smp) (hnew : st = 4 ∨ ((d.meas.get {} m).smp.head?.map (·.t)) ≠ some t)
    (hfew : old.length < 2) {e : Dev} (he : e = measTake m r t p d) :
    get REEL_MEAS_SAMPLE_STAMP m e = t % 2 ^ 64 ∧ get REEL_MEAS_SAMPLE_POS m e = ofInt 64 p ∧ get REEL_MEAS_STATUS_STATE m e = 1 ∧
      get REEL_MEAS_EBOUND_NS m e = 0xFFFFFFFF ∧ (e.meas.get {} m).smp = (⟨t, p, 0⟩ :: old).take 4 ∧
      KeepsBut [REEL_MEAS_SAMPLE.addr m, REEL_MEAS_STATUS.addr m, REEL_MEAS_EBOUND.addr m] { d with meas := e.meas } e := by
  rw [measTake_of_start hst h0 hold hnew hfew] at he
  have hrest : e.rest = { d with meas := d.meas.put m (sampleNote m t p 0 old d) }.rest := by rw [he, put_rest, put_rest, sampleShown_rest]
  have hmeas := rest_meas hrest
  refine ⟨?_, ?_, ?_, ?_, ?_, ?_, fun a ha z => ?_⟩
  · rw [he, get_put_apart (.base (by decide)), get_put_apart (.base (by decide)), stamp_sampleShown]
  · rw [he, get_put_apart (.base (by decide)), get_put_apart (.base (by decide)), pos_sampleShown]
  · rw [he, get_put_apart (.base (by decide)), get_put_one _ _ _ (by decide) (by decide)]
  · rw [he, get_put_same _ _ _ _ (by decide)]
    rfl
  · rw [hmeas, Tab.get_put_same]
    rfl
  · rw [hrest, hmeas]
  · simp only [List.mem_cons, List.not_mem_nil, or_false, not_or] at ha
    obtain ⟨hsample, hstatus, hbound⟩ := ha
    rw [he]
    exact (live_put_other REEL_MEAS_EBOUND_NS _ _ _ _ _ hbound).trans ((live_put_other REEL_MEAS_STATUS_STATE _ _ _ _ _ hstatus).trans (live_sampleShown hsample))

/-- The device with the next periodic sample of measure `m` due after SAMPLE_PERIOD. -/
def nextDue (m : Nat) (r : Rec) (d : Dev) : Dev :=
  { d with meas := d.meas.put m { d.meas.get {} m with due2 := (d.meas.get {} m).due2 + 2 * r.u P0302_SAMPLE_PERIOD } }

theorem smp_nextDue : ((nextDue m r d).meas.get {} m).smp = (d.meas.get {} m).smp := by
  unfold nextDue
  rw [Tab.get_put_same]

/-- A due sample of source 5 or 6 takes the count at the last edge accepted (R63, R64). -/
theorem measureSamplePeriodAt_of_due {c : Int} (hrec : measRec m d = some r) (hdue : (d.meas.get {} m).due2 ≤ 5 * edge d)
    (hsrc : (r.u P0302_SOURCE = 6 ∧ get FBK_FB_FLAGS_FAULTY (r.u P0302_SOURCE_INDEX) d = 0 ∧ t = fbStamp (r.u P0302_SOURCE_INDEX) d ∧
      c = fbCount (r.u P0302_SOURCE_INDEX) d) ∨ (r.u P0302_SOURCE = 5 ∧ axisMeas (r.u P0302_SOURCE_INDEX) d = some (t, c))) :
    measureSamplePeriodAt m d = measTake m r t (measFinal r (measCount r c)) (nextDue m r d) := by
  have hfilter : (measRec m d).filter (fun _ => decide ((d.meas.get {} m).due2 ≤ 5 * edge d)) = some r := by simp [hrec, hdue]
  have hsource : (if r.u P0302_SOURCE = 5 then axisMeas (r.u P0302_SOURCE_INDEX) (nextDue m r d)
      else if r.u P0302_SOURCE = 6 ∧ ¬ flag FBK_FB_FLAGS_FAULTY (r.u P0302_SOURCE_INDEX) (nextDue m r d) then
        some (fbStamp (r.u P0302_SOURCE_INDEX) (nextDue m r d), fbCount (r.u P0302_SOURCE_INDEX) (nextDue m r d)) else none) = some (t, c) := by
    rcases hsrc with ⟨h6, hok, rfl, rfl⟩ | ⟨h5, hmeas⟩
    · have hflag : flag FBK_FB_FLAGS_FAULTY (r.u P0302_SOURCE_INDEX) (nextDue m r d) = false := beq_eq_false_iff_ne.2 (hok.trans_ne (by decide))
      rw [if_neg (by omega), if_pos ⟨h6, by simp [hflag]⟩]
      rfl
    · rw [if_pos h5]
      exact hmeas
  unfold measureSamplePeriodAt
  rw [hfilter]
  dsimp only
  split
  next heq =>
    obtain ⟨rfl, rfl⟩ := Prod.mk.inj (Option.some.inj (hsource.symm.trans heq))
    rfl
  next heq => exact absurd (hsource.symm.trans heq) (by simp)

end

/-! ## Loss of a measure (R65) -/

/-- A pick that is neither predicted nor has an instant predicted. -/
def Unpredicted (p : Nat) (d : Dev) : Prop := get REEL_PICK_STATUS_STATE p d ≠ 3 ∧ (d.pick.get {} p).predAt = none

/-- From `c` to `d` MEAS_STATUS of measure `m` is the same, and no pick came to be predicted. -/
def NonePredicted (m : Nat) (c d : Dev) : Prop :=
  (∀ z, d.live.get z (REEL_MEAS_STATUS.addr m) = c.live.get z (REEL_MEAS_STATUS.addr m)) ∧ ∀ p, p < 1024 → Unpredicted p c → Unpredicted p d

/-- A pick's prediction dropped, as its measure goes LOST. -/
def dropPrediction (p : Nat) (d : Dev) : Dev :=
  onlyIf (get REEL_PICK_STATUS_STATE p d == 3) (put REEL_PICK_STATUS_STATE p 2)
    { d with pick := d.pick.put p { d.pick.get {} p with predAt := none, due := 0, fired := none } }

theorem unpredicted_dropPrediction (p : Nat) (d : Dev) : Unpredicted p (dropPrediction p d) := by
  unfold dropPrediction onlyIf
  split
  · refine ⟨?_, ?_⟩
    · rw [get_put_same _ _ _ _ (by decide)]
      decide
    · rw [put_pick, Tab.get_put_same]
  next h =>
    refine ⟨fun h3 => h (beq_iff_eq.2 h3), ?_⟩
    rw [Tab.get_put_same]

namespace NonePredicted

variable {m : Nat} {c d : Dev}

theorem refl (d : Dev) : NonePredicted m d d := ⟨fun _ => rfl, fun _ _ h => h⟩

/-- Notes of picks and a register outside MEAS_STATUS and PICK_STATUS do not count. -/
theorem of_same {e : Dev} (h : NonePredicted m c d) (hm : m < 16) (hpick : e.pick = d.pick)
    (hlive : ∀ a, 0x30100 ≤ a → a < 0x32000 → ∀ z, e.live.get z a = d.live.get z a) : NonePredicted m c e := by
  obtain ⟨hstatus, hpicks⟩ := h
  refine ⟨fun z => (hlive _ ?_ ?_ z).trans (hstatus z), fun p hp hc => ?_⟩
  · exact Nat.le_add_right _ _
  · change 0x30100 + m * 64 < 0x32000
    omega
  · obtain ⟨hstate, hat⟩ := hpicks p hp hc
    have hcell : ∀ z, e.live.get z (REEL_PICK_STATUS.addr p) = d.live.get z (REEL_PICK_STATUS.addr p) := hlive _
      (le_trans (by decide) (REEL_PICK_STATUS.base_le_addr p)) (by change 0x31000 + p * 4 < 0x32000; omega)
    exact ⟨(get_congr REEL_PICK_STATUS_STATE p d e hcell).trans_ne hstate, hpick ▸ hat⟩

protected theorem put {f : Fld} {i v : Nat} (h : NonePredicted m c d) (hm : m < 16) (hf : 0x40000 ≤ f.reg.base) : NonePredicted m c (put f i v d) :=
  have hbase := f.reg.base_le_addr i
  h.of_same hm (put_pick ..) fun _ _ _ _ => live_put_other _ _ _ _ _ _ (by omega)

protected theorem setStrand {b k v : Nat} (h : NonePredicted m c d) (hm : m < 16) (hb : 4 ≤ b) : NonePredicted m c (setStrand b k v d) :=
  h.of_same hm rfl fun _ _ _ _ => live_setStrand_other _ _ _ _ _ _ (by unfold strandAddr; omega)

protected theorem raise {code obj aux : Nat} {value : Int} (h : NonePredicted m c d) (hm : m < 16) : NonePredicted m c (raise code obj d aux value) :=
  h.of_same hm (quiet_pick (raise_quiet ..)) fun a ha ha' z => live_raise _ _ _ _ _ a z fun hmem => by
    have := raiseAddrs_off_reel a hmem
    omega

/-- One pick's notes and state written: the others stay as they are. -/
theorem of_one {q : Nat} {e : Dev} (h : NonePredicted m c d) (hm : m < 16) (hq : Unpredicted q e)
    (hpick : ∀ p, p ≠ q → e.pick.get {} p = d.pick.get {} p)
    (hlive : ∀ a, a ≠ REEL_PICK_STATUS.addr q → ∀ z, e.live.get z a = d.live.get z a) : NonePredicted m c e := by
  obtain ⟨hstatus, hpicks⟩ := h
  refine ⟨fun z => (hlive _ ?_ z).trans (hstatus z), fun p hp hc => ?_⟩
  · change 0x30100 + m * 64 ≠ 0x31000 + q * 4
    omega
  · by_cases hpq : p = q
    · exact hpq ▸ hq
    · obtain ⟨hstate, hat⟩ := hpicks p hp hc
      have hne : REEL_PICK_STATUS.addr p ≠ REEL_PICK_STATUS.addr q := by
        change 0x31000 + p * 4 ≠ 0x31000 + q * 4
        omega
      exact ⟨(get_congr REEL_PICK_STATUS_STATE p d e (hlive _ hne)).trans_ne hstate, hpick p hpq ▸ hat⟩

protected theorem dropPrediction {q : Nat} (h : NonePredicted m c d) (hm : m < 16) : NonePredicted m c (dropPrediction q d) := by
  refine h.of_one (q := q) hm (unpredicted_dropPrediction q d) (fun p hp => ?_) fun a ha z => ?_
  · exact onlyIf_keeps (P := fun e : Dev => e.pick.get {} p = d.pick.get {} p) (Tab.get_put_other _ _ _ _ _ hp) fun h => by rwa [put_pick]
  · exact onlyIf_keeps (P := fun e : Dev => e.live.get z a = d.live.get z a) rfl (live_put_other _ _ _ _ _ _ ha).trans

protected theorem disarmPick {q : Nat} (h : NonePredicted m c d) (hm : m < 16) : NonePredicted m c (disarmPick q d) := by
  refine ite_keeps (h.of_one (q := q) hm ⟨?_, ?_⟩ (fun p hp => ?_) fun a ha z => ?_) h
  · change get REEL_PICK_STATUS_STATE q (put REEL_PICK_STATUS_STATE q 1 d) ≠ 3
    rw [get_put_one _ _ _ (by decide) (by decide)]
    decide
  · unfold forgetPick
    rw [Tab.get_put_same]
  · unfold forgetPick
    rw [put_pick]
    exact Tab.get_put_other _ _ _ _ _ hp
  · exact live_put_other REEL_PICK_STATUS_STATE q 1 z a d ha

protected theorem auxSet {j : Nat} {active : Bool} (h : NonePredicted m c d) (hm : m < 16) : NonePredicted m c (auxSet j active d) := by
  unfold Machine.auxSet
  extract_lets d1 d2
  have h1 : NonePredicted m c d1 := h
  have h2 : NonePredicted m c d2 := h1.put hm (by decide)
  exact ite_keeps h1 (ite_keeps h2 (h2.setStrand hm (by decide)))

protected theorem auxPhaseStop {k : Nat} {r : Rec} (h : NonePredicted m c d) (hm : m < 16) : NonePredicted m c (auxPhaseStop k r d) :=
  ite_keeps (onlyIf_keeps ((((h.auxSet hm).disarmPick hm).disarmPick hm).put hm (by decide)) fun h => h.raise hm) h

end NonePredicted

/-- What the step of a fold over a list brings about for its element, and every step keeps, holds of each element after the fold. -/
theorem forL_each {α σ : Type} {Q : α → σ → Prop} {f : α → σ → σ} (hdone : ∀ a s, Q a (f a s)) (hkeep : ∀ a b s, Q b s → Q b (f a s)) {l : List α}
    {s : σ} {a : α} (ha : a ∈ l) : Q a (forL l f s) := by
  unfold forL
  induction l generalizing s with
  | nil => exact absurd ha List.not_mem_nil
  | cons b l ih =>
    rcases List.mem_cons.1 ha with rfl | ha
    · exact (forL_keeps (fun b s => hkeep b a s) (hdone a s) : Q a (forL l f (f a s)))
    · exact ih ha

section

variable {m : Nat} {d : Dev}

/-- The measure's status after its loss. -/
def showLost (m : Nat) (d : Dev) : Dev := bumpSat REEL_MEAS_STATUS_LOST_COUNT m (put REEL_MEAS_STATUS_LOST m 1 (put REEL_MEAS_STATUS_STATE m 4 d))

theorem measLost_of_taking (hst : get REEL_MEAS_STATUS_STATE m d = 1 ∨ get REEL_MEAS_STATUS_STATE m d = 2 ∨ get REEL_MEAS_STATUS_STATE m d = 3) :
    measLost m d = onlyIf (get REEL_MEAS_STATUS_STATE m d != 1) (forL (recsOf 0x0705 d) (auxPhaseStop m))
      (raise 0x0301 m (forL ((List.range 1024).filter fun p => pickUsed p d && pickMeas p d == m) dropPrediction (showLost m d))) := by
  unfold measLost
  exact if_pos hst

theorem showLost_shows :
    get REEL_MEAS_STATUS_STATE m (showLost m d) = 4 ∧ get REEL_MEAS_STATUS_LOST m (showLost m d) = 1 ∧
      get REEL_MEAS_STATUS_LOST_COUNT m (showLost m d) = min 65535 (get REEL_MEAS_STATUS_LOST_COUNT m d + 1) := by
  refine ⟨?_, ?_, ?_⟩
  · rw [showLost, bumpSat, get_put_apart (.bits (by decide)), get_put_apart (.bits (by decide)), get_put_same _ _ _ _ (by decide)]
    rfl
  · rw [showLost, bumpSat, get_put_apart (.bits (by decide)), get_put_one _ _ _ (by decide) (by decide)]
  · have hsat (n : Nat) : satU 16 n % 2 ^ 16 = min 65535 n := by
      unfold satU
      split <;> omega
    rw [showLost, bumpSat, get_put_same _ _ _ _ (by decide), get_put_apart (.bits (by decide)), get_put_apart (.bits (by decide))]
    exact hsat _

/-- After its loss a measure is LOST, and none of its picks is predicted. -/
theorem measLost_shows (hm : m < 16)
    (hst : get REEL_MEAS_STATUS_STATE m d = 1 ∨ get REEL_MEAS_STATUS_STATE m d = 2 ∨ get REEL_MEAS_STATUS_STATE m d = 3) :
    get REEL_MEAS_STATUS_STATE m (measLost m d) = 4 ∧ get REEL_MEAS_STATUS_LOST m (measLost m d) = 1 ∧
      get REEL_MEAS_STATUS_LOST_COUNT m (measLost m d) = min 65535 (get REEL_MEAS_STATUS_LOST_COUNT m d + 1) ∧
      ∀ p, p < 1024 → pickUsed p d = true → pickMeas p d = m → Unpredicted p (measLost m d) := by
  rw [measLost_of_taking hst]
  have hdrop : NonePredicted m (showLost m d)
      (forL ((List.range 1024).filter fun p => pickUsed p d && pickMeas p d == m) dropPrediction (showLost m d)) :=
    forL_keeps (P := NonePredicted m (showLost m d)) (fun _ _ h => h.dropPrediction hm) (.refl _)
  have htail : NonePredicted m (forL ((List.range 1024).filter fun p => pickUsed p d && pickMeas p d == m) dropPrediction (showLost m d))
      (onlyIf (get REEL_MEAS_STATUS_STATE m d != 1) (forL (recsOf 0x0705 d) (auxPhaseStop m))
        (raise 0x0301 m (forL ((List.range 1024).filter fun p => pickUsed p d && pickMeas p d == m) dropPrediction (showLost m d)))) :=
    onlyIf_keeps (NonePredicted.raise (.refl _) hm) fun h => forL_keeps (fun _ _ h => h.auxPhaseStop hm) h
  have hstatus {f : Fld} (hf : f.reg = REEL_MEAS_STATUS) := get_congr f m (showLost m d) _ (hf ▸ fun z => (htail.1 z).trans (hdrop.1 z))
  obtain ⟨hstate, hlost, hcount⟩ := showLost_shows (m := m) (d := d)
  refine ⟨(hstatus rfl).trans hstate, (hstatus rfl).trans hlost, (hstatus rfl).trans hcount, fun p hp hused hmeas => htail.2 p hp ?_⟩
  exact forL_each (Q := fun p d => p < 1024 → Unpredicted p d) (fun a s _ => unpredicted_dropPrediction a s)
    (fun a b s hb hlt => (NonePredicted.dropPrediction (m := m) (.refl s) hm).2 b hlt (hb hlt))
    (List.mem_filter.2 ⟨List.mem_range.2 hp, by simp [hused, hmeas]⟩) hp

end

/-- Settles O46: a due sample is one `measTake`; judging the picks and the reaction to a loss leave the measure's status alone. -/
theorem measureSamples : Obligations.MeasureSamples := by
  unfold Obligations.MeasureSamples
  refine ⟨?_, ?_⟩
  · intro dt m s r t c hm _ hrec hdue hsrc st smp p
    have hat : measureSamplePeriodAt m (later dt s) = measTake m r t p (nextDue m r (later dt s)) := measureSamplePeriodAt_of_due hrec hdue hsrc
    have hsmp : ((nextDue m r (later dt s)).meas.get {} m).smp = smp := smp_nextDue
    refine ⟨fun a b rest hst hab hnew => ?_, fun hst => ?_, fun hst hseen => ?_⟩
    · rw [gives_onDev_iff rfl, hat]
      obtain ⟨hstamp, hpos, hrate, hstate, hrange, hsamples, hedge⟩ :=
        measTake_shows_rate (r := r) (p := p) (st := st) (d := nextDue m r (later dt s)) hm rfl (by omega) (by omega) (hsmp.trans hab) hnew rfl rfl
      exact ⟨hstamp, hpos, hrate, hstate, hrange, by rw [hab]; exact hsamples, hedge⟩
    · rw [gives_onDev_iff rfl, hat]
      refine measTake_shows_start (st := st) (d := nextDue m r (later dt s)) rfl (by omega) (by rw [hsmp]) ?_ ?_ rfl
      · rw [hsmp]
        tauto
      · split
        · decide
        · tauto
    · rw [gives_onDev_iff rfl, hat, measTake_of_seen (st := st) (d := nextDue m r (later dt s)) rfl (by omega) (by omega) (hsmp ▸ hseen)]
      refine ⟨?_, ?_, rfl, fun _ _ _ => rfl⟩
      · rw [Tab.get_put_same]
        rfl
      · rw [Tab.get_put_same]
        exact hsmp
  · intro dt m s r hm _ hrec htime hlost hst
    have hat : measureLostTimeoutAt m (later dt s) = measLost m (later dt s) := by
      have hrec' : measRec m (later dt s) = some r := hrec
      have htime' : isTime m (later dt s) = false := htime
      unfold measureLostTimeoutAt
      rw [hrec']
      exact if_pos ⟨by simp [htime'], (Nat.mul_comm _ _).trans_le hlost⟩
    rw [gives_onDev_iff rfl, hat]
    exact measLost_shows hm hst

/-! ## Plies of a checked image -/

/-- A record that the loader's checks accept for a ply names one of the 1024 plies (R133). -/
theorem ply_lt_of_checkRec {m : Img} {r : Rec} (h : checkRec m r = true) (ht : r.typ = 0x0501) : r.u P0501_PLY < 1024 := by
  have hfind : ((recordTypes false).find? fun t => t.1 == r.typ) = some (0x0501, check0501, 0, 65535) := by
    rw [ht]
    rfl
  unfold checkRec at h
  rw [hfind] at h
  have h5 : check0501 m r = true := by
    simp only [Bool.and_eq_true] at h
    tauto
  unfold check0501 at h5
  extract_lets at h5
  simp only [Bool.and_eq_true, rng, decide_eq_true_eq] at h5
  omega

theorem ply_lt_of_plyRec {p : Nat} {r : Rec} {d : Dev} (hok : ImgOk d) (h : plyRec p d = some r) : p < 1024 := by
  obtain ⟨m, hm, hfind⟩ := Option.bind_eq_some_iff.1 h
  have hkey := List.find?_some hfind
  have himg : d.img = some m ∨ d.next = some m := by
    unfold imgFor at hm
    split at hm
    · exact .inr hm
    · exact .inl hm
  simp only [Bool.and_eq_true, beq_iff_eq] at hkey
  obtain ⟨ht, hp⟩ := hkey
  exact hp ▸ ply_lt_of_checkRec (hok m himg r (List.mem_of_find?_eq_some hfind)) ht

/-! ## What the reactions to a fault leave alone

A measure's loss, an axis's break and the samples of measures write no register of position feedback, and neither its notes nor those of its lines. -/

theorem recU_lt_pow (r : Rec) (f : PF) (i : Nat) : r.u f i < 256 ^ f.size := by
  unfold Rec.u
  refine lt_of_lt_of_le (leVal_lt _) (Nat.pow_le_pow_right (by decide) ?_)
  simp [Rec.bytes]

/-- Register `r`, up to index `n`, lies outside the registers of position feedback. -/
abbrev Reg.offFb (r : Reg) (n : Nat) : Prop := r.base + n * r.stride < 0x80000 ∨ 0x88000 ≤ r.base

theorem raiseAddrs_off_fb : ∀ a ∈ raiseAddrs, a < 0x80000 ∨ 0x88000 ≤ a := by decide

/-- From `c` to `d` the notes of position feedback and of its lines and its registers are the same; the images of `d` are checked ones. -/
def FbSpared (c d : Dev) : Prop :=
  d.lines = c.lines ∧ d.fbs = c.fbs ∧ ImgOk d ∧ ∀ a, 0x80000 ≤ a → a < 0x88000 → ∀ z, d.live.get z a = c.live.get z a

namespace FbSpared

variable {c d e : Dev}

theorem refl (h : ImgOk d) : FbSpared d d := ⟨rfl, rfl, h, fun _ _ _ _ => rfl⟩

theorem imgOk (h : FbSpared c d) : ImgOk d := h.2.2.1

theorem fbs_eq (h : FbSpared c d) : d.fbs = c.fbs := h.2.1

theorem get_eq {f : Fld} {i : Nat} (h : FbSpared c d) (hi : i < 24) (hf : 0x80000 ≤ f.reg.base ∧ f.reg.base + 24 * f.reg.stride < 0x88000) :
    get f i d = get f i c :=
  have hbase := f.reg.base_le_addr i
  have htop := f.reg.addr_le hi
  get_congr _ _ _ _ (h.2.2.2 _ (by omega) (by omega))

theorem keep (h : FbSpared c d) (hk : ImgsKept d e) (hlines : e.lines = d.lines) (hfbs : e.fbs = d.fbs)
    (hlive : ∀ a, 0x80000 ≤ a → a < 0x88000 → ∀ z, e.live.get z a = d.live.get z a) : FbSpared c e := by
  obtain ⟨hl, hf, hok, hregs⟩ := h
  exact ⟨hlines.trans hl, hfbs.trans hf, hok.kept hk, fun a ha ha' z => (hlive a ha ha' z).trans (hregs a ha ha' z)⟩

protected theorem ite {p : Prop} {_ : Decidable p} (hd : FbSpared c d) (he : FbSpared c e) : FbSpared c (if p then d else e) := ite_keeps hd he

/-! Registers, strands and faults. -/

protected theorem put {f : Fld} {i v : Nat} (n : Nat) (h : FbSpared c d) (hi : i < n) (hf : f.reg.offFb n) : FbSpared c (put f i v d) :=
  have hbase := f.reg.base_le_addr i
  have htop := f.reg.addr_le hi
  h.keep (ImgsKept.refl d).put (rest_lines (put_rest ..)) (rest_fbs (put_rest ..)) fun _ _ _ _ => live_put_other _ _ _ _ _ _ (by omega)

protected theorem setStrand {b k v : Nat} (h : FbSpared c d) (hk : k < 4096) : FbSpared c (setStrand b k v d) :=
  h.keep (ImgsKept.refl d).setStrand rfl rfl fun _ _ _ _ => live_setStrand_other _ _ _ _ _ _ (by unfold strandAddr; omega)

protected theorem putStrands {vs : List (Nat × Nat)} (h : FbSpared c d) : FbSpared c (putStrands vs d) :=
  h.keep (ImgsKept.refl d).putStrands (putStrands_lines ..) (putStrands_fbs ..) fun a ha ha' z =>
    live_putStrands vs d a z (by omega) fun p _ hp => by
      have hhigh := strandAddr_high (bits p.1 12 8) (bits p.1 0 12) (bits_lt _ _ _)
      rw [← hp] at hhigh
      omega

protected theorem putStrandsS {vs : List (Nat × Int)} (h : FbSpared c d) : FbSpared c (putStrandsS vs d) := h.putStrands

protected theorem raise {code obj aux : Nat} {value : Int} (h : FbSpared c d) : FbSpared c (raise code obj d aux value) :=
  h.keep (ImgsKept.refl d).raise (quiet_lines (raise_quiet ..)) (quiet_fbs (raise_quiet ..)) fun a ha ha' z =>
    live_raise _ _ _ _ _ a z fun hm => by
      have hoff := raiseAddrs_off_fb a hm
      omega

protected theorem stick {f : Fld} {i code obj aux : Nat} {value : Int} (n : Nat) (h : FbSpared c d) (hi : i < n) (hf : f.reg.offFb n) :
    FbSpared c (stick f i code obj d aux value) := (h.put n hi hf).ite (h.put n hi hf).raise

protected theorem clearFault {code obj : Nat} (h : FbSpared c d) : FbSpared c (clearFault code obj d) := by
  refine h.keep (ImgsKept.refl d).clearFault (quiet_lines (clearFault_quiet ..)) (quiet_fbs (clearFault_quiet ..)) fun a ha ha' z => ?_
  unfold Machine.clearFault
  split
  · refine calm_clearOne _ Calm.rfl' (fun hm => ?_) z
    have hoff := raiseAddrs_off_fb a hm
    omega
  · rfl

/-! A measure's loss. -/

protected theorem auxSet {j : Nat} {active : Bool} (h : FbSpared c d) (hj : j < 256) : FbSpared c (auxSet j active d) := by
  unfold Machine.auxSet
  extract_lets d1 d2
  have h1 : FbSpared c d1 := h
  have h2 : FbSpared c d2 := h1.put 256 hj (by decide)
  exact h1.ite (h2.ite (h2.setStrand (by omega)))

protected theorem disarmPick {p : Nat} (h : FbSpared c d) (hp : p < 65536) : FbSpared c (disarmPick p d) :=
  .ite (h.put 65536 hp (by decide) : FbSpared c (Machine.put REEL_PICK_STATUS_STATE p 1 d)) h

protected theorem auxPhaseStop {m : Nat} {r : Rec} (h : FbSpared c d) : FbSpared c (auxPhaseStop m r d) := by
  have hj : r.u P0705_OUTPUT < 256 := recU_lt r P0705_OUTPUT 0 rfl
  exact .ite (onlyIf_keeps ((((h.auxSet hj).disarmPick (recU_lt_pow r P0705_OPEN_POS 0)).disarmPick (recU_lt_pow r P0705_OPEN_NEG 0)).put 256 hj (by decide))
    .raise) h

protected theorem measLost {m : Nat} (h : FbSpared c d) (hm : m < 256) : FbSpared c (measLost m d) := by
  have hdrop {p e} (hp : p < 1024) (h : FbSpared c e) : FbSpared c (dropPrediction p e) := onlyIf_keeps h fun h => h.put 1024 hp (by decide)
  have hshow : FbSpared c (showLost m d) := ((h.put 256 hm (by decide)).put 256 hm (by decide)).put 256 hm (by decide)
  have hpicks : FbSpared c (forL ((List.range 1024).filter fun p => pickUsed p d && pickMeas p d == m) dropPrediction (showLost m d)) :=
    forL_keeps_mem (fun p hp _ h => hdrop (List.mem_range.1 (List.mem_filter.1 hp).1) h) hshow
  exact .ite (onlyIf_keeps hpicks.raise (forL_keeps fun _ _ h => h.auxPhaseStop)) h

/-! An axis's break (R166). -/

protected theorem setPins {n v : Nat} (h : FbSpared c d) (hn : n < 512) : FbSpared c (setPins n v d) :=
  .put 512 (.put 512 h hn (by decide)) hn (by decide)

protected theorem pinOff {n b : Nat} (h : FbSpared c d) (hn : n < 512) : FbSpared c (pinOff n b d) := .setPins h hn

protected theorem pinOn {e n b : Nat} (h : FbSpared c d) (hn : n < 512) : FbSpared c (pinOn e n b d) := h.ite (.ite (h.setPins hn) h)

protected theorem settlePins {n : Nat} (h : FbSpared c d) (hn : n < 512) : FbSpared c (settlePins n d) := by
  have h1 : FbSpared c (pinsNow n d) := h
  have h2 : FbSpared c (forL [0, 2, 4] (Machine.pinOff n) (pinsNow n d)) := forL_keeps (P := FbSpared c) (fun _ _ h => h.pinOff hn) h1
  have hoff : FbSpared c (pinsOff n d) := forL_keeps (P := FbSpared c) (fun _ _ h => h.pinOff hn) h1
  have hsafe {e} : FbSpared c (pinsSafe e n d) := .ite (forL_keeps (fun _ _ h => h.pinOn hn) h2) (forL_keeps (fun _ _ h => h.pinOff hn) h2)
  unfold Machine.settlePins
  split
  · exact h.ite (hsafe.ite hoff)
  · exact h

protected theorem driveOff {n : Nat} (h : FbSpared c d) (hn : n < 256) : FbSpared c (driveOff n d) := by
  have hput : FbSpared c (Machine.put DRV_AX_STATUS_DRIVE n 0 d) := h.put 256 hn (by decide)
  exact h.ite (.settlePins hput (by omega))

protected theorem remoteOff {r : Rec} (h : FbSpared c d) : FbSpared c (remoteOff r d) := .ite h h

protected theorem axisDriveOff {r : Rec} (h : FbSpared c d) : FbSpared c (axisDriveOff r d) :=
  (h.driveOff (recU_lt r P0601_AXIS 0 rfl)).ite h.remoteOff

protected theorem plyStop {p : Nat} (h : FbSpared c d) : FbSpared c (plyStop p d) := by
  unfold Machine.plyStop
  split
  next r hr =>
    have hp : p < 1024 := ply_lt_of_plyRec h.imgOk hr
    exact h.ite (.putStrandsS (.put 1024 (.put 1024 h hp (by decide)) hp (by decide)))
  · exact h

protected theorem gpioDrive {pin : Nat} {level : Bool} (h : FbSpared c d) : FbSpared c (gpioDrive pin level d) := by
  unfold Machine.gpioDrive
  extract_lets d1
  have h1 : FbSpared c d1 := h
  refine h1.ite ?_
  unfold gpioFollow
  extract_lets x
  split
  · exact h1.ite (.putStrands (.put 1 h1 Nat.one_pos (by decide)))
  · exact h1

protected theorem brakeDrive {r : Rec} {engaged : Bool} (h : FbSpared c d) : FbSpared c (brakeDrive r engaged d) :=
  h.ite (.ite (h.auxSet (recU_lt r P0601_BRAKE_OUT 0 rfl)) h.gpioDrive)

protected theorem axisBrake {r : Rec} {on : Bool} (h : FbSpared c d) : FbSpared c (axisBrake r on d) :=
  .brakeDrive (h.put 256 (recU_lt r P0601_AXIS 0 rfl) (by decide))

protected theorem memberFault {a : Nat} (h : FbSpared c d) : FbSpared c (memberFault a d) := by
  unfold Machine.memberFault
  split
  next g hg =>
    have hlt : g < 16 := by
      unfold mgrpOf at hg
      extract_lets g' at hg
      have hg' : g' < 2 ^ 4 := bits_lt _ _ _
      split at hg
      · exact absurd hg (by simp)
      · exact Option.some.inj hg ▸ hg'
    exact .ite (.raise (.put 16 h hlt (by decide))) h
  · exact h

protected theorem setAxisState {a st : Nat} (h : FbSpared c d) (ha : a < 256) : FbSpared c (setAxisState a st d) :=
  .put 1 (.put 256 h ha (by decide)) Nat.one_pos (by decide)

protected theorem axisBreak {a : Nat} (h : FbSpared c d) (ha : a < 256) : FbSpared c (axisBreak a d) := by
  unfold Machine.axisBreak
  split
  next r _ =>
    extract_lets x d1 home
    have h1 : FbSpared c d1 := h.memberFault
    have h2 {t} : FbSpared c (axisDriveOff r (forL (axisPlies r d1) Machine.plyStop (Machine.axisBrake r true { d1 with axes := t }))) :=
      .axisDriveOff (forL_keeps (fun _ _ h => h.plyStop) (.axisBrake h1))
    exact h.ite (.setAxisState (((h2.put 256 ha (by decide)).put 256 ha (by decide)).put 256 ha (by decide)) ha)
  · exact h

protected theorem raiseBreak {code a aux : Nat} {value : Int} (h : FbSpared c d) (ha : a < 256) : FbSpared c (raiseBreak code a d aux value) :=
  onlyIf_keeps h.raise fun h => h.axisBreak ha

end FbSpared

namespace FbSpared

variable {c d e : Dev}

theorem of_picksOnly (h : FbSpared c d) (hp : PicksOnly d e) (hk : ImgsKept d e) : FbSpared c e :=
  have hlines := congrArg Dev.lines hp.1
  have hfbs := congrArg Dev.fbs hp.1
  h.keep hk hlines hfbs fun a _ _ => hp.2 a (by omega)

/-! Samples of measures. -/

protected theorem measTake {m t : Nat} {r : Rec} {p : Int} (h : FbSpared c d) (hm : m < 256) : FbSpared c (measTake m r t p d) := by
  unfold Machine.measTake
  extract_lets x st old rate s d1 picks q
  have h1 : FbSpared c d1 := .put 256 (.put 256 h hm (by decide)) hm (by decide)
  have hstate {v e} (h : FbSpared c e) : FbSpared c (measState m r v e) :=
    onlyIf_keeps (h.put 256 hm (by decide)).clearFault fun h => h.stick 256 hm (by decide)
  refine h.ite (.ite h ?_)
  clear_value d1 rate
  split
  · exact (h1.put 256 hm (by decide)).put 256 hm (by decide)
  next v =>
    exact forL_keeps_mem (fun k hk e h => h.of_picksOnly ((PicksOnly.refl e).judgePick (List.mem_range.1 (List.mem_filter.1 hk).1)) (ImgsKept.refl e).judgePick)
      ((hstate (h1.put 256 hm (by decide))).put 256 hm (by decide))

end FbSpared

/-! ## An interface declared faulty (R215) -/

section

variable {n cause value : Nat} {d : Dev}

/-- The interface's own part of being declared faulty. -/
def showFaulty (n : Nat) (d : Dev) : Dev :=
  if flag FBK_FB_FLAGS_FAULTY n d then put FBK_FB_FLAGS_FAULTY n 1 d
  else put FBK_FB_FLAGS_FAULTY n 1 { d with fbs := d.fbs.put n { d.fbs.get {} n with idxRef := none } }

theorem imgOk_showFaulty (hok : ImgOk d) : ImgOk (showFaulty n d) := hok.kept (.ite (ImgsKept.refl d).put (.put (ImgsKept.refl d)))

theorem faulty_showFaulty : get FBK_FB_FLAGS_FAULTY n (showFaulty n d) = 1 := by
  unfold showFaulty
  split <;> exact get_put_one _ _ _ (by decide) (by decide)

/-- The measures and axes on the interface follow, and leave position feedback alone. -/
theorem fbSpared_fbDeclare (hok : ImgOk d) : FbSpared (showFaulty n d) (fbDeclare n cause d value) := by
  have h1 : FbSpared (showFaulty n d) (showFaulty n d) := .refl (imgOk_showFaulty hok)
  unfold showFaulty fbDeclare at *
  split
  next hf =>
    rw [if_pos hf] at h1
    exact h1
  next hf =>
    rw [if_neg hf] at h1
    have hmeas {e : Dev} : ∀ m ∈ measOn n e, m < 256 := by
      intro m hm
      obtain ⟨r, -, rfl⟩ := List.mem_map.1 hm
      exact recU_lt r P0302_MEASURE 0 rfl
    have haxes {e : Dev} : ∀ a ∈ axesOn n e, a < 256 := by
      intro a ha
      obtain ⟨r, -, rfl⟩ := List.mem_map.1 ha
      exact recU_lt r P0601_AXIS 0 rfl
    exact forL_keeps_mem (fun a ha _ h => FbSpared.raiseBreak (h.put 256 (haxes a ha) (by decide)) (haxes a ha))
      (forL_keeps_mem (fun m hm _ h => h.measLost (hmeas m hm)) h1.raise)

end

/-! ## One field of an interface through the handling of its lines -/

/-- Field `f` shares no bit with field `g` of the same index. -/
abbrev Fld.apartFrom (f g : Fld) : Prop :=
  f.reg.stride = g.reg.stride ∧ f.reg.base ≠ g.reg.base ∨ f.reg = g.reg ∧ f.inReg ∧ (f.lo + f.width ≤ g.lo ∨ g.lo + g.width ≤ f.lo)

theorem Fld.apartFrom.apart {f g : Fld} (i : Nat) : f.apartFrom g → Apart f i g i
  | .inl h => .base h
  | .inr h => .bits h

/-- Field `f` of position feedback. -/
abbrev Fld.isFb (f : Fld) : Prop := 0x80000 ≤ f.reg.base ∧ f.reg.base + 24 * f.reg.stride < 0x88000

/-- From `c` to `d` the lines' notes, field `f` of interface `n` and its BUSY are the same; the images of `d` are checked ones. -/
def FbKept (f : Fld) (n : Nat) (c d : Dev) : Prop :=
  d.lines = c.lines ∧ (d.fbs.get {} n).busy = (c.fbs.get {} n).busy ∧ ImgOk d ∧ get f n d = get f n c

namespace FbKept

variable {f : Fld} {n : Nat} {c d e : Dev}

theorem refl (h : ImgOk d) : FbKept f n d d := ⟨rfl, rfl, h, rfl⟩

theorem busy_eq (h : FbKept f n c d) : (d.fbs.get {} n).busy = (c.fbs.get {} n).busy := h.2.1

theorem imgOk (h : FbKept f n c d) : ImgOk d := h.2.2.1

theorem get_eq (h : FbKept f n c d) : get f n d = get f n c := h.2.2.2

protected theorem ite {p : Prop} {_ : Decidable p} (hd : FbKept f n c d) (he : FbKept f n c e) : FbKept f n c (if p then d else e) := ite_keeps hd he

protected theorem onlyIf {b : Bool} {g : Dev → Dev} (h : FbKept f n c d) (hg : ∀ {e}, FbKept f n c e → FbKept f n c (g e)) :
    FbKept f n c (onlyIf b g d) := onlyIf_keeps h hg

/-- The interface's note changed, with the same BUSY. -/
theorem note {x : FbX} (h : FbKept f n c d) (hx : x.busy = (c.fbs.get {} n).busy) : FbKept f n c { d with fbs := d.fbs.put n x } := by
  obtain ⟨hlines, _, hok, hget⟩ := h
  refine ⟨hlines, ?_, hok, hget⟩
  rw [Tab.get_put_same]
  exact hx

protected theorem put {g : Fld} {v : Nat} (h : FbKept f n c d) (hg : f.apartFrom g := by decide) : FbKept f n c (put g n v d) := by
  obtain ⟨hlines, hbusy, hok, hget⟩ := h
  refine ⟨(rest_lines (put_rest ..)).trans hlines, ?_, hok.kept (ImgsKept.refl d).put, (get_put_apart (hg.apart n)).trans hget⟩
  rw [rest_fbs (put_rest ..)]
  exact hbusy

theorem spared (h : FbKept f n c d) (hs : FbSpared d e) (hn : n < 24) (hf : f.isFb) : FbKept f n c e := by
  obtain ⟨hlines, hbusy, -, hget⟩ := h
  exact ⟨hs.1.trans hlines, hs.2.1 ▸ hbusy, hs.imgOk, (hs.get_eq hn hf).trans hget⟩

protected theorem raise {code obj aux : Nat} {value : Int} (h : FbKept f n c d) (hn : n < 24) (hf : f.isFb) : FbKept f n c (raise code obj d aux value) :=
  h.spared (FbSpared.refl h.imgOk).raise hn hf

protected theorem stick {g : Fld} {code obj aux : Nat} {value : Int} (h : FbKept f n c d) (hn : n < 24) (hf : f.isFb) (hg : f.apartFrom g) :
    FbKept f n c (stick g n code obj d aux value) := (h.put hg).ite ((h.put hg).raise hn hf)

protected theorem putStrandsS {vs : List (Nat × Int)} (h : FbKept f n c d) (hn : n < 24) (hf : f.isFb) : FbKept f n c (putStrandsS vs d) :=
  h.spared (FbSpared.refl h.imgOk).putStrandsS hn hf

protected theorem fbDeclare {cause value : Nat} (h : FbKept f n c d) (hn : n < 24) (hf : f.isFb) (hg : f.apartFrom FBK_FB_FLAGS_FAULTY) :
    FbKept f n c (fbDeclare n cause d value) :=
  have h1 : FbKept f n c (showFaulty n d) := .ite (h.put hg) (.put (h.note h.busy_eq) hg)
  h1.spared (fbSpared_fbDeclare h.imgOk) hn hf

protected theorem fbSettle {g : Dev → Dev} (h : FbKept f n c (g d)) : FbKept f n c (fbSettle n g d) := h.onlyIf fun h => h.note h.busy_eq

/-- The error's other fields and what a limit reached brings. -/
theorem afterError {code cause : Nat} {failed : Bool} {g : Fld} (hn : n < 24) (hf : f.isFb) (hrun : f.apartFrom FBK_FB_STATUS_ERR_RUN)
    (hcount : f.apartFrom FBK_FB_ERRORS_ERRORS) (hfault : f.apartFrom FBK_FB_FLAGS_FAULTY) (h : FbKept f n c (Machine.stick g n code n d)) :
    FbKept f n c (fbError g code n cause failed d) := by
  unfold fbError
  extract_lets lim d1 d2 d3 x d4
  have h2 : FbKept f n c d2 := h.put hrun
  have h3 : FbKept f n c d3 := h2.onlyIf fun h => h.put hcount
  have h4 : FbKept f n c d4 := h3.note h3.busy_eq
  exact h4.onlyIf fun h => h.fbDeclare hn hf hfault

/-! The levels through quadrature and Hall (R209 to R211). -/

theorem levels_homeIndex {t : Nat} (h : FbKept FBK_FB_STATUS_LEVELS n c d) : FbKept FBK_FB_STATUS_LEVELS n c (homeIndex n t d) :=
  forL_keeps (fun _ _ h => .ite h h) h

theorem levels_fbMethod {r : Rec} (h : FbKept FBK_FB_STATUS_LEVELS n c d) : FbKept FBK_FB_STATUS_LEVELS n c (fbMethod n r d) :=
  .put (.ite (h.onlyIf fun h => h.put) (h.onlyIf fun h => h.put))

section

variable (hn : n < 24)

include hn

theorem levels_fbError {g : Fld} {code cause : Nat} {failed : Bool} (h : FbKept FBK_FB_STATUS_LEVELS n c d) (hg : FBK_FB_STATUS_LEVELS.apartFrom g) :
    FbKept FBK_FB_STATUS_LEVELS n c (fbError g code n cause failed d) :=
  .afterError hn (by decide) (by decide) (by decide) (by decide) (h.stick hn (by decide) hg)

theorem levels_fbStep {r : Rec} {dir : Int} {t : Nat} (h : FbKept FBK_FB_STATUS_LEVELS n c d) : FbKept FBK_FB_STATUS_LEVELS n c (fbStep n r dir t d) := by
  unfold fbStep
  extract_lets x p cs dirs
  have h1 := h.note (x := { x with changes := cs, idxDirs := dirs, hallError := false }) h.busy_eq
  exact .putStrandsS (.put (.put h1)) hn (by decide)

theorem levels_fbIndex {r : Rec} {t : Nat} (h : FbKept FBK_FB_STATUS_LEVELS n c d) : FbKept FBK_FB_STATUS_LEVELS n c (fbIndex n r t d) := by
  unfold fbIndex
  extract_lets x k d1 d2 d3
  have h1 : FbKept FBK_FB_STATUS_LEVELS n c d1 := .putStrandsS (.put (.put h)) hn (by decide)
  have h2 : FbKept FBK_FB_STATUS_LEVELS n c d2 := levels_homeIndex h1
  have h3 : FbKept FBK_FB_STATUS_LEVELS n c d3 := h2.note h.busy_eq
  split
  · exact h3
  · extract_lets dev d4
    have h4 : FbKept FBK_FB_STATUS_LEVELS n c d4 := .ite (.put (.put (h3.note h3.busy_eq))) (.put (h3.note h3.busy_eq))
    have hok : FbKept FBK_FB_STATUS_LEVELS n c (Machine.fbSettle n (Machine.put FBK_FB_STATUS_CONSEC_MISMATCH n 0) d4) := .fbSettle h4.put
    have hcount : FbKept FBK_FB_STATUS_LEVELS n c (Machine.bumpSat FBK_FB_STATUS_CONSEC_MISMATCH n (Machine.bumpSat FBK_FB_INDEX_MISMATCHES n d4)) :=
      .put (.put h4)
    exact h3.ite (.ite (hok.onlyIf fun h => h.raise hn (by decide))
      ((FbKept.raise hcount.put hn (by decide)).onlyIf fun h => h.fbDeclare hn (by decide) (by decide)))

theorem levels_quadAccept {r : Rec} {old new t tz : Nat} (h : FbKept FBK_FB_STATUS_LEVELS n c d) :
    FbKept FBK_FB_STATUS_LEVELS n c (quadAccept n r old new t tz d) :=
  FbKept.onlyIf (.ite (levels_fbError hn h (by decide)) (.ite (levels_fbStep hn h) h)) fun h => levels_fbIndex hn h

theorem levels_hallAccept {r : Rec} {new t : Nat} (h : FbKept FBK_FB_STATUS_LEVELS n c d) : FbKept FBK_FB_STATUS_LEVELS n c (hallAccept n r new t d) := by
  unfold hallAccept
  extract_lets x s err
  have herr {e} (h : FbKept FBK_FB_STATUS_LEVELS n c e) : FbKept FBK_FB_STATUS_LEVELS n c (err e) :=
    levels_fbError hn (h.note h.busy_eq) (by decide)
  split
  · exact herr (h.note h.busy_eq)
  next s' _ =>
    have h1 : FbKept FBK_FB_STATUS_LEVELS n c (Machine.put FBK_FB_STATUS_SECTOR n s' d) := h.put
    exact .ite (h1.note h.busy_eq) (.ite (levels_fbStep hn h1) (.ite (levels_fbStep hn h1) (herr h1)))

end

end FbKept

/-! ## Lines of a feedback interface (R56, R207, R213, R215) -/

theorem ofInt_toInt (w n : Nat) : ofInt w (toInt w n) = n % 2 ^ w := by
  have hlt : n % 2 ^ w < 2 ^ w := Nat.mod_lt _ (Nat.two_pow_pos w)
  have hm : ((n % 2 ^ w : Nat) : Int) % ((2 ^ w : Nat) : Int) = (n % 2 ^ w : Nat) := Int.emod_eq_of_lt (by omega) (by omega)
  unfold ofInt toInt
  extract_lets m
  split
  · rw [hm, Int.toNat_natCast]
  · rw [Int.sub_emod_right, hm, Int.toNat_natCast]

theorem ofInt_wrap (w : Nat) (x : Int) : ofInt w (toInt w (ofInt w x)) = ofInt w x := by
  rw [ofInt_toInt, Nat.mod_eq_of_lt (ofInt_lt w x)]

section

variable {n : Nat} {r : Rec} {d : Dev}

/-! A transition on a line. -/

theorem lineMove_raw {line frac : Nat} {level : Bool} : (lineMove line level frac d).raw = level := rfl

theorem lineMove_edge {line frac : Nat} {level : Bool} : (lineMove line level frac d).edge = edge d := rfl

/-- A transition in RUN: back to the accepted level before the acceptance edge it is a glitch. -/
theorem fbLineEdgeAt_of_input {line frac : Nat} {level : Bool} (hline : line < 72) (hrec : fbRec (line / 3) d = some r) (hrun : inRun d = true)
    (hin : line % 3 ∈ fbInputs r) (hraw : (d.lines.get {} line).raw ≠ level) :
    fbLineEdgeAt line level frac d =
      onlyIf (level == bit (get FBK_FB_STATUS_LEVELS (line / 3) d) (line % 3) && !lineDue (line / 3) (line % 3) r d)
        (bump FBK_FB_GLITCH_GLITCHES (line / 3)) { d with lines := d.lines.put line (lineMove line level frac d) } := by
  have hgo : ¬ (72 ≤ line ∨ ((d.lines.get {} line).raw == level) = true) := by simp [hraw, hline]
  unfold fbLineEdgeAt
  extract_lets k rejected
  have hrej : rejected = (level == bit (get FBK_FB_STATUS_LEVELS (line / 3) d) (line % 3) && !lineDue (line / 3) (line % 3) r d) := by
    simp only [rejected, k, hrec, hrun, List.contains_iff_mem.2 hin, Bool.true_and]
  rw [if_neg hgo, hrej]

/-- A transition outside RUN is kept, and is no glitch. -/
theorem fbLineEdgeAt_of_not_run {line frac : Nat} {level : Bool} (hline : line < 72) (hrun : inRun d = false)
    (hraw : (d.lines.get {} line).raw ≠ level) :
    fbLineEdgeAt line level frac d = { d with lines := d.lines.put line (lineMove line level frac d) } := by
  have hgo : ¬ (72 ≤ line ∨ ((d.lines.get {} line).raw == level) = true) := by simp [hraw, hline]
  unfold fbLineEdgeAt
  extract_lets k rejected
  have hrej : rejected = false := by
    unfold rejected
    cases fbRec k d with
    | none => rfl
    | some r => simp only [hrun, Bool.false_and]
  rw [if_neg hgo, hrej]
  rfl

theorem fbLineEdgeAt_shows {line frac : Nat} {level : Bool} (hline : line < 72) (hrec : fbRec (line / 3) d = some r) (hrun : inRun d = true)
    (hin : line % 3 ∈ fbInputs r) (hraw : (d.lines.get {} line).raw ≠ level) {e : Dev} (he : e = fbLineEdgeAt line level frac d) :
    (e.lines.get {} line).raw = level ∧ (e.lines.get {} line).edge = edge d ∧
      get FBK_FB_GLITCH_GLITCHES (line / 3) e =
        (get FBK_FB_GLITCH_GLITCHES (line / 3) d + b2n (level == bit (get FBK_FB_STATUS_LEVELS (line / 3) d) (line % 3) &&
          !lineDue (line / 3) (line % 3) r d)) % 2 ^ FBK_FB_GLITCH_GLITCHES.width ∧
      KeepsBut [FBK_FB_GLITCH.addr (line / 3)] { d with lines := e.lines } e := by
  rw [fbLineEdgeAt_of_input hline hrec hrun hin hraw] at he
  generalize hglitch : (level == bit (get FBK_FB_STATUS_LEVELS (line / 3) d) (line % 3) && !lineDue (line / 3) (line % 3) r d) = glitch at he
  have hrest : e.rest = { d with lines := d.lines.put line (lineMove line level frac d) }.rest := by
    rw [he]
    exact onlyIf_keeps (P := fun e : Dev => e.rest = { d with lines := d.lines.put line (lineMove line level frac d) }.rest) rfl (bump_rest ..).trans
  have hlines := rest_lines hrest
  have hline : e.lines.get {} line = lineMove line level frac d := by rw [hlines, Tab.get_put_same]
  refine ⟨by rw [hline, lineMove_raw], by rw [hline, lineMove_edge], ?_, ?_, fun a ha z => ?_⟩
  · cases glitch with
    | true =>
      rw [he, onlyIf, if_pos rfl, bump, get_put_same _ _ _ _ (by decide)]
      rfl
    | false =>
      rw [he, onlyIf, if_neg (by decide)]
      exact (Nat.mod_eq_of_lt (bits_lt _ _ _)).symm
  · rw [hrest, hlines]
  · rw [he]
    exact onlyIf_keeps (P := fun e : Dev => e.live.get z a = d.live.get z a) rfl
      (live_put_other FBK_FB_GLITCH_GLITCHES _ _ _ _ _ (List.ne_of_not_mem_cons ha)).trans

/-! Levels accepted. -/

/-- Bits put one after the other into a word. -/
theorem bit_foldl_setBit {g : Nat → Bool} {l : List Nat} {w k : Nat} (hk : k ∈ l) : bit (l.foldl (fun w k => setBit w k (g k)) w) k = g k := by
  induction l using List.reverseRecOn with
  | nil => exact absurd hk List.not_mem_nil
  | append_singleton l j ih =>
    rw [List.foldl_append, List.foldl_cons, List.foldl_nil, bit_setBit]
    by_cases hkj : k = j
    · rw [if_pos hkj, hkj]
    · rw [if_neg hkj]
      exact ih ((List.mem_append.1 hk).resolve_right (by simpa using hkj))

/-- The levels of every due line, as an acceptance edge shows them. -/
def newLevels (n : Nat) (r : Rec) (d : Dev) : Nat :=
  ((fbInputs r).filter fun k => lineDue n k r d).foldl (fun l k => setBit l k (lineRun (d.lines.get {} (3 * n + k)) (edge d)).1) (get FBK_FB_STATUS_LEVELS n d)

theorem fbKept_acceptLines (hn : n < 24) (hok : ImgOk d) :
    FbKept FBK_FB_STATUS_LEVELS n (put FBK_FB_STATUS_LEVELS n (newLevels n r d) d) (acceptLines n r d) := by
  have h1 : FbKept FBK_FB_STATUS_LEVELS n (put FBK_FB_STATUS_LEVELS n (newLevels n r d) d) (put FBK_FB_STATUS_LEVELS n (newLevels n r d) d) :=
    .refl (hok.kept (ImgsKept.refl d).put)
  unfold acceptLines
  extract_lets due old new stampOf d1 t
  split
  · exact .levels_fbMethod (.levels_quadAccept hn h1)
  · exact .levels_fbMethod (.levels_hallAccept hn h1)
  · exact h1

theorem fbInputs_lt {k : Nat} (hk : k ∈ fbInputs r) : k < 3 := by
  unfold fbInputs at hk
  split at hk <;> simp at hk <;> omega

/-- At the acceptance edge every due line's level is accepted. -/
theorem acceptLines_shows {k : Nat} (hn : n < 24) (hok : ImgOk d) (hk : k ∈ fbInputs r) (hdue : lineDue n k r d = true) :
    bit (get FBK_FB_STATUS_LEVELS n (acceptLines n r d)) k = (lineRun (d.lines.get {} (n * 3 + k)) (edge d)).1 ∧ (acceptLines n r d).lines = d.lines := by
  obtain ⟨hlines, -, -, hlevels⟩ := fbKept_acceptLines (r := r) hn hok
  refine ⟨?_, hlines.trans (rest_lines (put_rest ..))⟩
  have hbit : bit (newLevels n r d) k = (lineRun (d.lines.get {} (3 * n + k)) (edge d)).1 :=
    bit_foldl_setBit (List.mem_filter.2 ⟨hk, hdue⟩)
  rw [hlevels, get_put_same _ _ _ _ (by decide), bit_mod_two_pow (w := FBK_FB_STATUS_LEVELS.width) (fbInputs_lt hk), hbit, Nat.mul_comm]

/-! No change for ZERO_TIME, and 10 ms without an error. -/

theorem fbZeroTimeAt_of_due (hrec : fbRec n d = some r) (hmode : r.u P0801_MODE ≠ 3) (hdue : fbStamp n d + r.u P0801_ZERO_TIME * us16 ≤ now d) :
    fbZeroTimeAt n d = put FBK_FB_SPEED_SPEED n 0 (put FBK_FB_STATUS_METHOD n 0 d) := by
  unfold fbZeroTimeAt
  rw [hrec]
  exact if_pos ⟨hmode, hdue⟩

theorem zeroSpeed_shows {e : Dev} (he : e = put FBK_FB_SPEED_SPEED n 0 (put FBK_FB_STATUS_METHOD n 0 d)) :
    get FBK_FB_STATUS_METHOD n e = 0 ∧ get FBK_FB_SPEED_SPEED n e = 0 ∧ KeepsBut [FBK_FB_STATUS.addr n, FBK_FB_SPEED.addr n] d e := by
  subst he
  refine ⟨?_, get_put_zero _ _ _ (by decide), ?_, fun a ha z => ?_⟩
  · rw [get_put_apart (.base (by decide)), get_put_zero _ _ _ (by decide)]
  · rw [put_rest, put_rest]
  · simp only [List.mem_cons, List.not_mem_nil, or_false, not_or] at ha
    exact (live_put_other FBK_FB_SPEED_SPEED _ _ _ _ _ ha.2).trans (live_put_other FBK_FB_STATUS_METHOD _ _ _ _ _ ha.1)

/-! A setting of the counters behind R215's conditions writes but its own note. -/

theorem fbSettle_live (f : Dev → Dev) : (fbSettle n f d).live = (f d).live := by
  unfold fbSettle
  exact onlyIf_keeps (P := fun e : Dev => e.live = (f d).live) rfl id

theorem fbSettle_rest (f : Dev → Dev) : (fbSettle n f d).rest = { (f d).rest with fbs := (fbSettle n f d).fbs } := by
  unfold fbSettle
  exact onlyIf_keeps (P := fun e : Dev => e.rest = { (f d).rest with fbs := e.fbs }) rfl fun _ => rfl

theorem fbSettle_note (f : Dev → Dev) : ∃ x, (fbSettle n f d).fbs.get {} n = { (f d).fbs.get {} n with condEdge := x } := by
  unfold fbSettle
  extract_lets held d1
  unfold onlyIf
  split
  · exact ⟨edge d1, Tab.get_put_same ..⟩
  · exact ⟨_, rfl⟩

theorem get_fbSettle {g : Fld} {i : Nat} (f : Dev → Dev) : get g i (fbSettle n f d) = get g i (f d) :=
  get_congr _ _ _ _ fun z => congrArg (Tab.get z · _) (fbSettle_live f)

theorem fbErrRunResetAt_of_due (hrec : fbRec n d = some r) (hmode : r.u P0801_MODE ≠ 3) (hdue : 4000000 ≤ since (d.fbs.get {} n).errEdge d) :
    fbErrRunResetAt n d = fbSettle n (put FBK_FB_STATUS_ERR_RUN n 0) d := by
  unfold fbErrRunResetAt
  rw [hrec]
  exact if_pos ⟨hmode, hdue⟩

theorem clearErrRun_shows {e : Dev} (he : e = fbSettle n (put FBK_FB_STATUS_ERR_RUN n 0) d) :
    get FBK_FB_STATUS_ERR_RUN n e = 0 ∧ KeepsBut [FBK_FB_STATUS.addr n] { d with fbs := e.fbs } e := by
  subst he
  refine ⟨?_, ?_, fun a ha z => ?_⟩
  · rw [get_fbSettle, get_put_zero _ _ _ (by decide)]
  · rw [fbSettle_rest, put_rest]
    rfl
  · rw [fbSettle_live]
    exact live_put_other FBK_FB_STATUS_ERR_RUN _ _ _ _ _ (List.ne_of_not_mem_cons ha)

/-! An alarm (R215). -/

theorem fbAlarmTimeoutAt_shows (hn : n < 24) (hok : ImgOk d) (halarm : get FBK_FB_STATUS_ALARM n d = 1)
    (hdue : 40000 ≤ since (d.fbs.get {} n).alarmEdge d) : get FBK_FB_FLAGS_FAULTY n (fbAlarmTimeoutAt n d) = 1 := by
  unfold fbAlarmTimeoutAt
  rw [if_pos ⟨by simp [flag, halarm], hdue⟩]
  exact ((fbSpared_fbDeclare hok).get_eq hn (by decide)).trans faulty_showFaulty

/-! ## One step of quadrature (R209) -/

theorem count_fbStep {dir : Int} {t : Nat} (hn : n < 24) :
    fbCount n (fbStep n r dir t d) = toInt 64 (ofInt 64 (fbCount n d + dir * 65536)) := by
  have haddr : FBK_FB_POS.addr n = 0x80108 + n * 64 := rfl
  unfold fbStep
  extract_lets x p cs dirs
  unfold fbCount getS putStrandsS
  rw [get_putStrands _ _ _ _ (by change FBK_FB_POS.addr n / 65536 ≠ 7; omega) (by change FBK_FB_POS.addr n % 65536 < 0x8000; omega),
    get_put_apart (.base (by decide)), putS, get_put_same _ _ _ _ (by decide)]
  change toInt 64 (ofInt 64 p % 2 ^ 64) = _
  rw [Nat.mod_eq_of_lt (ofInt_lt 64 p), ofInt_wrap]
  rfl

theorem count_quadAccept {old new t tz : Nat} (hn : n < 24) (hz : r.b P0801_FLAGS 1 = false)
    (hone : (bit old 0 != bit new 0) ≠ (bit old 1 != bit new 1)) :
    fbCount n (quadAccept n r old new t tz d) =
      toInt 64 (ofInt 64 (fbCount n d + if ((quadPlace new + 4 - quadPlace old) % 4 == 1) != r.b P0801_FLAGS 0 then 65536 else -65536)) := by
  have hnotboth : ((bit old 0 != bit new 0) && (bit old 1 != bit new 1)) = false := by
    cases ha : (bit old 0 != bit new 0) <;> cases hb : (bit old 1 != bit new 1) <;> simp_all
  have heither : ((bit old 0 != bit new 0) || (bit old 1 != bit new 1)) = true := by
    cases ha : (bit old 0 != bit new 0) <;> cases hb : (bit old 1 != bit new 1) <;> simp_all
  unfold quadAccept
  extract_lets a b up d1
  have hd1 : d1 = fbStep n r (if up then 1 else -1) t d := by
    unfold d1
    rw [if_neg (by simp [a, b, hnotboth]), if_pos heither]
  rw [hz, onlyIf, if_neg (by simp), hd1, count_fbStep hn]
  cases hup : up <;> simp [up] at hup <;> simp [hup]

end

/-! ## The end of an SSI read (R214) -/

section

variable {n v : Nat} {c : Int} {r : Rec} {bs : List Bool} {d : Dev}

/-- What a good read writes before its error run ends. -/
def showRead (n v : Nat) (c : Int) (d : Dev) : Dev :=
  let x := d.fbs.get {} n
  let sp := match x.good with
    | some (t0, _, c0) => speedOf (c - c0) ((x.readStamp : Int) - t0)
    | none => 0
  let p := toInt 64 (ofInt 64 (c * 65536))
  putStrandsS [(0x08000 + n, p), (0x08020 + n, sp)] (putS FBK_FB_SPEED_SPEED n sp (put FBK_FB_EDGE_STAMP n x.readStamp (putS FBK_FB_POS_COUNT n p
    { d with fbs := d.fbs.put n { x with busy := false, good := some (x.readStamp, v, c), speed := sp } })))

/-- The read is over. -/
def readOver (n : Nat) (d : Dev) : Dev := { d with fbs := d.fbs.put n { d.fbs.get {} n with busy := false } }

theorem ssiFinish_of_good (h : ssiValue n r bs d = some (v, c)) :
    ssiFinish n r bs d = (true, fbSettle n (put FBK_FB_STATUS_ERR_RUN n 0) (showRead n v c d)) := by
  unfold ssiFinish
  extract_lets x
  rw [h]
  rfl

theorem ssiFinish_of_bad (h : ssiValue n r bs d = none) :
    ssiFinish n r bs d = (false, fbError FBK_FB_FLAGS_SSI_ERR 0x0806 n 3 true (readOver n d)) := by
  unfold ssiFinish
  extract_lets x
  rw [h]
  rfl

/-- A field of position feedback reads as before strands were updated. -/
theorem get_putStrandsS_fb {f : Fld} {vs : List (Nat × Int)} (hn : n < 24) (hf : f.isFb) : get f n (putStrandsS vs d) = get f n d := by
  have hbase := f.reg.base_le_addr n
  have htop := f.reg.addr_le hn
  exact get_putStrands _ _ _ _ (by omega) (by omega)

theorem showRead_shows (hn : n < 24) :
    get FBK_FB_POS_COUNT n (showRead n v c d) = ofInt 64 (c * 65536) ∧
      get FBK_FB_EDGE_STAMP n (showRead n v c d) = (d.fbs.get {} n).readStamp % 2 ^ 64 := by
  unfold showRead
  extract_lets x sp p
  refine ⟨?_, ?_⟩
  · rw [get_putStrandsS_fb hn (by decide), putS, get_put_apart (.base (by decide)), get_put_apart (.base (by decide)), putS,
      get_put_same _ _ _ _ (by decide)]
    change ofInt 64 (toInt 64 (ofInt 64 (c * 65536))) % 2 ^ 64 = _
    rw [ofInt_wrap, Nat.mod_eq_of_lt (ofInt_lt 64 _)]
  · rw [get_putStrandsS_fb hn (by decide), putS, get_put_apart (.base (by decide)), get_put_same _ _ _ _ (by decide)]
    rfl

theorem showRead_note :
    ((showRead n v c d).fbs.get {} n).busy = false ∧ ((showRead n v c d).fbs.get {} n).good = some ((d.fbs.get {} n).readStamp, v, c) := by
  unfold showRead
  extract_lets x sp p
  have hfbs : (putStrandsS [(0x08000 + n, p), (0x08020 + n, sp)] (putS FBK_FB_SPEED_SPEED n sp (put FBK_FB_EDGE_STAMP n x.readStamp (putS FBK_FB_POS_COUNT n p
      { d with fbs := d.fbs.put n { x with busy := false, good := some (x.readStamp, v, c), speed := sp } })))).fbs =
      d.fbs.put n { x with busy := false, good := some (x.readStamp, v, c), speed := sp } :=
    (putStrands_fbs ..).trans (((putS_rest ..).trans ((put_rest ..).trans (putS_rest ..))) |> rest_fbs)
  rw [hfbs, Tab.get_put_same]
  exact ⟨rfl, rfl⟩

/-- The end of a good read, before the measures on the interface take it as a sample. -/
def goodRead (n v : Nat) (c : Int) (d : Dev) : Dev := fbSettle n (put FBK_FB_STATUS_ERR_RUN n 0) (showRead n v c d)

theorem goodRead_shows (hn : n < 24) :
    get FBK_FB_POS_COUNT n (goodRead n v c d) = ofInt 64 (c * 65536) ∧
      get FBK_FB_EDGE_STAMP n (goodRead n v c d) = (d.fbs.get {} n).readStamp % 2 ^ 64 ∧ get FBK_FB_STATUS_ERR_RUN n (goodRead n v c d) = 0 ∧
      ((goodRead n v c d).fbs.get {} n).busy = false ∧ ((goodRead n v c d).fbs.get {} n).good = some ((d.fbs.get {} n).readStamp, v, c) := by
  obtain ⟨hcount, hstamp⟩ := showRead_shows (v := v) (c := c) (d := d) hn
  obtain ⟨hbusy, hgood⟩ := showRead_note (n := n) (v := v) (c := c) (d := d)
  obtain ⟨x, hx⟩ := fbSettle_note (n := n) (d := showRead n v c d) (put FBK_FB_STATUS_ERR_RUN n 0)
  rw [rest_fbs (put_rest ..)] at hx
  unfold goodRead
  refine ⟨?_, ?_, ?_, ?_, ?_⟩
  · rw [get_fbSettle, get_put_apart (.base (by decide)), hcount]
  · rw [get_fbSettle, get_put_apart (.base (by decide)), hstamp]
  · rw [get_fbSettle, get_put_zero _ _ _ (by decide)]
  · rw [hx]
    exact hbusy
  · rw [hx]
    exact hgood

theorem imgOk_goodRead (hok : ImgOk d) (h : ssiValue n r bs d = some (v, c)) : ImgOk (goodRead n v c d) :=
  have hfinish : (ssiFinish n r bs d).2 = goodRead n v c d := congrArg Prod.snd (ssiFinish_of_good h)
  hok.kept (hfinish ▸ (ImgsKept.refl d).ssiFinish)

theorem ssiReadCompleteAt_of_good (hrec : fbRec n d = some r) (hmode : r.u P0801_MODE = 3) (hbusy : (d.fbs.get {} n).busy = true)
    (hdue : ssiEdges r ≤ since (d.fbs.get {} n).readEdge d) (hok : ImgOk d) (h : ssiValue n r bs d = some (v, c)) :
    FbSpared (goodRead n v c d) (ssiReadCompleteAt n bs d) := by
  unfold ssiReadCompleteAt
  rw [hrec]
  dsimp only
  rw [if_pos ⟨hmode, hbusy, hdue⟩, ssiFinish_of_good h]
  exact forL_keeps (fun q _ h => .ite (h.measTake (recU_lt q P0302_MEASURE 0 rfl)) h) (.refl (imgOk_goodRead hok h))

theorem ssiReadCompleteAt_of_bad (hrec : fbRec n d = some r) (hmode : r.u P0801_MODE = 3) (hbusy : (d.fbs.get {} n).busy = true)
    (hdue : ssiEdges r ≤ since (d.fbs.get {} n).readEdge d) (h : ssiValue n r bs d = none) :
    ssiReadCompleteAt n bs d =
      fbError FBK_FB_FLAGS_SSI_ERR 0x0806 n 3 true (readOver n d) := by
  unfold ssiReadCompleteAt
  rw [hrec]
  dsimp only
  rw [if_pos ⟨hmode, hbusy, hdue⟩, ssiFinish_of_bad h]
  exact if_neg Bool.false_ne_true

/-- A bad read sets SSI_ERR; the interface's other fields but the error's own stand. -/
theorem badRead_shows (hn : n < 24) (hok : ImgOk d) {e : Dev}
    (he : e = fbError FBK_FB_FLAGS_SSI_ERR 0x0806 n 3 true (readOver n d)) :
    get FBK_FB_FLAGS_SSI_ERR n e = 1 ∧ get FBK_FB_POS_COUNT n e = get FBK_FB_POS_COUNT n d ∧ (e.fbs.get {} n).busy = false := by
  have hok0 : ImgOk (readOver n d) := hok
  have hidle : ((readOver n d).fbs.get {} n).busy = false := by
    unfold readOver
    rw [Tab.get_put_same]
  have hraised : FBK_FB_FLAGS.addr n ∉ raiseAddrs := by
    intro hm
    have hoff := raiseAddrs_off_fb _ hm
    change 0x80104 + n * 64 < 0x80000 ∨ 0x88000 ≤ 0x80104 + n * 64 at hoff
    omega
  have herr : FbKept FBK_FB_FLAGS_SSI_ERR n (stick FBK_FB_FLAGS_SSI_ERR n 0x0806 n (readOver n d)) e :=
    he ▸ .afterError hn (by decide) (by decide) (by decide) (by decide) (.refl (hok0.kept (ImgsKept.refl _).stick))
  have hcount : FbKept FBK_FB_POS_COUNT n (readOver n d) e :=
    he ▸ .afterError hn (by decide) (by decide) (by decide) (by decide) ((FbKept.refl hok0).stick hn (by decide) (by decide))
  exact ⟨herr.get_eq.trans (get_stick _ _ _ _ _ _ _ hraised (by decide) (by decide)), hcount.get_eq, hcount.busy_eq.trans hidle⟩

end

/-- Settles O37: reactions to a fault and samples of measures leave the registers of position feedback alone. -/
theorem feedback : Obligations.Feedback := by
  unfold Obligations.Feedback
  refine ⟨⟨?_, ?_, ?_, ?_, ?_, ?_⟩, ?_, ?_, ?_⟩
  · intro dt line level frac s r hline hrec hphase hin hraw
    rw [gives_onDev_iff rfl]
    exact fbLineEdgeAt_shows (d := later dt s) hline hrec (beq_iff_eq.2 hphase) hin hraw rfl
  · intro dt line level frac s hline hrun hraw
    rw [gives_onDev_iff rfl, fbLineEdgeAt_of_not_run (d := later dt s) hline hrun hraw]
    refine ⟨?_, rfl⟩
    rw [Tab.get_put_same]
    exact lineMove_raw
  · intro dt line s r k hline hok hrec hphase hdue hk hkdue
    have hat : fbLevelAcceptAt line (later dt s) = acceptLines (line / 3) r (later dt s) := by
      have hrec' : fbRec (line / 3) (later dt s) = some r := hrec
      have hrun : inRun (later dt s) = true := beq_iff_eq.2 hphase
      unfold fbLevelAcceptAt
      rw [hrec']
      exact if_pos (by rw [hdue, hrun]; rfl)
    rw [gives_onDev_iff rfl, hat]
    exact acceptLines_shows (d := later dt s) (by omega) hok hk hkdue
  · intro dt n s r _ hrec hmode hdue
    rw [gives_onDev_iff rfl]
    exact zeroSpeed_shows (fbZeroTimeAt_of_due (d := later dt s) hrec hmode hdue)
  · intro dt n s r _ hrec hmode hdue
    rw [gives_onDev_iff rfl]
    exact clearErrRun_shows (fbErrRunResetAt_of_due (d := later dt s) hrec hmode hdue)
  · intro dt n s hn hok halarm hdue
    rw [gives_onDev_iff rfl]
    exact fbAlarmTimeoutAt_shows (d := later dt s) hn hok halarm hdue
  · exact fun n r old new t tz d hn hz hone => count_quadAccept hn hz hone
  · intro dt n bs s r v c hn hok hrec hmode hbusy hdue hvalue
    rw [gives_onDev_iff rfl]
    have hspared := ssiReadCompleteAt_of_good (d := later dt s) hrec hmode hbusy hdue hok hvalue
    obtain ⟨hcount, hstamp, hrun, hidle, hgood⟩ := goodRead_shows (v := v) (c := c) (d := later dt s) hn
    refine ⟨(hspared.get_eq hn (by decide)).trans hcount, (hspared.get_eq hn (by decide)).trans hstamp, (hspared.get_eq hn (by decide)).trans hrun, ?_, ?_⟩
    · rw [hspared.fbs_eq]
      exact hidle
    · rw [hspared.fbs_eq]
      exact hgood
  · intro dt n bs s r hn hok hrec hmode hbusy hdue hvalue
    rw [gives_onDev_iff rfl]
    exact badRead_shows (d := later dt s) hn hok (ssiReadCompleteAt_of_bad (d := later dt s) hrec hmode hbusy hdue hvalue)

end Sys2Proof.Machine

namespace Sys2Proof.Machine

/-! Proofs for the family 04_creel_threads.md: dispatch, waits and budgets of threads, and a core that fails. -/

/-! ## Threads, cores and their registers -/

theorem coreX_coreMod (b c : Nat) (f : CoreX → CoreX) (d : Dev) : coreX b (coreMod c f d) = if b = c then f (coreX c d) else coreX b d := by
  split
  next h =>
    subst h
    exact Tab.get_put_same ..
  next h => exact Tab.get_put_other _ _ _ _ _ h

@[simp] theorem showCore_creel (c : Nat) (d : Dev) : (showCore c d).creel = d.creel := by simp [showCore]

@[simp] theorem setThr_creel (t st : Nat) (d : Dev) : (setThr t st d).creel = d.creel := put_creel ..

@[simp] theorem setThr_img (t st : Nat) (d : Dev) : (setThr t st d).img = d.img := put_img ..

theorem thrState_setThr {t st : Nat} {d : Dev} (h : st < 8) : thrState t (setThr t st d) = st :=
  (get_put_same _ _ _ _ (by decide)).trans (Nat.mod_eq_of_lt h)

theorem coreX_congr {d e : Dev} (h : e.creel = d.creel) (b : Nat) : coreX b e = coreX b d := by
  unfold coreX
  rw [h]

/-- A thread's role stands in the image. -/
theorem isRole2_congr {d e : Dev} (h : e.img = d.img) (t : Nat) : isRole2 t e = isRole2 t d := by
  unfold isRole2 thrField thrEntry recOf
  rw [h]

theorem lt_of_mem_coresOn {c : Nat} {d : Dev} (h : c ∈ coresOn d) : c < 4 := List.mem_range.1 (List.mem_of_mem_filter h)

theorem lt_of_mem_eligible {c t : Nat} {d : Dev} (h : c ∈ eligible t d) : c < 4 := by
  refine lt_of_mem_coresOn (d := d) ?_
  unfold eligible at h
  extract_lets m at h
  split at h
  · exact List.mem_of_mem_drop h
  · split at h
    · exact h
    · exact List.mem_of_mem_filter h

theorem bestCore_mem {key : Nat → Nat} {cs : List Nat} {c : Nat} (h : bestCore key cs = some c) : c ∈ cs := by
  revert h
  unfold bestCore
  refine List.foldlRecOn (motive := fun best => best = some c → c ∈ cs) cs _ (fun h => nomatch h) fun best hbest b hb h => ?_
  split at h
  · exact Option.some.inj h ▸ hb
  · split at h
    · exact Option.some.inj h ▸ hb
    · exact hbest h

/-- The threads of a table of lists, one of whose lists was replaced. -/
theorem mem_lists_of_mem_set {l t : Nat} {ts : List Nat} {x : Tab (List Nat)} (h : t ∈ ((x.set [] l ts).map (·.2)).flatten) :
    t ∈ ts ∨ t ∈ (x.map (·.2)).flatten := by
  obtain ⟨ys, hys, ht⟩ := List.mem_flatten.1 h
  obtain ⟨p, hp, rfl⟩ := List.mem_map.1 hys
  have hold {p : Nat × List Nat} (hp : p ∈ x) (ht : t ∈ p.2) : t ∈ (x.map (·.2)).flatten := List.mem_flatten.2 ⟨_, List.mem_map.2 ⟨p, hp, rfl⟩, ht⟩
  unfold Tab.set at hp
  split at hp
  · exact .inr (hold (Tab.mem_del _ _ _ hp) ht)
  · rcases Tab.mem_put _ _ _ _ hp with rfl | hp
    · exact .inl ht
    · exact .inr (hold hp ht)

theorem mem_lists_of_mem_get {l t : Nat} {x : Tab (List Nat)} (h : t ∈ x.get [] l) : t ∈ (x.map (·.2)).flatten := by
  induction x with
  | nil => cases h
  | cons p x ih =>
    obtain ⟨j, ts⟩ := p
    rw [Tab.get] at h
    rw [List.map_cons, List.flatten_cons, List.mem_append]
    split at h
    · exact .inl h
    · exact .inr (ih h)

/-! ## Fields that moving threads among lists, slots and cores leaves alone -/

/-- Field `f` of index `i` is neither the state of a thread nor part of what a core shows and of its time. -/
def OffQueues (f : Fld) (i : Nat) : Prop :=
  (∀ u, Apart f i CREEL_THREAD_STATUS_STATE u) ∧
  ∀ b, b < 4 → f.reg.addr i ≠ CREEL_CORE_STATE.addr b ∧ f.reg.addr i ≠ CREEL_CORE_BUSY.addr b

theorem Apart.threadStatus {f g : Fld} {t u : Nat} (hf : f.reg = CREEL_THREAD_STATUS) (hg : g.reg = CREEL_THREAD_STATUS) (h : t ≠ u) : Apart f t g u := by
  refine .inl ?_
  rw [hf, hg]
  change 0x41000 + t * 16 ≠ 0x41000 + u * 16
  omega

/-- Any other field of THREAD_STATUS. -/
theorem OffQueues.threadStatus {f : Fld} (t : Nat) (hreg : f.reg = CREEL_THREAD_STATUS) (h : 3 ≤ f.lo ∧ f.lo + f.width ≤ 32) : OffQueues f t := by
  refine ⟨fun u => ?_, fun b hb => ?_⟩
  · by_cases htu : t = u
    · subst htu
      exact .bits ⟨hreg, by rw [Fld.inReg, hreg]; exact h.2, .inr h.1⟩
    · exact .threadStatus hreg rfl htu
  · rw [hreg]
    change 0x41000 + t * 16 ≠ 0x40100 + b * 32 ∧ 0x41000 + t * 16 ≠ 0x40108 + b * 32
    omega

/-- THREAD_COUNT and THREAD_TIME. -/
theorem OffQueues.threadReg {f : Fld} (t : Nat) (h : f.reg.stride = 16 ∧ 0x41000 < f.reg.base ∧ f.reg.base < 0x41010) : OffQueues f t := by
  obtain ⟨hstride, hlow, hhigh⟩ := h
  refine ⟨fun u => .inl ?_, fun b hb => ?_⟩
  · change f.reg.base + t * f.reg.stride ≠ 0x41000 + u * 16
    rw [hstride]
    omega
  · change f.reg.base + t * f.reg.stride ≠ 0x40100 + b * 32 ∧ f.reg.base + t * f.reg.stride ≠ 0x40108 + b * 32
    rw [hstride]
    omega

theorem OffQueues.coreLat {f : Fld} {c : Nat} (hc : c < 4) (hreg : f.reg = CREEL_CORE_LAT) : OffQueues f c := by
  refine ⟨fun u => .inl ?_, fun b hb => ?_⟩
  · rw [hreg]
    change 0x40110 + c * 32 ≠ 0x41000 + u * 16
    omega
  · rw [hreg]
    change 0x40110 + c * 32 ≠ 0x40100 + b * 32 ∧ 0x40110 + c * 32 ≠ 0x40108 + b * 32
    omega

/-- The Creel's own status and its ticks. -/
theorem OffQueues.low {f : Fld} (h : f.reg.base < 0x40100) : OffQueues f 0 := by
  refine ⟨fun u => .inl ?_, fun b hb => ?_⟩
  · change f.reg.base + 0 * f.reg.stride ≠ 0x41000 + u * 16
    omega
  · change f.reg.base + 0 * f.reg.stride ≠ 0x40100 + b * 32 ∧ f.reg.base + 0 * f.reg.stride ≠ 0x40108 + b * 32
    omega

/-! ## Threads moved among lists, slots and cores (R89, R91) -/

/-- READY, in a slot, or HELD under an exhausted share: where a thread that becomes READY may stand when its command is done. -/
def Queued (t : Nat) (d : Dev) : Prop :=
  thrState t d = 3 ∨ thrState t d = 4 ∨ d.creel.exhausted = true ∧ isRole2 t d = true ∧ thrState t d = 6

/-- The thread is in no ready list and in no slot. -/
def Aside (t : Nat) (d : Dev) : Prop := t ∉ (d.creel.levels.map (·.2)).flatten ∧ ∀ b, (coreX b d).slot ≠ t + 1

theorem Aside.congr {t : Nat} {d e : Dev} (h : Aside t d) (he : e.creel = d.creel) : Aside t e := by
  unfold Aside coreX
  rw [he]
  exact h

theorem Queued.states {t : Nat} {d : Dev} (h : Queued t d) : thrState t d = 3 ∨ thrState t d = 4 ∨ thrState t d = 6 :=
  h.imp_right (Or.imp_right fun h => h.2.2)

/-- From `c` to `d` threads moved among ready lists, slots and cores: no core took a thread up, a queued thread is still queued, and a thread that is
none of `us` and stood aside still does, in its old state. -/
structure Requeued (us : List Nat) (c d : Dev) : Prop where
  clk : d.clk = c.clk
  img : d.img = c.img
  exhausted : d.creel.exhausted = c.creel.exhausted
  run : ∀ b, (coreX b d).run = (coreX b c).run ∨ (coreX b d).run = 0
  until_ : ∀ u, (d.creel.threads.get {} u).until_ = (c.creel.threads.get {} u).until_
  get : ∀ {f i}, OffQueues f i → get f i d = get f i c
  queued : ∀ t, Queued t c → Queued t d
  aside : ∀ t, t ∉ us → Aside t c → Aside t d ∧ thrState t d = thrState t c

namespace Requeued

variable {us : List Nat} {c d e : Dev}

theorem refl (d : Dev) : Requeued us d d := ⟨rfl, rfl, rfl, fun _ => .inl rfl, fun _ => rfl, fun _ => rfl, fun _ h => h, fun _ _ h => ⟨h, rfl⟩⟩

theorem trans (h : Requeued us c d) (g : Requeued us d e) : Requeued us c e where
  clk := g.clk.trans h.clk
  img := g.img.trans h.img
  exhausted := g.exhausted.trans h.exhausted
  run b := by
    have := h.run b
    have := g.run b
    omega
  until_ u := (g.until_ u).trans (h.until_ u)
  get hf := (g.get hf).trans (h.get hf)
  queued t ht := g.queued t (h.queued t ht)
  aside t hu ht :=
    have ⟨hd, hstate⟩ := h.aside t hu ht
    have ⟨he, hstate'⟩ := g.aside t hu hd
    ⟨he, hstate'.trans hstate⟩

/-- A thread in a list or a slot did not stand aside. -/
theorem drop {u : Nat} (h : Requeued [u] c d) (hu : ¬ Aside u c) : Requeued us c d :=
  { h with aside := fun t _ ht => h.aside t (by rintro ht'; exact hu (List.mem_singleton.1 ht' ▸ ht)) ht }

theorem idle {b : Nat} (h : Requeued us c d) (hb : (coreX b c).run = 0) : (coreX b d).run = 0 := by
  have := h.run b
  omega

protected theorem ite {p : Prop} {_ : Decidable p} (hd : Requeued us c d) (he : Requeued us c e) : Requeued us c (if p then d else e) := ite_keeps hd he

/-- The Creel's own notes changed. -/
theorem ofCreel {x : CreelX} (hex : x.exhausted = d.creel.exhausted)
    (hrun : ∀ b, (x.cores.get {} b).run = (coreX b d).run ∨ (x.cores.get {} b).run = 0)
    (huntil : ∀ u, (x.threads.get {} u).until_ = (d.creel.threads.get {} u).until_)
    (hlevels : ∀ t, t ∉ us → t ∈ (x.levels.map (·.2)).flatten → t ∈ (d.creel.levels.map (·.2)).flatten)
    (hslot : ∀ t, t ∉ us → ∀ b, (x.cores.get {} b).slot = t + 1 → ∃ b', (coreX b' d).slot = t + 1) :
    Requeued us d { d with creel := x } where
  clk := rfl
  img := rfl
  exhausted := hex
  run := hrun
  until_ := huntil
  get _ := rfl
  queued t ht := by
    unfold Queued
    rw [show ({ d with creel := x } : Dev).creel.exhausted = d.creel.exhausted from hex]
    exact ht
  aside t hu ht :=
    ⟨⟨fun hmem => ht.1 (hlevels t hu hmem), fun b hb => (hslot t hu b hb).elim fun b' hb' => ht.2 b' hb'⟩, rfl⟩

/-- A core's state or time shown. -/
theorem ofCorePut {f : Fld} {i v : Nat} (hi : i < 4) (hf : f.reg = CREEL_CORE_STATE ∨ f.reg = CREEL_CORE_BUSY) : Requeued us d (put f i v d) := by
  have hstate (t : Nat) : thrState t (put f i v d) = thrState t d := by
    refine get_put_other _ _ _ _ _ _ ?_
    change 0x41000 + t * 16 ≠ _
    rcases hf with hf | hf <;> rw [hf]
    · change _ ≠ 0x40100 + i * 32
      omega
    · change _ ≠ 0x40108 + i * 32
      omega
  refine ⟨put_clk .., put_img .., by rw [put_creel], fun b => .inl ?_, fun u => by rw [put_creel], fun hoff => get_put_other _ _ _ _ _ _ ?_, fun t ht => ?_,
    fun t _ ht => ⟨ht.congr (put_creel ..), hstate t⟩⟩
  · rw [coreX_congr (put_creel ..)]
  · rcases hf with hf | hf <;> rw [hf]
    · exact (hoff.2 i hi).1
    · exact (hoff.2 i hi).2
  · unfold Queued
    rw [hstate, put_creel, isRole2_congr (put_img ..)]
    exact ht

/-- A thread of `us` shown in a state that a queued thread has. -/
protected theorem setThr {u st : Nat} (hu : u ∈ us) (hst : st = 3 ∨ st = 4 ∨ d.creel.exhausted = true ∧ isRole2 u d = true ∧ st = 6) :
    Requeued us d (setThr u st d) := by
  have hother {t : Nat} (h : t ≠ u) : thrState t (setThr u st d) = thrState t d := get_put_apart (.threadStatus rfl rfl h)
  have hsame : thrState u (setThr u st d) = st := thrState_setThr (by omega)
  refine ⟨put_clk .., put_img .., by rw [setThr_creel], fun b => .inl ?_, fun u => by rw [setThr_creel], fun hoff => get_put_apart (hoff.1 u), fun t ht => ?_,
    fun t htu ht => ⟨ht.congr (setThr_creel ..), hother (by rintro rfl; exact htu hu)⟩⟩
  · rw [coreX_congr (setThr_creel ..)]
  · unfold Queued
    rw [setThr_creel, isRole2_congr (setThr_img ..)]
    by_cases h : t = u
    · rw [h, hsame]
      exact hst
    · rw [hother h]
      exact ht

protected theorem showCore {b : Nat} (hb : b < 4) : Requeued us d (showCore b d) := by
  unfold Machine.showCore
  extract_lets x
  exact ((((ofCorePut hb (.inl rfl)).trans (ofCorePut hb (.inl rfl))).trans (ofCorePut hb (.inl rfl))).trans (ofCorePut hb (.inl rfl))).trans
    (ofCorePut hb (.inl rfl)) |>.trans (ofCorePut hb (.inl rfl))

protected theorem thrMod {u : Nat} {f : ThreadX → ThreadX} (hf : ∀ y, (f y).until_ = y.until_) : Requeued us d (thrMod u f d) := by
  refine ofCreel rfl (fun _ => .inl rfl) (fun v => ?_) (fun _ _ h => h) fun _ _ b hb => ⟨b, hb⟩
  change ((d.creel.threads.put u _).get {} v).until_ = _
  by_cases h : v = u
  · rw [h, Tab.get_put_same, hf]
  · rw [Tab.get_put_other _ _ _ _ _ h]

protected theorem setLevel {l : Nat} {ts : List Nat} (hts : ∀ t ∈ ts, t ∈ us ∨ t ∈ levelList l d) : Requeued us d (setLevel l ts d) := by
  refine ofCreel rfl (fun _ => .inl rfl) (fun _ => rfl) (fun t hu ht => ?_) fun _ _ b hb => ⟨b, hb⟩
  rcases mem_lists_of_mem_set ht with ht | ht
  · exact mem_lists_of_mem_get ((hts t ht).resolve_left hu)
  · exact ht

protected theorem enlist {u : Nat} {head : Bool} (hu : u ∈ us) : Requeued us d (enlist u head d) := by
  unfold Machine.enlist
  extract_lets d1 l
  have h1 : Requeued us d d1 := .thrMod fun _ => rfl
  split
  next h =>
    rw [Bool.and_eq_true] at h
    exact h1.trans (.setThr hu (.inr (.inr ⟨h.1, h.2, rfl⟩)))
  · refine (h1.trans (.setLevel fun t ht => ?_)).trans (.setThr hu (.inl rfl))
    have ht' : t = u ∨ t ∈ l := by
      split at ht
      · exact List.mem_cons.1 ht
      · exact (List.mem_append.1 ht).symm.imp_left List.mem_singleton.1
    exact ht'.imp_left fun h : t = u => h ▸ hu

protected theorem unready {u : Nat} : Requeued us d (unready u d) := .setLevel fun _ ht => .inr (List.mem_of_mem_filter ht)

/-- A core's notes changed: the thread that it runs leaves it or stays, and its slot is emptied, stays, or takes a thread of `us`. -/
protected theorem coreMod {b : Nat} {f : CoreX → CoreX} (hrun : (f (coreX b d)).run = (coreX b d).run ∨ (f (coreX b d)).run = 0)
    (hslot : ∀ t, t ∉ us → (f (coreX b d)).slot = t + 1 → (coreX b d).slot = t + 1) : Requeued us d (coreMod b f d) := by
  have hcore (a : Nat) : (d.creel.cores.put b (f (coreX b d))).get {} a = if a = b then f (coreX b d) else coreX a d := coreX_coreMod a b f d
  refine ofCreel rfl (fun a => ?_) (fun _ => rfl) (fun _ _ h => h) fun t ht a ha => ?_
  · rw [hcore]
    split
    next h => exact h ▸ hrun
    next => exact .inl rfl
  · rw [hcore] at ha
    split at ha
    · exact ⟨b, hslot t ht ha⟩
    · exact ⟨a, ha⟩

protected theorem clearSlot {b : Nat} (hb : b < 4) : Requeued us d (clearSlot b d) :=
  (Requeued.coreMod (.inl rfl) fun _ _ h => absurd h.symm (Nat.succ_ne_zero _)).trans (.showCore hb)

/-- A thread of `us` put into a core's slot. -/
theorem fillSlot {b u : Nat} (hb : b < 4) (hu : u ∈ us) : Requeued us d (showCore b (coreMod b (fun x => { x with slot := u + 1 }) d)) := by
  refine (Requeued.coreMod (.inl rfl) fun t ht h => ?_).trans (.showCore hb)
  obtain rfl : u = t := Nat.succ.inj h
  exact absurd hu ht

protected theorem loadSlot {b u : Nat} (hb : b < 4) (hu : u ∈ us) : Requeued us d (loadSlot b u d) := by
  unfold Machine.loadSlot
  extract_lets old d1 d2
  have h1 : Requeued us d d1 := Requeued.unready.trans (.setThr hu (.inr (.inl rfl)))
  have hslot : (coreX b d1).slot = old := by rw [coreX_congr (setThr_creel ..)]; rfl
  have h2 : Requeued us d1 d2 := by
    by_cases hold : old = 0
    · rw [show d2 = d1 from if_pos hold]
      exact .refl d1
    · rw [show d2 = enlist (old - 1) true d1 from if_neg hold]
      exact (Requeued.enlist (List.mem_singleton.2 rfl)).drop fun h => h.2 b (by omega)
  exact (h1.trans h2).trans (.fillSlot hb hu)

end Requeued

/-! ## A thread taken off its core -/

/-- The core time of session threads in the window set. -/
def withShare (n : Nat) (d : Dev) : Dev := { d with creel := { d.creel with share := n } }

/-- The thread's notes, the share, the core's notes and its registers: what a thread that leaves its core changes. -/
theorem switchOut_of_running {c t : Nat} {d : Dev} (hrun : (coreX c d).run = t + 1) :
    ∃ share n ns f, switchOut c d = showCore c (thrMod t f (withShare share (put CREEL_CORE_BUSY_NS c ns
        (coreMod c (fun x => { x with run := 0, busy := x.busy + n }) d)))) ∧
      (∀ y, (f y).until_ = y.until_) ∧ (t ≠ 2 → ∀ y, (f y).used = y.used + (edge d - ((d.creel.threads.get {} t).runs - 1))) := by
  generalize he : switchOut c d = e
  unfold switchOut at he
  extract_lets x t' y n first d1 d2 notes d3 at he
  have hshare : ∃ share, d3 = withShare share d2 := by
    unfold d3
    split
    · exact ⟨_, rfl⟩
    · exact ⟨d2.creel.share, rfl⟩
  obtain ⟨share, hshare⟩ := hshare
  have hx : x.run ≠ 0 := hrun ▸ Nat.succ_ne_zero t
  have ht : t' = t := congrArg Nat.pred hrun
  rw [if_neg hx, hshare] at he
  clear_value d3
  refine ⟨share, n, nsOf (x.busy + n), fun y => { y with used := if first then y.used + n else y.used }, ?_, fun _ => rfl, fun hne y => ?_⟩
  · rw [← he, ← ht]
  · have hfirst : first := .inl (ht ▸ hne)
    change (if first then _ else _) = _
    rw [if_pos hfirst, ← ht]

theorem switchOut_of_idle {c : Nat} {d : Dev} (h : (coreX c d).run = 0) : switchOut c d = d := if_pos h

/-! ## Slots refilled, and threads placed (R91) -/

/-- A round of refilling loads a thread of a ready list into the slot of a core that it is eligible for, or ends. -/
theorem refill_succ (n : Nat) (d : Dev) :
    refill (n + 1) d = d ∨ ∃ b u, b < 4 ∧ u ∈ (d.creel.levels.map (·.2)).flatten ∧ refill (n + 1) d = refill n (loadSlot b u d) := by
  rw [refill]
  split
  next b u h =>
    obtain ⟨v, hv, htry⟩ := List.exists_of_findSome?_eq_some h
    obtain ⟨b', hbest, heq⟩ := Option.map_eq_some_iff.1 htry
    obtain ⟨rfl, rfl⟩ := Prod.mk.inj heq
    exact .inr ⟨_, _, lt_of_mem_eligible (List.mem_of_mem_filter (bestCore_mem hbest)), hv, rfl⟩
  next => exact .inl rfl

namespace Requeued

variable {us : List Nat} {d : Dev}

protected theorem refill {n : Nat} : Requeued us d (refill n d) := by
  induction n generalizing d with
  | zero => exact .refl d
  | succ n ih =>
    rcases refill_succ n d with h | ⟨b, u, hb, hu, h⟩
    · rw [h]
      exact .refl d
    · rw [h]
      exact ((Requeued.loadSlot hb (List.mem_singleton.2 rfl)).drop fun ha => ha.1 hu).trans ih

protected theorem placeThread {u : Nat} (hu : u ∈ us) : Requeued us d (placeThread u d) := by
  unfold Machine.placeThread
  extract_lets lvl d1
  have h1 : Requeued us d d1 := by
    unfold d1
    split
    next hbest => exact .ite (.loadSlot (lt_of_mem_eligible (bestCore_mem hbest)) hu) (.refl d)
    next => exact .refl d
  exact h1.trans .refill

protected theorem drawSlot {b : Nat} (hb : b < 4) : Requeued us d (drawSlot b d) := by
  unfold Machine.drawSlot
  extract_lets others
  refine .ite (.refl d) ?_
  split
  · exact .refl d
  next a hbest =>
    have ha : a < 4 := lt_of_mem_coresOn (List.mem_of_mem_filter (bestCore_mem hbest))
    have hfull : (coreX a d).slot ≠ 0 := by
      have hmem := List.of_mem_filter (bestCore_mem hbest)
      simp only [Bool.and_eq_true, bne_iff_ne] at hmem
      exact hmem.1.2
    extract_lets u d1
    have h1 : Requeued [u] d d1 := .clearSlot ha
    exact (h1.trans (.fillSlot hb (List.mem_singleton.2 rfl))).drop fun h => h.2 a (Nat.succ_pred_eq_of_ne_zero hfull).symm

protected theorem forCores {f : Nat → Dev → Dev} {l : List Nat} (hf : ∀ b, b ∈ l → ∀ e, Requeued us e (f b e)) : Requeued us d (forL l f d) :=
  forL_keeps_mem (P := Requeued us d) (fun b hb e h => h.trans (hf b hb e)) (.refl d)

protected theorem settleCores : Requeued us d (settleCores d) :=
  (Requeued.forCores fun _ hb e => .ite (.drawSlot (lt_of_mem_coresOn hb)) (.refl e)).trans .refill

protected theorem thrReady {u : Nat} (hu : u ∈ us) : Requeued us d (thrReady u d) := by
  have h : Requeued us d (enlist u false d) := .enlist hu
  exact .ite (h.trans (.placeThread hu)) h

protected theorem switchOut {b : Nat} (hb : b < 4) : Requeued us d (switchOut b d) := by
  by_cases hidle : (coreX b d).run = 0
  · rw [switchOut_of_idle hidle]
    exact .refl d
  · obtain ⟨share, n, ns, f, heq, hf, -⟩ := switchOut_of_running (Nat.succ_pred_eq_of_ne_zero hidle).symm
    have hshare (e : Dev) : Requeued us e (withShare share e) :=
      .ofCreel rfl (fun _ => .inl rfl) (fun _ => rfl) (fun _ _ h => h) fun _ _ b h => ⟨b, h⟩
    rw [heq]
    exact (Requeued.coreMod (.inr rfl) fun _ _ h => h).trans (.ofCorePut hb (.inr rfl)) |>.trans (hshare _) |>.trans (.thrMod hf) |>.trans (.showCore hb)

protected theorem leaveCores {t : Nat} : Requeued us d (leaveCores t d) :=
  .forCores fun _ hb e => .ite (.switchOut (lt_of_mem_coresOn hb)) (.refl e)

protected theorem preempt {b p : Nat} (hb : b < 4) (hrun : ∀ u, (coreX b d).run = u + 1 → u = p) : Requeued [p] d (preempt b d) := by
  unfold Machine.preempt
  extract_lets t
  by_cases h : t = 0
  · rw [if_pos h]
    exact .refl d
  · rw [if_neg h]
    exact (Requeued.switchOut hb).trans (.enlist (List.mem_singleton.2 (hrun _ (Nat.succ_pred_eq_of_ne_zero h).symm)))

end Requeued

/-- A thread that becomes READY is queued. -/
theorem queued_enlist (u : Nat) (head : Bool) (d : Dev) : Queued u (enlist u head d) := by
  unfold enlist
  extract_lets d1 l
  split
  next h =>
    rw [Bool.and_eq_true] at h
    refine .inr (.inr ⟨?_, (isRole2_congr (setThr_img ..) u).trans h.2, thrState_setThr (by decide)⟩)
    rw [setThr_creel]
    exact h.1
  · exact .inl (thrState_setThr (by decide))

theorem queued_thrReady (u : Nat) (d : Dev) : Queued u (thrReady u d) :=
  ite_keeps ((Requeued.placeThread (us := [u]) (List.mem_singleton.2 rfl)).queued u (queued_enlist ..)) (queued_enlist ..)

/-! ## Cores that threads leave -/

theorem coreX_showCore (a b : Nat) (d : Dev) : coreX a (showCore b d) = coreX a d := coreX_congr (showCore_creel ..) a

theorem run_switchOut (c : Nat) (d : Dev) : (coreX c (switchOut c d)).run = 0 := by
  by_cases hidle : (coreX c d).run = 0
  · rw [switchOut_of_idle hidle]
    exact hidle
  · obtain ⟨share, n, ns, f, heq, -⟩ := switchOut_of_running (Nat.succ_pred_eq_of_ne_zero hidle).symm
    have hput (e : Dev) : coreX c (thrMod (coreX c d).run.pred f (withShare share (put CREEL_CORE_BUSY_NS c ns e))) = coreX c e :=
      coreX_congr (put_creel ..) c
    rw [heq, coreX_showCore, hput, coreX_coreMod, if_pos rfl]

/-- What a thread that leaves every core does on one of them. -/
def leaveCore (t b : Nat) (d : Dev) : Dev := if (coreX b d).run = t + 1 then switchOut b d else d

theorem leaveCores_eq_forL (t : Nat) (d : Dev) : leaveCores t d = forL (coresOn d) (leaveCore t) d := rfl

theorem Requeued.leaveCore {us : List Nat} {t b : Nat} {d : Dev} (hb : b < 4) : Requeued us d (leaveCore t b d) := .ite (.switchOut hb) (.refl d)

theorem run_leaveCore {c t : Nat} {d : Dev} (h : (coreX c d).run = t + 1 ∨ (coreX c d).run = 0) : (coreX c (leaveCore t c d)).run = 0 := by
  unfold leaveCore
  split
  · exact run_switchOut c d
  next hne => exact h.resolve_left hne

theorem run_forL_leaveCore {c t : Nat} {l : List Nat} (hl : ∀ b ∈ l, b < 4) (hc : c ∈ l) {d : Dev}
    (h : (coreX c d).run = t + 1 ∨ (coreX c d).run = 0) : (coreX c (forL l (leaveCore t) d)).run = 0 := by
  induction l generalizing d with
  | nil => cases hc
  | cons b l ih =>
    change (coreX c (forL l (leaveCore t) (leaveCore t b d))).run = 0
    have hl' : ∀ a ∈ l, a < 4 := fun a ha => hl a (List.mem_cons_of_mem _ ha)
    by_cases hbc : c = b
    · have hrest : Requeued [] (leaveCore t b d) (forL l (leaveCore t) (leaveCore t b d)) := .forCores fun a ha _ => .leaveCore (hl' a ha)
      exact hrest.idle (hbc ▸ run_leaveCore h)
    · have hstep := (Requeued.leaveCore (us := []) (t := t) (d := d) (hl b List.mem_cons_self)).run c
      exact ih hl' ((List.mem_cons.1 hc).resolve_left hbc) (by omega)

/-- Every core in service that runs the thread is idle once it has left. -/
theorem run_leaveCores {c t : Nat} {d : Dev} (hc : c ∈ coresOn d) (hrun : (coreX c d).run = t + 1) : (coreX c (leaveCores t d)).run = 0 := by
  rw [leaveCores_eq_forL]
  exact run_forL_leaveCore (fun _ => lt_of_mem_coresOn) hc (.inl hrun)

theorem forL_leaveCore_of_absent {t : Nat} {l : List Nat} {d : Dev} (h : ∀ b, (coreX b d).run ≠ t + 1) : forL l (leaveCore t) d = d :=
  forL_keeps (P := (· = d)) (fun b e he => by rw [he, leaveCore, if_neg (h b)]) rfl

theorem forL_leaveCore_of_alone {c t : Nat} {l : List Nat} {d : Dev} (hc4 : c < 4) (hc : c ∈ l) (hrun : (coreX c d).run = t + 1)
    (hother : ∀ b, b ≠ c → (coreX b d).run ≠ t + 1) : forL l (leaveCore t) d = switchOut c d := by
  induction l with
  | nil => cases hc
  | cons b l ih =>
    change forL l (leaveCore t) (leaveCore t b d) = _
    by_cases hb : b = c
    · have habsent (a : Nat) : (coreX a (switchOut c d)).run ≠ t + 1 := by
        by_cases ha : a = c
        · rw [ha, run_switchOut]
          exact (Nat.succ_ne_zero t).symm
        · have hstep := (Requeued.switchOut (us := []) (d := d) hc4).run a
          have hne := hother a ha
          omega
      rw [hb, leaveCore, if_pos hrun]
      exact forL_leaveCore_of_absent habsent
    · rw [leaveCore, if_neg (hother b hb)]
      exact ih ((List.mem_cons.1 hc).resolve_left (Ne.symm hb))

/-- A thread that runs on one core only leaves that one. -/
theorem leaveCores_eq_switchOut {c t : Nat} {d : Dev} (hc : c ∈ coresOn d) (hrun : (coreX c d).run = t + 1) (hother : ∀ b, b ≠ c → (coreX b d).run ≠ t + 1) :
    leaveCores t d = switchOut c d := by
  rw [leaveCores_eq_forL]
  exact forL_leaveCore_of_alone (lt_of_mem_coresOn hc) hc hrun hother

/-- A thread other than T2 that leaves a core has the time on it added to its activation. -/
theorem used_switchOut {c t : Nat} {d : Dev} (hrun : (coreX c d).run = t + 1) (ht : t ≠ 2) :
    ((switchOut c d).creel.threads.get {} t).used =
      (d.creel.threads.get {} t).used + (edge d - ((d.creel.threads.get {} t).runs - 1)) := by
  obtain ⟨share, n, ns, f, heq, -, hused⟩ := switchOut_of_running hrun
  have hthreads : (withShare share (put CREEL_CORE_BUSY_NS c ns (coreMod c (fun x => { x with run := 0, busy := x.busy + n }) d))).creel.threads =
      d.creel.threads := by
    rw [withShare]
    dsimp only
    rw [put_creel]
    rfl
  rw [heq, showCore_creel]
  change (Tab.get {} (Tab.put t (f (Tab.get {} _ t)) _) t).used = _
  rw [Tab.get_put_same, hused ht, hthreads]

/-! ## A core that switches to a thread (R91, R93) -/

theorem get_maxUp_apart {g f : Fld} {j i v : Nat} {d : Dev} (h : Apart g j f i) : get g j (maxUp f i v d) = get g j d :=
  ite_keeps (P := fun e => get g j e = get g j d) (get_put_apart h) rfl

theorem get_showCore {f : Fld} {i c : Nat} {d : Dev} (h : f.reg.addr i ≠ CREEL_CORE_STATE.addr c) : get f i (showCore c d) = get f i d := by
  unfold showCore putB
  iterate 6 rw [get_put_other _ _ _ _ _ _ (by exact h)]

theorem threadStatus_ne_coreState {t c : Nat} (hc : c < 4) : CREEL_THREAD_STATUS.addr t ≠ CREEL_CORE_STATE.addr c := by
  change 0x41000 + t * 16 ≠ 0x40100 + c * 32
  omega

section

variable {c t : Nat} {d : Dev}

/-- A field of THREAD_STATUS after a switch: the core's registers are others. -/
theorem get_switchIn {f : Fld} {u : Nat} (hc : c < 4) (hf : f.reg = CREEL_THREAD_STATUS) :
    get f u (switchIn c t d) = get f u (put CREEL_THREAD_STATUS_CORE t c (setThr t 5 d)) := by
  have hlat {g : Fld} (hg : g.reg = CREEL_CORE_LAT) : Apart f u g c := by
    refine .inl ?_
    rw [hf, hg]
    change 0x41000 + u * 16 ≠ 0x40110 + c * 32
    omega
  have hshow : f.reg.addr u ≠ CREEL_CORE_STATE.addr c := hf ▸ threadStatus_ne_coreState hc
  unfold switchIn
  rw [get_showCore hshow, get_maxUp_apart (hlat rfl), bump, get_put_apart (hlat rfl)]
  exact get_congr _ _ _ _ fun z => rfl

theorem thrState_switchIn (hc : c < 4) : thrState t (switchIn c t d) = 5 := by
  unfold thrState
  rw [get_switchIn hc rfl, get_put_apart (.bits (by decide)), setThr, get_put_same _ _ _ _ (by decide)]
  rfl

theorem thrState_switchIn_other {u : Nat} (hc : c < 4) (h : u ≠ t) : thrState u (switchIn c t d) = thrState u d := by
  unfold thrState
  rw [get_switchIn hc rfl, get_put_apart (.threadStatus rfl rfl h), setThr, get_put_apart (.threadStatus rfl rfl h)]

theorem core_switchIn (hc : c < 4) : get CREEL_THREAD_STATUS_CORE t (switchIn c t d) = c := by
  rw [get_switchIn hc rfl, get_put_same _ _ _ _ (by decide)]
  exact Nat.mod_eq_of_lt hc

theorem switches_switchIn (hc : c < 4) :
    get CREEL_CORE_LAT_SWITCHES c (switchIn c t d) = (get CREEL_CORE_LAT_SWITCHES c d + 1) % 65536 := by
  have hstatus {g : Fld} (hg : g.reg = CREEL_THREAD_STATUS) : Apart CREEL_CORE_LAT_SWITCHES c g t := by
    refine .inl ?_
    rw [hg]
    change 0x40110 + c * 32 ≠ 0x41000 + t * 16
    omega
  unfold switchIn
  rw [get_showCore ((OffQueues.coreLat hc rfl).2 c hc).1, get_maxUp_apart (.bits (by decide)), bump, get_put_mod (by decide) (rfl : 2 ^ _ = 65536),
    get_put_apart (hstatus rfl), setThr, get_put_apart (hstatus rfl)]
  rfl

theorem creel_switchIn : ∃ th, (switchIn c t d).creel = { d.creel with threads := th, cores := d.creel.cores.put c { coreX c d with run := t + 1 } } := by
  refine ⟨(switchIn c t d).creel.threads, ?_⟩
  unfold switchIn
  simp only [showCore_creel, maxUp_creel, bump_creel, put_creel, setThr_creel]
  rfl

theorem switchIn_img : (switchIn c t d).img = d.img := (ImgsKept.refl d).switchIn.1

theorem exhausted_switchIn : (switchIn c t d).creel.exhausted = d.creel.exhausted := by
  obtain ⟨th, h⟩ := creel_switchIn (c := c) (t := t) (d := d)
  rw [h]

theorem coreX_switchIn (b : Nat) : coreX b (switchIn c t d) = if b = c then { coreX c d with run := t + 1 } else coreX b d := by
  obtain ⟨th, h⟩ := creel_switchIn (c := c) (t := t) (d := d)
  unfold coreX
  rw [h]
  exact coreX_coreMod b c (fun x => { x with run := t + 1 }) d

theorem Aside.switchIn (h : Aside t d) : Aside t (switchIn c t d) := by
  obtain ⟨hlevels, hslot⟩ := h
  obtain ⟨th, hcreel⟩ := creel_switchIn (c := c) (t := t) (d := d)
  refine ⟨?_, fun b => ?_⟩
  · rw [hcreel]
    exact hlevels
  · rw [coreX_switchIn]
    split
    · exact hslot c
    · exact hslot b

theorem Queued.switchIn {u : Nat} (hc : c < 4) (hu : u ≠ t) (h : Queued u d) : Queued u (switchIn c t d) := by
  unfold Queued
  rw [thrState_switchIn_other hc hu, isRole2_congr switchIn_img, exhausted_switchIn]
  exact h

end

theorem queued_preempt {c p : Nat} {d : Dev} (h : (coreX c d).run = p + 1) : Queued p (preempt c d) := by
  unfold preempt
  rw [h]
  exact queued_enlist ..

/-! The thread that a core runs stays through loads of slots. -/

theorem cores_enlist (u : Nat) (head : Bool) (d : Dev) : (enlist u head d).creel.cores = d.creel.cores := by
  unfold enlist
  extract_lets d1 l
  split
  · rw [setThr_creel]
    rfl
  · rw [setThr_creel]
    rfl

theorem run_loadSlot (a b u : Nat) (d : Dev) : (coreX a (loadSlot b u d)).run = (coreX a d).run := by
  unfold loadSlot
  extract_lets old d1 d2
  have h1 : d1.creel.cores = d.creel.cores := by
    unfold d1
    rw [setThr_creel]
    rfl
  have h2 : d2.creel.cores = d.creel.cores := by
    unfold d2
    split
    · exact h1
    · exact (cores_enlist ..).trans h1
  have hcore (b : Nat) : coreX b d2 = coreX b d := by
    unfold coreX
    rw [h2]
  rw [coreX_showCore, coreX_coreMod]
  split
  next h => rw [hcore, h]
  next => rw [hcore]

theorem run_refill (a n : Nat) (d : Dev) : (coreX a (refill n d)).run = (coreX a d).run := by
  induction n generalizing d with
  | zero => rfl
  | succ n ih =>
    rcases refill_succ n d with h | ⟨b, u, -, -, h⟩
    · rw [h]
    · rw [h, ih, run_loadSlot]

/-- The level of a thread does not move with time (R91, R93). -/
theorem thrLevel_advance (t n : Nat) (d : Dev) : thrLevel t (advance n d) = thrLevel t d := by
  have hlock : ∀ fuel u, lockLevel fuel u (advance n d) = lockLevel fuel u d := by
    intro fuel
    induction fuel with
    | zero => exact fun _ => rfl
    | succ fuel ih =>
      intro u
      simp only [lockLevel, ih, advance_creel, get_advance]
  exact hlock 64 t

theorem slotLevel_advance (c n : Nat) (d : Dev) : slotLevel c (advance n d) = slotLevel c d := by
  unfold slotLevel
  rw [thrLevel_advance]
  rfl

theorem runLevel_advance (c n : Nat) (d : Dev) : runLevel c (advance n d) = runLevel c d := by
  unfold runLevel
  rw [thrLevel_advance]
  rfl

/-- THREAD_DISPATCH of a thread other than T2 in a unit in RUN. -/
theorem threadDispatchAt_eq {c t : Nat} {d : Dev} (hrun : d.unit.phase = .run) (hslot : (coreX c d).slot = t + 1) (ht : t ≠ 2)
    (hless : slotLevel c d < runLevel c d) : threadDispatchAt c d = refill 16 (switchIn c t (preempt c (clearSlot c d))) := by
  have hin : inRun d = true := beq_iff_eq.2 hrun
  unfold threadDispatchAt
  extract_lets x u d1 d2
  have hx : x.slot = t + 1 := hslot
  have hu : u = t := congrArg Nat.pred hslot
  rw [if_neg (by simp [hx, hin, hless])]
  unfold d2
  rw [if_neg (hu ▸ ht), hu]

/-- What a dispatch shows (R89, R91, R93). -/
theorem threadDispatchAt_shows {c t : Nat} {d : Dev} (hc : c < 4) (ht : t ≠ 2) (hphase : d.unit.phase = .run) (hslot : (coreX c d).slot = t + 1)
    (hrun : (coreX c d).run ≠ t + 1) (hless : slotLevel c d < runLevel c d) (hslots : ∀ b, b ≠ c → (coreX b d).slot ≠ t + 1)
    (hlevels : t ∉ (d.creel.levels.map (·.2)).flatten) :
    thrState t (threadDispatchAt c d) = 5 ∧ get CREEL_THREAD_STATUS_CORE t (threadDispatchAt c d) = c ∧ (coreX c (threadDispatchAt c d)).run = t + 1 ∧
      get CREEL_CORE_LAT_SWITCHES c (threadDispatchAt c d) = (get CREEL_CORE_LAT_SWITCHES c d + 1) % 65536 ∧
      ∀ p, (coreX c d).run = p + 1 → thrState p (threadDispatchAt c d) = 3 ∨ thrState p (threadDispatchAt c d) = 4 ∨
        d.creel.exhausted = true ∧ isRole2 p d = true ∧ thrState p (threadDispatchAt c d) = 6 := by
  have hclear : Requeued [] d (clearSlot c d) := .clearSlot hc
  have hcore (b : Nat) : coreX b (clearSlot c d) = if b = c then { coreX c d with slot := 0 } else coreX b d :=
    (coreX_showCore ..).trans (coreX_coreMod ..)
  have haside : Aside t (clearSlot c d) := by
    refine ⟨?_, fun b => ?_⟩
    · rw [clearSlot, showCore_creel]
      exact hlevels
    · rw [hcore]
      split
      · exact (Nat.succ_ne_zero t).symm
      next h => exact hslots b h
  have hrunc : (coreX c (clearSlot c d)).run = (coreX c d).run := by rw [hcore, if_pos rfl]
  have hold : ∃ p, t ∉ [p] ∧ ∀ u, (coreX c (clearSlot c d)).run = u + 1 → u = p := by
    rw [hrunc]
    rcases h : (coreX c d).run with _ | p
    · exact ⟨t + 1, by simp, fun _ hu => absurd hu.symm (Nat.succ_ne_zero _)⟩
    · refine ⟨p, ?_, fun u hu => (Nat.succ.inj hu).symm⟩
      rw [List.mem_singleton]
      omega
  obtain ⟨p, htp, hp⟩ := hold
  have hpre : Requeued [p] (clearSlot c d) (preempt c (clearSlot c d)) := .preempt hc hp
  have hfill : Requeued [] (switchIn c t (preempt c (clearSlot c d))) (threadDispatchAt c d) := by
    rw [threadDispatchAt_eq hphase hslot ht hless]
    exact .refill
  have hswitches := OffQueues.coreLat (f := CREEL_CORE_LAT_SWITCHES) hc rfl
  refine ⟨?_, ?_, ?_, ?_, fun q hq => ?_⟩
  · rw [(hfill.aside t List.not_mem_nil (hpre.aside t htp haside).1.switchIn).2, thrState_switchIn hc]
  · rw [hfill.get (.threadStatus t rfl (by decide)), core_switchIn hc]
  · rw [threadDispatchAt_eq hphase hslot ht hless, run_refill, coreX_switchIn, if_pos rfl]
  · rw [hfill.get hswitches, switches_switchIn hc, hpre.get hswitches, hclear.get hswitches]
  · have hqt : q ≠ t := by omega
    have hqueued := hfill.queued q ((queued_preempt (hrunc.trans hq)).switchIn hc hqt)
    have hex := hfill.exhausted.trans (exhausted_switchIn.trans (hpre.exhausted.trans hclear.exhausted))
    have himg := hfill.img.trans (switchIn_img.trans (hpre.img.trans hclear.img))
    unfold Queued at hqueued
    rw [hex, isRole2_congr himg] at hqueued
    exact hqueued

/-! ## A thread whose SLICE has run (R89) -/

theorem sliceExpiryAt_eq {c t : Nat} {d : Dev} (hrun : (coreX c d).run = t + 1) (hslice : thrField P0402_SLICE 0 t d ≠ 0)
    (hdue : 400 * thrField P0402_SLICE 0 t d ≤ edge d - ((d.creel.threads.get {} t).runs - 1)) :
    sliceExpiryAt c d = settleCores (enlist t false (leaveCores t d)) := by
  unfold sliceExpiryAt
  extract_lets x u sl
  have hx : x.run ≠ 0 := hrun ▸ Nat.succ_ne_zero t
  have hu : u = t := congrArg Nat.pred hrun
  have hgo : ¬ (sl = 0 ∨ edge d - ((d.creel.threads.get {} u).runs - 1) < 400 * sl) := by
    unfold sl
    rw [hu]
    omega
  rw [if_neg hx, if_neg hgo, hu]

theorem sliceExpiryAt_shows {c t : Nat} {d : Dev} (hc : c ∈ coresOn d) (hrun : (coreX c d).run = t + 1) (hslice : thrField P0402_SLICE 0 t d ≠ 0)
    (hdue : 400 * thrField P0402_SLICE 0 t d ≤ edge d - ((d.creel.threads.get {} t).runs - 1)) :
    (thrState t (sliceExpiryAt c d) = 3 ∨ thrState t (sliceExpiryAt c d) = 4 ∨
      d.creel.exhausted = true ∧ isRole2 t d = true ∧ thrState t (sliceExpiryAt c d) = 6) ∧ (coreX c (sliceExpiryAt c d)).run = 0 := by
  have hleave : Requeued [t] d (leaveCores t d) := .leaveCores
  have hback : Requeued [t] (leaveCores t d) (enlist t false (leaveCores t d)) := .enlist (List.mem_singleton.2 rfl)
  have hsettle : Requeued [t] (enlist t false (leaveCores t d)) (sliceExpiryAt c d) := by
    rw [sliceExpiryAt_eq hrun hslice hdue]
    exact .settleCores
  have hall := hleave.trans (hback.trans hsettle)
  have hqueued := hsettle.queued t (queued_enlist ..)
  unfold Queued at hqueued
  rw [hall.exhausted, isRole2_congr hall.img] at hqueued
  exact ⟨hqueued, (hback.trans hsettle).idle (run_leaveCores hc hrun)⟩

/-! ## Fields of a thread through the end of an activation -/

/-- The time noted is THREAD_TIME alone. -/
theorem get_noteTime {f : Fld} {i t : Nat} {d : Dev} (h : f.reg.addr i ≠ CREEL_THREAD_TIME.addr t) : get f i (noteTime t d) = get f i d := by
  unfold noteTime
  exact (get_maxUp_apart (.inl h)).trans (get_put_other _ _ _ _ _ _ h)

@[simp] theorem noteTime_creel (t : Nat) (d : Dev) : (noteTime t d).creel = d.creel := by simp [noteTime]

theorem get_setThr {f : Fld} {i t st : Nat} {d : Dev} (h : OffQueues f i) : get f i (setThr t st d) = get f i d := get_put_apart (h.1 t)

theorem threadReg_addr_ne {r : Reg} {i t : Nat} (h : r.stride = 16 ∧ r.base < 0x41008 ∧ 0x41000 ≤ r.base) :
    r.addr i ≠ CREEL_THREAD_TIME.addr t := by
  obtain ⟨hstride, hhigh, hlow⟩ := h
  change r.base + i * r.stride ≠ 0x41008 + t * 16
  rw [hstride]
  omega

/-! ## MAX_RUN (R96) -/

theorem overrunning_run {c t : Nat} {d : Dev} (h : overrunning c d = some t) : (coreX c d).run = t + 1 := by
  unfold overrunning at h
  split at h
  · cases h
  next u hu =>
    split at h
    · rw [hu, Option.some.inj h]
    · cases h

theorem raiseAddrs_off_threads : ∀ a ∈ raiseAddrs, a < 0x41000 ∨ 0x42000 ≤ a := by decide

theorem threadStatus_not_raised {t : Nat} (ht : t < 256) : CREEL_THREAD_STATUS.addr t ∉ raiseAddrs := by
  intro hm
  have hoff := raiseAddrs_off_threads _ hm
  change 0x41000 + t * 16 < 0x41000 ∨ 0x42000 ≤ 0x41000 + t * 16 at hoff
  omega

/-- The end of a session leaves the Creel alone. -/
theorem overrunSession_creel (t : Nat) (d : Dev) : (overrunSession t d).creel = d.creel := by
  unfold overrunSession
  split
  · rfl
  · extract_lets x h
    simp [endSession, svcSend]

theorem get_overrunSession {f : Fld} {i t : Nat} {d : Dev} (h : f.reg.addr i < 0x42000) : get f i (overrunSession t d) = get f i d := by
  unfold overrunSession
  split
  · rfl
  next k hk =>
    extract_lets x hdr
    have hsession : f.reg.addr i ≠ ETH_SVC_SESSION.addr k := by
      change _ ≠ 0xc0400 + k * 16
      omega
    have hhost : f.reg.addr i ≠ ETH_SVC_HOST.addr k := by
      change _ ≠ 0xc0404 + k * 16
      omega
    have hstatus : f.reg.addr i ≠ ETH_SVC_STATUS.addr 0 := by
      change _ ≠ 0xc0018
      omega
    unfold endSession
    rw [get_put_other _ _ _ _ _ _ hstatus]
    refine get_congr _ _ _ _ fun z => ?_
    rw [live_wr_other _ _ _ _ _ _ hhost, live_wr_other _ _ _ _ _ _ hsession]
    rfl

/-- An activation that is abandoned writes, besides queues and cores, THREAD_TIME alone. -/
theorem get_abandon {f : Fld} {i t : Nat} {d : Dev} (hoff : OffQueues f i) (h : f.reg.addr i ≠ CREEL_THREAD_TIME.addr t) :
    get f i (abandon t d) = get f i d := by
  have hleave : Requeued [] d (leaveCores t d) := .leaveCores
  have hsettle {e : Dev} : Requeued [] e (settleCores e) := .settleCores
  unfold abandon
  rw [hsettle.get hoff, get_setThr hoff]
  exact (get_noteTime h).trans (hleave.get hoff)

theorem run_abandon {c t : Nat} {d : Dev} (hc : c ∈ coresOn d) (hrun : (coreX c d).run = t + 1) : (coreX c (abandon t d)).run = 0 := by
  have hsettle {e : Dev} : Requeued [] e (settleCores e) := .settleCores
  refine hsettle.idle ?_
  rw [coreX_congr (setThr_creel ..)]
  exact (congrArg CoreX.run (coreX_congr (noteTime_creel ..) c)).trans (run_leaveCores hc hrun)

/-- The abandoned activation shows OVERRUN, and the thread is off its core. -/
theorem maxRunExpiryAt_shows {c t : Nat} {d : Dev} (ht : t < 256) (hc : c ∈ coresOn d) (hphase : d.unit.phase = .run)
    (hover : overrunning c d = some t) :
    get CREEL_THREAD_STATUS_OVERRUN t (maxRunExpiryAt c d) = 1 ∧ (coreX c (maxRunExpiryAt c d)).run = 0 := by
  have hin : inRun d = true := beq_iff_eq.2 hphase
  have hc' : c ∈ coresOn (put CREEL_THREAD_STATUS_OVERRUN t 1 d) := by
    unfold coresOn
    rw [get_put_other]
    · exact hc
    · change 0x40000 + 0 * 0 ≠ 0x41000 + t * 16
      omega
  have hrun : (coreX c (put CREEL_THREAD_STATUS_OVERRUN t 1 d)).run = t + 1 := by
    rw [coreX_congr (put_creel ..)]
    exact overrunning_run hover
  have hget : get CREEL_THREAD_STATUS_OVERRUN t (abandon t (put CREEL_THREAD_STATUS_OVERRUN t 1 d)) = 1 :=
    (get_abandon (.threadStatus t rfl (by decide)) (threadReg_addr_ne (by decide))).trans (get_put_one _ _ _ (by decide) (by decide))
  have hidle := run_abandon hc' hrun
  unfold maxRunExpiryAt
  rw [hover]
  dsimp only
  rw [if_neg (by simp [hin])]
  generalize abandon t (put CREEL_THREAD_STATUS_OVERRUN t 1 d) = e at hget hidle
  have hraise (code : Nat) : get CREEL_THREAD_STATUS_OVERRUN t (raise code t e) = 1 ∧ (coreX c (raise code t e)).run = 0 :=
    ⟨(get_raise _ _ _ _ _ _ _ (threadStatus_not_raised ht)).trans hget, by rw [coreX_congr (raise_creel ..), hidle]⟩
  have hsession : get CREEL_THREAD_STATUS_OVERRUN t (overrunSession t e) = 1 ∧ (coreX c (overrunSession t e)).run = 0 := by
    refine ⟨(get_overrunSession ?_).trans hget, by rw [coreX_congr (overrunSession_creel ..), hidle]⟩
    change 0x41000 + t * 16 < 0x42000
    omega
  split
  · exact hraise _
  · split
    · exact hraise _
    · exact hsession

/-! ## The end of an activation (R88, R89, R95) -/

/-- The notes of an activation that commits: its core time and its count. -/
def activationNoted (t : Nat) (d : Dev) : Dev :=
  bump CREEL_THREAD_COUNT_ACTIVATIONS t (thrMod t (fun y => { y with used := 0, began := 0 }) (noteTime t d))

/-- THREAD_WAIT_COMMIT without effects, of a thread other than T2 that runs on this core alone and has not run past its limit. -/
theorem waitCommitAt_eq {c t : Nat} {w : Wait} {d : Dev} (hc : c ∈ coresOn d) (ht : t ≠ 2) (hphase : d.unit.phase = .run)
    (hrun : (coreX c d).run = t + 1) (hother : ∀ b, b ≠ c → (coreX b d).run ≠ t + 1) (hlimit : pastLimit t d = false) :
    waitCommitAt c [] w d = settleCores (enterWait t w (activationNoted t (switchOut c d))) := by
  have hin : inRun d = true := beq_iff_eq.2 hphase
  unfold waitCommitAt
  rw [hrun]
  dsimp only
  rw [if_neg (by simp [hin, ht]), if_neg (by simp [hlimit]), if_neg ht, leaveCores_eq_switchOut hc hrun hother]
  rfl

section

variable {t : Nat} {d : Dev}

theorem get_activationNoted {f : Fld} {i : Nat} (htime : f.reg.addr i ≠ CREEL_THREAD_TIME.addr t) (hcount : f.reg.addr i ≠ CREEL_THREAD_COUNT.addr t) :
    get f i (activationNoted t d) = get f i d := by
  unfold activationNoted bump
  rw [get_put_other _ _ _ _ _ _ (by exact hcount)]
  exact get_noteTime htime

theorem threadCount_ne_threadTime : CREEL_THREAD_COUNT.addr t ≠ CREEL_THREAD_TIME.addr t := threadReg_addr_ne (by decide)

theorem activations_activationNoted :
    get CREEL_THREAD_COUNT_ACTIVATIONS t (activationNoted t d) = (get CREEL_THREAD_COUNT_ACTIVATIONS t d + 1) % 2 ^ CREEL_THREAD_COUNT_ACTIVATIONS.width := by
  unfold activationNoted bump
  rw [get_put_same _ _ _ _ (by decide)]
  exact congrArg (fun n => (n + 1) % 2 ^ CREEL_THREAD_COUNT_ACTIVATIONS.width) (get_noteTime threadCount_ne_threadTime)

theorem satU_eq_min (w n : Nat) : satU w n = min (2 ^ w - 1) n := by
  have := Nat.two_pow_pos w
  unfold satU
  split <;> omega

theorem lastNs_activationNoted :
    get CREEL_THREAD_TIME_LAST_NS t (activationNoted t d) = min (2 ^ 32 - 1) (nsOf (d.creel.threads.get {} t).used) := by
  unfold activationNoted bump
  rw [get_put_other _ _ _ _ _ _ threadCount_ne_threadTime.symm]
  change get CREEL_THREAD_TIME_LAST_NS t (noteTime t d) = _
  unfold noteTime
  extract_lets ns
  rw [get_maxUp_apart (.bits (by decide)), get_put_same _ _ _ _ (by decide), ← satU_eq_min]
  refine Nat.mod_eq_of_lt ?_
  rw [satU_eq_min]
  change min (2 ^ 32 - 1) ns < 2 ^ 32
  omega

theorem activationNoted_clk : (activationNoted t d).clk = d.clk := by simp [activationNoted, thrMod, noteTime]

theorem coreX_activationNoted (b : Nat) : coreX b (activationNoted t d) = coreX b d := by
  have hbump : coreX b (activationNoted t d) = coreX b (noteTime t d) := coreX_congr (put_creel ..) b
  exact hbump.trans (coreX_congr (noteTime_creel ..) b)

theorem Aside.activationNoted (h : Aside t d) : Aside t (activationNoted t d) := by
  have hnote : Aside t (noteTime t d) := h.congr (noteTime_creel ..)
  have hmod : Aside t (thrMod t (fun y => { y with used := 0, began := 0 }) (noteTime t d)) := hnote
  exact hmod.congr (put_creel ..)

/-! The wait that ends it. -/

theorem enterWait_of_pending {w : Wait} (h : get CREEL_THREAD_STATUS_PENDING t d ≠ 0) :
    enterWait t w d = thrReady t (setThr t 1 (put CREEL_THREAD_STATUS_PENDING t (get CREEL_THREAD_STATUS_PENDING t d - 1) d)) := if_pos h

theorem enterWait_wake (h : get CREEL_THREAD_STATUS_PENDING t d = 0) : enterWait t .wake d = setThr t 1 d := if_neg (not_not_intro h)

/-- A delay of no or too many ticks, or on a tick that is not there. -/
theorem enterWait_of_refused {k n : Nat} (h : get CREEL_THREAD_STATUS_PENDING t d = 0)
    (hk : n = 0 ∨ 2 ^ 32 ≤ n ∨ 1 < k ∨ k = 1 ∧ get CREEL_STATUS_TICK1_EN 0 d = 0) : enterWait t (.delay k n) d = setThr t 1 d := by
  unfold enterWait
  extract_lets p
  rw [if_neg (not_not_intro h)]
  exact if_pos hk

theorem enterWait_of_delay {k n : Nat} (h : get CREEL_THREAD_STATUS_PENDING t d = 0)
    (hk : ¬ (n = 0 ∨ 2 ^ 32 ≤ n ∨ 1 < k ∨ k = 1 ∧ get CREEL_STATUS_TICK1_EN 0 d = 0)) :
    enterWait t (.delay k n) d = setThr t 2 (thrMod t (fun y => { y with tick := k, until_ := tickCount k d + n }) d) := by
  unfold enterWait
  extract_lets p
  rw [if_neg (not_not_intro h)]
  exact if_neg hk

/-- Whatever the wait, no register but those of queues and cores and THREAD_STATUS changes, no core takes a thread up, and no time passes. -/
theorem enterWait_frame (w : Wait) :
    (enterWait t w d).clk = d.clk ∧ (∀ b, (coreX b d).run = 0 → (coreX b (enterWait t w d)).run = 0) ∧
      ∀ f i, OffQueues f i → f.reg.addr i ≠ CREEL_THREAD_STATUS.addr t → get f i (enterWait t w d) = get f i d := by
  have hwait (st : Nat) : (setThr t st d).clk = d.clk ∧ (∀ b, (coreX b d).run = 0 → (coreX b (setThr t st d)).run = 0) ∧
      ∀ f i, OffQueues f i → f.reg.addr i ≠ CREEL_THREAD_STATUS.addr t → get f i (setThr t st d) = get f i d :=
    ⟨put_clk .., fun b hb => by rw [coreX_congr (setThr_creel ..), hb], fun f i hf _ => get_setThr hf⟩
  by_cases hp : get CREEL_THREAD_STATUS_PENDING t d = 0
  · cases w with
    | wake =>
      rw [enterWait_wake hp]
      exact hwait 1
    | delay k n =>
      by_cases hk : n = 0 ∨ 2 ^ 32 ≤ n ∨ 1 < k ∨ k = 1 ∧ get CREEL_STATUS_TICK1_EN 0 d = 0
      · rw [enterWait_of_refused hp hk]
        exact hwait 1
      · rw [enterWait_of_delay hp hk]
        refine ⟨put_clk .., fun b hb => ?_, fun f i hf _ => get_setThr hf⟩
        rw [coreX_congr (setThr_creel ..)]
        exact hb
  · rw [enterWait_of_pending hp]
    have hready {e : Dev} : Requeued [t] e (thrReady t e) := .thrReady (List.mem_singleton.2 rfl)
    refine ⟨hready.clk.trans ((put_clk ..).trans (put_clk ..)), fun b hb => hready.idle ?_, fun f i hf hne => ?_⟩
    · rw [coreX_congr (setThr_creel ..), coreX_congr (put_creel ..), hb]
    · rw [hready.get hf, get_setThr hf, get_put_other _ _ _ _ _ _ (by exact hne)]

/-- With a wake pending the thread is READY again, and one wake less is pending. -/
theorem enterWait_takes_pending {w : Wait} (h : get CREEL_THREAD_STATUS_PENDING t d ≠ 0) :
    get CREEL_THREAD_STATUS_PENDING t (enterWait t w d) = get CREEL_THREAD_STATUS_PENDING t d - 1 ∧ Queued t (enterWait t w d) := by
  have hoff : OffQueues CREEL_THREAD_STATUS_PENDING t := .threadStatus t rfl (by decide)
  have hready {e : Dev} : Requeued [t] e (thrReady t e) := .thrReady (List.mem_singleton.2 rfl)
  have hlt : get CREEL_THREAD_STATUS_PENDING t d < 16 := bits_lt _ _ 4
  rw [enterWait_of_pending h]
  refine ⟨?_, queued_thrReady ..⟩
  rw [hready.get hoff, get_setThr hoff, get_put_mod (by decide) (rfl : 2 ^ _ = 16)]
  omega

end

/-- What a commit without effects shows besides its wait (R88, R101). -/
theorem waitCommitAt_counts {c t : Nat} {w : Wait} {d : Dev} (hc : c ∈ coresOn d) (ht : t ≠ 2) (hphase : d.unit.phase = .run)
    (hrun : (coreX c d).run = t + 1) (hother : ∀ b, b ≠ c → (coreX b d).run ≠ t + 1) (hlimit : pastLimit t d = false) :
    (waitCommitAt c [] w d).clk = d.clk ∧
    get CREEL_THREAD_COUNT_ACTIVATIONS t (waitCommitAt c [] w d) =
      (get CREEL_THREAD_COUNT_ACTIVATIONS t d + 1) % 2 ^ CREEL_THREAD_COUNT_ACTIVATIONS.width ∧
    get CREEL_THREAD_TIME_LAST_NS t (waitCommitAt c [] w d) =
      min (2 ^ 32 - 1) (nsOf ((d.creel.threads.get {} t).used + (edge d - ((d.creel.threads.get {} t).runs - 1)))) ∧
    (coreX c (waitCommitAt c [] w d)).run = 0 := by
  have hout : Requeued [] d (switchOut c d) := .switchOut (lt_of_mem_coresOn hc)
  obtain ⟨hclk, hidle, hget⟩ := enterWait_frame (t := t) (d := activationNoted t (switchOut c d)) w
  have hsettle : Requeued [] (enterWait t w (activationNoted t (switchOut c d))) (waitCommitAt c [] w d) := by
    rw [waitCommitAt_eq hc ht hphase hrun hother hlimit]
    exact .settleCores
  have hcount : OffQueues CREEL_THREAD_COUNT_ACTIVATIONS t := .threadReg t (by decide)
  have htime : OffQueues CREEL_THREAD_TIME_LAST_NS t := .threadReg t (by decide)
  have hne : CREEL_THREAD_COUNT.addr t ≠ CREEL_THREAD_STATUS.addr t := by
    change 0x41004 + t * 16 ≠ 0x41000 + t * 16
    omega
  refine ⟨hsettle.clk.trans (hclk.trans (activationNoted_clk.trans hout.clk)), ?_, ?_, ?_⟩
  · rw [hsettle.get hcount, hget _ _ hcount hne, activations_activationNoted, hout.get hcount]
  · rw [hsettle.get htime, hget _ _ htime (threadReg_addr_ne (by decide)).symm, lastNs_activationNoted, used_switchOut hrun ht]
  · exact hsettle.idle (hidle c ((congrArg CoreX.run (coreX_activationNoted c)).trans (run_switchOut c d)))

/-- The wait that a commit without effects ends in (R89, R95). -/
theorem waitCommitAt_waits {c t : Nat} {w : Wait} {d : Dev} (hc : c ∈ coresOn d) (ht : t ≠ 2) (hphase : d.unit.phase = .run)
    (hrun : (coreX c d).run = t + 1) (hother : ∀ b, b ≠ c → (coreX b d).run ≠ t + 1) (haside : Aside t d) (hlimit : pastLimit t d = false) :
    (get CREEL_THREAD_STATUS_PENDING t d ≠ 0 →
      get CREEL_THREAD_STATUS_PENDING t (waitCommitAt c [] w d) = get CREEL_THREAD_STATUS_PENDING t d - 1 ∧ Queued t (waitCommitAt c [] w d)) ∧
    (get CREEL_THREAD_STATUS_PENDING t d = 0 → w = .wake → thrState t (waitCommitAt c [] w d) = 1) ∧
    (∀ k n, get CREEL_THREAD_STATUS_PENDING t d = 0 → w = .delay k n → 0 < n → n < 2 ^ 32 → k = 0 ∨ (k = 1 ∧ get CREEL_STATUS_TICK1_EN 0 d = 1) →
      thrState t (waitCommitAt c [] w d) = 2 ∧ ((waitCommitAt c [] w d).creel.threads.get {} t).until_ = tickCount k d + n) ∧
    (∀ k n, get CREEL_THREAD_STATUS_PENDING t d = 0 → w = .delay k n →
      n = 0 ∨ 2 ^ 32 ≤ n ∨ 1 < k ∨ (k = 1 ∧ get CREEL_STATUS_TICK1_EN 0 d = 0) → thrState t (waitCommitAt c [] w d) = 1) := by
  have hout : Requeued [] d (switchOut c d) := .switchOut (lt_of_mem_coresOn hc)
  have hsettle : Requeued [] (enterWait t w (activationNoted t (switchOut c d))) (waitCommitAt c [] w d) := by
    rw [waitCommitAt_eq hc ht hphase hrun hother hlimit]
    exact .settleCores
  have hpendOff : OffQueues CREEL_THREAD_STATUS_PENDING t := .threadStatus t rfl (by decide)
  have hpend : get CREEL_THREAD_STATUS_PENDING t (activationNoted t (switchOut c d)) = get CREEL_THREAD_STATUS_PENDING t d := by
    refine (get_activationNoted (threadReg_addr_ne (by decide)) ?_).trans (hout.get hpendOff)
    change 0x41000 + t * 16 ≠ 0x41004 + t * 16
    omega
  have hlow {f : Fld} (hf : f.reg.base < 0x40100) : get f 0 (activationNoted t (switchOut c d)) = get f 0 d := by
    refine (get_activationNoted ?_ ?_).trans (hout.get (.low hf))
    · change f.reg.base + 0 * f.reg.stride ≠ 0x41008 + t * 16
      omega
    · change f.reg.base + 0 * f.reg.stride ≠ 0x41004 + t * 16
      omega
  have hticks (k : Nat) : tickCount k (activationNoted t (switchOut c d)) = tickCount k d := by
    unfold tickCount
    rw [hlow (f := CREEL_TICK0_COUNT) (by decide), hlow (f := CREEL_TICK1_COUNT) (by decide)]
  have hnoted : Aside t (activationNoted t (switchOut c d)) := (hout.aside t List.not_mem_nil haside).1.activationNoted
  have hstate {st : Nat} {e : Dev} (he : enterWait t w (activationNoted t (switchOut c d)) = setThr t st e) (ha : Aside t e) (hst : st < 8) :
      thrState t (waitCommitAt c [] w d) = st := by
    rw [he] at hsettle
    exact (hsettle.aside t List.not_mem_nil (ha.congr (setThr_creel ..))).2.trans (thrState_setThr hst)
  refine ⟨fun hp => ?_, fun hp hw => ?_, fun k n hp hw hn hmax hk => ?_, fun k n hp hw hk => ?_⟩
  · obtain ⟨hless, hqueued⟩ := enterWait_takes_pending (w := w) (hpend.trans_ne hp)
    exact ⟨by rw [hsettle.get hpendOff, hless, hpend], hsettle.queued t hqueued⟩
  · subst hw
    exact hstate (enterWait_wake (hpend.trans hp)) hnoted (by decide)
  · subst hw
    have hwait := enterWait_of_delay (k := k) (n := n) (hpend.trans hp) (by rw [hlow (f := CREEL_STATUS_TICK1_EN) (by decide)]; omega)
    refine ⟨hstate hwait hnoted (by decide), ?_⟩
    rw [hsettle.until_, hwait, setThr_creel, hticks]
    exact congrArg ThreadX.until_ (Tab.get_put_same ..)
  · subst hw
    exact hstate (enterWait_of_refused (hpend.trans hp) (by rwa [hlow (f := CREEL_STATUS_TICK1_EN) (by decide)])) hnoted (by decide)

/-! ## A pick retargeted by a commit (R71, R88) -/

section

variable {p x : Nat} {d : Dev}

/-- A retargeted pick is armed or disarmed for its new target; besides, only the Reel's own notes on picks change. -/
theorem get_retargetPick {f : Fld} {i : Nat} {arm : Bool} (hused : pickUsed p d = true) :
    get f i (retargetPick p x arm d) =
      get f i (if arm then armPick p (put REEL_PICK_TARGET_TARGET p x d) else disarmPick p (put REEL_PICK_TARGET_TARGET p x d)) := by
  unfold retargetPick
  rw [if_neg (by simp [hused])]
  extract_lets due late d1 d2
  split
  · rfl
  · rfl

theorem pickStatus_apart_target (hp : p < 1024) {f g : Fld} (hf : f.reg = REEL_PICK_STATUS) (hg : g.reg = REEL_PICK_TARGET) : Apart f p g p := by
  refine .reg 1023 1023 (by omega) (by omega) ?_
  rw [hf, hg]
  decide

theorem pickTarget_apart_status (hp : p < 1024) {f g : Fld} (hf : f.reg = REEL_PICK_TARGET) (hg : g.reg = REEL_PICK_STATUS) : Apart f p g p := by
  refine .reg 1023 1023 (by omega) (by omega) ?_
  rw [hf, hg]
  decide

theorem pickUsed_put_target (hp : p < 1024) (hused : pickUsed p d = true) : pickUsed p (put REEL_PICK_TARGET_TARGET p x d) = true := by
  unfold pickUsed
  rw [get_put_apart (pickStatus_apart_target hp rfl rfl)]
  exact hused

/-- A used pick that is disarmed shows that, and keeps its target. -/
theorem disarmPick_shows (hp : p < 1024) (hused : pickUsed p d = true) :
    get REEL_PICK_STATUS_STATE p (disarmPick p d) = 1 ∧ get REEL_PICK_TARGET_TARGET p (disarmPick p d) = get REEL_PICK_TARGET_TARGET p d := by
  have hget {f : Fld} : get f p (disarmPick p d) = get f p (put REEL_PICK_STATUS_STATE p 1 d) := by
    unfold disarmPick
    rw [if_pos hused]
    rfl
  exact ⟨hget.trans (get_put_one _ _ _ (by decide) (by decide)), hget.trans (get_put_apart (pickTarget_apart_status hp rfl rfl))⟩

/-- Writing a pick's state or target leaves its measure's source and its INTERVAL. -/
theorem timePick_put {f : Fld} {v : Nat} (hp : p < 1024) (hf : f.reg = REEL_PICK_STATUS ∨ f.reg = REEL_PICK_TARGET)
    (htime : isTime (pickMeas p d) d = true) (hint : get REEL_PICK_CFG_INTERVAL p d = 0) :
    isTime (pickMeas p d) (put f p v d) = true ∧ get REEL_PICK_CFG_INTERVAL p (put f p v d) = 0 := by
  have hmeas : pickMeas p d < 16 := bits_lt _ _ 4
  have hsource : Apart REEL_MEAS_STATUS_SOURCE (pickMeas p d) f p := by
    refine .reg 16 1023 hmeas.le (by omega) ?_
    rcases hf with hf | hf <;> rw [hf] <;> decide
  have hcfg : Apart REEL_PICK_CFG_INTERVAL p f p := by
    refine .reg 1023 1023 (by omega) (by omega) ?_
    rcases hf with hf | hf <;> rw [hf] <;> decide
  refine ⟨?_, (get_put_apart hcfg).trans hint⟩
  unfold isTime at htime ⊢
  rw [get_put_apart hsource]
  exact htime

/-- The arming of a used pick on a time measure without an INTERVAL. -/
theorem armPick_shows (hp : p < 1024) (hused : pickUsed p d = true) (htime : isTime (pickMeas p d) d = true) (hint : get REEL_PICK_CFG_INTERVAL p d = 0) :
    get REEL_PICK_STATUS_STATE p (armPick p d) = 2 ∧ get REEL_PICK_TARGET_TARGET p (armPick p d) = get REEL_PICK_TARGET_TARGET p d := by
  obtain ⟨htime', hint'⟩ := timePick_put (p := p) (v := 2) hp (.inl (rfl : REEL_PICK_STATUS_STATE.reg = _)) htime hint
  have hget {f : Fld} : get f p (armPick p d) = get f p (put REEL_PICK_STATUS_STATE p 2 d) := by
    unfold armPick
    rw [if_neg (by simp [hused])]
    extract_lets m d1 note d2 step
    have hm : isTime m d2 = true := htime'
    have hstep : step = 0 := by
      change 16 * get REEL_PICK_CFG_INTERVAL p (put REEL_PICK_STATUS_STATE p 2 d) = 0
      rw [hint']
    rw [if_pos hm, if_pos (.inl hstep)]
    rfl
  refine ⟨hget.trans ?_, hget.trans (get_put_apart (pickTarget_apart_status hp rfl rfl))⟩
  rw [get_put_same _ _ _ _ (by decide)]
  rfl

theorem commitEffect_retarget_shows {t b : Nat} {arm : Bool} (hp : p < 1024) (hused : pickUsed p d = true) (hmay : mayRetarget p d = true) :
    let e := commitEffect t b (.retarget p arm x) d
    (arm = false → get REEL_PICK_TARGET_TARGET p e = x % 2 ^ 64 ∧ get REEL_PICK_STATUS_STATE p e = 1) ∧
    (arm = true → isTime (pickMeas p d) d = true → get REEL_PICK_CFG_INTERVAL p d = 0 →
      get REEL_PICK_TARGET_TARGET p e = x % 2 ^ 64 ∧ get REEL_PICK_STATUS_STATE p e = 2) := by
  have heq : commitEffect t b (.retarget p arm x) d = retargetPick p (trunc 64 x) arm d := if_pos hmay
  have hused' := pickUsed_put_target (x := trunc 64 x) hp hused
  have htarget : get REEL_PICK_TARGET_TARGET p (put REEL_PICK_TARGET_TARGET p (trunc 64 x) d) = x % 2 ^ 64 := by
    rw [get_put_mod (by decide) (rfl : 2 ^ _ = 2 ^ 64)]
    exact Nat.mod_mod x (2 ^ 64)
  rw [heq]
  refine ⟨fun harm => ?_, fun harm htime hint => ?_⟩
  · subst harm
    obtain ⟨hstate, hkeeps⟩ := disarmPick_shows hp hused'
    exact ⟨(get_retargetPick hused).trans (hkeeps.trans htarget), (get_retargetPick hused).trans hstate⟩
  · subst harm
    obtain ⟨htime', hint'⟩ := timePick_put (v := trunc 64 x) hp (.inr (rfl : REEL_PICK_TARGET_TARGET.reg = _)) htime hint
    have hmeas : pickMeas p (put REEL_PICK_TARGET_TARGET p (trunc 64 x) d) = pickMeas p d :=
      get_put_apart (.reg 1023 1023 (by omega) (by omega) (by decide))
    obtain ⟨hstate, hkeeps⟩ := armPick_shows hp hused' (hmeas ▸ htime') hint'
    exact ⟨(get_retargetPick hused).trans (hkeeps.trans htarget), (get_retargetPick hused).trans hstate⟩

end

/-! ## Wakes of a thread that does not wait (R90) -/

theorem wake_counts {u : Nat} {d : Dev} (hu : u < 256) (hown : isStandby d = false) (h1 : thrState u d ≠ 1) (h2 : thrState u d ≠ 2) :
    (get CREEL_THREAD_STATUS_PENDING u d < 15 → get CREEL_THREAD_STATUS_PENDING u (wake u d) = get CREEL_THREAD_STATUS_PENDING u d + 1) ∧
    (get CREEL_THREAD_STATUS_PENDING u d = 15 → get CREEL_THREAD_STATUS_WAKE_OVF u (wake u d) = 1) := by
  have hwake : wake u d = if get CREEL_THREAD_STATUS_PENDING u d = 15 then stick CREEL_THREAD_STATUS_WAKE_OVF u 0x0403 u d
      else put CREEL_THREAD_STATUS_PENDING u (get CREEL_THREAD_STATUS_PENDING u d + 1) d := by
    unfold wake
    extract_lets p
    rw [if_neg (by simp [hown]), if_neg (by simp [h1, h2])]
  refine ⟨fun h => ?_, fun h => ?_⟩
  · rw [hwake, if_neg h.ne, get_put_mod (by decide) (rfl : 2 ^ _ = 16)]
    omega
  · rw [hwake, if_pos h]
    exact get_stick _ _ _ _ _ _ _ (threadStatus_not_raised hu) (by decide) (by decide)

/-- Settles O49: threads that move among lists, slots and cores change no other register, and leave a thread that stands in no list and no slot
as it is. -/
theorem creelThreads : Obligations.CreelThreads := by
  unfold Obligations.CreelThreads
  refine ⟨?_, ?_, ?_, ?_, ?_, ?_⟩
  · intro dt c s t hc _ ht hphase hslot hrun hless hslots hlevels
    rw [gives_onDev_iff rfl]
    have hless' : slotLevel c (later dt s) < runLevel c (later dt s) := by rwa [later, slotLevel_advance, runLevel_advance]
    obtain ⟨hstate, hcore, hruns, hswitches, hold⟩ := threadDispatchAt_shows (d := later dt s) hc ht hphase hslot hrun hless' hslots hlevels
    exact ⟨hstate, hcore, hruns, hswitches, fun p _ hp => hold p hp⟩
  · intro dt c s t _ _ hc hrun hslice hdue
    rw [gives_onDev_iff rfl]
    exact sliceExpiryAt_shows (d := later dt s) hc hrun hslice hdue
  · intro dt c s t _ ht hc hphase hover
    rw [gives_onDev_iff rfl]
    exact maxRunExpiryAt_shows (d := later dt s) ht hc hphase hover
  · intro dt c w s t _ _ ht hc hphase hrun hother hslots hlevels hlimit
    rw [gives_onDev_iff rfl]
    obtain ⟨hclk, hcount, hlast, hidle⟩ := waitCommitAt_counts (w := w) (d := later dt s) hc ht hphase hrun hother hlimit
    obtain ⟨hpending, hwaits⟩ := waitCommitAt_waits (w := w) (d := later dt s) hc ht hphase hrun hother ⟨hlevels, hslots⟩ hlimit
    have hedge : edge (waitCommitAt c [] w (later dt s)) = edge (later dt s) := congrArg Clk.edges hclk
    refine ⟨hcount, ?_, hidle, fun hp => (hpending hp).imp_right Queued.states, hwaits⟩
    rw [hedge]
    exact hlast
  · exact fun p arm x d hp hused hmay t b => commitEffect_retarget_shows hp hused hmay
  · exact fun u d hu hown h1 h2 => wake_counts hu hown h1 h2

/-! ## A core that fails (R98, R466) -/

/-- A unit in RUN whose core 0 runs thread 61184. Only threads 0 to 255 have registers (R101): the cell of this one's THREAD_TIME is the
cell of RSV_RETIRED. -/
def strayThreadDev : Dev :=
  { unit := { phase := .run }, live := [(CREEL_STATUS.addr 0, 15)], creel := { cores := [(0, { run := 61184 + 1 })] } }

/-- The core time noted for the abandoned activation (R101) overwrites the retired bit that the doff has just set. -/
theorem retired_after_stray_doff :
    bit (get RSV_RETIRED_CORE 0 (doffCore 0 (later 0 { dev := strayThreadDev }))) (get CREEL_CORE_STATE_PHYS 0 strayThreadDev) = false := by
  decide +kernel

/-- Refutes O50: the statement leaves the number of the thread that the failing core runs unbounded, and the core time noted for thread 61184
clears the retired bit of the core that was replaced. -/
theorem not_creelTicksAndShare : ¬ Obligations.CreelTicksAndShare := by
  rintro ⟨-, -, -, -, -, hdoff, -⟩
  have hgives := hdoff 0 0 { dev := strayThreadDev } 4 (by decide +kernel) rfl (by decide +kernel) rfl (by decide) (by decide +kernel) (by decide +kernel)
  obtain ⟨-, -, hretired, -⟩ := (gives_onDev_iff rfl).1 hgives
  have hset : bit (get RSV_RETIRED_CORE 0 (doffCore 0 (later 0 { dev := strayThreadDev }))) (get CREEL_CORE_STATE_PHYS 0 strayThreadDev) = true :=
    hretired (by decide +kernel)
  rw [retired_after_stray_doff] at hset
  exact absurd hset (by decide)

end Sys2Proof.Machine

namespace Sys2Proof.Machine

/-! Proofs for the family 05_ply_engines.md: publication (R111) beside a group that the table of groups lists twice. -/

/-- Entry `i` of a field. -/
def PF.entry (f : PF) (i : Nat) : PF := ⟨f.off + f.stride * i, f.size, 0⟩

/-- A payload with a field's bytes replaced. -/
def setField (f : PF) (v : Nat) (pay : List Nat) : List Nat :=
  pay.take f.off ++ leBytes f.size v ++ pay.drop (f.off + f.size)

/-- A record without claims, of `n` payload bytes that are zero but for these fields. -/
def recOfFields (idx typ n : Nat) (fs : List (PF × Nat)) : Rec :=
  { idx := idx, typ := typ, claims := [], pay := forL fs (fun f => setField f.1 f.2) (zeros n) }

/-- Ply 0, the position ply of axis 0, with STOP_OUT 0. -/
def positionPly : Rec :=
  recOfFields 2 0x0501 108 [(P0501_CLASS, 1), (P0501_SIZE, 2), (P0501_SP_SOURCE, 5), (P0501_FB_STRAND, 0x06040), (P0501_OUT_MAX, 1),
    (P0501_DEADLINE, 1000)]

/-- A servo axis with its local drive: plies 0 and 1 in group 0 on engine 0, and D_PLY 2 and Q_PLY 3 in the twin group 1 (R138, R179). -/
def driveImg : Img := ⟨zeros 256, [
  recOfFields 0 0x0302 48 [(P0302_KIND, 1), (P0302_SOURCE, 1)],
  recOfFields 1 0x0303 100 [(P0303_COUNT, 3), (P0303_FLAGS, 1), (P0303_ACTION, 9), (P0303_INTERVAL, 12500),
    (P0303_PICK.entry 1, 1), (P0303_FLAGS.entry 1, 1), (P0303_ACTION.entry 1, 1),
    (P0303_PICK.entry 2, 2), (P0303_FLAGS.entry 2, 1), (P0303_INTERVAL.entry 2, 4)],
  positionPly,
  recOfFields 3 0x0501 108 [(P0501_PLY, 1), (P0501_CLASS, 1), (P0501_SIZE, 2), (P0501_SP_SOURCE, 5), (P0501_FLAGS, 1),
    (P0501_FF_STRAND, 0x061C0), (P0501_OUT_MAX, 1), (P0501_DEADLINE, 1000)],
  recOfFields 4 0x0501 108 [(P0501_PLY, 2), (P0501_CLASS, 1), (P0501_SIZE, 2), (P0501_FB_STRAND, 0x07040), (P0501_OUT_MAX, 1),
    (P0501_DEADLINE, 1000)],
  recOfFields 5 0x0501 108 [(P0501_PLY, 3), (P0501_CLASS, 1), (P0501_SIZE, 2), (P0501_SP_SOURCE, 4), (P0501_FB_STRAND, 0x07050),
    (P0501_SP_STRAND, 0x05001), (P0501_OUT_MAX, 1), (P0501_DEADLINE, 1000)],
  recOfFields 6 0x0502 20 [(P0502_TWIN_ENGINE, 0xFF), (P0502_COUNT, 2), (P0502_MIN_PERIOD, 31250), (P0502_NOMINAL_PERIOD, 31250),
    (P0502_ENTRY.entry 1, 1)],
  recOfFields 7 0x0502 18 [(P0502_GROUP, 1), (P0502_ENGINE, 1), (P0502_TWIN_ENGINE, 2), (P0502_TRIGGER, 1), (P0502_COUNT, 1),
    (P0502_MIN_PERIOD, 31250), (P0502_NOMINAL_PERIOD, 31250), (P0502_ENTRY, 0x8000)],
  recOfFields 8 0x0601 192 [(P0601_KIND, 1), (P0601_FB_SOURCE, 1), (P0601_FB_INDEX, 0x0B000), (P0601_FB_BITS, 16),
    (P0601_FILTER_PLY, 0xFFFF), (P0601_VEL_PLY, 1), (P0601_VFB_PLY, 0xFFFF), (P0601_LIM_POS_PIN, 0xFF), (P0601_LIM_NEG_PIN, 0xFF),
    (P0601_HOME_PIN, 0xFF), (P0601_BRAKE_OUT, 0xFF), (P0601_VEL_FS, 1), (P0601_ACC_FS, 1), (P0601_V_MAX, 1), (P0601_ACC, 1),
    (P0601_DEC, 1), (P0601_STOP_DEC, 1), (P0601_VLIM_HI, 1), (P0601_FE_LIMIT, 1), (P0601_INPOS_WINDOW, 1)],
  recOfFields 9 0x0701 4 [(P0701_DIV, 16)],
  recOfFields 10 0x0702 20 [(P0702_OSR_LOG2, 4)],
  recOfFields 11 0x0703 16 [(P0703_PRESCALE, 1), (P0703_SYNC_PICK, 2), (P0703_PERIOD, 2)],
  recOfFields 12 0x0704 32 [(P0704_SD_C, 0xFF), (P0704_RB_SETTLE, 4), (P0704_RB_FILTER, 1), (P0704_D_PLY, 2), (P0704_Q_PLY, 3)]]⟩

/-- A launch of a twin group that both engines have finished, both with a failed residue check, after one that was unresolved (R126). -/
def twinLaunch : GrpX := { live := true, okMain := false, okTwin := false, unresolved := 1 }

/-- A unit in RUN with the drive enabled. The launch of ply 0 is done with output 1; its table of groups lists the twin group 1 twice,
first running on both engines and then on its ENGINE alone. -/
def doubledGroupDev : Dev :=
  { unit := { phase := .run }, img := some driveImg, plies := [(0, { launch := { live := true, done := true, u := 1 } })],
    grps := [(1, twinLaunch), (1, { twinLaunch with single := 1 })] }
    |> put MOT_AX_STATE_STATE 0 2 |> forL [0, 1, 2, 3] (fun p => put PLY_STATE_STATE p 1) |> forL [2, 3] (fun p => put PLY_STATE_GROUP p 1)

theorem imgOk_doubledGroupDev : ImgOk doubledGroupDev := by
  have hrecs : ∀ r ∈ driveImg.recs, checkRec driveImg r = true := by decide +kernel
  rintro m (hm | hm)
  · obtain rfl : driveImg = m := Option.some.inj hm
    exact hrecs
  · exact absurd hm (Option.some_ne_none m).symm

/-- Ply 0 stands in group 0, which is no twin group and has its own engine. -/
theorem group_of_positionPly : ∀ q, grpRec (groupOfPly 0 doubledGroupDev) doubledGroupDev = some q →
    isTwin q = false ∧ grpEngine (groupOfPly 0 doubledGroupDev) q doubledGroupDev < 8 := by
  decide +kernel

/-- The second listing of group 1 has its launch decided when the engines look for work after the publication. It is the second unresolved
one, so plies 2 and 3 stop (R126); the axis takes FAULT and stops ply 0 with them (R166), whose output is then STOP_OUT. -/
theorem strand_after_doubled_publish : strand 0x05 0 (plyPublishAt 0 (later 400 { dev := doubledGroupDev })) = 0 := by
  decide +kernel

/-- Refutes O52: the statement does not ask that the table of groups lists each group once, as `Tab.put` keeps it. On a table that lists
a twin group twice, the publication of ply 0 in another group decides the twin's launch, and the strand of ply 0 reads its STOP_OUT 0
where it published 1. -/
theorem not_plyEngines : ¬ Obligations.PlyEngines := by
  rintro ⟨-, -, -, hpublish, -⟩
  obtain ⟨hdone, -⟩ := hpublish 400 0 { dev := doubledGroupDev } positionPly (by decide) imgOk_doubledGroupDev (by decide +kernel)
    (by decide +kernel) (by decide +kernel) group_of_positionPly
  obtain ⟨hstrand, -⟩ := (gives_onDev_iff rfl).1 (hdone (by decide +kernel) (by decide +kernel))
  have hone : strand 0x05 0 (plyPublishAt 0 (later 400 { dev := doubledGroupDev })) = 1 := hstrand.trans (by decide +kernel)
  rw [strand_after_doubled_publish] at hone
  exact absurd hone (by decide)

end Sys2Proof.Machine

namespace Sys2Proof.Machine

/-! Proofs for the family 06_axes_and_motion.md: what planned profiles keep (R150 to R154), and how axes take commands (R146 to R149). -/

/-! ## Rounded numbers and roots (R151) -/

@[simp] theorem ratHalfUp_intCast (n : Int) : ratHalfUp n = n := by
  change ⌊(n : Rat) + 1 / 2⌋ = n
  rw [Int.floor_intCast_add]
  norm_num

theorem isqrtLoop_mul_self_le (fuel : Nat) {n acc : Nat} (h : acc * acc ≤ n) : isqrtLoop fuel n acc * isqrtLoop fuel n acc ≤ n := by
  induction fuel generalizing acc with
  | zero => exact h
  | succ fuel ih =>
    unfold isqrtLoop
    refine ih ?_
    split <;> assumption

theorem isqrt_mul_self_le (n : Nat) : isqrt n * isqrt n ≤ n := isqrtLoop_mul_self_le 128 (Nat.zero_le n)

theorem rootDown_nonneg (q : Rat) : 0 ≤ (rootDown q : Rat) := by
  unfold rootDown
  split <;> simp

/-- A root is rounded down: it exceeds no speed whose square reaches the number. -/
theorem rootDown_le {q w : Rat} (hw : 0 ≤ w) (h : q ≤ w * w) : (rootDown q : Rat) ≤ w := by
  unfold rootDown
  split
  · simpa using hw
  next hq =>
    have hsq : ((isqrt q.floor.toNat * isqrt q.floor.toNat : Nat) : Rat) ≤ w * w :=
      calc ((isqrt q.floor.toNat * isqrt q.floor.toNat : Nat) : Rat) ≤ (q.floor.toNat : Rat) := Nat.cast_le.2 (isqrt_mul_self_le _)
        _ ≤ q := Nat.floor_le (not_lt.1 hq)
        _ ≤ w * w := h
    have hle : (isqrt q.floor.toNat : Rat) ≤ w := nonneg_le_nonneg_of_sq_le_sq hw (by exact_mod_cast hsq)
    exact_mod_cast hle

/-! ## Pieces of a shape within limits of speed and rate -/

/-- Both speeds of a piece stay within `V`, and its rate within `A`. -/
def PieceWithin (V A : Rat) (c : Piece) : Prop := |c.1| ≤ V ∧ |c.1 + c.2.1 * c.2.2| ≤ V ∧ |c.2.1| ≤ A

theorem PieceWithin.directed {V A s : Rat} {c : Piece} (h : PieceWithin V A c) (hs : |s| = 1) : PieceWithin V A (s * c.1, s * c.2.1, c.2.2) := by
  obtain ⟨hfirst, hlast, hrate⟩ := h
  have hend : s * c.1 + s * c.2.1 * c.2.2 = s * (c.1 + c.2.1 * c.2.2) := by ring
  exact ⟨by simpa [abs_mul, hs] using hfirst, by simpa only [hend, abs_mul, hs, one_mul] using hlast, by simpa [abs_mul, hs] using hrate⟩

/-- Deceleration at `b` from `u` to `w`. -/
theorem slowdown_within {u w b V A : Rat} (hu : 0 ≤ u ∧ u ≤ V) (hw : 0 ≤ w ∧ w ≤ V) (hb : 0 < b ∧ b ≤ A) :
    PieceWithin V A (u, -b, (u - w) / b) := by
  obtain ⟨hb0, hbA⟩ := hb
  have hend : u + -b * ((u - w) / b) = w := by field_simp; ring
  exact ⟨by simpa [abs_of_nonneg hu.1] using hu.2, by simpa only [hend, abs_of_nonneg hw.1] using hw.2, by simpa [abs_of_pos hb0] using hbA⟩

theorem rampPiece_within {u w a V A : Rat} (hu : 0 ≤ u ∧ u ≤ V) (hw : 0 ≤ w ∧ w ≤ V) (ha : 0 < a ∧ a ≤ A) :
    PieceWithin V A (rampPiece u w a) := by
  unfold rampPiece
  split
  · obtain ⟨ha0, haA⟩ := ha
    have hend : u + a * ((w - u) / a) = w := by field_simp; ring
    exact ⟨by simpa [abs_of_nonneg hu.1] using hu.2, by simpa only [hend, abs_of_nonneg hw.1] using hw.2, by simpa [abs_of_pos ha0] using haA⟩
  · exact slowdown_within hu hw ha

theorem cruise_within {v x V A : Rat} (hv : 0 ≤ v ∧ v ≤ V) (hA : 0 ≤ A) : ∀ c ∈ cruise v x, PieceWithin V A c := by
  unfold cruise
  split
  · simp
  · have hV : |v| ≤ V := by rw [abs_of_nonneg hv.1]; exact hv.2
    simpa [PieceWithin] using ⟨hV, hA⟩

/-- Too short a way for the top speed `v`: the square of the speed where the ramps meet lies below that of `v`. -/
theorem meeting_sq_le {d v vs ve a b : Rat} (ha : 0 < a) (hb : 0 < b) (hshort : d < (v * v - vs * vs) / (2 * a) + (v * v - ve * ve) / (2 * b)) :
    (2 * a * b * d + b * vs * vs + a * ve * ve) / (a + b) ≤ v * v := by
  rw [div_add_div _ _ (by positivity) (by positivity), lt_div_iff₀ (by positivity)] at hshort
  rw [div_le_iff₀ (by positivity)]
  linarith

/-- Too short a way for the ramps to meet above both speeds, and none to slow down on: from `vs` the end speed is not exceeded. -/
theorem climb_sq_le {d vs ve a b : Rat} (ha : 0 < a) (hb : 0 < b)
    (hshort : (2 * a * b * d + b * vs * vs + a * ve * ve) / (a + b) < max vs ve * max vs ve) (hslow : vs * vs - ve * ve ≤ 2 * b * d) :
    vs * vs + 2 * a * d ≤ ve * ve := by
  rw [div_lt_iff₀ (by positivity)] at hshort
  rcases max_choice vs ve with hm | hm <;> rw [hm] at hshort
  · have : a * (vs * vs - ve * ve) ≤ a * (2 * b * d) := mul_le_mul_of_nonneg_left hslow ha.le
    linarith
  · refine le_of_mul_le_mul_left ?_ hb
    linarith

/-- The shape of R150: where the top speed is not reached, the root that takes its place lies below a speed of the move. -/
theorem shape_within {d v vs ve a b V : Rat} (hv : 0 ≤ v ∧ v ≤ V) (hvs : 0 ≤ vs ∧ vs ≤ V) (hve : 0 ≤ ve ∧ ve ≤ V) (ha : 0 < a) (hb : 0 < b) :
    ∀ c ∈ shape d v vs ve a b, PieceWithin V (max a b) c := by
  have hA : 0 < a ∧ a ≤ max a b := ⟨ha, le_max_left ..⟩
  have hB : 0 < b ∧ b ≤ max a b := ⟨hb, le_max_right ..⟩
  have hAB : 0 ≤ max a b := hA.1.le.trans hA.2
  have hroot {q w : Rat} (hw : 0 ≤ w ∧ w ≤ V) (hq : q ≤ w * w) : 0 ≤ (rootDown q : Rat) ∧ (rootDown q : Rat) ≤ V :=
    ⟨rootDown_nonneg q, (rootDown_le hw.1 hq).trans hw.2⟩
  unfold shape
  extract_lets da db q m pq pe ps
  split
  · simp
  split
  · simp only [List.forall_mem_append, List.forall_mem_singleton]
    exact ⟨⟨rampPiece_within hvs hv hA, cruise_within hv hAB⟩, rampPiece_within hv hve hB⟩
  next hshort =>
  split
  · have hp : 0 ≤ pq ∧ pq ≤ V := hroot hv (meeting_sq_le ha hb (not_le.1 hshort))
    simp only [List.forall_mem_append, List.forall_mem_singleton]
    exact ⟨⟨rampPiece_within hvs hp hA, cruise_within hp hAB⟩, rampPiece_within hp hve hB⟩
  next hmeet =>
  split
  next hfast =>
    have hp : 0 ≤ pe ∧ pe ≤ V := hroot hvs (by linarith)
    simp only [List.forall_mem_append, List.forall_mem_singleton]
    exact ⟨cruise_within hp hAB, rampPiece_within hp hve hB⟩
  next hslow =>
    have hp : 0 ≤ ps ∧ ps ≤ V := hroot hve (climb_sq_le ha hb (not_le.1 hmeet) (not_lt.1 hslow))
    simp only [List.forall_mem_append, List.forall_mem_singleton]
    exact ⟨rampPiece_within hvs hp hA, cruise_within hp hAB⟩

theorem restPieces_within {d V : Rat} {m : MoveLim} (hv : 0 ≤ m.v ∧ m.v ≤ V) (hvs : 0 ≤ m.vs) (hve : 0 ≤ m.ve) (ha : 0 < m.a) (hb : 0 < m.b) :
    ∀ c ∈ restPieces d m, PieceWithin V (max m.a m.b) c :=
  shape_within hv ⟨le_min hvs hv.1, (min_le_right ..).trans hv.2⟩ ⟨le_min hve hv.1, (min_le_right ..).trans hv.2⟩ ha hb

/-! ## Segments within limits of speed and rate -/

/-- The instant at which the first of the segments begins; `e` after the last. -/
def firstInstant (e : Rat) : List Seg → Rat
  | [] => e
  | s :: _ => s.t

/-- Each segment, from its instant until the next one or until `e`, stays within speed `V` and rate `A`. -/
def SegsWithin (V A e : Rat) : List Seg → Prop
  | [] => True
  | s :: l => PieceWithin V A (s.v, s.a, (firstInstant e l - s.t) / sec16) ∧ SegsWithin V A e l

theorem firstInstant_append (e : Rat) (l k : List Seg) : firstInstant e (l ++ k) = firstInstant (firstInstant e k) l := by
  cases l <;> rfl

theorem SegsWithin.append {V A e : Rat} {l k : List Seg} (hl : SegsWithin V A (firstInstant e k) l) (hk : SegsWithin V A e k) :
    SegsWithin V A e (l ++ k) := by
  induction l with
  | nil => exact hk
  | cons s l ih =>
    obtain ⟨hs, hl⟩ := hl
    exact ⟨by rwa [← firstInstant_append] at hs, ih hl⟩

theorem firstInstant_layPieces (s : Rat) (cs : List Piece) (t p : Rat) :
    firstInstant (layPieces s cs t p).2.1 (layPieces s cs t p).1 = t := by
  cases cs <;> rfl

/-- A laid piece lasts until the next segment or the end. -/
theorem duration_of_laid (s : Rat) (cs : List Piece) (t x p : Rat) :
    (firstInstant (layPieces s cs (t + x * sec16) p).2.1 (layPieces s cs (t + x * sec16) p).1 - t) / sec16 = x := by
  rw [firstInstant_layPieces, add_sub_cancel_left, mul_div_cancel_right₀ _ (by norm_num [sec16])]

theorem layPieces_within {s V A t p : Rat} {cs : List Piece} (hs : |s| = 1) (h : ∀ c ∈ cs, PieceWithin V A c) :
    SegsWithin V A (layPieces s cs t p).2.1 (layPieces s cs t p).1 := by
  induction cs generalizing t p with
  | nil => trivial
  | cons c cs ih =>
    obtain ⟨hc, hcs⟩ := List.forall_mem_cons.1 h
    have hseg := hc.directed hs
    rw [← duration_of_laid s cs t c.2.2 (p + s * pieceDist c)] at hseg
    exact ⟨hseg, ih hcs⟩

theorem planOf_within {s t p V A : Rat} {cs : List Piece} {x : Int} (hs : |s| = 1) (h : ∀ c ∈ cs, PieceWithin V A c) :
    SegsWithin V A (planOf s t p cs x).tEnd (planOf s t p cs x).segs :=
  layPieces_within hs h

/-- A speed that changes evenly stays within what it keeps at both ends. -/
theorem abs_line_le {v a x y V : Rat} (hx : 0 ≤ x) (hxy : x ≤ y) (hv : |v| ≤ V) (hw : |v + a * y| ≤ V) : |v + a * x| ≤ V := by
  rw [abs_le] at hv hw ⊢
  obtain ⟨hv1, hv2⟩ := hv
  obtain ⟨hw1, hw2⟩ := hw
  rcases le_total 0 a with ha | ha
  · have h0 := mul_nonneg ha hx
    have h1 := mul_le_mul_of_nonneg_left hxy ha
    constructor <;> linarith
  · have h0 := mul_nonpos_of_nonpos_of_nonneg ha hx
    have h1 := mul_le_mul_of_nonpos_left hxy ha
    constructor <;> linarith

theorem le_firstInstant_of_segAt_none {t e : Rat} {l : List Seg} (he : t ≤ e) (h : segAt t l = none) : t ≤ firstInstant e l := by
  cases l with
  | nil => exact he
  | cons s l =>
    by_contra hlt
    have hs : s.t ≤ t := (not_le.1 hlt).le
    cases hl : segAt t l <;> simp [segAt, hs, hl] at h

/-- The segment in force at an instant keeps the limits at that instant: the next one has not begun. -/
theorem SegsWithin.at {V A e t : Rat} {l : List Seg} {s : Seg} (h : SegsWithin V A e l) (he : t ≤ e) (hs : segAt t l = some s) :
    |s.v + s.a * ((t - s.t) / sec16)| ≤ V ∧ |s.a| ≤ A := by
  induction l with
  | nil => cases hs
  | cons c l ih =>
    obtain ⟨hc, hl⟩ := h
    unfold segAt at hs
    split at hs
    next hct =>
      cases hlater : segAt t l with
      | some c' =>
        rw [hlater] at hs
        exact ih hl (hlater.trans hs)
      | none =>
        obtain rfl : c = s := by simpa [hlater] using hs
        obtain ⟨hfirst, hlast, hrate⟩ := hc
        have hnext := le_firstInstant_of_segAt_none he hlater
        have hsec : (0 : Rat) ≤ sec16 := by norm_num [sec16]
        exact ⟨abs_line_le (div_nonneg (by linarith) hsec) (div_le_div_of_nonneg_right (by linarith) hsec) hfirst hlast, hrate⟩
    · cases hs

/-! ## Profiles (R150 to R154) -/

theorem planExact_of_ended {pl : Plan} {t : Nat} (h : pl.tEnd ≤ t) : planExact pl t = (↑pl.target, 0, 0) := if_pos h

/-- A plan that has ended stands at its target. -/
theorem planAt_of_ended {pl : Plan} {t : Nat} (h : pl.tEnd ≤ t) : planAt pl t = (pl.target, 0, 0) := by
  have hzero : ratHalfUp 0 = 0 := ratHalfUp_intCast 0
  simp [planAt, planExact_of_ended h, hzero]

/-- Segments within limits make a profile within them at every instant. -/
theorem planExact_within {pl : Plan} {V A : Rat} (t : Nat) (hV : 0 ≤ V) (hA : 0 ≤ A) (h : SegsWithin V A pl.tEnd pl.segs) :
    |(planExact pl t).2.1| ≤ V ∧ |(planExact pl t).2.2| ≤ A := by
  unfold planExact
  split
  · simpa using ⟨hV, hA⟩
  next hend =>
    split
    · simpa using ⟨hV, hA⟩
    next s hs => exact h.at (not_le.1 hend).le hs

theorem abs_direction {p : Prop} [Decidable p] : |if p then (-1 : Rat) else 1| = 1 := by
  split <;> simp

theorem movePlan_target (t p v0 x : Int) (m : MoveLim) : (movePlan t p v0 x m).target = x := by
  unfold movePlan
  extract_lets dist ve s u ahead
  (repeat' split) <;> rfl

/-- The segments of a move, case by case of R150 and R152: from standstill, ahead from below or above the top speed, and by way of a
standstill. -/
theorem movePlan_within {t p v0 x : Int} {m : MoveLim} (hv : 0 < m.v) (hvs : 0 ≤ m.vs) (hve : 0 ≤ m.ve) (ha : 0 < m.a) (hb : 0 < m.b) :
    SegsWithin (max |(v0 : Rat)| m.v) (max m.a m.b) (movePlan t p v0 x m).tEnd (movePlan t p v0 x m).segs := by
  have hu : ((v0.natAbs : Nat) : Rat) = |(v0 : Rat)| := by rw [Nat.cast_natAbs, Int.cast_abs]
  have hV : 0 ≤ m.v ∧ m.v ≤ max |(v0 : Rat)| m.v := ⟨hv.le, le_max_right ..⟩
  have hU : 0 ≤ |(v0 : Rat)| ∧ |(v0 : Rat)| ≤ max |(v0 : Rat)| m.v := ⟨abs_nonneg _, le_max_left ..⟩
  have hE : 0 ≤ min m.ve m.v ∧ min m.ve m.v ≤ max |(v0 : Rat)| m.v := ⟨le_min hve hv.le, (min_le_right ..).trans hV.2⟩
  have hB : 0 < m.b ∧ m.b ≤ max m.a m.b := ⟨hb, le_max_right ..⟩
  unfold movePlan
  extract_lets dist ve s u ahead
  have hspeed : u = |(v0 : Rat)| := hu
  clear_value u
  subst hspeed
  split
  · exact planOf_within abs_direction (restPieces_within hV hvs hve ha hb)
  split
  · split
    · exact planOf_within abs_direction (List.forall_mem_cons.2 ⟨slowdown_within hU hV hB, shape_within hV hV hE ha hb⟩)
    · exact planOf_within abs_direction (shape_within hV hU hE ha hb)
  · have hstop : PieceWithin (max |(v0 : Rat)| m.v) (max m.a m.b) (|(v0 : Rat)|, -m.b, |(v0 : Rat)| / m.b) := by
      simpa using slowdown_within hU ⟨le_rfl, hU.1.trans hU.2⟩ hB
    refine .append ?_ (layPieces_within abs_direction (restPieces_within hV hvs hve ha hb))
    rw [firstInstant_layPieces]
    exact layPieces_within abs_direction (List.forall_mem_singleton.2 hstop)

theorem directed_abs (v : Int) : (if v < 0 then -|(v : Rat)| else |(v : Rat)|) = v := by
  split
  next h => rw [abs_of_neg (by exact_mod_cast h), neg_neg]
  next h => rw [abs_of_nonneg (by exact_mod_cast not_lt.1 h)]

/-- A stop from a speed other than 0: one piece, down to 0, to the stopping point. -/
theorem stopPlan_of_ne_zero {t p v : Int} {b : Rat} (hv : v ≠ 0) :
    stopPlan t p v b = planOf (if v < 0 then -1 else 1) t p [(|(v : Rat)|, -b, |(v : Rat)| / b)] (ratHalfUp (stopPoint p v b)) := by
  have hu : ((v.natAbs : Nat) : Rat) = |(v : Rat)| := by rw [Nat.cast_natAbs, Int.cast_abs]
  unfold stopPlan stopPoint
  simp only [hv, if_false, hu, mul_assoc, abs_mul_abs_self]

/-- A stop begins where the axis is, at its speed. -/
theorem planExact_stopPlan {t : Nat} {p v : Int} {b : Rat} (hv : v ≠ 0) (hb : 0 < b) :
    (planExact (stopPlan t p v b) t).1 = p ∧ (planExact (stopPlan t p v b) t).2.1 = v := by
  have hspeed : 0 < |(v : Rat)| := abs_pos.2 (by exact_mod_cast hv)
  have hsec : (0 : Rat) < sec16 := by norm_num [sec16]
  have hlasts : ¬ (t : Rat) + |(v : Rat)| / b * sec16 ≤ t := by
    have : 0 < |(v : Rat)| / b * sec16 := by positivity
    linarith
  rw [stopPlan_of_ne_zero hv]
  simp [planExact, planOf, layPieces, segAt, hlasts, directed_abs]

theorem stopPlan_within {t p v : Int} {b : Rat} (hv : v ≠ 0) (hb : 0 < b) :
    SegsWithin |(v : Rat)| b (stopPlan t p v b).tEnd (stopPlan t p v b).segs := by
  have hpiece := slowdown_within ⟨abs_nonneg (v : Rat), le_rfl⟩ ⟨le_rfl, abs_nonneg (v : Rat)⟩ ⟨hb, le_rfl⟩
  rw [stopPlan_of_ne_zero hv]
  exact planOf_within abs_direction (List.forall_mem_singleton.2 (by simpa using hpiece))

/-- Settles O57: a profile ends at its target, and the segments of each case of a move and of a stop keep the limits. -/
theorem axisProfiles : Obligations.AxisProfiles := by
  refine ⟨fun t t' p v0 x m hv hvs hve ha hb => ⟨fun hend => ?_, fun _ => ?_⟩, fun t t' p v b hv hb => ?_⟩
  · rw [planAt_of_ended hend, movePlan_target]
  · exact planExact_within t' (hv.le.trans (le_max_right ..)) (ha.le.trans (le_max_left ..)) (movePlan_within hv hvs hve ha hb)
  · intro pl
    obtain ⟨hpos, hspeed⟩ := planExact_stopPlan (t := t) (p := p) hv hb
    refine ⟨hpos, hspeed, fun hend => ?_, fun _ => planExact_within t' (abs_nonneg _) hb.le (stopPlan_within hv hb)⟩
    rw [planAt_of_ended hend, show pl = _ from stopPlan_of_ne_zero hv]
    rfl

/-! ## Registers of an axis (R172) -/

/-- Registers of one axis stand beside each other. -/
theorem Reg.addr_ne_beside {r q : Reg} {a : Nat} (h : r.stride = q.stride ∧ r.base ≠ q.base) : r.addr a ≠ q.addr a := by
  obtain ⟨hstride, hbase⟩ := h
  unfold Reg.addr
  rw [hstride]
  exact fun haddr => hbase (Nat.add_right_cancel haddr)

theorem Apart.beside {g f : Fld} {a : Nat} (h : g.reg.stride = f.reg.stride ∧ g.reg.base ≠ f.reg.base) : Apart g a f a :=
  .inl (Reg.addr_ne_beside h)

theorem raiseAddrs_off_axes : ∀ a ∈ raiseAddrs, a < 0x61000 ∨ 0x62000 ≤ a := by decide

/-- Raising a fault writes no register of an axis. -/
theorem axisReg_not_raised {r : Reg} {a : Nat} (ha : a < 64) (h : 0x61000 ≤ r.base ∧ r.base + 63 * r.stride < 0x62000) : r.addr a ∉ raiseAddrs := by
  intro hm
  have hle : a * r.stride ≤ 63 * r.stride := Nat.mul_le_mul_right _ (by omega)
  have hoff := raiseAddrs_off_axes _ hm
  unfold Reg.addr at hoff
  omega

@[simp] theorem axes_axMod (a : Nat) (f : AxisX → AxisX) (d : Dev) : (axMod a f d).axes.get {} a = f (d.axes.get {} a) := Tab.get_put_same ..

@[simp] theorem get_axMod (f : Fld) (i a : Nat) (g : AxisX → AxisX) (d : Dev) : get f i (axMod a g d) = get f i d := rfl

theorem get_setAxisState {a st : Nat} {d : Dev} (ha : a < 64) (hst : st < 16) : get MOT_AX_STATE_STATE a (setAxisState a st d) = st := by
  have henabled : Apart MOT_AX_STATE_STATE a MOT_ENABLED_AXES 0 := .reg 63 0 (by omega) le_rfl (by decide)
  unfold setAxisState
  rw [get_put_apart henabled, get_put_mod (by decide) rfl]
  exact Nat.mod_eq_of_lt hst

/-! ## Results of commands (R149) -/

/-- The register of the mailbox shows a result, each field cut to its width. -/
def ResultShown (hank : Bool) (a seq res cause : Nat) (d : Dev) : Prop :=
  get (if hank then MOT_AX_CMD_H_SEQ else MOT_AX_CMD_S_SEQ) a d = seq % 65536 ∧
  get (if hank then MOT_AX_CMD_H_RESULT else MOT_AX_CMD_S_RESULT) a d = res % 8 ∧
  get (if hank then MOT_AX_CMD_H_CAUSE else MOT_AX_CMD_S_CAUSE) a d = cause % 256

section

variable {hank : Bool} {a seq res cause : Nat} {d : Dev}

@[simp] theorem unshow_axes_plan : ((unshow hank a d).axes.get {} a).plan = (d.axes.get {} a).plan := by
  unfold unshow
  rw [axes_axMod]
  split <;> rfl

@[simp] theorem unshow_axes_code : ((unshow hank a d).axes.get {} a).code = (d.axes.get {} a).code := by
  unfold unshow
  rw [axes_axMod]
  split <;> rfl

@[simp] theorem get_unshow {f : Fld} {i : Nat} : get f i (unshow hank a d) = get f i d := rfl

@[simp] theorem showCmd_axes : (showCmd hank a seq res cause d).axes = d.axes := by
  cases hank <;> simp [showCmd]

/-- A result changes no register but the two of the mailboxes. -/
theorem get_showCmd {f : Fld} {i : Nat} (hH : f.reg.addr i ≠ MOT_AX_CMD_H.addr a) (hS : f.reg.addr i ≠ MOT_AX_CMD_S.addr a) :
    get f i (showCmd hank a seq res cause d) = get f i d := by
  unfold showCmd
  split
  · rw [get_put_other _ _ _ _ _ _ hH, get_put_other _ _ _ _ _ _ hH, get_put_other _ _ _ _ _ _ hH]
  · rw [get_put_other _ _ _ _ _ _ hS, get_put_other _ _ _ _ _ _ hS, get_put_other _ _ _ _ _ _ hS]

theorem get_showCmd_beside {f : Fld} (hH : f.reg.stride = MOT_AX_CMD_H.stride ∧ f.reg.base ≠ MOT_AX_CMD_H.base)
    (hS : f.reg.stride = MOT_AX_CMD_S.stride ∧ f.reg.base ≠ MOT_AX_CMD_S.base) :
    get f a (showCmd hank a seq res cause d) = get f a d :=
  get_showCmd (Reg.addr_ne_beside hH) (Reg.addr_ne_beside hS)

/-- Three fields of one register, written one after the other, read what was written. -/
theorem get_put_put_put {f g k : Fld} {i x y z : Nat} (hf : f.inReg) (hg : g.inReg) (hk : k.inReg) (hfg : Apart f i g i) (hfk : Apart f i k i)
    (hgk : Apart g i k i) : let e := put k i z (put g i y (put f i x d))
    get f i e = x % 2 ^ f.width ∧ get g i e = y % 2 ^ g.width ∧ get k i e = z % 2 ^ k.width := by
  refine ⟨?_, ?_, get_put_same _ _ _ _ hk⟩
  · rw [get_put_apart hfk, get_put_apart hfg, get_put_same _ _ _ _ hf]
  · rw [get_put_apart hgk, get_put_same _ _ _ _ hg]

theorem showCmd_shows : ResultShown hank a seq res cause (showCmd hank a seq res cause d) := by
  cases hank with
  | true => exact get_put_put_put (by decide) (by decide) (by decide) (.bits (by decide)) (.bits (by decide)) (.bits (by decide))
  | false => exact get_put_put_put (by decide) (by decide) (by decide) (.bits (by decide)) (.bits (by decide)) (.bits (by decide))

/-- What leaves the two result registers alone leaves the result shown. -/
theorem ResultShown.congr {e : Dev} (h : ResultShown hank a seq res cause d)
    (hkeep : ∀ f : Fld, f.reg = MOT_AX_CMD_H ∨ f.reg = MOT_AX_CMD_S → get f a e = get f a d) : ResultShown hank a seq res cause e := by
  unfold ResultShown at h ⊢
  rwa [hkeep _ (by cases hank <;> decide), hkeep _ (by cases hank <;> decide), hkeep _ (by cases hank <;> decide)]

end

/-! ## Commands that end without running (R146, R149) -/

/-- A command ends without running: it shows its result, and a flag of the axis is set with its fault. -/
def turnAway (f : Fld) (code : Nat) (hank : Bool) (a seq res cause : Nat) (d : Dev) : Dev :=
  raise code a (put f a 1 (showCmd hank a seq res cause d))

section

variable {f : Fld} {code : Nat} {hank : Bool} {a seq res cause : Nat} {d : Dev}

@[simp] theorem turnAway_axes : (turnAway f code hank a seq res cause d).axes = d.axes := by simp [turnAway]

theorem get_turnAway_flag (ha : a < 64) (hreg : f.reg = MOT_AX_FLAGS) (hf : f.inReg) (hw : f.width ≠ 0) :
    get f a (turnAway f code hank a seq res cause d) = 1 := by
  unfold turnAway
  rw [get_raise _ _ _ _ _ _ _ (hreg ▸ axisReg_not_raised ha (by decide)), get_put_one _ _ _ hf hw]

theorem get_turnAway_state (ha : a < 64) (hreg : f.reg = MOT_AX_FLAGS) :
    get MOT_AX_STATE_STATE a (turnAway f code hank a seq res cause d) = get MOT_AX_STATE_STATE a d := by
  have hflag : Apart MOT_AX_STATE_STATE a f a := .beside (by rw [hreg]; decide)
  unfold turnAway
  rw [get_raise _ _ _ _ _ _ _ (axisReg_not_raised ha (by decide)), get_put_apart hflag, get_showCmd_beside (by decide) (by decide)]

/-- The flag and its fault leave the result that is shown. -/
theorem turnAway_shows (ha : a < 64) (hreg : f.reg = MOT_AX_FLAGS) :
    ResultShown hank a seq res cause (turnAway f code hank a seq res cause d) := by
  refine (showCmd_shows (d := d)).congr fun g hg => ?_
  have hcalm : g.reg.addr a ∉ raiseAddrs := by rcases hg with hg | hg <;> exact hg ▸ axisReg_not_raised ha (by decide)
  have hflag : Apart g a f a := .beside (by rw [hreg]; rcases hg with hg | hg <;> rw [hg] <;> decide)
  exact (get_raise _ _ _ _ _ _ _ hcalm).trans (get_put_apart hflag)

end

/-! ## Commands taken from a mailbox (R146 to R149) -/

section

variable {a t : Nat} {r : Rec} {hank : Bool} {c : MCmd} {d : Dev}

theorem postAxis_of_seq_zero (h : c.seq = 0) : postAxis a hank c d = d := if_pos (.inl h)

/-- The command that waits ends as overwritten, and the new one waits in its place. -/
theorem postAxis_of_waiting {old : MCmd} (hseq : c.seq ≠ 0) (hrec : (axisRec a d).isSome = true)
    (hold : (if hank then (d.axes.get {} a).boxH else (d.axes.get {} a).boxS) = some old) :
    postAxis a hank c d = axMod a (fun x => if hank then { x with boxH := some c } else { x with boxS := some c })
      (turnAway MOT_AX_FLAGS_OVERWRITTEN 0x0604 hank a old.seq 4 0 (unshow hank a d)) := by
  have hrec' : (axisRec a d).isNone = false := by simpa using hrec
  simp [postAxis, hseq, hrec', hold, turnAway]

theorem gearMeasure_le (hbad : badFields r c = false) (hcode : c.code = 8) : c.p1 ≤ 15 := by
  simp [badFields, hcode] at hbad
  omega

/-- Whether a command is refused depends on the axis's state and on the states of measures. -/
theorem judge_congr {e : Dev} (hstate : get MOT_AX_STATE_STATE a e = get MOT_AX_STATE_STATE a d)
    (hhomed : get MOT_AX_STATE_HOMED a e = get MOT_AX_STATE_HOMED a d)
    (hmeas : ∀ m ≤ 15, get REEL_MEAS_STATUS_STATE m e = get REEL_MEAS_STATUS_STATE m d) : judge a r c e = judge a r c d := by
  by_cases hbad : badFields r c = true
  · simp [judge, hbad]
  by_cases hgear : c.code = 8
  · simp [judge, flag, hstate, hhomed, hmeas _ (gearMeasure_le (by simpa using hbad) hgear)]
  · simp [judge, flag, hstate, hhomed, hgear]

/-- A command is judged alike before and after the register of its mailbox shows it. -/
theorem judge_showCmd {seq res cause : Nat} (ha : a < 64) : judge a r c (showCmd hank a seq res cause (unshow hank a d)) = judge a r c d :=
  judge_congr (get_showCmd_beside (by decide) (by decide)) (get_showCmd_beside (by decide) (by decide))
    (fun _ hm => get_showCmd (Reg.addr_ne_addr (m := 63) hm (by omega) (by decide)) (Reg.addr_ne_addr (m := 63) hm (by omega) (by decide)))

/-- A command that is not refused stands in a state of its code, with its fields in range. -/
theorem accepts_of_judge_eq_zero (h : judge a r c d = 0) :
    acceptsIn c.code (get MOT_AX_STATE_STATE a d) = true ∧ badFields r c = false := by
  by_cases hbad : badFields r c = true
  · simp [judge, hbad] at h
  cases hstate : acceptsIn c.code (get MOT_AX_STATE_STATE a d) with
  | true => exact ⟨rfl, by simpa using hbad⟩
  | false => simp [judge, hbad, hstate, ite_eq_iff] at h

theorem takeCmd_of_refused (ha : a < 64) (h : judge a r c d ≠ 0) :
    takeCmd a r t hank c d = turnAway MOT_AX_FLAGS_REFUSED (judge a r c d) hank a c.seq 3 (judge a r c d % 256)
      (showCmd hank a c.seq 1 0 (unshow hank a d)) := by
  simp [takeCmd, judge_showCmd ha, h, turnAway]

/-- ENABLE, DISABLE, STOP and GEAR_OUT set out in no direction that a tripped limit could refuse: judged as good they take effect. -/
theorem takeCmd_of_accepted (ha : a < 64) (h : judge a r c d = 0) (hcode : c.code = 1 ∨ c.code = 2 ∨ c.code = 6 ∨ c.code = 9) :
    ∃ s e, takeCmd a r t hank c d = applyCmd a r c t s e := by
  have hdirs (e : Dev) : cmdDirs r c e = [] := by rcases hcode with h | h | h | h <;> simp [cmdDirs, h]
  have hmove : c.code ≠ 3 ∧ c.code ≠ 4 ∧ c.code ≠ 5 := by omega
  simp only [takeCmd, judge_showCmd ha, h, hdirs, hmove]
  exact ⟨_, _, rfl⟩

theorem get_axisEnable_state (ha : a < 64) : get MOT_AX_STATE_STATE a (axisEnable a r d) = 1 := by
  unfold axisEnable
  rw [get_axMod, get_setAxisState ha (by decide)]

/-- A homing that a command ends leaves the state that the command set. -/
theorem get_homeAbort_state {b : Bool} :
    get MOT_AX_STATE_STATE a (onlyIf b (fun e => homeEnd a t (put MOT_AX_FLAGS_HOME_ABORT a 1 e)) d) = get MOT_AX_STATE_STATE a d := by
  unfold onlyIf homeEnd
  split
  · rw [get_axMod, get_put_apart (.beside (by decide))]
  · rfl

theorem get_applyCmd_state {s : Int × MoveLim} (ha : a < 64) (hcode : c.code = 1 ∨ c.code = 2 ∨ c.code = 6 ∨ c.code = 9) :
    get MOT_AX_STATE_STATE a (applyCmd a r c t s d) = if c.code = 1 then 1 else if c.code = 2 then 8 else 7 := by
  unfold applyCmd
  rcases hcode with h | h | h | h <;> simp only [h]
  · exact get_axisEnable_state ha
  · rw [get_homeAbort_state, get_setAxisState ha (by decide)]; rfl
  · rw [get_homeAbort_state, get_setAxisState ha (by decide)]; rfl
  · rw [get_setAxisState ha (by decide)]; rfl

end

/-- Settles O56: a command that is overwritten or refused is turned away, and the fault raised with it touches no register of the axis; one
that is accepted sets the state of its code last. -/
theorem axisCommands : Obligations.AxisCommands := by
  refine ⟨fun a hank c d => postAxis_of_seq_zero, ?_, fun a r c d => accepts_of_judge_eq_zero, ?_, ?_⟩
  · intro a hank c old d ha hseq hrec hlt hold e
    obtain ⟨hshownSeq, hresult, -⟩ : ResultShown hank a old.seq 4 0 e := by
      rw [show e = _ from postAxis_of_waiting hseq hrec hold]
      exact turnAway_shows ha rfl
    refine ⟨hshownSeq.trans (Nat.mod_eq_of_lt hlt), hresult, ?_⟩
    rw [show e = _ from postAxis_of_waiting hseq hrec hold]
    refine ⟨get_turnAway_flag ha rfl (by decide) (by decide), ?_, ?_, get_turnAway_state ha rfl⟩ <;> cases hank <;> simp
  · intro a r t hank c d ha hlt hjudge e
    obtain ⟨hshownSeq, hresult, hcause⟩ : ResultShown hank a c.seq 3 (judge a r c d % 256) e := by
      rw [show e = _ from takeCmd_of_refused ha hjudge]
      exact turnAway_shows ha rfl
    refine ⟨hshownSeq.trans (Nat.mod_eq_of_lt hlt), hresult, hcause.trans (Nat.mod_mod ..), ?_⟩
    rw [show e = _ from takeCmd_of_refused ha hjudge]
    exact ⟨get_turnAway_flag ha rfl (by decide) (by decide), (get_turnAway_state ha rfl).trans (get_showCmd_beside (by decide) (by decide)),
      by simp, by simp⟩
  · intro a r t hank c d ha hjudge hcode
    obtain ⟨s, e, he⟩ := takeCmd_of_accepted (t := t) (hank := hank) ha hjudge hcode
    rw [he, get_applyCmd_state ha hcode]

end Sys2Proof.Machine

namespace Sys2Proof.Machine

/-! Proofs for the family 07_local_drive.md: trips of the local drive and of its sigma-delta channels, the monitors of clock, supply and temperature,
and the debug halt. -/

/-! ## Faults whose reaction is a hold (R268, R484)

A fault of class F2 writes its record and asks hanks to hold; the unit's life and every register outside the log stand. -/

protected theorem Noted.holdNamed {code obj : Nat} {c d : Dev} (h : Noted c d) : Noted c (holdNamed code obj d) := by
  have hold {k e} (h : Noted c e) : Noted c (requestHold k code e) := Noted.ite (c := c) (d := { e with holdReq := _, holdAt := _ }) h h
  unfold Machine.holdNamed
  extract_lets hs e
  have he : Noted c e := Noted.ite (c := c) (d := { d with lostNamed := _ }) h h
  exact h.ite (forL_keeps (fun _ _ h => hold h) he)

protected theorem Noted.react_of_class_two {code obj : Nat} {c d : Dev} (h : Noted c d) (hc : faultClass code = 2) : Noted c (react code obj d) := by
  unfold react
  rw [hc]
  exact h.holdNamed.ite h

theorem noted_raise_of_class_two {code : Nat} (hc : faultClass code = 2) (obj : Nat) (d : Dev) (aux : Nat) (value : Int) :
    Noted d (raise code obj d aux value) := by
  have h := Noted.refl d
  unfold raise raiseWith
  extract_lets cls d1 d2 d3 d4
  have h1 : Noted d d1 := (h.put (by decide)).ite h
  have h3 : Noted d d3 := h1.record.countClass
  clear_value d3
  have h4 : Noted d d4 := h3.ite (Noted.refreshFaults h3)
  exact h.ite (h4.react_of_class_two hc)

theorem raise_unit_of_class_two {code obj aux : Nat} {value : Int} {d : Dev} (hc : faultClass code = 2) : (raise code obj d aux value).unit = d.unit :=
  congrArg Prod.fst (noted_raise_of_class_two hc obj d aux value).1

/-! ## Records of the local drive in a checked image -/

theorem of_mem_recsOf {typ : Nat} {r : Rec} {d : Dev} (h : r ∈ recsOf typ d) : ∃ m, d.img = some m ∧ r ∈ m.recs ∧ r.typ = typ := by
  unfold recsOf at h
  cases hm : d.img with
  | none => simp [hm] at h
  | some m => simpa [hm, Img.all] using h

/-- A record that the loader's checks accept passes the check of its type. -/
theorem check_of_mem_recsOf {typ lo hi : Nat} {check : Img → Rec → Bool} {r : Rec} {d : Dev} (hok : ImgOk d) (h : r ∈ recsOf typ d)
    (hfind : (recordTypes false).find? (fun t => t.1 == typ) = some (typ, check, lo, hi)) : ∃ m, check m r = true := by
  obtain ⟨m, hm, hmem, rfl⟩ := of_mem_recsOf h
  have hrec := hok m (.inl hm) r hmem
  unfold checkRec at hrec
  rw [hfind] at hrec
  simp only [Bool.and_eq_true] at hrec
  exact ⟨m, hrec.1.1.1⟩

theorem group_lt_of_mem {r : Rec} {d : Dev} (hok : ImgOk d) (h : r ∈ recsOf 0x0703 d) : r.u P0703_GROUP < 8 := by
  obtain ⟨m, hcheck⟩ := check_of_mem_recsOf hok h rfl
  unfold check0703 at hcheck
  extract_lets at hcheck
  simp only [Bool.and_eq_true, rng, decide_eq_true_eq] at hcheck
  omega

theorem axis_lt_of_mem {r : Rec} {d : Dev} (hok : ImgOk d) (h : r ∈ recsOf 0x0704 d) : r.u P0704_AXIS < 16 := by
  obtain ⟨m, hcheck⟩ := check_of_mem_recsOf hok h rfl
  unfold check0704 at hcheck
  extract_lets at hcheck
  simp only [Bool.and_eq_true, rng, decide_eq_true_eq] at hcheck
  omega

theorem auxGroup_lt_of_mem {r : Rec} {d : Dev} (hok : ImgOk d) (h : r ∈ recsOf 0x0705 d) : r.u P0705_GROUP < 8 := by
  obtain ⟨m, hcheck⟩ := check_of_mem_recsOf hok h rfl
  unfold check0705 at hcheck
  extract_lets at hcheck
  have hused : usedIf (r.u P0705_MODE == 1) r P0705_GROUP 0 7 = true := by
    simp only [Bool.and_eq_true] at hcheck
    tauto
  unfold usedIf at hused
  split at hused
  · simp only [rng, Bool.and_eq_true, decide_eq_true_eq] at hused
    omega
  · simp only [beq_iff_eq] at hused
    omega

theorem axis_lt_of_mem_drivesOfChan {c n : Nat} {d : Dev} (hok : ImgOk d) (h : n ∈ drivesOfChan c d) : n < 16 := by
  obtain ⟨r, hr, rfl⟩ := List.mem_map.1 h
  exact axis_lt_of_mem hok (List.mem_filter.1 hr).1

/-! ## What the reactions to a trip leave alone

The notes on drives and on sigma-delta channels, and their registers DRV_AX and DRV_SD, which lie from 0x70400 to 0x71FFF. The break of an axis
(R166) writes none of them once its drive is OFF. -/

/-- Register `r`, up to index `n`, lies outside those registers. -/
abbrev Reg.offDrives (r : Reg) (n : Nat) : Prop := r.base + n * r.stride < 0x70400 ∨ 0x72000 ≤ r.base

theorem raiseAddrs_off_drives : ∀ a ∈ raiseAddrs, a < 0x70000 ∨ 0x80000 ≤ a := by decide

theorem mgrpOf_lt {a g : Nat} {d : Dev} (hg : mgrpOf a d = some g) : g < 16 := by
  have hlt : get MOT_AX_STATE_GROUP a d < 2 ^ 4 := bits_lt _ _ _
  unfold mgrpOf at hg
  extract_lets g' at hg
  split at hg
  · exact absurd hg (by simp)
  · exact Option.some.inj hg ▸ hlt

theorem axis_of_axisRec {a : Nat} {r : Rec} {d : Dev} (h : axisRec a d = some r) : r.u P0601_AXIS = a := by
  obtain ⟨m, -, hfind⟩ := Option.bind_eq_some_iff.1 h
  have hkey := List.find?_some hfind
  simp only [Bool.and_eq_true, beq_iff_eq] at hkey
  exact hkey.2

/-- From `c` to `d` the clock, those notes and those registers are the same; the images of `d` are checked ones. -/
def DrivesSpared (c d : Dev) : Prop :=
  d.clk = c.clk ∧ d.drives = c.drives ∧ d.sds = c.sds ∧ ImgOk d ∧ ∀ a, 0x70400 ≤ a → a < 0x72000 → ∀ z, d.live.get z a = c.live.get z a

namespace DrivesSpared

variable {c d e : Dev}

theorem refl (h : ImgOk d) : DrivesSpared d d := ⟨rfl, rfl, rfl, h, fun _ _ _ _ => rfl⟩

theorem imgOk (h : DrivesSpared c d) : ImgOk d := h.2.2.2.1

/-- A field of a register of the local drive, at an index below `m`. -/
theorem get_eq {f : Fld} {i : Nat} (m : Nat) (h : DrivesSpared c d) (hi : i < m)
    (hf : 0x70400 ≤ f.reg.base ∧ f.reg.base + m * f.reg.stride < 0x72000) : get f i d = get f i c :=
  have hbase := f.reg.base_le_addr i
  have htop := f.reg.addr_le hi
  get_congr _ _ _ _ (h.2.2.2.2 _ (by omega) (by omega))

theorem keep (h : DrivesSpared c d) (hk : ImgsKept d e) (hclk : e.clk = d.clk) (hdrives : e.drives = d.drives) (hsds : e.sds = d.sds)
    (hlive : ∀ a, 0x70400 ≤ a → a < 0x72000 → ∀ z, e.live.get z a = d.live.get z a) : DrivesSpared c e := by
  obtain ⟨hc, hd, hs, hok, hregs⟩ := h
  exact ⟨hclk.trans hc, hdrives.trans hd, hsds.trans hs, hok.kept hk, fun a ha ha' z => (hlive a ha ha' z).trans (hregs a ha ha' z)⟩

protected theorem ite {p : Prop} {_ : Decidable p} (hd : DrivesSpared c d) (he : DrivesSpared c e) : DrivesSpared c (if p then d else e) :=
  ite_keeps hd he

/-! Registers, strands and faults. -/

protected theorem put {f : Fld} {i v : Nat} (n : Nat) (h : DrivesSpared c d) (hi : i < n) (hf : f.reg.offDrives n) : DrivesSpared c (put f i v d) :=
  have hbase := f.reg.base_le_addr i
  have htop := f.reg.addr_le hi
  h.keep (ImgsKept.refl d).put (put_clk ..) (put_drives ..) (put_sds ..) fun _ _ _ _ => live_put_other _ _ _ _ _ _ (by omega)

protected theorem setStrand {b k v : Nat} (h : DrivesSpared c d) (hk : k < 4096) : DrivesSpared c (setStrand b k v d) :=
  h.keep (ImgsKept.refl d).setStrand rfl rfl rfl fun _ _ _ _ => live_setStrand_other _ _ _ _ _ _ (by unfold strandAddr; omega)

protected theorem raise {code obj aux : Nat} {value : Int} (h : DrivesSpared c d) : DrivesSpared c (raise code obj d aux value) :=
  h.keep (ImgsKept.refl d).raise (quiet_clk (raise_quiet ..)) (quiet_drives (raise_quiet ..)) (quiet_sds (raise_quiet ..)) fun a ha ha' z =>
    live_raise _ _ _ _ _ a z fun hm => by
      have hoff := raiseAddrs_off_drives a hm
      omega

/-! What follows an update of strands (R189, R195): auxiliary outputs and the staging of groups. -/

protected theorem auxSet {j : Nat} {active : Bool} (h : DrivesSpared c d) (hj : j < 256) : DrivesSpared c (auxSet j active d) := by
  unfold Machine.auxSet
  extract_lets d1 d2
  have h1 : DrivesSpared c d1 := h
  have h2 : DrivesSpared c d2 := h1.put 256 hj (by decide)
  exact h1.ite (h2.ite (h2.setStrand (by omega)))

variable {g : Nat}

protected theorem stageCompare {k v : Nat} (h : DrivesSpared c d) (hg : g < 8) : DrivesSpared c (stageCompare g k v d) :=
  .put 8 h hg (by decide)

protected theorem stagePeriod {p : Nat} (h : DrivesSpared c d) (hg : g < 8) : DrivesSpared c (stagePeriod g p d) :=
  .put 8 (.put 8 h hg (by decide)) hg (by decide)

protected theorem stageFixed (h : DrivesSpared c d) (hg : g < 8) : DrivesSpared c (stageFixed g d) := by
  unfold Machine.stageFixed
  split
  · exact .ite (h.stagePeriod hg) h
  · exact h

protected theorem auxFollow {ids : List Nat} {r : Rec} (h : DrivesSpared c d) (hg : r.u P0705_GROUP < 8) : DrivesSpared c (auxFollow ids r d) :=
  h.ite (.ite ((h.stageCompare hg).stageFixed hg) (.ite (h.auxSet (recU_lt r P0705_OUTPUT 0 rfl)) h))

protected theorem periodFollow {ids : List Nat} {r : Rec} (h : DrivesSpared c d) (hg : r.u P0703_GROUP < 8) : DrivesSpared c (periodFollow ids r d) :=
  h.ite (onlyIf_keeps (h.stagePeriod hg) fun h => h.put 8 hg (by decide))

protected theorem touched {ids : List Nat} (h : DrivesSpared c d) : DrivesSpared c (touched ids d) :=
  forL_keeps_mem (fun _ hr _ h => h.auxFollow (auxGroup_lt_of_mem (DrivesSpared.imgOk ‹_›) hr))
    (forL_keeps_mem (fun _ hr _ h => h.periodFollow (group_lt_of_mem (DrivesSpared.imgOk ‹_›) hr)) h)

protected theorem putStrands {vs : List (Nat × Nat)} (h : DrivesSpared c d) : DrivesSpared c (putStrands vs d) :=
  .touched (forL_keeps (fun _ _ h => h.setStrand (bits_lt _ _ _)) h)

/-! The break of an axis whose drive is OFF (R166). -/

protected theorem plyStop {p : Nat} (h : DrivesSpared c d) : DrivesSpared c (plyStop p d) := by
  unfold Machine.plyStop
  split
  next r hr =>
    have hp : p < 1024 := ply_lt_of_plyRec h.imgOk hr
    exact h.ite (.putStrands (.put 1024 (.put 1024 h hp (by decide)) hp (by decide)))
  · exact h

protected theorem gpioDrive {pin : Nat} {level : Bool} (h : DrivesSpared c d) : DrivesSpared c (gpioDrive pin level d) := by
  unfold Machine.gpioDrive
  extract_lets d1
  have h1 : DrivesSpared c d1 := h
  refine h1.ite ?_
  unfold gpioFollow
  extract_lets x
  split
  · exact h1.ite (.putStrands (.put 1 h1 Nat.one_pos (by decide)))
  · exact h1

protected theorem axisBrake {r : Rec} {on : Bool} (h : DrivesSpared c d) : DrivesSpared c (axisBrake r on d) := by
  have h1 {v} : DrivesSpared c (Machine.put MOT_AX_STATE_BRAKE (r.u P0601_AXIS) v d) := h.put 256 (recU_lt r P0601_AXIS 0 rfl) (by decide)
  exact h1.ite (.ite (h1.auxSet (recU_lt r P0601_BRAKE_OUT 0 rfl)) h1.gpioDrive)

protected theorem memberFault {a : Nat} (h : DrivesSpared c d) : DrivesSpared c (memberFault a d) := by
  unfold Machine.memberFault
  split
  next g hg => exact .ite (.raise (.put 16 h (mgrpOf_lt hg) (by decide))) h
  · exact h

protected theorem axisDriveOff {r : Rec} (h : DrivesSpared c d) (hoff : get DRV_AX_STATUS_DRIVE (r.u P0601_AXIS) d = 0) :
    DrivesSpared c (axisDriveOff r d) := by
  have hdrive : driveOff (r.u P0601_AXIS) d = d := if_pos hoff
  unfold Machine.axisDriveOff
  rw [hdrive]
  exact h.ite (.ite h h)

protected theorem axisBreak {a : Nat} (h : DrivesSpared c d) (ha : a < 16) (hoff : get DRV_AX_STATUS_DRIVE a c = 0) : DrivesSpared c (axisBreak a d) := by
  unfold Machine.axisBreak
  split
  next r hr =>
    extract_lets x d1 home
    have h1 : DrivesSpared c d1 := h.memberFault
    have h2 {t} : DrivesSpared c (forL (axisPlies r d1) Machine.plyStop (Machine.axisBrake r true { d1 with axes := t })) :=
      forL_keeps (fun _ _ h => h.plyStop) (.axisBrake h1)
    have h3 {t} : DrivesSpared c (Machine.axisDriveOff r (forL (axisPlies r d1) Machine.plyStop (Machine.axisBrake r true { d1 with axes := t }))) :=
      h2.axisDriveOff (by rw [axis_of_axisRec hr, h2.get_eq 16 ha (by decide), hoff])
    exact h.ite (.put 1 (.put 16 (.put 16 (.put 16 (.put 16 h3 ha (by decide)) ha (by decide)) ha (by decide)) ha (by decide)) Nat.one_pos (by decide))
  · exact h

protected theorem raiseBreak {code a aux : Nat} {value : Int} (h : DrivesSpared c d) (ha : a < 16) (hoff : get DRV_AX_STATUS_DRIVE a c = 0) :
    DrivesSpared c (raiseBreak code a d aux value) :=
  onlyIf_keeps h.raise fun h => h.axisBreak ha hoff

end DrivesSpared

/-! ## Pins of one drive (R183, R186) -/

/-- The device without its live file, the notes on drives, the dead times that run, and the count of free values. -/
def Dev.unpinned (d : Dev) : Dev := { d.rest with drives := [], riseAt := [], free := 0 }

theorem unpinned_of_rest {d e : Dev} (h : e.rest = d.rest) : e.unpinned = d.unpinned := by simp only [Dev.unpinned, h]

theorem unpinned_clk {d e : Dev} (h : e.unpinned = d.unpinned) : e.clk = d.clk := show e.unpinned.clk = d.unpinned.clk from congrArg Dev.clk h
theorem unpinned_unit {d e : Dev} (h : e.unpinned = d.unpinned) : e.unit = d.unit := show e.unpinned.unit = d.unpinned.unit from congrArg Dev.unit h
theorem unpinned_img {d e : Dev} (h : e.unpinned = d.unpinned) : e.img = d.img := show e.unpinned.img = d.unpinned.img from congrArg Dev.img h
theorem unpinned_next {d e : Dev} (h : e.unpinned = d.unpinned) : e.next = d.next := show e.unpinned.next = d.unpinned.next from congrArg Dev.next h
theorem unpinned_switched {d e : Dev} (h : e.unpinned = d.unpinned) : e.switched = d.switched :=
  show e.unpinned.switched = d.unpinned.switched from congrArg Dev.switched h
theorem unpinned_sds {d e : Dev} (h : e.unpinned = d.unpinned) : e.sds = d.sds := show e.unpinned.sds = d.unpinned.sds from congrArg Dev.sds h

theorem ImgOk.of_unpinned {d e : Dev} (hok : ImgOk d) (h : e.unpinned = d.unpinned) : ImgOk e := by
  unfold ImgOk
  rw [unpinned_img h, unpinned_next h]
  exact hok

/-- From `c` to `d` commands, levels and notes of drive `n`'s pins moved, and nothing else. -/
def PinsMoved (n : Nat) (c d : Dev) : Prop :=
  d.unpinned = c.unpinned ∧ (∀ m, m ≠ n → d.drives.get {} m = c.drives.get {} m) ∧
    ∀ f i, Apart f i DRV_AX_PINS_COMMANDED n → Apart f i DRV_AX_PINS_READBACK n → get f i d = get f i c

namespace PinsMoved

variable {n : Nat} {c d : Dev}

theorem refl (d : Dev) : PinsMoved n d d := ⟨rfl, fun _ _ => rfl, fun _ _ _ _ => rfl⟩

theorem unpinned_eq (h : PinsMoved n c d) : d.unpinned = c.unpinned := h.1

theorem drives_eq {m : Nat} (h : PinsMoved n c d) (hm : m ≠ n) : d.drives.get {} m = c.drives.get {} m := h.2.1 m hm

theorem get_eq {f : Fld} {i : Nat} (h : PinsMoved n c d) (hc : Apart f i DRV_AX_PINS_COMMANDED n) (hr : Apart f i DRV_AX_PINS_READBACK n) :
    get f i d = get f i c := h.2.2 f i hc hr

protected theorem ite {p : Prop} {_ : Decidable p} {e : Dev} (hd : PinsMoved n c d) (he : PinsMoved n c e) : PinsMoved n c (if p then d else e) :=
  ite_keeps hd he

protected theorem put {f : Fld} {v : Nat} (h : PinsMoved n c d) (hf : f = DRV_AX_PINS_COMMANDED ∨ f = DRV_AX_PINS_READBACK) :
    PinsMoved n c (put f n v d) := by
  obtain ⟨hrest, hdrives, hget⟩ := h
  refine ⟨(unpinned_of_rest (put_rest ..)).trans hrest, fun m hm => (congrArg (Tab.get {} · m) (put_drives ..)).trans (hdrives m hm),
    fun g i hc hr => Eq.trans (get_put_apart ?_) (hget g i hc hr)⟩
  rcases hf with rfl | rfl
  · exact hc
  · exact hr

protected theorem drives {x : DriveX} (h : PinsMoved n c d) : PinsMoved n c { d with drives := d.drives.put n x } :=
  ⟨h.1, fun _ hm => (Tab.get_put_other _ _ _ _ _ hm).trans (h.drives_eq hm), h.2.2⟩

protected theorem riseAt {t : Tab Nat} (h : PinsMoved n c d) : PinsMoved n c { d with riseAt := t } := h

protected theorem fresh {w : Nat} (h : PinsMoved n c d) : PinsMoved n c (fresh w d).2 := h

protected theorem setPins {v : Nat} (h : PinsMoved n c d) : PinsMoved n c (setPins n v d) := (h.drives.put (.inl rfl)).put (.inr rfl)

protected theorem pinOff {b : Nat} (h : PinsMoved n c d) : PinsMoved n c (pinOff n b d) := h.riseAt.setPins

protected theorem pinOn {e b : Nat} (h : PinsMoved n c d) : PinsMoved n c (pinOn e n b d) := h.ite (.ite h.setPins h.riseAt)

protected theorem pinsNow (h : PinsMoved n c d) : PinsMoved n c (pinsNow n d) := h.drives

protected theorem pinsOff (h : PinsMoved n c d) : PinsMoved n c (pinsOff n d) := forL_keeps (fun _ _ h => h.pinOff) h.pinsNow

protected theorem pinsSafe {e : Nat} (h : PinsMoved n c d) : PinsMoved n c (pinsSafe e n d) := by
  have h1 : PinsMoved n c (forL [0, 2, 4] (Machine.pinOff n) (Machine.pinsNow n d)) := forL_keeps (fun _ _ h => h.pinOff) h.pinsNow
  exact .ite (forL_keeps (fun _ _ h => h.pinOn) h1) (forL_keeps (fun _ _ h => h.pinOff) h1)

protected theorem settlePins (h : PinsMoved n c d) : PinsMoved n c (settlePins n d) := by
  unfold Machine.settlePins
  split
  · exact h.ite (h.pinsSafe.ite h.pinsOff)
  · exact h

protected theorem pinsWithin2 {safe : Bool} (h : PinsMoved n c d) : PinsMoved n c (pinsWithin2 n safe d) := h.fresh.drives.settlePins

protected theorem readBack {pair v : Nat} (h : PinsMoved n c d) : PinsMoved n c (readBack n pair v d) := h.put (.inr rfl)

end PinsMoved

/-! ## All six pins inactive -/

section

variable {n : Nat} {d : Dev}

theorem commanded_setPins {v : Nat} : get DRV_AX_PINS_COMMANDED n (setPins n v d) = v % 2 ^ 6 := by
  unfold setPins
  extract_lets pol old moved lev x
  rw [get_put_apart (.bits (by decide)), get_put_mod (by decide) (rfl : 2 ^ _ = 2 ^ 6)]

theorem bit_commanded_pinOff {b k : Nat} (hk : k < 6) :
    bit (get DRV_AX_PINS_COMMANDED n (pinOff n b d)) k = if k = b then false else bit (get DRV_AX_PINS_COMMANDED n d) k := by
  unfold pinOff
  rw [commanded_setPins, bit_mod_two_pow hk, bit_setBit]

/-- A pin that one of the steps turns off stays off through the others. -/
theorem bit_commanded_forL_pinOff {l : List Nat} {k : Nat} (hk : k < 6) (h : k ∈ l ∨ bit (get DRV_AX_PINS_COMMANDED n d) k = false) :
    bit (get DRV_AX_PINS_COMMANDED n (forL l (pinOff n) d)) k = false := by
  unfold forL
  induction l generalizing d with
  | nil => simpa using h
  | cons b l ih =>
    refine ih ?_
    by_cases hb : k = b
    · right
      rw [bit_commanded_pinOff hk, if_pos hb]
    · rw [bit_commanded_pinOff hk, if_neg hb]
      simpa [hb] using h

theorem commanded_pinsOff : get DRV_AX_PINS_COMMANDED n (pinsOff n d) = 0 := by
  have hlt : get DRV_AX_PINS_COMMANDED n (pinsOff n d) < 2 ^ 6 := bits_lt _ _ _
  refine Nat.eq_of_testBit_eq fun k => ?_
  rw [Nat.zero_testBit]
  by_cases hk : k < 6
  · rw [← bit_eq_testBit]
    exact bit_commanded_forL_pinOff hk (.inl (List.mem_range.2 hk))
  · exact Nat.testBit_lt_two_pow (hlt.trans_le (Nat.pow_le_pow_right (by decide) (by omega)))

/-- A change of all six pins that lies ahead is none of what single pins do. -/
theorem pinsAt_pinOff {b : Nat} : ((pinOff n b d).drives.get {} n).pinsAt = (d.drives.get {} n).pinsAt := by
  unfold pinOff setPins
  extract_lets pol old moved lev x
  rw [put_drives, put_drives, Tab.get_put_same]

theorem pinsAt_pinsOff : ((pinsOff n d).drives.get {} n).pinsAt = none := by
  have hnow : ((pinsNow n d).drives.get {} n).pinsAt = none := by
    unfold pinsNow
    rw [Tab.get_put_same]
  exact forL_keeps (P := fun e : Dev => (e.drives.get {} n).pinsAt = none) (fun _ _ h => pinsAt_pinOff.trans h) hnow

/-- The pins of drive `n` are inactive, or become so within 2 edges. -/
def PinsEnd (n : Nat) (d : Dev) : Prop :=
  ((d.drives.get {} n).pinsAt = none ∧ get DRV_AX_PINS_COMMANDED n d = 0) ∨ ∃ e, (d.drives.get {} n).pinsAt = some (e, false) ∧ e ≤ edge d + 2

theorem PinsEnd.congr {e : Dev} (h : PinsEnd n d) (hclk : e.clk = d.clk) (hdrives : e.drives.get {} n = d.drives.get {} n)
    (hget : get DRV_AX_PINS_COMMANDED n e = get DRV_AX_PINS_COMMANDED n d) : PinsEnd n e := by
  unfold PinsEnd edge
  rw [hclk, hdrives, hget]
  exact h

theorem PinsEnd.commanded_eq_zero {k : Nat} (h : PinsEnd n d) (hk : 2 ≤ k) :
    get DRV_AX_PINS_COMMANDED n (settlePins n (advance k d)) = 0 := by
  have hedge : edge (advance k d) = edge d + k := rfl
  have hdrives : (advance k d).drives = d.drives := rfl
  unfold settlePins
  rw [hdrives]
  rcases h with ⟨hnone, hzero⟩ | ⟨e, hsome, he⟩
  · rw [hnone]
    exact hzero
  · rw [hsome]
    dsimp only
    rw [if_neg (by omega), if_neg (by decide)]
    exact commanded_pinsOff

theorem pinsEnd_pinsWithin2 : PinsEnd n (pinsWithin2 n false d) := by
  unfold pinsWithin2 pinsLater
  extract_lets q
  have hdelay : q.1 % 3 ≤ 2 := by omega
  unfold settlePins
  rw [Tab.get_put_same]
  dsimp only
  split
  · exact .inr ⟨edge q.2 + q.1 % 3, by rw [Tab.get_put_same], Nat.add_le_add_left hdelay _⟩
  · exact .inl ⟨pinsAt_pinsOff, commanded_pinsOff⟩

end

/-! ## A trip of a drive (R177, R183, R184, R194) -/

/-- The drive OFF, its pins on their way to inactive, before the fault is raised. -/
def driveStopped (n : Nat) (d : Dev) : Dev := pinsWithin2 n false (put DRV_AX_STATUS_DRIVE n 0 (settlePins n d))

/-- Field `f` is none that stopping a drive writes. -/
abbrev Fld.besideStop (f : Fld) : Prop :=
  f.apartFrom DRV_AX_PINS_COMMANDED ∧ f.apartFrom DRV_AX_PINS_READBACK ∧ f.apartFrom DRV_AX_STATUS_DRIVE

/-- Field `f` is one of a drive's registers that a trip reaches. -/
abbrev Fld.ofDrive (f : Fld) : Prop := f.reg = DRV_AX_STATUS ∨ f.reg = DRV_AX_PINS

/-- The axis of drive `n` is enabled in RUN, so that a fault of breaking kind breaks it (R166). -/
def Breakable (n : Nat) (d : Dev) : Prop := d.unit.phase = .run ∧ (axisRec n d).isSome = true ∧ axisEnabled n d = true

section

variable {n code aux : Nat} {value : Int} {c d e : Dev}

theorem axisRec_congr (himg : e.img = d.img) (hnext : e.next = d.next) (hsw : e.switched = d.switched) : axisRec n e = axisRec n d := by
  unfold axisRec recFor imgFor
  rw [himg, hnext, hsw]

theorem Breakable.congr (h : Breakable n d) (hunit : e.unit = d.unit) (hrec : axisRec n e = axisRec n d)
    (hstate : get MOT_AX_STATE_STATE n e = get MOT_AX_STATE_STATE n d) : Breakable n e := by
  unfold Breakable axisEnabled
  rw [hunit, hrec, hstate]
  exact h

theorem Breakable.of_unpinned (h : Breakable n d) (hrest : e.unpinned = d.unpinned)
    (hstate : get MOT_AX_STATE_STATE n e = get MOT_AX_STATE_STATE n d) : Breakable n e :=
  h.congr (unpinned_unit hrest) (axisRec_congr (unpinned_img hrest) (unpinned_next hrest) (unpinned_switched hrest)) hstate

/-- A fault of class F2 alone does not end a breakable state. -/
theorem Breakable.raise (h : Breakable n d) (hn : n < 64) (hc : faultClass code = 2) : Breakable n (raise code n d aux value) := by
  obtain ⟨hunit, -, -, himg, hnext, -⟩ := life_eq_iff.1 (noted_raise_of_class_two hc n d aux value).1
  exact h.congr hunit (axisRec_congr himg hnext (quiet_switched (raise_quiet ..))) (get_raise _ _ _ _ _ _ _ (axisReg_not_raised hn (by decide)))

/-- The break of an enabled axis ends in FAULT. -/
theorem state_axisBreak (hn : n < 64) (h : Breakable n d) : get MOT_AX_STATE_STATE n (axisBreak n d) = 9 := by
  obtain ⟨-, hrec, henabled⟩ := h
  obtain ⟨r, hr⟩ := Option.isSome_iff_exists.1 hrec
  unfold axisBreak
  rw [hr]
  dsimp only
  rw [if_neg (by simp [henabled])]
  exact get_setAxisState hn (by decide)

theorem state_raiseBreak (hn : n < 64) (hc : faultClass code = 2) (h : Breakable n d) :
    get MOT_AX_STATE_STATE n (raiseBreak code n d aux value) = 9 := by
  have hrun : inRun d = true := beq_iff_eq.2 h.1
  unfold raiseBreak onlyIf
  rw [if_pos hrun]
  exact state_axisBreak hn (h.raise hn hc)

/-! The drive stopped. -/

theorem unpinned_driveStopped : (driveStopped n d).unpinned = d.unpinned :=
  (PinsMoved.refl _).pinsWithin2.unpinned_eq.trans ((unpinned_of_rest (put_rest ..)).trans (PinsMoved.refl d).settlePins.unpinned_eq)

theorem get_driveStopped {f : Fld} {i : Nat} (hcmd : Apart f i DRV_AX_PINS_COMMANDED n) (hread : Apart f i DRV_AX_PINS_READBACK n)
    (hdrive : Apart f i DRV_AX_STATUS_DRIVE n) : get f i (driveStopped n d) = get f i d :=
  ((PinsMoved.refl _).pinsWithin2.get_eq hcmd hread).trans ((get_put_apart hdrive).trans ((PinsMoved.refl d).settlePins.get_eq hcmd hread))

theorem drive_driveStopped : get DRV_AX_STATUS_DRIVE n (driveStopped n d) = 0 :=
  ((PinsMoved.refl _).pinsWithin2.get_eq (.base (by decide)) (.base (by decide))).trans (get_put_zero _ _ _ (by decide))

theorem drives_driveStopped {m : Nat} (hm : m ≠ n) : (driveStopped n d).drives.get {} m = d.drives.get {} m :=
  ((PinsMoved.refl _).pinsWithin2.drives_eq hm).trans ((congrArg (Tab.get {} · m) (put_drives ..)).trans ((PinsMoved.refl d).settlePins.drives_eq hm))

/-- The fault of a trip and the break of the axis leave the drives as they were stopped. -/
theorem drivesSpared_driveTrip (hn : n < 16) (hok : ImgOk d) : DrivesSpared (driveStopped n d) (driveTrip code n aux value d) :=
  (DrivesSpared.refl (hok.of_unpinned unpinned_driveStopped)).raiseBreak hn drive_driveStopped

theorem DrivesSpared.pinsEnd (h : DrivesSpared c d) (hn : n < 16) (hc : PinsEnd n c) : PinsEnd n d :=
  hc.congr h.1 (congrArg (Tab.get {} · n) h.2.1) (h.get_eq 16 hn (by decide))

theorem pinsEnd_driveTrip (hn : n < 16) (hok : ImgOk d) : PinsEnd n (driveTrip code n aux value d) :=
  (drivesSpared_driveTrip hn hok).pinsEnd hn pinsEnd_pinsWithin2

theorem drive_driveTrip (hn : n < 16) (hok : ImgOk d) : get DRV_AX_STATUS_DRIVE n (driveTrip code n aux value d) = 0 :=
  ((drivesSpared_driveTrip hn hok).get_eq 16 hn (by decide)).trans drive_driveStopped

theorem get_driveTrip {f : Fld} (hn : n < 16) (hok : ImgOk d) (hf : f.ofDrive) (hbeside : f.besideStop) :
    get f n (driveTrip code n aux value d) = get f n d := by
  obtain ⟨hcmd, hread, hdrive⟩ := hbeside
  have hrange : 0x70400 ≤ f.reg.base ∧ f.reg.base + 16 * f.reg.stride < 0x72000 := by rcases hf with h | h <;> rw [h] <;> decide
  exact ((drivesSpared_driveTrip hn hok).get_eq 16 hn hrange).trans (get_driveStopped (hcmd.apart n) (hread.apart n) (hdrive.apart n))

theorem state_driveTrip (hn : n < 16) (hc : faultClass code = 2) (h : Breakable n d) :
    get MOT_AX_STATE_STATE n (driveTrip code n aux value d) = 9 := by
  have hn' : n ≤ 15 := by omega
  refine state_raiseBreak (by omega) hc (h.of_unpinned unpinned_driveStopped (get_driveStopped ?_ ?_ ?_)) <;>
    exact .reg 15 15 hn' hn' (by decide)

end

/-! ## A pair that reads back wrongly, and a shoot-through (R194) -/

section

variable {n pair : Nat} {r : Rec} {d : Dev}

theorem driveRec_settlePins : driveRec n (settlePins n d) = driveRec n d := by
  unfold driveRec recAt
  rw [unpinned_img (PinsMoved.refl d).settlePins.unpinned_eq]

theorem readbackErrorAt_of_due (hrec : driveRec n d = some r) (hpair : pair / 3 = n)
    (hdue : min (settled n (2 * (pair % 3)) r (settlePins n d)) (settled n (2 * (pair % 3) + 1) r (settlePins n d)) + r.u P0704_RB_FILTER ≤
      edge (settlePins n d)) :
    readbackErrorAt n pair d = driveTrip 0x0703 n pair 0 (bumpSat DRV_AX_PINS_RB_ERRORS n (put DRV_AX_STATUS_RB_ERR n 1
      (readBack n pair (fresh 2 (settlePins n d)).1 (fresh 2 (settlePins n d)).2))) := by
  unfold readbackErrorAt
  extract_lets d1
  rw [driveRec_settlePins.trans hrec]
  refine if_neg ?_
  rintro (h | h)
  · exact h hpair
  · exact absurd h (not_lt.2 hdue)

theorem shootThroughAt_of_due (hrec : driveRec n d = some r) (hpair : pair / 3 = n)
    (hdue : max (settled n (2 * (pair % 3)) r (settlePins n d)) (settled n (2 * (pair % 3) + 1) r (settlePins n d)) + 4 < edge (settlePins n d)) :
    shootThroughAt n pair d = driveTrip 0x0704 n pair 0 (put DRV_AX_STATUS_SHOOT n 1
      (readBack n pair (bits (r.u P0704_POLARITY) (2 * (pair % 3)) 2) (settlePins n d))) := by
  unfold shootThroughAt
  extract_lets d1
  rw [driveRec_settlePins.trans hrec]
  refine if_neg ?_
  rintro (h | h)
  · exact h hpair
  · exact absurd h (not_le.2 hdue)

end

/-- A saturating counter reads its count, raised by one and held at its maximum. -/
theorem get_bumpSat {f : Fld} {i : Nat} {d : Dev} (h : f.inReg) : get f i (bumpSat f i d) = satU f.width (get f i d + 1) := by
  have hpos := Nat.two_pow_pos f.width
  unfold bumpSat
  rw [get_put_same _ _ _ _ h, satU_eq_min]
  exact Nat.mod_eq_of_lt (by omega)

section

variable {n pair code aux : Nat} {value : Int} {f : Fld} {r : Rec} {c d : Dev}

/-- What a trip with flag `f` shows of drive `n`, whose axis was in device `c`. -/
def TripShown (f : Fld) (n : Nat) (c e : Dev) : Prop :=
  get DRV_AX_STATUS_DRIVE n e = 0 ∧ (∀ k, 2 ≤ k → get DRV_AX_PINS_COMMANDED n (settlePins n (advance k e)) = 0) ∧ get f n e = 1 ∧
    (c.unit.phase = .run → (axisRec n c).isSome = true → axisEnabled n c = true → get MOT_AX_STATE_STATE n e = 9)

theorem tripShown_driveTrip (hn : n < 16) (hok : ImgOk c) (hc : faultClass code = 2) (hrest : d.unpinned = c.unpinned)
    (hstate : get MOT_AX_STATE_STATE n d = get MOT_AX_STATE_STATE n c) (hf : f.ofDrive) (hbeside : f.besideStop) (hflag : get f n d = 1) :
    TripShown f n c (driveTrip code n aux value d) := by
  have hok' : ImgOk d := hok.of_unpinned hrest
  refine ⟨drive_driveTrip hn hok', fun k hk => (pinsEnd_driveTrip hn hok').commanded_eq_zero hk, ?_, fun hrun hrec henabled => ?_⟩
  · rw [get_driveTrip hn hok' hf hbeside, hflag]
  · exact state_driveTrip hn hc (Breakable.of_unpinned ⟨hrun, hrec, henabled⟩ hrest hstate)

/-- Registers of drives and of axes lie apart. -/
theorem axState_apart_drive (hn : n < 16) {g : Fld} (hg : g.ofDrive) : Apart MOT_AX_STATE_STATE n g n :=
  .reg 15 15 (by omega) (by omega) (by rcases hg with h | h <;> rw [h] <;> decide)

theorem readbackErrorAt_shows (hn : n < 16) (hok : ImgOk d) (hrec : driveRec n d = some r) (hpair : pair / 3 = n)
    (hdue : min (settled n (2 * (pair % 3)) r (settlePins n d)) (settled n (2 * (pair % 3) + 1) r (settlePins n d)) + r.u P0704_RB_FILTER ≤
      edge (settlePins n d)) :
    TripShown DRV_AX_STATUS_RB_ERR n d (readbackErrorAt n pair d) ∧
      get DRV_AX_PINS_RB_ERRORS n (readbackErrorAt n pair d) = satU 16 (get DRV_AX_PINS_RB_ERRORS n d + 1) := by
  rw [readbackErrorAt_of_due hrec hpair hdue]
  generalize hx : readBack n pair _ _ = x
  have hmoved : PinsMoved n d x := hx ▸ (PinsMoved.refl d).settlePins.fresh.readBack
  have hstate : get MOT_AX_STATE_STATE n x = get MOT_AX_STATE_STATE n d :=
    hmoved.get_eq (axState_apart_drive hn (.inr rfl)) (axState_apart_drive hn (.inr rfl))
  have hrest : (bumpSat DRV_AX_PINS_RB_ERRORS n (put DRV_AX_STATUS_RB_ERR n 1 x)).unpinned = d.unpinned :=
    (unpinned_of_rest ((bumpSat_rest ..).trans (put_rest ..))).trans hmoved.unpinned_eq
  have herrors : get DRV_AX_PINS_RB_ERRORS n x = get DRV_AX_PINS_RB_ERRORS n d := hmoved.get_eq (.bits (by decide)) (.bits (by decide))
  refine ⟨tripShown_driveTrip hn hok (by decide) hrest ?_ (.inl rfl) (by decide) ?_, ?_⟩
  · exact (get_put_apart (axState_apart_drive hn (.inr rfl))).trans ((get_put_apart (axState_apart_drive hn (.inl rfl))).trans hstate)
  · exact (get_put_apart (.base (by decide))).trans (get_put_one _ _ _ (by decide) (by decide))
  · rw [get_driveTrip hn (hok.of_unpinned hrest) (.inr rfl) (by decide), get_bumpSat (by decide), get_put_apart (.base (by decide)), herrors]
    rfl

theorem shootThroughAt_shows (hn : n < 16) (hok : ImgOk d) (hrec : driveRec n d = some r) (hpair : pair / 3 = n)
    (hdue : max (settled n (2 * (pair % 3)) r (settlePins n d)) (settled n (2 * (pair % 3) + 1) r (settlePins n d)) + 4 < edge (settlePins n d)) :
    TripShown DRV_AX_STATUS_SHOOT n d (shootThroughAt n pair d) := by
  rw [shootThroughAt_of_due hrec hpair hdue]
  generalize hx : readBack n pair _ _ = x
  have hmoved : PinsMoved n d x := hx ▸ (PinsMoved.refl d).settlePins.readBack
  have hstate : get MOT_AX_STATE_STATE n x = get MOT_AX_STATE_STATE n d :=
    hmoved.get_eq (axState_apart_drive hn (.inr rfl)) (axState_apart_drive hn (.inr rfl))
  refine tripShown_driveTrip hn hok (by decide) ((unpinned_of_rest (put_rest ..)).trans hmoved.unpinned_eq) ?_ (.inl rfl) (by decide) ?_
  · exact (get_put_apart (axState_apart_drive hn (.inl rfl))).trans hstate
  · exact get_put_one _ _ _ (by decide) (by decide)

end

/-! ## Trips of every drive that uses a channel (R177, R178) -/

/-- What each step of a fold establishes for its member, and every step keeps, holds of all members behind the fold. -/
theorem forL_establishes {α σ : Type} {P : σ → Prop} {Q : α → σ → Prop} {l : List α} {f : α → σ → σ} (hP : ∀ a ∈ l, ∀ s, P s → P (f a s))
    (hQ : ∀ a ∈ l, ∀ s, P s → Q a (f a s)) (hkeep : ∀ a ∈ l, ∀ b ∈ l, ∀ s, P s → Q b s → Q b (f a s)) {s : σ} (h : P s) :
    ∀ a ∈ l, Q a (forL l f s) := by
  induction l generalizing s with
  | nil => exact fun a ha => absurd ha List.not_mem_nil
  | cons b l ih =>
    intro a ha
    have hl {x} (hx : x ∈ l) : x ∈ b :: l := List.mem_cons_of_mem _ hx
    have hb : b ∈ b :: l := List.mem_cons_self
    rcases List.mem_cons.1 ha with rfl | ha
    · have hrest : P (forL l f (f a s)) ∧ Q a (forL l f (f a s)) :=
        forL_keeps_mem (P := fun s => P s ∧ Q a s) (fun x hx s hs => ⟨hP x (hl hx) s hs.1, hkeep x (hl hx) a hb s hs.1 hs.2⟩) ⟨hP a hb s h, hQ a hb s h⟩
      exact hrest.2
    · exact ih (fun x hx => hP x (hl hx)) (fun x hx => hQ x (hl hx)) (fun x hx y hy => hkeep x (hl hx) y (hl hy)) (hP b hb s h) a ha

/-- From `c` to `d` the channels and every drive but `n` are as they were; the images of `d` are checked ones. -/
def OthersKept (n : Nat) (c d : Dev) : Prop :=
  d.clk = c.clk ∧ d.sds = c.sds ∧ ImgOk d ∧ (∀ m, m ≠ n → d.drives.get {} m = c.drives.get {} m) ∧
    (∀ f m, f.ofDrive → m < 16 → m ≠ n → get f m d = get f m c) ∧ ∀ f k, f.reg = DRV_SD_STATUS → k < 48 → get f k d = get f k c

namespace OthersKept

variable {n : Nat} {c d e : Dev}

theorem refl (hok : ImgOk d) : OthersKept n d d := ⟨rfl, rfl, hok, fun _ _ => rfl, fun _ _ _ _ _ => rfl, fun _ _ _ _ => rfl⟩

theorem imgOk (h : OthersKept n c d) : ImgOk d := h.2.2.1

theorem trans (h : OthersKept n c d) (g : OthersKept n d e) : OthersKept n c e := by
  obtain ⟨hclk, hsds, -, hdrives, hregs, hchan⟩ := h
  obtain ⟨gclk, gsds, gok, gdrives, gregs, gchan⟩ := g
  exact ⟨gclk.trans hclk, gsds.trans hsds, gok, fun m hm => (gdrives m hm).trans (hdrives m hm),
    fun f m hf hm hne => (gregs f m hf hm hne).trans (hregs f m hf hm hne), fun f k hf hk => (gchan f k hf hk).trans (hchan f k hf hk)⟩

/-- Another drive's field, or a channel's, shares no bit with a field of drive `n`. -/
theorem apart_drive {f g : Fld} {m : Nat} (hf : f.ofDrive) (hg : g.ofDrive) (hm : m ≠ n) : Apart f m g n := by
  refine .inl ?_
  unfold Reg.addr
  rcases hf with hf | hf <;> rcases hg with hg | hg <;> rw [hf, hg] <;> simp only [DRV_AX_STATUS, DRV_AX_PINS] <;> omega

theorem apart_channel {f g : Fld} {k : Nat} (hf : f.reg = DRV_SD_STATUS) (hg : g.ofDrive) (hk : k < 48) (hn : n < 16) : Apart f k g n :=
  .reg 47 15 (by omega) (by omega) (by rw [hf]; rcases hg with h | h <;> rw [h] <;> decide)

protected theorem put {f : Fld} {v : Nat} (h : OthersKept n c d) (hf : f.ofDrive) (hn : n < 16) : OthersKept n c (put f n v d) :=
  h.trans ⟨put_clk .., put_sds .., h.imgOk.kept (ImgsKept.refl d).put, fun m _ => congrArg (Tab.get {} · m) (put_drives ..),
    fun _ _ hg _ hm => get_put_apart (apart_drive hg hf hm), fun _ _ hg hk => get_put_apart (apart_channel hg hf hk hn)⟩

protected theorem drives {x : DriveX} (h : OthersKept n c d) : OthersKept n c { d with drives := d.drives.put n x } := by
  obtain ⟨hclk, hsds, hok, hdrives, hregs, hchan⟩ := h
  exact ⟨hclk, hsds, hok, fun m hm => (Tab.get_put_other _ _ _ _ _ hm).trans (hdrives m hm), hregs, hchan⟩

protected theorem driveStopped (h : OthersKept n c d) (hn : n < 16) : OthersKept n c (driveStopped n d) :=
  h.trans ⟨unpinned_clk unpinned_driveStopped, unpinned_sds unpinned_driveStopped, h.imgOk.of_unpinned unpinned_driveStopped,
    fun _ hm => drives_driveStopped hm,
    fun _ _ hf _ hm => get_driveStopped (apart_drive hf (.inr rfl) hm) (apart_drive hf (.inr rfl) hm) (apart_drive hf (.inl rfl) hm),
    fun _ _ hf hk => get_driveStopped (apart_channel hf (.inr rfl) hk hn) (apart_channel hf (.inr rfl) hk hn) (apart_channel hf (.inl rfl) hk hn)⟩

theorem of_spared (h : DrivesSpared c d) : OthersKept n c d :=
  ⟨h.1, h.2.2.1, h.imgOk, fun m _ => congrArg (Tab.get {} · m) h.2.1,
    fun f _ hf hm _ => h.get_eq 16 hm (by rcases hf with hf | hf <;> rw [hf] <;> decide), fun _ _ hf hk => h.get_eq 48 hk (by rw [hf]; decide)⟩

protected theorem driveTrip {code aux : Nat} {value : Int} (h : OthersKept n c d) (hn : n < 16) : OthersKept n c (driveTrip code n aux value d) :=
  (h.driveStopped hn).trans (of_spared (drivesSpared_driveTrip hn h.imgOk))

end OthersKept

/-- The drive is OFF with flag `f` set, its pins inactive or on their way. -/
def Tripped (f : Fld) (n : Nat) (d : Dev) : Prop := get DRV_AX_STATUS_DRIVE n d = 0 ∧ get f n d = 1 ∧ PinsEnd n d

section

variable {f : Fld} {l : List Nat} {step : Nat → Dev → Dev} {d : Dev}

theorem Tripped.of_othersKept {n m : Nat} {c e : Dev} (h : Tripped f m c) (hk : OthersKept n c e) (hf : f.ofDrive) (hm : m < 16) (hne : m ≠ n) :
    Tripped f m e := by
  obtain ⟨hdrive, hflag, hpins⟩ := h
  obtain ⟨hclk, -, -, hdrives, hregs, -⟩ := hk
  exact ⟨(hregs _ m (.inl rfl) hm hne).trans hdrive, (hregs f m hf hm hne).trans hflag,
    hpins.congr hclk (hdrives m hne) (hregs _ m (.inr rfl) hm hne)⟩

/-- Steps that each trip one drive of the list trip all of them, and leave the channels as they were. -/
theorem forL_trips (hf : f.ofDrive) (hl : ∀ n ∈ l, n < 16) (hok : ImgOk d)
    (hstep : ∀ n ∈ l, ∀ e, ImgOk e → OthersKept n e (step n e) ∧ Tripped f n (step n e)) :
    (∀ n ∈ l, Tripped f n (forL l step d)) ∧ (forL l step d).sds = d.sds ∧
      ∀ g k, g.reg = DRV_SD_STATUS → k < 48 → get g k (forL l step d) = get g k d := by
  have hchan : ImgOk (forL l step d) ∧ (forL l step d).sds = d.sds ∧
      ∀ g k, g.reg = DRV_SD_STATUS → k < 48 → get g k (forL l step d) = get g k d := by
    refine forL_keeps_mem (P := fun e => ImgOk e ∧ e.sds = d.sds ∧ ∀ g k, g.reg = DRV_SD_STATUS → k < 48 → get g k e = get g k d) ?_
      ⟨hok, rfl, fun _ _ _ _ => rfl⟩
    rintro n hn e ⟨heok, hsds, hregs⟩
    obtain ⟨-, ksds, kok, -, -, kchan⟩ := (hstep n hn e heok).1
    exact ⟨kok, ksds.trans hsds, fun g k hg hk => (kchan g k hg hk).trans (hregs g k hg hk)⟩
  refine ⟨forL_establishes (P := ImgOk) (fun n hn e he => (hstep n hn e he).1.imgOk) (fun n hn e he => (hstep n hn e he).2) ?_ hok, hchan.2⟩
  intro n hn m hm e he htripped
  by_cases hne : m = n
  · subst hne
    exact (hstep m hm e he).2
  · exact htripped.of_othersKept (hstep n hn e he).1 hf (hl m hm) hne

theorem tripped_driveTrip {n code aux : Nat} {value : Int} (hn : n < 16) (hok : ImgOk d) (hf : f.ofDrive) (hbeside : f.besideStop)
    (hflag : get f n d = 1) : Tripped f n (driveTrip code n aux value d) :=
  ⟨drive_driveTrip hn hok, (get_driveTrip hn hok hf hbeside).trans hflag, pinsEnd_driveTrip hn hok⟩

end

section

variable {c : Nat} {d : Dev}

theorem Tripped.of_spared {f : Fld} {n : Nat} {e : Dev} (h : Tripped f n d) (hs : DrivesSpared d e) (hf : f.reg = DRV_AX_STATUS) (hn : n < 16) :
    Tripped f n e := by
  obtain ⟨hdrive, hflag, hpins⟩ := h
  exact ⟨(hs.get_eq 16 hn (by decide)).trans hdrive, (hs.get_eq 16 hn (by rw [hf]; decide)).trans hflag, hs.pinsEnd hn hpins⟩

theorem Tripped.shows {f : Fld} {n : Nat} (h : Tripped f n d) :
    get DRV_AX_STATUS_DRIVE n d = 0 ∧ get f n d = 1 ∧ ∀ k, 2 ≤ k → get DRV_AX_PINS_COMMANDED n (settlePins n (advance k d)) = 0 :=
  ⟨h.1, h.2.1, fun _ hk => h.2.2.commanded_eq_zero hk⟩

/-! An overcurrent (R177). -/

theorem overcurrentTripAt_shows {bs : List Bool} {r : Rec} {v : Int} (hc : c < 48) (hok : ImgOk d) (hrec : sdRec c d = some r)
    (htrip : ocTrips r bs = some v) :
    get DRV_SD_STATUS_OC c (overcurrentTripAt c bs d) = 1 ∧
      get DRV_SD_STATUS_OC_TRIPS c (overcurrentTripAt c bs d) = satU 16 (get DRV_SD_STATUS_OC_TRIPS c d + 1) ∧
      ∀ n ∈ drivesOfChan c d, Tripped DRV_AX_STATUS_OC_TRIP n (overcurrentTripAt c bs d) := by
  have hok1 : ImgOk (bumpSat DRV_SD_STATUS_OC_TRIPS c (put DRV_SD_STATUS_OC c 1 d)) := (hok.kept (ImgsKept.refl d).put).kept (ImgsKept.refl _).put
  have hstep : ∀ n ∈ drivesOfChan c d, ∀ e, ImgOk e →
      OthersKept n e (driveTrip 0x0701 n c v (put DRV_AX_STATUS_OC_TRIP n 1 e)) ∧
        Tripped DRV_AX_STATUS_OC_TRIP n (driveTrip 0x0701 n c v (put DRV_AX_STATUS_OC_TRIP n 1 e)) := by
    intro n hn e he
    have hn' := axis_lt_of_mem_drivesOfChan hok hn
    have hput : OthersKept n e (put DRV_AX_STATUS_OC_TRIP n 1 e) := (OthersKept.refl he).put (.inl rfl) hn'
    exact ⟨hput.driveTrip hn', tripped_driveTrip hn' hput.imgOk (.inl rfl) (by decide) (get_put_one _ _ _ (by decide) (by decide))⟩
  obtain ⟨htripped, -, hchan⟩ := forL_trips (.inl rfl) (fun n hn => axis_lt_of_mem_drivesOfChan hok hn) hok1 hstep
  have hat : overcurrentTripAt c bs d = forL (drivesOfChan c d) (fun n d => driveTrip 0x0701 n c v (put DRV_AX_STATUS_OC_TRIP n 1 d))
      (bumpSat DRV_SD_STATUS_OC_TRIPS c (put DRV_SD_STATUS_OC c 1 d)) := by
    unfold overcurrentTripAt
    rw [hrec]
    dsimp only
    rw [htrip]
  rw [hat]
  refine ⟨?_, ?_, htripped⟩
  · exact (hchan DRV_SD_STATUS_OC c rfl hc).trans ((get_put_apart (.bits (by decide))).trans (get_put_one _ _ _ (by decide) (by decide)))
  · rw [hchan DRV_SD_STATUS_OC_TRIPS c rfl hc, get_bumpSat (by decide), get_put_apart (.bits (by decide))]
    rfl

/-! A stuck modulator (R178). -/

/-- What a stuck channel does to one drive that uses it. -/
def stuckTrip (c n : Nat) (d : Dev) : Dev :=
  driveTrip 0x0702 n c 0 (put DRV_AX_STATUS_STUCK n 1 { d with drives := d.drives.put n { d.drives.get {} n with stale := true } })

/-- The channel's own part of being stuck. -/
def stuckShown (c : Nat) (d : Dev) : Dev :=
  put DRV_SD_STATUS_STALE c 1 (put DRV_SD_STATUS_STUCK c 1 { d with sds := d.sds.put c { d.sds.get {} c with stuckNow := true } })

theorem sdStuckAt_of_toggling (hrec : (sdRec c d).isSome = true) (hstuck : (d.sds.get {} c).stuckNow = false) :
    sdStuckAt c d = onlyIf (drivesOfChan c d == [] && !flag DRV_SD_STATUS_STUCK c d) (fun d => raise 0x070B c d)
      (forL (drivesOfChan c d) (stuckTrip c) (stuckShown c d)) := by
  have hrec' : (sdRec c d).isNone = false := by simpa using hrec
  unfold sdStuckAt
  extract_lets x axes was
  exact if_neg (by simp [x, hrec', hstuck])

theorem sdStuckAt_shows (hc : c < 48) (hok : ImgOk d) (hrec : (sdRec c d).isSome = true) (hstuck : (d.sds.get {} c).stuckNow = false) :
    get DRV_SD_STATUS_STUCK c (sdStuckAt c d) = 1 ∧ get DRV_SD_STATUS_STALE c (sdStuckAt c d) = 1 ∧
      ((sdStuckAt c d).sds.get {} c).stuckNow = true ∧ ∀ n ∈ drivesOfChan c d, Tripped DRV_AX_STATUS_STUCK n (sdStuckAt c d) := by
  have hok1 : ImgOk (stuckShown c d) := hok.kept (.put (.put (d := { d with sds := _ }) (ImgsKept.refl d)))
  have hstep : ∀ n ∈ drivesOfChan c d, ∀ e, ImgOk e → OthersKept n e (stuckTrip c n e) ∧ Tripped DRV_AX_STATUS_STUCK n (stuckTrip c n e) := by
    intro n hn e he
    have hn' := axis_lt_of_mem_drivesOfChan hok hn
    have hput := (OthersKept.refl he).drives (n := n) (x := { e.drives.get {} n with stale := true }) |>.put (f := DRV_AX_STATUS_STUCK) (v := 1) (.inl rfl) hn'
    exact ⟨hput.driveTrip hn', tripped_driveTrip hn' hput.imgOk (.inl rfl) (by decide) (get_put_one _ _ _ (by decide) (by decide))⟩
  have hok2 : ImgOk (forL (drivesOfChan c d) (stuckTrip c) (stuckShown c d)) :=
    forL_keeps_mem (fun n hn e he => (hstep n hn e he).1.imgOk) hok1
  obtain ⟨htripped, hsds, hchan⟩ := forL_trips (.inl rfl) (fun n hn => axis_lt_of_mem_drivesOfChan hok hn) hok1 hstep
  rw [sdStuckAt_of_toggling hrec hstuck]
  generalize forL (drivesOfChan c d) (stuckTrip c) (stuckShown c d) = e at htripped hsds hchan hok2 ⊢
  have hspared : DrivesSpared e (onlyIf (drivesOfChan c d == [] && !flag DRV_SD_STATUS_STUCK c d) (fun d => raise 0x070B c d) e) :=
    onlyIf_keeps (.refl hok2) fun h => h.raise
  refine ⟨?_, ?_, ?_, fun n hn => (htripped n hn).of_spared hspared rfl (axis_lt_of_mem_drivesOfChan hok hn)⟩
  · rw [hspared.get_eq 48 hc (by decide), hchan DRV_SD_STATUS_STUCK c rfl hc]
    exact (get_put_apart (.bits (by decide))).trans (get_put_one _ _ _ (by decide) (by decide))
  · rw [hspared.get_eq 48 hc (by decide), hchan DRV_SD_STATUS_STALE c rfl hc]
    exact get_put_one _ _ _ (by decide) (by decide)
  · rw [hspared.2.2.1, hsds]
    unfold stuckShown
    rw [put_sds, put_sds, Tab.get_put_same]

/-! A channel that is good again (R175, R178, R460). -/

/-- Besides STALE of the channel only the notes on drives follow. -/
theorem sdGood_eq : sdGood c d = { put DRV_SD_STATUS_STALE c 0 d with drives := (sdGood c d).drives } := by
  have h : ∃ t, sdGood c d = { put DRV_SD_STATUS_STALE c 0 d with drives := t } := by
    unfold sdGood
    refine forL_keeps (P := fun e : Dev => ∃ t, e = { put DRV_SD_STATUS_STALE c 0 d with drives := t }) ?_ ⟨_, rfl⟩
    rintro r e ⟨t, rfl⟩
    split
    · exact ⟨_, rfl⟩
    · exact ⟨t, rfl⟩
  obtain ⟨t, ht⟩ := h
  rw [ht]

theorem stale_sdGood : get DRV_SD_STATUS_STALE c (sdGood c d) = 0 := by
  rw [sdGood_eq]
  exact get_put_zero DRV_SD_STATUS_STALE c d (by decide)

theorem sds_sdGood : (sdGood c d).sds = d.sds := by
  rw [sdGood_eq]
  exact put_sds ..

theorem sdGood_keepsBut : KeepsBut [DRV_SD_STATUS.addr c] { d with drives := (sdGood c d).drives } (sdGood c d) := by
  refine ⟨?_, fun a ha z => ?_⟩
  · conv_lhs => rw [sdGood_eq]
    exact congrArg (fun x : Dev => { x with drives := (sdGood c d).drives }) (put_rest DRV_SD_STATUS_STALE c 0 d)
  · conv_lhs => rw [sdGood_eq]
    exact live_put_other DRV_SD_STATUS_STALE _ _ _ _ _ (List.ne_of_not_mem_cons ha)

/-- The channel's input toggles again. -/
def toggling (c : Nat) (d : Dev) : Dev := { d with sds := d.sds.put c { d.sds.get {} c with stuckNow := false } }

theorem sdInputToggleAt_of_stuck (h : (d.sds.get {} c).stuckNow = true) :
    sdInputToggleAt c d = if (d.sds.get {} c).validEdge ≤ edge d then sdGood c (toggling c d) else toggling c d := by
  unfold sdInputToggleAt
  extract_lets x
  rw [if_neg (by simp [x, h])]
  unfold onlyIf
  simp only [decide_eq_true_eq]
  rfl

theorem sdInputToggleAt_shows (h : (d.sds.get {} c).stuckNow = true) {e : Dev} (he : sdInputToggleAt c d = e) :
    (e.sds.get {} c).stuckNow = false ∧
      get DRV_SD_STATUS_STALE c e = (if (d.sds.get {} c).validEdge ≤ edge d then 0 else get DRV_SD_STATUS_STALE c d) ∧
      KeepsBut [DRV_SD_STATUS.addr c] { d with sds := e.sds, drives := e.drives } e := by
  have htoggle : ((toggling c d).sds.get {} c).stuckNow = false := by
    unfold toggling
    rw [Tab.get_put_same]
  rw [sdInputToggleAt_of_stuck h] at he
  split at he
  next hvalid =>
    subst he
    refine ⟨?_, ?_, ?_⟩
    · rw [sds_sdGood]
      exact htoggle
    · rw [if_pos hvalid]
      exact stale_sdGood
    · rw [sds_sdGood]
      exact sdGood_keepsBut (d := toggling c d)
  next hvalid =>
    subst he
    rw [if_neg hvalid]
    exact ⟨htoggle, rfl, rfl, fun _ _ _ => rfl⟩

theorem sdChannelValidAt_of_due (hrec : (sdRec c d).isSome = true) (hstale : get DRV_SD_STATUS_STALE c d = 1)
    (hstuck : (d.sds.get {} c).stuckNow = false) (hvalid : (d.sds.get {} c).validEdge ≤ edge d) : sdChannelValidAt c d = sdGood c d :=
  if_pos ⟨hrec, beq_iff_eq.2 hstale, by simp [hstuck], hvalid⟩

end

/-- Settles O35: a trip stops its drive, and the break of the axis that follows finds the drive OFF and leaves its pins alone; drives that
share a channel trip one after another, each leaving the others as they are. -/
theorem driveSamples : Obligations.DriveSamples := by
  unfold Obligations.DriveSamples
  refine ⟨⟨?_, ?_, ?_⟩, ?_, ?_, ?_⟩
  · intro dt n pair s r d hn hok hrec hpair hd hdue
    subst hd
    rw [gives_onDev_iff rfl]
    obtain ⟨⟨hdrive, hpins, hflag, hstate⟩, herrors⟩ := readbackErrorAt_shows (d := later dt s) hn hok hrec hpair hdue
    exact ⟨hdrive, hpins, hflag, herrors, hstate⟩
  · intro dt n pair s r d hn hok hrec hpair hd hdue
    subst hd
    rw [gives_onDev_iff rfl]
    exact shootThroughAt_shows (d := later dt s) hn hok hrec hpair hdue
  · intro dt c bs s r v hc hok hrec htrip
    rw [gives_onDev_iff rfl]
    obtain ⟨hoc, htrips, htripped⟩ := overcurrentTripAt_shows (d := later dt s) hc hok hrec htrip
    exact ⟨hoc, htrips, fun n hn => (htripped n hn).shows⟩
  · intro dt c s hc hok hrec hstuck
    rw [gives_onDev_iff rfl]
    obtain ⟨hshown, hstale, hnow, htripped⟩ := sdStuckAt_shows (d := later dt s) hc hok hrec hstuck
    exact ⟨hshown, hstale, hnow, fun n hn => (htripped n hn).shows⟩
  · intro dt c s _ hstuck
    rw [gives_onDev_iff rfl]
    exact sdInputToggleAt_shows (d := later dt s) hstuck rfl
  · intro dt c s _ hrec hstale hstuck hvalid
    rw [gives_onDev_iff rfl]
    have hat : sdChannelValidAt c (later dt s) = sdGood c (later dt s) := sdChannelValidAt_of_due hrec hstale hstuck hvalid
    rw [show sdChannelValidAt c (later dt s) = _ from hat]
    exact ⟨stale_sdGood, sdGood_keepsBut⟩

/-! ## What a debug halt and its end leave alone (R192, R245)

Beyond their own bits of SYS_STATUS, the halt and its end act on drives, outputs, axes and tasks; neither the unit's life nor SYS_STATUS, the first
register of block 0x01, is among what those write. -/

/-- From `c` to `d` the unit's life and SYS_STATUS are the same. -/
def StatusKept (c d : Dev) : Prop := d.unit = c.unit ∧ ∀ f : Fld, f.reg = SYS_STATUS → get f 0 d = get f 0 c

namespace StatusKept

variable {c d e : Dev}

theorem refl (d : Dev) : StatusKept d d := ⟨rfl, fun _ _ => rfl⟩

theorem unit_eq (h : StatusKept c d) : d.unit = c.unit := h.1

theorem get_eq {f : Fld} (h : StatusKept c d) (hf : f.reg = SYS_STATUS) : get f 0 d = get f 0 c := h.2 f hf

theorem keep (h : StatusKept c d) (hunit : e.unit = d.unit) (hget : ∀ f : Fld, f.reg = SYS_STATUS → get f 0 e = get f 0 d) : StatusKept c e :=
  ⟨hunit.trans h.unit_eq, fun f hf => (hget f hf).trans (h.get_eq hf)⟩

protected theorem ite {p : Prop} {_ : Decidable p} (hd : StatusKept c d) (he : StatusKept c e) : StatusKept c (if p then d else e) :=
  ite_keeps hd he

/-! Registers, strands and faults. -/

theorem addr_status {f : Fld} (hf : f.reg = SYS_STATUS) : f.reg.addr 0 = 0x10000 := by
  rw [hf]
  rfl

protected theorem put {f : Fld} {i v : Nat} (h : StatusKept c d) (hf : 0x10000 < f.reg.base) : StatusKept c (put f i v d) :=
  h.keep (put_unit ..) fun g hg => get_put_other _ _ _ _ _ _ (by
    rw [addr_status hg]
    exact (hf.trans_le (f.reg.base_le_addr i)).ne)

protected theorem setStrand {b k v : Nat} (h : StatusKept c d) (hb : 1 ≤ b) : StatusKept c (setStrand b k v d) :=
  h.keep rfl fun g hg => get_setStrand _ _ _ _ _ _ (by
    rw [addr_status hg]
    unfold strandAddr
    omega)

protected theorem putStrands {vs : List (Nat × Nat)} (h : StatusKept c d) : StatusKept c (putStrands vs d) :=
  h.keep (putStrands_unit ..) fun g hg => get_putStrands _ _ _ _ (by rw [addr_status hg]; decide) (by rw [addr_status hg]; decide)

/-- A fault that stops no unit. -/
protected theorem raise {code obj aux : Nat} {value : Int} (h : StatusKept c d) (hc : faultClass code ≤ 2) : StatusKept c (raise code obj d aux value) := by
  refine h.keep ?_ fun g hg => get_raise _ _ _ _ _ _ _ (by rw [addr_status hg]; decide)
  rcases Nat.le_or_eq_of_le_succ hc with hle | htwo
  · exact congrArg Prod.fst (noted_raise_of_class hle obj d aux value).1
  · exact raise_unit_of_class_two htwo

/-! Pins and outputs. -/

theorem of_pinsMoved {n : Nat} (h : StatusKept c d) (hp : PinsMoved n d e) : StatusKept c e := by
  have happart {g f : Fld} (hg : g.reg = SYS_STATUS) (hf : f.reg = DRV_AX_PINS) : Apart g 0 f n := by
    refine .inl ?_
    rw [addr_status hg, hf]
    exact ((by decide : 0x10000 < DRV_AX_PINS.base).trans_le (Reg.base_le_addr _ n)).ne
  exact h.keep (unpinned_unit hp.unpinned_eq) fun g hg => hp.get_eq (happart hg rfl) (happart hg rfl)

protected theorem driveOff {n : Nat} (h : StatusKept c d) : StatusKept c (driveOff n d) := by
  have hput : StatusKept c (Machine.put DRV_AX_STATUS_DRIVE n 0 d) := h.put (by decide)
  exact h.ite (hput.of_pinsMoved (PinsMoved.refl _).drives.settlePins)

protected theorem pinTo {n b : Nat} {on : Bool} (h : StatusKept c d) : StatusKept c (pinTo n b on d) :=
  .ite (h.of_pinsMoved (PinsMoved.refl d).pinOn) (h.of_pinsMoved (PinsMoved.refl d).pinOff)

protected theorem drivePins {ph p n : Nat} (h : StatusKept c d) : StatusKept c (drivePins ph p n d) :=
  have h1 : StatusKept c (settlePins n d) := h.of_pinsMoved (PinsMoved.refl d).settlePins
  .ite h1 (forL_keeps (fun _ _ h => .ite h.pinTo.pinTo h.pinTo.pinTo) h1)

protected theorem auxSet {j : Nat} {active : Bool} (h : StatusKept c d) : StatusKept c (auxSet j active d) := by
  unfold Machine.auxSet
  extract_lets d1 d2
  have h1 : StatusKept c d1 := h
  have h2 : StatusKept c d2 := h1.put (by decide)
  exact h1.ite (h2.ite (h2.setStrand (by decide)))

protected theorem refreshPins {g : Nat} (h : StatusKept c d) : StatusKept c (refreshPins g d) := by
  unfold Machine.refreshPins
  split
  · exact h
  · exact h.ite (forL_keeps (fun _ _ h => h.auxSet) h.drivePins.drivePins)

protected theorem gpioFollow {pin : Nat} {level : Bool} (h : StatusKept c d) : StatusKept c (gpioFollow pin level d) := by
  unfold Machine.gpioFollow
  extract_lets x
  split
  · exact h.ite (.putStrands (.put (d := { d with pins := _ }) h (by decide)))
  · exact h

protected theorem gpioDrive {pin : Nat} {level : Bool} (h : StatusKept c d) : StatusKept c (gpioDrive pin level d) :=
  .ite (d := { d with gpioOut := _ }) h (.gpioFollow h)

/-! The break of an axis (R166). -/

protected theorem plyStop {p : Nat} (h : StatusKept c d) : StatusKept c (plyStop p d) := by
  unfold Machine.plyStop
  split
  · exact h.ite (.putStrands (.put (.put (d := { d with plies := _ }) h (by decide)) (by decide)))
  · exact h

protected theorem axisBrake {r : Rec} {on : Bool} (h : StatusKept c d) : StatusKept c (axisBrake r on d) :=
  have h1 {v} : StatusKept c (Machine.put MOT_AX_STATE_BRAKE (r.u P0601_AXIS) v d) := h.put (by decide)
  .ite h1 (.ite h1.auxSet h1.gpioDrive)

protected theorem memberFault {a : Nat} (h : StatusKept c d) : StatusKept c (memberFault a d) := by
  unfold Machine.memberFault
  split
  · exact .ite (.raise (.put (d := { d with mgrps := _ }) h (by decide)) (by decide)) h
  · exact h

protected theorem axisDriveOff {r : Rec} (h : StatusKept c d) : StatusKept c (axisDriveOff r d) := h.driveOff.ite (.ite h h)

protected theorem axisBreak {a : Nat} (h : StatusKept c d) : StatusKept c (axisBreak a d) := by
  unfold Machine.axisBreak
  split
  next r _ =>
    extract_lets x d1 home
    have h1 {t} : StatusKept c { d1 with axes := t } := h.memberFault
    have h2 {t} : StatusKept c (axisDriveOff r (forL (axisPlies r d1) Machine.plyStop (Machine.axisBrake r true { d1 with axes := t }))) :=
      .axisDriveOff (forL_keeps (fun _ _ h => h.plyStop) (.axisBrake h1))
    exact h.ite (.put (.put (.put (.put (.put h2 (by decide)) (by decide)) (by decide)) (by decide)) (by decide))
  · exact h

protected theorem raiseBreak {code a aux : Nat} {value : Int} (h : StatusKept c d) (hc : faultClass code ≤ 2) :
    StatusKept c (raiseBreak code a d aux value) :=
  onlyIf_keeps (h.raise hc) fun h => h.axisBreak

/-! Drives and outputs under a halt (R183, R192). -/

protected theorem driveHalt (h : StatusKept c d) : StatusKept c (driveHalt d) := by
  refine forL_keeps (fun _ _ h => h.put (by decide)) (forL_keeps (fun r e h => h.ite (.raiseBreak ?_ (by decide))) h)
  exact ((h.put (by decide)).put (by decide)).of_pinsMoved (PinsMoved.refl _).pinsWithin2

protected theorem driveUnhalt (h : StatusKept c d) : StatusKept c (driveUnhalt d) :=
  forN_keeps (fun _ _ h => h.refreshPins) (forL_keeps (fun _ _ h => .ite (h.put (by decide)) (StatusKept.put h (by decide)).auxSet) h)

protected theorem gpioUnhalt (h : StatusKept c d) : StatusKept c (gpioUnhalt d) := forN_keeps (fun _ _ h => h.gpioFollow) h

/-! Tasks under a halt (R245). -/

protected theorem taskMod {t : Nat} {f : TaskX → TaskX} (h : StatusKept c d) : StatusKept c (taskMod t f d) := h

protected theorem shuEngMod {n : Nat} {f : ShuEngX → ShuEngX} (h : StatusKept c d) : StatusKept c (shuEngMod n f d) := h

protected theorem heldMark {t : Nat} (h : StatusKept c d) : StatusKept c (heldMark t d) := h

protected theorem varSet {bank a v : Nat} (h : StatusKept c d) : StatusKept c (varSet bank a v d) := h

protected theorem taskPut {t a v : Nat} (h : StatusKept c d) : StatusKept c (taskPut t a v d) := by
  unfold Machine.taskPut
  extract_lets b d1
  have h1 : StatusKept c d1 := h.varSet
  refine .ite ?_ h1
  split
  · exact h1.varSet
  · exact h1

protected theorem spend {n k : Nat} (h : StatusKept c d) : StatusKept c (spend n k d) :=
  have h1 {f} : StatusKept c (Machine.shuEngMod n f d) := h
  h1.put (by decide)

protected theorem engTake {n t : Nat} (h : StatusKept c d) : StatusKept c (engTake n t d) :=
  have h1 {f k} : StatusKept c (Machine.spend n k (Machine.shuEngMod n f d)) := .spend h
  h.ite (h1.ite (.taskMod (forL_keeps (fun _ _ h => h.taskPut) h1)))

protected theorem enterBreak {n t : Nat} (h : StatusKept c d) : StatusKept c (enterBreak n t d) := by
  have h1 {f g} : StatusKept c (Machine.taskMod t f (Machine.shuEngMod n g (Machine.engTake n t d))) := h.engTake
  exact .raise (.taskMod (.put (.put (.put h1 (by decide)) (by decide)) (by decide))) (by decide)

protected theorem breakSettle {n k : Nat} (h : StatusKept c d) : StatusKept c (breakSettle n k d) := by
  induction k generalizing d with
  | zero => exact h
  | succ k ih =>
    unfold Machine.breakSettle
    split
    · exact h
    · exact (ih h.enterBreak).ite h

protected theorem engSettle {n : Nat} (h : StatusKept c d) : StatusKept c (engSettle n d) := (h.put (by decide)).ite (h.breakSettle.put (by decide))

protected theorem shuHalt (h : StatusKept c d) : StatusKept c (shuHalt d) :=
  forL_keeps (P := StatusKept c) (fun _ _ h => h.heldMark) h

protected theorem shuUnhalt (h : StatusKept c d) : StatusKept c (shuUnhalt d) := by
  refine forL_keeps (fun n e h => .engSettle h) (forL_keeps (fun r e h => ?_) h)
  have h1 : StatusKept c (heldEnd (r.u P0902_TASK) e) := h
  extract_lets t d1
  have h2 : StatusKept c d1 := h1.ite h
  exact h2.taskMod.ite h2

end StatusKept

/-! ## The ball of each claim index (R492 to R494) -/

/-- The claim index of the ball at row `r` and column `c`. -/
def claimAt (r c : Nat) : Option Nat := (ballAt r c).bind claimIndexOf

/-- The region of a claim index and its place in that region's list of signals, as R494 counts them. -/
def claimSignal (i : Nat) : BallRegion × Nat :=
  if i < 96 then (.bridge, i)
  else if i < 128 then (.auxGpio, i - 96)
  else if i < 182 then (.sigmaDelta, i - 128)
  else if i < 254 then (.feedback, i - 182)
  else if i < 286 then (.auxGpio, 32 + (i - 254))
  else if i < 326 then (.field, i - 286)
  else if i < 332 then (.system, i - 326)
  else if i < 344 then (.serdes, i - 332)
  else if i < 536 then (.nand ((i - 344) / 24), (i - 344) % 24)
  else if i < 540 then (.serdes, i - 524)
  else (.system, i - 521)

/-- Row and column of place `k` in a region's order: the inverse of `regionPlace`. -/
def placeAt (q : RegionRow) (k : Nat) : Nat × Nat :=
  let w := q.cols.2 - q.cols.1 + 1
  let h := q.rows.2 - q.rows.1 + 1
  if q.rows.2 ≤ 10 then (10 - k / w, q.cols.1 + k % w)
  else if 25 ≤ q.rows.1 then (25 + k / w, q.cols.1 + k % w)
  else if q.cols.2 ≤ 10 then (q.rows.1 + k % h, 10 - k / h)
  else (q.rows.1 + k % h, 25 + k / h)

/-- Row and column of the ball that claim index `i` names; a region's signals stand behind its supply and ground balls. -/
def claimPlace (i : Nat) : Nat × Nat :=
  match regionRow (claimSignal i).1 with
  | some q => placeAt q ((q.supply.map (·.2)).sum + q.grounds + (claimSignal i).2)
  | none => (0, 0)

/-- The grid ends at row 34 and column 34. -/
theorem ballAt_off_grid {r c : Nat} (h : 34 < r ∨ 34 < c) : ballAt r c = none := by
  have hregion : regionAt r c = none := if_pos (by omega)
  unfold ballAt
  rw [hregion]
  rfl

theorem claimAt_claimPlace : ∀ i < 542, claimAt (claimPlace i).1 (claimPlace i).2 = some i := by decide +kernel

/-- Over the whole grid, every ball with a claim index is the one at that index's place. -/
theorem claimPlace_of_grid : ∀ r < 35, ∀ c < 35, (claimAt r c).all (fun i => decide (i < 542) && claimPlace i == (r, c)) = true := by decide +kernel

theorem claimPlace_of_claimAt {r c i : Nat} (h : claimAt r c = some i) : i < 542 ∧ claimPlace i = (r, c) := by
  have hgrid : r < 35 ∧ c < 35 := by
    by_contra hoff
    have hnone : ballAt r c = none := ballAt_off_grid (by omega)
    unfold claimAt at h
    rw [hnone] at h
    simp at h
  have hall := claimPlace_of_grid r hgrid.1 c hgrid.2
  rw [h] at hall
  simpa using hall

/-! ## The monitors (R192, R448, R499, R501) -/

section

variable {f : Fld} {i n rail code obj : Nat} {tj : Int} {d : Dev}

/-- The pins of the drives below `k` go inactive; the unit's life and every register below the pins' stand. -/
theorem forN_pinsOff (k : Nat) (d : Dev) :
    (forN k pinsOff d).unit = d.unit ∧ (∀ n < k, get DRV_AX_PINS_COMMANDED n (forN k pinsOff d) = 0) ∧
      ∀ f i, f.reg.addr i < DRV_AX_PINS.base → get f i (forN k pinsOff d) = get f i d := by
  induction k with
  | zero => exact ⟨rfl, fun n hn => absurd hn (Nat.not_lt_zero n), fun _ _ _ => rfl⟩
  | succ k ih =>
    obtain ⟨hunit, hoff, hget⟩ := ih
    have hmoved : PinsMoved k (forN k pinsOff d) (forN (k + 1) pinsOff d) := (PinsMoved.refl _).pinsOff
    refine ⟨(unpinned_unit hmoved.unpinned_eq).trans hunit, fun n hn => ?_, fun f i hf => ?_⟩
    · rcases Nat.lt_succ_iff_lt_or_eq.1 hn with hlt | rfl
      · have happart {g : Fld} (hg : g.ofDrive) : Apart DRV_AX_PINS_COMMANDED n g k := OthersKept.apart_drive (.inr rfl) hg hlt.ne
        exact (hmoved.get_eq (happart (.inr rfl)) (happart (.inr rfl))).trans (hoff n hlt)
      · exact commanded_pinsOff
    · have happart {g : Fld} (hg : g.reg = DRV_AX_PINS) : Apart f i g k := .inl (hf.trans_le (hg ▸ Reg.base_le_addr _ k)).ne
      exact (hmoved.get_eq (happart rfl) (happart rfl)).trans (hget f i hf)

theorem get_heddleRestart (h : Apart f i WEFT_STATUS_HEDDLE 0) : get f i (heddleRestart d) = get f i d :=
  ite_keeps (P := fun e => get f i e = get f i d) rfl (get_put_apart h)

theorem heddleRestart_unit : (heddleRestart d).unit = d.unit := ite_keeps (P := fun e : Dev => e.unit = d.unit) rfl (put_unit ..)

theorem monitorStop_unit :
    (monitorStop code obj d).unit = { d.unit with phase := .monitorReset, monitorCode := code, monitorObj := obj, coldRequest := false } :=
  (put_unit ..).trans (heddleRestart_unit.trans (forN_pinsOff 16 _).1)

theorem activeOut_monitorStop : get PAIR_STATUS_ACTIVE_OUT 0 (monitorStop code obj d) = 0 := get_put_zero _ _ _ (by decide)

theorem commanded_monitorStop (hn : n < 16) : get DRV_AX_PINS_COMMANDED n (monitorStop code obj d) = 0 := by
  have hoff {e} : get DRV_AX_PINS_COMMANDED n (forN 16 pinsOff e) = 0 := (forN_pinsOff 16 e).2.1 n hn
  have hn' : n ≤ 15 := by omega
  exact (get_put_apart (.reg 15 0 hn' le_rfl (by decide))).trans ((get_heddleRestart (.reg 15 0 hn' le_rfl (by decide))).trans hoff)

theorem inRange_monitorStop : get SYS_SUPPLY_IN_RANGE 0 (monitorStop code obj d) = get SYS_SUPPLY_IN_RANGE 0 d :=
  (get_put_apart (.reg 0 0 le_rfl le_rfl (by decide))).trans
    ((get_heddleRestart (.reg 0 0 le_rfl le_rfl (by decide))).trans ((forN_pinsOff 16 _).2.2 _ _ (by decide)))

theorem ballPad_of_monitorReset {g : BallGroup} (h : d.unit.phase = .monitorReset) : ballPad g d = stoppedPad g := by
  unfold ballPad
  rw [h]
  cases g <;> rfl

theorem clockStopAt_of_started (hr : d.unit.phase ≠ .reset) (hm : d.unit.phase ≠ .monitorReset) : clockStopAt d = monitorStop 0x0101 0 d :=
  if_neg (by simp [hr, hm])

/-- The rail shows as out of range. -/
def railOut (rail : Nat) (d : Dev) : Dev := put SYS_SUPPLY_IN_RANGE 0 (setBit (get SYS_SUPPLY_IN_RANGE 0 d) rail false) d

theorem inRange_railOut (h : rail < 8) : bit (get SYS_SUPPLY_IN_RANGE 0 (railOut rail d)) rail = false :=
  (bit_get_putBit (by decide) (h.trans (by decide))).trans (if_pos rfl)

theorem supplyFaultAt_of_started (hr : d.unit.phase ≠ .reset) (hm : d.unit.phase ≠ .monitorReset) (hrail : rail < 8) :
    supplyFaultAt rail d = monitorStop 0x0102 rail (railOut rail d) :=
  if_neg (by simp [hr, hm, hrail])

/-! The temperature (R501). -/

/-- A temperature in 16 bits reads as itself. -/
theorem toInt_ofInt_of_range (hlo : -32768 ≤ tj) (hhi : tj ≤ 32767) : toInt 16 (ofInt 16 tj) = tj := by
  unfold toInt ofInt
  extract_lets m
  split <;> omega

/-- TJ and its maximum shown. -/
def tempShown (tj : Int) (d : Dev) : Dev :=
  if getS SYS_TEMP_TJ_MAX 0 (putS SYS_TEMP_TJ 0 tj d) < tj then putS SYS_TEMP_TJ_MAX 0 tj (putS SYS_TEMP_TJ 0 tj d) else putS SYS_TEMP_TJ 0 tj d

theorem status_putS_temp {g : Fld} {v : Int} (hg : g.reg = SYS_TEMP) (hf : f.reg = SYS_STATUS) : get f 0 (putS g 0 v d) = get f 0 d :=
  get_put_other _ _ _ _ _ _ (by rw [hf, hg]; decide)

theorem tj_tempShown : get SYS_TEMP_TJ 0 (tempShown tj d) = ofInt 16 tj := by
  have hput : get SYS_TEMP_TJ 0 (putS SYS_TEMP_TJ 0 tj d) = ofInt 16 tj :=
    (get_put_same _ _ _ _ (by decide)).trans (Nat.mod_eq_of_lt (ofInt_lt 16 tj))
  exact ite_keeps (P := fun e => get SYS_TEMP_TJ 0 e = ofInt 16 tj) ((get_put_apart (.bits (by decide))).trans hput) hput

theorem tjMax_tempShown (hlo : -32768 ≤ tj) (hhi : tj ≤ 32767) : getS SYS_TEMP_TJ_MAX 0 (tempShown tj d) = max (getS SYS_TEMP_TJ_MAX 0 d) tj := by
  have hkept : getS SYS_TEMP_TJ_MAX 0 (putS SYS_TEMP_TJ 0 tj d) = getS SYS_TEMP_TJ_MAX 0 d := congrArg (toInt 16) (get_put_apart (.bits (by decide)))
  have hput {e} : getS SYS_TEMP_TJ_MAX 0 (putS SYS_TEMP_TJ_MAX 0 tj e) = tj := by
    have hget : get SYS_TEMP_TJ_MAX 0 (putS SYS_TEMP_TJ_MAX 0 tj e) = ofInt 16 tj :=
      (get_put_same _ _ _ _ (by decide)).trans (Nat.mod_eq_of_lt (ofInt_lt 16 tj))
    exact (congrArg (toInt 16) hget).trans (toInt_ofInt_of_range hlo hhi)
  unfold tempShown
  rw [hkept]
  split
  · rw [hput]
    omega
  · rw [hkept]
    omega

theorem tjHigh_tempShown : get SYS_STATUS_TJ_HIGH 0 (tempShown tj d) = get SYS_STATUS_TJ_HIGH 0 d :=
  have h : get SYS_STATUS_TJ_HIGH 0 (putS SYS_TEMP_TJ 0 tj d) = get SYS_STATUS_TJ_HIGH 0 d := status_putS_temp rfl rfl
  ite_keeps (P := fun e => get SYS_STATUS_TJ_HIGH 0 e = get SYS_STATUS_TJ_HIGH 0 d) ((status_putS_temp rfl rfl).trans h) h

theorem tjThresholdAt_of_started (hr : d.unit.phase ≠ .reset) (hm : d.unit.phase ≠ .monitorReset) :
    tjThresholdAt tj d = if 1050 < tj then raise 0x0103 0 (put SYS_STATUS_TJ_HIGH 0 1 (tempShown tj d)) 0 (divHalfUp tj 10)
      else if tj < 1000 then clearFault 0x0103 0 (put SYS_STATUS_TJ_HIGH 0 0 (tempShown tj d)) else tempShown tj d :=
  if_neg (by simp [hr, hm])

/-- The fault of TJ_HIGH leaves SYS_TEMP as it stands. -/
theorem temp_tjThresholdAt (hr : d.unit.phase ≠ .reset) (hm : d.unit.phase ≠ .monitorReset) (hf : f.reg = SYS_TEMP) :
    get f 0 (tjThresholdAt tj d) = get f 0 (tempShown tj d) := by
  have hquiet : f.reg.addr 0 ∉ raiseAddrs := by
    rw [hf]
    decide
  have hput {v} : get f 0 (put SYS_STATUS_TJ_HIGH 0 v (tempShown tj d)) = get f 0 (tempShown tj d) :=
    get_put_other _ _ _ _ _ _ (by rw [hf]; decide)
  rw [tjThresholdAt_of_started hr hm]
  split
  · exact (get_raise _ _ _ _ _ _ _ hquiet).trans hput
  · split
    · exact (get_clearFault hquiet).trans hput
    · rfl

theorem tjMax_tjThresholdAt (hr : d.unit.phase ≠ .reset) (hm : d.unit.phase ≠ .monitorReset) (hlo : -32768 ≤ tj) (hhi : tj ≤ 32767) :
    getS SYS_TEMP_TJ_MAX 0 (tjThresholdAt tj d) = max (getS SYS_TEMP_TJ_MAX 0 d) tj :=
  (congrArg (toInt 16) (temp_tjThresholdAt hr hm rfl)).trans (tjMax_tempShown hlo hhi)

theorem tjHigh_tjThresholdAt (hr : d.unit.phase ≠ .reset) (hm : d.unit.phase ≠ .monitorReset) :
    get SYS_STATUS_TJ_HIGH 0 (tjThresholdAt tj d) = if 1050 < tj then 1 else if tj < 1000 then 0 else get SYS_STATUS_TJ_HIGH 0 d := by
  rw [tjThresholdAt_of_started hr hm]
  split
  · exact (get_raise _ _ _ _ _ _ _ (by decide)).trans (get_put_one _ _ _ (by decide) (by decide))
  · split
    · exact (get_clearFault (by decide)).trans (get_put_zero _ _ _ (by decide))
    · exact tjHigh_tempShown

end

/-! ## The debug halt (R41, R192) -/

section

variable {fuses : Nat} {d : Dev}

theorem debugPort_halt : (debugPort fuses).halt = decide (bits fuses 576 2 ≤ 1) := rfl

/-- The halt's own part: the unit halts, HALTED shows it, HALTS counts it. -/
def haltShown (d : Dev) : Dev := bumpSat SYS_STATUS_HALTS 0 (put SYS_STATUS_HALTED 0 1 (unitMod (fun x => { x with halted := true }) d))

theorem haltShown_unit : (haltShown d).unit = { d.unit with halted := true } := (put_unit ..).trans (put_unit ..)

theorem halted_haltShown : get SYS_STATUS_HALTED 0 (haltShown d) = 1 :=
  (get_put_apart (.bits (by decide))).trans (get_put_one _ _ _ (by decide) (by decide))

theorem halts_haltShown : get SYS_STATUS_HALTS 0 (haltShown d) = satU 16 (get SYS_STATUS_HALTS 0 d + 1) := by
  unfold haltShown
  rw [get_bumpSat (by decide), get_put_apart (.bits (by decide))]
  rfl

theorem debugHaltAt_of_allowed (hport : bits fuses 576 2 < 2) (hhalted : d.unit.halted = false) (hon : blocksOn d = true) :
    debugHaltAt fuses d = shuHalt (driveHalt (raise 0x0104 0 (haltShown d))) :=
  if_neg (by simp [debugPort_halt, hhalted, hon, Nat.le_of_lt_succ hport])

theorem statusKept_debugHaltAt (hport : bits fuses 576 2 < 2) (hhalted : d.unit.halted = false) (hon : blocksOn d = true) :
    StatusKept (haltShown d) (debugHaltAt fuses d) := by
  rw [debugHaltAt_of_allowed hport hhalted hon]
  exact ((StatusKept.refl _).raise (by decide)).driveHalt.shuHalt

theorem debugHaltAt_of_locked (hport : 2 ≤ bits fuses 576 2) : debugHaltAt fuses d = d :=
  if_pos (.inl (by simp [debugPort_halt, Nat.lt_of_succ_le hport]))

/-- The end's own part: the unit runs on, HALTED clears. -/
def haltEnded (d : Dev) : Dev := put SYS_STATUS_HALTED 0 0 (unitMod (fun x => { x with halted := false }) d)

theorem haltEnded_unit : (haltEnded d).unit = { d.unit with halted := false } := put_unit ..

theorem statusKept_debugHaltEndAt (h : d.unit.halted = true) : StatusKept (haltEnded d) (debugHaltEndAt d) := by
  have hat : debugHaltEndAt d = shuUnhalt (gpioUnhalt (driveUnhalt (haltEnded d))) := if_pos h
  rw [hat]
  exact (StatusKept.refl _).driveUnhalt.gpioUnhalt.shuUnhalt

end

/-- Settles O11: a monitor's stop, the halt and its end write SYS_STATUS, SYS_SUPPLY and SYS_TEMP only in their own part, and what follows spares
them; `claimPlace` is the inverse of the claim indices over the grid. -/
theorem monitorsAndHalt : Obligations.MonitorsAndHalt := by
  unfold Obligations.MonitorsAndHalt
  refine ⟨⟨?_, ?_, ?_⟩, ⟨?_, ?_, ?_⟩, ?_, fun r c i h => (claimPlace_of_claimAt h).1⟩
  · intro dt s hr hm
    rw [gives_onDev_iff rfl, clockStopAt_of_started (d := later dt s) hr hm, monitorStop_unit]
    exact ⟨rfl, rfl, activeOut_monitorStop, fun g => ballPad_of_monitorReset (congrArg UnitX.phase monitorStop_unit), fun n => commanded_monitorStop⟩
  · intro dt rail s hr hm hrail
    rw [gives_onDev_iff rfl, supplyFaultAt_of_started (d := later dt s) hr hm hrail, monitorStop_unit, inRange_monitorStop]
    exact ⟨rfl, rfl, rfl, inRange_railOut hrail, activeOut_monitorStop, fun n => commanded_monitorStop⟩
  · intro dt tj s hr hm hlo hhi
    rw [gives_onDev_iff rfl]
    have hmax := tjMax_tjThresholdAt (d := later dt s) hr hm hlo hhi
    exact ⟨(temp_tjThresholdAt (d := later dt s) hr hm rfl).trans tj_tempShown, (le_max_left _ _).trans_eq hmax.symm,
      tjHigh_tjThresholdAt (d := later dt s) hr hm⟩
  · intro dt s hport hhalted hon
    rw [gives_onDev_iff rfl]
    have hkept := statusKept_debugHaltAt (d := later dt s) hport hhalted hon
    exact ⟨congrArg UnitX.halted (hkept.unit_eq.trans haltShown_unit), (hkept.get_eq rfl).trans halted_haltShown,
      (hkept.get_eq rfl).trans halts_haltShown⟩
  · intro dt s hport
    rw [gives_onDev_iff rfl]
    exact debugHaltAt_of_locked hport
  · intro dt s hhalted
    rw [gives_onDev_iff rfl]
    have hkept := statusKept_debugHaltEndAt (d := later dt s) hhalted
    exact ⟨congrArg UnitX.halted (hkept.unit_eq.trans haltEnded_unit), (hkept.get_eq rfl).trans (get_put_zero _ _ _ (by decide))⟩
  · intro i hi
    refine ⟨_, _, claimAt_claimPlace i hi, fun r c h => ?_⟩
    rw [(claimPlace_of_claimAt h).2]
    exact ⟨rfl, rfl⟩

end Sys2Proof.Machine

/-! Proofs for the family 09_shuttle_program.md: hold and breakpoints of tasks, the instructions of the cyclic program, and its errors. -/

namespace Sys2Proof.Machine

/-! ## A task of an engine that the Shuttle does not have (R244, R250) -/

/-- Task 0 on engine 25; the loader refuses such a record, for it takes engines 0 and 1 only (R250). -/
def strayTask : Rec := recOfFields 0 0x0902 20 [(P0902_ENGINE, 25)]

/-- A unit in RUN with that task, and session 0 of level 3. -/
def strayTaskDev : Dev :=
  { unit := { phase := .run }, img := some ⟨zeros 256, [strayTask]⟩ } |> put ETH_SVC_SESSION_ACTIVE 0 1 |> put ETH_SVC_SESSION_LEVEL 0 3

/-- The session's next request. -/
def strayRequest : SvcHdr := { session := 0, seq := 1 }

theorem accepts_strayRequest : Accepts 0 strayRequest 3 1 (later 0 { dev := strayTaskDev }) := by
  unfold Accepts
  decide +kernel

theorem strayTask_present : ∀ t, t < 8 → bit 1 t = true → (taskRec t strayTaskDev).isSome = true := by
  decide +kernel

/-- Index 5 is stored as breakpoint 0; then RUNNING of engine 25, whose register would lie at the address of SHU_TASK_BKPT 0, is written over its
bits 4 to 7. -/
theorem breakpoint_of_strayTask : get SHU_TASK_BKPT_BKPT0 0 (doShuttle 1 1 [5] (arrived 0 (later 0 { dev := strayTaskDev }))).dev = 0xF5 := by
  decide +kernel

/-- Refutes O19: the statement does not ask that the loader's checks accept the image. Where the record of task 0 names engine 25, setting
breakpoint 0 to index 5 shows the engine as idle in the same register, and BKPT0 reads 0xF5. -/
theorem not_shuttleControl : ¬ Obligations.ShuttleControl := by
  rintro ⟨-, hbreak, -⟩
  have hgives := hbreak 0 strayRequest 1 [5] { dev := strayTaskDev } 0 0 accepts_strayRequest (by decide) (by decide +kernel) strayTask_present
    (by decide) (by decide) (by decide) (by decide) (by decide)
  obtain ⟨-, -, hfive⟩ := (gives_onDev_iff rfl).1 hgives
  rw [svcTake_of_accepts accepts_strayRequest, get_answer, breakpoint_of_strayTask] at hfive
  exact absurd hfive (by decide)

end Sys2Proof.Machine

namespace Sys2Proof.Machine

/-! ## Tasks, engines and variables -/

section

variable (t u e : Nat) (f : TaskX → TaskX) (g : ShuEngX → ShuEngX) (d : Dev)

@[simp] theorem taskX_taskMod_same : taskX t (taskMod t f d) = f (taskX t d) := Tab.get_put_same ..

theorem taskX_taskMod_other {u t : Nat} (h : u ≠ t) : taskX u (taskMod t f d) = taskX u d := Tab.get_put_other _ _ _ _ _ h

@[simp] theorem taskX_shuEngMod : taskX t (shuEngMod e g d) = taskX t d := rfl

@[simp] theorem shuEngX_shuEngMod_same : shuEngX e (shuEngMod e g d) = g (shuEngX e d) := Tab.get_put_same ..

theorem shuEngX_shuEngMod_other {k e : Nat} (h : k ≠ e) : shuEngX k (shuEngMod e g d) = shuEngX k d := Tab.get_put_other _ _ _ _ _ h

@[simp] theorem shuEngX_taskMod : shuEngX e (taskMod t f d) = shuEngX e d := rfl

variable (fld : Fld) (i v : Nat)

@[simp] theorem taskX_put : taskX t (put fld i v d) = taskX t d := by simp [taskX]

@[simp] theorem shuEngX_put : shuEngX e (put fld i v d) = shuEngX e d := by simp [shuEngX]

@[simp] theorem taskX_spend (n : Nat) : taskX t (spend e n d) = taskX t d := taskX_put ..

@[simp] theorem taskX_showEngine : taskX t (showEngine e d) = taskX t d := taskX_put ..

end

/-! ## Which scan an engine executes (R222) -/

/-- What decides of a task's scan whether its engine executes it. -/
def TaskX.turn (x : TaskX) : Bool × Bool × Nat := (x.live, x.broken, x.stamp)

/-- From `c` to `d` the images that the tasks run, and whose turn it is, are the same. -/
structure SameTurns (c d : Dev) : Prop where
  img : d.img = c.img
  next : d.next = c.next
  switched : d.switched = c.switched
  turn : ∀ u, (taskX u d).turn = (taskX u c).turn

namespace SameTurns

variable {c d : Dev}

theorem refl (d : Dev) : SameTurns d d := ⟨rfl, rfl, rfl, fun _ => rfl⟩

theorem trans {b : Dev} (h : SameTurns b c) (k : SameTurns c d) : SameTurns b d :=
  ⟨k.img.trans h.img, k.next.trans h.next, k.switched.trans h.switched, fun u => (k.turn u).trans (h.turn u)⟩

theorem taskSwitched (h : SameTurns c d) (u : Nat) : taskSwitched u d = taskSwitched u c := by
  unfold Machine.taskSwitched
  rw [h.switched]

theorem taskImg (h : SameTurns c d) (u : Nat) : taskImg u d = taskImg u c := by
  unfold Machine.taskImg imgFor
  rw [h.switched, h.next, h.img]

theorem taskRec (h : SameTurns c d) (u : Nat) : taskRec u d = taskRec u c :=
  congrArg (fun m : Option Img => m.bind (·.find 0x0902 P0902_TASK u)) (h.taskImg u)

theorem taskEngine (h : SameTurns c d) (u : Nat) : taskEngine u d = taskEngine u c := by
  unfold Machine.taskEngine
  rw [h.taskRec]

theorem live (h : SameTurns c d) (u : Nat) : (taskX u d).live = (taskX u c).live := congrArg Prod.fst (h.turn u)

theorem broken (h : SameTurns c d) (u : Nat) : (taskX u d).broken = (taskX u c).broken := congrArg (·.2.1) (h.turn u)

theorem stamp (h : SameTurns c d) (u : Nat) : (taskX u d).stamp = (taskX u c).stamp := congrArg (·.2.2) (h.turn u)

theorem nextTask (h : SameTurns c d) (e : Nat) : nextTask e d = nextTask e c := by
  have hurgent (a b : Nat) : moreUrgent a b d = moreUrgent a b c := by
    unfold moreUrgent
    rw [h.taskRec, h.taskRec, h.stamp, h.stamp]
  unfold Machine.nextTask
  simp only [h.live, h.broken, h.taskEngine, hurgent]

protected theorem put {f : Fld} {i v : Nat} (h : SameTurns c d) : SameTurns c (put f i v d) :=
  h.trans ⟨put_img .., put_next .., put_switched .., fun _ => by rw [taskX_put]⟩

protected theorem shuEngMod {e : Nat} {f : ShuEngX → ShuEngX} (h : SameTurns c d) : SameTurns c (shuEngMod e f d) := ⟨h.img, h.next, h.switched, h.turn⟩

protected theorem taskMod {t : Nat} {f : TaskX → TaskX} (h : SameTurns c d) (hf : (f (taskX t d)).turn = (taskX t d).turn) : SameTurns c (taskMod t f d) :=
  h.trans ⟨rfl, rfl, rfl, fun u => by
    rcases eq_or_ne u t with rfl | hu
    · rw [taskX_taskMod_same, hf]
    · rw [taskX_taskMod_other f d hu]⟩

protected theorem spend {e n : Nat} (h : SameTurns c d) : SameTurns c (spend e n d) := h.shuEngMod.put

protected theorem varSet {b a v : Nat} (h : SameTurns c d) : SameTurns c (varSet b a v d) := ⟨h.img, h.next, h.switched, h.turn⟩

protected theorem ite {p : Prop} {_ : Decidable p} {e : Dev} (hd : SameTurns c d) (he : SameTurns c e) : SameTurns c (if p then d else e) := ite_keeps hd he

protected theorem taskPut {t a v : Nat} (h : SameTurns c d) : SameTurns c (taskPut t a v d) := by
  unfold Machine.taskPut
  extract_lets b d1
  have h1 : SameTurns c d1 := h.varSet
  refine .ite ?_ h1
  split
  · exact h1.varSet
  · exact h1

protected theorem engTake {e t : Nat} (h : SameTurns c d) : SameTurns c (engTake e t d) := by
  unfold Machine.engTake
  extract_lets y x cx cut d1 d2
  have h2 : SameTurns c d2 := h.shuEngMod.spend
  exact h.ite (h2.ite (.taskMod (forL_keeps (fun _ _ h => h.taskPut) h2) rfl))

end SameTurns

/-! ## An engine that turns to a scan (R222, R223) -/

theorem taskPut_tasks (t a v : Nat) (d : Dev) : (taskPut t a v d).shu.tasks = d.shu.tasks := by
  unfold taskPut
  extract_lets b d1
  split
  · split <;> rfl
  · rfl

theorem taskPut_live (t a v : Nat) (d : Dev) : (taskPut t a v d).live = d.live := by
  unfold taskPut
  extract_lets b d1
  split
  · split <;> rfl
  · rfl

/-- What does not concern the start of a scan, the engine that turns to it leaves alone. -/
theorem task_engTake {α : Type} (g : TaskX → α)
    (hg : ∀ x : TaskX, g { x with begun := true, frz := [], boxes := [], regs := List.replicate 16 0, stack := [], posts := [], log := [] } = g x)
    (e t u : Nat) (d : Dev) : g (taskX u (engTake e t d)) = g (taskX u d) := by
  unfold engTake
  extract_lets y x c cut d1 d2
  have h2 : taskX u d2 = taskX u d := by simp [d2, d1]
  have hfrz (k : Nat) : taskX k (forL x.frz (fun p d => taskPut t p.1 p.2 d) d2) = taskX k d2 :=
    forL_keeps (P := fun e => taskX k e = taskX k d2) (fun _ _ h => by rw [← h, taskX, taskPut_tasks, taskX]) rfl
  split
  · rfl
  · split
    · rw [h2]
    · rcases eq_or_ne u t with rfl | hu
      · rw [taskX_taskMod_same, hg, hfrz, h2]
      · rw [taskX_taskMod_other _ _ hu, hfrz, h2]

/-- Of the registers it writes BUSY_NS alone. -/
theorem live_engTake {e t a z : Nat} {d : Dev} (ha : a ≠ SHU_ENG_BUSY.addr e) : (engTake e t d).live.get z a = d.live.get z a := by
  unfold engTake
  extract_lets y x c cut d1 d2
  have h2 : d2.live.get z a = d.live.get z a := live_put_other _ _ _ _ _ _ ha
  split
  · rfl
  · split
    · exact h2
    · exact forL_keeps (P := fun e : Dev => e.live.get z a = d.live.get z a) (fun _ e h => by rw [taskPut_live, h]) h2

theorem get_engTake {f : Fld} {i e t : Nat} {d : Dev} (h : f.reg.addr i ≠ SHU_ENG_BUSY.addr e) : get f i (engTake e t d) = get f i d :=
  get_congr _ _ _ _ fun _ => live_engTake h

theorem sameTurns_turned (t : Nat) (d : Dev) : SameTurns d (turned t d) := (SameTurns.refl d).engTake

theorem taskRegs_ne_engRegs {r q : Reg} {t e : Nat} (hr : 0x90400 ≤ r.base) (hq : q.stride = 32 ∧ q.base < 0x90110) (he : e < 2) :
    r.addr t ≠ q.addr e := by
  obtain ⟨hstride, hbase⟩ := hq
  have := r.base_le_addr t
  have : q.addr e = q.base + e * 32 := by rw [Reg.addr, hstride]
  omega

/-! ## The end of an instruction (R222, R235) -/

/-- What an instruction that runs makes of the device behind its effect: the notes, the cycles, and the engine's register. -/
def ended (t cyc : Nat) (x : TaskX) (d : Dev) : Dev :=
  showEngine (taskEngine t d) (spend (taskEngine t d) cyc (taskMod t (fun _ => x) d))

/-- With no breakpoint armed, nothing breaks before the next instruction of the engine's scan. -/
theorem engSettleRun_of_unarmed {e t : Nat} {d : Dev} (hnext : nextTask e d = some t) (hbk : get SHU_TASK_STATE_BKPT_EN t d = 0) :
    engSettleRun e t d = showEngine e d := by
  have hat : bkptAt t (taskX t d).pc d = false := by simp [bkptAt, hbk, bit]
  have hbreak : breakSettle e 8 d = d := by
    unfold breakSettle
    simp [hnext, hat]
  unfold engSettleRun engSettle
  simp [hat, hbreak]

/-- `b` is `c` but for registers that decide of no scan: of the flags of a task, and of the records of a fault. -/
structure Beside (t : Nat) (c b : Dev) : Prop where
  img : b.img = c.img
  next : b.next = c.next
  switched : b.switched = c.switched
  shu : b.shu = c.shu
  bkpt : get SHU_TASK_STATE_BKPT_EN t b = get SHU_TASK_STATE_BKPT_EN t c

theorem Beside.refl (t : Nat) (d : Dev) : Beside t d d := ⟨rfl, rfl, rfl, rfl, rfl⟩

theorem Beside.sameTurns {t : Nat} {c b : Dev} (h : Beside t c b) : SameTurns c b :=
  ⟨h.img, h.next, h.switched, fun u => by rw [taskX, taskX, h.shu]⟩

/-- `d` is `b` but for words of variable memory and the timers that take M_LAST anew. -/
structure WordsOnly (b d : Dev) : Prop where
  dev : d = { b with shu := d.shu }
  shu : d.shu = { b.shu with vars := d.shu.vars, retake := d.shu.retake }

namespace WordsOnly

variable {b d : Dev}

theorem refl (b : Dev) : WordsOnly b b := ⟨rfl, rfl⟩

theorem live (h : WordsOnly b d) : d.live = b.live := (congrArg Dev.live h.dev).trans rfl

theorem taskX (h : WordsOnly b d) (u : Nat) : taskX u d = taskX u b := (congrArg (fun s : ShuX => s.tasks.get ({} : TaskX) u) h.shu).trans rfl

theorem shuEngX (h : WordsOnly b d) (k : Nat) : shuEngX k d = shuEngX k b := (congrArg (fun s : ShuX => s.engs.get ({} : ShuEngX) k) h.shu).trans rfl

theorem sameTurns (h : WordsOnly b d) : SameTurns b d :=
  ⟨(congrArg Dev.img h.dev).trans rfl, (congrArg Dev.next h.dev).trans rfl, (congrArg Dev.switched h.dev).trans rfl, fun u => congrArg TaskX.turn (h.taskX u)⟩

theorem get_eq (h : WordsOnly b d) (f : Fld) (i : Nat) : get f i d = get f i b := get_congr _ _ _ _ fun _ => by rw [h.live]

theorem rest (h : WordsOnly b d) (s : ShuX) : Dev.rest { d with shu := s } = Dev.rest { b with shu := s } :=
  (congrArg (fun e : Dev => Dev.rest { e with shu := s }) h.dev).trans rfl

end WordsOnly

section

variable {t cyc : Nat} {w : Option Nat} {s b d : Dev} {x : TaskX}

theorem Issues.nextTask_eq (h : Issues t w s) : nextTask (taskEngine t s) s = some t := by
  obtain ⟨-, -, -, hruns, -⟩ := h
  simp only [scanRuns, Bool.and_eq_true, beq_iff_eq] at hruns
  exact hruns.2

theorem ran_ended (h : WordsOnly b d) : Ran t cyc x b (ended t cyc x d) := by
  have heng : taskEngine t d = taskEngine t b := h.sameTurns.taskEngine t
  refine ⟨by simp [ended], fun u hu => ?_, ?_, fun k hk => ?_, ?_, ?_, fun a ha z => ?_⟩
  · simp [ended, showEngine, spend, taskX_taskMod_other _ _ hu, h.taskX]
  · simp [ended, showEngine, spend, heng, h.shuEngX]
  · simp [ended, showEngine, spend, heng, shuEngX_shuEngMod_other _ _ hk, h.shuEngX]
  · simp [ended, showEngine, spend, taskMod, shuEngMod]
    exact ⟨(congrArg ShuX.hbox h.shu).trans rfl, (congrArg ShuX.haltAt h.shu).trans rfl⟩
  · have hrest : (ended t cyc x d).rest = Dev.rest { d with shu := (ended t cyc x d).shu } := by
      simp [ended, showEngine, spend]
      rfl
    exact hrest.trans (h.rest _)
  · simp only [List.mem_cons, List.not_mem_nil, or_false, not_or, ← heng] at ha
    have hlive : (ended t cyc x d).live.get z a = d.live.get z a :=
      (live_put_other _ _ _ _ _ _ ha.1).trans (live_put_other _ _ _ _ _ _ ha.2)
    rw [hlive, h.live]

theorem varsKept_ended (hd : d.shu.vars = b.shu.vars ∧ d.shu.retake = b.shu.retake) : VarsKept b (ended t cyc x d) := by
  unfold VarsKept
  simpa [ended, showEngine, spend, taskMod, shuEngMod] using hd

end

end Sys2Proof.Machine

namespace Sys2Proof.Machine

/-! ## Instructions that are issued (R235, R238) -/

section

variable {t cyc : Nat} {w : Option Nat} {s b d : Dev} {x : TaskX} {f : TaskX → Dev → Act}

theorem Issues.engine_lt (h : Issues t w s) : taskEngine t s < 2 := h.2.1

/-- The word stands at the scan's index. -/
theorem Issues.word (h : Issues t w s) : (!scanRuns t s || w.isNone || codeAt t (taskX t s).pc s != w) = false := by
  obtain ⟨-, -, -, hruns, hw, hcode, -⟩ := h
  rw [hruns, hcode]
  cases w with
  | none => cases hw
  | some v => simp

theorem Issues.not_reached (h : Issues t w s) :
    ¬watchReached t (loomAt (shuEngX (taskEngine t s) (engTake (taskEngine t s) t s)).at_ (engTake (taskEngine t s) t s)) (engTake (taskEngine t s) t s) = true := by
  obtain ⟨-, -, -, -, -, -, hwatch, -⟩ := h
  simpa [turned] using hwatch

theorem issue_of_issues (h : Issues t w s) :
    issue t w f s = match f { taskX t (turned t s) with pc := (taskX t (turned t s)).pc + 1 } (turned t s) with
      | .done x d cyc => engSettleRun (taskEngine t s) t (spend (taskEngine t s) cyc (taskMod t (fun _ => x) d))
      | .err c => scanError t c (turned t s) := by
  unfold issue
  rw [h.word]
  simp only [Bool.false_eq_true, if_false]
  rw [if_neg h.not_reached]
  rfl

/-- An instruction that completes ends with its engine still in the scan: the scan's turn is as before, and no breakpoint is armed. -/
theorem issue_of_done (h : Issues t w s) (hf : f { taskX t (turned t s) with pc := (taskX t (turned t s)).pc + 1 } (turned t s) = .done x d cyc)
    (hb : Beside t (turned t s) b) (hd : WordsOnly b d) (hx : x.turn = (taskX t (turned t s)).turn) : issue t w f s = ended t cyc x d := by
  have hsame : SameTurns s d := ((sameTurns_turned t s).trans hb.sameTurns).trans hd.sameTurns
  have heng : taskEngine t d = taskEngine t s := hsame.taskEngine t
  have hturn : x.turn = (taskX t d).turn := by rw [hx, hd.taskX, taskX, taskX, hb.shu]
  have hnext : nextTask (taskEngine t s) (spend (taskEngine t s) cyc (taskMod t (fun _ => x) d)) = some t :=
    ((hsame.taskMod hturn).spend.nextTask _).trans h.nextTask_eq
  have hne {e : Nat} (he : e < 2) : SHU_TASK_STATE_BKPT_EN.reg.addr t ≠ SHU_ENG_BUSY.addr e := taskRegs_ne_engRegs (by decide) (by decide) he
  have hbk : get SHU_TASK_STATE_BKPT_EN t (spend (taskEngine t s) cyc (taskMod t (fun _ => x) d)) = 0 :=
    calc
      _ = get SHU_TASK_STATE_BKPT_EN t d := get_put_other _ _ _ _ _ _ (hne h.engine_lt)
      _ = get SHU_TASK_STATE_BKPT_EN t s := by rw [hd.get_eq, hb.bkpt, turned, get_engTake (hne h.engine_lt)]
      _ = 0 := h.2.2.2.2.2.2.2
  rw [issue_of_issues h, hf]
  simp only [engSettleRun_of_unarmed hnext hbk, ended, heng]

theorem issue_of_err {c : Nat} (h : Issues t w s)
    (hf : f { taskX t (turned t s) with pc := (taskX t (turned t s)).pc + 1 } (turned t s) = .err c) : issue t w f s = scanError t c (turned t s) := by
  rw [issue_of_issues h, hf]

end

theorem gives_isa_iff {i : Instr} {t : Nat} {w : Option Nat} {f : TaskX → Dev → Act} {s : State} {P : Dev → Prop} (hi : exec i s = isa t w f s) :
    Gives i s P ↔ P (issue t w f s.dev) := by
  constructor
  · rintro ⟨e, he, -, -, -, hP⟩
    obtain rfl : { s with dev := issue t w f s.dev } = e := Host.Outcome.next.inj (hi.symm.trans he)
    exact hP
  · exact fun hP => ⟨_, hi, rfl, rfl, rfl, hP⟩

theorem Gives.imp {i : Instr} {s : State} {P Q : Dev → Prop} (h : Gives i s P) (hpq : ∀ e, P e → Q e) : Gives i s Q := by
  obtain ⟨e, he, hfuses, hident, hpending, hP⟩ := h
  exact ⟨e, he, hfuses, hident, hpending, hpq _ hP⟩

/-- An instruction that completes without a store. -/
theorem gives_of_done {i : Instr} {t cyc : Nat} {w : Option Nat} {f : TaskX → Dev → Act} {s : State} {b : Dev} {x y : TaskX}
    (hi : exec i s = isa t w f s) (h : Issues t w s.dev)
    (hf : f { taskX t (turned t s.dev) with pc := (taskX t (turned t s.dev)).pc + 1 } (turned t s.dev) = .done y b cyc)
    (hb : Beside t (turned t s.dev) b) (hy : y.turn = (taskX t (turned t s.dev)).turn) (hx : y = x) :
    Gives i s fun e => Ran t cyc x b e ∧ VarsKept (turned t s.dev) e := by
  rw [gives_isa_iff hi, issue_of_done h hf hb (.refl b) hy, ← hx]
  have hkept : VarsKept b (ended t cyc y b) := varsKept_ended ⟨rfl, rfl⟩
  exact ⟨ran_ended (.refl b), by rwa [VarsKept, ← hb.shu]⟩

end Sys2Proof.Machine

namespace Sys2Proof.Machine

/-! ## Results of the register file (R233) -/

theorem trunc_ofInt (w : Nat) (v : Int) : trunc w (ofInt w v) = ofInt w v := Nat.mod_eq_of_lt (ofInt_lt w v)

theorem ofInt_natCast (w n : Nat) : ofInt w (n : Int) = trunc w n := by
  unfold ofInt trunc
  omega

theorem ofInt_congr {w : Nat} {a b : Int} (h : a % ((2 ^ w : Nat) : Int) = b % ((2 ^ w : Nat) : Int)) : ofInt w a = ofInt w b := by
  unfold ofInt
  rw [h]

/-- The notes with these registers written. -/
def TaskX.write (wr : List (Nat × Int)) (x : TaskX) : TaskX := { x with regs := wr.foldl (fun l p => l.set p.1 (ofInt 32 p.2)) x.regs }

theorem setX_ofInt (rd : Nat) (v : Int) (x : TaskX) : setX rd (ofInt 32 v) x = x.write [(rd, v)] := by
  unfold setX TaskX.write
  rw [trunc_ofInt]
  rfl

theorem setX_eq_write (rd v : Nat) (x : TaskX) : setX rd v x = x.write [(rd, (v : Int))] := by
  unfold setX TaskX.write
  simp only [List.foldl_cons, List.foldl_nil, ofInt_natCast]

theorem setP_eq_write (rd : Nat) (v : Int) (x : TaskX) : setP rd v x = x.write (pairOf rd v) := by
  have hlo : trunc 32 (ofInt 64 v) = ofInt 32 v := by
    unfold trunc ofInt
    omega
  have hhi : trunc 32 (ofInt 64 v / 2 ^ 32) = ofInt 32 (v / 2 ^ 32) := by
    unfold trunc ofInt
    omega
  unfold setP setX TaskX.write pairOf
  simp only [hlo, hhi, List.foldl_cons, List.foldl_nil]

/-- The result `q` for `rd` is these registers, with these flags and no division by 0. -/
structure AluIs (rd : Nat) (q : Alu) (wr : List (Nat × Int)) (isat ferr : Bool) : Prop where
  regs : ∀ x, (if q.wide then setP rd q.v x else setX rd (ofInt 32 q.v) x) = x.write wr
  isat : q.isat = isat
  ferr : q.ferr = ferr
  divz : q.divz = false

/-- A word is told by its pattern. -/
theorem AluIs.word {rd : Nat} {q : Alu} {v : Int} {isat ferr : Bool} (hv : ofInt 32 q.v = ofInt 32 v) (hw : q.wide = false) (hi : q.isat = isat)
    (hf : q.ferr = ferr) (hz : q.divz = false) : AluIs rd q [(rd, v)] isat ferr :=
  ⟨fun x => by simp [hw, hv, setX_ofInt], hi, hf, hz⟩

/-- As `AluIs.word`, without flags. -/
theorem AluIs.plain {rd : Nat} {u v : Int} (h : ofInt 32 u = ofInt 32 v) : AluIs rd { v := u } [(rd, v)] false false := .word h rfl rfl rfl rfl

theorem AluIs.pair (rd : Nat) (v : Int) (isat : Bool) : AluIs rd { v := v, wide := true, isat := isat } (pairOf rd v) isat false :=
  ⟨fun x => by simp [setP_eq_write], rfl, rfl, rfl⟩

theorem AluIs.truth (rd : Nat) (b : Bool) : AluIs rd (aluB b) [(rd, (b2n b : Int))] false false := .plain (by cases b <;> rfl)

theorem satS32_eq (v : Int) : satS 32 v = max (-2 ^ 31) (min (2 ^ 31 - 1) v) := by
  unfold satS clampI minS maxS
  omega

theorem satS64_eq (v : Int) : satS 64 v = max (-2 ^ 63) (min (2 ^ 63 - 1) v) := by
  unfold satS clampI minS maxS
  omega

theorem satS32_ne (v : Int) : (satS 32 v != v) = decide (v < -2 ^ 31 ∨ 2 ^ 31 ≤ v) := by
  rw [Bool.eq_iff_iff, bne_iff_ne, decide_eq_true_iff, satS32_eq]
  omega

theorem satS64_ne (v : Int) : (satS 64 v != v) = decide (v < -2 ^ 63 ∨ 2 ^ 63 ≤ v) := by
  rw [Bool.eq_iff_iff, bne_iff_ne, decide_eq_true_iff, satS64_eq]
  omega

theorem AluIs.sat (rd : Nat) (v : Int) :
    AluIs rd (aluSat v) [(rd, max (-2 ^ 31) (min (2 ^ 31 - 1) v))] (decide (v < -2 ^ 31 ∨ 2 ^ 31 ≤ v)) false :=
  .word (congrArg _ (satS32_eq v)) rfl (satS32_ne v) rfl rfl

theorem AluIs.sat64 (rd : Nat) (v : Int) :
    AluIs rd (aluSat64 v) (pairOf rd (max (-2 ^ 63) (min (2 ^ 63 - 1) v))) (decide (v < -2 ^ 63 ∨ 2 ^ 63 ≤ v)) false := by
  rw [← satS64_eq, ← satS64_ne]
  exact .pair rd _ _

/-! ## Format A (R234, R235) -/

section

variable {t : Nat} {c b : Dev}

protected theorem Beside.put {f : Fld} {v : Nat} (h : Beside t c b) (hf : Apart SHU_TASK_STATE_BKPT_EN t f t) : Beside t c (put f t v b) :=
  ⟨(put_img ..).trans h.img, (put_next ..).trans h.next, (put_switched ..).trans h.switched, (put_shu ..).trans h.shu, (get_put_apart hf).trans h.bkpt⟩

protected theorem Beside.onlyIf {p : Bool} {f : Dev → Dev} (h : Beside t c b) (hf : Beside t c b → Beside t c (f b)) : Beside t c (onlyIf p f b) :=
  onlyIf_keeps h hf

/-- The flags of a result are bits of the task's register besides those that arm breakpoints. -/
theorem beside_flags (t : Nat) (isat ferr : Bool) (d : Dev) :
    Beside t d (d |> onlyIf isat (put SHU_TASK_STATE_ISAT t 1) |> onlyIf ferr (put SHU_TASK_STATE_FERR t 1)) :=
  ((Beside.refl t d).onlyIf fun h => h.put (.bits (by decide))).onlyIf fun h => h.put (.bits (by decide))

end

theorem aluPut_eq {t rd cyc : Nat} {q : Alu} {wr : List (Nat × Int)} {isat ferr : Bool} (h : AluIs rd q wr isat ferr) (x : TaskX) (d : Dev) :
    aluPut t rd q cyc x d
      = .done (x.write wr) (d |> onlyIf isat (put SHU_TASK_STATE_ISAT t 1) |> onlyIf ferr (put SHU_TASK_STATE_FERR t 1)) cyc := by
  obtain ⟨hregs, hisat, hferr, hdivz⟩ := h
  unfold aluPut aluFlags
  rw [hregs, hisat, hferr, hdivz]
  rfl

/-- An instruction of format A with legal fields has its result written. -/
theorem regOp_eq {op cyc smax t rd ra rb sub : Nat} {useB : Bool} {even : List Nat} {f : TaskX → Alu}
    (hlegal : sub ≤ smax ∧ (useB = false → rb = 0) ∧ ∀ k ∈ even, k % 2 = 0) :
    regOp op cyc smax useB even t rd ra rb sub f = isa t (wordA op rd ra rb sub) fun x d => aluPut t rd (f x) cyc x d := by
  obtain ⟨hsub, hrb, heven⟩ := hlegal
  have hfields : ¬(smax < sub ∨ (useB = false ∧ rb ≠ 0)) := by
    rintro (h | ⟨h, hne⟩)
    · omega
    · exact hne (hrb h)
  have hodd : ¬(even.any (· % 2 == 1)) = true := by
    rw [List.any_eq_true]
    rintro ⟨k, hk, h⟩
    have := heven k hk
    rw [beq_iff_eq] at h
    omega
  unfold regOp
  simp only [if_neg hfields, if_neg hodd]

/-- An instruction that writes a result does what the result says. -/
theorem computes_of_aluPut {i : Instr} {cyc t rd : Nat} {w : Option Nat} {f : TaskX → Alu} {wr : TaskX → List (Nat × Int)} {isat ferr : TaskX → Bool}
    (hword : shuWord i = some (t, w)) (hi : exec i = isa t w fun x d => aluPut t rd (f x) cyc x d)
    (hpc : ∀ x p, f { x with pc := p } = f x) (hf : ∀ x, AluIs rd (f x) (wr x) (isat x) (ferr x)) : Computes i cyc wr isat ferr := by
  intro t' w' s hw hs
  obtain ⟨rfl, rfl⟩ : t = t' ∧ w = w' := by simpa using hword.symm.trans hw
  refine gives_of_done (congrFun hi s) hs ?_ (beside_flags t _ _ _) ?_ rfl
  · rw [hpc, aluPut_eq (hf _)]
    rfl
  · rfl

/-- As `computes_of_aluPut`, of format A with legal fields. -/
theorem computes_of_regOp {i : Instr} {op cyc smax t rd ra rb sub : Nat} {useB : Bool} {even : List Nat} {f : TaskX → Alu}
    {wr : TaskX → List (Nat × Int)} {isat ferr : TaskX → Bool} (hword : shuWord i = some (t, wordA op rd ra rb sub))
    (hi : exec i = regOp op cyc smax useB even t rd ra rb sub f) (hlegal : sub ≤ smax ∧ (useB = false → rb = 0) ∧ ∀ k ∈ even, k % 2 = 0)
    (hpc : ∀ x p, f { x with pc := p } = f x) (hf : ∀ x, AluIs rd (f x) (wr x) (isat x) (ferr x)) : Computes i cyc wr isat ferr :=
  computes_of_aluPut hword (hi.trans (regOp_eq hlegal)) hpc hf

/-! ## Integer instructions (R233, R235) -/

theorem satS16_eq (v : Int) : satS 16 v = max (-32768) (min 32767 v) := by
  unfold satS clampI minS maxS
  omega

theorem satS16_ne (v : Int) : (satS 16 v != v) = decide (v < -32768 ∨ 32767 < v) := by
  rw [Bool.eq_iff_iff, bne_iff_ne, decide_eq_true_iff, satS16_eq]
  omega

theorem saturates_addi (t rd ra imm : Nat) : Saturates (.iAddi t rd ra 0 imm) 1 rd (fun x => xs x ra + toInt 16 imm) :=
  computes_of_aluPut rfl (f := fun x => aluSat (xs x ra + toInt 16 imm)) rfl (fun _ _ => rfl) fun _ => .sat ..

theorem taskState_off_raise {t : Nat} (ht : t < 8) : SHU_TASK_STATE.addr t ∉ raiseAddrs :=
  (by decide +kernel : ∀ k < 8, SHU_TASK_STATE.addr k ∉ raiseAddrs) t ht

/-- A fault without a reaction. -/
protected theorem Beside.stick {t : Nat} {c b : Dev} (ht : t < 8) (h : Beside t c b) : Beside t c (stick SHU_TASK_STATE_DIVZ t 0x0904 t b) := by
  have hput : Noted (Machine.put SHU_TASK_STATE_DIVZ t 1 b) (raise 0x0904 t (Machine.put SHU_TASK_STATE_DIVZ t 1 b)) :=
    noted_raise_of_class (by decide) ..
  refine ⟨(stick_img ..).trans h.img, ?_, (stick_switched ..).trans h.switched, (stick_shu ..).trans h.shu,
    (get_stick_apart (.bits (by decide)) (taskState_off_raise ht)).trans h.bkpt⟩
  rw [← h.next]
  unfold Machine.stick
  split
  · exact put_next ..
  · exact (congrArg (·.2.2.2.2.1) hput.1).trans (put_next ..)

theorem toInt32_range (n : Nat) : -2 ^ 31 ≤ toInt 32 n ∧ toInt 32 n < 2 ^ 31 := by
  have hlt : n % 2 ^ 32 < 2 ^ 32 := Nat.mod_lt _ (by decide)
  unfold toInt
  dsimp only
  split <;> omega

theorem xs_range (x : TaskX) (k : Nat) : -2 ^ 31 ≤ xs x k ∧ xs x k < 2 ^ 31 := toInt32_range _

/-- The quotient of two INT32 is an INT32, but for -2^31 / -1 (R233). -/
theorem tdiv_range {a b : Int} (ha : -2 ^ 31 ≤ a ∧ a < 2 ^ 31) : -2 ^ 31 ≤ a.tdiv b ∧ a.tdiv b ≤ 2 ^ 31 := by
  have := Int.natAbs_tdiv_le_natAbs a b
  omega

theorem satS_tdiv {a : Int} (b : Int) (ha : -2 ^ 31 ≤ a ∧ a < 2 ^ 31) : satS 32 (a.tdiv b) = min (2 ^ 31 - 1) (a.tdiv b) := by
  rw [satS32_eq, max_eq_right]
  have := tdiv_range (b := b) ha
  omega

theorem satS_tdiv_ne {a : Int} (b : Int) (ha : -2 ^ 31 ≤ a ∧ a < 2 ^ 31) : (satS 32 (a.tdiv b) != a.tdiv b) = decide (a.tdiv b = 2 ^ 31) := by
  have := tdiv_range (b := b) ha
  rw [satS32_ne, decide_eq_decide]
  omega

/-- The flags that DIV and MOD set. -/
theorem beside_divFlags {t : Nat} (ht : t < 8) (isat divz : Bool) (d : Dev) :
    Beside t d (d |> onlyIf isat (put SHU_TASK_STATE_ISAT t 1) |> onlyIf divz (stick SHU_TASK_STATE_DIVZ t 0x0904 t)) :=
  ((Beside.refl t d).onlyIf fun h => h.put (.bits (by decide))).onlyIf fun h => h.stick ht

/-- A word with a flag of saturation or of a division by 0. -/
theorem gives_of_quotient {i : Instr} {op t rd ra rb : Nat} {f : TaskX → Alu} {v : TaskX → Int} {isat divz : TaskX → Bool} {s : State}
    (hi : exec i = regOp op 18 0 true [] t rd ra rb 0 f) (hs : Issues t (wordA op rd ra rb 0) s.dev) (hpc : ∀ x p, f { x with pc := p } = f x)
    (hf : ∀ x, f x = { v := v x, isat := isat x, divz := divz x }) : Gives i s fun e =>
      let d := turned t s.dev
      let x := taskX t d
      Ran t 18 { x with pc := x.pc + 1, regs := x.regs.set rd (ofInt 32 (v x)) }
        (d |> onlyIf (isat x) (put SHU_TASK_STATE_ISAT t 1) |> onlyIf (divz x) (stick SHU_TASK_STATE_DIVZ t 0x0904 t)) e ∧ VarsKept d e := by
  refine gives_of_done (congrFun (hi.trans (regOp_eq (by simp))) s) hs ?_ (beside_divFlags hs.1 _ _ _) ?_ rfl
  · rw [hpc, hf]
    simp only [aluPut, setX_ofInt]
    rfl
  · rfl

theorem gives_div {t rd ra rb : Nat} {s : State} (hs : Issues t (wordA 0x0B rd ra rb 0) s.dev) : Gives (.iDiv t rd ra rb 0) s fun e =>
      let d := turned t s.dev
      let x := taskX t d
      let q := Int.tdiv (xs x ra) (xs x rb)
      Ran t 18 { x with pc := x.pc + 1, regs := x.regs.set rd (ofInt 32 (if xs x rb = 0 then 0 else min (2 ^ 31 - 1) q)) }
        (d |> onlyIf (decide (q = 2 ^ 31)) (put SHU_TASK_STATE_ISAT t 1) |> onlyIf (decide (xs x rb = 0)) (stick SHU_TASK_STATE_DIVZ t 0x0904 t)) e ∧
      VarsKept d e := by
  refine gives_of_quotient (v := fun x => if xs x rb = 0 then 0 else min (2 ^ 31 - 1) (Int.tdiv (xs x ra) (xs x rb)))
    (isat := fun x => decide (Int.tdiv (xs x ra) (xs x rb) = 2 ^ 31)) (divz := fun x => decide (xs x rb = 0)) rfl hs (fun _ _ => rfl) fun x => ?_
  by_cases hb : xs x rb = 0
  · simp [hb]
  · simp only [if_neg hb, decide_eq_false hb, aluSat]
    rw [satS_tdiv_ne _ (xs_range x ra), satS_tdiv _ (xs_range x ra)]

theorem gives_mod {t rd ra rb : Nat} {s : State} (hs : Issues t (wordA 0x0C rd ra rb 0) s.dev) : Gives (.iMod t rd ra rb 0) s fun e =>
      let d := turned t s.dev
      let x := taskX t d
      let q := Int.tdiv (xs x ra) (xs x rb)
      Ran t 18 { x with pc := x.pc + 1, regs := x.regs.set rd (ofInt 32 (if xs x rb = 0 then 0 else xs x ra - xs x rb * q)) }
        (d |> onlyIf (decide (xs x rb = 0)) (stick SHU_TASK_STATE_DIVZ t 0x0904 t)) e ∧ VarsKept d e := by
  refine gives_of_quotient (v := fun x => if xs x rb = 0 then 0 else xs x ra - xs x rb * Int.tdiv (xs x ra) (xs x rb)) (isat := fun _ => false)
    (divz := fun x => decide (xs x rb = 0)) rfl hs (fun _ _ => rfl) fun x => ?_
  by_cases hb : xs x rb = 0
  · simp [hb]
  · simp [hb, Int.tmod_def]

/-- Settles O38: each instruction issued ends its scan's turn nowhere, so that the step is its result written and its cycles spent; DIV's one
quotient out of range is -2^31 / -1. -/
theorem shuttleIntegers : Obligations.ShuttleIntegers := by
  intro t rd ra rb imm
  refine ⟨computes_of_regOp rfl rfl (by simp) (fun _ _ => rfl) fun _ => .plain rfl,
    fun hrd hra => computes_of_regOp rfl rfl (by simp [hrd, hra]) (fun _ _ => rfl) fun _ => .pair ..,
    computes_of_regOp rfl rfl (by simp) (fun _ _ => rfl) fun _ => .sat ..,
    computes_of_regOp rfl rfl (by simp) (fun _ _ => rfl) fun _ => .sat ..,
    computes_of_regOp rfl rfl (by simp) (fun _ _ => rfl) fun _ => .sat ..,
    saturates_addi t rd ra imm,
    computes_of_regOp rfl rfl (by simp) (fun _ _ => rfl) fun _ => .sat ..,
    computes_of_regOp rfl rfl (by simp) (fun _ _ => rfl) fun _ => .sat ..,
    computes_of_regOp rfl rfl (by simp) (fun _ _ => rfl) fun _ => .word (congrArg _ (satS16_eq _)) rfl (satS16_ne _) rfl rfl,
    fun hrd hra hrb => computes_of_regOp rfl rfl (by simp [hrd, hra, hrb]) (fun _ _ => rfl) fun _ => .sat64 ..,
    fun hrd hra hrb => computes_of_regOp rfl rfl (by simp [hrd, hra, hrb]) (fun _ _ => rfl) fun _ => .sat64 ..,
    fun hrd => computes_of_regOp rfl rfl (by simp [hrd]) (fun _ _ => rfl) fun _ => .pair ..,
    fun hra => computes_of_regOp rfl rfl (by simp [hra]) (fun _ _ => rfl) fun _ => .sat .., ?_⟩
  rintro i op s (⟨rfl, rfl⟩ | ⟨rfl, rfl⟩) hs
  · simpa using gives_div hs
  · simpa [onlyIf] using gives_mod hs

end Sys2Proof.Machine

namespace Sys2Proof.Machine

/-! ## Words, shifts, comparisons and choices (R235) -/

theorem AluIs.boolean {rd : Nat} {b : Bool} {v : Int} (h : (if b then 1 else 0) = v) : AluIs rd (aluB b) [(rd, v)] false false :=
  .plain (congrArg _ h)

theorem pickWord_zero (big : Bool) (a b : Nat) : pickWord big 0 a b = if (decide (toInt 32 a ≤ toInt 32 b)) != big then a else b := rfl

theorem toInt_pickMin (a b : Nat) : toInt 32 (pickWord false 0 a b) = min (toInt 32 a) (toInt 32 b) := by
  rw [pickWord_zero, min_def]
  by_cases h : toInt 32 a ≤ toInt 32 b <;> simp [h]

theorem toInt_pickMax (a b : Nat) : toInt 32 (pickWord true 0 a b) = max (toInt 32 a) (toInt 32 b) := by
  rw [pickWord_zero, max_def]
  by_cases h : toInt 32 a ≤ toInt 32 b <;> simp [h]

/-- A word that stands for an INT32. -/
theorem AluIs.ofToInt {rd n : Nat} {v : Int} (h : toInt 32 n = v) : AluIs rd (aluW n) [(rd, v)] false false :=
  .plain (by rw [ofInt_natCast, ← h]; exact (ofInt_toInt 32 n).symm)

/-- SUB names the six relations (R235). -/
theorem relation_of_mem {sub : Nat} {rel : Int → Int → Bool} (h : (sub, rel) ∈ ([(0, (· == ·)), (1, (· != ·)), (2, (decide <| · < ·)),
    (3, (decide <| · ≤ ·)), (4, (decide <| · > ·)), (5, (decide <| · ≥ ·))] : List (Nat × (Int → Int → Bool)))) :
    sub ≤ 5 ∧ ∀ a b, relation sub a b = rel a b := by
  simp only [List.mem_cons, Prod.mk.injEq, List.not_mem_nil, or_false] at h
  rcases h with ⟨rfl, rfl⟩ | ⟨rfl, rfl⟩ | ⟨rfl, rfl⟩ | ⟨rfl, rfl⟩ | ⟨rfl, rfl⟩ | ⟨rfl, rfl⟩ <;> exact ⟨by decide, fun _ _ => rfl⟩

theorem computes_compare {t rd ra rb sub : Nat} {rel : Int → Int → Bool} (hsub : sub ≤ 5) (hrel : ∀ a b, relation sub a b = rel a b) :
    Computes (.iCmp t rd ra rb sub) 1 (fun x => [(rd, b2n (rel (xs x ra) (xs x rb)))]) ∧
    (ra % 2 = 0 → rb % 2 = 0 → Computes (.iCmpt t rd ra rb sub) 2 (fun x => [(rd, b2n (rel (xp x ra) (xp x rb)))])) ∧
    Computes (.iCmpf t rd ra rb sub) 2
      (fun x => [(rd, b2n (if f32IsNaN (xr x ra) || f32IsNaN (xr x rb) then sub == 1 else rel (f32Order (xr x ra) (xr x rb)) 0))]) := by
  have hne : sub ≠ 6 := by omega
  refine ⟨computes_of_regOp rfl rfl (by simp [hsub]) (fun _ _ => rfl) fun x => ?_,
    fun hra hrb => computes_of_regOp rfl rfl (by simp [hsub, hra, hrb]) (fun _ _ => rfl) fun x => ?_,
    computes_of_regOp rfl rfl (by simp; omega) (fun _ _ => rfl) fun x => ?_⟩
  · rw [hrel]
    exact .truth ..
  · rw [hrel]
    exact .truth ..
  · simp only [if_neg hne, hrel]
    exact .truth ..

/-- Settles O39: each result of the model is the statement's as a 32-bit pattern; SUB names the six relations. -/
theorem shuttleLogic : Obligations.ShuttleLogic := by
  intro t rd ra rb sub
  refine ⟨?_, ?_, ?_, ?_, ?_, ?_, ?_, ?_, ?_, ?_, ?_, ?_, ?_, ?_, ?_, ?_, ?_⟩
  · exact computes_of_regOp rfl rfl (by simp) (fun _ _ => rfl) fun _ => .plain rfl
  · exact computes_of_regOp rfl rfl (by simp) (fun _ _ => rfl) fun _ => .plain rfl
  · exact computes_of_regOp rfl rfl (by simp) (fun _ _ => rfl) fun _ => .plain rfl
  · exact computes_of_regOp rfl rfl (by simp) (fun _ _ => rfl) fun _ => .plain (ofInt_congr (by omega))
  · exact computes_of_regOp rfl rfl (by simp) (fun _ _ => rfl) fun _ => .plain (by rw [Nat.shiftLeft_eq])
  · exact computes_of_regOp rfl rfl (by simp) (fun _ _ => rfl) fun _ => .plain (by rw [Int.shiftRight_eq_div_pow])
  · exact computes_of_regOp rfl rfl (by simp) (fun _ _ => rfl) fun _ => .boolean (by simp)
  · exact computes_of_regOp rfl rfl (by simp) (fun _ _ => rfl) fun _ => .boolean (by simp)
  · exact computes_of_regOp rfl rfl (by simp) (fun _ _ => rfl) fun _ => .plain (by simp [apply_ite Nat.cast])
  · intro rel hrel
    obtain ⟨hsub, heq⟩ := relation_of_mem hrel
    exact computes_compare hsub heq
  · exact computes_of_regOp rfl rfl (by simp) (fun _ _ => rfl) fun _ => .truth ..
  · exact computes_of_regOp rfl rfl (by simp) (fun _ _ => rfl) fun _ => .ofToInt (toInt_pickMin ..)
  · exact computes_of_regOp rfl rfl (by simp) (fun _ _ => rfl) fun _ => .ofToInt (toInt_pickMax ..)
  · exact computes_of_regOp rfl rfl (by simp) (fun _ _ => rfl) fun _ => .ofToInt (by rw [toInt_pickMin, toInt_pickMax]; rfl)
  · exact computes_of_regOp rfl rfl (by simp) (fun _ _ => rfl) fun _ => .plain rfl
  · exact computes_of_regOp rfl rfl (by simp) (fun _ _ => rfl) fun _ => .plain rfl
  · exact computes_of_regOp rfl rfl (by simp) (fun _ _ => rfl) fun _ => .plain rfl

/-! ## REAL32 (R233, R235) -/

theorem f32Of_of_isNaN {a : Nat} (h : f32IsNaN a = true) : f32Of a = .nan := by simpa [f32IsNaN] using h

/-- What FTOI and FTOQ make of a word: a NaN gives 0 and FERR. -/
theorem aluReal_eq (a k : Nat) :
    aluReal a k = { v := if f32IsNaN a then 0 else (f32ToInt a k).1, isat := !f32IsNaN a && (f32ToInt a k).2.1, ferr := f32IsNaN a } := by
  unfold aluReal f32ToInt f32IsNaN
  rcases f32Of a with _ | neg | ⟨neg, m⟩ <;> rfl

theorem f32_nan_operand {a b : Nat} (h : f32IsNaN a = true ∨ f32IsNaN b = true) :
    f32Add a b = 0x7FC00000 ∧ f32Sub a b = 0x7FC00000 ∧ f32Mul a b = 0x7FC00000 ∧ f32Div a b = 0x7FC00000 := by
  unfold f32Sub f32Add f32Mul f32Div
  rcases h with h | h
  · rw [f32Of_of_isNaN h]
    rcases f32Of b with _ | neg | ⟨neg, m⟩ <;> exact ⟨rfl, rfl, rfl, rfl⟩
  · rw [f32Of_of_isNaN h]
    rcases f32Of a with _ | neg | ⟨neg, m⟩ <;> exact ⟨rfl, rfl, rfl, rfl⟩

theorem f32Sqrt_nan {a : Nat} (h : f32IsNaN a = true) : f32Sqrt a = 0x7FC00000 := by
  unfold f32Sqrt
  rw [f32Of_of_isNaN h]
  rfl

theorem AluIs.real (rd a k : Nat) :
    AluIs rd (aluReal a k) [(rd, if f32IsNaN a then 0 else (f32ToInt a k).1)] (!f32IsNaN a && (f32ToInt a k).2.1) (f32IsNaN a) := by
  rw [aluReal_eq]
  exact .word rfl rfl rfl rfl rfl

/-- Settles O40: each instruction writes what its REAL32 function gives; the functions look for a NaN operand first. -/
theorem shuttleReals : Obligations.ShuttleReals := by
  intro t rd ra rb
  refine ⟨computes_of_regOp rfl rfl (by simp) (fun _ _ => rfl) fun _ => .plain rfl,
    computes_of_regOp rfl rfl (by simp) (fun _ _ => rfl) fun _ => .plain rfl,
    computes_of_regOp rfl rfl (by simp) (fun _ _ => rfl) fun _ => .plain rfl,
    computes_of_regOp rfl rfl (by simp) (fun _ _ => rfl) fun _ => .plain rfl,
    computes_of_regOp rfl rfl (by simp) (fun _ _ => rfl) fun _ => .plain rfl,
    computes_of_regOp rfl rfl (by simp) (fun _ _ => rfl) fun _ => .plain rfl,
    computes_of_regOp rfl rfl (by simp) (fun _ _ => rfl) fun _ => .plain rfl,
    computes_of_regOp rfl rfl (by simp) (fun _ _ => rfl) fun _ => .plain rfl,
    computes_of_regOp rfl rfl (by simp) (fun _ _ => rfl) fun _ => .plain rfl, ?_, fun _ _ => f32_nan_operand, fun _ => f32Sqrt_nan⟩
  rintro i k (⟨rfl, rfl⟩ | ⟨rfl, rfl⟩)
  all_goals exact computes_of_regOp rfl rfl (by simp) (fun _ _ => rfl) fun _ => .real ..

end Sys2Proof.Machine

namespace Sys2Proof.Machine

/-! ## The entries of a checked image (R227, R228, R251, R252) -/

theorem check_of_checkRec {typ lo hi : Nat} {check : Img → Rec → Bool} {m : Img} {r : Rec} (h : checkRec m r = true) (ht : r.typ = typ)
    (hfind : (recordTypes false).find? (fun t => t.1 == typ) = some (typ, check, lo, hi)) : check m r = true := by
  subst ht
  unfold checkRec at h
  rw [hfind] at h
  simp only [Bool.and_eq_true] at h
  exact h.1.1.1

theorem eq_of_filter_length {α : Type} {p : α → Bool} {l : List α} {v w : α} (h : (l.filter p).length = 1) (hv : v ∈ l ∧ p v = true)
    (hw : w ∈ l ∧ p w = true) : w = v := by
  obtain ⟨u, hu⟩ := List.length_eq_one_iff.1 h
  have hv' : v ∈ l.filter p := List.mem_filter.2 hv
  have hw' : w ∈ l.filter p := List.mem_filter.2 hw
  rw [hu, List.mem_singleton] at hv' hw'
  rw [hv', hw']

/-- The entry holds the word. -/
def VarDef.Holds (v : VarDef) (a : Nat) : Prop := v.addr ≤ a ∧ a < v.addr + v.words

theorem VarDef.words_eq {v w : VarDef} (h : w.typ = v.typ) : w.words = v.words := by
  unfold VarDef.words
  rw [h]

/-- What the loader's checks say of an image's entries. -/
structure Laid (m : Img) : Prop where
  varTyp : ∀ v ∈ varDefs m, v.typ < 0x11
  insTyp : ∀ v ∈ insDefs m, 0x11 ≤ v.typ
  varId : ∀ v ∈ varDefs m, ∀ w ∈ varDefs m, w.id = v.id → w = v
  insId : ∀ v ∈ insDefs m, ∀ w ∈ insDefs m, w.id = v.id → w = v
  apart : ∀ v ∈ varDefs m ++ insDefs m, apart m v = true

theorem apart_congr {m : Img} {v w : VarDef} (ht : w.typ = v.typ) (ha : w.addr = v.addr) : apart m w = apart m v := by
  unfold Machine.apart
  rw [VarDef.words_eq ht, ha]

theorem laid_of_checked {m : Img} (h : ∀ r ∈ m.recs, checkRec m r = true) : Laid m := by
  have hvar : ∀ v ∈ varDefs m, v.typ < 0x11 ∧ ((varDefs m).filter fun w => w.id == v.id).length = 1 ∧ apart m v = true := by
    intro v hv
    simp only [varDefs, Img.all, List.mem_flatMap, List.mem_filter, beq_iff_eq, List.mem_map, List.mem_range] at hv
    obtain ⟨r, ⟨hr, ht⟩, i, hi, rfl⟩ := hv
    have hcheck : check0903 m r = true := check_of_checkRec (h r hr) ht rfl
    unfold check0903 allN at hcheck
    simp only [Bool.and_eq_true, List.all_eq_true, List.mem_range, rng, decide_eq_true_eq, beq_iff_eq] at hcheck
    obtain ⟨⟨-, hall⟩, -⟩ := hcheck
    obtain ⟨⟨⟨⟨⟨⟨⟨⟨⟨⟨⟨-, -, htyp⟩, -⟩, -⟩, -⟩, -⟩, -⟩, -⟩, -⟩, hid⟩, -⟩, hap⟩ := hall i hi
    exact ⟨by show r.u P0903_TYPE i < 0x11; omega, hid, (apart_congr (m := m) rfl rfl).trans hap⟩
  have hins : ∀ v ∈ insDefs m, 0x11 ≤ v.typ ∧ ((insDefs m).filter fun w => w.id == v.id).length = 1 ∧ apart m v = true := by
    intro v hv
    simp only [insDefs, Img.all, List.mem_flatMap, List.mem_filter, beq_iff_eq, List.mem_map, List.mem_range] at hv
    obtain ⟨r, ⟨hr, ht⟩, i, hi, rfl⟩ := hv
    have hcheck : check0904 m r = true := check_of_checkRec (h r hr) ht rfl
    unfold check0904 allN at hcheck
    simp only [Bool.and_eq_true, List.all_eq_true, List.mem_range, rng, decide_eq_true_eq, beq_iff_eq] at hcheck
    obtain ⟨-, hall⟩ := hcheck
    obtain ⟨⟨⟨⟨⟨⟨⟨⟨⟨⟨-, htyp, -⟩, -⟩, -⟩, -⟩, -⟩, -⟩, -⟩, -⟩, hid⟩, hap⟩ := hall i hi
    exact ⟨htyp, hid, (apart_congr (m := m) rfl rfl).trans hap⟩
  refine ⟨fun v hv => (hvar v hv).1, fun v hv => (hins v hv).1, fun v hv w hw hid => ?_, fun v hv w hw hid => ?_, fun v hv => ?_⟩
  · exact eq_of_filter_length (hvar v hv).2.1 ⟨hv, by simp⟩ ⟨hw, by simp [hid]⟩
  · exact eq_of_filter_length (hins v hv).2.1 ⟨hv, by simp⟩ ⟨hw, by simp [hid]⟩
  · rcases List.mem_append.1 hv with hv | hv
    · exact (hvar v hv).2.2
    · exact (hins v hv).2.2

namespace Laid

variable {m : Img} {v w : VarDef} {a : Nat}

theorem fits (h : Laid m) (hv : v ∈ varDefs m ++ insDefs m) (ha : v.Holds a) : a < 32768 := by
  have hap := h.apart v hv
  simp only [Machine.apart, Bool.and_eq_true, decide_eq_true_eq] at hap
  exact ha.2.trans_le hap.1

/-- A word lies in one entry. -/
theorem alone (h : Laid m) (hv : v ∈ varDefs m ++ insDefs m) (hw : w ∈ varDefs m ++ insDefs m) (hva : v.Holds a) (hwa : w.Holds a) : w = v := by
  have hap := h.apart v hv
  simp only [Machine.apart, Bool.and_eq_true, decide_eq_true_eq, beq_iff_eq] at hap
  obtain ⟨hlo, hhi⟩ := hva
  obtain ⟨hwlo, hwhi⟩ := hwa
  refine eq_of_filter_length hap.2 ⟨hv, ?_⟩ ⟨hw, ?_⟩
  · simp only [Bool.and_eq_true, decide_eq_true_eq]
    omega
  · simp only [Bool.and_eq_true, decide_eq_true_eq]
    omega

/-- An entry is told by its identifier and its type. -/
theorem eq_of_id (h : Laid m) (hv : v ∈ varDefs m ++ insDefs m) (hw : w ∈ varDefs m ++ insDefs m) (hid : w.id = v.id) (ht : w.typ = v.typ) : w = v := by
  rcases List.mem_append.1 hv with hv | hv
  · rcases List.mem_append.1 hw with hw | hw
    · exact h.varId v hv w hw hid
    · have := h.varTyp v hv
      have := h.insTyp w hw
      omega
  · rcases List.mem_append.1 hw with hw | hw
    · have := h.insTyp v hv
      have := h.varTyp w hw
      omega
    · exact h.insId v hv w hw hid

end Laid

theorem mem_of_coverOf {m : Img} {a : Nat} {v : VarDef} (h : coverOf m a = some v) : v ∈ varDefs m ++ insDefs m ∧ v.Holds a :=
  ⟨List.mem_of_find?_eq_some h, by simpa [VarDef.Holds] using List.find?_some h⟩

/-! ## The matching words of the two banks (R246, R247) -/

theorem taskImg_laid {t : Nat} {d : Dev} {m : Img} (hok : ImgOk d) (h : taskImg t d = some m) : Laid m := by
  refine laid_of_checked fun r hr => hok m ?_ r hr
  unfold taskImg imgFor at h
  split at h
  · exact .inr h
  · exact .inl h

/-- A matching word lies in the entry of the other image with the same identifier and type, at the same place. -/
theorem twinWord_spec {t a c : Nat} {d : Dev} (hok : ImgOk d) (h : twinWord t a d = some c) : ∃ m o v w, taskImg t d = some m ∧ Laid o ∧
    coverOf m a = some v ∧ w ∈ varDefs o ++ insDefs o ∧ w.id = v.id ∧ w.typ = v.typ ∧ c = w.addr + (a - v.addr) ∧
    (if taskSwitched t d then d.img else d.next) = some o := by
  unfold twinWord at h
  split at h
  case h_2 => cases h
  case h_1 m o hm ho =>
    split at h
    case h_1 => cases h
    case h_2 v hv =>
      extract_lets ins at h
      split at h
      case h_1 => cases h
      case h_2 w hw =>
        split at h
        · cases h
        · refine ⟨m, o, v, w, hm, laid_of_checked fun r hr => hok o ?_ r hr, hv, ?_, ?_⟩
          · split at ho
            · exact .inl ho
            · exact .inr ho
          · have hmem := List.mem_of_find?_eq_some hw
            split at hmem
            · exact List.mem_append_right _ hmem
            · exact List.mem_append_left _ hmem
          · have hsame := List.find?_some hw
            simp only [Bool.and_eq_true, beq_iff_eq] at hsame
            exact ⟨hsame.1, hsame.2, (Option.some.inj h).symm, ho⟩

theorem twinWord_holds {t a c : Nat} {d : Dev} (hok : ImgOk d) (h : twinWord t a d = some c) : c < 32768 := by
  obtain ⟨m, o, v, w, hm, ho, hv, hw, -, htyp, rfl, -⟩ := twinWord_spec hok h
  obtain ⟨hlo, hhi⟩ := (mem_of_coverOf hv).2
  refine ho.fits (a := w.addr + (a - v.addr)) hw ⟨by omega, ?_⟩
  rw [VarDef.words_eq htyp]
  omega

/-- No two words of a task have the same matching word. -/
theorem twinWord_inj {t a b c : Nat} {d : Dev} (hok : ImgOk d) (ha : twinWord t a d = some c) (hb : twinWord t b d = some c) : a = b := by
  obtain ⟨m, o, v, w, hm, ho, hv, hw, hid, htyp, hc, hother⟩ := twinWord_spec hok ha
  obtain ⟨m', o', v', w', hm', -, hv', hw', hid', htyp', hc', hother'⟩ := twinWord_spec hok hb
  obtain rfl : m = m' := Option.some.inj (hm.symm.trans hm')
  obtain rfl : o = o' := Option.some.inj (hother.symm.trans hother')
  obtain ⟨hmem, hlo, hhi⟩ := mem_of_coverOf hv
  obtain ⟨hmem', hlo', hhi'⟩ := mem_of_coverOf hv'
  have hwords := VarDef.words_eq htyp
  have hwords' := VarDef.words_eq htyp'
  obtain rfl : w' = w := ho.alone hw hw' (a := c) ⟨by omega, by omega⟩ ⟨by omega, by omega⟩
  obtain rfl : v' = v := (taskImg_laid hok hm).eq_of_id hmem hmem' (hid'.symm.trans hid) (htyp'.symm.trans htyp)
  omega

/-- A word that a task may store lies in the bank. -/
theorem lt_of_mayStore {t a : Nat} {d : Dev} (hok : ImgOk d) (h : mayStore t a d = true) : a < 32768 := by
  unfold mayStore at h
  split at h
  case h_1 => cases h
  case h_2 m hm =>
    cases hv : coverOf m a with
    | none => simp [hv] at h
    | some v =>
      obtain ⟨hmem, hholds⟩ := mem_of_coverOf hv
      exact (taskImg_laid hok hm).fits hmem hholds

end Sys2Proof.Machine

namespace Sys2Proof.Machine

/-! ## Words stored (R228, R247) -/

/-- The word of its bank that a task stores at an address. -/
def bankCell (t a : Nat) (d : Dev) : Nat := bankOf t d * 32768 + a

/-- The cell of the matching word, under the dual store. -/
def twinCell (t a : Nat) (d : Dev) : Option Nat :=
  if flag SHU_XCHG_DUAL 0 d then (twinWord t a d).map fun c => (1 - bankOf t d) * 32768 + c else none

/-- A store at the address writes this cell. -/
def Hits (t a k : Nat) (d : Dev) : Prop := k = bankCell t a d ∨ twinCell t a d = some k

namespace WordsOnly

variable {b d e : Dev}

theorem trans (h : WordsOnly b d) (k : WordsOnly d e) : WordsOnly b e := by
  refine ⟨k.dev.trans ?_, k.shu.trans ?_⟩
  · rw [h.dev]
  · rw [h.shu]

theorem ofShu {s : ShuX} (h : s = { b.shu with vars := s.vars, retake := s.retake }) : WordsOnly b { b with shu := s } := ⟨rfl, h⟩

theorem bankOf (h : WordsOnly b d) (t : Nat) : bankOf t d = bankOf t b := by
  unfold Machine.bankOf
  rw [h.get_eq, h.sameTurns.taskSwitched]

theorem twinWord (h : WordsOnly b d) (t a : Nat) : twinWord t a d = twinWord t a b := by
  unfold Machine.twinWord
  rw [h.sameTurns.taskImg, h.sameTurns.taskSwitched, h.sameTurns.img, h.sameTurns.next]

theorem bankCell (h : WordsOnly b d) (t a : Nat) : bankCell t a d = bankCell t a b := by
  unfold Machine.bankCell
  rw [h.bankOf]

theorem twinCell (h : WordsOnly b d) (t a : Nat) : twinCell t a d = twinCell t a b := by
  unfold Machine.twinCell flag
  rw [h.get_eq, h.twinWord, h.bankOf]

theorem hits (h : WordsOnly b d) (t a k : Nat) : Hits t a k d ↔ Hits t a k b := by
  unfold Hits
  rw [h.bankCell, h.twinCell]

end WordsOnly

theorem varGet_eq (t a : Nat) (d e : Dev) : varGet (bankOf t d) a e = e.shu.vars.get 0 (bankCell t a d) := rfl

theorem taskPut_eq (t a v : Nat) (d : Dev) : taskPut t a v d =
    { d with shu := { d.shu with vars := match twinCell t a d with
      | none => d.shu.vars.set 0 (bankCell t a d) (trunc 32 v)
      | some k => (d.shu.vars.set 0 (bankCell t a d) (trunc 32 v)).set 0 k (trunc 32 v) } } := by
  unfold taskPut twinCell
  extract_lets b d1
  split
  · cases twinWord t a d <;> rfl
  · rfl

theorem wordsOnly_taskPut (t a v : Nat) (d : Dev) : WordsOnly d (taskPut t a v d) := by
  rw [taskPut_eq]
  exact .ofShu rfl

theorem taskPut_retake (t a v : Nat) (d : Dev) : (taskPut t a v d).shu.retake = d.shu.retake := by
  rw [taskPut_eq]

theorem taskPut_hit {t a v k : Nat} {d : Dev} (h : Hits t a k d) : (taskPut t a v d).shu.vars.get 0 k = trunc 32 v := by
  rw [taskPut_eq]
  rcases h with rfl | h
  · dsimp only
    split
    · exact Tab.get_set_same ..
    · next j _ =>
      by_cases hj : bankCell t a d = j
      · rw [hj]
        exact Tab.get_set_same ..
      · rw [Tab.get_set_other _ _ _ _ _ _ hj]
        exact Tab.get_set_same ..
  · rw [h]
    exact Tab.get_set_same ..

theorem taskPut_miss {t a v k : Nat} {d : Dev} (h : ¬Hits t a k d) : (taskPut t a v d).shu.vars.get 0 k = d.shu.vars.get 0 k := by
  obtain ⟨hbank, htwin⟩ := not_or.1 h
  rw [taskPut_eq]
  dsimp only
  split
  · exact Tab.get_set_other _ _ _ _ _ _ hbank
  · next j hj =>
    rw [Tab.get_set_other _ _ _ _ _ _ fun hk => htwin (by rw [hj, hk])]
    exact Tab.get_set_other _ _ _ _ _ _ hbank

/-- No cell belongs to two of the words. -/
def Distinct (t : Nat) (ws : List (Nat × Nat)) (d : Dev) : Prop := ws.Pairwise fun p q => ∀ k, Hits t p.1 k d → ¬Hits t q.1 k d

theorem storeAll_cons (t : Nat) (w : Nat × Nat) (ws : List (Nat × Nat)) (x : TaskX) (d : Dev) :
    storeAll t (w :: ws) x d = storeAll t ws { x with log := (w.1, varGet (bankOf t d) w.1 d) :: x.log } (taskPut t w.1 w.2 d) := rfl

theorem storeAll_notes (t : Nat) (ws : List (Nat × Nat)) (x : TaskX) (d : Dev) : ∃ l, (storeAll t ws x d).1 = { x with log := l } := by
  induction ws generalizing x d with
  | nil => exact ⟨x.log, rfl⟩
  | cons w ws ih =>
    obtain ⟨l, hl⟩ := ih { x with log := (w.1, varGet (bankOf t d) w.1 d) :: x.log } (taskPut t w.1 w.2 d)
    exact ⟨l, by rw [storeAll_cons, hl]⟩

theorem wordsOnly_storeAll (t : Nat) (ws : List (Nat × Nat)) (x : TaskX) (d : Dev) : WordsOnly d (storeAll t ws x d).2 := by
  induction ws generalizing x d with
  | nil => exact .refl d
  | cons w ws ih => exact (wordsOnly_taskPut t w.1 w.2 d).trans (ih ..)

theorem storeAll_retake (t : Nat) (ws : List (Nat × Nat)) (x : TaskX) (d : Dev) : (storeAll t ws x d).2.shu.retake = d.shu.retake := by
  induction ws generalizing x d with
  | nil => rfl
  | cons w ws ih => rw [storeAll_cons, ih, taskPut_retake]

theorem storeAll_miss {t k : Nat} {ws : List (Nat × Nat)} {d : Dev} (x : TaskX) (h : ∀ p ∈ ws, ¬Hits t p.1 k d) :
    (storeAll t ws x d).2.shu.vars.get 0 k = d.shu.vars.get 0 k := by
  induction ws generalizing x d with
  | nil => rfl
  | cons w ws ih =>
    rw [storeAll_cons, ih _ fun p hp => ?_, taskPut_miss (h w (by simp))]
    rw [(wordsOnly_taskPut t w.1 w.2 d).hits]
    exact h p (by simp [hp])

theorem Distinct.tail {t : Nat} {w : Nat × Nat} {ws : List (Nat × Nat)} {d : Dev} (h : Distinct t (w :: ws) d) : Distinct t ws (taskPut t w.1 w.2 d) :=
  (List.pairwise_cons.1 h).2.imp fun hpq k => by
    rw [(wordsOnly_taskPut t w.1 w.2 d).hits, (wordsOnly_taskPut t w.1 w.2 d).hits]
    exact hpq k

theorem storeAll_hit {t k : Nat} {ws : List (Nat × Nat)} {p : Nat × Nat} {d : Dev} (x : TaskX) (hd : Distinct t ws d) (hp : p ∈ ws) (h : Hits t p.1 k d) :
    (storeAll t ws x d).2.shu.vars.get 0 k = trunc 32 p.2 := by
  induction ws generalizing x d with
  | nil => cases hp
  | cons w ws ih =>
    rw [storeAll_cons]
    have hhits := (wordsOnly_taskPut t w.1 w.2 d).hits t
    rcases List.mem_cons.1 hp with rfl | hp
    · have hrest := (List.pairwise_cons.1 hd).1
      rw [storeAll_miss _ fun q hq => (hhits ..).not.2 (hrest q hq k h), taskPut_hit h]
    · exact ih _ hd.tail hp ((hhits ..).2 h)

/-- The undo log of distinct words. -/
theorem storeAll_log {t : Nat} {ws : List (Nat × Nat)} {d : Dev} (x : TaskX) (hd : Distinct t ws d) :
    (storeAll t ws x d).1 = { x with log := logged t ws x d } := by
  induction ws generalizing x d with
  | nil => rfl
  | cons w ws ih =>
    have hkeep : ws.map (fun p => (p.1, varGet (bankOf t (taskPut t w.1 w.2 d)) p.1 (taskPut t w.1 w.2 d)))
        = ws.map fun p => (p.1, varGet (bankOf t d) p.1 d) := by
      refine List.map_congr_left fun p hp => ?_
      have hmiss : ¬Hits t w.1 (bankCell t p.1 d) d := fun h => (List.pairwise_cons.1 hd).1 p hp _ h (.inl rfl)
      rw [(wordsOnly_taskPut t w.1 w.2 d).bankOf, varGet_eq, taskPut_miss hmiss, varGet_eq]
    rw [storeAll_cons, ih _ hd.tail]
    unfold logged
    rw [hkeep]
    simp

/-- What distinct words leave behind is what the statement says (R228, R247). -/
theorem stored_of_storeAll {t : Nat} {ws : List (Nat × Nat)} {d b e : Dev} {x : TaskX} (hd : Distinct t ws d) (hb : WordsOnly d b)
    (hbv : b.shu.vars = d.shu.vars) (he : e.shu.vars = (storeAll t ws x b).2.shu.vars) : Stored t ws d e := by
  have hdb : Distinct t ws b := hd.imp fun h k => by
    rw [hb.hits, hb.hits]
    exact h k
  refine ⟨fun p hp => ?_, fun hdual p hp c hc => ?_, fun k hk => ?_⟩
  · rw [varGet_eq, he]
    exact storeAll_hit x hdb hp ((hb.hits ..).2 (.inl rfl))
  · have hcell : twinCell t p.1 d = some ((1 - bankOf t d) * 32768 + c) := by simp [twinCell, hdual, hc]
    unfold varGet
    rw [he]
    exact storeAll_hit x hdb hp ((hb.hits ..).2 (.inr hcell))
  · rw [he, storeAll_miss x fun p hp => (hb.hits ..).not.2 ?_, hbv]
    obtain ⟨hbank, htwin⟩ := hk p hp
    rintro (h | h)
    · exact hbank h
    · unfold twinCell at h
      split at h
      · next hdual =>
        obtain ⟨c, hc, rfl⟩ := Option.map_eq_some_iff.1 h
        exact htwin hdual c hc rfl
      · cases h

theorem distinct_singleton (t : Nat) (p : Nat × Nat) (d : Dev) : Distinct t [p] d := List.pairwise_singleton _ _

theorem bankOf_le_one (t : Nat) (d : Dev) : bankOf t d ≤ 1 := by
  have h : get SHU_STATUS_VAR_BANK 0 d < 2 ^ 1 := Nat.mod_lt _ (by decide)
  unfold bankOf
  dsimp only
  split <;> omega

/-- In a checked image two words of a task share no cell. -/
theorem not_hits_of_ne {t a b k : Nat} {d : Dev} (hok : ImgOk d) (ha : mayStore t a d = true) (hb : mayStore t b d = true) (hne : a ≠ b)
    (h : Hits t a k d) : ¬Hits t b k d := by
  have hbank := bankOf_le_one t d
  have hlt := lt_of_mayStore hok ha
  have hltb := lt_of_mayStore hok hb
  have htwin {a k : Nat} (h : twinCell t a d = some k) : ∃ c < 32768, twinWord t a d = some c ∧ k = (1 - bankOf t d) * 32768 + c := by
    unfold twinCell at h
    split at h
    · obtain ⟨c, hc, rfl⟩ := Option.map_eq_some_iff.1 h
      exact ⟨c, twinWord_holds hok hc, hc, rfl⟩
    · cases h
  unfold Hits bankCell at h ⊢
  rintro (hkb | hkb)
  · rcases h with hka | hka
    · omega
    · obtain ⟨c, hc, -, hk⟩ := htwin hka
      omega
  · obtain ⟨c, hc, hcb, hk⟩ := htwin hkb
    rcases h with hka | hka
    · omega
    · obtain ⟨c', hc', hca, hk'⟩ := htwin hka
      obtain rfl : c = c' := by omega
      exact hne (twinWord_inj hok hca hcb)

theorem distinct_of_nodup {t : Nat} {ws : List (Nat × Nat)} {d : Dev} (hok : ImgOk d) (hmay : ∀ p ∈ ws, mayStore t p.1 d = true)
    (hws : (ws.map Prod.fst).Nodup) : Distinct t ws d := by
  refine List.Pairwise.imp_of_mem ?_ (List.pairwise_map.1 hws)
  exact fun hp hq hne k => not_hits_of_ne hok (hmay _ hp) (hmay _ hq) hne

/-- An instruction that completes, having stored words. -/
theorem gives_of_words {i : Instr} {t cyc : Nat} {w : Option Nat} {f : TaskX → Dev → Act} {s : State} {y : TaskX} {e : Dev}
    (hi : exec i s = isa t w f s) (h : Issues t w s.dev)
    (hf : f { taskX t (turned t s.dev) with pc := (taskX t (turned t s.dev)).pc + 1 } (turned t s.dev) = .done y e cyc)
    (he : WordsOnly (turned t s.dev) e) (hy : y.turn = (taskX t (turned t s.dev)).turn) :
    Gives i s fun e' => Ran t cyc y (turned t s.dev) e' ∧ e'.shu.vars = e.shu.vars ∧ e'.shu.retake = e.shu.retake := by
  rw [gives_isa_iff hi, issue_of_done h hf (.refl t _) he hy]
  exact ⟨ran_ended he, varsKept_ended (b := e) ⟨rfl, rfl⟩⟩

end Sys2Proof.Machine

namespace Sys2Proof.Machine

/-! ## Loads, stores and constants (R228, R234, R235) -/

theorem imgOk_turned {t : Nat} {d : Dev} (hok : ImgOk d) : ImgOk (turned t d) := by
  have h := sameTurns_turned t d
  unfold ImgOk
  rw [h.img, h.next]
  exact hok

/-- An instruction that writes registers only. -/
theorem computes_of_done {i : Instr} {cyc t : Nat} {w : Option Nat} {f : TaskX → Dev → Act} {wr : TaskX → List (Nat × Int)}
    (hword : shuWord i = some (t, w)) (hi : exec i = isa t w f)
    (hf : ∀ x d, f { x with pc := x.pc + 1 } d = .done (TaskX.write (wr x) { x with pc := x.pc + 1 }) d cyc) : Computes i cyc wr := by
  intro t' w' s hw hs
  obtain ⟨rfl, rfl⟩ : t = t' ∧ w = w' := by simpa using hword.symm.trans hw
  refine gives_of_done (congrFun hi s) hs (hf _ _) (.refl t _) ?_ rfl
  rfl

theorem addrB_of_operandAt {x : TaskX} {ra X imm a : Nat} (h : OperandAt x ra X imm a) (p : Nat) : addrB { x with pc := p } ra X imm = some a := by
  unfold addrB
  rcases h with ⟨rfl, rfl, rfl⟩ | ⟨rfl, rfl⟩
  · rfl
  · rfl

section

variable {t rd ra X imm a : Nat} {s : State}

theorem gives_ld (hs : Issues t (wordB 0x01 rd ra X imm) s.dev) (ha : OperandAt (taskX t (turned t s.dev)) ra X imm a)
    (hcov : covered t a (turned t s.dev) = true) : Gives (.iLd t rd ra X imm) s fun e =>
      let d := turned t s.dev
      let x := taskX t d
      Ran t 1 { x with pc := x.pc + 1, regs := x.regs.set rd (trunc 32 (varGet (bankOf t d) a d)) } d e ∧ VarsKept d e := by
  have hi : exec (.iLd t rd ra X imm) s = loadOp 0x01 1 false t rd ra X imm s := rfl
  refine gives_of_done hi hs ?_ (.refl t _) ?_ rfl
  · simp [addrB_of_operandAt ha, hcov, setX]
  · rfl

theorem gives_ldt (hs : Issues t (wordB 0x02 rd ra X imm) s.dev) (ha : OperandAt (taskX t (turned t s.dev)) ra X imm a) (hrd : rd % 2 = 0)
    (heven : a % 2 = 0) (hcov : covered t a (turned t s.dev) = true) (hcov' : covered t (a + 1) (turned t s.dev) = true) :
    Gives (.iLdt t rd ra X imm) s fun e =>
      let d := turned t s.dev
      let x := taskX t d
      Ran t 2 { x with pc := x.pc + 1, regs := (x.regs.set rd (trunc 32 (varGet (bankOf t d) a d))).set (rd + 1) (trunc 32 (varGet (bankOf t d) (a + 1) d)) }
        d e ∧ VarsKept d e := by
  have hi : exec (.iLdt t rd ra X imm) s = loadOp 0x02 2 true t rd ra X imm s := rfl
  refine gives_of_done hi hs ?_ (.refl t _) ?_ rfl
  · simp [addrB_of_operandAt ha, hrd, heven, hcov, hcov', setX]
  · rfl

/-- A store of distinct words, with the notes that it leaves. -/
theorem gives_of_storeAll {i : Instr} {cyc : Nat} {w : Option Nat} {f : TaskX → Dev → Act} {ws : List (Nat × Nat)} (hi : exec i s = isa t w f s)
    (hs : Issues t w s.dev) (hws : Distinct t ws (turned t s.dev))
    (hf : ∀ d x, d = turned t s.dev → x = { taskX t d with pc := (taskX t d).pc + 1 } → f x d = .done (storeAll t ws x d).1 (storeAll t ws x d).2 cyc) :
    Gives i s fun e =>
      let d := turned t s.dev
      let x := taskX t d
      Ran t cyc { x with pc := x.pc + 1, log := logged t ws x d } d e ∧ Stored t ws d e ∧ e.shu.retake = d.shu.retake := by
  refine (gives_of_words hi hs (hf _ _ rfl rfl) (wordsOnly_storeAll ..) (by rw [storeAll_log _ hws]; rfl)).imp fun e ⟨hran, hvars, hretake⟩ => ?_
  refine ⟨?_, stored_of_storeAll hws (.refl _) rfl hvars, hretake.trans (storeAll_retake ..)⟩
  rw [storeAll_log _ hws] at hran
  exact hran

theorem gives_st (hs : Issues t (wordB 0x03 rd ra X imm) s.dev) (ha : OperandAt (taskX t (turned t s.dev)) ra X imm a)
    (hmay : mayStore t a (turned t s.dev) = true) : Gives (.iSt t rd ra X imm) s fun e =>
      let d := turned t s.dev
      let x := taskX t d
      Ran t 1 { x with pc := x.pc + 1, log := logged t [(a, xr x rd)] x d } d e ∧ Stored t [(a, xr x rd)] d e ∧ e.shu.retake = d.shu.retake := by
  have hi : exec (.iSt t rd ra X imm) s = storeOp 0x03 1 false t rd ra X imm s := rfl
  refine gives_of_storeAll hi hs (distinct_singleton ..) ?_
  rintro d x rfl rfl
  simp [addrB_of_operandAt ha, hmay]
  exact ⟨rfl, rfl⟩

theorem gives_stt (hs : Issues t (wordB 0x04 rd ra X imm) s.dev) (ha : OperandAt (taskX t (turned t s.dev)) ra X imm a) (hrd : rd % 2 = 0)
    (heven : a % 2 = 0) (hmay : mayStore t a (turned t s.dev) = true) (hmay' : mayStore t (a + 1) (turned t s.dev) = true)
    (hok : ImgOk s.dev) : Gives (.iStt t rd ra X imm) s fun e =>
      let d := turned t s.dev
      let x := taskX t d
      Ran t 2 { x with pc := x.pc + 1, log := logged t [(a, xr x rd), (a + 1, xr x (rd + 1))] x d } d e ∧
      Stored t [(a, xr x rd), (a + 1, xr x (rd + 1))] d e ∧ e.shu.retake = d.shu.retake := by
  have hi : exec (.iStt t rd ra X imm) s = storeOp 0x04 2 true t rd ra X imm s := rfl
  have hdistinct {v v' : Nat} : Distinct t [(a, v), (a + 1, v')] (turned t s.dev) :=
    distinct_of_nodup (imgOk_turned hok) (by simp [hmay, hmay']) (by simp)
  refine gives_of_storeAll hi hs hdistinct ?_
  rintro d x rfl rfl
  simp [addrB_of_operandAt ha, hrd, heven, hmay, hmay']
  exact ⟨rfl, rfl⟩

end

/-- Settles O41: a store writes its cells alone; in a checked image no two words, and no two matching words, share a cell. -/
theorem shuttleMemory : Obligations.ShuttleMemory := by
  intro t rd ra X imm a s
  refine ⟨computes_of_done rfl rfl fun _ _ => rfl, computes_of_done rfl rfl fun x d => ?_,
    fun _ => ⟨computes_of_done rfl rfl fun x d => ?_, computes_of_done rfl rfl fun x d => ?_⟩, gives_ld, gives_ldt, gives_st, gives_stt⟩
  · rw [← setX_ofInt]
    rfl
  · rw [← setX_eq_write]
    rfl
  · rw [← setX_eq_write]
    rfl

end Sys2Proof.Machine

namespace Sys2Proof.Machine

/-! ## A task that stops (R226, R238) -/

/-- An engine executes a scan under way. -/
theorem nextTask_live {e u : Nat} {d : Dev} (h : nextTask e d = some u) : (taskX u d).live = true := by
  have hall : ∀ k, nextTask e d = some k → (taskX k d).live = true := by
    unfold nextTask
    refine forL_keeps (P := fun best : Option Nat => ∀ k, best = some k → (taskX k d).live = true) (l := List.range 8)
      (f := fun t best => if (taskX t d).live && !(taskX t d).broken && taskEngine t d == e then
        match best with
        | none => some t
        | some b => if moreUrgent t b d then some t else best
      else best) (fun t best hbest => ?_) nofun
    by_cases hruns : ((taskX t d).live && !(taskX t d).broken && taskEngine t d == e) = true
    · have hlive : (taskX t d).live = true := by
        simp only [Bool.and_eq_true] at hruns
        exact hruns.1.1
      have hself : ∀ k, some t = some k → (taskX k d).live = true := fun k hk => Option.some.inj hk ▸ hlive
      rw [if_pos hruns]
      cases best with
      | none => exact hself
      | some b =>
        show ∀ k, (if moreUrgent t b d then some t else some b) = some k → (taskX k d).live = true
        split
        · exact hself
        · exact hbest
    · rw [if_neg hruns]
      exact hbest
  exact hall u h

/-- The registers that say how a task stands. -/
def standRegs (t : Nat) : List Nat := [SHU_TASK_STATE.addr t, SHU_TASK_PC.addr t]

theorem standRegs_off_raise {t : Nat} (ht : t < 8) : ∀ a ∈ standRegs t, a ∉ raiseAddrs :=
  (by decide +kernel : ∀ t < 8, ∀ a ∈ standRegs t, a ∉ raiseAddrs) t ht

theorem standRegs_apart {t u : Nat} (h : u ≠ t) : ∀ a ∈ standRegs t, a ∉ standRegs u := by
  intro a ha hu
  simp only [standRegs, Reg.addr, SHU_TASK_STATE, SHU_TASK_PC, List.mem_cons, List.not_mem_nil, or_false] at ha hu
  omega

theorem standRegs_ne_engRegs {t e : Nat} (ht : t < 8) (he : e < 2) : ∀ a ∈ standRegs t, a ≠ SHU_ENG_STATUS.addr e ∧ a ≠ SHU_ENG_BUSY.addr e :=
  (by decide +kernel : ∀ t < 8, ∀ e < 2, ∀ a ∈ standRegs t, a ≠ SHU_ENG_STATUS.addr e ∧ a ≠ SHU_ENG_BUSY.addr e) t ht e he

theorem standRegs_block {t : Nat} (ht : t < 8) : ∀ a ∈ standRegs t, a / 65536 = 9 ∧ a % 65536 < 0x8000 :=
  (by decide +kernel : ∀ t < 8, ∀ a ∈ standRegs t, a / 65536 = 9 ∧ a % 65536 < 0x8000) t ht

/-- Task `t` has no scan under way, and stands as it did in `b`. -/
structure Asleep (t : Nat) (b d : Dev) : Prop where
  idle : (taskX t d).live = false
  regs : ∀ a ∈ standRegs t, ∀ z, d.live.get z a = b.live.get z a

namespace Asleep

variable {t e u code obj : Nat} {f : Fld} {b d : Dev}

theorem refl (h : (taskX t d).live = false) : Asleep t d d := ⟨h, fun _ _ _ => rfl⟩

theorem get_eq (h : Asleep t b d) (hf : f.reg.addr t ∈ standRegs t) : get f t d = get f t b := get_congr _ _ _ _ (h.regs _ hf)

protected theorem ite {p : Prop} {_ : Decidable p} {e : Dev} (hd : Asleep t b d) (he : Asleep t b e) : Asleep t b (if p then d else e) := ite_keeps hd he

protected theorem put {i v : Nat} (h : Asleep t b d) (hf : ∀ a ∈ standRegs t, a ≠ f.reg.addr i) : Asleep t b (put f i v d) :=
  ⟨by rw [taskX_put]; exact h.idle, fun a ha z => (live_put_other _ _ _ _ _ _ (hf a ha)).trans (h.regs a ha z)⟩

protected theorem taskMod {g : TaskX → TaskX} (h : Asleep t b d) (hu : u ≠ t) : Asleep t b (taskMod u g d) :=
  ⟨by rw [taskX_taskMod_other _ _ hu.symm]; exact h.idle, h.regs⟩

protected theorem shuEngMod {g : ShuEngX → ShuEngX} (h : Asleep t b d) : Asleep t b (shuEngMod e g d) := ⟨h.idle, h.regs⟩

protected theorem heldMarkAt {s : Nat} (h : Asleep t b d) : Asleep t b (heldMarkAt u s d) := by
  refine ⟨?_, h.regs⟩
  rcases eq_or_ne u t with rfl | hu
  · rw [heldMarkAt, taskX_taskMod_same]
    split <;> exact h.idle
  · rw [heldMarkAt, taskX_taskMod_other _ _ hu.symm]
    exact h.idle

protected theorem raise (h : Asleep t b d) (ht : t < 8) : Asleep t b (raise code obj d) :=
  ⟨by rw [taskX, raise_shu]; exact h.idle, fun a ha z => (live_raise _ _ _ _ _ _ _ (standRegs_off_raise ht a ha)).trans (h.regs a ha z)⟩

protected theorem putStrands {vs : List (Nat × Nat)} (h : Asleep t b d) (ht : t < 8) : Asleep t b (putStrands vs d) := by
  refine ⟨by rw [taskX, putStrands_shu]; exact h.idle, fun a ha z => (live_putStrands _ _ _ _ ?_ fun p _ hp => ?_).trans (h.regs a ha z)⟩
  · have := standRegs_block ht a ha
    omega
  · have := (standRegs_block ht a ha).2
    have := strandAddr_high (bits p.1 12 8) (bits p.1 0 12) (bits_lt _ _ _)
    omega

protected theorem outTo {kind dest v : Nat} (h : Asleep t b d) (ht : t < 8) : Asleep t b (outTo kind dest v d) := by
  have hdrive {level : Bool} : Asleep t b (gpioDrive dest level d) := by
    unfold gpioDrive gpioFollow
    extract_lets d1 x
    have h1 : Asleep t b d1 := ⟨h.idle, h.regs⟩
    refine h1.ite ?_
    split
    · refine h1.ite (.putStrands (.put (d := { d1 with pins := _ }) ⟨h.idle, h.regs⟩ fun a ha hlevel => ?_) ht)
      have hblock : SYS_GPIO_LEVEL_LEVEL.reg.addr 0 / 65536 = 1 := by decide
      have := (standRegs_block ht a ha).1
      rw [hlevel] at this
      omega
    · exact h1
  exact .ite ⟨h.idle, h.regs⟩ hdrive

protected theorem showEngine (h : Asleep t b d) (ht : t < 8) (he : e < 2) : Asleep t b (showEngine e d) :=
  h.put fun a ha => (standRegs_ne_engRegs ht he a ha).1

protected theorem engTake (h : Asleep t b d) (ht : t < 8) (he : e < 2) : Asleep t b (engTake e u d) :=
  ⟨(task_engTake TaskX.live (fun _ => rfl) e u t d).trans h.idle, fun a ha z =>
    (live_engTake (standRegs_ne_engRegs ht he a ha).2).trans (h.regs a ha z)⟩

protected theorem enterBreak (h : Asleep t b d) (ht : t < 8) (he : e < 2) (hne : u ≠ t) : Asleep t b (enterBreak e u d) := by
  have hoff {f : Fld} (hf : f.reg.addr u ∈ standRegs u) : ∀ a ∈ standRegs t, a ≠ f.reg.addr u :=
    fun a ha hau => standRegs_apart hne a ha (hau ▸ hf)
  unfold Machine.enterBreak
  extract_lets d1 at_
  have h1 : Asleep t b d1 := h.engTake ht he
  exact (((h1.shuEngMod.taskMod hne).put (hoff (.head _))).put (hoff (.tail _ (.head _)))).put (hoff (.tail _ (.head _))) |>.heldMarkAt.raise ht

protected theorem breakSettle (h : Asleep t b d) (ht : t < 8) (he : e < 2) (n : Nat) : Asleep t b (breakSettle e n d) := by
  induction n generalizing d with
  | zero => exact h
  | succ n ih =>
    unfold Machine.breakSettle
    split
    · exact h
    · next u hu =>
      have hlive := nextTask_live hu
      have hne : u ≠ t := fun hut => by simp [hut, h.idle] at hlive
      exact .ite (ih (h.enterBreak ht he hne)) h

protected theorem engSettle (h : Asleep t b d) (ht : t < 8) (he : e < 2) : Asleep t b (engSettle e d) :=
  (h.showEngine ht he).ite ((h.breakSettle ht he 8).showEngine ht he)

end Asleep

end Sys2Proof.Machine

namespace Sys2Proof.Machine

/-! ## How a stopped task stands (R226, R238) -/

theorem taskX_scanClose (e t : Nat) (d : Dev) :
    taskX t (scanClose e t d) = { taskX t d with live := false, begun := false, broken := false, cont := false, free := false } := by
  unfold scanClose
  rw [taskX_shuEngMod, taskX_taskMod_same]

theorem taskX_scanPaid (t u : Nat) (d : Dev) : taskX u (scanPaid t d) = taskX u d := rfl

/-- The task has stopped with this cause before the instruction at this index. -/
structure Stands (t cause pc : Nat) (d : Dev) : Prop where
  state : get SHU_TASK_STATE_STATE t d = 4
  cause : get SHU_TASK_PC_CAUSE t d = cause
  index : get SHU_TASK_PC_INDEX t d = pc % 65536
  idle : (taskX t d).live = false

theorem Stands.asleep {t cause pc : Nat} {b d : Dev} (h : Stands t cause pc b) (k : Asleep t b d) : Stands t cause pc d :=
  ⟨(k.get_eq (.head _)).trans h.state, (k.get_eq (.tail _ (.head _))).trans h.cause, (k.get_eq (.tail _ (.head _))).trans h.index, k.idle⟩

/-- A field of another register, or other bits of the task's state. -/
theorem Stands.put {t cause pc v : Nat} {f : Fld} {d : Dev} (h : Stands t cause pc d) (hf : f.reg = SHU_TASK_STATE ∧ 3 ≤ f.lo) :
    Stands t cause pc (put f t v d) := by
  obtain ⟨hreg, hlo⟩ := hf
  have hne : SHU_TASK_PC.addr t ≠ f.reg.addr t := by
    rw [hreg]
    simp [Reg.addr, SHU_TASK_PC, SHU_TASK_STATE]
  have hbits : Apart SHU_TASK_STATE_STATE t f t := .bits ⟨hreg.symm, by decide, .inl hlo⟩
  exact ⟨(get_put_apart hbits).trans h.state, (get_put_apart (.inl hne)).trans h.cause,
    (get_put_apart (.inl hne)).trans h.index, by rw [taskX_put]; exact h.idle⟩

theorem stands_of_puts {t cause pc : Nat} {d : Dev} (hc : cause < 16) (hidle : (taskX t d).live = false) :
    Stands t cause pc (d |> put SHU_TASK_PC_INDEX t pc |> put SHU_TASK_PC_CAUSE t cause |> put SHU_TASK_STATE_STATE t 4) := by
  have hne : SHU_TASK_PC.addr t ≠ SHU_TASK_STATE.addr t := by simp [Reg.addr, SHU_TASK_PC, SHU_TASK_STATE]
  refine ⟨get_put_same _ _ _ _ (by decide), ?_, ?_, by simpa using hidle⟩
  · rw [get_put_apart (.inl hne), get_put_mod (m := 16) (by decide) rfl, Nat.mod_eq_of_lt hc]
  · rw [get_put_apart (.inl hne), get_put_apart (.bits (by decide)), get_put_mod (m := 65536) (by decide) rfl]

/-- A task that stops keeps the cause and the index (R226, R238). -/
theorem taskStop_stands {t code cause : Nat} {d : Dev} (ht : t < 8) (he : taskEngine t d < 2) (hr : (taskRec t d).isSome = true) (hc : cause < 16) :
    Stands t cause (taskX t d).pc (taskStop t code cause d) ∧ get SHU_TASK_STATE_FAULT t (taskStop t code cause d) = 1 := by
  obtain ⟨r, hrec⟩ := Option.isSome_iff_exists.1 hr
  have hlt : r.u P0902_ENGINE < 2 := by
    rw [taskEngine, hrec] at he
    exact he
  unfold taskStop
  rw [hrec]
  simp only []
  generalize hclosed : scanPaid t (taskMod t (fun x => { x with toHold := false }) (scanClose (r.u P0902_ENGINE) t
    (onlyIf (!(taskX t d).begun) (refillBoxes t) d))) = d1
  have hidle : (taskX t d1).live = false := by
    rw [← hclosed]
    rw [taskX_scanPaid, taskX_taskMod_same, taskX_scanClose]
  have hstands := (stands_of_puts (pc := (taskX t d).pc) hc hidle).put (f := SHU_TASK_STATE_SINGLE) (v := 0) ⟨rfl, by decide⟩
  generalize hput : put SHU_TASK_STATE_SINGLE t 0 _ = d2 at hstands ⊢
  generalize hout : forL (List.range (r.u P0902_OUT_COUNT)) _ (heldMark t d2) = d3
  have hasleep : Asleep t d2 d3 := by
    rw [← hout]
    exact forL_keeps (fun j d h => .ite (.outTo h ht) h) (Asleep.refl hstands.idle).heldMarkAt
  have hstands3 := (hstands.asleep hasleep).put (f := SHU_TASK_STATE_FAULT) (v := 1) ⟨rfl, by decide⟩
  have hend : Asleep t (put SHU_TASK_STATE_FAULT t 1 d3) (engSettle (r.u P0902_ENGINE) (raise code t (put SHU_TASK_STATE_FAULT t 1 d3))) :=
    ((Asleep.refl hstands3.idle).raise ht).engSettle ht hlt
  exact ⟨hstands3.asleep hend, (hend.get_eq (.head _)).trans (get_put_one _ _ _ (by decide) (by decide))⟩

theorem turned_stands {t code cause : Nat} {d e : Dev} (ht : t < 8) (he : taskEngine t d < 2) (hr : (taskRec t d).isSome = true) (hc : cause < 16)
    (hs : SameTurns d e) (hpc : (taskX t e).pc = (taskX t d).pc) :
    Stands t cause (taskX t d).pc (taskStop t code cause e) ∧ get SHU_TASK_STATE_FAULT t (taskStop t code cause e) = 1 := by
  rw [← hpc]
  exact taskStop_stands ht (by rwa [hs.taskEngine]) (by rwa [hs.taskRec]) hc

theorem pc_turned (t : Nat) (d : Dev) : (taskX t (turned t d)).pc = (taskX t d).pc := task_engTake TaskX.pc (fun _ => rfl) ..

@[simp] theorem taskX_moveTo (t e : Nat) (d : Dev) : taskX t (moveTo e d) = taskX t d := rfl

/-- A clock moved on changes no scan's turn. -/
theorem SameTurns.moveTo {c d : Dev} (h : SameTurns c d) (e : Nat) : SameTurns c (moveTo e d) := ⟨h.img, h.next, h.switched, h.turn⟩

theorem scanError_stands {t cause : Nat} {d : Dev} (ht : t < 8) (he : taskEngine t d < 2) (hr : (taskRec t d).isSome = true) (hc : cause < 16) :
    Stands t cause (taskX t d).pc (scanError t cause (turned t d)) ∧ get SHU_TASK_STATE_FAULT t (scanError t cause (turned t d)) = 1 :=
  turned_stands ht he hr hc ((sameTurns_turned t d).moveTo _) (pc_turned t d)

/-- An instruction that is an execution error stops its task. -/
theorem stopsOn_of_err {i : Instr} {t cause : Nat} {w : Option Nat} {f : TaskX → Dev → Act} {h : TaskX → Dev → Prop} (hword : shuWord i = some (t, w))
    (hi : exec i = isa t w f) (hc : cause < 16) (hf : ∀ x d, h x d → f { x with pc := x.pc + 1 } d = .err cause) : StopsOn i cause h := by
  intro t' w' s hw hs hh
  obtain ⟨rfl, rfl⟩ : t = t' ∧ w = w' := by simpa using hword.symm.trans hw
  obtain ⟨ht, heng, hrec, -⟩ := id hs
  rw [gives_isa_iff (congrFun hi s), issue_of_err hs (hf _ _ hh)]
  obtain ⟨⟨hstate, hcause, hindex, hidle⟩, hfault⟩ := scanError_stands ht heng hrec hc
  exact ⟨hstate, hfault, hcause, hindex, hidle⟩

end Sys2Proof.Machine

namespace Sys2Proof.Machine

/-! ## Branches, calls, returns and posts (R235, R236) -/

theorem targetC_eq {x : TaskX} {off p : Nat} (h : (x.pc : Int) + toInt 18 off = p) (hp : p < 65536) : targetC { x with pc := x.pc + 1 } off = some p := by
  have hv : ((x.pc + 1 : Nat) : Int) - 1 + toInt 18 off = p := by omega
  unfold targetC
  simp only [hv]
  rw [if_pos (by omega), Int.toNat_natCast]

/-- BR with this COND is taken for this value (R235). -/
def brTakes (c : Nat) (v : Int) : Bool :=
  match c with
  | 0 => true
  | 1 => v == 0
  | 2 => v != 0
  | 3 => decide (v < 0)
  | _ => decide (0 ≤ v)

theorem brTakes_iff {c : Nat} {v : Int} (hc : c ≤ 4) : brTakes c v = true ↔ c = 0 ∨ (c = 1 ∧ v = 0) ∨ (c = 2 ∧ v ≠ 0) ∨ (c = 3 ∧ v < 0) ∨ (c = 4 ∧ 0 ≤ v) := by
  interval_cases c <;> simp [brTakes]

section

variable {t c ra off p : Nat} {s : State}

theorem gives_br (hs : Issues t (wordC 0x30 c ra off) s.dev) (hp : ((taskX t (turned t s.dev)).pc : Int) + toInt 18 off = p) (hlt : p < 65536)
    (hc : c ≤ 4) (hra : c = 0 → ra = 0) : Gives (.iBr t c ra off) s fun e =>
      let d := turned t s.dev
      let x := taskX t d
      let take := brTakes c (xs x ra)
      Ran t (if take then 2 else 1) { x with pc := if take then p else x.pc + 1 } d e ∧ VarsKept d e := by
  have hi : exec (.iBr t c ra off) s = isa t (wordC 0x30 c ra off) (fun y d => match targetC y off with
      | none => .err 1
      | some p => if 4 < c ∨ (c = 0 ∧ ra ≠ 0) then .err 1 else if brTakes c (xs y ra) then .done { y with pc := p } d 2 else .done y d 1) s := rfl
  have hlegal : ¬(4 < c ∨ (c = 0 ∧ ra ≠ 0)) := by omega
  refine gives_of_done hi hs ?_ (.refl t _) ?_ rfl
  · simp only [targetC_eq hp hlt, if_neg hlegal]
    by_cases h : brTakes c (xs (taskX t (turned t s.dev)) ra) = true
    · simp only [h, if_true]
      exact if_pos h
    · simp only [h]
      exact if_neg h
  · rfl

theorem gives_call (hs : Issues t (wordC 0x31 0 0 off) s.dev) (hp : ((taskX t (turned t s.dev)).pc : Int) + toInt 18 off = p) (hlt : p < 65536)
    (hstack : (taskX t (turned t s.dev)).stack.length < 16) : Gives (.iCall t 0 0 off) s fun e =>
      let d := turned t s.dev
      let x := taskX t d
      Ran t 2 { x with pc := p, stack := (x.pc + 1) :: x.stack } d e ∧ VarsKept d e := by
  have hi : exec (.iCall t 0 0 off) s = isa t (wordC 0x31 0 0 off) _ s := rfl
  refine gives_of_done hi hs ?_ (.refl t _) ?_ rfl
  · simp only [targetC_eq hp hlt]
    exact (if_neg (by simp)).trans (if_neg (not_le.2 hstack))
  · rfl

theorem gives_ret {q : Nat} {ps : List Nat} (hs : Issues t (wordB 0x32 0 0 0 0) s.dev) (hstack : (taskX t (turned t s.dev)).stack = q :: ps) :
    Gives (.iRet t 0 0 0 0) s fun e =>
      let d := turned t s.dev
      Ran t 2 { taskX t d with pc := q, stack := ps } d e ∧ VarsKept d e := by
  have hi : exec (.iRet t 0 0 0 0) s = isa t (wordB 0x32 0 0 0 0) _ s := rfl
  refine gives_of_done hi hs ?_ (.refl t _) ?_ rfl
  · simp [hstack]
  · rfl

theorem gives_post {kind imm : Nat} (hs : Issues t (wordB 0x34 kind ra 0 imm) s.dev)
    (hobj : kind ≤ 2 ∧ xr (taskX t (turned t s.dev)) ra < if kind = 0 then 64 else if kind = 1 then 8 else 32)
    (hcov : ∀ i, i < postWords kind → covered t (imm + i) (turned t s.dev) = true) : Gives (.iPost t kind ra 0 imm) s fun e =>
      let d := turned t s.dev
      let x := taskX t d
      Ran t 2 { x with pc := x.pc + 1, posts := x.posts ++ [(kind, xr x ra, imm)] } d e ∧ VarsKept d e := by
  have hi : exec (.iPost t kind ra 0 imm) s = isa t (wordB 0x34 kind ra 0 imm) _ s := rfl
  refine gives_of_done hi hs ?_ (.refl t _) ?_ rfl
  · refine (if_neg (by simp)).trans (if_neg ?_)
    rintro (h | h | h)
    · omega
    · exact absurd hobj.2 (not_lt.2 h)
    · exact h (by simpa using hcov)
  · rfl

end

/-! ## The end of a scan (R223, R225, R226) -/

theorem exec_iEnd (t : Nat) (s : State) : exec (.iEnd t 0 0 0 0) s = .next { s with dev := endScan t (wordB 0x33 0 0 0 0) true s.dev } := rfl

theorem endScan_of_issues {t : Nat} {w : Option Nat} {r : Rec} {s : Dev} (h : Issues t w s) (hr : taskRec t (turned t s) = some r) :
    let d := turned t s
    let d1 := spend (taskEngine t s) (5 + outWords t r d) d
    let d2 := spend (taskEngine t s) (((taskX t d).outAt - loomAt (shuEngX (taskEngine t s) d1).at_ d1 + 15) / 16) d1
    let outAt := (shuEngX (taskEngine t s) d2).at_
    endScan t w true s = if watchPassed t (loomAt outAt d2) d2 then
        taskStop t 0x0902 5 (moveTo (edge d2 + ((taskX t d2).stamp + (taskX t d2).ext + (r.u P0902_WATCHDOG * 32 + 4) / 5 - now d2 + 15) / 16) d2)
      else scanEnd t r (loomAt outAt d2) (moveTo outAt d2) := by
  have hrec : taskRec t (engTake (taskEngine t s) t s) = some r := hr
  unfold endScan
  simp only [h.word, Bool.false_eq_true, if_false, if_neg h.not_reached, hrec, taskX_spend, Bool.not_true]
  rfl

/-- Settles O42: a branch's cycles follow from whether it is taken; END's two outcomes are told apart by WATCHDOG at the output edge. -/
theorem shuttleBranches : Obligations.ShuttleBranches := by
  intro t c ra off imm kind p ps s
  refine ⟨fun hs hp hlt hholds => ?_, fun hs hp hlt hc hc' hnot => ?_, gives_call, gives_ret, fun hs hitem => ?_, fun r hs hrec => ⟨fun hpassed => ?_, fun hpassed => ?_⟩⟩
  · have hc : c ≤ 4 := by omega
    have htakes : brTakes c (xs (taskX t (turned t s.dev)) ra) = true := (brTakes_iff hc).2 (hholds.imp_left And.left)
    simpa [htakes] using gives_br hs hp hlt hc (by omega)
  · have htakes : brTakes c (xs (taskX t (turned t s.dev)) ra) = false := by
      rw [Bool.eq_false_iff, Ne, brTakes_iff hc']
      omega
    simpa [htakes] using gives_br hs hp hlt hc' (by omega)
  · rcases hitem with ⟨rfl, hobj, hcov⟩ | ⟨rfl, hobj, hcov⟩ | ⟨rfl, hobj, hcov⟩
    · exact gives_post hs ⟨by decide, hobj⟩ hcov
    · exact gives_post hs ⟨by decide, hobj⟩ hcov
    · exact gives_post hs ⟨by decide, hobj⟩ hcov
  · have hend := (endScan_of_issues hs hrec).trans (if_neg (by rw [hpassed]; exact Bool.false_ne_true))
    rw [exec_iEnd, hend]
  · have hend := (endScan_of_issues hs hrec).trans (if_pos hpassed)
    obtain ⟨ht, heng, hsome, -⟩ := id hs
    obtain ⟨e, he, hsame, hpc⟩ : ∃ e, endScan t (wordB 0x33 0 0 0 0) true s.dev = taskStop t 0x0902 5 e ∧ SameTurns s.dev e ∧
        (taskX t e).pc = (taskX t s.dev).pc :=
      ⟨_, hend, (sameTurns_turned t s.dev).spend.spend.moveTo _, by simpa using pc_turned t s.dev⟩
    obtain ⟨hstands, hfault⟩ := turned_stands (code := 0x0902) (cause := 5) ht heng hsome (by decide) hsame hpc
    refine ⟨{ s with dev := taskStop t 0x0902 5 e }, by rw [exec_iEnd, he], rfl, rfl, rfl, ?_⟩
    exact ⟨hstands.state, hfault, hstands.cause, hstands.idle⟩

end Sys2Proof.Machine

namespace Sys2Proof.Machine

/-! ## Values in variable memory (R232) -/

theorem toInt64_range (n : Nat) : -2 ^ 63 ≤ toInt 64 n ∧ toInt 64 n < 2 ^ 63 := by
  have hlt : n % 2 ^ 64 < 2 ^ 64 := Nat.mod_lt _ (by decide)
  unfold toInt
  dsimp only
  split <;> omega

theorem toInt64_ofInt {v : Int} (h : -2 ^ 63 ≤ v ∧ v < 2 ^ 63) : toInt 64 (ofInt 64 v) = v := by
  unfold toInt ofInt
  dsimp only
  split <;> omega

theorem toInt32_ofInt {v : Int} (h : -2 ^ 31 ≤ v ∧ v < 2 ^ 31) : toInt 32 (ofInt 32 v) = v := by
  unfold toInt ofInt
  dsimp only
  split <;> omega

/-- A 64-bit value stored in two words reads as it was. -/
theorem toInt64_words {v : Int} (h : -2 ^ 63 ≤ v ∧ v < 2 ^ 63) : toInt 64 (trunc 32 (trunc 32 (ofInt 64 v)) + 2 ^ 32 * trunc 32 (ofInt 64 v / 2 ^ 32)) = v := by
  have hlt := ofInt_lt 64 v
  have hsum : trunc 32 (trunc 32 (ofInt 64 v)) + 2 ^ 32 * trunc 32 (ofInt 64 v / 2 ^ 32) = ofInt 64 v := by
    unfold trunc
    omega
  rw [hsum, toInt64_ofInt h]

theorem b2n_le_one (b : Bool) : b2n b ≤ 1 := by cases b <;> decide

theorem trunc_b2n (b : Bool) : trunc 32 (b2n b) = b2n b := by cases b <;> rfl

/-- A flag in a word stored. -/
theorem bit_trunc {n i : Nat} {b : Bool} (hi : i < 32) (h : n / 2 ^ i % 2 = b2n b) : bit (trunc 32 n) i = b := by
  have hlow : trunc 32 n / 2 ^ i % 2 = n / 2 ^ i % 2 := by
    simpa [bits, trunc] using bits_trunc 32 n i 1 (by omega)
  unfold bit
  rw [hlow, h]
  cases b <;> rfl

/-! ## Timers (R241) -/

theorem xp_range (x : TaskX) (k : Nat) : -2 ^ 63 ≤ xp x k ∧ xp x k < 2 ^ 63 := toInt64_range _

theorem timerTravel_range (t base : Nat) (d : Dev) : 0 ≤ timerTravel t base d ∧ timerTravel t base d < 2 ^ 63 := by
  have h := toInt64_range (ofInt 64 (toInt 64 (ofInt 64 ((taskX t d).image.get 0 (varGet (bankOf t d) (base + 5) d % 16))) - timeAt t (base + 6) d))
  unfold timerTravel
  split
  · decide
  · omega

/-- ET after a call: 0, as before, or advanced up to PT. -/
theorem timerCall_et (k : TimerKind) (w : TimerW) (inn : Bool) (pt dl : Int) :
    (timerCall k w inn pt dl).et = 0 ∨ (timerCall k w inn pt dl).et = w.et ∨ (timerCall k w inn pt dl).et = min (w.et + dl) (max pt 0) := by
  cases k with
  | ton =>
    simp only [timerCall, apply_ite TimerW.et]
    split_ifs <;> simp
  | tof =>
    simp only [timerCall, apply_ite TimerW.et, ite_self]
    split_ifs <;> simp
  | tp =>
    simp only [timerCall, apply_ite TimerW.et, ite_self]
    split_ifs <;> simp

theorem timerCall_et_range (k : TimerKind) {w : TimerW} (inn : Bool) {pt dl : Int} (hw : -2 ^ 63 ≤ w.et ∧ w.et < 2 ^ 63)
    (hpt : -2 ^ 63 ≤ pt ∧ pt < 2 ^ 63) (hdl : 0 ≤ dl) : -2 ^ 63 ≤ (timerCall k w inn pt dl).et ∧ (timerCall k w inn pt dl).et < 2 ^ 63 := by
  have h := timerCall_et k w inn pt dl
  omega

theorem mayStore_of_all {t base n i : Nat} {d : Dev} (h : mayStoreAll t base n d = true) (hi : i < n) : mayStore t (base + i) d = true := by
  unfold mayStoreAll at h
  exact List.all_eq_true.1 h i (List.mem_range.2 hi)

theorem distinct_timerWords {t base : Nat} {pt m : Int} {w : TimerW} {old : Nat} {d : Dev} (hok : ImgOk d) (h : mayStoreAll t base 8 d = true) :
    Distinct t (timerWords base pt w old m) d := by
  have hmay {i : Nat} (hi : i < 8) := mayStore_of_all h hi
  have h0 : mayStore t base d = true := hmay (i := 0) (by decide)
  exact distinct_of_nodup hok (by simp [timerWords, h0, hmay]) (by simp [timerWords])

theorem bankOf_ran {t cyc : Nat} {x : TaskX} {d e : Dev} (h : Ran t cyc x d e) : bankOf t e = bankOf t d := by
  obtain ⟨-, -, -, -, -, hrest, hlive⟩ := h
  have hswitched : e.switched = d.switched := (congrArg Dev.switched hrest).trans rfl
  have hbank : get SHU_STATUS_VAR_BANK 0 e = get SHU_STATUS_VAR_BANK 0 d := get_congr _ _ _ _ fun z => hlive _ ?_ z
  · unfold bankOf taskSwitched
    rw [hswitched, hbank]
  · have hstatus := SHU_ENG_STATUS.base_le_addr (taskEngine t d)
    have hbusy := SHU_ENG_BUSY.base_le_addr (taskEngine t d)
    simp only [List.mem_cons, List.not_mem_nil, or_false, not_or]
    have hlow : SHU_STATUS.addr 0 = 0x90000 := rfl
    have hs : SHU_ENG_STATUS.base = 0x90100 := rfl
    have hb : SHU_ENG_BUSY.base = 0x90108 := rfl
    have hreg : SHU_STATUS_VAR_BANK.reg.addr 0 = SHU_STATUS.addr 0 := rfl
    omega

end Sys2Proof.Machine

namespace Sys2Proof.Machine

/-! ## A call of a timer (R241) -/

/-- The word of variable memory that a task reads after its stores. -/
theorem varGet_stored {t cyc : Nat} {x : TaskX} {ws : List (Nat × Nat)} {p : Nat × Nat} {d e : Dev} (hran : Ran t cyc x d e) (h : Stored t ws d e)
    (hp : p ∈ ws) : varGet (bankOf t e) p.1 e = trunc 32 p.2 := by
  rw [bankOf_ran hran]
  exact h.1 p hp

/-- The flags of a timer in its word 4. -/
theorem timerFlags (n : Nat) (q p r m : Bool) :
    let v := trunc 32 (n / 16 * 16 + b2n q + 2 * b2n p + 4 * b2n r + 8 * b2n m)
    bit v 0 = q ∧ bit v 1 = p ∧ bit v 2 = r ∧ bit v 3 = m := by
  have hq := b2n_le_one q
  have hp := b2n_le_one p
  have hr := b2n_le_one r
  have hm := b2n_le_one m
  refine ⟨bit_trunc (by decide) ?_, bit_trunc (by decide) ?_, bit_trunc (by decide) ?_, bit_trunc (by decide) ?_⟩ <;> omega

/-- The words of a call read back as the timer that it left. -/
theorem timerAt_of_stored {t base cyc old : Nat} {pt m : Int} {w : TimerW} {x : TaskX} {d e : Dev} (hran : Ran t cyc x d e)
    (h : Stored t (timerWords base pt w old m) d e) (het : -2 ^ 63 ≤ w.et ∧ w.et < 2 ^ 63) : timerAt t base e = w := by
  have hword {a v : Nat} (hp : (a, v) ∈ timerWords base pt w old m) : varGet (bankOf t e) a e = trunc 32 v := varGet_stored hran h hp
  have hlo := hword (a := base + 2) (v := trunc 32 (ofInt 64 w.et)) (by simp [timerWords])
  have hhi := hword (a := base + 3) (v := ofInt 64 w.et / 2 ^ 32) (by simp [timerWords])
  have hflags := hword (a := base + 4) (v := old / 16 * 16 + b2n w.q + 2 * b2n w.prev + 4 * b2n w.run + 8 * b2n w.primed) (by simp [timerWords])
  obtain ⟨h0, h1, h2, h3⟩ := timerFlags old w.q w.prev w.run w.primed
  unfold timerAt
  simp only [hlo, hhi, hflags, toInt64_words het, h0, h1, h2, h3]

theorem timeAt_of_stored {t a cyc : Nat} {v : Int} {ws : List (Nat × Nat)} {x : TaskX} {d e : Dev} (hran : Ran t cyc x d e) (h : Stored t ws d e)
    (hlo : (a, trunc 32 (ofInt 64 v)) ∈ ws) (hhi : (a + 1, ofInt 64 v / 2 ^ 32) ∈ ws) (hv : -2 ^ 63 ≤ v ∧ v < 2 ^ 63) : timeAt t a e = v := by
  have hl := varGet_stored hran h hlo
  have hh := varGet_stored hran h hhi
  dsimp only at hl hh
  rw [timeAt, hl, hh, toInt64_words hv]

/-- The task has taken M_LAST of the timer at `base` anew (R246). -/
def tookTravel (t base : Nat) (d : Dev) : Dev := { d with shu := { d.shu with retake := d.shu.retake.filter (· != bankOf t d * 32768 + base) } }

section

variable {k : TimerKind} {op t rd ra rb inst : Nat} {i : Instr} {s : State}

theorem gives_timer (hi : exec i s = timerOp op k t rd ra rb inst s) (hs : Issues t (wordF op rd ra rb inst) s.dev) (hinst : inst < 2 ^ 13)
    (hrb : rb % 2 = 0) (hmay : mayStoreAll t (4 * inst) 8 (turned t s.dev) = true) (hok : ImgOk s.dev) :
    let d := turned t s.dev
    let x := taskX t d
    let m := toInt 64 (ofInt 64 (x.image.get 0 (varGet (bankOf t d) (4 * inst + 5) d % 16)))
    let new := timerCall k (timerAt t (4 * inst) d) (xr x ra != 0) (xp x rb) (timerTravel t (4 * inst) d)
    Gives i s fun e =>
      timerAt t (4 * inst) e = new ∧ timeAt t (4 * inst) e = xp x rb ∧ timeAt t (4 * inst + 6) e = m ∧
      Ran t 10 { x with pc := x.pc + 1, regs := x.regs.set rd (b2n new.q), log := (taskX t e).log } d e ∧
      Stored t (timerWords (4 * inst) (xp x rb) new (varGet (bankOf t d) (4 * inst + 4) d) m) d e := by
  intro d x m new
  let ws := timerWords (4 * inst) (xp x rb) new (varGet (bankOf t d) (4 * inst + 4) d) m
  let y : TaskX := { x with pc := x.pc + 1 }
  have hb : WordsOnly d (tookTravel t (4 * inst) d) := .ofShu rfl
  obtain ⟨l, hl⟩ := storeAll_notes t ws y (tookTravel t (4 * inst) d)
  have hf : (if 2 ^ 13 ≤ inst then Act.err 1 else if rb % 2 = 1 then .err 4 else if !mayStoreAll t (4 * inst) 8 d then .err 2
      else .done (setX rd (b2n new.q) (storeAll t ws y (tookTravel t (4 * inst) d)).1) (storeAll t ws y (tookTravel t (4 * inst) d)).2 10)
      = .done { x with pc := x.pc + 1, regs := x.regs.set rd (b2n new.q), log := l } (storeAll t ws y (tookTravel t (4 * inst) d)).2 10 := by
    rw [if_neg (by omega), if_neg (by omega), if_neg (by simp [d, hmay]), hl, setX, trunc_b2n]
  have het : -2 ^ 63 ≤ new.et ∧ new.et < 2 ^ 63 := timerCall_et_range k _ (toInt64_range _) (xp_range ..) (timerTravel_range ..).1
  refine (gives_of_words hi hs hf (hb.trans (wordsOnly_storeAll ..)) rfl).imp fun e ⟨hran, hvars, _⟩ => ?_
  have hstored : Stored t ws d e := stored_of_storeAll (distinct_timerWords (imgOk_turned hok) hmay) hb rfl hvars
  have hnotes : taskX t e = { x with pc := x.pc + 1, regs := x.regs.set rd (b2n new.q), log := l } := hran.1
  refine ⟨timerAt_of_stored hran hstored het, ?_, ?_, by rw [hnotes]; exact hran, hstored⟩
  · exact timeAt_of_stored hran hstored (by simp [ws, timerWords]) (by simp [ws, timerWords]) (xp_range ..)
  · exact timeAt_of_stored hran hstored (by simp [ws, timerWords]) (by simp [ws, timerWords]) (toInt64_range _)

end

theorem ton_table (w : TimerW) (pt dl : Int) :
    timerCall .ton w false pt dl = ⟨0, false, false, false, true⟩ ∧
    (w.run = false → timerCall .ton w true pt dl = ⟨0, decide (pt ≤ 0), true, true, true⟩) ∧
    (w.run = true → timerCall .ton w true pt dl = ⟨min (w.et + dl) (max pt 0), decide (pt ≤ min (w.et + dl) (max pt 0)), true, true, true⟩) := by
  refine ⟨rfl, fun hrun => ?_, fun hrun => ?_⟩
  · simp [timerCall, hrun]
  · simp [timerCall, hrun]

theorem tof_table (w : TimerW) (pt dl : Int) :
    timerCall .tof w true pt dl = ⟨0, true, true, false, true⟩ ∧
    (w.primed = true → w.prev = true → timerCall .tof w false pt dl = ⟨0, decide (0 < pt) && w.q, false, decide (0 < pt), true⟩) ∧
    (w.primed = true → w.prev = false → w.run = false → timerCall .tof w false pt dl = ⟨w.et, w.q, false, false, true⟩) ∧
    (w.primed = true → w.prev = false → w.run = true → 0 ≤ w.et → 0 ≤ dl →
      timerCall .tof w false pt dl = ⟨min (w.et + dl) (max pt 0), decide (w.et + dl < pt) && w.q, false, decide (w.et + dl < pt), true⟩) := by
  refine ⟨rfl, fun hprimed hprev => ?_, fun hprimed hprev hrun => ?_, fun hprimed hprev hrun _ _ => ?_⟩
  · by_cases hpt : 0 < pt <;> simp [timerCall, hprimed, hprev, hpt]
  · simp [timerCall, hprimed, hprev, hrun]
  · rcases lt_or_ge (w.et + dl) pt with hlt | hle
    · simp [timerCall, hprimed, hprev, hrun, hlt, not_le.2 hlt]
    · simp [timerCall, hprimed, hprev, hrun, hle, not_lt.2 hle]

theorem tp_table (w : TimerW) (pt dl : Int) :
    (w.primed = true → w.prev = false → w.run = false → timerCall .tp w true pt dl = ⟨0, decide (0 < pt), true, decide (0 < pt), true⟩) ∧
    (∀ inn, w.run = true → 0 ≤ w.et → 0 ≤ dl →
      timerCall .tp w inn pt dl = ⟨min (w.et + dl) (max pt 0), decide (w.et + dl < pt) && w.q, inn, decide (w.et + dl < pt), true⟩) ∧
    (w.run = false → timerCall .tp w false pt dl = ⟨0, w.q, false, false, true⟩) := by
  refine ⟨fun hprimed hprev hrun => ?_, fun inn hrun _ _ => ?_, fun hrun => ?_⟩
  · by_cases hpt : 0 < pt <;> simp [timerCall, hprimed, hprev, hrun, hpt]
  · rcases lt_or_ge (w.et + dl) pt with hlt | hle
    · simp [timerCall, hrun, hlt, not_le.2 hlt]
    · simp [timerCall, hrun, hle, not_lt.2 hle]
  · simp [timerCall, hrun]

/-- Settles O43: the stored words read back as the timer, since ET and PT are 64-bit values; the table is `timerCall`'s case by case. -/
theorem shuttleTimers : Obligations.ShuttleTimers := by
  refine ⟨?_, fun w pt dl => ?_⟩
  · intro k t rd ra rb inst s i d x m new ⟨w, hw, hs⟩ hinst hrb hmay hok
    cases k with
    | ton =>
      obtain rfl : wordF 0x38 rd ra rb inst = w := (Prod.mk.inj (Option.some.inj hw)).2
      exact gives_timer rfl hs hinst hrb hmay hok
    | tof =>
      obtain rfl : wordF 0x39 rd ra rb inst = w := (Prod.mk.inj (Option.some.inj hw)).2
      exact gives_timer rfl hs hinst hrb hmay hok
    | tp =>
      obtain rfl : wordF 0x3A rd ra rb inst = w := (Prod.mk.inj (Option.some.inj hw)).2
      exact gives_timer rfl hs hinst hrb hmay hok
  · obtain ⟨hton, htonStart, htonRun⟩ := ton_table w pt dl
    obtain ⟨htof, htofFall, htofIdle, htofRun⟩ := tof_table w pt dl
    obtain ⟨htpRise, htpRun, htpIdle⟩ := tp_table w pt dl
    exact ⟨hton, htonStart, htonRun, htof, htofFall, htofIdle, htofRun, htpRise, htpRun, htpIdle⟩

end Sys2Proof.Machine

namespace Sys2Proof.Machine

/-! ## Counters (R242) -/

theorem trunc_trunc (w n : Nat) : trunc w (trunc w n) = trunc w n := Nat.mod_mod _ _

/-- Words stored, by the values that stand behind. -/
theorem Stored.readBack {t : Nat} {ws : List (Nat × Nat)} {d e : Dev} (h : Stored t ws d e) :
    Stored t (ws.map fun p => (p.1, varGet (bankOf t d) p.1 e)) d e := by
  obtain ⟨hbank, htwin, hrest⟩ := h
  have hval {p : Nat × Nat} (hp : p ∈ ws) : trunc 32 (varGet (bankOf t d) p.1 e) = trunc 32 p.2 := by rw [hbank p hp, trunc_trunc]
  unfold Stored
  simp only [List.forall_mem_map]
  refine ⟨fun p hp => ?_, fun hdual p hp c hc => ?_, hrest⟩
  · rw [hval hp, hbank p hp]
  · rw [hval hp, htwin hdual p hp c hc]

/-- The input has risen against its value at the previous call, bit `i` of word 2 (R242). -/
def risen (w2 clk i : Nat) : Bool := bit w2 4 && (clk != 0) && !bit w2 i

theorem risen_iff {w2 clk i : Nat} : risen w2 clk i = true ↔ clk ≠ 0 ∧ bit w2 4 = true ∧ bit w2 i = false := by
  simp only [risen, Bool.and_eq_true, bne_iff_ne, Bool.not_eq_true']
  tauto

theorem counterCv_range {k : CounterKind} {cv pv : Int} {i2 r1 r2 : Bool} {w3 : Nat} (hcv : -2 ^ 31 ≤ cv ∧ cv < 2 ^ 31) (hpv : -2 ^ 31 ≤ pv ∧ pv < 2 ^ 31) :
    -2 ^ 31 ≤ counterCv k cv pv i2 r1 r2 w3 ∧ counterCv k cv pv i2 r1 r2 w3 < 2 ^ 31 := by
  unfold counterCv
  simp only [satS32_eq]
  cases k with
  | up =>
    dsimp only
    split_ifs <;> omega
  | down =>
    dsimp only
    split_ifs <;> omega
  | both =>
    dsimp only
    split_ifs <;> omega

/-- The flags of a counter in its word 2. -/
theorem counterFlags (n : Nat) (q qd i1 i2 : Bool) :
    let v := trunc 32 (n / 32 * 32 + b2n q + 2 * b2n qd + 4 * b2n i1 + 8 * b2n i2 + 16)
    bit v 0 = q ∧ bit v 1 = qd ∧ bit v 2 = i1 ∧ bit v 3 = i2 ∧ bit v 4 = true := by
  have hq := b2n_le_one q
  have hqd := b2n_le_one qd
  have hi1 := b2n_le_one i1
  have hi2 := b2n_le_one i2
  have htrue : b2n true = 1 := rfl
  refine ⟨bit_trunc (by decide) ?_, bit_trunc (by decide) ?_, bit_trunc (by decide) ?_, bit_trunc (by decide) ?_, bit_trunc (by decide) ?_⟩ <;> omega

/-- What a counter's call leaves behind: CV, its flags, and its two words stored. -/
def Counted (t cyc : Nat) (x : TaskX) (ra rb inst : Nat) (n : Int) (q qd : Bool) (regs : List Nat) (d e : Dev) : Prop :=
  let v (i : Nat) : Nat := varGet (bankOf t d) (4 * inst + i) e
  toInt 32 (v 1) = n ∧ bit (v 2) 0 = q ∧ bit (v 2) 1 = qd ∧ bit (v 2) 2 = (xr x ra != 0) ∧ bit (v 2) 3 = (xr x rb != 0) ∧ bit (v 2) 4 = true ∧
  Ran t cyc { x with pc := x.pc + 1, regs := regs, log := (taskX t e).log } d e ∧ Stored t [(4 * inst + 1, v 1), (4 * inst + 2, v 2)] d e

section

variable {k : CounterKind} {op cyc t rd ra rb inst : Nat} {i : Instr} {s : State}

theorem gives_counter (hi : exec i s = counterOp op cyc k t rd ra rb inst s) (hs : Issues t (wordF op rd ra rb inst) s.dev) (hinst : inst < 2 ^ 13)
    (hrd : k = .both → rd < 15) (hmay : mayStoreAll t (4 * inst) 4 (turned t s.dev) = true) (hok : ImgOk s.dev) :
    let d := turned t s.dev
    let x := taskX t d
    let w (i : Nat) : Nat := varGet (bankOf t d) (4 * inst + i) d
    let n := counterCv k (toInt 32 (w 1)) (toInt 32 (w 0)) (xr x rb != 0) (risen (w 2) (xr x ra) 2) (risen (w 2) (xr x rb) 3) (w 3)
    let q := if k = .down then decide (n ≤ 0) else decide (toInt 32 (w 0) ≤ n)
    let qd := if k = .both then decide (n ≤ 0) else bit (w 2) 1
    let regs := x.regs.set rd (b2n q)
    Gives i s (Counted t cyc x ra rb inst n q qd (if k = .both then regs.set (rd + 1) (b2n qd) else regs) d) := by
  intro d x w n q qd regs
  let ws := [(4 * inst + 1, ofInt 32 n), (4 * inst + 2, w 2 / 32 * 32 + b2n q + 2 * b2n qd + 4 * b2n (xr x ra != 0) + 8 * b2n (xr x rb != 0) + 16)]
  let y : TaskX := { x with pc := x.pc + 1 }
  obtain ⟨l, hl⟩ := storeAll_notes t ws y d
  have hf : (if 2 ^ 13 ≤ inst ∨ (k = .both ∧ rd = 15) then Act.err 1 else if !mayStoreAll t (4 * inst) 4 d then .err 2
      else .done (if k = .both then setX (rd + 1) (b2n qd) (setX rd (b2n q) (storeAll t ws y d).1) else setX rd (b2n q) (storeAll t ws y d).1)
        (storeAll t ws y d).2 cyc)
      = .done { x with pc := x.pc + 1, regs := if k = .both then regs.set (rd + 1) (b2n qd) else regs, log := l } (storeAll t ws y d).2 cyc := by
    have hlegal : ¬(2 ^ 13 ≤ inst ∨ (k = .both ∧ rd = 15)) := by
      rintro (h | ⟨hk, h⟩)
      · omega
      · have := hrd hk
        omega
    rw [if_neg hlegal, if_neg (by simp [d, hmay]), hl]
    split_ifs <;> simp only [setX, trunc_b2n] <;> rfl
  have hrange : -2 ^ 31 ≤ n ∧ n < 2 ^ 31 := counterCv_range (toInt32_range _) (toInt32_range _)
  have hdistinct : Distinct t ws d :=
    distinct_of_nodup (imgOk_turned hok) (by simp [ws, d, mayStore_of_all hmay]) (by simp [ws])
  refine (gives_of_words hi hs hf (wordsOnly_storeAll ..) (by split_ifs <;> rfl)).imp fun e ⟨hran, hvars, _⟩ => ?_
  have hstored : Stored t ws d e := stored_of_storeAll hdistinct (.refl d) rfl hvars
  have hnotes : taskX t e = { x with pc := x.pc + 1, regs := if k = .both then regs.set (rd + 1) (b2n qd) else regs, log := l } := hran.1
  have hcv : varGet (bankOf t d) (4 * inst + 1) e = ofInt 32 n := (hstored.1 (4 * inst + 1, ofInt 32 n) (.head _)).trans (trunc_ofInt ..)
  have hword := hstored.1 _ (.tail _ (.head _))
  obtain ⟨h0, h1, h2, h3, h4⟩ := counterFlags (w 2) q qd (xr x ra != 0) (xr x rb != 0)
  dsimp only at hword
  refine ⟨?_, ?_, ?_, ?_, ?_, ?_, by rw [hnotes]; exact hran, hstored.readBack⟩
  · exact (congrArg (toInt 32) hcv).trans (toInt32_ofInt hrange)
  · exact (congrArg (bit · 0) hword).trans h0
  · exact (congrArg (bit · 1) hword).trans h1
  · exact (congrArg (bit · 2) hword).trans h2
  · exact (congrArg (bit · 3) hword).trans h3
  · exact (congrArg (bit · 4) hword).trans h4

end

/-- CV's rise and fall stop at the ends of INT32 (R242). -/
theorem satS_succ {cv : Int} (h : -2 ^ 31 ≤ cv ∧ cv < 2 ^ 31) : satS 32 (cv + 1) = min (2 ^ 31 - 1) (cv + 1) := by
  rw [satS32_eq]
  omega

theorem satS_pred {cv : Int} (h : -2 ^ 31 ≤ cv ∧ cv < 2 ^ 31) : satS 32 (cv - 1) = max (-2 ^ 31) (cv - 1) := by
  rw [satS32_eq]
  omega

theorem satS_self {cv : Int} (h : -2 ^ 31 ≤ cv ∧ cv < 2 ^ 31) : satS 32 cv = cv := by
  rw [satS32_eq]
  omega

section

variable {cv pv : Int} {i2 r1 r2 : Bool} {w3 : Nat}

theorem counterCv_up (h : -2 ^ 31 ≤ cv ∧ cv < 2 ^ 31) :
    (i2 = true → counterCv .up cv pv i2 r1 r2 w3 = 0) ∧ (i2 = false → r1 = true → counterCv .up cv pv i2 r1 r2 w3 = min (2 ^ 31 - 1) (cv + 1)) ∧
    (i2 = false → ¬r1 = true → counterCv .up cv pv i2 r1 r2 w3 = cv) := by
  rw [← satS_succ h]
  refine ⟨fun hi => ?_, fun hi hr => ?_, fun hi hr => ?_⟩ <;> simp [counterCv, *]

theorem counterCv_down (h : -2 ^ 31 ≤ cv ∧ cv < 2 ^ 31) :
    (i2 = true → counterCv .down cv pv i2 r1 r2 w3 = pv) ∧ (i2 = false → r1 = true → counterCv .down cv pv i2 r1 r2 w3 = max (-2 ^ 31) (cv - 1)) ∧
    (i2 = false → ¬r1 = true → counterCv .down cv pv i2 r1 r2 w3 = cv) := by
  rw [← satS_pred h]
  refine ⟨fun hi => ?_, fun hi hr => ?_, fun hi hr => ?_⟩ <;> simp [counterCv, *]

theorem counterCv_both (h : -2 ^ 31 ≤ cv ∧ cv < 2 ^ 31) :
    (bit w3 0 = true → counterCv .both cv pv i2 r1 r2 w3 = 0) ∧ (bit w3 0 = false → bit w3 1 = true → counterCv .both cv pv i2 r1 r2 w3 = pv) ∧
    (bit w3 0 = false → bit w3 1 = false →
      (r1 = true → ¬r2 = true → counterCv .both cv pv i2 r1 r2 w3 = min (2 ^ 31 - 1) (cv + 1)) ∧
      (r2 = true → ¬r1 = true → counterCv .both cv pv i2 r1 r2 w3 = max (-2 ^ 31) (cv - 1)) ∧
      ((r1 = true ↔ r2 = true) → counterCv .both cv pv i2 r1 r2 w3 = cv)) := by
  rw [← satS_succ h, ← satS_pred h]
  refine ⟨fun h0 => ?_, fun h0 h1 => ?_, fun h0 h1 => ⟨fun hr1 hr2 => ?_, fun hr2 hr1 => ?_, fun hr => ?_⟩⟩
  · simp [counterCv, h0]
  · simp [counterCv, h0, h1]
  · simp [counterCv, h0, h1, hr1, hr2]
  · simp [counterCv, h0, h1, hr1, hr2]
  · obtain rfl : r1 = r2 := Bool.eq_iff_iff.2 hr
    cases r1 <;> simp [counterCv, h0, h1, satS_self h]

end

/-! ## Edge detectors (R243) -/

/-- The flags of an edge detector in its word. -/
theorem edgeFlags (n : Nat) (clk : Bool) : let v := trunc 32 (n / 4 * 4 + b2n clk + 2); bit v 0 = clk ∧ bit v 1 = true := by
  have hclk := b2n_le_one clk
  have htrue : b2n true = 1 := rfl
  refine ⟨bit_trunc (by decide) ?_, bit_trunc (by decide) ?_⟩ <;> omega

theorem gives_edge {rise : Bool} {op t rd ra inst : Nat} {i : Instr} {s : State} (hi : exec i s = edgeOp op rise t rd ra 0 inst s)
    (hs : Issues t (wordF op rd ra 0 inst) s.dev) (hinst : inst < 2 ^ 13) (hmay : mayStore t (4 * inst) (turned t s.dev) = true) :
    let d := turned t s.dev
    let x := taskX t d
    let w := varGet (bankOf t d) (4 * inst) d
    let clk := xr x ra != 0
    let q := if rise then clk && !bit w 0 && bit w 1 else !clk && bit w 0 && bit w 1
    Gives i s fun e => let v := varGet (bankOf t d) (4 * inst) e
      bit v 0 = clk ∧ bit v 1 = true ∧ Ran t 3 { x with pc := x.pc + 1, regs := x.regs.set rd (b2n q), log := (taskX t e).log } d e ∧
      Stored t [(4 * inst, v)] d e := by
  intro d x w clk q
  let ws := [(4 * inst, w / 4 * 4 + b2n clk + 2)]
  let y : TaskX := { x with pc := x.pc + 1 }
  let prev := if bit w 1 then bit w 0 else clk
  obtain ⟨l, hl⟩ := storeAll_notes t ws y d
  have hq : (if rise then clk && !prev else !clk && prev) = q := by
    cases hprimed : bit w 1 <;> simp [q, prev, hprimed]
  have hf : (if 2 ^ 13 ≤ inst ∨ 0 ≠ 0 then Act.err 1 else if !mayStore t (4 * inst) d then .err 2
      else .done (setX rd (b2n (if rise then clk && !prev else !clk && prev)) (storeAll t ws y d).1) (storeAll t ws y d).2 3)
      = .done { x with pc := x.pc + 1, regs := x.regs.set rd (b2n q), log := l } (storeAll t ws y d).2 3 := by
    rw [if_neg (by omega), if_neg (by simp [d, hmay]), hl, hq, setX, trunc_b2n]
  refine (gives_of_words hi hs hf (wordsOnly_storeAll ..) rfl).imp fun e ⟨hran, hvars, _⟩ => ?_
  have hstored : Stored t ws d e := stored_of_storeAll (distinct_singleton ..) (.refl d) rfl hvars
  have hnotes : taskX t e = { x with pc := x.pc + 1, regs := x.regs.set rd (b2n q), log := l } := hran.1
  have hword := hstored.1 _ (.head _)
  obtain ⟨h0, h1⟩ := edgeFlags w clk
  exact ⟨(congrArg (bit · 0) hword).trans h0, (congrArg (bit · 1) hword).trans h1, by rw [hnotes]; exact hran, hstored.readBack⟩

/-- Settles O44: a call stores CV and its flags, which read back as given, in two words that share no cell; CV keeps to INT32. -/
theorem shuttleCounters : Obligations.ShuttleCounters := by
  intro t rd ra rb inst s d x w v r1 r2 cv pv up down counted hinst hok
  have hcv : -2 ^ 31 ≤ cv ∧ cv < 2 ^ 31 := toInt32_range _
  have hr1 : risen (w 2) (xr x ra) 2 = true ↔ r1 := risen_iff
  have hr2 : risen (w 2) (xr x rb) 3 = true ↔ r2 := risen_iff
  refine ⟨fun hs hmay => ?_, fun hs hmay => ?_, fun hs hmay hrd => ?_, fun i op q hop hs hmay => ?_⟩
  · refine (gives_counter (k := .up) rfl hs hinst nofun hmay hok).imp fun e ⟨hn, hq, _, h2, h3, h4, hran, hstored⟩ => ?_
    obtain ⟨hreset, hrise, hstay⟩ := counterCv_up (pv := pv) (i2 := xr x rb != 0) (r1 := risen (w 2) (xr x ra) 2) (r2 := risen (w 2) (xr x rb) 3) (w3 := w 3) hcv
    refine ⟨_, _, fun h => hreset (by simpa using h), fun h hr => hrise (by simpa using h) (hr1.2 hr), fun h hr => hstay (by simpa using h) (hr1.not.2 hr), ?_,
      hn, hq, h2, h3, h4, hran, hstored⟩
    exact decide_eq_true_iff
  · refine (gives_counter (k := .down) rfl hs hinst nofun hmay hok).imp fun e ⟨hn, hq, _, h2, h3, h4, hran, hstored⟩ => ?_
    obtain ⟨hload, hrise, hstay⟩ := counterCv_down (pv := pv) (i2 := xr x rb != 0) (r1 := risen (w 2) (xr x ra) 2) (r2 := risen (w 2) (xr x rb) 3) (w3 := w 3) hcv
    refine ⟨_, _, fun h => hload (by simpa using h), fun h hr => hrise (by simpa using h) (hr1.2 hr), fun h hr => hstay (by simpa using h) (hr1.not.2 hr), ?_,
      hn, hq, h2, h3, h4, hran, hstored⟩
    exact decide_eq_true_iff
  · refine (gives_counter (k := .both) rfl hs hinst (fun _ => hrd) hmay hok).imp fun e ⟨hn, hq, hqd, h2, h3, h4, hran, hstored⟩ => ?_
    obtain ⟨hreset, hload, hcount⟩ := counterCv_both (pv := pv) (i2 := xr x rb != 0) (r1 := risen (w 2) (xr x ra) 2) (r2 := risen (w 2) (xr x rb) 3) (w3 := w 3) hcv
    rw [hr1, hr2] at hcount
    refine ⟨_, _, hreset, hload, hcount, ?_, ?_, hn, hq, h2, h3, h4, hran, hstored⟩
    · exact decide_eq_true_iff
    · rw [hqd]
      exact decide_eq_true_iff
  · rcases hop with ⟨rfl, rfl, rfl⟩ | ⟨rfl, rfl, rfl⟩
    · exact gives_edge (rise := true) rfl hs hinst hmay
    · have hclk : (xr x ra == 0) = !(xr x ra != 0) := (Bool.not_not _).symm
      rw [hclk]
      exact gives_edge (i := .iFtrig t rd ra 0 inst) (rise := false) rfl hs hinst hmay

end Sys2Proof.Machine

namespace Sys2Proof.Machine

/-! ## Execution errors (R226, R238) -/

section

variable {i : Instr} {op cyc smax t rd ra rb sub : Nat} {useB : Bool} {even : List Nat} {f : TaskX → Alu}

/-- Format A with an unused field that is not 0. -/
theorem stopsOn_fields (hword : shuWord i = some (t, wordA op rd ra rb sub)) (hi : exec i = regOp op cyc smax useB even t rd ra rb sub f)
    (h : smax < sub ∨ (useB = false ∧ rb ≠ 0)) : StopsOn i 1 :=
  stopsOn_of_err hword hi (by decide) fun _ _ _ => if_pos h

/-- Format A with an odd register of a 64-bit operand. -/
theorem stopsOn_odd (hword : shuWord i = some (t, wordA op rd ra rb sub)) (hi : exec i = regOp op cyc smax useB even t rd ra rb sub f)
    (hlegal : sub ≤ smax ∧ (useB = false → rb = 0)) (h : ∃ k ∈ even, k % 2 = 1) : StopsOn i 4 := by
  obtain ⟨hsub, hrb⟩ := hlegal
  obtain ⟨k, hk, hodd⟩ := h
  have hfields : ¬(smax < sub ∨ (useB = false ∧ rb ≠ 0)) := by
    rintro (h | ⟨h, hne⟩)
    · omega
    · exact hne (hrb h)
  have hany : even.any (· % 2 == 1) = true := List.any_eq_true.2 ⟨k, hk, by simpa using hodd⟩
  exact stopsOn_of_err hword hi (by decide) fun _ _ _ => (if_neg hfields).trans (if_pos hany)

end

/-- END with an unused field that is not 0. -/
theorem endScan_of_fields {t : Nat} {w : Option Nat} {s : Dev} (h : Issues t w s) : endScan t w false s = scanError t 1 (turned t s) := by
  unfold endScan
  simp only [h.word, Bool.false_eq_true, if_false, if_neg h.not_reached, Bool.not_false, if_true]
  rfl

theorem stopsOn_end {t rd ra x imm : Nat} (h : rd ≠ 0 ∨ ra ≠ 0 ∨ x ≠ 0 ∨ imm ≠ 0) : StopsOn (.iEnd t rd ra x imm) 1 := by
  intro t' w s hw hs _
  obtain ⟨rfl, rfl⟩ : t = t' ∧ wordB 0x33 rd ra x imm = w := by simpa [shuWord] using hw
  obtain ⟨ht, heng, hrec, -⟩ := id hs
  have hlegal : (rd + ra + x + imm == 0) = false := by
    rw [beq_eq_false_iff_ne]
    omega
  have hexec : exec (.iEnd t rd ra x imm) s = .next { s with dev := endScan t (wordB 0x33 rd ra x imm) (rd + ra + x + imm == 0) s.dev } := rfl
  rw [hlegal, endScan_of_fields hs] at hexec
  obtain ⟨⟨hstate, hcause, hindex, hidle⟩, hfault⟩ := scanError_stands (cause := 1) ht heng hrec (by decide)
  exact ⟨_, hexec, rfl, rfl, rfl, hstate, hfault, hcause, hindex, hidle⟩

theorem addrB_eq_none {y : TaskX} {ra X imm : Nat} (h : (X = 0 ∧ ra ≠ 0) ∨ 1 < X) : addrB y ra X imm = none := by
  rcases h with ⟨rfl, h⟩ | h
  · exact (if_pos rfl).trans (if_neg h)
  · exact (if_neg (by omega)).trans (if_neg (by omega))

/-- An unused field that is not 0, or a variant that is none (R234, R238). -/
theorem stopsOn_of_unusedFields {i : Instr} (h : unusedFields i) : StopsOn i 1 := by
  unfold unusedFields at h
  split at h
  case h_1 | h_2 | h_3 | h_4 | h_5 | h_6 | h_7 | h_8 | h_9 | h_10 | h_11 | h_12 | h_13 | h_14 | h_15 =>
    exact stopsOn_fields rfl rfl (h.symm.imp Nat.pos_of_ne_zero (⟨rfl, ·⟩))
  case h_16 =>
    exact stopsOn_fields rfl rfl (h.symm.imp id (⟨rfl, ·⟩))
  case h_17 | h_18 | h_19 | h_20 | h_21 | h_22 | h_23 | h_24 | h_25 | h_26 | h_27 | h_28 | h_29 | h_30 | h_31 | h_32 | h_33 =>
    exact stopsOn_fields rfl rfl (.inl (Nat.pos_of_ne_zero h))
  case h_34 | h_35 | h_36 | h_37 | h_38 | h_39 =>
    exact stopsOn_fields rfl rfl (.inl h)
  case h_40 | h_41 =>
    exact stopsOn_of_err rfl rfl (by decide) fun _ _ _ => if_pos (by omega)
  case h_42 =>
    exact stopsOn_end h
  case h_43 | h_44 | h_45 | h_46 =>
    exact stopsOn_of_err rfl rfl (by decide) fun _ _ _ => by simp [addrB_eq_none h]
  case h_47 | h_48 | h_49 =>
    exact stopsOn_of_err rfl rfl (by decide) fun _ _ _ => if_pos h
  case h_50 | h_51 =>
    refine stopsOn_of_err rfl rfl (by decide) fun _ _ _ => ?_
    dsimp only
    split
    · rfl
    · exact if_pos h
  case h_52 | h_53 | h_54 =>
    exact stopsOn_of_err rfl rfl (by decide) fun _ _ _ => if_pos h
  case h_55 | h_56 | h_57 =>
    exact stopsOn_of_err rfl rfl (by decide) fun _ _ _ => if_pos (.inl h)
  case h_58 | h_59 =>
    exact stopsOn_of_err rfl rfl (by decide) fun _ _ _ => if_pos h.symm
  case h_60 =>
    exact h.elim

/-! ## Targets, addresses and the stack (R226, R228, R234, R236) -/

theorem targetC_eq_none {x : TaskX} {off : Nat} (h : (x.pc : Int) + toInt 18 off < 0 ∨ 65536 ≤ (x.pc : Int) + toInt 18 off) :
    targetC { x with pc := x.pc + 1 } off = none := by
  have hv : ((x.pc + 1 : Nat) : Int) - 1 + toInt 18 off = (x.pc : Int) + toInt 18 off := by omega
  unfold targetC
  simp only [hv]
  exact if_neg (by omega)

section

variable {t c rd ra rb X imm off inst : Nat}

theorem stopsOn_br_target : StopsOn (.iBr t c ra off) 1 fun x _ => (x.pc : Int) + toInt 18 off < 0 ∨ 65536 ≤ (x.pc : Int) + toInt 18 off :=
  stopsOn_of_err rfl rfl (by decide) fun _ _ h => by rw [targetC_eq_none h]

theorem stopsOn_call_target : StopsOn (.iCall t 0 0 off) 1 fun x _ => (x.pc : Int) + toInt 18 off < 0 ∨ 65536 ≤ (x.pc : Int) + toInt 18 off :=
  stopsOn_of_err rfl rfl (by decide) fun _ _ h => by rw [targetC_eq_none h]

theorem stopsOn_call_full : StopsOn (.iCall t 0 0 off) 3
    (fun x _ => 0 ≤ (x.pc : Int) + toInt 18 off ∧ (x.pc : Int) + toInt 18 off < 65536 ∧ 16 ≤ x.stack.length) := by
  refine stopsOn_of_err rfl rfl (by decide) fun x _ ⟨hlo, hhi, hfull⟩ => ?_
  rw [targetC_eq (Int.toNat_of_nonneg hlo).symm (by omega)]
  exact (if_neg (by simp)).trans (if_pos hfull)

theorem stopsOn_ret_empty : StopsOn (.iRet t 0 0 0 0) 3 (fun x _ => x.stack = []) :=
  stopsOn_of_err rfl rfl (by decide) fun _ _ h => by simp [h]

theorem stopsOn_ld : StopsOn (.iLd t rd ra X imm) 2 (fun x d => ∃ a, OperandAt x ra X imm a ∧ covered t a d = false) := by
  refine stopsOn_of_err rfl rfl (by decide) fun x d ⟨a, ha, hcov⟩ => ?_
  simp [addrB_of_operandAt ha, hcov]

theorem stopsOn_st : StopsOn (.iSt t rd ra X imm) 2 (fun x d => ∃ a, OperandAt x ra X imm a ∧ mayStore t a d = false) := by
  refine stopsOn_of_err rfl rfl (by decide) fun x d ⟨a, ha, hmay⟩ => ?_
  simp [addrB_of_operandAt ha, hmay]

theorem stopsOn_ldt : StopsOn (.iLdt t rd ra X imm) 2
    (fun x d => ∃ a, OperandAt x ra X imm a ∧ rd % 2 = 0 ∧ a % 2 = 0 ∧ (covered t a d = false ∨ covered t (a + 1) d = false)) := by
  refine stopsOn_of_err rfl rfl (by decide) fun x d ⟨a, ha, hrd, heven, hcov⟩ => ?_
  rcases hcov with hcov | hcov <;> simp [addrB_of_operandAt ha, hrd, heven, hcov]

theorem stopsOn_stt : StopsOn (.iStt t rd ra X imm) 2
    (fun x d => ∃ a, OperandAt x ra X imm a ∧ rd % 2 = 0 ∧ a % 2 = 0 ∧ (mayStore t a d = false ∨ mayStore t (a + 1) d = false)) := by
  refine stopsOn_of_err rfl rfl (by decide) fun x d ⟨a, ha, hrd, heven, hmay⟩ => ?_
  rcases hmay with hmay | hmay <;> simp [addrB_of_operandAt ha, hrd, heven, hmay]

theorem stopsOn_ldt_odd : StopsOn (.iLdt t rd ra X imm) 4 (fun x _ => ∃ a, OperandAt x ra X imm a ∧ (rd % 2 = 1 ∨ a % 2 = 1)) := by
  refine stopsOn_of_err rfl rfl (by decide) fun x d ⟨a, ha, hodd⟩ => ?_
  simp [addrB_of_operandAt ha, hodd]

theorem stopsOn_stt_odd : StopsOn (.iStt t rd ra X imm) 4 (fun x _ => ∃ a, OperandAt x ra X imm a ∧ (rd % 2 = 1 ∨ a % 2 = 1)) := by
  refine stopsOn_of_err rfl rfl (by decide) fun x d ⟨a, ha, hodd⟩ => ?_
  simp [addrB_of_operandAt ha, hodd]

theorem stopsOn_post : StopsOn (.iPost t rd ra 0 imm) 2 (fun x d => 2 < rd ∨ (rd = 0 ∧ 64 ≤ xr x ra) ∨ (rd = 1 ∧ 8 ≤ xr x ra) ∨ (rd = 2 ∧ 32 ≤ xr x ra) ∨
    ∃ i, i < (if rd = 0 then 8 else if rd = 1 then 30 else 4) ∧ covered t (imm + i) d = false) := by
  refine stopsOn_of_err rfl rfl (by decide) fun x d h => (if_neg (by simp)).trans (if_pos ?_)
  rcases h with h | ⟨rfl, h⟩ | ⟨rfl, h⟩ | ⟨rfl, h⟩ | ⟨i, hi, hcov⟩
  · exact .inl h
  · exact .inr (.inl h)
  · exact .inr (.inl h)
  · exact .inr (.inl h)
  · refine .inr (.inr fun hall => ?_)
    have := List.all_eq_true.1 hall i (List.mem_range.2 hi)
    simp [hcov] at this

theorem stopsOn_timer {i : Instr} {op : Nat} {k : TimerKind} (hinst : inst < 2 ^ 13) (hword : shuWord i = some (t, wordF op rd ra rb inst))
    (hi : exec i = timerOp op k t rd ra rb inst) :
    StopsOn i 4 (fun _ _ => rb % 2 = 1) ∧ StopsOn i 2 (fun _ d => rb % 2 = 0 ∧ mayStoreAll t (4 * inst) 8 d = false) := by
  refine ⟨stopsOn_of_err hword hi (by decide) fun _ _ hodd => ?_, stopsOn_of_err hword hi (by decide) fun _ _ ⟨heven, hmay⟩ => ?_⟩
  · exact (if_neg (by omega)).trans (if_pos hodd)
  · exact (if_neg (by omega)).trans ((if_neg (by omega)).trans (if_pos (by simp [hmay])))

theorem stopsOn_counter {i : Instr} {op cyc : Nat} {k : CounterKind} (hinst : inst < 2 ^ 13) (hrd : k = .both → rd < 15)
    (hword : shuWord i = some (t, wordF op rd ra rb inst)) (hi : exec i = counterOp op cyc k t rd ra rb inst) :
    StopsOn i 2 (fun _ d => mayStoreAll t (4 * inst) 4 d = false) := by
  refine stopsOn_of_err hword hi (by decide) fun _ _ hmay => (if_neg ?_).trans (if_pos (by simp [hmay]))
  rintro (h | ⟨hk, h⟩)
  · omega
  · have := hrd hk
    omega

theorem stopsOn_edge {i : Instr} {op : Nat} {rise : Bool} (hinst : inst < 2 ^ 13) (hword : shuWord i = some (t, wordF op rd ra 0 inst))
    (hi : exec i = edgeOp op rise t rd ra 0 inst) : StopsOn i 2 (fun _ d => mayStore t (4 * inst) d = false) :=
  stopsOn_of_err hword hi (by decide) fun _ _ hmay => (if_neg (by omega)).trans (if_pos (by simp [hmay]))

end

/-! ## Illegal words and the watchdog (R226, R238) -/

section

variable {t : Nat} {s : State}

theorem illegalOpcodeAt_eq {word : Nat} {d : Dev} (hruns : scanRuns t d = true)
    (hcode : codeAt t (taskX t d).pc d = none ∨ (codeAt t (taskX t d).pc d = some word ∧ listedOp (word / 2 ^ 26) = false))
    (hwatch : watchReached t (loomAt (shuEngX (taskEngine t d) (turned t d)).at_ (turned t d)) (turned t d) = false) :
    illegalOpcodeAt t word d = scanError t 1 (turned t d) := by
  have hreached : ¬watchReached t (loomAt (shuEngX (taskEngine t d) (engTake (taskEngine t d) t d)).at_ (engTake (taskEngine t d) t d))
      (engTake (taskEngine t d) t d) = true := by simpa [turned] using hwatch
  unfold illegalOpcodeAt
  rcases hcode with hnone | ⟨hsome, hunlisted⟩
  · simp only [hruns, hnone, Bool.not_true, Bool.false_eq_true, if_false, if_neg hreached]
    rfl
  · simp only [hruns, hsome, hunlisted, beq_self_eq_true, Bool.not_false, Bool.and_self, Bool.not_true, Bool.false_eq_true, if_false, if_neg hreached]
    rfl

theorem gives_illegalOpcode {word : Nat} (ht : t < 8) (heng : taskEngine t s.dev < 2) (hrec : (taskRec t s.dev).isSome = true)
    (hruns : scanRuns t s.dev = true)
    (hcode : codeAt t (taskX t s.dev).pc s.dev = none ∨ (codeAt t (taskX t s.dev).pc s.dev = some word ∧ listedOp (word / 2 ^ 26) = false))
    (hwatch : watchReached t (loomAt (shuEngX (taskEngine t s.dev) (turned t s.dev)).at_ (turned t s.dev)) (turned t s.dev) = false) :
    Gives (.illegalOpcode t word) s fun e =>
      get SHU_TASK_STATE_STATE t e = 4 ∧ get SHU_TASK_STATE_FAULT t e = 1 ∧ get SHU_TASK_PC_CAUSE t e = 1 ∧
      get SHU_TASK_PC_INDEX t e = (taskX t s.dev).pc % 65536 ∧ (taskX t e).live = false := by
  have hexec : exec (.illegalOpcode t word) s = .next { s with dev := illegalOpcodeAt t word s.dev } := rfl
  rw [illegalOpcodeAt_eq hruns hcode hwatch] at hexec
  obtain ⟨⟨hstate, hcause, hindex, hidle⟩, hfault⟩ := scanError_stands (cause := 1) ht heng hrec (by decide)
  exact ⟨_, hexec, rfl, rfl, rfl, hstate, hfault, hcause, hindex, hidle⟩

theorem gives_watchdogExpiry {dt : Nat} (ht : t < 8) (heng : taskEngine t s.dev < 2) (hrec : (taskRec t s.dev).isSome = true)
    (hlive : (taskX t s.dev).live = true) (hbroken : (taskX t s.dev).broken = false) (hhalt : s.dev.unit.halted = false)
    (hwatch : watchReached t (now (later dt s)) (later dt s) = true) : Gives (.watchdogExpiry dt t) s fun e =>
      get SHU_TASK_STATE_STATE t e = 4 ∧ get SHU_TASK_STATE_FAULT t e = 1 ∧ get SHU_TASK_PC_CAUSE t e = 5 ∧
      get SHU_TASK_PC_INDEX t e = (taskX t s.dev).pc % 65536 ∧ (taskX t e).live = false := by
  have hlater : SameTurns s.dev (later dt s) := ⟨rfl, rfl, rfl, fun _ => rfl⟩
  have hdue : (taskX t (later dt s)).live = true ∧ ¬(taskX t (later dt s)).broken = true ∧ ¬(later dt s).unit.halted = true ∧
      watchReached t (now (later dt s)) (later dt s) = true :=
    ⟨hlive, Bool.eq_false_iff.1 hbroken, Bool.eq_false_iff.1 hhalt, hwatch⟩
  have hexpiry : watchdogExpiryAt t (later dt s) = _ := if_pos hdue
  rw [gives_onDev_iff rfl, hexpiry]
  obtain ⟨⟨hstate, hcause, hindex, hidle⟩, hfault⟩ := turned_stands (code := 0x0902) (cause := 5) ht heng hrec (by decide)
    ((hlater.moveTo (shuEngX (taskEngine t (later dt s)) (later dt s)).at_).ite (p := (shuEngX (taskEngine t (later dt s)) (later dt s)).cur = t + 1) hlater)
    (by split <;> rfl)
  exact ⟨hstate, hfault, hcause, hindex, hidle⟩

end

/-- Settles O45: an execution error ends the scan, the registers of the stopped task take STOP, CAUSE and index, and nothing that follows on the same
edge (outputs, the fault, breakpoints of other tasks) writes them. The order of the checks, which R238 leaves open, is the model's. -/
theorem shuttleErrors : Obligations.ShuttleErrors := by
  refine ⟨fun _ => stopsOn_of_unusedFields, fun _ _ _ _ => stopsOn_br_target, fun _ _ => stopsOn_call_target,
    fun _ _ _ _ _ => ⟨stopsOn_ld, stopsOn_st, stopsOn_ldt, stopsOn_stt, stopsOn_ldt_odd, stopsOn_stt_odd, stopsOn_post⟩, ?_,
    fun _ _ => stopsOn_call_full, fun _ => stopsOn_ret_empty, ?_, fun _ _ _ => gives_illegalOpcode, fun _ _ _ => gives_watchdogExpiry⟩
  · intro t rd ra rb inst hinst
    refine ⟨?_, ?_, ?_⟩
    · rintro i (rfl | rfl | rfl)
      · exact stopsOn_timer hinst rfl rfl
      · exact stopsOn_timer hinst rfl rfl
      · exact stopsOn_timer hinst rfl rfl
    · rintro i (rfl | rfl | ⟨rfl, hrd⟩)
      · exact stopsOn_counter (k := .up) hinst nofun rfl rfl
      · exact stopsOn_counter (k := .down) hinst nofun rfl rfl
      · exact stopsOn_counter (k := .both) hinst (fun _ => hrd) rfl rfl
    · rintro i (rfl | rfl)
      · exact stopsOn_edge (rise := true) hinst rfl rfl
      · exact stopsOn_edge (rise := false) hinst rfl rfl
  · refine fun t rd ra rb => ⟨fun h => ?_, fun h sub hsub => ?_, fun h => ⟨?_, ?_⟩, fun h => ?_, fun h => ?_⟩
    · exact stopsOn_odd rfl rfl (by simp) (by simpa using h)
    · exact stopsOn_odd rfl rfl ⟨hsub, nofun⟩ (by simpa using h)
    · exact stopsOn_odd rfl rfl (by simp) (by simpa using h)
    · exact stopsOn_odd rfl rfl (by simp) (by simpa using h)
    · exact stopsOn_odd rfl rfl (by simp) (by simpa using h)
    · exact stopsOn_odd rfl rfl (by simp) (by simpa using h)

end Sys2Proof.Machine
